-- ==== Sys2Proof/Word.lean ====
section
/-! DEFINITION. The word types of the block and the three-channel product.

Dictionary values are held as integers (the exact value that a KDP read returns); bits of a value are taken with the
helpers of `Machine/Bits.lean`. -/

namespace Sys2Proof

/-- A 16-bit word of a frame (R5). -/
abbrev Word := BitVec 16

/-- One byte. -/
abbrev Byte := BitVec 8

/-- A channel die (R8). -/
inductive Ch where
  | chA
  | chB
  | chC
deriving DecidableEq, Repr, Inhabited

/-- The channel's number in register layouts: 0 = A, 1 = B, 2 = C. -/
def Ch.num : Ch → Nat
  | .chA => 0
  | .chB => 1
  | .chC => 2

/-- The channel that a register field names: 0 = A, 1 = B, 2 = C; 3 names none. -/
def Ch.ofNum? : Nat → Option Ch
  | 0 => some .chA
  | 1 => some .chB
  | 2 => some .chC
  | _ => none

/-- The three channels in the order A, B, C. -/
def Ch.all : List Ch := [.chA, .chB, .chC]

/-- The next channel in the ring A, B, C. -/
def Ch.next : Ch → Ch
  | .chA => .chB
  | .chB => .chC
  | .chC => .chA

/-- The channel before in the ring: the one that arms a channel's slots (R253). -/
def Ch.before : Ch → Ch
  | .chA => .chC
  | .chB => .chA
  | .chC => .chB

/-- The two peers of a channel. -/
def Ch.peers (c : Ch) : List Ch := Ch.all.filter fun d => d != c

/-- A host port (R91, R92). -/
inductive Port where
  | p0
  | p1
deriving DecidableEq, Repr, Inhabited

/-- The port's number: 0 = P0, 1 = P1. -/
def Port.num : Port → Nat
  | .p0 => 0
  | .p1 => 1

/-- The other port. -/
def Port.other : Port → Port
  | .p0 => .p1
  | .p1 => .p0

/-- One value per channel (R61, R62). -/
structure Trio (α : Type) where
  a : α
  b : α
  c : α
deriving DecidableEq, Repr, Inhabited

namespace Trio
variable {α β : Type}

/-- The value of channel `c`. -/
def get (t : Trio α) : Ch → α
  | .chA => t.a
  | .chB => t.b
  | .chC => t.c

/-- `t` with channel `c`'s value replaced. -/
def set (t : Trio α) (c : Ch) (v : α) : Trio α :=
  match c with
  | .chA => { t with a := v }
  | .chB => { t with b := v }
  | .chC => { t with c := v }

/-- `t` with channel `c`'s value changed by `f`. -/
def upd (t : Trio α) (c : Ch) (f : α → α) : Trio α := t.set c (f (t.get c))

/-- The same value in every channel. -/
def all (v : α) : Trio α := ⟨v, v, v⟩

/-- Every channel's value changed by `f`. -/
def map (t : Trio α) (f : α → β) : Trio β := ⟨f t.a, f t.b, f t.c⟩

@[simp] theorem get_set_self (t : Trio α) (c : Ch) (v : α) : (t.set c v).get c = v := by
  cases c <;> rfl

theorem get_set_of_ne (t : Trio α) {c d : Ch} (v : α) (h : d ≠ c) : (t.set c v).get d = t.get d := by
  cases c <;> cases d <;> first | rfl | exact absurd rfl h

@[simp] theorem get_all (v : α) (c : Ch) : (all v).get c = v := by
  cases c <;> rfl

@[simp] theorem get_map (t : Trio α) (f : α → β) (c : Ch) : (t.map f).get c = f (t.get c) := by
  cases c <;> rfl

end Trio

end Sys2Proof
end

