-- ==== Sys2Proof/Frames.lean ====
section
/-! DEFINITION. The values that commands bring from outside: carriers, frames, samples and reports.

A layout that the spec gives byte by byte (KDP frames, cyclic frames) travels as bytes; content that the spec gives
only by its fields travels as a record of those fields (log entry 3). -/

namespace Sys2Proof

/-- Where a KDP request arrives (R68, R87, R88). -/
inductive Carrier where
  | p0
  | p1
  | can0
  | can1
  | can2
  | proxy
deriving DecidableEq, Repr, Inhabited

/-- The host port of a carrier, if it is one. -/
def Carrier.port? : Carrier → Option Port
  | .p0 => some .p0
  | .p1 => some .p1
  | _ => none

/-- The CAN port number of a carrier, if it is one. -/
def Carrier.can? : Carrier → Option Nat
  | .can0 => some 0
  | .can1 => some 1
  | .can2 => some 2
  | _ => none

/-- The carrier of a host port. -/
def Port.carrier : Port → Carrier
  | .p0 => .p0
  | .p1 => .p1

/-- A number for each carrier, used as a table key and as WHO of R442. -/
def Carrier.num : Carrier → Nat
  | .p0 => 0
  | .p1 => 1
  | .can0 => 2
  | .can1 => 3
  | .can2 => 4
  | .proxy => 5

/-- What a frame carries around its content on a host lane (R95 to R97) or a CAN port (R86): the Ethernet frame's length
from the destination address to the frame check sequence, its IEEE 802.1Q and 802.1CB tags, the VID of the former, whether
it has an 802.1ad service tag, whether it is an IP fragment, the IP version, and the UDP port or CAN identifier it is
sent to. -/
structure FrameHdr where
  length : Nat := 0
  qTags : Nat := 0
  vid : Nat := 0
  cbTags : Nat := 0
  service : Bool := false
  fragment : Bool := false
  v6 : Bool := false
  port : Nat := 0
deriving DecidableEq, Repr, Inhabited

/-- A digest frame (R301): SEQ, DIGEST, ARMRB (byte 8) and FLAGS (byte 9). -/
structure DigFrame where
  seq : Nat
  digest : Nat
  armrb : Nat
  flags : Nat
deriving DecidableEq, Repr, Inhabited

/-- A loop sample: code, status bits of R132 and the device time of the window end (R130). -/
structure LoopSample where
  code : Int
  status : Nat
  time : Nat
deriving DecidableEq, Repr, Inhabited

/-- The classes of cross-strap frame (R11), class 1 first. -/
inductive StrapClass where
  | digest
  | samples
  | time
  | placement
  | copy
deriving DecidableEq, Repr, Inhabited

/-- The three cross-strap links (R11, R14). -/
inductive Link where
  | ab
  | bc
  | ca
deriving DecidableEq, Repr, Inhabited

/-- A position source as AX_FB_SOURCE names it (R154, R188). -/
inductive SourceKind where
  | port
  | sensor
  | resolver
deriving DecidableEq, Repr, Inhabited

/-- What one sample shows of an input pin (R155): the raw level, and the consecutive samples on which it has been seen, this
one included. -/
structure PinSample where
  level : Bool
  samples : Nat
deriving DecidableEq, Repr, Inhabited

/-- One SENT frame as received (R168): its calibration pulse in units of 0.01 µs, its nibbles (status, data, CRC) by their
lengths in ticks, and whether a pause pulse followed. -/
structure SentFrame where
  calib : Nat
  nibbleTicks : List Nat
  pause : Bool
deriving DecidableEq, Repr, Inhabited

/-- A move description for remote members (R285): start tick, per member slot the axis of a
remote member (none for a local one), the start point and the distance, the lead's slot and limits, and the deceleration
of a stop (0 for a move). -/
structure MoveDesc where
  group : Nat
  start : Nat
  axes : List (Option Nat)
  s : List Int
  d : List Int
  lead : Nat
  /-- the speed that the lead carries over (R282) -/
  vx : Int
  vm : Int
  acc : Int
  dec : Int
  stop : Int
deriving DecidableEq, Repr, Inhabited

/-- A value on its way to an object: number or bytes. -/
inductive Val where
  | num (v : Int)
  | bytes (b : List Byte)
deriving DecidableEq, Repr, Inhabited

/-- A received HELLO (R368): its payload fields. -/
structure Hello where
  uid : Nat
  address : Nat
  position : Nat
  laneMap : Nat
  flags : Nat
  timePriority : Nat
  lastHeard : Nat
deriving DecidableEq, Repr, Inhabited

/-- One lane record of a link-state advertisement (R373). -/
structure LsaRec where
  nbr : Nat
  localLane : Nat
  remoteLane : Nat
  cost : Nat
deriving DecidableEq, Repr, Inhabited

/-- A link-state advertisement: the fields of R373, and the node's UID and time priority, which R371, R384 and R389
take from LSAs (log entry 9). -/
structure Lsa where
  node : Nat
  uid : Nat
  seq : Nat
  timePriority : Nat
  recs : List LsaRec
deriving DecidableEq, Repr, Inhabited

/-- A pairing request (R391). -/
structure PairReq where
  uid : Nat
  peerUid : Nat
  preferred : Bool
  digest : Nat
  random : List Byte
deriving DecidableEq, Repr, Inhabited

/-- A received health report (R411): the ten fields of 0xF101. -/
structure Report where
  uid : Nat
  redund : Nat
  score : Nat
  spare : Nat
  twinState : Nat
  epoch : Nat
  faults : Nat
  sliceAge : Nat
  sliceFails : Nat
  time : Nat
deriving DecidableEq, Repr, Inhabited

/-- What a margin read of an MRAM block shows (R464). -/
inductive BlockRead where
  | good
  | weak
  /-- unreadable at normal margin; content held alike in every channel -/
  | lostShared
  /-- unreadable at normal margin; content of the summary slot -/
  | lostSummary (slot : Nat)
deriving DecidableEq, Repr, Inhabited

/-- Retained data in which the scrubber found an uncorrectable word (R462). -/
inductive RetainBlock where
  | feedback
  | trims
  | engine (e : Nat)
deriving DecidableEq, Repr, Inhabited

end Sys2Proof
end

