-- ==== Sys2Proof/Syntax.lean ====
section
/-! DEFINITION. The commands of the block: one constructor per row of spec/opcode_table.json.

The table gives no operand fields (log entry 1). The first operand of every command is the device time at which it
occurs, in ticks of 3.33 ns; the others are what the rule of the row reads from outside: the channel or instance it
concerns, the carrier of a request, a value, a received frame. -/

namespace Sys2Proof

/-- A command to the block. -/
inductive Instr where
  -- 01 architecture and time
  | crossStrapFrame (t : Nat) (rx tx : Ch) (cls : StrapClass) (crcOk : Bool) (skew : Int) (payload : List Byte)
  | crossStrapLinkFail (t : Nat) (l : Link)
  | crossStrapLinkRestored (t : Nat) (l : Link)
  | clockMonitorFault (t : Nat) (c : Ch)
  | dramFault (t : Nat) (c : Ch) (addr : Nat)
  | dramEccError (t : Nat) (c : Ch) (block : Nat) (correctable : Bool)
  | timeSourceLock (t : Nat) (offset rate : Int) (traceable : Bool)
  | timeSourceLoss (t : Nat)
  | timeSourceReturn (t : Nat) (offset rate : Int) (traceable : Bool)
  | channelSkewMaxRead (t : Nat) (cr : Carrier)
  | deviceTimeRead (t : Nat) (cr : Carrier)
  -- 03 dictionary and KDP
  | commitInstant (t : Nat)
  | configWrite (t : Nat) (cr : Carrier) (index sub : Nat) (v : Val)
  | kdpRequestCopy (t : Nat) (cr : Carrier) (c : Ch) (h : FrameHdr) (frame : List Byte)
  | kdpRequestAgreed (t : Nat) (cr : Carrier) (frame : List Byte)
  | kdpCopyWindowExpiry (t : Nat) (cr : Carrier) (frame : List Byte)
  | readExp (t : Nat) (cr : Carrier) (tid : Nat)
  | writeExp (t : Nat) (cr : Carrier) (tid : Nat)
  | readSegInit (t : Nat) (cr : Carrier) (tid : Nat)
  | writeSegInit (t : Nat) (cr : Carrier) (tid : Nat)
  | segmentRead (t : Nat) (cr : Carrier) (tid : Nat)
  | segmentWrite (t : Nat) (cr : Carrier) (tid : Nat)
  | groupWrite (t : Nat) (cr : Carrier) (tid : Nat)
  | abortTransfer (t : Nat) (cr : Carrier) (tid : Nat)
  | kdpTransferTimeout (t : Nat) (cr : Carrier) (index sub : Nat)
  | kdpStallResume (t : Nat) (cr : Carrier) (tid : Nat)
  | kdpWakeTimeout (t : Nat) (cr : Carrier) (tid : Nat)
  | kdpProxyResponse (t : Nat) (cr : Carrier) (tid code detail : Nat) (last : Bool) (data : List Byte)
  | kdpProxyTimeout (t : Nat) (cr : Carrier) (tid : Nat)
  | storeAll (t : Nat) (cr : Carrier) (v : Int)
  | storeComplete (t : Nat)
  | restoreDefaults (t : Nat) (cr : Carrier) (v : Int)
  -- 04 host ports and the Sluice
  | hostLaneLinkChange (t : Nat) (c : Ch) (p : Port) (aligned control : Bool)
  | arpRequest (t : Nat) (c : Ch) (p : Port) (h : FrameHdr) (ip : Nat)
  | neighbourSolicitation (t : Nat) (c : Ch) (p : Port) (h : FrameHdr) (ip : List Byte)
  | icmpEchoRequest (t : Nat) (c : Ch) (p : Port) (h : FrameHdr) (data : List Byte)
  | asGrandmasterLoss (t : Nat) (p : Port)
  | asTimeReceive (t : Nat) (c : Ch) (p : Port) (quality ident : Nat) (offset : Int)
  | cyclicCommandFrame (t : Nat) (c : Ch) (p : Port) (h : FrameHdr) (frame : List Byte)
  | cyclicFrameAgreed (t : Nat) (p : Port) (frame : List Byte)
  | cyclicAgreeFail (t : Nat) (p : Port) (frame : List Byte)
  | cycleBoundary (t : Nat) (p : Port)
  | cyclicStatusFrame (t : Nat) (p : Port)
  | portSilent (t : Nat) (p : Port)
  | sluiceAcquire (t : Nat) (cr : Carrier) (g : Fin 16)
  | sluiceRelease (t : Nat) (cr : Carrier) (g : Fin 16)
  | leaseExpiry (t : Nat) (g : Fin 16)
  | holdTimeExpiry (t : Nat) (g : Fin 16)
  -- 05 sensing
  | converterResult (t : Nat) (c : Ch) (n : Fin 20) (nv : Int)
  | loopSample (t : Nat) (c : Ch) (n : Fin 20) (nv : Int) (ovrg : Bool)
  | overrangeOnset (t : Nat) (c : Ch) (n : Fin 20) (positive : Bool)
  | overrangeClear (t : Nat) (c : Ch) (n : Fin 20)
  | settlingEnd (t : Nat) (c : Ch) (n : Fin 20)
  | referenceBufferFault (t : Nat) (c : Ch) (m : Fin 5) (outside : Option Nat)
  | cvResultRead (t : Nat) (cr : Carrier) (c : Ch) (n : Fin 20)
  | cvSampleRead (t : Nat) (cr : Carrier) (c : Ch) (n : Fin 20)
  | cvStatusClear (t : Nat) (cr : Carrier) (c : Ch) (n : Fin 20) (v : Int)
  | diagScanStep (t : Nat) (c : Ch) (k : Fin 2) (x : Int)
  | diagInject (t : Nat) (cr : Carrier) (c : Ch) (k : Fin 2) (v : Int)
  | injectedConversionDone (t : Nat) (c : Ch) (k : Fin 2) (x : Int)
  | calRequest (t : Nat) (cr : Carrier) (c : Ch) (v : Int)
  | calibrationStart (t : Nat) (c : Ch) (n : Fin 20)
  | calibrationDone (t : Nat) (c : Ch) (n : Fin 20) (offset gain : Int) (bufferOk : Bool)
  | calWaitTimeout (t : Nat) (c : Ch) (n : Fin 20)
  -- 06 position feedback
  | fpEdgeAccepted (t : Nat) (c : Ch) (n : Fin 8) (a b z : PinSample)
  | comparePulseEnd (t : Nat) (c : Ch) (n : Fin 8)
  | cmpControl (t : Nat) (cr : Carrier) (c : Ch) (n : Fin 8) (e : Fin 16) (v : Int)
  | axHomeNextIndex (t : Nat) (cr : Carrier) (n : Fin 32)
  | axHomeNow (t : Nat) (cr : Carrier) (n : Fin 32)
  | axHomeCancel (t : Nat) (cr : Carrier) (n : Fin 32)
  | fpPreset (t : Nat) (cr : Carrier) (c : Ch) (n : Fin 8) (v : Int)
  | spPreset (t : Nat) (cr : Carrier) (c : Ch) (n : Fin 6) (v : Int)
  | fpStatusClear (t : Nat) (cr : Carrier) (c : Ch) (n : Fin 8) (v : Int)
  | spStatusClear (t : Nat) (cr : Carrier) (c : Ch) (n : Fin 6) (v : Int)
  | sentFrame (t : Nat) (c : Ch) (n : Fin 6) (f : SentFrame)
  | psi5SyncRequest (t : Nat) (c : Ch) (n : Fin 6)
  | psi5Frame (t : Nat) (c : Ch) (n : Fin 6) (startBit : Nat) (rate : Fin 2) (bits : List Bool)
  | sourceLost (t : Nat) (c : Ch) (n : Fin 6)
  | resolverSample (t : Nat) (c : Ch) (k : Fin 3) (sin cos : Int) (ovS ovC : Bool)
  | axisLatch (t : Nat) (n : Fin 32)
  | axExtrapPosRead (t : Nat) (cr : Carrier) (n : Fin 32)
  -- 07 engines and traces
  | iterationRelease (t : Nat) (k : Fin 512)
  | taskIteration (t : Nat) (c : Ch) (k : Fin 512) (errs : List Int)
  | inputLost (t : Nat) (c : Ch) (k : Fin 512)
  | feFault (t : Nat) (c : Ch) (k : Fin 512)
  | bankSelect (t : Nat) (cr : Carrier) (k : Fin 512) (v : Int)
  | bankSwap (t : Nat) (k : Fin 512)
  | axFaultClear (t : Nat) (cr : Carrier) (n : Fin 32) (v : Int)
  | feMaxRead (t : Nat) (cr : Carrier) (k : Fin 512)
  | maxExecRead (t : Nat) (cr : Carrier) (k : Fin 512)
  | traceArm (t : Nat) (cr : Carrier) (k : Fin 512)
  | traceStop (t : Nat) (cr : Carrier) (k : Fin 512)
  | traceHostTrigger (t : Nat) (cr : Carrier) (k : Fin 512)
  | traceRelease (t : Nat) (cr : Carrier) (k : Fin 512)
  | traceCrossTrigger (t : Nat) (k : Fin 512) (src : Fin 512)
  | traceAbort (t : Nat) (k : Fin 512) (cause : Nat)
  -- 08 bridges
  | pwmValley (t : Nat) (c : Ch) (k : Fin 4)
  | pwmPeak (t : Nat) (c : Ch) (k : Fin 4)
  | pwmCounterStart (t : Nat) (c : Ch) (k : Fin 4)
  | pwmGridChange (t : Nat) (c : Ch) (k : Fin 4)
  | dqIteration (t : Nat) (c : Ch) (k : Fin 512) (errs : List Int)
  | stallTimeout (t : Nat) (n : Fin 32)
  | overcurrentTrip (t : Nat) (c : Ch) (k : Fin 4)
  | axTorqueEnableOn (t : Nat) (cr : Carrier) (n : Fin 32)
  | axTorqueEnableOff (t : Nat) (cr : Carrier) (n : Fin 32)
  | enRise (t : Nat) (c : Ch) (k : Fin 4)
  | enFall (t : Nat) (c : Ch) (k : Fin 4)
  | armChange (t : Nat) (c : Ch) (k : Fin 4)
  | armrbQualified (t : Nat) (c : Ch) (k : Fin 4)
  | gspiTransfer (t : Nat) (c : Ch) (p : Fin 2) (rx : Nat)
  | gdInitCheck (t : Nat) (c : Ch) (k : Fin 4)
  | gdInitRetry (t : Nat) (c : Ch) (k : Fin 4)
  | gdPollRound (t : Nat) (c : Ch) (k : Fin 4)
  -- 09 profiles and groups
  | profileTick (t : Nat)
  | pgTarget (t : Nat) (cr : Carrier) (n : Fin 32) (v : Int)
  | standstillReached (t : Nat) (n : Fin 32)
  | pgStop (t : Nat) (cr : Carrier) (n : Fin 32)
  | pgQuickStop (t : Nat) (cr : Carrier) (n : Fin 32)
  | agStop (t : Nat) (cr : Carrier) (g : Fin 16)
  | agQuickStop (t : Nat) (cr : Carrier) (g : Fin 16)
  | agForceTotal (t : Nat) (cr : Carrier) (g : Fin 16) (v : Int)
  | memberLoss (t : Nat) (g : Fin 16) (remote : Nat)
  | memberRegain (t : Nat) (g : Fin 16)
  | remoteMoveStart (t : Nat) (g : Fin 16)
  | moveDescription (t : Nat) (g : Fin 16) (d : MoveDesc)
  | moveConfirmation (t : Nat) (g : Fin 16)
  -- 10 voting
  | checkpoint (t : Nat) (k : Fin 512)
  | digestFrame (t : Nat) (rx tx : Ch) (k : Fin 514) (f : DigFrame)
  | vote (t : Nat) (k : Fin 514)
  | voteResult (t : Nat) (rx tx : Ch) (k : Fin 514) (m : Trio Bool)
  | reseedCopy (t : Nat) (c : Ch) (k : Fin 512)
  | arbitrationConfirm (t : Nat) (cands : Trio Bool)
  | arbitrationTimeout (t : Nat)
  | twinSupervisionReport (t : Nat) (k : Fin 512) (misses : Nat)
  | ssBoundExpiry (t : Nat)
  | passiveRequest (t : Nat) (cr : Carrier) (v : Int)
  | axRedundMode (t : Nat) (cr : Carrier) (n : Fin 32) (v : Int)
  | debugAccessOpen (t : Nat) (c : Ch)
  | engineHalt (t : Nat) (c : Ch) (e : Fin 16)
  | comparatorInjection (t : Nat) (flagged : Trio Nat)
  | injectionRepeat (t : Nat) (flagged : Trio Nat)
  -- 11 placement
  | planInstant (t : Nat)
  | snapshotVote (t : Nat) (flip : Trio Nat)
  | planComputed (t : Nat) (flip : Trio Nat)
  | planVote (t : Nat)
  | planRetry (t : Nat)
  | planRequestReplan (t : Nat) (cr : Carrier)
  | planRequestStatic (t : Nat) (cr : Carrier)
  | scoreReport (t : Nat)
  | scoreDecay (t : Nat)
  | healthAgeReached (t : Nat)
  | sliceRequest (t : Nat) (c : Ch) (e : Fin 16)
  | sliceAbort (t : Nat) (c : Ch) (e : Fin 16)
  -- 12 fabric
  | fabricLaneAlignmentLoss (t : Nat) (c : Ch) (l : Fin 4)
  | fabricLaneAligned (t : Nat) (c : Ch) (l : Fin 4) (at0 at35 at6 : Bool)
  | helloSend (t : Nat) (c : Ch) (l : Fin 4)
  | helloReceive (t : Nat) (c : Ch) (l : Fin 4) (h : Hello)
  | helloTimeout (t : Nat) (c : Ch) (l : Fin 4)
  | addressConflictEnd (t : Nat)
  | fabricFrameReceive (t : Nat) (c : Ch) (l : Fin 4) (frame : List Byte) (good : Bool)
  | laneSuspendEnd (t : Nat) (c : Ch) (l : Fin 4)
  | lsaOriginate (t : Nat) (c : Ch)
  | lsaReceive (t : Nat) (c : Ch) (l : Fin 4) (lsa : Lsa) (head : List Byte) (tag : Option (List Byte))
  | lsaExpiry (t : Nat) (c : Ch) (node : Fin 255)
  | pathDegradedTimeout (t : Nat) (c : Ch) (s : Fin 4096)
  | fabricStateExchange (t : Nat)
  | fabNodeAddr (t : Nat) (cr : Carrier) (v : Int)
  | streamSend (t : Nat) (s : Fin 4096) (dest : Fin 255) (payload : List Byte)
  | dataFrameAccept (t : Nat) (c : Ch)
  | payloadAgreed (t : Nat) (s : Fin 4096) (src : Fin 255) (seq : Nat)
  | fabricAgreeFail (t : Nat) (s : Fin 4096) (src : Fin 255) (seq : Nat)
  | messageContinuationTimeout (t : Nat) (c : Ch) (s : Fin 4096) (src : Fin 255)
  | fabAuthKeyWrite (t : Nat) (cr : Carrier) (slot : Fin 2) (key : List Byte)
  | timeSyncSend (t : Nat)
  | timeSyncReceive (t : Nat) (c : Ch) (l : Fin 4) (master : Nat) (offset : Int) (correction : Nat)
  | pdelayReq (t : Nat) (c : Ch) (l : Fin 4) (received : Bool)
  | pdelayResp (t : Nat) (c : Ch) (l : Fin 4) (delay : Nat)
  | timeMasterChange (t : Nat)
  | fabricDiscoveryEnd (t : Nat)
  -- 13 twin
  | twinPair (t : Nat) (cr : Carrier)
  | pairingRequestSend (t : Nat)
  | pairingRequestReceive (t : Nat) (r : PairReq)
  | pairingLapse (t : Nat)
  | twinUnpair (t : Nat) (cr : Carrier)
  | unpairRequestReceive (t : Nat)
  | twinForcedUnpair (t : Nat) (cr : Carrier)
  | heartbeatSend (t : Nat)
  | heartbeatReceive (t : Nat) (c : Ch) (src : Fin 255) (payload : List Byte)
  | heartbeatCheck (t : Nat) (c : Ch)
  | twinLossReport (t : Nat)
  | twinHandshakeEnd (t : Nat)
  | eligible (t : Nat)
  | quietWindowMet (t : Nat)
  | handbackAt (t : Nat)
  | mirrorReceive (t : Nat) (entries : List (Nat × Int))
  | healthReportSend (t : Nat)
  | healthReportReceive (t : Nat) (r : Report)
  | healthReportTimeout (t : Nat)
  | spareTakeover (t : Nat)
  -- 14 safety
  | safeInputSample (t : Nat) (c : Ch) (i : Fin 6) (a b : Bool)
  | discrepancy (t : Nat) (c : Ch) (i : Fin 6)
  | siMode (t : Nat) (cr : Carrier) (c : Ch) (i : Fin 6) (v : Int)
  | siDiscMaxRead (t : Nat) (cr : Carrier) (c : Ch) (i : Fin 6)
  | offPulseStart (t : Nat) (c : Ch) (j : Fin 8)
  | offPulseEnd (t : Nat) (c : Ch) (j : Fin 8) (readback : Bool)
  | readbackMismatch (t : Nat) (c : Ch) (j : Fin 8)
  | offPulseRetest (t : Nat) (c : Ch) (j : Fin 8) (readback : Bool)
  | permitUntested (t : Nat) (c : Ch) (j : Fin 8)
  | frstPulse (t : Nat) (c : Ch) (rise : Nat) (initial : Bool)
  | pinReset (t : Nat)
  | faultResetWrite (t : Nat) (cr : Carrier) (v : Int)
  | resetStuck (t : Nat) (pin : Option (Ch × Nat))
  | pwEnter (t : Nat) (cr : Carrier) (pw : List Byte)
  | pwNew (t : Nat) (cr : Carrier) (pw : List Byte)
  | pwLock (t : Nat) (cr : Carrier) (v : Int)
  | unlockIdleExpiry (t : Nat) (cr : Carrier)
  | lockoutEnd (t : Nat)
  | clClear (t : Nat) (cr : Carrier) (v : Int)
  | supplyFault (t : Nat) (c : Ch) (rail : Fin 5) (mv since : Nat)
  -- 15 power
  | napEntry (t : Nat) (c : Ch) (e : Fin 16)
  | napWake (t : Nat) (c : Ch) (e : Fin 16)
  | retainIdleExpiry (t : Nat)
  | parkIdleExpiry (t : Nat)
  | pwrRequestRetain (t : Nat) (cr : Carrier)
  | pwrRequestPark (t : Nat) (cr : Carrier)
  | sleepReevaluation (t : Nat)
  | sleepEntry (t : Nat)
  | wakeEvent (t : Nat) (c : Ch) (code : Fin 9)
  | comUp (t : Nat)
  | domainWake (t : Nat)
  | scrubPass (t : Nat) (c : Ch) (corrected : Nat) (lost : List RetainBlock)
  | mramRefreshBlock (t : Nat) (c : Ch) (r : BlockRead)
  | plRequest (t : Nat) (cr : Carrier) (c : Ch) (v : Int)
  | vddcSettled (t : Nat) (c : Ch)
  | plVoltTimeout (t : Nat) (c : Ch)
  | domainMode (t : Nat) (cr : Carrier) (d : Fin 6) (v : Int)
  | refuserMapRead (t : Nat) (cr : Carrier)
  | pwrStatusRead (t : Nat) (cr : Carrier)
  | domainLastRead (t : Nat) (cr : Carrier) (d : Fin 6)
  -- 16 self-test and life cycle
  | powerUpBist (t : Nat) (c : Ch) (engines : Nat) (common : Bool) (memories : Nat) (repairs duration : Nat)
  | rotationStart (t : Nat) (c : Ch)
  | slice (t : Nat) (c : Ch) (pass : Bool)
  | rotationLate (t : Nat) (c : Ch)
  | rotationMaxRead (t : Nat) (cr : Carrier)
  | lcRequest (t : Nat) (cr : Carrier) (v : Int)
  | jtagScanOpen (t : Nat) (c : Ch)
  | debugPermit (t : Nat) (cr : Carrier) (v : Int)
  -- 17 sediment record
  | sedimentTrigger (t : Nat) (c : Ch) (cause : Fin 5)
  | pfailAssert (t : Nat) (c : Ch)
  | sedTrigger (t : Nat) (cr : Carrier) (v : Int)
  | sedRelease (t : Nat) (cr : Carrier) (v : Int)
  | summaryBlockWrite (t : Nat) (c : Ch)
  | summaryComplete (t : Nat) (c : Ch)
  | suppressionWindowEnd (t : Nat)
  | commonAreaUpdate (t : Nat)
  | sedimentTraceSample (t : Nat) (c : Ch)
  | dramReady (t : Nat)
  -- 18 start-up
  | porstRelease (t : Nat) (c : Ch) (straps : Nat) (imageOk : Bool) (badBlocks : List (Nat × Nat))
  | pllLock (t : Nat) (c : Ch)
  | porstNAssert (t : Nat) (c : Ch)
  | meetWaitLimit (t : Nat)
  | startupExit (t : Nat)
  | startupDeadline (t : Nat)
deriving DecidableEq, Repr, Inhabited

end Sys2Proof
end

