-- ==== Sys2Proof/Machine/Crc.lean ====
section
/-! DEFINITION. Cyclic redundancy checks: CRC-32C (R299), CRC-32 (R362) and the CRC-16 of R105. -/

namespace Sys2Proof.Machine

/-- One bit of a reflected 32-bit CRC with polynomial `p`. -/
def crcBit (p c : Nat) : Nat := if c % 2 = 1 then Nat.xor (c / 2) p else c / 2

/-- Eight bits of a reflected CRC. -/
def crcByte (p c : Nat) (b : Byte) : Nat :=
  (List.range 8).foldl (fun c _ => crcBit p c) (Nat.xor c b.toNat)

/-- CRC-32C: polynomial 0x1EDC6F41 processed reflected, initial value and final XOR 0xFFFFFFFF (R299). -/
def crc32c (l : List Byte) : Nat := Nat.xor (l.foldl (crcByte 0x82F63B78) 0xFFFFFFFF) 0xFFFFFFFF

/-- CRC-32 of IEEE 802.3: polynomial 0x04C11DB7, reflected, initial value and final XOR 0xFFFFFFFF (R362). -/
def crc32 (l : List Byte) : Nat := Nat.xor (l.foldl (crcByte 0xEDB88320) 0xFFFFFFFF) 0xFFFFFFFF

/-- One bit of the CRC-16 with polynomial 0x1021, most significant bit first. -/
def crc16Bit (c : Nat) : Nat := if 0x8000 ≤ c then Nat.xor ((c * 2) % 65536) 0x1021 else c * 2

/-- One byte of the CRC-16. -/
def crc16Byte (c : Nat) (b : Byte) : Nat :=
  (List.range 8).foldl (fun c _ => crc16Bit c) (Nat.xor c (b.toNat * 256))

/-- CRC-16 with polynomial 0x1021, initial value 0xFFFF, not reflected, no final XOR (R105). -/
def crc16 (l : List Byte) : Nat := l.foldl crc16Byte 0xFFFF

end Sys2Proof.Machine
end

