-- ==== Sys2Proof/Machine/Bits.lean ====
section
/-! DEFINITION. Bits and fields of register values, and the narrowing of exact integers (R5 to R7, R194, R195). -/

namespace Sys2Proof.Machine

/-- Bit `n` of a register value. -/
def bit (v : Int) (n : Nat) : Bool := (v / 2 ^ n) % 2 == 1

/-- `v` with bit `n` set to `b`. -/
def withBit (v : Int) (n : Nat) (b : Bool) : Int :=
  if bit v n = b then v else if b then v + 2 ^ n else v - 2 ^ n

/-- The field of `w` bits whose lowest bit is bit `lo`. -/
def field (v : Int) (lo w : Nat) : Nat := ((v / 2 ^ lo) % 2 ^ w).toNat

/-- `v` with the field of `w` bits at bit `lo` replaced by `x`. -/
def withField (v : Int) (lo w : Nat) (x : Nat) : Int :=
  v - (field v lo w : Int) * 2 ^ lo + ((x % 2 ^ w : Nat) : Int) * 2 ^ lo

/-- 1 for true, 0 for false. -/
def b2i (b : Bool) : Int := if b then 1 else 0

/-- 1 for true, 0 for false. -/
def b2n (b : Bool) : Nat := if b then 1 else 0

/-- The signed 32-bit value with the low 32 bits of `x`. -/
def signed32 (x : Int) : Int := (x + 2 ^ 31) % 2 ^ 32 - 2 ^ 31

/-- The signed 16-bit value with the low 16 bits of `x`. -/
def signed16 (x : Int) : Int := (x + 2 ^ 15) % 2 ^ 16 - 2 ^ 15

/-- The unsigned 32-bit value with the low 32 bits of `x`. -/
def wrapU32 (x : Int) : Int := x % 2 ^ 32

/-- `x` clamped to `lo .. hi`. -/
def clamp (lo hi x : Int) : Int := max lo (min hi x)

/-- sat32 of R194. -/
def sat32 (x : Int) : Int := clamp (-2147483648) 2147483647 x

/-- Saturation to an unsigned 16-bit value. -/
def satU16 (x : Int) : Int := clamp 0 65535 x

/-- The sign of an integer: -1, 0 or 1. -/
def sgn (x : Int) : Int := if x < 0 then -1 else if x = 0 then 0 else 1

/-- The number of set bits among the low `n` bits. -/
def popcount (v : Int) : Nat → Nat
  | 0 => 0
  | n + 1 => b2n (bit v n) + popcount v n

/-- The middle of three values. -/
def median3 (x y z : Int) : Int := max (min x y) (min (max x y) z)

/-- `a / b` rounded to the nearest integer, ties away from zero (R194, R242, R277); 0 for `b = 0`. -/
def divRound (a b : Int) : Int :=
  let q : Int := ((2 * a.natAbs + b.natAbs) / (2 * b.natAbs) : Nat)
  if b = 0 then 0 else if (a < 0) = (b < 0) then q else -q

/-- `a / b` rounded upward, for `b > 0`. -/
def divCeil (a b : Int) : Int := -((-a) / b)

/-- The signed 64-bit value with the low 64 bits of `x`. -/
def signed64 (x : Int) : Int := (x + 2 ^ 63) % 2 ^ 64 - 2 ^ 63

/-- The largest integer whose square does not exceed `n` (R243), by bisection between `lo` and `hi`. -/
def isqrtIn : Nat → Nat → Nat → Nat → Nat
  | 0, _, lo, _ => lo
  | k + 1, n, lo, hi =>
    let m := (lo + hi + 1) / 2
    if m * m ≤ n then isqrtIn k n m hi else isqrtIn k n lo (m - 1)

/-- isqrt of R243, for arguments below 2^64. -/
def isqrt (n : Int) : Int := (isqrtIn 34 n.toNat 0 4294967296 : Nat)

/-- The little-endian bytes of a natural number, `n` of them (R5, R64). -/
def leBytes : Nat → Nat → List Byte
  | 0, _ => []
  | n + 1, v => BitVec.ofNat 8 v :: leBytes n (v / 256)

/-- The natural number of little-endian bytes. -/
def ofLeBytes : List Byte → Nat
  | [] => 0
  | b :: r => b.toNat + 256 * ofLeBytes r

/-- The little-endian bytes of an integer's two's complement, `n` of them. -/
def leBytesInt (n : Nat) (v : Int) : List Byte := leBytes n (v % 2 ^ (8 * n)).toNat

end Sys2Proof.Machine
end

