-- ==== Sys2Proof/Config.lean ====
section
/-! DEFINITION. What a manufactured part fixes and what the spec leaves open.

Every constant here is opaque: no proof can see a value, so a statement that holds holds whatever the value is. The log
entry that names each constant stands in its docstring. -/

namespace Sys2Proof

/-- DEVICE_UID, set in MFG (R3). DESIGN CHOICE, log entry 4: a constant of the part, no value known. -/
opaque Config.deviceUidWord : BitVec 64

/-- DEVICE_UID as a register value. -/
def Config.deviceUid : Nat := Config.deviceUidWord.toNat

/-- The decimal digits of MICROCODE_VERSION, per release (R3). DESIGN CHOICE, log entry 4. -/
opaque Config.microcodeDigits : Vector (Fin 10) 14

/-- How those digits divide into major, minor and patch (R3). DESIGN CHOICE, log entry 4. -/
opaque Config.microcodeSplit : Nat × Nat × Nat

/-- MICROCODE_VERSION in the form major.minor.patch, at most 16 characters (R3). -/
def Config.microcodeVersion : List Byte :=
  let d := Config.microcodeDigits.toList.map fun x => BitVec.ofNat 8 (0x30 + x.val)
  let a := 1 + Config.microcodeSplit.1 % 12
  let b := 1 + Config.microcodeSplit.2.1 % (13 - a)
  let c := 1 + Config.microcodeSplit.2.2 % (14 - a - b)
  d.take a ++ 0x2E :: ((d.drop a).take b ++ 0x2E :: (d.drop (a + b)).take c)

/-- The 16 bytes of PW_SALT, set in MFG (R438, R446). DESIGN CHOICE, log entry 4. -/
opaque Config.pwSalt : Vector Byte 16

/-- How PORT_MAC of port `p` derives from DEVICE_UID (R99 gives no formula). DESIGN CHOICE, log entry 5. -/
opaque Config.portMac (uid p : Nat) : Vector Byte 6

/-- How the link-local PORT_IPV6_ADDR derives from PORT_MAC (R99 gives no formula). DESIGN CHOICE, log entry 5. -/
opaque Config.portIpv6 (mac : List Byte) : Vector Byte 16

/-- A value that the spec does not fix, fresh at each use: `n` is the state's counter of used values.
DESIGN CHOICE, log entry 6. -/
opaque Config.freeValue (n : Nat) : Nat

/-- The 16 random bytes of the n-th pairing request (R391). DESIGN CHOICE, log entry 6. -/
opaque Config.pairingRandom (n : Nat) : Vector Byte 16

/-- The 16-bit word offset of the i-th state word within a task's state, by task type (R299 names it, and no rule gives
the layout). DESIGN CHOICE, log entry 12. -/
opaque Config.stateOffset (ty i : Nat) : BitVec 16

end Sys2Proof
end

