-- ==== Sys2Proof/Machine/Obj.lean ====
section
/-! DEFINITION. The dictionary objects of the chapters' object tables (R56, R62), one definition per object.

An object is its key (index times 256 plus subindex) and its default value. A definition takes the instance numbers of
the object's index expression; a per-channel object takes its channel first. The text of this file follows the object
tables of spec/00 to spec/18, row by row. -/

namespace Sys2Proof.Machine

/-- A dictionary object: where it is stored and the value an unwritten copy reads as. -/
structure Obj where
  key : Nat
  dflt : Int
deriving DecidableEq, Repr

/-- The index of an object's key. -/
def Obj.index (o : Obj) : Nat := o.key / 256

/-- The subindex of an object's key. -/
def Obj.sub (o : Obj) : Nat := o.key % 256

/-- 0x1008:00 DEVICE_NAME: VISIBLE_STRING, CONST (00, R3). -/
def Obj.deviceName : Obj := ⟨(0x1008) * 256 + (0x00), 0⟩

/-- 0x100A:00 MICROCODE_VERSION: VISIBLE_STRING, RO (00, R3). -/
def Obj.microcodeVersion : Obj := ⟨(0x100A) * 256 + (0x00), 0⟩

/-- 0x1018:01 VENDOR_ID: UINT32, CONST (00, R3). -/
def Obj.vendorId : Obj := ⟨(0x1018) * 256 + (0x01), 54298⟩

/-- 0x1018:02 PRODUCT_CODE: UINT32, CONST (00, R3). -/
def Obj.productCode : Obj := ⟨(0x1018) * 256 + (0x02), 18532⟩

/-- 0x1018:03 STEPPING_CODE: UINT32, CONST (00, R3). -/
def Obj.steppingCode : Obj := ⟨(0x1018) * 256 + (0x03), 2⟩

/-- 0x1018:04 DEVICE_UID: UINT64, CONST (00, R3). -/
def Obj.deviceUid : Obj := ⟨(0x1018) * 256 + (0x04), Config.deviceUid⟩

/-- 0xF010:01 DEVICE_TIME: TIME64, RO (01, R29). -/
def Obj.deviceTime : Obj := ⟨(0xF010) * 256 + (0x01), 0⟩

/-- 0xF010:02 TIME_STATUS: UINT16, RO (01, R29). -/
def Obj.timeStatus : Obj := ⟨(0xF010) * 256 + (0x02), 0⟩

/-- 0xF010:03 TIME_OFFSET: INT32, RO (01, R29). -/
def Obj.timeOffset : Obj := ⟨(0xF010) * 256 + (0x03), 0⟩

/-- 0xF010:04 TIME_RATE_ADJ: INT32, RO (01, R29). -/
def Obj.timeRateAdj : Obj := ⟨(0xF010) * 256 + (0x04), 0⟩

/-- 0xF010:05 CHANNEL_SKEW_MAX: UINT16, RO (01, R29). -/
def Obj.channelSkewMax : Obj := ⟨(0xF010) * 256 + (0x05), 0⟩

/-- 0xF020:00 STRAP_STATUS: UINT16, RO (02, R46). -/
def Obj.strapStatus : Obj := ⟨(0xF020) * 256 + (0x00), 0⟩

/-- 0xF021:00 STRAP_NID_A: UINT16, RO (02, R46). -/
def Obj.strapNidA : Obj := ⟨(0xF021) * 256 + (0x00), 0⟩

/-- 0xF022:00 STRAP_NID_B: UINT16, RO (02, R46). -/
def Obj.strapNidB : Obj := ⟨(0xF022) * 256 + (0x00), 0⟩

/-- 0xF023:00 STRAP_NID_C: UINT16, RO (02, R46). -/
def Obj.strapNidC : Obj := ⟨(0xF023) * 256 + (0x00), 0⟩

/-- 0x1010:01 STORE_ALL: UINT32, WO (03, R90). -/
def Obj.storeAll : Obj := ⟨(0x1010) * 256 + (0x01), 0⟩

/-- 0x1011:01 RESTORE_DEFAULTS: UINT32, RWS (03, R90). -/
def Obj.restoreDefaults : Obj := ⟨(0x1011) * 256 + (0x01), 0⟩

/-- 0x1200:01 KDP_UDP_PORT: UINT16, RWS (03, R90). -/
def Obj.kdpUdpPort : Obj := ⟨(0x1200) * 256 + (0x01), 48620⟩

/-- 0x1200:02 KDP_TIMEOUT: UINT16, RW (03, R90). -/
def Obj.kdpTimeout : Obj := ⟨(0x1200) * 256 + (0x02), 10⟩

/-- 0x1200:03 KDP_COPY_WINDOW: UINT16, RW (03, R90). -/
def Obj.kdpCopyWindow : Obj := ⟨(0x1200) * 256 + (0x03), 200⟩

/-- 0x1200:04 KDP_REPLAY_TIME: UINT16, RW (03, R90). -/
def Obj.kdpReplayTime : Obj := ⟨(0x1200) * 256 + (0x04), 100⟩

/-- 0x1200:05 KDP_SEG_SIZE_UDP: UINT16, RW (03, R90). -/
def Obj.kdpSegSizeUdp : Obj := ⟨(0x1200) * 256 + (0x05), 1024⟩

/-- 0x1210+n:01 KDP_CAN_ENABLE: BOOL, RWS (03, R90). -/
def Obj.kdpCanEnable (n : Nat) : Obj := ⟨(0x1210 + n) * 256 + (0x01), 0⟩

/-- 0x1210+n:02 KDP_CAN_REQ_ID: UINT32, RWS (03, R90). -/
def Obj.kdpCanReqId (n : Nat) : Obj := ⟨(0x1210 + n) * 256 + (0x02), 1600⟩

/-- 0x1210+n:03 KDP_CAN_RSP_BASE: UINT32, RWS (03, R90). -/
def Obj.kdpCanRspBase (n : Nat) : Obj := ⟨(0x1210 + n) * 256 + (0x03), 1472⟩

/-- 0x1210+n:04 KDP_CAN_FORMAT: UINT16, RWS (03, R90). -/
def Obj.kdpCanFormat (n : Nat) : Obj := ⟨(0x1210 + n) * 256 + (0x04), 0⟩

/-- 0x1210+n:05 KDP_CAN_RATES: UINT16, RWS (03, R90). -/
def Obj.kdpCanRates (n : Nat) : Obj := ⟨(0x1210 + n) * 256 + (0x05), 258⟩

/-- 0x1210+n:06 KDP_CAN_SAFETY_WRITE: BOOL, RWS (03, R90). -/
def Obj.kdpCanSafetyWrite (n : Nat) : Obj := ⟨(0x1210 + n) * 256 + (0x06), 0⟩

/-- 0x1220:01 KDP_PROXY_ENABLE: BOOL, RW (03, R90). -/
def Obj.kdpProxyEnable : Obj := ⟨(0x1220) * 256 + (0x01), 1⟩

/-- 0x1220:02 KDP_PROXY_STREAM: UINT16, RWS (03, R90). -/
def Obj.kdpProxyStream : Obj := ⟨(0x1220) * 256 + (0x02), 3840⟩

/-- 0x1230:01 KDP_FRAMES_DISCARDED: UINT32, RO (03, R90). -/
def Obj.kdpFramesDiscarded : Obj := ⟨(0x1230) * 256 + (0x01), 0⟩

/-- 0x1230:02 KDP_AGREE_FAILURES: UINT32, RO (03, R90). -/
def Obj.kdpAgreeFailures : Obj := ⟨(0x1230) * 256 + (0x02), 0⟩

/-- 0x1230:03 KDP_ABORTS_SENT: UINT32, RO (03, R90). -/
def Obj.kdpAbortsSent : Obj := ⟨(0x1230) * 256 + (0x03), 0⟩

/-- 0x1230:04 KDP_REPLAYS: UINT32, RO (03, R90). -/
def Obj.kdpReplays : Obj := ⟨(0x1230) * 256 + (0x04), 0⟩

/-- 0x1100:01 HOST_LANE_ENABLE: UINT16, RWS (04, R93). -/
def Obj.hostLaneEnable : Obj := ⟨(0x1100) * 256 + (0x01), 63⟩

/-- 0x1100:02 HOST_LANE_STATUS: UINT16, RO (04, R93). -/
def Obj.hostLaneStatus : Obj := ⟨(0x1100) * 256 + (0x02), 0⟩

/-- 0x1100:03 SGMII_AN_ENABLE: BOOL, RW (04, R93). -/
def Obj.sgmiiAnEnable : Obj := ⟨(0x1100) * 256 + (0x03), 1⟩

/-- 0x1110+p:01 PORT_MAC: OCTET_STRING, RWS (04, R99). -/
def Obj.portMac (p : Nat) : Obj := ⟨(0x1110 + p) * 256 + (0x01), 0⟩

/-- 0x1110+p:02 PORT_IP_MODE: UINT16, RWS (04, R99). -/
def Obj.portIpMode (p : Nat) : Obj := ⟨(0x1110 + p) * 256 + (0x02), 0⟩

/-- 0x1110+p:03 PORT_IPV4_ADDR: UINT32, RWS (04, R99). -/
def Obj.portIpv4Addr (p : Nat) : Obj := ⟨(0x1110 + p) * 256 + (0x03), 0xC0A8300A + p⟩

/-- 0x1110+p:04 PORT_IPV4_PREFIX: UINT16, RWS (04, R99). -/
def Obj.portIpv4Prefix (p : Nat) : Obj := ⟨(0x1110 + p) * 256 + (0x04), 24⟩

/-- 0x1110+p:05 PORT_IPV6_ADDR: OCTET_STRING, RWS (04, R99). -/
def Obj.portIpv6Addr (p : Nat) : Obj := ⟨(0x1110 + p) * 256 + (0x05), 0⟩

/-- 0x1110+p:06 PORT_VLAN_ID: UINT16, RWS (04, R99). -/
def Obj.portVlanId (p : Nat) : Obj := ⟨(0x1110 + p) * 256 + (0x06), 0⟩

/-- 0x1110+p:07 PORT_VLAN_PCP: UINT16, RW (04, R99). -/
def Obj.portVlanPcp (p : Nat) : Obj := ⟨(0x1110 + p) * 256 + (0x07), 5⟩

/-- 0x1110+p:08 CB_STRIP: BOOL, RW (04, R99). -/
def Obj.cbStrip (p : Nat) : Obj := ⟨(0x1110 + p) * 256 + (0x08), 1⟩

/-- 0x1110+p:09 AS_ENABLE: BOOL, RW (04, R99). -/
def Obj.asEnable (p : Nat) : Obj := ⟨(0x1110 + p) * 256 + (0x09), 0⟩

/-- 0x1110+p:0A CYCLIC_UDP_PORT: UINT16, RWS (04, R99). -/
def Obj.cyclicUdpPort (p : Nat) : Obj := ⟨(0x1110 + p) * 256 + (0x0A), 48621⟩

/-- 0x1120+p:01 CYCLIC_ENABLE: BOOL, RW (04, R113). -/
def Obj.cyclicEnable (p : Nat) : Obj := ⟨(0x1120 + p) * 256 + (0x01), 0⟩

/-- 0x1120+p:02 CYCLE_TIME: UINT16, RWP (04, R113). -/
def Obj.cycleTime (p : Nat) : Obj := ⟨(0x1120 + p) * 256 + (0x02), 1000⟩

/-- 0x1120+p:03 CYCLIC_COPY_WINDOW: UINT16, RW (04, R113). -/
def Obj.cyclicCopyWindow (p : Nat) : Obj := ⟨(0x1120 + p) * 256 + (0x03), 20⟩

/-- 0x1120+p:04 STATUS_OFFSET: UINT16, RW (04, R113). -/
def Obj.statusOffset (p : Nat) : Obj := ⟨(0x1120 + p) * 256 + (0x04), 20⟩

/-- 0x1120+p:05 PORT_SILENT_TIME: UINT16, RW (04, R113). -/
def Obj.portSilentTime (p : Nat) : Obj := ⟨(0x1120 + p) * 256 + (0x05), 50⟩

/-- 0x1120+p:06 CMD_MAP_SIGNATURE: UINT16, RO (04, R113). -/
def Obj.cmdMapSignature (p : Nat) : Obj := ⟨(0x1120 + p) * 256 + (0x06), 0⟩

/-- 0x1120+p:07 STATUS_MAP_SIGNATURE: UINT16, RO (04, R113). -/
def Obj.statusMapSignature (p : Nat) : Obj := ⟨(0x1120 + p) * 256 + (0x07), 0⟩

/-- 0x1120+p:08 PORT_STATUS: UINT16, RO (04, R113). -/
def Obj.portStatus (p : Nat) : Obj := ⟨(0x1120 + p) * 256 + (0x08), 0⟩

/-- 0x1130+p:01 CYC_APPLIED: UINT32, RO (04, R113). -/
def Obj.cycApplied (p : Nat) : Obj := ⟨(0x1130 + p) * 256 + (0x01), 0⟩

/-- 0x1130+p:02 CYC_LATE: UINT32, RO (04, R113). -/
def Obj.cycLate (p : Nat) : Obj := ⟨(0x1130 + p) * 256 + (0x02), 0⟩

/-- 0x1130+p:03 CYC_OVERTAKEN: UINT32, RO (04, R113). -/
def Obj.cycOvertaken (p : Nat) : Obj := ⟨(0x1130 + p) * 256 + (0x03), 0⟩

/-- 0x1130+p:04 CYC_STALE: UINT32, RO (04, R113). -/
def Obj.cycStale (p : Nat) : Obj := ⟨(0x1130 + p) * 256 + (0x04), 0⟩

/-- 0x1130+p:05 CYC_DISCARDED: UINT32, RO (04, R113). -/
def Obj.cycDiscarded (p : Nat) : Obj := ⟨(0x1130 + p) * 256 + (0x05), 0⟩

/-- 0x1130+p:06 CYC_AGREE_FAIL: UINT32, RO (04, R113). -/
def Obj.cycAgreeFail (p : Nat) : Obj := ⟨(0x1130 + p) * 256 + (0x06), 0⟩

/-- 0x1130+p:07 CYC_ENTRIES_DENIED: UINT32, RO (04, R113). -/
def Obj.cycEntriesDenied (p : Nat) : Obj := ⟨(0x1130 + p) * 256 + (0x07), 0⟩

/-- 0x2400:(g+1) SLUICE_AGg: UINT16, RW (04, R121). -/
def Obj.sluiceAg (g : Nat) : Obj := ⟨(0x2400) * 256 + (0x01 + g), 0⟩

/-- 0x2401:00 SLUICE_SUMMARY: UINT32, RO (04, R121). -/
def Obj.sluiceSummary : Obj := ⟨(0x2401) * 256 + (0x00), 0⟩

/-- 0x2402:00 SLUICE_FAIR: UINT16, RO (04, R121). -/
def Obj.sluiceFair : Obj := ⟨(0x2402) * 256 + (0x00), 0⟩

/-- 0x2410+g:01 LEASE_TIME: UINT16, RWS (04, R121). -/
def Obj.leaseTime (g : Nat) : Obj := ⟨(0x2410 + g) * 256 + (0x01), 20⟩

/-- 0x2410+g:02 HOLD_TIME: UINT16, RWS (04, R121). -/
def Obj.holdTime (g : Nat) : Obj := ⟨(0x2410 + g) * 256 + (0x02), 50⟩

/-- 0x2410+g:03 LEASE_EXPIRIES: UINT32, RO (04, R121). -/
def Obj.leaseExpiries (g : Nat) : Obj := ⟨(0x2410 + g) * 256 + (0x03), 0⟩

/-- 0x4000+n:01 CV_ENABLE: BOOL, RWP (05, R149). -/
def Obj.cvEnable (c : Ch) (n : Nat) : Obj := ⟨(0x4000 + 0x100 * c.num + n) * 256 + (0x01), 1⟩

/-- 0x4000+n:02 SINC_ORDER: UINT16, RWP (05, R149). -/
def Obj.sincOrder (c : Ch) (n : Nat) : Obj := ⟨(0x4000 + 0x100 * c.num + n) * 256 + (0x02), (if n ≥ 18 then 3 else 2)⟩

/-- 0x4000+n:03 DECIM_RATIO: UINT16, RWP (05, R149). -/
def Obj.decimRatio (c : Ch) (n : Nat) : Obj := ⟨(0x4000 + 0x100 * c.num + n) * 256 + (0x03), (if n ≥ 18 then 256 else 64)⟩

/-- 0x4000+n:04 CV_SLOT_BIND: UINT16, RWP (05, R149). -/
def Obj.cvSlotBind (c : Ch) (n : Nat) : Obj := ⟨(0x4000 + 0x100 * c.num + n) * 256 + (0x04), (if n ≤ 11 then (n / 3 : Nat) else 0xFF)⟩

/-- 0x4000+n:05 WINDOW_ALIGN: UINT16, RWP (05, R149). -/
def Obj.windowAlign (c : Ch) (n : Nat) : Obj := ⟨(0x4000 + 0x100 * c.num + n) * 256 + (0x05), 0⟩

/-- 0x4000+n:06 CAL_OFFSET: INT16, RO (05, R149). -/
def Obj.calOffset (c : Ch) (n : Nat) : Obj := ⟨(0x4000 + 0x100 * c.num + n) * 256 + (0x06), 0⟩

/-- 0x4000+n:07 CAL_GAIN: UINT16, RO (05, R149). -/
def Obj.calGain (c : Ch) (n : Nat) : Obj := ⟨(0x4000 + 0x100 * c.num + n) * 256 + (0x07), 32768⟩

/-- 0x4020+n:01 CV_RESULT: INT16, RO (05, R150). -/
def Obj.cvResult (c : Ch) (n : Nat) : Obj := ⟨(0x4020 + 0x100 * c.num + n) * 256 + (0x01), -32768⟩

/-- 0x4020+n:02 CV_STATUS: UINT16, RO (05, R150). -/
def Obj.cvStatus (c : Ch) (n : Nat) : Obj := ⟨(0x4020 + 0x100 * c.num + n) * 256 + (0x02), 0⟩

/-- 0x4020+n:03 CV_SAMPLE: UINT32, RO (05, R150). -/
def Obj.cvSample (c : Ch) (n : Nat) : Obj := ⟨(0x4020 + 0x100 * c.num + n) * 256 + (0x03), 32768⟩

/-- 0x4020+n:04 CV_STATUS_CLEAR: UINT16, WO (05, R150). -/
def Obj.cvStatusClear (c : Ch) (n : Nat) : Obj := ⟨(0x4020 + 0x100 * c.num + n) * 256 + (0x04), 0⟩

/-- 0x4020+n:05 CV_LAST_TIME: TIME64, RO (05, R150). -/
def Obj.cvLastTime (c : Ch) (n : Nat) : Obj := ⟨(0x4020 + 0x100 * c.num + n) * 256 + (0x05), 0⟩

/-- 0x4040+m:01 GRP_STATUS: UINT16, RO (05, R151). -/
def Obj.grpStatus (c : Ch) (m : Nat) : Obj := ⟨(0x4040 + 0x100 * c.num + m) * 256 + (0x01), 0⟩

/-- 0x4040+m:02 GRP_OVERRANGE_COUNT: UINT32, RO (05, R151). -/
def Obj.grpOverrangeCount (c : Ch) (m : Nat) : Obj := ⟨(0x4040 + 0x100 * c.num + m) * 256 + (0x02), 0⟩

/-- 0x4050:01 CAL_REQUEST: UINT32, WO (05, R153). -/
def Obj.calRequest (c : Ch) : Obj := ⟨(0x4050 + 0x100 * c.num) * 256 + (0x01), 0⟩

/-- 0x4050:02 CAL_PENDING: UINT32, RO (05, R153). -/
def Obj.calPending (c : Ch) : Obj := ⟨(0x4050 + 0x100 * c.num) * 256 + (0x02), 0⟩

/-- 0x4050:03 CAL_FAIL_MAP: UINT32, RO (05, R153). -/
def Obj.calFailMap (c : Ch) : Obj := ⟨(0x4050 + 0x100 * c.num) * 256 + (0x03), 0⟩

/-- 0x4050:04 CAL_SKIP_MAP: UINT32, RO (05, R153). -/
def Obj.calSkipMap (c : Ch) : Obj := ⟨(0x4050 + 0x100 * c.num) * 256 + (0x04), 0⟩

/-- 0x4050:05 CAL_LAST_TIME: TIME64, RO (05, R153). -/
def Obj.calLastTime (c : Ch) : Obj := ⟨(0x4050 + 0x100 * c.num) * 256 + (0x05), 0⟩

/-- 0x4058+k:01 DIAG_SCAN_MASK: UINT16, RW (05, R153). -/
def Obj.diagScanMask (c : Ch) (k : Nat) : Obj := ⟨(0x4058 + 0x100 * c.num + k) * 256 + (0x01), (if k = 0 then 0x000F else 0x0071)⟩

/-- 0x4058+k:02 DIAG_INJECT: UINT16, WO (05, R153). -/
def Obj.diagInject (c : Ch) (k : Nat) : Obj := ⟨(0x4058 + 0x100 * c.num + k) * 256 + (0x02), 0⟩

/-- 0x4058+k:03 DIAG_INJ_STATE: UINT16, RO (05, R153). -/
def Obj.diagInjState (c : Ch) (k : Nat) : Obj := ⟨(0x4058 + 0x100 * c.num + k) * 256 + (0x03), 0⟩

/-- 0x4058+k:04 DIAG_INJ_CODE: INT16, RO (05, R153). -/
def Obj.diagInjCode (c : Ch) (k : Nat) : Obj := ⟨(0x4058 + 0x100 * c.num + k) * 256 + (0x04), -32768⟩

/-- 0x4060+8k+s:01 DIAG_SRC_CODE: INT16, RO (05, R153). -/
def Obj.diagSrcCode (c : Ch) (k : Nat) (s : Nat) : Obj := ⟨(0x4060 + 0x100 * c.num + 8 * k + s) * 256 + (0x01), -32768⟩

/-- 0x4800+n:01 FP_MODE: UINT16, RWP (06, R181). -/
def Obj.fpMode (c : Ch) (n : Nat) : Obj := ⟨(0x4800 + 0x100 * c.num + n) * 256 + (0x01), 0⟩

/-- 0x4800+n:02 FP_FILTER: UINT16, RW (06, R181). -/
def Obj.fpFilter (c : Ch) (n : Nat) : Obj := ⟨(0x4800 + 0x100 * c.num + n) * 256 + (0x02), 3⟩

/-- 0x4800+n:03 FP_INVERT: UINT16, RWP (06, R181). -/
def Obj.fpInvert (c : Ch) (n : Nat) : Obj := ⟨(0x4800 + 0x100 * c.num + n) * 256 + (0x03), 0⟩

/-- 0x4800+n:04 FP_INDEX_MODE: UINT16, RWP (06, R181). -/
def Obj.fpIndexMode (c : Ch) (n : Nat) : Obj := ⟨(0x4800 + 0x100 * c.num + n) * 256 + (0x04), 0⟩

/-- 0x4800+n:05 FP_COUNTS_PER_REV: UINT32, RWP (06, R181). -/
def Obj.fpCountsPerRev (c : Ch) (n : Nat) : Obj := ⟨(0x4800 + 0x100 * c.num + n) * 256 + (0x05), 16384⟩

/-- 0x4800+n:06 FP_INDEX_TOL: UINT16, RWP (06, R181). -/
def Obj.fpIndexTol (c : Ch) (n : Nat) : Obj := ⟨(0x4800 + 0x100 * c.num + n) * 256 + (0x06), 0⟩

/-- 0x4800+n:07 STEP_WIDTH: UINT16, RWP (06, R181). -/
def Obj.stepWidth (c : Ch) (n : Nat) : Obj := ⟨(0x4800 + 0x100 * c.num + n) * 256 + (0x07), 75⟩

/-- 0x4800+n:08 DIR_SETUP: UINT16, RWP (06, R181). -/
def Obj.dirSetup (c : Ch) (n : Nat) : Obj := ⟨(0x4800 + 0x100 * c.num + n) * 256 + (0x08), 150⟩

/-- 0x4810+n:01 FP_RAW: INT32, RO (06, R182). -/
def Obj.fpRaw (c : Ch) (n : Nat) : Obj := ⟨(0x4810 + 0x100 * c.num + n) * 256 + (0x01), 0⟩

/-- 0x4810+n:02 FP_POS: INT32, RO (06, R182). -/
def Obj.fpPos (c : Ch) (n : Nat) : Obj := ⟨(0x4810 + 0x100 * c.num + n) * 256 + (0x02), 0⟩

/-- 0x4810+n:03 FP_STATUS: UINT16, RO (06, R182). -/
def Obj.fpStatus (c : Ch) (n : Nat) : Obj := ⟨(0x4810 + 0x100 * c.num + n) * 256 + (0x03), 0⟩

/-- 0x4810+n:04 FP_STATUS_CLEAR: UINT16, WO (06, R182). -/
def Obj.fpStatusClear (c : Ch) (n : Nat) : Obj := ⟨(0x4810 + 0x100 * c.num + n) * 256 + (0x04), 0⟩

/-- 0x4810+n:05 INDEX_RAW: INT32, RO (06, R182). -/
def Obj.indexRaw (c : Ch) (n : Nat) : Obj := ⟨(0x4810 + 0x100 * c.num + n) * 256 + (0x05), 0⟩

/-- 0x4810+n:06 INDEX_TIME: TIME64, RO (06, R182). -/
def Obj.indexTime (c : Ch) (n : Nat) : Obj := ⟨(0x4810 + 0x100 * c.num + n) * 256 + (0x06), 0⟩

/-- 0x4810+n:07 INDEX_OFFSET: INT32, RO (06, R182). -/
def Obj.indexOffset (c : Ch) (n : Nat) : Obj := ⟨(0x4810 + 0x100 * c.num + n) * 256 + (0x07), 0⟩

/-- 0x4810+n:08 FP_INDEX_MISMATCH_COUNT: UINT32, RO (06, R182). -/
def Obj.fpIndexMismatchCount (c : Ch) (n : Nat) : Obj := ⟨(0x4810 + 0x100 * c.num + n) * 256 + (0x08), 0⟩

/-- 0x4810+n:09 FP_QUAD_ERR_COUNT: UINT32, RO (06, R182). -/
def Obj.fpQuadErrCount (c : Ch) (n : Nat) : Obj := ⟨(0x4810 + 0x100 * c.num + n) * 256 + (0x09), 0⟩

/-- 0x4810+n:0A FP_PRESET: INT32, WO (06, R182). -/
def Obj.fpPreset (c : Ch) (n : Nat) : Obj := ⟨(0x4810 + 0x100 * c.num + n) * 256 + (0x0A), 0⟩

/-- 0x4820+n:(e+1) CMP_POSITION: INT32, RW (06, R184). -/
def Obj.cmpPosition (c : Ch) (n : Nat) (e : Nat) : Obj := ⟨(0x4820 + 0x100 * c.num + n) * 256 + (0x01 + e), 0⟩

/-- 0x4830+n:(e+1) CMP_CONTROL: UINT16, RW (06, R184). -/
def Obj.cmpControl (c : Ch) (n : Nat) (e : Nat) : Obj := ⟨(0x4830 + 0x100 * c.num + n) * 256 + (0x01 + e), 0⟩

/-- 0x4840+n:01 CMP_PULSE_WIDTH: UINT16, RW (06, R184). -/
def Obj.cmpPulseWidth (c : Ch) (n : Nat) : Obj := ⟨(0x4840 + 0x100 * c.num + n) * 256 + (0x01), 150⟩

/-- 0x4840+n:02 CMP_COUNTER: UINT16, RW (06, R184). -/
def Obj.cmpCounter (c : Ch) (n : Nat) : Obj := ⟨(0x4840 + 0x100 * c.num + n) * 256 + (0x02), 0⟩

/-- 0x4840+n:03 CMP_FIRE_COUNT: UINT32, RO (06, R184). -/
def Obj.cmpFireCount (c : Ch) (n : Nat) : Obj := ⟨(0x4840 + 0x100 * c.num + n) * 256 + (0x03), 0⟩

/-- 0x4840+n:04 CMP_MERGED_COUNT: UINT32, RO (06, R184). -/
def Obj.cmpMergedCount (c : Ch) (n : Nat) : Obj := ⟨(0x4840 + 0x100 * c.num + n) * 256 + (0x04), 0⟩

/-- 0x4C00+n:01 SP_MODE: UINT16, RWP (06, R186). -/
def Obj.spMode (c : Ch) (n : Nat) : Obj := ⟨(0x4C00 + 0x100 * c.num + n) * 256 + (0x01), 0⟩

/-- 0x4C00+n:02 SENT_TICK: UINT16, RWP (06, R186). -/
def Obj.sentTick (c : Ch) (n : Nat) : Obj := ⟨(0x4C00 + 0x100 * c.num + n) * 256 + (0x02), 30⟩

/-- 0x4C00+n:03 SENT_CRC: UINT16, RWP (06, R186). -/
def Obj.sentCrc (c : Ch) (n : Nat) : Obj := ⟨(0x4C00 + 0x100 * c.num + n) * 256 + (0x03), 0⟩

/-- 0x4C00+n:04 SENT_PAUSE: BOOL, RWP (06, R186). -/
def Obj.sentPause (c : Ch) (n : Nat) : Obj := ⟨(0x4C00 + 0x100 * c.num + n) * 256 + (0x04), 0⟩

/-- 0x4C00+n:05 PSI5_RATE: UINT16, RWP (06, R186). -/
def Obj.psi5Rate (c : Ch) (n : Nat) : Obj := ⟨(0x4C00 + 0x100 * c.num + n) * 256 + (0x05), 0⟩

/-- 0x4C00+n:06 PSI5_BITS: UINT16, RWP (06, R186). -/
def Obj.psi5Bits (c : Ch) (n : Nat) : Obj := ⟨(0x4C00 + 0x100 * c.num + n) * 256 + (0x06), 16⟩

/-- 0x4C00+n:07 PSI5_CHECK: UINT16, RWP (06, R186). -/
def Obj.psi5Check (c : Ch) (n : Nat) : Obj := ⟨(0x4C00 + 0x100 * c.num + n) * 256 + (0x07), 1⟩

/-- 0x4C00+n:08 PSI5_SYNC_PERIOD: UINT16, RWP (06, R186). -/
def Obj.psi5SyncPeriod (c : Ch) (n : Nat) : Obj := ⟨(0x4C00 + 0x100 * c.num + n) * 256 + (0x08), 500⟩

/-- 0x4C00+n:09 PSI5_SLOT_START: UINT16, RWP (06, R186). -/
def Obj.psi5SlotStart (c : Ch) (n : Nat) : Obj := ⟨(0x4C00 + 0x100 * c.num + n) * 256 + (0x09), 44⟩

/-- 0x4C00+n:0A SP_AGE: UINT16, RWP (06, R186). -/
def Obj.spAge (c : Ch) (n : Nat) : Obj := ⟨(0x4C00 + 0x100 * c.num + n) * 256 + (0x0A), 0⟩

/-- 0x4C00+n:0B SP_TIMEOUT: UINT16, RWP (06, R186). -/
def Obj.spTimeout (c : Ch) (n : Nat) : Obj := ⟨(0x4C00 + 0x100 * c.num + n) * 256 + (0x0B), 2000⟩

/-- 0x4C10+n:01 SP_RAW: INT32, RO (06, R186). -/
def Obj.spRaw (c : Ch) (n : Nat) : Obj := ⟨(0x4C10 + 0x100 * c.num + n) * 256 + (0x01), 0⟩

/-- 0x4C10+n:02 SP_POS: INT32, RO (06, R186). -/
def Obj.spPos (c : Ch) (n : Nat) : Obj := ⟨(0x4C10 + 0x100 * c.num + n) * 256 + (0x02), 0⟩

/-- 0x4C10+n:03 SP_STATUS: UINT16, RO (06, R186). -/
def Obj.spStatus (c : Ch) (n : Nat) : Obj := ⟨(0x4C10 + 0x100 * c.num + n) * 256 + (0x03), 0⟩

/-- 0x4C10+n:04 SP_STATUS_CLEAR: UINT16, WO (06, R186). -/
def Obj.spStatusClear (c : Ch) (n : Nat) : Obj := ⟨(0x4C10 + 0x100 * c.num + n) * 256 + (0x04), 0⟩

/-- 0x4C10+n:05 SP_VALUE: UINT16, RO (06, R186). -/
def Obj.spValue (c : Ch) (n : Nat) : Obj := ⟨(0x4C10 + 0x100 * c.num + n) * 256 + (0x05), 0⟩

/-- 0x4C10+n:06 SP_STATUS_NIBBLE: UINT16, RO (06, R186). -/
def Obj.spStatusNibble (c : Ch) (n : Nat) : Obj := ⟨(0x4C10 + 0x100 * c.num + n) * 256 + (0x06), 0⟩

/-- 0x4C10+n:07 SENT_SLOW_BITS: UINT32, RO (06, R186). -/
def Obj.sentSlowBits (c : Ch) (n : Nat) : Obj := ⟨(0x4C10 + 0x100 * c.num + n) * 256 + (0x07), 0⟩

/-- 0x4C10+n:08 SP_ERR_COUNT: UINT32, RO (06, R186). -/
def Obj.spErrCount (c : Ch) (n : Nat) : Obj := ⟨(0x4C10 + 0x100 * c.num + n) * 256 + (0x08), 0⟩

/-- 0x4C10+n:09 SP_LAST_TIME: TIME64, RO (06, R186). -/
def Obj.spLastTime (c : Ch) (n : Nat) : Obj := ⟨(0x4C10 + 0x100 * c.num + n) * 256 + (0x09), 0⟩

/-- 0x4C10+n:0A SP_PRESET: INT32, WO (06, R186). -/
def Obj.spPreset (c : Ch) (n : Nat) : Obj := ⟨(0x4C10 + 0x100 * c.num + n) * 256 + (0x0A), 0⟩

/-- 0x4880+k:01 RES_ENABLE: BOOL, RWP (06, R187). -/
def Obj.resEnable (c : Ch) (k : Nat) : Obj := ⟨(0x4880 + 0x100 * c.num + k) * 256 + (0x01), 0⟩

/-- 0x4880+k:02 RES_EXC_PORT: UINT16, RWP (06, R187). -/
def Obj.resExcPort (c : Ch) (k : Nat) : Obj := ⟨(0x4880 + 0x100 * c.num + k) * 256 + (0x02), 5 + k⟩

/-- 0x4880+k:03 RES_EXC_FREQ: UINT16, RWP (06, R187). -/
def Obj.resExcFreq (c : Ch) (k : Nat) : Obj := ⟨(0x4880 + 0x100 * c.num + k) * 256 + (0x03), 10000⟩

/-- 0x4880+k:04 RES_PHASE: UINT16, RWP (06, R187). -/
def Obj.resPhase (c : Ch) (k : Nat) : Obj := ⟨(0x4880 + 0x100 * c.num + k) * 256 + (0x04), 25000⟩

/-- 0x4880+k:05 RES_BW: UINT16, RWP (06, R187). -/
def Obj.resBw (c : Ch) (k : Nat) : Obj := ⟨(0x4880 + 0x100 * c.num + k) * 256 + (0x05), 500⟩

/-- 0x4880+k:06 RES_AMP_NOM: UINT16, RWP (06, R187). -/
def Obj.resAmpNom (c : Ch) (k : Nat) : Obj := ⟨(0x4880 + 0x100 * c.num + k) * 256 + (0x06), 20000⟩

/-- 0x4880+k:07 RES_ANGLE: UINT16, RO (06, R187). -/
def Obj.resAngle (c : Ch) (k : Nat) : Obj := ⟨(0x4880 + 0x100 * c.num + k) * 256 + (0x07), 0⟩

/-- 0x4880+k:08 RES_STATUS: UINT16, RO (06, R187). -/
def Obj.resStatus (c : Ch) (k : Nat) : Obj := ⟨(0x4880 + 0x100 * c.num + k) * 256 + (0x08), 0⟩

/-- 0x4880+k:09 RES_RAW: INT32, RO (06, R187). -/
def Obj.resRaw (c : Ch) (k : Nat) : Obj := ⟨(0x4880 + 0x100 * c.num + k) * 256 + (0x09), 0⟩

/-- 0x4880+k:0A RES_POS: INT32, RO (06, R187). -/
def Obj.resPos (c : Ch) (k : Nat) : Obj := ⟨(0x4880 + 0x100 * c.num + k) * 256 + (0x0A), 0⟩

/-- 0x3004+0x20·n:01 AX_FB_SOURCE: UINT16, RWP (06, R188). -/
def Obj.axFbSource (n : Nat) : Obj := ⟨(0x3004 + 0x20 * n) * 256 + (0x01), 0⟩

/-- 0x3004+0x20·n:02 AX_HOME: UINT16, RW (06, R188). -/
def Obj.axHome (n : Nat) : Obj := ⟨(0x3004 + 0x20 * n) * 256 + (0x02), 0⟩

/-- 0x3004+0x20·n:03 AX_HOME_VALUE: INT32, RW (06, R188). -/
def Obj.axHomeValue (n : Nat) : Obj := ⟨(0x3004 + 0x20 * n) * 256 + (0x03), 0⟩

/-- 0x3004+0x20·n:04 AX_FB_STATUS: UINT16, RO (06, R188). -/
def Obj.axFbStatus (n : Nat) : Obj := ⟨(0x3004 + 0x20 * n) * 256 + (0x04), 0⟩

/-- 0x3005+0x20·n:01 LATCH_POS: INT32, RO (06, R188). -/
def Obj.latchPos (n : Nat) : Obj := ⟨(0x3005 + 0x20 * n) * 256 + (0x01), 0⟩

/-- 0x3005+0x20·n:02 LATCH_TIME: TIME64, RO (06, R188). -/
def Obj.latchTime (n : Nat) : Obj := ⟨(0x3005 + 0x20 * n) * 256 + (0x02), 0⟩

/-- 0x3005+0x20·n:03 LATCH_PREV_POS: INT32, RO (06, R188). -/
def Obj.latchPrevPos (n : Nat) : Obj := ⟨(0x3005 + 0x20 * n) * 256 + (0x03), 0⟩

/-- 0x3005+0x20·n:04 LATCH_PREV_TIME: TIME64, RO (06, R188). -/
def Obj.latchPrevTime (n : Nat) : Obj := ⟨(0x3005 + 0x20 * n) * 256 + (0x04), 0⟩

/-- 0x3005+0x20·n:05 AX_EXTRAP_POS: INT32, RO (06, R188). -/
def Obj.axExtrapPos (n : Nat) : Obj := ⟨(0x3005 + 0x20 * n) * 256 + (0x05), 0⟩

/-- 0x3005+0x20·n:06 EXTRAP_HORIZON: UINT16, RW (06, R188). -/
def Obj.extrapHorizon (n : Nat) : Obj := ⟨(0x3005 + 0x20 * n) * 256 + (0x06), 1000⟩

/-- 0x3005+0x20·n:07 LATCH_COUNT: UINT32, RO (06, R188). -/
def Obj.latchCount (n : Nat) : Obj := ⟨(0x3005 + 0x20 * n) * 256 + (0x07), 0⟩

/-- 0x5000+4t:01 TASK_TYPE: UINT16, RWP (07, R198). -/
def Obj.taskType (t : Nat) : Obj := ⟨(0x5000 + 4 * t) * 256 + (0x01), 0⟩

/-- 0x5000+4t:02 TASK_ENABLE: BOOL, RWP (07, R198). -/
def Obj.taskEnable (t : Nat) : Obj := ⟨(0x5000 + 4 * t) * 256 + (0x02), 0⟩

/-- 0x5000+4t:03 BANK_SELECT: UINT16, RW (07, R198). -/
def Obj.bankSelect (t : Nat) : Obj := ⟨(0x5000 + 4 * t) * 256 + (0x03), 0⟩

/-- 0x5000+4t:04 INT_FRAC: UINT16, RWP (07, R198). -/
def Obj.intFrac (t : Nat) : Obj := ⟨(0x5000 + 4 * t) * 256 + (0x04), 8⟩

/-- 0x5000+4t:05 INT_INIT: INT32, RW (07, R198). -/
def Obj.intInit (t : Nat) : Obj := ⟨(0x5000 + 4 * t) * 256 + (0x05), 0⟩

/-- 0x5000+4t:06 FE_LIMIT: UINT32, RWS (07, R198). -/
def Obj.feLimit (t : Nat) : Obj := ⟨(0x5000 + 4 * t) * 256 + (0x06), 0⟩

/-- 0x5000+4t:07 FE_TIME: UINT16, RWS (07, R198). -/
def Obj.feTime (t : Nat) : Obj := ⟨(0x5000 + 4 * t) * 256 + (0x07), 10⟩

/-- 0x5000+4t:08 FE_REACTION: UINT16, RWS (07, R198). -/
def Obj.feReaction (t : Nat) : Obj := ⟨(0x5000 + 4 * t) * 256 + (0x08), 2⟩

/-- 0x5000+4t:09 INVALID_MAX: UINT16, RWS (07, R198). -/
def Obj.invalidMax (t : Nat) : Obj := ⟨(0x5000 + 4 * t) * 256 + (0x09), 3⟩

/-- 0x5000+4t:0A INVALID_REACTION: UINT16, RWS (07, R198). -/
def Obj.invalidReaction (t : Nat) : Obj := ⟨(0x5000 + 4 * t) * 256 + (0x0A), 3⟩

/-- 0x5000+4t+b:01–:08 COEF0–COEF7: INT32, RW (07, R200). -/
def Obj.coef (t : Nat) (b : Nat) (i : Nat) : Obj := ⟨(0x5001 + 4 * t + b) * 256 + (0x01 + i), 0⟩

/-- 0x5000+4t+b:09–:10 SHIFT0–SHIFT7: UINT16, RW (07, R200). -/
def Obj.shift (t : Nat) (b : Nat) (i : Nat) : Obj := ⟨(0x5001 + 4 * t + b) * 256 + (0x09 + i), 0⟩

/-- 0x5000+4t+b:11 OUT_MAX: INT32, RW (07, R200). -/
def Obj.outMax (t : Nat) (b : Nat) : Obj := ⟨(0x5001 + 4 * t + b) * 256 + (0x11), 0x7fffffff⟩

/-- 0x5000+4t+b:12 OUT_MIN: INT32, RW (07, R200). -/
def Obj.outMin (t : Nat) (b : Nat) : Obj := ⟨(0x5001 + 4 * t + b) * 256 + (0x12), -2147483648⟩

/-- 0x3006+0x20·n:01 AX_REACTION: UINT16, RO (07, R218). -/
def Obj.axReaction (n : Nat) : Obj := ⟨(0x3006 + 0x20 * n) * 256 + (0x01), 0⟩

/-- 0x3006+0x20·n:02 AX_FAULT_CAUSE: UINT16, RO (07, R218). -/
def Obj.axFaultCause (n : Nat) : Obj := ⟨(0x3006 + 0x20 * n) * 256 + (0x02), 0⟩

/-- 0x3006+0x20·n:03 AX_FAULT_CLEAR: UINT16, RW (07, R218). -/
def Obj.axFaultClear (n : Nat) : Obj := ⟨(0x3006 + 0x20 * n) * 256 + (0x03), 0⟩

/-- 0x5003+4t:01 TASK_STATUS: UINT16, RO (07, R220). -/
def Obj.taskStatus (t : Nat) : Obj := ⟨(0x5003 + 4 * t) * 256 + (0x01), 1⟩

/-- 0x5003+4t:02 LAST_OUTPUT: INT32, RO (07, R220). -/
def Obj.lastOutput (t : Nat) : Obj := ⟨(0x5003 + 4 * t) * 256 + (0x02), 0⟩

/-- 0x5003+4t:03 LAST_ERROR: INT32, RO (07, R220). -/
def Obj.lastError (t : Nat) : Obj := ⟨(0x5003 + 4 * t) * 256 + (0x03), 0⟩

/-- 0x5003+4t:04 INT_STATE: INT32, RO (07, R220). -/
def Obj.intState (t : Nat) : Obj := ⟨(0x5003 + 4 * t) * 256 + (0x04), 0⟩

/-- 0x5003+4t:05 ITERATIONS: UINT32, RO (07, R220). -/
def Obj.iterations (t : Nat) : Obj := ⟨(0x5003 + 4 * t) * 256 + (0x05), 0⟩

/-- 0x5003+4t:06 DEADLINE_MISSES: UINT32, RO (07, R220). -/
def Obj.deadlineMisses (t : Nat) : Obj := ⟨(0x5003 + 4 * t) * 256 + (0x06), 0⟩

/-- 0x5003+4t:07 ARITH_SAT_COUNT: UINT32, RO (07, R220). -/
def Obj.arithSatCount (t : Nat) : Obj := ⟨(0x5003 + 4 * t) * 256 + (0x07), 0⟩

/-- 0x5003+4t:08 SWAP_COUNT: UINT32, RO (07, R220). -/
def Obj.swapCount (t : Nat) : Obj := ⟨(0x5003 + 4 * t) * 256 + (0x08), 0⟩

/-- 0x5003+4t:09 FE_MAX: UINT32, RO (07, R220). -/
def Obj.feMax (t : Nat) : Obj := ⟨(0x5003 + 4 * t) * 256 + (0x09), 0⟩

/-- 0x5003+4t:0A HOLD_COUNT: UINT32, RO (07, R220). -/
def Obj.holdCount (t : Nat) : Obj := ⟨(0x5003 + 4 * t) * 256 + (0x0A), 0⟩

/-- 0x5003+4t:0B MAX_EXEC: UINT16, RO (07, R220). -/
def Obj.maxExec (t : Nat) : Obj := ⟨(0x5003 + 4 * t) * 256 + (0x0B), 0⟩

/-- 0x5800+4t:01 TRACE_CONTROL: UINT16, RW (07, R230). -/
def Obj.traceControl (t : Nat) : Obj := ⟨(0x5800 + 4 * t) * 256 + (0x01), 0⟩

/-- 0x5800+4t:02 TRACE_NODES: UINT64, RW (07, R230). -/
def Obj.traceNodes (t : Nat) : Obj := ⟨(0x5800 + 4 * t) * 256 + (0x02), 0xffffffffffffffff⟩

/-- 0x5800+4t:03 TRACE_DECIM: UINT16, RW (07, R230). -/
def Obj.traceDecim (t : Nat) : Obj := ⟨(0x5800 + 4 * t) * 256 + (0x03), 1⟩

/-- 0x5800+4t:04 TRACE_LENGTH: UINT32, RW (07, R230). -/
def Obj.traceLength (t : Nat) : Obj := ⟨(0x5800 + 4 * t) * 256 + (0x04), 65536⟩

/-- 0x5800+4t:05 TRACE_PRE: UINT16, RW (07, R230). -/
def Obj.tracePre (t : Nat) : Obj := ⟨(0x5800 + 4 * t) * 256 + (0x05), 25⟩

/-- 0x5800+4t:06 TRACE_TRIG_SRC: UINT16, RW (07, R230). -/
def Obj.traceTrigSrc (t : Nat) : Obj := ⟨(0x5800 + 4 * t) * 256 + (0x06), 0⟩

/-- 0x5800+4t:07 TRACE_TRIG_NODE: UINT16, RW (07, R230). -/
def Obj.traceTrigNode (t : Nat) : Obj := ⟨(0x5800 + 4 * t) * 256 + (0x07), 0⟩

/-- 0x5800+4t:08 TRACE_TRIG_LEVEL: INT32, RW (07, R230). -/
def Obj.traceTrigLevel (t : Nat) : Obj := ⟨(0x5800 + 4 * t) * 256 + (0x08), 0⟩

/-- 0x5801+4t:01 TRACE_STATUS: UINT16, RO (07, R230). -/
def Obj.traceStatus (t : Nat) : Obj := ⟨(0x5801 + 4 * t) * 256 + (0x01), 0⟩

/-- 0x5801+4t:02 TRACE_CHANNEL: UINT16, RO (07, R230). -/
def Obj.traceChannel (t : Nat) : Obj := ⟨(0x5801 + 4 * t) * 256 + (0x02), 255⟩

/-- 0x5801+4t:03 TRACE_TRIG_TIME: TIME64, RO (07, R230). -/
def Obj.traceTrigTime (t : Nat) : Obj := ⟨(0x5801 + 4 * t) * 256 + (0x03), 0⟩

/-- 0x5801+4t:04 TRACE_RECORDS: UINT32, RO (07, R230). -/
def Obj.traceRecords (t : Nat) : Obj := ⟨(0x5801 + 4 * t) * 256 + (0x04), 0⟩

/-- 0x5801+4t:05 TRACE_DROPPED: UINT32, RO (07, R230). -/
def Obj.traceDropped (t : Nat) : Obj := ⟨(0x5801 + 4 * t) * 256 + (0x05), 0⟩

/-- 0x5802+4t:00 TRACE_DATA: DOMAIN, RO (07, R230). -/
def Obj.traceData (t : Nat) : Obj := ⟨(0x5802 + 4 * t) * 256 + (0x00), 0⟩

/-- 0x6000+k:01 BS_MODE: BOOL, RWP (08, R237). -/
def Obj.bsMode (c : Ch) (k : Nat) : Obj := ⟨(0x6000 + 0x100 * c.num + k) * 256 + (0x01), 0⟩

/-- 0x6000+k:02 PWM_TOP: UINT16, RWP (08, R237). -/
def Obj.pwmTop (c : Ch) (k : Nat) : Obj := ⟨(0x6000 + 0x100 * c.num + k) * 256 + (0x02), 3750⟩

/-- 0x6000+k:03 PWM_PHASE: UINT16, RWP (08, R237). -/
def Obj.pwmPhase (c : Ch) (k : Nat) : Obj := ⟨(0x6000 + 0x100 * c.num + k) * 256 + (0x03), 0⟩

/-- 0x6000+k:04 DEAD_TIME: UINT16, RWP (08, R237). -/
def Obj.deadTime (c : Ch) (k : Nat) : Obj := ⟨(0x6000 + 0x100 * c.num + k) * 256 + (0x04), 90⟩

/-- 0x6000+k:05 DUTY_MAX: Q15, RWP (08, R237). -/
def Obj.dutyMax (c : Ch) (k : Nat) : Obj := ⟨(0x6000 + 0x100 * c.num + k) * 256 + (0x05), 29491⟩

/-- 0x6000+k:06 CKPT_OFFSET: UINT16, RWP (08, R237). -/
def Obj.ckptOffset (c : Ch) (k : Nat) : Obj := ⟨(0x6000 + 0x100 * c.num + k) * 256 + (0x06), 500⟩

/-- 0x6000+k:07 PWM_POLARITY: UINT16, RWP (08, R237). -/
def Obj.pwmPolarity (c : Ch) (k : Nat) : Obj := ⟨(0x6000 + 0x100 * c.num + k) * 256 + (0x07), 0⟩

/-- 0x6010+k:01 BS_STATUS: UINT16, RO (08, R238). -/
def Obj.bsStatus (c : Ch) (k : Nat) : Obj := ⟨(0x6010 + 0x100 * c.num + k) * 256 + (0x01), 0⟩

/-- 0x6010+k:02 DUTY_U: Q15, RO (08, R238). -/
def Obj.dutyU (c : Ch) (k : Nat) : Obj := ⟨(0x6010 + 0x100 * c.num + k) * 256 + (0x02), 0⟩

/-- 0x6010+k:03 DUTY_V: Q15, RO (08, R238). -/
def Obj.dutyV (c : Ch) (k : Nat) : Obj := ⟨(0x6010 + 0x100 * c.num + k) * 256 + (0x03), 0⟩

/-- 0x6010+k:04 DUTY_W: Q15, RO (08, R238). -/
def Obj.dutyW (c : Ch) (k : Nat) : Obj := ⟨(0x6010 + 0x100 * c.num + k) * 256 + (0x04), 0⟩

/-- 0x6010+k:05 REPEAT_COUNT: UINT32, RO (08, R238). -/
def Obj.repeatCount (c : Ch) (k : Nat) : Obj := ⟨(0x6010 + 0x100 * c.num + k) * 256 + (0x05), 0⟩

/-- 0x6010+k:06 VALLEY_TIME: TIME64, RO (08, R238). -/
def Obj.valleyTime (c : Ch) (k : Nat) : Obj := ⟨(0x6010 + 0x100 * c.num + k) * 256 + (0x06), 0⟩

/-- 0x5000+4t:0B DQ_ANGLE_OFFSET: INT32, RWP (08, R245). -/
def Obj.dqAngleOffset (t : Nat) : Obj := ⟨(0x5000 + 4 * t) * 256 + (0x0B), 0⟩

/-- 0x5000+4t:0C DQ_RECON: BOOL, RW (08, R245). -/
def Obj.dqRecon (t : Nat) : Obj := ⟨(0x5000 + 4 * t) * 256 + (0x0C), 1⟩

/-- 0x5000+4t:0D DQ_SUM_LIMIT: UINT16, RW (08, R245). -/
def Obj.dqSumLimit (t : Nat) : Obj := ⟨(0x5000 + 4 * t) * 256 + (0x0D), 1638⟩

/-- 0x5000+4t:0E DQ_VDC_SOURCE: UINT16, RWP (08, R245). -/
def Obj.dqVdcSource (t : Nat) : Obj := ⟨(0x5000 + 4 * t) * 256 + (0x0E), 255⟩

/-- 0x5000+4t:0F DQ_VDC_NOMINAL: UINT16, RWP (08, R245). -/
def Obj.dqVdcNominal (t : Nat) : Obj := ⟨(0x5000 + 4 * t) * 256 + (0x0F), 26214⟩

/-- 0x5003+4t:0C DQ_STATUS: UINT16, RO (08, R245). -/
def Obj.dqStatus (t : Nat) : Obj := ⟨(0x5003 + 4 * t) * 256 + (0x0C), 0⟩

/-- 0x3007+0x20·n:01 AX_BRIDGE: UINT16, RWP (08, R251). -/
def Obj.axBridge (n : Nat) : Obj := ⟨(0x3007 + 0x20 * n) * 256 + (0x01), 0⟩

/-- 0x3007+0x20·n:02 AX_TORQUE_ENABLE: UINT16, RW (08, R251). -/
def Obj.axTorqueEnable (n : Nat) : Obj := ⟨(0x3007 + 0x20 * n) * 256 + (0x02), 0⟩

/-- 0x3007+0x20·n:03 BASE_LIMIT: UINT16, RWS (08, R251). -/
def Obj.baseLimit (n : Nat) : Obj := ⟨(0x3007 + 0x20 * n) * 256 + (0x03), 0⟩

/-- 0x3007+0x20·n:04 BOOST_LIMIT: UINT16, RWS (08, R251). -/
def Obj.boostLimit (n : Nat) : Obj := ⟨(0x3007 + 0x20 * n) * 256 + (0x04), 0⟩

/-- 0x3007+0x20·n:05 BOOST_HEADROOM: UINT16, RW (08, R251). -/
def Obj.boostHeadroom (n : Nat) : Obj := ⟨(0x3007 + 0x20 * n) * 256 + (0x05), 0⟩

/-- 0x3007+0x20·n:06 BOOST_SLEW: UINT16, RW (08, R251). -/
def Obj.boostSlew (n : Nat) : Obj := ⟨(0x3007 + 0x20 * n) * 256 + (0x06), 100⟩

/-- 0x3007+0x20·n:07 LOAD_TAU: UINT16, RW (08, R251). -/
def Obj.loadTau (n : Nat) : Obj := ⟨(0x3007 + 0x20 * n) * 256 + (0x07), 50⟩

/-- 0x3007+0x20·n:08 HOLD_DELAY: UINT16, RW (08, R251). -/
def Obj.holdDelay (n : Nat) : Obj := ⟨(0x3007 + 0x20 * n) * 256 + (0x08), 500⟩

/-- 0x3007+0x20·n:09 HOLD_FRACTION: Q15, RW (08, R251). -/
def Obj.holdFraction (n : Nat) : Obj := ⟨(0x3007 + 0x20 * n) * 256 + (0x09), 16384⟩

/-- 0x3007+0x20·n:0A STALL_SPEED: UINT32, RW (08, R251). -/
def Obj.stallSpeed (n : Nat) : Obj := ⟨(0x3007 + 0x20 * n) * 256 + (0x0A), 1000⟩

/-- 0x3007+0x20·n:0B STALL_TIME: UINT16, RW (08, R251). -/
def Obj.stallTime (n : Nat) : Obj := ⟨(0x3007 + 0x20 * n) * 256 + (0x0B), 500⟩

/-- 0x3007+0x20·n:0C STALL_REACTION: UINT16, RWS (08, R251). -/
def Obj.stallReaction (n : Nat) : Obj := ⟨(0x3007 + 0x20 * n) * 256 + (0x0C), 3⟩

/-- 0x3007+0x20·n:0D OC_REACTION: UINT16, RWS (08, R251). -/
def Obj.ocReaction (n : Nat) : Obj := ⟨(0x3007 + 0x20 * n) * 256 + (0x0D), 3⟩

/-- 0x3008+0x20·n:01 ILIMIT_NOW: UINT16, RO (08, R251). -/
def Obj.ilimitNow (n : Nat) : Obj := ⟨(0x3008 + 0x20 * n) * 256 + (0x01), 0⟩

/-- 0x3008+0x20·n:02 LOAD_EST: UINT16, RO (08, R251). -/
def Obj.loadEst (n : Nat) : Obj := ⟨(0x3008 + 0x20 * n) * 256 + (0x02), 0⟩

/-- 0x3008+0x20·n:03 AX_CURRENT_STATUS: UINT16, RO (08, R251). -/
def Obj.axCurrentStatus (n : Nat) : Obj := ⟨(0x3008 + 0x20 * n) * 256 + (0x03), 0⟩

/-- 0x6040+p:01 GSPI_ENABLE: BOOL, RWP (08, R262). -/
def Obj.gspiEnable (c : Ch) (p : Nat) : Obj := ⟨(0x6040 + 0x100 * c.num + p) * 256 + (0x01), 0⟩

/-- 0x6040+p:02 GSPI_CHAIN: UINT16, RWP (08, R262). -/
def Obj.gspiChain (c : Ch) (p : Nat) : Obj := ⟨(0x6040 + 0x100 * c.num + p) * 256 + (0x02), 2⟩

/-- 0x6040+p:03 GSPI_DIV: UINT16, RWP (08, R262). -/
def Obj.gspiDiv (c : Ch) (p : Nat) : Obj := ⟨(0x6040 + 0x100 * c.num + p) * 256 + (0x03), 8⟩

/-- 0x6040+p:04 GSPI_MODE: UINT16, RWP (08, R262). -/
def Obj.gspiMode (c : Ch) (p : Nat) : Obj := ⟨(0x6040 + 0x100 * c.num + p) * 256 + (0x04), 1⟩

/-- 0x6040+p:05 GD_POLL_PERIOD: UINT16, RW (08, R262). -/
def Obj.gdPollPeriod (c : Ch) (p : Nat) : Obj := ⟨(0x6040 + 0x100 * c.num + p) * 256 + (0x05), 1000⟩

/-- 0x6040+p:06 GD_NOP_WORD: UINT16, RWP (08, R262). -/
def Obj.gdNopWord (c : Ch) (p : Nat) : Obj := ⟨(0x6040 + 0x100 * c.num + p) * 256 + (0x06), 0⟩

/-- 0x6050+k:01 GD_INIT_COUNT: UINT16, RWP (08, R262). -/
def Obj.gdInitCount (c : Ch) (k : Nat) : Obj := ⟨(0x6050 + 0x100 * c.num + k) * 256 + (0x01), 0⟩

/-- 0x6050+k:02–:11 GD_INIT_ENTRY0–15: UINT64, RWP (08, R262). -/
def Obj.gdInitEntry (c : Ch) (k : Nat) (i : Nat) : Obj := ⟨(0x6050 + 0x100 * c.num + k) * 256 + (0x02 + i), 0⟩

/-- 0x6058+k:01 GD_POLL_COUNT: UINT16, RW (08, R262). -/
def Obj.gdPollCount (c : Ch) (k : Nat) : Obj := ⟨(0x6058 + 0x100 * c.num + k) * 256 + (0x01), 0⟩

/-- 0x6058+k:02–:05 GD_POLL_ENTRY0–3: UINT64, RW (08, R262). -/
def Obj.gdPollEntry (c : Ch) (k : Nat) (i : Nat) : Obj := ⟨(0x6058 + 0x100 * c.num + k) * 256 + (0x02 + i), 0⟩

/-- 0x6058+k:06 GD_FAULT_ACTION: UINT16, RWS (08, R262). -/
def Obj.gdFaultAction (c : Ch) (k : Nat) : Obj := ⟨(0x6058 + 0x100 * c.num + k) * 256 + (0x06), 3⟩

/-- 0x6058+k:07 GD_STATUS: UINT16, RO (08, R262). -/
def Obj.gdStatus (c : Ch) (k : Nat) : Obj := ⟨(0x6058 + 0x100 * c.num + k) * 256 + (0x07), 0⟩

/-- 0x6058+k:08 GD_LAST_RX: UINT16, RO (08, R262). -/
def Obj.gdLastRx (c : Ch) (k : Nat) : Obj := ⟨(0x6058 + 0x100 * c.num + k) * 256 + (0x08), 0⟩

/-- 0x6058+k:09 GD_FAULT_COUNT: UINT32, RO (08, R262). -/
def Obj.gdFaultCount (c : Ch) (k : Nat) : Obj := ⟨(0x6058 + 0x100 * c.num + k) * 256 + (0x09), 0⟩

/-- 0x6800+n:01 PG_QS_DEC: UINT32, RWS (09, R286). -/
def Obj.pgQsDec (n : Nat) : Obj := ⟨(0x6800 + n) * 256 + (0x01), 42950⟩

/-- 0x6800+n:02 SS_WINDOW: UINT32, RW (09, R286). -/
def Obj.ssWindow (n : Nat) : Obj := ⟨(0x6800 + n) * 256 + (0x02), 8⟩

/-- 0x6800+n:03 SS_TIME: UINT16, RW (09, R286). -/
def Obj.ssTime (n : Nat) : Obj := ⟨(0x6800 + n) * 256 + (0x03), 5⟩

/-- 0x6800+n:04 SAFE_MODE: UINT16, RWS (09, R286). -/
def Obj.safeMode (n : Nat) : Obj := ⟨(0x6800 + n) * 256 + (0x04), 0⟩

/-- 0x6800+n:05 SAFE_TARGET: INT32, RWS (09, R286). -/
def Obj.safeTarget (n : Nat) : Obj := ⟨(0x6800 + n) * 256 + (0x05), 0⟩

/-- 0x6820+n:01 PG_TARGET: INT32, RW (09, R287). -/
def Obj.pgTarget (n : Nat) : Obj := ⟨(0x6820 + n) * 256 + (0x01), 0⟩

/-- 0x6820+n:02 PG_VMAX: UINT32, RW (09, R287). -/
def Obj.pgVmax (n : Nat) : Obj := ⟨(0x6820 + n) * 256 + (0x02), 65536⟩

/-- 0x6820+n:03 PG_ACC: UINT32, RW (09, R287). -/
def Obj.pgAcc (n : Nat) : Obj := ⟨(0x6820 + n) * 256 + (0x03), 4295⟩

/-- 0x6820+n:04 PG_DEC: UINT32, RW (09, R287). -/
def Obj.pgDec (n : Nat) : Obj := ⟨(0x6820 + n) * 256 + (0x04), 4295⟩

/-- 0x6820+n:05 PG_CONTROL: UINT16, RW (09, R287). -/
def Obj.pgControl (n : Nat) : Obj := ⟨(0x6820 + n) * 256 + (0x05), 0⟩

/-- 0x6840+n:01 PG_SETPOINT: INT32, RO (09, R288). -/
def Obj.pgSetpoint (n : Nat) : Obj := ⟨(0x6840 + n) * 256 + (0x01), 0⟩

/-- 0x6840+n:02 PG_VEL_NOW: INT32, RO (09, R288). -/
def Obj.pgVelNow (n : Nat) : Obj := ⟨(0x6840 + n) * 256 + (0x02), 0⟩

/-- 0x6840+n:03 PG_TARGET_NOW: INT32, RO (09, R288). -/
def Obj.pgTargetNow (n : Nat) : Obj := ⟨(0x6840 + n) * 256 + (0x03), 0⟩

/-- 0x6840+n:04 PG_PENDING: INT32, RO (09, R288). -/
def Obj.pgPending (n : Nat) : Obj := ⟨(0x6840 + n) * 256 + (0x04), 0⟩

/-- 0x6840+n:05 PG_STATUS: UINT16, RO (09, R288). -/
def Obj.pgStatus (n : Nat) : Obj := ⟨(0x6840 + n) * 256 + (0x05), 64⟩

/-- 0x3800+g:01 AG_MODE: UINT16, RWP (09, R290). -/
def Obj.agMode (g : Nat) : Obj := ⟨(0x3800 + g) * 256 + (0x01), 0⟩

/-- 0x3800+g:02–:09 AG_MEMBER0–7: UINT16, RWP (09, R290). -/
def Obj.agMember (g : Nat) (i : Nat) : Obj := ⟨(0x3800 + g) * 256 + (0x02 + i), 0⟩

/-- 0x3800+g:0A–:11 AG_SHARE0–7: UINT16, RWS (09, R290). -/
def Obj.agShare (g : Nat) (i : Nat) : Obj := ⟨(0x3800 + g) * 256 + (0x0A + i), 1⟩

/-- 0x3800+g:12–:19 AG_REALLOC_W0–7: UINT16, RWS (09, R290). -/
def Obj.agReallocW (g : Nat) (i : Nat) : Obj := ⟨(0x3800 + g) * 256 + (0x12 + i), 1⟩

/-- 0x3800+g:1A–:21 AG_FORCE_MAX0–7: INT32, RWS (09, R290). -/
def Obj.agForceMax (g : Nat) (i : Nat) : Obj := ⟨(0x3800 + g) * 256 + (0x1A + i), 0x7fffffff⟩

/-- 0x3800+g:22 AG_SAFE_TOTAL: INT32, RWS (09, R290). -/
def Obj.agSafeTotal (g : Nat) : Obj := ⟨(0x3800 + g) * 256 + (0x22), 0⟩

/-- 0x3800+g:23 AG_REMOTE_DELAY: UINT16, RW (09, R290). -/
def Obj.agRemoteDelay (g : Nat) : Obj := ⟨(0x3800 + g) * 256 + (0x23), 200⟩

/-- 0x3810+g:01 AG_FORCE_TOTAL: INT32, RW (09, R290). -/
def Obj.agForceTotal (g : Nat) : Obj := ⟨(0x3810 + g) * 256 + (0x01), 0⟩

/-- 0x3810+g:02 AG_CONTROL: UINT16, RW (09, R290). -/
def Obj.agControl (g : Nat) : Obj := ⟨(0x3810 + g) * 256 + (0x02), 0⟩

/-- 0x3820+g:01 AG_STATUS: UINT16, RO (09, R290). -/
def Obj.agStatus (g : Nat) : Obj := ⟨(0x3820 + g) * 256 + (0x01), 0⟩

/-- 0x3820+g:02 AG_LOST_MAP: UINT16, RO (09, R290). -/
def Obj.agLostMap (g : Nat) : Obj := ⟨(0x3820 + g) * 256 + (0x02), 0⟩

/-- 0x3820+g:03 AG_FORCE_DEFICIT: INT32, RO (09, R290). -/
def Obj.agForceDeficit (g : Nat) : Obj := ⟨(0x3820 + g) * 256 + (0x03), 0⟩

/-- 0x3820+g:04 AG_REALLOC_COUNT: UINT32, RO (09, R290). -/
def Obj.agReallocCount (g : Nat) : Obj := ⟨(0x3820 + g) * 256 + (0x04), 0⟩

/-- 0x3820+g:05 AG_LEAD: UINT16, RO (09, R290). -/
def Obj.agLead (g : Nat) : Obj := ⟨(0x3820 + g) * 256 + (0x05), 255⟩

/-- 0x2800:01 REDUND_STATE: UINT16, RO (10, R323). -/
def Obj.redundState : Obj := ⟨(0x2800) * 256 + (0x01), 0⟩

/-- 0x2800:02 REDUND_STATUS: UINT16, RO (10, R323). -/
def Obj.redundStatus : Obj := ⟨(0x2800) * 256 + (0x02), 0⟩

/-- 0x2800:03 SS_BOUND: UINT16, RWS (10, R323). -/
def Obj.ssBound : Obj := ⟨(0x2800) * 256 + (0x03), 60⟩

/-- 0x2800:04 SS_REMAINING: UINT16, RO (10, R323). -/
def Obj.ssRemaining : Obj := ⟨(0x2800) * 256 + (0x04), 0⟩

/-- 0x2800:05 PASSIVE_REQUEST: UINT16, WO (10, R323). -/
def Obj.passiveRequest : Obj := ⟨(0x2800) * 256 + (0x05), 0⟩

/-- 0x2800:06 STATE_ENTRY_TIME: TIME64, RO (10, R323). -/
def Obj.stateEntryTime : Obj := ⟨(0x2800) * 256 + (0x06), 0⟩

/-- 0x2820:01 ENGINE_FAULT_MAP_A: UINT16, RO (10, R323). -/
def Obj.engineFaultMapA : Obj := ⟨(0x2820) * 256 + (0x01), 0⟩

/-- 0x2820:02 ENGINE_FAULT_MAP_B: UINT16, RO (10, R323). -/
def Obj.engineFaultMapB : Obj := ⟨(0x2820) * 256 + (0x02), 0⟩

/-- 0x2820:03 ENGINE_FAULT_MAP_C: UINT16, RO (10, R323). -/
def Obj.engineFaultMapC : Obj := ⟨(0x2820) * 256 + (0x03), 0⟩

/-- 0x2830:01 INJ_RESULT: UINT32, RO (10, R323). -/
def Obj.injResult : Obj := ⟨(0x2830) * 256 + (0x01), 0⟩

/-- 0x2830:02 INJ_ATTEMPTS: UINT16, RO (10, R323). -/
def Obj.injAttempts : Obj := ⟨(0x2830) * 256 + (0x02), 0⟩

/-- 0x2870:01 LAST_MISS_STREAM: UINT16, RO (10, R323). -/
def Obj.lastMissStream : Obj := ⟨(0x2870) * 256 + (0x01), 65535⟩

/-- 0x2870:02 LAST_MISS_CHANNEL: UINT16, RO (10, R323). -/
def Obj.lastMissChannel : Obj := ⟨(0x2870) * 256 + (0x02), 255⟩

/-- 0x2870:03 LAST_MISS_TIME: TIME64, RO (10, R323). -/
def Obj.lastMissTime : Obj := ⟨(0x2870) * 256 + (0x03), 0⟩

/-- 0x2810+c:01 CH_STATE: UINT16, RO (10, R325). -/
def Obj.chState (c : Ch) : Obj := ⟨(0x2810 + c.num) * 256 + (0x01), 0⟩

/-- 0x2810+c:02 CH_FAULT_CAUSE: UINT16, RO (10, R325). -/
def Obj.chFaultCause (c : Ch) : Obj := ⟨(0x2810 + c.num) * 256 + (0x02), 0⟩

/-- 0x2810+c:03 CH_MISMATCH_COUNT: UINT32, RO (10, R325). -/
def Obj.chMismatchCount (c : Ch) : Obj := ⟨(0x2810 + c.num) * 256 + (0x03), 0⟩

/-- 0x2810+c:04 CH_MISSING_COUNT: UINT32, RO (10, R325). -/
def Obj.chMissingCount (c : Ch) : Obj := ⟨(0x2810 + c.num) * 256 + (0x04), 0⟩

/-- 0x2810+c:05 CH_CODING_FAULTS: UINT32, RO (10, R325). -/
def Obj.chCodingFaults (c : Ch) : Obj := ⟨(0x2810 + c.num) * 256 + (0x05), 0⟩

/-- 0x2810+c:06 CH_FAULT_TIME: TIME64, RO (10, R325). -/
def Obj.chFaultTime (c : Ch) : Obj := ⟨(0x2810 + c.num) * 256 + (0x06), 0⟩

/-- 0x2840+n:01 AX_REDUND_MODE: UINT16, RWS (10, R328). -/
def Obj.axRedundMode (n : Nat) : Obj := ⟨(0x2840 + n) * 256 + (0x01), 0⟩

/-- 0x2840+n:02 AX_SAFETY_RATED: BOOL, RWS (10, R328). -/
def Obj.axSafetyRated (n : Nat) : Obj := ⟨(0x2840 + n) * 256 + (0x02), 1⟩

/-- 0x2840+n:03 AX_REDUND_STATUS: UINT16, RO (10, R328). -/
def Obj.axRedundStatus (n : Nat) : Obj := ⟨(0x2840 + n) * 256 + (0x03), 0⟩

/-- 0x2000+t:01 TASK_PERIOD: UINT32, RWP (11, R330). -/
def Obj.taskPeriod (t : Nat) : Obj := ⟨(0x2000 + t) * 256 + (0x01), 1000⟩

/-- 0x2000+t:02 TASK_DEADLINE: UINT32, RWP (11, R330). -/
def Obj.taskDeadline (t : Nat) : Obj := ⟨(0x2000 + t) * 256 + (0x02), 0⟩

/-- 0x2000+t:03 TASK_AXIS: UINT16, RWP (11, R330). -/
def Obj.taskAxis (t : Nat) : Obj := ⟨(0x2000 + t) * 256 + (0x03), 255⟩

/-- 0x2000+t:04–:06 TASK_IN0–TASK_IN2: UINT32, RWP (11, R330). -/
def Obj.taskIn (t : Nat) (i : Nat) : Obj := ⟨(0x2000 + t) * 256 + (0x04 + i), 0⟩

/-- 0x2000+t:07 TASK_OUT: UINT16, RWP (11, R330). -/
def Obj.taskOut (t : Nat) : Obj := ⟨(0x2000 + t) * 256 + (0x07), 65535⟩

/-- 0x2000+t:08 TASK_PIN: UINT16, RWS (11, R330). -/
def Obj.taskPin (t : Nat) : Obj := ⟨(0x2000 + t) * 256 + (0x08), 0⟩

/-- 0x2000+t:09 TASK_STATIC: UINT16, RWP (11, R330). -/
def Obj.taskStatic (t : Nat) : Obj := ⟨(0x2000 + t) * 256 + (0x09), 65535⟩

/-- 0x2000+t:0A PLAN_SITE: UINT32, RO (11, R330). -/
def Obj.planSite (t : Nat) : Obj := ⟨(0x2000 + t) * 256 + (0x0A), 0⟩

/-- 0x2000+t:0B TASK_MOVES: UINT32, RO (11, R330). -/
def Obj.taskMoves (t : Nat) : Obj := ⟨(0x2000 + t) * 256 + (0x0B), 0⟩

/-- 0x2000+t:0C TASK_PLACE_STATUS: UINT16, RO (11, R330). -/
def Obj.taskPlaceStatus (t : Nat) : Obj := ⟨(0x2000 + t) * 256 + (0x0C), 0⟩

/-- 0x2300:01 UTIL_CAP: UINT16, RWS (11, R355). -/
def Obj.utilCap : Obj := ⟨(0x2300) * 256 + (0x01), 6000⟩

/-- 0x2300:02 ENGINE_MIN_SCORE: UINT16, RWS (11, R355). -/
def Obj.engineMinScore : Obj := ⟨(0x2300) * 256 + (0x02), 64⟩

/-- 0x2300:03 OWNER_MARGIN: UINT16, RWS (11, R355). -/
def Obj.ownerMargin : Obj := ⟨(0x2300) * 256 + (0x03), 32⟩

/-- 0x2300:04 PLAN_ADAPT: BOOL, RWS (11, R355). -/
def Obj.planAdapt : Obj := ⟨(0x2300) * 256 + (0x04), 1⟩

/-- 0x2300:05 TWIN_PLACE_ENABLE: BOOL, RWS (11, R355). -/
def Obj.twinPlaceEnable : Obj := ⟨(0x2300) * 256 + (0x05), 0⟩

/-- 0x2300:06 REMOTE_MIN_PERIOD: UINT32, RWS (11, R355). -/
def Obj.remoteMinPeriod : Obj := ⟨(0x2300) * 256 + (0x06), 500⟩

/-- 0x2300:07 REMOTE_BUDGET: UINT16, RWS (11, R355). -/
def Obj.remoteBudget : Obj := ⟨(0x2300) * 256 + (0x07), 20⟩

/-- 0x2300:08 PLACE_STREAM: UINT16, RWS (11, R355). -/
def Obj.placeStream : Obj := ⟨(0x2300) * 256 + (0x08), 3584⟩

/-- 0x2300:09 PLAN_REQUEST: UINT16, WO (11, R355). -/
def Obj.planRequest : Obj := ⟨(0x2300) * 256 + (0x09), 0⟩

/-- 0x2301:01 PLAN_STATUS: UINT16, RO (11, R355). -/
def Obj.planStatus : Obj := ⟨(0x2301) * 256 + (0x01), 0⟩

/-- 0x2301:02 PLAN_COUNT: UINT32, RO (11, R355). -/
def Obj.planCount : Obj := ⟨(0x2301) * 256 + (0x02), 0⟩

/-- 0x2301:03 PLAN_LAST_TIME: TIME64, RO (11, R355). -/
def Obj.planLastTime : Obj := ⟨(0x2301) * 256 + (0x03), 0⟩

/-- 0x2301:04 PLAN_LAST_CAUSE: UINT16, RO (11, R355). -/
def Obj.planLastCause : Obj := ⟨(0x2301) * 256 + (0x04), 0⟩

/-- 0x2301:05 PLAN_VOTE_MISMATCH: UINT32, RO (11, R355). -/
def Obj.planVoteMismatch : Obj := ⟨(0x2301) * 256 + (0x05), 0⟩

/-- 0x2301:06 PLAN_NO_MAJORITY: UINT32, RO (11, R355). -/
def Obj.planNoMajority : Obj := ⟨(0x2301) * 256 + (0x06), 0⟩

/-- 0x2301:07 FALLBACK_MOVES: UINT32, RO (11, R355). -/
def Obj.fallbackMoves : Obj := ⟨(0x2301) * 256 + (0x07), 0⟩

/-- 0x2301:08 HEALTH_AGE: UINT32, RO (11, R355). -/
def Obj.healthAge : Obj := ⟨(0x2301) * 256 + (0x08), 0⟩

/-- 0x2301:09 MOVE_MIN_PERIOD: UINT16, RO (11, R355). -/
def Obj.moveMinPeriod : Obj := ⟨(0x2301) * 256 + (0x09), 40⟩

/-- 0x2301:0A PLAN_DIGEST: UINT32, RO (11, R355). -/
def Obj.planDigest : Obj := ⟨(0x2301) * 256 + (0x0A), 0⟩

/-- 0x2310+c:(e+1) ENGINE_SCORE: UINT16, RO (11, R358). -/
def Obj.engineScore (c : Ch) (e : Nat) : Obj := ⟨(0x2310 + c.num) * 256 + (0x01 + e), 255⟩

/-- 0x2310+c:11 CHANNEL_SCORE: UINT16, RO (11, R358). -/
def Obj.channelScore (c : Ch) : Obj := ⟨(0x2310 + c.num) * 256 + (0x11), 255⟩

/-- 0x2314:01 DEVICE_SCORE: UINT16, RO (11, R358). -/
def Obj.deviceScore : Obj := ⟨(0x2314) * 256 + (0x01), 0⟩

/-- 0x2314:02 TWIN_SCORE: UINT16, RO (11, R358). -/
def Obj.twinScore : Obj := ⟨(0x2314) * 256 + (0x02), 0⟩

/-- 0x2314:03 TWIN_SPARE: UINT16, RO (11, R358). -/
def Obj.twinSpare : Obj := ⟨(0x2314) * 256 + (0x03), 0⟩

/-- 0x2318+c:(e+1) ENGINE_UTIL: UINT16, RO (11, R358). -/
def Obj.engineUtil (c : Ch) (e : Nat) : Obj := ⟨(0x2318 + c.num) * 256 + (0x01 + e), 0⟩

/-- 0x2318+c:11 NO_FALLBACK_MAP: UINT16, RO (11, R358). -/
def Obj.noFallbackMap (c : Ch) : Obj := ⟨(0x2318 + c.num) * 256 + (0x11), 0⟩

/-- 0x2318+c:12 ENGINE_TEST_MAP: UINT16, RO (11, R358). -/
def Obj.engineTestMap (c : Ch) : Obj := ⟨(0x2318 + c.num) * 256 + (0x12), 0⟩

/-- 0xA000:01 FAB_NODE_ADDR: UINT16, RWS (12, R386). -/
def Obj.fabNodeAddr : Obj := ⟨(0xA000) * 256 + (0x01), 0⟩

/-- 0xA000:02 FAB_ADDR_IN_USE: UINT16, RO (12, R386). -/
def Obj.fabAddrInUse : Obj := ⟨(0xA000) * 256 + (0x02), 0⟩

/-- 0xA000:03 FAB_STATUS: UINT16, RO (12, R386). -/
def Obj.fabStatus : Obj := ⟨(0xA000) * 256 + (0x03), 0⟩

/-- 0xA000:04 FAB_TIME_PRIORITY: UINT16, RWS (12, R386). -/
def Obj.fabTimePriority : Obj := ⟨(0xA000) * 256 + (0x04), 128⟩

/-- 0xA000:05 FAB_TIME_MASTER: UINT16, RO (12, R386). -/
def Obj.fabTimeMaster : Obj := ⟨(0xA000) * 256 + (0x05), 0⟩

/-- 0xA000:06 FAB_MAX_TTL: UINT16, RW (12, R386). -/
def Obj.fabMaxTtl : Obj := ⟨(0xA000) * 256 + (0x06), 32⟩

/-- 0xA000:07 FAB_LANE_ENABLE: UINT16, RWS (12, R386). -/
def Obj.fabLaneEnable : Obj := ⟨(0xA000) * 256 + (0x07), 4095⟩

/-- 0xA000:08 FAB_AUTH_MODE: UINT16, RWS (12, R386). -/
def Obj.fabAuthMode : Obj := ⟨(0xA000) * 256 + (0x08), 0⟩

/-- 0xA000:09 FAB_AUTH_SLOT: UINT16, RWS (12, R386). -/
def Obj.fabAuthSlot : Obj := ⟨(0xA000) * 256 + (0x09), 0⟩

/-- 0xA000:0A FAB_AGREE_WINDOW: UINT16, RW (12, R386). -/
def Obj.fabAgreeWindow : Obj := ⟨(0xA000) * 256 + (0x0A), 20⟩

/-- 0xA001:01 FAB_AUTH_KEY0: OCTET_STRING, WO (12, R386). -/
def Obj.fabAuthKey0 : Obj := ⟨(0xA001) * 256 + (0x01), 0⟩

/-- 0xA001:02 FAB_AUTH_KEY1: OCTET_STRING, WO (12, R386). -/
def Obj.fabAuthKey1 : Obj := ⟨(0xA001) * 256 + (0x02), 0⟩

/-- 0xA001:03 FAB_KEY_ID: UINT64, RO (12, R386). -/
def Obj.fabKeyId : Obj := ⟨(0xA001) * 256 + (0x03), 0⟩

/-- 0xA010:01 FAB_FRAMES_FWD: UINT32, RO (12, R386). -/
def Obj.fabFramesFwd : Obj := ⟨(0xA010) * 256 + (0x01), 0⟩

/-- 0xA010:02 FAB_TTL_DROPS: UINT32, RO (12, R386). -/
def Obj.fabTtlDrops : Obj := ⟨(0xA010) * 256 + (0x02), 0⟩

/-- 0xA010:03 FAB_NO_ROUTE: UINT32, RO (12, R386). -/
def Obj.fabNoRoute : Obj := ⟨(0xA010) * 256 + (0x03), 0⟩

/-- 0xA010:04 FAB_STREAM_REJECT: UINT32, RO (12, R386). -/
def Obj.fabStreamReject : Obj := ⟨(0xA010) * 256 + (0x04), 0⟩

/-- 0xA010:05 FAB_RATE_DROPS: UINT32, RO (12, R386). -/
def Obj.fabRateDrops : Obj := ⟨(0xA010) * 256 + (0x05), 0⟩

/-- 0xA010:06 FAB_AGREE_FAIL: UINT32, RO (12, R386). -/
def Obj.fabAgreeFail : Obj := ⟨(0xA010) * 256 + (0x06), 0⟩

/-- 0xA010:07 FAB_ELIM_DUPLICATES: UINT32, RO (12, R386). -/
def Obj.fabElimDuplicates : Obj := ⟨(0xA010) * 256 + (0x07), 0⟩

/-- 0xA010:08 FAB_ELIM_LATE: UINT32, RO (12, R386). -/
def Obj.fabElimLate : Obj := ⟨(0xA010) * 256 + (0x08), 0⟩

/-- 0xA010:09 FAB_ELIM_RESETS: UINT32, RO (12, R386). -/
def Obj.fabElimResets : Obj := ⟨(0xA010) * 256 + (0x09), 0⟩

/-- 0xA010:0A FAB_AUTH_FAILS: UINT32, RO (12, R386). -/
def Obj.fabAuthFails : Obj := ⟨(0xA010) * 256 + (0x0A), 0⟩

/-- 0xA020+4c+l:01 LANE_STATE: UINT16, RO (12, R388). -/
def Obj.laneState (c : Ch) (l : Nat) : Obj := ⟨(0xA020 + 4 * c.num + l) * 256 + (0x01), 1⟩

/-- 0xA020+4c+l:02 LANE_COST: UINT16, RWS (12, R388). -/
def Obj.laneCost (c : Ch) (l : Nat) : Obj := ⟨(0xA020 + 4 * c.num + l) * 256 + (0x02), 10⟩

/-- 0xA020+4c+l:03 LANE_PEER_UID: UINT64, RO (12, R388). -/
def Obj.lanePeerUid (c : Ch) (l : Nat) : Obj := ⟨(0xA020 + 4 * c.num + l) * 256 + (0x03), 0⟩

/-- 0xA020+4c+l:04 LANE_PEER_ADDR: UINT16, RO (12, R388). -/
def Obj.lanePeerAddr (c : Ch) (l : Nat) : Obj := ⟨(0xA020 + 4 * c.num + l) * 256 + (0x04), 0⟩

/-- 0xA020+4c+l:05 LANE_PEER_POS: UINT16, RO (12, R388). -/
def Obj.lanePeerPos (c : Ch) (l : Nat) : Obj := ⟨(0xA020 + 4 * c.num + l) * 256 + (0x05), 0⟩

/-- 0xA020+4c+l:06 LANE_CRC_ERRORS: UINT32, RO (12, R388). -/
def Obj.laneCrcErrors (c : Ch) (l : Nat) : Obj := ⟨(0xA020 + 4 * c.num + l) * 256 + (0x06), 0⟩

/-- 0xA020+4c+l:07 LANE_DELAY: UINT16, RO (12, R388). -/
def Obj.laneDelay (c : Ch) (l : Nat) : Obj := ⟨(0xA020 + 4 * c.num + l) * 256 + (0x07), 0⟩

/-- 0xA400+a:01 NODE_UID: UINT64, RO (12, R389). -/
def Obj.nodeUid (a : Nat) : Obj := ⟨(0xA400 + a) * 256 + (0x01), 0⟩

/-- 0xA400+a:02 NODE_REACH: UINT16, RO (12, R389). -/
def Obj.nodeReach (a : Nat) : Obj := ⟨(0xA400 + a) * 256 + (0x02), 0⟩

/-- 0xF100+x:01 HR_UID: UINT64, RO (13, R411). -/
def Obj.hrUid (x : Nat) : Obj := ⟨(0xF100 + x) * 256 + (0x01), 0⟩

/-- 0xF100+x:02 HR_REDUND_STATE: UINT16, RO (13, R411). -/
def Obj.hrRedundState (x : Nat) : Obj := ⟨(0xF100 + x) * 256 + (0x02), 0⟩

/-- 0xF100+x:03 HR_DEVICE_SCORE: UINT16, RO (13, R411). -/
def Obj.hrDeviceScore (x : Nat) : Obj := ⟨(0xF100 + x) * 256 + (0x03), 0⟩

/-- 0xF100+x:04 HR_SPARE: UINT16, RO (13, R411). -/
def Obj.hrSpare (x : Nat) : Obj := ⟨(0xF100 + x) * 256 + (0x04), 0⟩

/-- 0xF100+x:05 HR_TWIN_STATE: UINT16, RO (13, R411). -/
def Obj.hrTwinState (x : Nat) : Obj := ⟨(0xF100 + x) * 256 + (0x05), 0⟩

/-- 0xF100+x:06 HR_EPOCH: UINT32, RO (13, R411). -/
def Obj.hrEpoch (x : Nat) : Obj := ⟨(0xF100 + x) * 256 + (0x06), 0⟩

/-- 0xF100+x:07 HR_FAULT_SUMMARY: UINT32, RO (13, R411). -/
def Obj.hrFaultSummary (x : Nat) : Obj := ⟨(0xF100 + x) * 256 + (0x07), 0⟩

/-- 0xF100+x:08 HR_SLICE_AGE: UINT16, RO (13, R411). -/
def Obj.hrSliceAge (x : Nat) : Obj := ⟨(0xF100 + x) * 256 + (0x08), 0⟩

/-- 0xF100+x:09 HR_SLICE_FAILS: UINT32, RO (13, R411). -/
def Obj.hrSliceFails (x : Nat) : Obj := ⟨(0xF100 + x) * 256 + (0x09), 0⟩

/-- 0xF100+x:0A HR_TIME: TIME64, RO (13, R411). -/
def Obj.hrTime (x : Nat) : Obj := ⟨(0xF100 + x) * 256 + (0x0A), 0⟩

/-- 0xA800:01 TWIN_PEER_ADDR: UINT16, RWS (13, R414). -/
def Obj.twinPeerAddr : Obj := ⟨(0xA800) * 256 + (0x01), 0⟩

/-- 0xA800:02 TWIN_PEER_UID: UINT64, RWS (13, R414). -/
def Obj.twinPeerUid : Obj := ⟨(0xA800) * 256 + (0x02), 0⟩

/-- 0xA800:03 TWIN_PAIR_CMD: UINT16, WO (13, R414). -/
def Obj.twinPairCmd : Obj := ⟨(0xA800) * 256 + (0x03), 0⟩

/-- 0xA800:04 TWIN_PREFERRED: BOOL, RWS (13, R414). -/
def Obj.twinPreferred : Obj := ⟨(0xA800) * 256 + (0x04), 0⟩

/-- 0xA800:05 TWIN_STEER_AXES: UINT32, RWS (13, R414). -/
def Obj.twinSteerAxes : Obj := ⟨(0xA800) * 256 + (0x05), 0⟩

/-- 0xA800:06 TWIN_BRAKE_AXES: UINT32, RWS (13, R414). -/
def Obj.twinBrakeAxes : Obj := ⟨(0xA800) * 256 + (0x06), 0⟩

/-- 0xA800:07 TWIN_SPARE_ADDR: UINT16, RWS (13, R414). -/
def Obj.twinSpareAddr : Obj := ⟨(0xA800) * 256 + (0x07), 0⟩

/-- 0xA800:08 TWIN_HANDSHAKE_TIME: UINT16, RWS (13, R414). -/
def Obj.twinHandshakeTime : Obj := ⟨(0xA800) * 256 + (0x08), 20⟩

/-- 0xA800:09 TWIN_ELIGIBLE_TIME: UINT16, RWS (13, R414). -/
def Obj.twinEligibleTime : Obj := ⟨(0xA800) * 256 + (0x09), 500⟩

/-- 0xA800:0A QUIET_AXIS: UINT16, RWS (13, R414). -/
def Obj.quietAxis : Obj := ⟨(0xA800) * 256 + (0x0A), 255⟩

/-- 0xA800:0B QUIET_RATE: UINT32, RWS (13, R414). -/
def Obj.quietRate : Obj := ⟨(0xA800) * 256 + (0x0B), 1000⟩

/-- 0xA800:0C QUIET_GROUP: UINT16, RWS (13, R414). -/
def Obj.quietGroup : Obj := ⟨(0xA800) * 256 + (0x0C), 255⟩

/-- 0xA800:0D QUIET_BAND: UINT32, RWS (13, R414). -/
def Obj.quietBand : Obj := ⟨(0xA800) * 256 + (0x0D), 100⟩

/-- 0xA800:0E QUIET_TIME: UINT16, RWS (13, R414). -/
def Obj.quietTime : Obj := ⟨(0xA800) * 256 + (0x0E), 100⟩

/-- 0xA800:0F SPARE_DELAY: UINT16, RWS (13, R414). -/
def Obj.spareDelay : Obj := ⟨(0xA800) * 256 + (0x0F), 3⟩

/-- 0xA802:01 SPARE_PAIR0: UINT16, RWS (13, R414). -/
def Obj.sparePair0 : Obj := ⟨(0xA802) * 256 + (0x01), 0⟩

/-- 0xA802:02 SPARE_PAIR1: UINT16, RWS (13, R414). -/
def Obj.sparePair1 : Obj := ⟨(0xA802) * 256 + (0x02), 0⟩

/-- 0xA801:01 TWIN_STATE: UINT16, RO (13, R415). -/
def Obj.twinState : Obj := ⟨(0xA801) * 256 + (0x01), 0⟩

/-- 0xA801:02 TWIN_STATUS: UINT16, RO (13, R415). -/
def Obj.twinStatus : Obj := ⟨(0xA801) * 256 + (0x02), 0⟩

/-- 0xA801:03 TWIN_EPOCH: UINT32, RO (13, R415). -/
def Obj.twinEpoch : Obj := ⟨(0xA801) * 256 + (0x03), 0⟩

/-- 0xA801:04 TWIN_PAIR_RESULT: UINT16, RO (13, R415). -/
def Obj.twinPairResult : Obj := ⟨(0xA801) * 256 + (0x04), 0⟩

/-- 0xA801:05 TWIN_CONFIG_DIGEST: UINT32, RO (13, R415). -/
def Obj.twinConfigDigest : Obj := ⟨(0xA801) * 256 + (0x05), 0⟩

/-- 0xA801:06 TWIN_HB_MISSES: UINT32, RO (13, R415). -/
def Obj.twinHbMisses : Obj := ⟨(0xA801) * 256 + (0x06), 0⟩

/-- 0xA801:07 TWIN_HB_REJECTS: UINT32, RO (13, R415). -/
def Obj.twinHbRejects : Obj := ⟨(0xA801) * 256 + (0x07), 0⟩

/-- 0xA801:08 TWIN_TAKEOVERS: UINT32, RO (13, R415). -/
def Obj.twinTakeovers : Obj := ⟨(0xA801) * 256 + (0x08), 0⟩

/-- 0xA801:09 TWIN_FAILBACKS: UINT32, RO (13, R415). -/
def Obj.twinFailbacks : Obj := ⟨(0xA801) * 256 + (0x09), 0⟩

/-- 0xA801:0A TWIN_STALE_CLAIMS: UINT32, RO (13, R415). -/
def Obj.twinStaleClaims : Obj := ⟨(0xA801) * 256 + (0x0A), 0⟩

/-- 0xA801:0B TWIN_ELIGIBLE_AGE: UINT16, RO (13, R415). -/
def Obj.twinEligibleAge : Obj := ⟨(0xA801) * 256 + (0x0B), 0⟩

/-- 0xA801:0C TWIN_LAST_CHANGE: TIME64, RO (13, R415). -/
def Obj.twinLastChange : Obj := ⟨(0xA801) * 256 + (0x0C), 0⟩

/-- 0x7000+s:01 SI_MODE: UINT16, RWS (14, R422). -/
def Obj.siMode (s : Nat) : Obj := ⟨(0x7000 + s) * 256 + (0x01), 0⟩

/-- 0x7000+s:02 SI_FILTER: UINT16, RWS (14, R422). -/
def Obj.siFilter (s : Nat) : Obj := ⟨(0x7000 + s) * 256 + (0x02), 3⟩

/-- 0x7000+s:03 SI_DISC_TIME: UINT16, RWS (14, R422). -/
def Obj.siDiscTime (s : Nat) : Obj := ⟨(0x7000 + s) * 256 + (0x03), 100⟩

/-- 0x7000+s:04 SI_AXIS_MASK: UINT32, RWS (14, R422). -/
def Obj.siAxisMask (s : Nat) : Obj := ⟨(0x7000 + s) * 256 + (0x04), 0⟩

/-- 0x7000+s:05 SI_REACTION: UINT16, RWS (14, R422). -/
def Obj.siReaction (s : Nat) : Obj := ⟨(0x7000 + s) * 256 + (0x05), 0⟩

/-- 0x7000+s:06 SI_WAKE: BOOL, RWS (14, R422). -/
def Obj.siWake (s : Nat) : Obj := ⟨(0x7000 + s) * 256 + (0x06), 0⟩

/-- 0x7020+s:01 SI_STATUS: UINT16, RO (14, R422). -/
def Obj.siStatus (s : Nat) : Obj := ⟨(0x7020 + s) * 256 + (0x01), 64⟩

/-- 0x7020+s:02 SI_NEAR_MISS_COUNT: UINT32, RO (14, R422). -/
def Obj.siNearMissCount (s : Nat) : Obj := ⟨(0x7020 + s) * 256 + (0x02), 0⟩

/-- 0x7020+s:03 SI_DISC_MAX: UINT16, RO (14, R422). -/
def Obj.siDiscMax (s : Nat) : Obj := ⟨(0x7020 + s) * 256 + (0x03), 0⟩

/-- 0x7020+s:04 SI_LAST_CHANGE: TIME64, RO (14, R422). -/
def Obj.siLastChange (s : Nat) : Obj := ⟨(0x7020 + s) * 256 + (0x04), 0⟩

/-- 0x7040:01 OP_WIDTH: UINT16, RWS (14, R430). -/
def Obj.opWidth : Obj := ⟨(0x7040) * 256 + (0x01), 75⟩

/-- 0x7040:02 PERMIT_ARM_REACTION: UINT16, RWS (14, R430). -/
def Obj.permitArmReaction : Obj := ⟨(0x7040) * 256 + (0x02), 1⟩

/-- 0x7048+c:01 OP_FAULT_MAP: UINT16, RO (14, R430). -/
def Obj.opFaultMap (c : Ch) : Obj := ⟨(0x7048 + c.num) * 256 + (0x01), 0⟩

/-- 0x7048+c:02 OP_UNTESTED_MAP: UINT16, RO (14, R430). -/
def Obj.opUntestedMap (c : Ch) : Obj := ⟨(0x7048 + c.num) * 256 + (0x02), 0⟩

/-- 0x7048+c:03 OP_FAILS: UINT32, RO (14, R430). -/
def Obj.opFails (c : Ch) : Obj := ⟨(0x7048 + c.num) * 256 + (0x03), 0⟩

/-- 0x7048+c:04 OP_LAST_FAIL: TIME64, RO (14, R430). -/
def Obj.opLastFail (c : Ch) : Obj := ⟨(0x7048 + c.num) * 256 + (0x04), 0⟩

/-- 0x7060:01 FAULT_RESET: UINT16, RW (14, R436). -/
def Obj.faultReset : Obj := ⟨(0x7060) * 256 + (0x01), 0⟩

/-- 0x7060:02 RESET_STATUS: UINT16, RO (14, R436). -/
def Obj.resetStatus : Obj := ⟨(0x7060) * 256 + (0x02), 0⟩

/-- 0x7060:03 RESET_COUNT: UINT32, RO (14, R436). -/
def Obj.resetCount : Obj := ⟨(0x7060) * 256 + (0x03), 0⟩

/-- 0x7060:04 RESET_REJECTS: UINT32, RO (14, R436). -/
def Obj.resetRejects : Obj := ⟨(0x7060) * 256 + (0x04), 0⟩

/-- 0x7060:05 LAST_RESET_TIME: TIME64, RO (14, R436). -/
def Obj.lastResetTime : Obj := ⟨(0x7060) * 256 + (0x05), 0⟩

/-- 0x7800:01 CL_MODE: UINT16, RWS (14, R445). -/
def Obj.clMode : Obj := ⟨(0x7800) * 256 + (0x01), 0⟩

/-- 0x7800:02 CL_COUNT: UINT16, RO (14, R445). -/
def Obj.clCount : Obj := ⟨(0x7800) * 256 + (0x02), 0⟩

/-- 0x7800:03 CL_NEXT_SEQ: UINT32, RO (14, R445). -/
def Obj.clNextSeq : Obj := ⟨(0x7800) * 256 + (0x03), 0⟩

/-- 0x7800:04 CL_LAST_CHAIN: UINT32, RO (14, R445). -/
def Obj.clLastChain : Obj := ⟨(0x7800) * 256 + (0x04), (Config.deviceUid % 2 ^ 32 : Nat)⟩

/-- 0x7800:05 CL_BASE_CHAIN: UINT32, RO (14, R445). -/
def Obj.clBaseChain : Obj := ⟨(0x7800) * 256 + (0x05), (Config.deviceUid % 2 ^ 32 : Nat)⟩

/-- 0x7800:06 CL_OVERWRITTEN: UINT32, RO (14, R445). -/
def Obj.clOverwritten : Obj := ⟨(0x7800) * 256 + (0x06), 0⟩

/-- 0x7800:07 CL_CLEAR: UINT32, RWS (14, R445). -/
def Obj.clClear : Obj := ⟨(0x7800) * 256 + (0x07), 0⟩

/-- 0x7801:00 CL_DATA: DOMAIN, RO (14, R445). -/
def Obj.clData : Obj := ⟨(0x7801) * 256 + (0x00), 0⟩

/-- 0x7080:01 PW_ENTER: VISIBLE_STRING, WO (14, R446). -/
def Obj.pwEnter : Obj := ⟨(0x7080) * 256 + (0x01), 0⟩

/-- 0x7080:02 PW_NEW: VISIBLE_STRING, WO (14, R446). -/
def Obj.pwNew : Obj := ⟨(0x7080) * 256 + (0x02), 0⟩

/-- 0x7080:03 PW_LOCK: UINT16, WO (14, R446). -/
def Obj.pwLock : Obj := ⟨(0x7080) * 256 + (0x03), 0⟩

/-- 0x7080:04 PW_STATUS: UINT16, RO (14, R446). -/
def Obj.pwStatus : Obj := ⟨(0x7080) * 256 + (0x04), 0⟩

/-- 0x7080:05 PW_FAIL_COUNT: UINT16, RO (14, R446). -/
def Obj.pwFailCount : Obj := ⟨(0x7080) * 256 + (0x05), 0⟩

/-- 0x7080:06 PW_LOCKOUT_LEFT: UINT32, RO (14, R446). -/
def Obj.pwLockoutLeft : Obj := ⟨(0x7080) * 256 + (0x06), 0⟩

/-- 0x7080:07 PW_SALT: OCTET_STRING, RO (14, R446). -/
def Obj.pwSalt : Obj := ⟨(0x7080) * 256 + (0x07), 0⟩

/-- 0x7080:08 UNLOCK_IDLE: UINT16, RWS (14, R446). -/
def Obj.unlockIdle : Obj := ⟨(0x7080) * 256 + (0x08), 600⟩

/-- 0x70A0+c:01 SUPPLY_STATUS: UINT16, RO (14, R448). -/
def Obj.supplyStatus (c : Ch) : Obj := ⟨(0x70A0 + c.num) * 256 + (0x01), 0⟩

/-- 0x8000+c:01 PL_REQUEST: UINT16, RW (15, R473). -/
def Obj.plRequest (c : Ch) : Obj := ⟨(0x8000 + c.num) * 256 + (0x01), 3⟩

/-- 0x8000+c:02 PL_NOW: UINT16, RO (15, R473). -/
def Obj.plNow (c : Ch) : Obj := ⟨(0x8000 + c.num) * 256 + (0x02), 3⟩

/-- 0x8000+c:03 PL_VDDC_MV: UINT16, RO (15, R473). -/
def Obj.plVddcMv (c : Ch) : Obj := ⟨(0x8000 + c.num) * 256 + (0x03), 850⟩

/-- 0x8000+c:04 PL_STATUS: UINT16, RO (15, R473). -/
def Obj.plStatus (c : Ch) : Obj := ⟨(0x8000 + c.num) * 256 + (0x04), 0⟩

/-- 0x8004:01 PL_VOLT_TIMEOUT: UINT16, RW (15, R473). -/
def Obj.plVoltTimeout : Obj := ⟨(0x8004) * 256 + (0x01), 5⟩

/-- 0x8008:01 NAP_IDLE: UINT16, RW (15, R473). -/
def Obj.napIdle : Obj := ⟨(0x8008) * 256 + (0x01), 50⟩

/-- 0x8008:02 RETAIN_IDLE: UINT16, RW (15, R473). -/
def Obj.retainIdle : Obj := ⟨(0x8008) * 256 + (0x02), 100⟩

/-- 0x8008:03 PARK_IDLE: UINT16, RW (15, R473). -/
def Obj.parkIdle : Obj := ⟨(0x8008) * 256 + (0x03), 30⟩

/-- 0x8008:04 VEHICLE_PARKED: BOOL, RW (15, R473). -/
def Obj.vehicleParked : Obj := ⟨(0x8008) * 256 + (0x04), 0⟩

/-- 0x8008:05 PWR_REQUEST: UINT16, WO (15, R473). -/
def Obj.pwrRequest : Obj := ⟨(0x8008) * 256 + (0x05), 0⟩

/-- 0x8008:06 SLEEP_ENABLE: UINT16, RWS (15, R473). -/
def Obj.sleepEnable : Obj := ⟨(0x8008) * 256 + (0x06), 7⟩

/-- 0x8010:01 PWR_STATUS: UINT16, RO (15, R473). -/
def Obj.pwrStatus : Obj := ⟨(0x8010) * 256 + (0x01), 0⟩

/-- 0x8010:02 WAKE_CAUSE: UINT16, RO (15, R473). -/
def Obj.wakeCause : Obj := ⟨(0x8010) * 256 + (0x02), 8⟩

/-- 0x8010:03 LAST_WAKE_TIME: TIME64, RO (15, R473). -/
def Obj.lastWakeTime : Obj := ⟨(0x8010) * 256 + (0x03), 0⟩

/-- 0x8010:04 WAKE_COUNT: UINT32, RO (15, R473). -/
def Obj.wakeCount : Obj := ⟨(0x8010) * 256 + (0x04), 0⟩

/-- 0x8020:01 RTC_SECONDS: UINT32, RW (15, R473). -/
def Obj.rtcSeconds : Obj := ⟨(0x8020) * 256 + (0x01), 0⟩

/-- 0x8020:02 RTC_ALARM: UINT32, RW (15, R473). -/
def Obj.rtcAlarm : Obj := ⟨(0x8020) * 256 + (0x02), 0⟩

/-- 0x8020:03 SCRUB_CORRECTED: UINT32, RO (15, R473). -/
def Obj.scrubCorrected : Obj := ⟨(0x8020) * 256 + (0x03), 0⟩

/-- 0x8020:04 SCRUB_UNCORRECTABLE: UINT32, RO (15, R473). -/
def Obj.scrubUncorrectable : Obj := ⟨(0x8020) * 256 + (0x04), 0⟩

/-- 0x8020:05 MRAM_REWRITTEN: UINT32, RO (15, R473). -/
def Obj.mramRewritten : Obj := ⟨(0x8020) * 256 + (0x05), 0⟩

/-- 0x8020:06 MRAM_UNCORRECTABLE: UINT32, RO (15, R473). -/
def Obj.mramUncorrectable : Obj := ⟨(0x8020) * 256 + (0x06), 0⟩

/-- 0x8020:07 MRAM_SWEEP_AGE: UINT16, RO (15, R473). -/
def Obj.mramSweepAge : Obj := ⟨(0x8020) * 256 + (0x07), 0⟩

/-- 0x8040:01 REFUSAL_COUNT: UINT32, RO (15, R473). -/
def Obj.refusalCount : Obj := ⟨(0x8040) * 256 + (0x01), 0⟩

/-- 0x8040:02 LAST_REFUSER: UINT16, RO (15, R473). -/
def Obj.lastRefuser : Obj := ⟨(0x8040) * 256 + (0x02), 0⟩

/-- 0x8040:03 LAST_REFUSED_STATE: UINT16, RO (15, R473). -/
def Obj.lastRefusedState : Obj := ⟨(0x8040) * 256 + (0x03), 0⟩

/-- 0x8040:04 LAST_REFUSAL_TIME: TIME64, RO (15, R473). -/
def Obj.lastRefusalTime : Obj := ⟨(0x8040) * 256 + (0x04), 0⟩

/-- 0x8040:05 REFUSER_MAP: UINT16, RO (15, R473). -/
def Obj.refuserMap : Obj := ⟨(0x8040) * 256 + (0x05), 0⟩

/-- 0x9800+d:01 DOMAIN_MODE: UINT16, RW (15, R476). -/
def Obj.domainMode (d : Nat) : Obj := ⟨(0x9800 + d) * 256 + (0x01), 3⟩

/-- 0x9800+d:02 DOMAIN_STATE: UINT16, RO (15, R476). -/
def Obj.domainState (d : Nat) : Obj := ⟨(0x9800 + d) * 256 + (0x02), 0⟩

/-- 0x9800+d:03 DOMAIN_LAST: UINT16, RO (15, R476). -/
def Obj.domainLast (d : Nat) : Obj := ⟨(0x9800 + d) * 256 + (0x03), 0⟩

/-- 0xB000:01 LC_STATE: UINT16, RO (16, R495). -/
def Obj.lcState : Obj := ⟨(0xB000) * 256 + (0x01), 0⟩

/-- 0xB000:02 LC_REQUEST: UINT32, WO (16, R495). -/
def Obj.lcRequest : Obj := ⟨(0xB000) * 256 + (0x02), 0⟩

/-- 0xB000:03 LC_STATUS: UINT16, RO (16, R495). -/
def Obj.lcStatus : Obj := ⟨(0xB000) * 256 + (0x03), 0⟩

/-- 0xB000:04 DEBUG_PERMIT: BOOL, RWS (16, R495). -/
def Obj.debugPermit : Obj := ⟨(0xB000) * 256 + (0x04), 0⟩

/-- 0xB000:05 LC_LAST_CHANGE: UINT32, RO (16, R495). -/
def Obj.lcLastChange : Obj := ⟨(0xB000) * 256 + (0x05), 0⟩

/-- 0xB010+c:01 LBIST_FAIL_MAP: UINT32, RO (16, R495). -/
def Obj.lbistFailMap (c : Ch) : Obj := ⟨(0xB010 + c.num) * 256 + (0x01), 0⟩

/-- 0xB010+c:02 MBIST_FAIL_MAP: UINT32, RO (16, R495). -/
def Obj.mbistFailMap (c : Ch) : Obj := ⟨(0xB010 + c.num) * 256 + (0x02), 0⟩

/-- 0xB010+c:03 MBIST_REPAIRS: UINT16, RO (16, R495). -/
def Obj.mbistRepairs (c : Ch) : Obj := ⟨(0xB010 + c.num) * 256 + (0x03), 0⟩

/-- 0xB010+c:04 BIST_DURATION: UINT16, RO (16, R495). -/
def Obj.bistDuration (c : Ch) : Obj := ⟨(0xB010 + c.num) * 256 + (0x04), 0⟩

/-- 0xB020:01 SLICE_ENABLE: BOOL, RWS (16, R495). -/
def Obj.sliceEnable : Obj := ⟨(0xB020) * 256 + (0x01), 1⟩

/-- 0xB020:02 SLICE_ROTATIONS: UINT32, RO (16, R495). -/
def Obj.sliceRotations : Obj := ⟨(0xB020) * 256 + (0x02), 0⟩

/-- 0xB020:03 SLICE_ABORTS: UINT32, RO (16, R495). -/
def Obj.sliceAborts : Obj := ⟨(0xB020) * 256 + (0x03), 0⟩

/-- 0xB020:04 SLICE_REFUSALS: UINT32, RO (16, R495). -/
def Obj.sliceRefusals : Obj := ⟨(0xB020) * 256 + (0x04), 0⟩

/-- 0xB020:05 SLICE_FAILS: UINT32, RO (16, R495). -/
def Obj.sliceFails : Obj := ⟨(0xB020) * 256 + (0x05), 0⟩

/-- 0xB020:06 ROTATION_MAX: UINT16, RO (16, R495). -/
def Obj.rotationMax : Obj := ⟨(0xB020) * 256 + (0x06), 0⟩

/-- 0xB028+c:(e+1) SLICE_NEXT: UINT16, RO (16, R495). -/
def Obj.sliceNext (c : Ch) (e : Nat) : Obj := ⟨(0xB028 + c.num) * 256 + (0x01 + e), 0⟩

/-- 0xC000:01 SED_TRIGGER: UINT16, WO (17, R514). -/
def Obj.sedTrigger : Obj := ⟨(0xC000) * 256 + (0x01), 0⟩

/-- 0xC000:02 SED_RELEASE: UINT16, RWS (17, R514). -/
def Obj.sedRelease : Obj := ⟨(0xC000) * 256 + (0x02), 0⟩

/-- 0xC000:03 SED_TRACE_RATE: UINT16, RW (17, R514). -/
def Obj.sedTraceRate : Obj := ⟨(0xC000) * 256 + (0x03), 1000⟩

/-- 0xC001:01–:10 SED_TRACE_NODE0–15: UINT32, RW (17, R514). -/
def Obj.sedTraceNode (i : Nat) : Obj := ⟨(0xC001) * 256 + (0x01 + i), 0⟩

/-- 0xC010+c:01 SED_STATUS: UINT16, RO (17, R515). -/
def Obj.sedStatus (c : Ch) : Obj := ⟨(0xC010 + c.num) * 256 + (0x01), 0⟩

/-- 0xC010+c:02 SED_EVENTS: UINT32, RO (17, R515). -/
def Obj.sedEvents (c : Ch) : Obj := ⟨(0xC010 + c.num) * 256 + (0x02), 0⟩

/-- 0xC010+c:03 SED_FREEZE_TIME: TIME64, RO (17, R515). -/
def Obj.sedFreezeTime (c : Ch) : Obj := ⟨(0xC010 + c.num) * 256 + (0x03), 0⟩

/-- 0xC010+c:04 SED_FREEZE_CAUSE: UINT16, RO (17, R515). -/
def Obj.sedFreezeCause (c : Ch) : Obj := ⟨(0xC010 + c.num) * 256 + (0x04), 0⟩

/-- 0xC010+c:05 SED_SUM_VALID: UINT16, RO (17, R515). -/
def Obj.sedSumValid (c : Ch) : Obj := ⟨(0xC010 + c.num) * 256 + (0x05), 0⟩

/-- 0xC010+c:06 SED_SUM_LOCK: UINT16, RWS (17, R515). -/
def Obj.sedSumLock (c : Ch) : Obj := ⟨(0xC010 + c.num) * 256 + (0x06), 0⟩

/-- 0xC010+c:07 SED_SUM_NEWEST: UINT16, RO (17, R515). -/
def Obj.sedSumNewest (c : Ch) : Obj := ⟨(0xC010 + c.num) * 256 + (0x07), 255⟩

/-- 0xC010+c:08 SED_SUM_DROPPED: UINT32, RO (17, R515). -/
def Obj.sedSumDropped (c : Ch) : Obj := ⟨(0xC010 + c.num) * 256 + (0x08), 0⟩

/-- 0xC010+c:09 SED_SUPPRESSED: UINT32, RO (17, R515). -/
def Obj.sedSuppressed (c : Ch) : Obj := ⟨(0xC010 + c.num) * 256 + (0x09), 0⟩

/-- 0xC020+c:01 SED_RING: DOMAIN, RO (17, R515). -/
def Obj.sedRing (c : Ch) : Obj := ⟨(0xC020 + c.num) * 256 + (0x01), 0⟩

/-- 0xC020+c:02 SED_TRACE: DOMAIN, RO (17, R515). -/
def Obj.sedTrace (c : Ch) : Obj := ⟨(0xC020 + c.num) * 256 + (0x02), 0⟩

/-- 0xC030+8c+k:01 SUM_HEADER: DOMAIN, RO (17, R515). -/
def Obj.sumHeader (c : Ch) (k : Nat) : Obj := ⟨(0xC030 + 8 * c.num + k) * 256 + (0x01), 0⟩

/-- 0xC030+8c+k:02 SUM_EVENTS: DOMAIN, RO (17, R515). -/
def Obj.sumEvents (c : Ch) (k : Nat) : Obj := ⟨(0xC030 + 8 * c.num + k) * 256 + (0x02), 0⟩

/-- 0xC030+8c+k:03 SUM_TRACE: DOMAIN, RO (17, R515). -/
def Obj.sumTrace (c : Ch) (k : Nat) : Obj := ⟨(0xC030 + 8 * c.num + k) * 256 + (0x03), 0⟩

/-- 0xF030+c:01 SU_STEP: UINT16, RO (18, R525). -/
def Obj.suStep (c : Ch) : Obj := ⟨(0xF030 + c.num) * 256 + (0x01), 0⟩

/-- 0xF030+c:02 SU_FAIL_STEP: UINT16, RO (18, R525). -/
def Obj.suFailStep (c : Ch) : Obj := ⟨(0xF030 + c.num) * 256 + (0x02), 0⟩

/-- 0xF030+c:03 SU_READY_TIME: TIME64, RO (18, R525). -/
def Obj.suReadyTime (c : Ch) : Obj := ⟨(0xF030 + c.num) * 256 + (0x03), 0⟩

/-- 0xF030+c:04 SU_DURATION: UINT16, RO (18, R525). -/
def Obj.suDuration (c : Ch) : Obj := ⟨(0xF030 + c.num) * 256 + (0x04), 0⟩

/-- 0xF034:01 SU_STATUS: UINT16, RO (18, R525). -/
def Obj.suStatus : Obj := ⟨(0xF034) * 256 + (0x01), 0⟩

end Sys2Proof.Machine
end

