-- ==== Sys2Proof/Machine/Dict.lean ====
section
/-! DEFINITION. The dictionary's descriptor table (R56 to R59, R61 to R63): for every object of the chapters' tables its
indices, type, access, range, default and where it is held. The rows follow the object tables of spec/00 to spec/18 and
the records that R103, R336 and R376 give in words. -/

namespace Sys2Proof.Machine

/-- The types of R57 that objects use. -/
inductive Ty where
  | bool
  | int16
  | int32
  | uint16
  | uint32
  | uint64
  | q15
  | time64
  | visible
  | octets
  | domain
deriving DecidableEq, Repr

/-- The number of bytes of a value of a fixed-size type (R57). -/
def Ty.size : Ty → Nat
  | .bool => 2
  | .int16 => 2
  | .uint16 => 2
  | .q15 => 2
  | .int32 => 4
  | .uint32 => 4
  | .uint64 => 8
  | .time64 => 8
  | .visible => 0
  | .octets => 0
  | .domain => 0

/-- Whether values of the type are two's complement. -/
def Ty.signed : Ty → Bool
  | .int16 => true
  | .int32 => true
  | .q15 => true
  | _ => false

/-- The access rights of R58. -/
inductive Acc where
  | ro
  | rw
  | wo
  | rws
  | rwp
  | const
deriving DecidableEq, Repr

/-- Where an object is held: one copy per channel (R61), in the channel of its index block (R62), as a sum over the
channels, or in the owner channel of its task (R220). -/
inductive Home where
  | repl
  | chan
  | sum
  | owner
deriving DecidableEq, Repr

/-- The object that a descriptor describes, by name; `count` is the subindex 0 of a record (R56). -/
inductive Role where
  | count
  | deviceName
  | microcodeVersion
  | storeAll
  | restoreDefaults
  | vendorId
  | productCode
  | steppingCode
  | deviceUid
  | hostLaneEnable
  | hostLaneStatus
  | sgmiiAnEnable
  | portMac
  | portIpMode
  | portIpv4Addr
  | portIpv4Prefix
  | portIpv6Addr
  | portVlanId
  | portVlanPcp
  | cbStrip
  | asEnable
  | cyclicUdpPort
  | cyclicEnable
  | cycleTime
  | cyclicCopyWindow
  | statusOffset
  | portSilentTime
  | cmdMapSignature
  | statusMapSignature
  | portStatus
  | cycApplied
  | cycLate
  | cycOvertaken
  | cycStale
  | cycDiscarded
  | cycAgreeFail
  | cycEntriesDenied
  | cmdMapCount
  | cmdMapEntry
  | statusMapCount
  | statusMapEntry
  | kdpUdpPort
  | kdpTimeout
  | kdpCopyWindow
  | kdpReplayTime
  | kdpSegSizeUdp
  | kdpCanEnable
  | kdpCanReqId
  | kdpCanRspBase
  | kdpCanFormat
  | kdpCanRates
  | kdpCanSafetyWrite
  | kdpProxyEnable
  | kdpProxyStream
  | kdpFramesDiscarded
  | kdpAgreeFailures
  | kdpAbortsSent
  | kdpReplays
  | taskPeriod
  | taskDeadline
  | taskAxis
  | taskIn
  | taskOut
  | taskPin
  | taskStatic
  | planSite
  | taskMoves
  | taskPlaceStatus
  | objDesc
  | utilCap
  | engineMinScore
  | ownerMargin
  | planAdapt
  | twinPlaceEnable
  | remoteMinPeriod
  | remoteBudget
  | placeStream
  | planRequest
  | planStatus
  | planCount
  | planLastTime
  | planLastCause
  | planVoteMismatch
  | planNoMajority
  | fallbackMoves
  | healthAge
  | moveMinPeriod
  | planDigest
  | engineScore
  | channelScore
  | deviceScore
  | twinScore
  | twinSpare
  | engineUtil
  | noFallbackMap
  | engineTestMap
  | sluiceAg
  | sluiceSummary
  | sluiceFair
  | leaseTime
  | holdTime
  | leaseExpiries
  | redundState
  | redundStatus
  | ssBound
  | ssRemaining
  | passiveRequest
  | stateEntryTime
  | chState
  | chFaultCause
  | chMismatchCount
  | chMissingCount
  | chCodingFaults
  | chFaultTime
  | engineFaultMapA
  | engineFaultMapB
  | engineFaultMapC
  | injResult
  | injAttempts
  | axRedundMode
  | axSafetyRated
  | axRedundStatus
  | lastMissStream
  | lastMissChannel
  | lastMissTime
  | axFbSource
  | axHome
  | axHomeValue
  | axFbStatus
  | latchPos
  | latchTime
  | latchPrevPos
  | latchPrevTime
  | axExtrapPos
  | extrapHorizon
  | latchCount
  | axReaction
  | axFaultCause
  | axFaultClear
  | axBridge
  | axTorqueEnable
  | baseLimit
  | boostLimit
  | boostHeadroom
  | boostSlew
  | loadTau
  | holdDelay
  | holdFraction
  | stallSpeed
  | stallTime
  | stallReaction
  | ocReaction
  | ilimitNow
  | loadEst
  | axCurrentStatus
  | agMode
  | agMember
  | agShare
  | agReallocW
  | agForceMax
  | agSafeTotal
  | agRemoteDelay
  | agForceTotal
  | agControl
  | agStatus
  | agLostMap
  | agForceDeficit
  | agReallocCount
  | agLead
  | cvEnable
  | sincOrder
  | decimRatio
  | cvSlotBind
  | windowAlign
  | calOffset
  | calGain
  | cvResult
  | cvStatus
  | cvSample
  | cvStatusClear
  | cvLastTime
  | grpStatus
  | grpOverrangeCount
  | calRequest
  | calPending
  | calFailMap
  | calSkipMap
  | calLastTime
  | diagScanMask
  | diagInject
  | diagInjState
  | diagInjCode
  | diagSrcCode
  | fpMode
  | fpFilter
  | fpInvert
  | fpIndexMode
  | fpCountsPerRev
  | fpIndexTol
  | stepWidth
  | dirSetup
  | fpRaw
  | fpPos
  | fpStatus
  | fpStatusClear
  | indexRaw
  | indexTime
  | indexOffset
  | fpIndexMismatchCount
  | fpQuadErrCount
  | fpPreset
  | cmpPosition
  | cmpControl
  | cmpPulseWidth
  | cmpCounter
  | cmpFireCount
  | cmpMergedCount
  | resEnable
  | resExcPort
  | resExcFreq
  | resPhase
  | resBw
  | resAmpNom
  | resAngle
  | resStatus
  | resRaw
  | resPos
  | spMode
  | sentTick
  | sentCrc
  | sentPause
  | psi5Rate
  | psi5Bits
  | psi5Check
  | psi5SyncPeriod
  | psi5SlotStart
  | spAge
  | spTimeout
  | spRaw
  | spPos
  | spStatus
  | spStatusClear
  | spValue
  | spStatusNibble
  | sentSlowBits
  | spErrCount
  | spLastTime
  | spPreset
  | taskType
  | taskEnable
  | bankSelect
  | intFrac
  | intInit
  | feLimit
  | feTime
  | feReaction
  | invalidMax
  | invalidReaction
  | dqAngleOffset
  | dqRecon
  | dqSumLimit
  | dqVdcSource
  | dqVdcNominal
  | coef
  | shift
  | outMax
  | outMin
  | taskStatus
  | lastOutput
  | lastError
  | intState
  | iterations
  | deadlineMisses
  | arithSatCount
  | swapCount
  | feMax
  | holdCount
  | maxExec
  | dqStatus
  | traceControl
  | traceNodes
  | traceDecim
  | traceLength
  | tracePre
  | traceTrigSrc
  | traceTrigNode
  | traceTrigLevel
  | traceStatus
  | traceChannel
  | traceTrigTime
  | traceRecords
  | traceDropped
  | traceData
  | bsMode
  | pwmTop
  | pwmPhase
  | deadTime
  | dutyMax
  | ckptOffset
  | pwmPolarity
  | bsStatus
  | dutyU
  | dutyV
  | dutyW
  | repeatCount
  | valleyTime
  | gspiEnable
  | gspiChain
  | gspiDiv
  | gspiMode
  | gdPollPeriod
  | gdNopWord
  | gdInitCount
  | gdInitEntry
  | gdPollCount
  | gdPollEntry
  | gdFaultAction
  | gdStatus
  | gdLastRx
  | gdFaultCount
  | pgQsDec
  | ssWindow
  | ssTime
  | safeMode
  | safeTarget
  | pgTarget
  | pgVmax
  | pgAcc
  | pgDec
  | pgControl
  | pgSetpoint
  | pgVelNow
  | pgTargetNow
  | pgPending
  | pgStatus
  | siMode
  | siFilter
  | siDiscTime
  | siAxisMask
  | siReaction
  | siWake
  | siStatus
  | siNearMissCount
  | siDiscMax
  | siLastChange
  | opWidth
  | permitArmReaction
  | opFaultMap
  | opUntestedMap
  | opFails
  | opLastFail
  | faultReset
  | resetStatus
  | resetCount
  | resetRejects
  | lastResetTime
  | pwEnter
  | pwNew
  | pwLock
  | pwStatus
  | pwFailCount
  | pwLockoutLeft
  | pwSalt
  | unlockIdle
  | supplyStatus
  | clMode
  | clCount
  | clNextSeq
  | clLastChain
  | clBaseChain
  | clOverwritten
  | clClear
  | clData
  | plRequest
  | plNow
  | plVddcMv
  | plStatus
  | plVoltTimeout
  | napIdle
  | retainIdle
  | parkIdle
  | vehicleParked
  | pwrRequest
  | sleepEnable
  | pwrStatus
  | wakeCause
  | lastWakeTime
  | wakeCount
  | rtcSeconds
  | rtcAlarm
  | scrubCorrected
  | scrubUncorrectable
  | mramRewritten
  | mramUncorrectable
  | mramSweepAge
  | refusalCount
  | lastRefuser
  | lastRefusedState
  | lastRefusalTime
  | refuserMap
  | domainMode
  | domainState
  | domainLast
  | fabNodeAddr
  | fabAddrInUse
  | fabStatus
  | fabTimePriority
  | fabTimeMaster
  | fabMaxTtl
  | fabLaneEnable
  | fabAuthMode
  | fabAuthSlot
  | fabAgreeWindow
  | fabAuthKey0
  | fabAuthKey1
  | fabKeyId
  | fabFramesFwd
  | fabTtlDrops
  | fabNoRoute
  | fabStreamReject
  | fabRateDrops
  | fabAgreeFail
  | fabElimDuplicates
  | fabElimLate
  | fabElimResets
  | fabAuthFails
  | laneState
  | laneCost
  | lanePeerUid
  | lanePeerAddr
  | lanePeerPos
  | laneCrcErrors
  | laneDelay
  | streamDesc
  | nodeUid
  | nodeReach
  | twinPeerAddr
  | twinPeerUid
  | twinPairCmd
  | twinPreferred
  | twinSteerAxes
  | twinBrakeAxes
  | twinSpareAddr
  | twinHandshakeTime
  | twinEligibleTime
  | quietAxis
  | quietRate
  | quietGroup
  | quietBand
  | quietTime
  | spareDelay
  | twinState
  | twinStatus
  | twinEpoch
  | twinPairResult
  | twinConfigDigest
  | twinHbMisses
  | twinHbRejects
  | twinTakeovers
  | twinFailbacks
  | twinStaleClaims
  | twinEligibleAge
  | twinLastChange
  | sparePair0
  | sparePair1
  | lcState
  | lcRequest
  | lcStatus
  | debugPermit
  | lcLastChange
  | lbistFailMap
  | mbistFailMap
  | mbistRepairs
  | bistDuration
  | sliceEnable
  | sliceRotations
  | sliceAborts
  | sliceRefusals
  | sliceFails
  | rotationMax
  | sliceNext
  | sedTrigger
  | sedRelease
  | sedTraceRate
  | sedTraceNode
  | sedStatus
  | sedEvents
  | sedFreezeTime
  | sedFreezeCause
  | sedSumValid
  | sedSumLock
  | sedSumNewest
  | sedSumDropped
  | sedSuppressed
  | sedRing
  | sedTrace
  | sumHeader
  | sumEvents
  | sumTrace
  | deviceTime
  | timeStatus
  | timeOffset
  | timeRateAdj
  | channelSkewMax
  | strapStatus
  | strapNidA
  | strapNidB
  | strapNidC
  | suStep
  | suFailStep
  | suReadyTime
  | suDuration
  | suStatus
  | hrUid
  | hrRedundState
  | hrDeviceScore
  | hrSpare
  | hrTwinState
  | hrEpoch
  | hrFaultSummary
  | hrSliceAge
  | hrSliceFails
  | hrTime
deriving DecidableEq, Repr

/-- A descriptor: first index; count and stride of up to three instance numbers; first subindex and how many; type,
access, lowest and highest value, home, name, and the default by the first two instance numbers. -/
structure Desc where
  base : Nat
  n1 : Nat
  s1 : Nat
  n2 : Nat
  s2 : Nat
  n3 : Nat
  s3 : Nat
  sub : Nat
  nsub : Nat
  ty : Ty
  acc : Acc
  lo : Int
  hi : Int
  home : Home
  role : Role
  dflt : Nat → Nat → Int

/-- An index and subindex found in the table: the descriptor and the instance numbers. -/
structure Entry where
  desc : Desc
  i : Nat
  j : Nat
  k : Nat
  /-- subindex counted from the descriptor's first -/
  m : Nat
  key : Nat

/-- Objects of indices 0x1000 to 0x11FF, part 1. -/
def dictA0 : List Desc := [
    ⟨0x1008, 1, 0x10000, 1, 65536, 1, 1, 0x00, 1, .visible, .const, 0, 0, .repl, .deviceName, fun _ _ => 0⟩,
    ⟨0x100A, 1, 0x10000, 1, 65536, 1, 1, 0x00, 1, .visible, .ro, 0, 0, .repl, .microcodeVersion, fun _ _ => 0⟩,
    ⟨0x1010, 1, 0x10000, 1, 65536, 1, 1, 0x01, 1, .uint32, .wo, 0x65766173, 0x65766173, .repl, .storeAll, fun _ _ => 0⟩,
    ⟨0x1011, 1, 0x10000, 1, 65536, 1, 1, 0x01, 1, .uint32, .rws, 0x64616f6c, 0x64616f6c, .repl, .restoreDefaults, fun _ _ => 0⟩,
    ⟨0x1018, 1, 0x10000, 1, 65536, 1, 1, 0x01, 1, .uint32, .const, 0, 0xffffffff, .repl, .vendorId, fun _ _ => 54298⟩,
    ⟨0x1018, 1, 0x10000, 1, 65536, 1, 1, 0x02, 1, .uint32, .const, 0, 0xffffffff, .repl, .productCode, fun _ _ => 18532⟩,
    ⟨0x1018, 1, 0x10000, 1, 65536, 1, 1, 0x03, 1, .uint32, .const, 0, 0xffffffff, .repl, .steppingCode, fun _ _ => 2⟩,
    ⟨0x1018, 1, 0x10000, 1, 65536, 1, 1, 0x04, 1, .uint64, .const, 0, 0xffffffffffffffff, .repl, .deviceUid, fun _ _ => Config.deviceUid⟩,
    ⟨0x1100, 1, 0x10000, 1, 65536, 1, 1, 0x01, 1, .uint16, .rws, 0, 63, .repl, .hostLaneEnable, fun _ _ => 63⟩,
    ⟨0x1100, 1, 0x10000, 1, 65536, 1, 1, 0x02, 1, .uint16, .ro, 0, 65535, .repl, .hostLaneStatus, fun _ _ => 0⟩,
    ⟨0x1100, 1, 0x10000, 1, 65536, 1, 1, 0x03, 1, .bool, .rw, 0, 1, .repl, .sgmiiAnEnable, fun _ _ => 1⟩,
    ⟨0x1110, 2, 1, 1, 1, 1, 1, 0x01, 1, .octets, .rws, 0, 0, .repl, .portMac, fun _ _ => 0⟩,
    ⟨0x1110, 2, 1, 1, 1, 1, 1, 0x02, 1, .uint16, .rws, 0, 2, .repl, .portIpMode, fun _ _ => 0⟩,
    ⟨0x1110, 2, 1, 1, 1, 1, 1, 0x03, 1, .uint32, .rws, 0, 0xffffffff, .repl, .portIpv4Addr, fun i _ => 0xC0A8300A + i⟩,
    ⟨0x1110, 2, 1, 1, 1, 1, 1, 0x04, 1, .uint16, .rws, 8, 30, .repl, .portIpv4Prefix, fun _ _ => 24⟩,
    ⟨0x1110, 2, 1, 1, 1, 1, 1, 0x05, 1, .octets, .rws, 0, 0, .repl, .portIpv6Addr, fun _ _ => 0⟩,
    ⟨0x1110, 2, 1, 1, 1, 1, 1, 0x06, 1, .uint16, .rws, 0, 4094, .repl, .portVlanId, fun _ _ => 0⟩,
    ⟨0x1110, 2, 1, 1, 1, 1, 1, 0x07, 1, .uint16, .rw, 0, 7, .repl, .portVlanPcp, fun _ _ => 5⟩,
    ⟨0x1110, 2, 1, 1, 1, 1, 1, 0x08, 1, .bool, .rw, 0, 1, .repl, .cbStrip, fun _ _ => 1⟩,
    ⟨0x1110, 2, 1, 1, 1, 1, 1, 0x09, 1, .bool, .rw, 0, 1, .repl, .asEnable, fun _ _ => 0⟩,
    ⟨0x1110, 2, 1, 1, 1, 1, 1, 0x0A, 1, .uint16, .rws, 1024, 65535, .repl, .cyclicUdpPort, fun _ _ => 48621⟩,
    ⟨0x1120, 2, 1, 1, 1, 1, 1, 0x01, 1, .bool, .rw, 0, 1, .repl, .cyclicEnable, fun _ _ => 0⟩,
    ⟨0x1120, 2, 1, 1, 1, 1, 1, 0x02, 1, .uint16, .rwp, 100, 10000, .repl, .cycleTime, fun _ _ => 1000⟩,
    ⟨0x1120, 2, 1, 1, 1, 1, 1, 0x03, 1, .uint16, .rw, 5, 50, .repl, .cyclicCopyWindow, fun _ _ => 20⟩,
    ⟨0x1120, 2, 1, 1, 1, 1, 1, 0x04, 1, .uint16, .rw, 10, 5000, .repl, .statusOffset, fun _ _ => 20⟩,
    ⟨0x1120, 2, 1, 1, 1, 1, 1, 0x05, 1, .uint16, .rw, 2, 1000, .repl, .portSilentTime, fun _ _ => 50⟩,
    ⟨0x1120, 2, 1, 1, 1, 1, 1, 0x06, 1, .uint16, .ro, 0, 65535, .repl, .cmdMapSignature, fun _ _ => 0⟩,
    ⟨0x1120, 2, 1, 1, 1, 1, 1, 0x07, 1, .uint16, .ro, 0, 65535, .repl, .statusMapSignature, fun _ _ => 0⟩,
    ⟨0x1120, 2, 1, 1, 1, 1, 1, 0x08, 1, .uint16, .ro, 0, 65535, .repl, .portStatus, fun _ _ => 0⟩,
    ⟨0x1130, 2, 1, 1, 1, 1, 1, 0x01, 1, .uint32, .ro, 0, 0xffffffff, .sum, .cycApplied, fun _ _ => 0⟩]

/-- Objects of indices 0x1000 to 0x11FF, part 2. -/
def dictA1 : List Desc := [
    ⟨0x1130, 2, 1, 1, 1, 1, 1, 0x02, 1, .uint32, .ro, 0, 0xffffffff, .sum, .cycLate, fun _ _ => 0⟩,
    ⟨0x1130, 2, 1, 1, 1, 1, 1, 0x03, 1, .uint32, .ro, 0, 0xffffffff, .sum, .cycOvertaken, fun _ _ => 0⟩,
    ⟨0x1130, 2, 1, 1, 1, 1, 1, 0x04, 1, .uint32, .ro, 0, 0xffffffff, .sum, .cycStale, fun _ _ => 0⟩,
    ⟨0x1130, 2, 1, 1, 1, 1, 1, 0x05, 1, .uint32, .ro, 0, 0xffffffff, .sum, .cycDiscarded, fun _ _ => 0⟩,
    ⟨0x1130, 2, 1, 1, 1, 1, 1, 0x06, 1, .uint32, .ro, 0, 0xffffffff, .sum, .cycAgreeFail, fun _ _ => 0⟩,
    ⟨0x1130, 2, 1, 1, 1, 1, 1, 0x07, 1, .uint32, .ro, 0, 0xffffffff, .sum, .cycEntriesDenied, fun _ _ => 0⟩,
    ⟨0x1140, 2, 1, 1, 1, 1, 1, 0x01, 1, .uint16, .rw, 0, 64, .repl, .cmdMapCount, fun _ _ => 0⟩,
    ⟨0x1140, 2, 1, 1, 1, 1, 1, 0x02, 64, .uint32, .rw, 0, 0xffffffff, .repl, .cmdMapEntry, fun _ _ => 0⟩,
    ⟨0x1160, 2, 1, 1, 1, 1, 1, 0x01, 1, .uint16, .rw, 0, 64, .repl, .statusMapCount, fun _ _ => 0⟩,
    ⟨0x1160, 2, 1, 1, 1, 1, 1, 0x02, 64, .uint32, .rw, 0, 0xffffffff, .repl, .statusMapEntry, fun _ _ => 0⟩]

/-- Objects of indices 0x1000 to 0x11FF. -/
def dictA : List Desc := dictA0 ++ dictA1

/-- Objects of indices 0x1200 to 0x1FFF, part 1. -/
def dictB0 : List Desc := [
    ⟨0x1200, 1, 0x10000, 1, 65536, 1, 1, 0x01, 1, .uint16, .rws, 1024, 65535, .repl, .kdpUdpPort, fun _ _ => 48620⟩,
    ⟨0x1200, 1, 0x10000, 1, 65536, 1, 1, 0x02, 1, .uint16, .rw, 1, 1000, .repl, .kdpTimeout, fun _ _ => 10⟩,
    ⟨0x1200, 1, 0x10000, 1, 65536, 1, 1, 0x03, 1, .uint16, .rw, 50, 2000, .repl, .kdpCopyWindow, fun _ _ => 200⟩,
    ⟨0x1200, 1, 0x10000, 1, 65536, 1, 1, 0x04, 1, .uint16, .rw, 10, 1000, .repl, .kdpReplayTime, fun _ _ => 100⟩,
    ⟨0x1200, 1, 0x10000, 1, 65536, 1, 1, 0x05, 1, .uint16, .rw, 64, 1024, .repl, .kdpSegSizeUdp, fun _ _ => 1024⟩,
    ⟨0x1210, 3, 1, 1, 1, 1, 1, 0x01, 1, .bool, .rws, 0, 1, .repl, .kdpCanEnable, fun _ _ => 0⟩,
    ⟨0x1210, 3, 1, 1, 1, 1, 1, 0x02, 1, .uint32, .rws, 0, 0x1fffffff, .repl, .kdpCanReqId, fun _ _ => 1600⟩,
    ⟨0x1210, 3, 1, 1, 1, 1, 1, 0x03, 1, .uint32, .rws, 0, 0x1ffffffd, .repl, .kdpCanRspBase, fun _ _ => 1472⟩,
    ⟨0x1210, 3, 1, 1, 1, 1, 1, 0x04, 1, .uint16, .rws, 0, 2, .repl, .kdpCanFormat, fun _ _ => 0⟩,
    ⟨0x1210, 3, 1, 1, 1, 1, 1, 0x05, 1, .uint16, .rws, 1, 261, .repl, .kdpCanRates, fun _ _ => 258⟩,
    ⟨0x1210, 3, 1, 1, 1, 1, 1, 0x06, 1, .bool, .rws, 0, 1, .repl, .kdpCanSafetyWrite, fun _ _ => 0⟩,
    ⟨0x1220, 1, 0x10000, 1, 65536, 1, 1, 0x01, 1, .bool, .rw, 0, 1, .repl, .kdpProxyEnable, fun _ _ => 1⟩,
    ⟨0x1220, 1, 0x10000, 1, 65536, 1, 1, 0x02, 1, .uint16, .rws, 0, 4095, .repl, .kdpProxyStream, fun _ _ => 3840⟩,
    ⟨0x1230, 1, 0x10000, 1, 65536, 1, 1, 0x01, 1, .uint32, .ro, 0, 0xffffffff, .sum, .kdpFramesDiscarded, fun _ _ => 0⟩,
    ⟨0x1230, 1, 0x10000, 1, 65536, 1, 1, 0x02, 1, .uint32, .ro, 0, 0xffffffff, .sum, .kdpAgreeFailures, fun _ _ => 0⟩,
    ⟨0x1230, 1, 0x10000, 1, 65536, 1, 1, 0x03, 1, .uint32, .ro, 0, 0xffffffff, .sum, .kdpAbortsSent, fun _ _ => 0⟩,
    ⟨0x1230, 1, 0x10000, 1, 65536, 1, 1, 0x04, 1, .uint32, .ro, 0, 0xffffffff, .sum, .kdpReplays, fun _ _ => 0⟩]

/-- Objects of indices 0x1200 to 0x1FFF. -/
def dictB : List Desc := dictB0

/-- Objects of indices 0x2000 to 0x23FF, part 1. -/
def dictC0 : List Desc := [
    ⟨0x2000, 512, 1, 1, 1, 1, 1, 0x01, 1, .uint32, .rwp, 10, 0x186a0, .repl, .taskPeriod, fun _ _ => 1000⟩,
    ⟨0x2000, 512, 1, 1, 1, 1, 1, 0x02, 1, .uint32, .rwp, 0, 0x186a0, .repl, .taskDeadline, fun _ _ => 0⟩,
    ⟨0x2000, 512, 1, 1, 1, 1, 1, 0x03, 1, .uint16, .rwp, 0, 255, .repl, .taskAxis, fun _ _ => 255⟩,
    ⟨0x2000, 512, 1, 1, 1, 1, 1, 0x04, 3, .uint32, .rwp, 0, 0xffffffff, .repl, .taskIn, fun _ _ => 0⟩,
    ⟨0x2000, 512, 1, 1, 1, 1, 1, 0x07, 1, .uint16, .rwp, 0, 65535, .repl, .taskOut, fun _ _ => 65535⟩,
    ⟨0x2000, 512, 1, 1, 1, 1, 1, 0x08, 1, .uint16, .rws, 0, 65535, .repl, .taskPin, fun _ _ => 0⟩,
    ⟨0x2000, 512, 1, 1, 1, 1, 1, 0x09, 1, .uint16, .rwp, 0, 65535, .repl, .taskStatic, fun _ _ => 65535⟩,
    ⟨0x2000, 512, 1, 1, 1, 1, 1, 0x0A, 1, .uint32, .ro, 0, 0xffffffff, .repl, .planSite, fun _ _ => 0⟩,
    ⟨0x2000, 512, 1, 1, 1, 1, 1, 0x0B, 1, .uint32, .ro, 0, 0xffffffff, .repl, .taskMoves, fun _ _ => 0⟩,
    ⟨0x2000, 512, 1, 1, 1, 1, 1, 0x0C, 1, .uint16, .ro, 0, 65535, .repl, .taskPlaceStatus, fun _ _ => 0⟩,
    ⟨0x2200, 256, 1, 1, 1, 1, 1, 0x01, 8, .uint64, .rws, 0, 0xffffffffffffffff, .repl, .objDesc, fun _ _ => 0x30⟩,
    ⟨0x2300, 1, 0x10000, 1, 65536, 1, 1, 0x01, 1, .uint16, .rws, 1000, 6000, .repl, .utilCap, fun _ _ => 6000⟩,
    ⟨0x2300, 1, 0x10000, 1, 65536, 1, 1, 0x02, 1, .uint16, .rws, 1, 255, .repl, .engineMinScore, fun _ _ => 64⟩,
    ⟨0x2300, 1, 0x10000, 1, 65536, 1, 1, 0x03, 1, .uint16, .rws, 0, 255, .repl, .ownerMargin, fun _ _ => 32⟩,
    ⟨0x2300, 1, 0x10000, 1, 65536, 1, 1, 0x04, 1, .bool, .rws, 0, 1, .repl, .planAdapt, fun _ _ => 1⟩,
    ⟨0x2300, 1, 0x10000, 1, 65536, 1, 1, 0x05, 1, .bool, .rws, 0, 1, .repl, .twinPlaceEnable, fun _ _ => 0⟩,
    ⟨0x2300, 1, 0x10000, 1, 65536, 1, 1, 0x06, 1, .uint32, .rws, 100, 0x186a0, .repl, .remoteMinPeriod, fun _ _ => 500⟩,
    ⟨0x2300, 1, 0x10000, 1, 65536, 1, 1, 0x07, 1, .uint16, .rws, 1, 200, .repl, .remoteBudget, fun _ _ => 20⟩,
    ⟨0x2300, 1, 0x10000, 1, 65536, 1, 1, 0x08, 1, .uint16, .rws, 0, 4095, .repl, .placeStream, fun _ _ => 3584⟩,
    ⟨0x2300, 1, 0x10000, 1, 65536, 1, 1, 0x09, 1, .uint16, .wo, 1, 2, .repl, .planRequest, fun _ _ => 0⟩,
    ⟨0x2301, 1, 0x10000, 1, 65536, 1, 1, 0x01, 1, .uint16, .ro, 0, 65535, .repl, .planStatus, fun _ _ => 0⟩,
    ⟨0x2301, 1, 0x10000, 1, 65536, 1, 1, 0x02, 1, .uint32, .ro, 0, 0xffffffff, .repl, .planCount, fun _ _ => 0⟩,
    ⟨0x2301, 1, 0x10000, 1, 65536, 1, 1, 0x03, 1, .time64, .ro, 0, 0xffffffffffffffff, .repl, .planLastTime, fun _ _ => 0⟩,
    ⟨0x2301, 1, 0x10000, 1, 65536, 1, 1, 0x04, 1, .uint16, .ro, 0, 65535, .repl, .planLastCause, fun _ _ => 0⟩,
    ⟨0x2301, 1, 0x10000, 1, 65536, 1, 1, 0x05, 1, .uint32, .ro, 0, 0xffffffff, .repl, .planVoteMismatch, fun _ _ => 0⟩,
    ⟨0x2301, 1, 0x10000, 1, 65536, 1, 1, 0x06, 1, .uint32, .ro, 0, 0xffffffff, .repl, .planNoMajority, fun _ _ => 0⟩,
    ⟨0x2301, 1, 0x10000, 1, 65536, 1, 1, 0x07, 1, .uint32, .ro, 0, 0xffffffff, .repl, .fallbackMoves, fun _ _ => 0⟩,
    ⟨0x2301, 1, 0x10000, 1, 65536, 1, 1, 0x08, 1, .uint32, .ro, 0, 0xffffffff, .repl, .healthAge, fun _ _ => 0⟩,
    ⟨0x2301, 1, 0x10000, 1, 65536, 1, 1, 0x09, 1, .uint16, .ro, 0, 65535, .repl, .moveMinPeriod, fun _ _ => 40⟩,
    ⟨0x2301, 1, 0x10000, 1, 65536, 1, 1, 0x0A, 1, .uint32, .ro, 0, 0xffffffff, .repl, .planDigest, fun _ _ => 0⟩]

/-- Objects of indices 0x2000 to 0x23FF, part 2. -/
def dictC1 : List Desc := [
    ⟨0x2310, 3, 1, 1, 1, 1, 1, 0x01, 16, .uint16, .ro, 0, 65535, .repl, .engineScore, fun _ _ => 255⟩,
    ⟨0x2310, 3, 1, 1, 1, 1, 1, 0x11, 1, .uint16, .ro, 0, 65535, .repl, .channelScore, fun _ _ => 255⟩,
    ⟨0x2314, 1, 0x10000, 1, 65536, 1, 1, 0x01, 1, .uint16, .ro, 0, 65535, .repl, .deviceScore, fun _ _ => 0⟩,
    ⟨0x2314, 1, 0x10000, 1, 65536, 1, 1, 0x02, 1, .uint16, .ro, 0, 65535, .repl, .twinScore, fun _ _ => 0⟩,
    ⟨0x2314, 1, 0x10000, 1, 65536, 1, 1, 0x03, 1, .uint16, .ro, 0, 65535, .repl, .twinSpare, fun _ _ => 0⟩,
    ⟨0x2318, 3, 1, 1, 1, 1, 1, 0x01, 16, .uint16, .ro, 0, 65535, .repl, .engineUtil, fun _ _ => 0⟩,
    ⟨0x2318, 3, 1, 1, 1, 1, 1, 0x11, 1, .uint16, .ro, 0, 65535, .repl, .noFallbackMap, fun _ _ => 0⟩,
    ⟨0x2318, 3, 1, 1, 1, 1, 1, 0x12, 1, .uint16, .ro, 0, 65535, .repl, .engineTestMap, fun _ _ => 0⟩]

/-- Objects of indices 0x2000 to 0x23FF. -/
def dictC : List Desc := dictC0 ++ dictC1

/-- Objects of indices 0x2400 to 0x2FFF, part 1. -/
def dictD0 : List Desc := [
    ⟨0x2400, 1, 0x10000, 1, 65536, 1, 1, 0x01, 16, .uint16, .rw, 0, 1, .repl, .sluiceAg, fun _ _ => 0⟩,
    ⟨0x2401, 1, 0x10000, 1, 65536, 1, 1, 0x00, 1, .uint32, .ro, 0, 0xffffffff, .repl, .sluiceSummary, fun _ _ => 0⟩,
    ⟨0x2402, 1, 0x10000, 1, 65536, 1, 1, 0x00, 1, .uint16, .ro, 0, 65535, .repl, .sluiceFair, fun _ _ => 0⟩,
    ⟨0x2410, 16, 1, 1, 1, 1, 1, 0x01, 1, .uint16, .rws, 1, 1000, .repl, .leaseTime, fun _ _ => 20⟩,
    ⟨0x2410, 16, 1, 1, 1, 1, 1, 0x02, 1, .uint16, .rws, 0, 10000, .repl, .holdTime, fun _ _ => 50⟩,
    ⟨0x2410, 16, 1, 1, 1, 1, 1, 0x03, 1, .uint32, .ro, 0, 0xffffffff, .repl, .leaseExpiries, fun _ _ => 0⟩,
    ⟨0x2800, 1, 0x10000, 1, 65536, 1, 1, 0x01, 1, .uint16, .ro, 0, 65535, .repl, .redundState, fun _ _ => 0⟩,
    ⟨0x2800, 1, 0x10000, 1, 65536, 1, 1, 0x02, 1, .uint16, .ro, 0, 65535, .repl, .redundStatus, fun _ _ => 0⟩,
    ⟨0x2800, 1, 0x10000, 1, 65536, 1, 1, 0x03, 1, .uint16, .rws, 1, 600, .repl, .ssBound, fun _ _ => 60⟩,
    ⟨0x2800, 1, 0x10000, 1, 65536, 1, 1, 0x04, 1, .uint16, .ro, 0, 65535, .repl, .ssRemaining, fun _ _ => 0⟩,
    ⟨0x2800, 1, 0x10000, 1, 65536, 1, 1, 0x05, 1, .uint16, .wo, 1, 1, .repl, .passiveRequest, fun _ _ => 0⟩,
    ⟨0x2800, 1, 0x10000, 1, 65536, 1, 1, 0x06, 1, .time64, .ro, 0, 0xffffffffffffffff, .repl, .stateEntryTime, fun _ _ => 0⟩,
    ⟨0x2810, 3, 1, 1, 1, 1, 1, 0x01, 1, .uint16, .ro, 0, 65535, .repl, .chState, fun _ _ => 0⟩,
    ⟨0x2810, 3, 1, 1, 1, 1, 1, 0x02, 1, .uint16, .ro, 0, 65535, .repl, .chFaultCause, fun _ _ => 0⟩,
    ⟨0x2810, 3, 1, 1, 1, 1, 1, 0x03, 1, .uint32, .ro, 0, 0xffffffff, .repl, .chMismatchCount, fun _ _ => 0⟩,
    ⟨0x2810, 3, 1, 1, 1, 1, 1, 0x04, 1, .uint32, .ro, 0, 0xffffffff, .repl, .chMissingCount, fun _ _ => 0⟩,
    ⟨0x2810, 3, 1, 1, 1, 1, 1, 0x05, 1, .uint32, .ro, 0, 0xffffffff, .repl, .chCodingFaults, fun _ _ => 0⟩,
    ⟨0x2810, 3, 1, 1, 1, 1, 1, 0x06, 1, .time64, .ro, 0, 0xffffffffffffffff, .repl, .chFaultTime, fun _ _ => 0⟩,
    ⟨0x2820, 1, 0x10000, 1, 65536, 1, 1, 0x01, 1, .uint16, .ro, 0, 65535, .repl, .engineFaultMapA, fun _ _ => 0⟩,
    ⟨0x2820, 1, 0x10000, 1, 65536, 1, 1, 0x02, 1, .uint16, .ro, 0, 65535, .repl, .engineFaultMapB, fun _ _ => 0⟩,
    ⟨0x2820, 1, 0x10000, 1, 65536, 1, 1, 0x03, 1, .uint16, .ro, 0, 65535, .repl, .engineFaultMapC, fun _ _ => 0⟩,
    ⟨0x2830, 1, 0x10000, 1, 65536, 1, 1, 0x01, 1, .uint32, .ro, 0, 0xffffffff, .repl, .injResult, fun _ _ => 0⟩,
    ⟨0x2830, 1, 0x10000, 1, 65536, 1, 1, 0x02, 1, .uint16, .ro, 0, 65535, .repl, .injAttempts, fun _ _ => 0⟩,
    ⟨0x2840, 32, 1, 1, 1, 1, 1, 0x01, 1, .uint16, .rws, 0, 1, .repl, .axRedundMode, fun _ _ => 0⟩,
    ⟨0x2840, 32, 1, 1, 1, 1, 1, 0x02, 1, .bool, .rws, 0, 1, .repl, .axSafetyRated, fun _ _ => 1⟩,
    ⟨0x2840, 32, 1, 1, 1, 1, 1, 0x03, 1, .uint16, .ro, 0, 65535, .repl, .axRedundStatus, fun _ _ => 0⟩,
    ⟨0x2870, 1, 0x10000, 1, 65536, 1, 1, 0x01, 1, .uint16, .ro, 0, 65535, .repl, .lastMissStream, fun _ _ => 65535⟩,
    ⟨0x2870, 1, 0x10000, 1, 65536, 1, 1, 0x02, 1, .uint16, .ro, 0, 65535, .repl, .lastMissChannel, fun _ _ => 255⟩,
    ⟨0x2870, 1, 0x10000, 1, 65536, 1, 1, 0x03, 1, .time64, .ro, 0, 0xffffffffffffffff, .repl, .lastMissTime, fun _ _ => 0⟩]

/-- Objects of indices 0x2400 to 0x2FFF. -/
def dictD : List Desc := dictD0

/-- Objects of indices 0x3000 to 0x37FF, part 1. -/
def dictE0 : List Desc := [
    ⟨0x3004, 32, 32, 1, 1, 1, 1, 0x01, 1, .uint16, .rwp, 0, 65535, .repl, .axFbSource, fun _ _ => 0⟩,
    ⟨0x3004, 32, 32, 1, 1, 1, 1, 0x02, 1, .uint16, .rw, 0, 2, .repl, .axHome, fun _ _ => 0⟩,
    ⟨0x3004, 32, 32, 1, 1, 1, 1, 0x03, 1, .int32, .rw, -0x80000000, 0x7fffffff, .repl, .axHomeValue, fun _ _ => 0⟩,
    ⟨0x3004, 32, 32, 1, 1, 1, 1, 0x04, 1, .uint16, .ro, 0, 65535, .repl, .axFbStatus, fun _ _ => 0⟩,
    ⟨0x3005, 32, 32, 1, 1, 1, 1, 0x01, 1, .int32, .ro, -0x80000000, 0x7fffffff, .repl, .latchPos, fun _ _ => 0⟩,
    ⟨0x3005, 32, 32, 1, 1, 1, 1, 0x02, 1, .time64, .ro, 0, 0xffffffffffffffff, .repl, .latchTime, fun _ _ => 0⟩,
    ⟨0x3005, 32, 32, 1, 1, 1, 1, 0x03, 1, .int32, .ro, -0x80000000, 0x7fffffff, .repl, .latchPrevPos, fun _ _ => 0⟩,
    ⟨0x3005, 32, 32, 1, 1, 1, 1, 0x04, 1, .time64, .ro, 0, 0xffffffffffffffff, .repl, .latchPrevTime, fun _ _ => 0⟩,
    ⟨0x3005, 32, 32, 1, 1, 1, 1, 0x05, 1, .int32, .ro, -0x80000000, 0x7fffffff, .repl, .axExtrapPos, fun _ _ => 0⟩,
    ⟨0x3005, 32, 32, 1, 1, 1, 1, 0x06, 1, .uint16, .rw, 10, 10000, .repl, .extrapHorizon, fun _ _ => 1000⟩,
    ⟨0x3005, 32, 32, 1, 1, 1, 1, 0x07, 1, .uint32, .ro, 0, 0xffffffff, .repl, .latchCount, fun _ _ => 0⟩,
    ⟨0x3006, 32, 32, 1, 1, 1, 1, 0x01, 1, .uint16, .ro, 0, 65535, .repl, .axReaction, fun _ _ => 0⟩,
    ⟨0x3006, 32, 32, 1, 1, 1, 1, 0x02, 1, .uint16, .ro, 0, 65535, .repl, .axFaultCause, fun _ _ => 0⟩,
    ⟨0x3006, 32, 32, 1, 1, 1, 1, 0x03, 1, .uint16, .rw, 1, 1, .repl, .axFaultClear, fun _ _ => 0⟩,
    ⟨0x3007, 32, 32, 1, 1, 1, 1, 0x01, 1, .uint16, .rwp, 0, 65535, .repl, .axBridge, fun _ _ => 0⟩,
    ⟨0x3007, 32, 32, 1, 1, 1, 1, 0x02, 1, .uint16, .rw, 0, 1, .repl, .axTorqueEnable, fun _ _ => 0⟩,
    ⟨0x3007, 32, 32, 1, 1, 1, 1, 0x03, 1, .uint16, .rws, 0, 32767, .repl, .baseLimit, fun _ _ => 0⟩,
    ⟨0x3007, 32, 32, 1, 1, 1, 1, 0x04, 1, .uint16, .rws, 0, 32767, .repl, .boostLimit, fun _ _ => 0⟩,
    ⟨0x3007, 32, 32, 1, 1, 1, 1, 0x05, 1, .uint16, .rw, 0, 32767, .repl, .boostHeadroom, fun _ _ => 0⟩,
    ⟨0x3007, 32, 32, 1, 1, 1, 1, 0x06, 1, .uint16, .rw, 1, 32767, .repl, .boostSlew, fun _ _ => 100⟩,
    ⟨0x3007, 32, 32, 1, 1, 1, 1, 0x07, 1, .uint16, .rw, 1, 1000, .repl, .loadTau, fun _ _ => 50⟩,
    ⟨0x3007, 32, 32, 1, 1, 1, 1, 0x08, 1, .uint16, .rw, 1, 10000, .repl, .holdDelay, fun _ _ => 500⟩,
    ⟨0x3007, 32, 32, 1, 1, 1, 1, 0x09, 1, .q15, .rw, 1638, 32767, .repl, .holdFraction, fun _ _ => 16384⟩,
    ⟨0x3007, 32, 32, 1, 1, 1, 1, 0x0A, 1, .uint32, .rw, 0, 0xffffffff, .repl, .stallSpeed, fun _ _ => 1000⟩,
    ⟨0x3007, 32, 32, 1, 1, 1, 1, 0x0B, 1, .uint16, .rw, 1, 10000, .repl, .stallTime, fun _ _ => 500⟩,
    ⟨0x3007, 32, 32, 1, 1, 1, 1, 0x0C, 1, .uint16, .rws, 0, 3, .repl, .stallReaction, fun _ _ => 3⟩,
    ⟨0x3007, 32, 32, 1, 1, 1, 1, 0x0D, 1, .uint16, .rws, 0, 3, .repl, .ocReaction, fun _ _ => 3⟩,
    ⟨0x3008, 32, 32, 1, 1, 1, 1, 0x01, 1, .uint16, .ro, 0, 65535, .repl, .ilimitNow, fun _ _ => 0⟩,
    ⟨0x3008, 32, 32, 1, 1, 1, 1, 0x02, 1, .uint16, .ro, 0, 65535, .repl, .loadEst, fun _ _ => 0⟩,
    ⟨0x3008, 32, 32, 1, 1, 1, 1, 0x03, 1, .uint16, .ro, 0, 65535, .repl, .axCurrentStatus, fun _ _ => 0⟩]

/-- Objects of indices 0x3000 to 0x37FF. -/
def dictE : List Desc := dictE0

/-- Objects of indices 0x3800 to 0x3FFF, part 1. -/
def dictF0 : List Desc := [
    ⟨0x3800, 16, 1, 1, 1, 1, 1, 0x01, 1, .uint16, .rwp, 0, 3, .repl, .agMode, fun _ _ => 0⟩,
    ⟨0x3800, 16, 1, 1, 1, 1, 1, 0x02, 8, .uint16, .rwp, 0, 65535, .repl, .agMember, fun _ _ => 0⟩,
    ⟨0x3800, 16, 1, 1, 1, 1, 1, 0x0A, 8, .uint16, .rws, 0, 65535, .repl, .agShare, fun _ _ => 1⟩,
    ⟨0x3800, 16, 1, 1, 1, 1, 1, 0x12, 8, .uint16, .rws, 0, 65535, .repl, .agReallocW, fun _ _ => 1⟩,
    ⟨0x3800, 16, 1, 1, 1, 1, 1, 0x1A, 8, .int32, .rws, -0x80000000, 0x7fffffff, .repl, .agForceMax, fun _ _ => 0x7fffffff⟩,
    ⟨0x3800, 16, 1, 1, 1, 1, 1, 0x22, 1, .int32, .rws, -0x80000000, 0x7fffffff, .repl, .agSafeTotal, fun _ _ => 0⟩,
    ⟨0x3800, 16, 1, 1, 1, 1, 1, 0x23, 1, .uint16, .rw, 50, 2000, .repl, .agRemoteDelay, fun _ _ => 200⟩,
    ⟨0x3810, 16, 1, 1, 1, 1, 1, 0x01, 1, .int32, .rw, -0x80000000, 0x7fffffff, .repl, .agForceTotal, fun _ _ => 0⟩,
    ⟨0x3810, 16, 1, 1, 1, 1, 1, 0x02, 1, .uint16, .rw, 0, 2, .repl, .agControl, fun _ _ => 0⟩,
    ⟨0x3820, 16, 1, 1, 1, 1, 1, 0x01, 1, .uint16, .ro, 0, 65535, .repl, .agStatus, fun _ _ => 0⟩,
    ⟨0x3820, 16, 1, 1, 1, 1, 1, 0x02, 1, .uint16, .ro, 0, 65535, .repl, .agLostMap, fun _ _ => 0⟩,
    ⟨0x3820, 16, 1, 1, 1, 1, 1, 0x03, 1, .int32, .ro, -0x80000000, 0x7fffffff, .repl, .agForceDeficit, fun _ _ => 0⟩,
    ⟨0x3820, 16, 1, 1, 1, 1, 1, 0x04, 1, .uint32, .ro, 0, 0xffffffff, .repl, .agReallocCount, fun _ _ => 0⟩,
    ⟨0x3820, 16, 1, 1, 1, 1, 1, 0x05, 1, .uint16, .ro, 0, 65535, .repl, .agLead, fun _ _ => 255⟩]

/-- Objects of indices 0x3800 to 0x3FFF. -/
def dictF : List Desc := dictF0

/-- Objects of indices 0x4000 to 0x47FF, part 1. -/
def dictG0 : List Desc := [
    ⟨0x4000, 3, 0x100, 20, 1, 1, 1, 0x01, 1, .bool, .rwp, 0, 1, .chan, .cvEnable, fun _ _ => 1⟩,
    ⟨0x4000, 3, 0x100, 20, 1, 1, 1, 0x02, 1, .uint16, .rwp, 1, 5, .chan, .sincOrder, fun _ j => (if j ≥ 18 then 3 else 2)⟩,
    ⟨0x4000, 3, 0x100, 20, 1, 1, 1, 0x03, 1, .uint16, .rwp, 16, 1024, .chan, .decimRatio, fun _ j => (if j ≥ 18 then 256 else 64)⟩,
    ⟨0x4000, 3, 0x100, 20, 1, 1, 1, 0x04, 1, .uint16, .rwp, 0, 255, .chan, .cvSlotBind, fun _ j => (if j ≤ 11 then (j / 3 : Nat) else 0xFF)⟩,
    ⟨0x4000, 3, 0x100, 20, 1, 1, 1, 0x05, 1, .uint16, .rwp, 0, 1, .chan, .windowAlign, fun _ _ => 0⟩,
    ⟨0x4000, 3, 0x100, 20, 1, 1, 1, 0x06, 1, .int16, .ro, -32768, 32767, .chan, .calOffset, fun _ _ => 0⟩,
    ⟨0x4000, 3, 0x100, 20, 1, 1, 1, 0x07, 1, .uint16, .ro, 0, 65535, .chan, .calGain, fun _ _ => 32768⟩,
    ⟨0x4020, 3, 0x100, 20, 1, 1, 1, 0x01, 1, .int16, .ro, -32768, 32767, .chan, .cvResult, fun _ _ => -32768⟩,
    ⟨0x4020, 3, 0x100, 20, 1, 1, 1, 0x02, 1, .uint16, .ro, 0, 65535, .chan, .cvStatus, fun _ _ => 0⟩,
    ⟨0x4020, 3, 0x100, 20, 1, 1, 1, 0x03, 1, .uint32, .ro, 0, 0xffffffff, .chan, .cvSample, fun _ _ => 32768⟩,
    ⟨0x4020, 3, 0x100, 20, 1, 1, 1, 0x04, 1, .uint16, .wo, 0, 12, .chan, .cvStatusClear, fun _ _ => 0⟩,
    ⟨0x4020, 3, 0x100, 20, 1, 1, 1, 0x05, 1, .time64, .ro, 0, 0xffffffffffffffff, .chan, .cvLastTime, fun _ _ => 0⟩,
    ⟨0x4040, 3, 0x100, 5, 1, 1, 1, 0x01, 1, .uint16, .ro, 0, 65535, .chan, .grpStatus, fun _ _ => 0⟩,
    ⟨0x4040, 3, 0x100, 5, 1, 1, 1, 0x02, 1, .uint32, .ro, 0, 0xffffffff, .chan, .grpOverrangeCount, fun _ _ => 0⟩,
    ⟨0x4050, 3, 0x100, 1, 1, 1, 1, 0x01, 1, .uint32, .wo, 0, 0xfffff, .chan, .calRequest, fun _ _ => 0⟩,
    ⟨0x4050, 3, 0x100, 1, 1, 1, 1, 0x02, 1, .uint32, .ro, 0, 0xffffffff, .chan, .calPending, fun _ _ => 0⟩,
    ⟨0x4050, 3, 0x100, 1, 1, 1, 1, 0x03, 1, .uint32, .ro, 0, 0xffffffff, .chan, .calFailMap, fun _ _ => 0⟩,
    ⟨0x4050, 3, 0x100, 1, 1, 1, 1, 0x04, 1, .uint32, .ro, 0, 0xffffffff, .chan, .calSkipMap, fun _ _ => 0⟩,
    ⟨0x4050, 3, 0x100, 1, 1, 1, 1, 0x05, 1, .time64, .ro, 0, 0xffffffffffffffff, .chan, .calLastTime, fun _ _ => 0⟩,
    ⟨0x4058, 3, 0x100, 2, 1, 1, 1, 0x01, 1, .uint16, .rw, 0, 127, .chan, .diagScanMask, fun _ j => (if j = 0 then 0x000F else 0x0071)⟩,
    ⟨0x4058, 3, 0x100, 2, 1, 1, 1, 0x02, 1, .uint16, .wo, 0, 6, .chan, .diagInject, fun _ _ => 0⟩,
    ⟨0x4058, 3, 0x100, 2, 1, 1, 1, 0x03, 1, .uint16, .ro, 0, 65535, .chan, .diagInjState, fun _ _ => 0⟩,
    ⟨0x4058, 3, 0x100, 2, 1, 1, 1, 0x04, 1, .int16, .ro, -32768, 32767, .chan, .diagInjCode, fun _ _ => -32768⟩,
    ⟨0x4060, 3, 0x100, 2, 8, 7, 1, 0x01, 1, .int16, .ro, -32768, 32767, .chan, .diagSrcCode, fun _ _ => -32768⟩]

/-- Objects of indices 0x4000 to 0x47FF. -/
def dictG : List Desc := dictG0

/-- Objects of indices 0x4800 to 0x4BFF, part 1. -/
def dictH0 : List Desc := [
    ⟨0x4800, 3, 0x100, 8, 1, 1, 1, 0x01, 1, .uint16, .rwp, 0, 4, .chan, .fpMode, fun _ _ => 0⟩,
    ⟨0x4800, 3, 0x100, 8, 1, 1, 1, 0x02, 1, .uint16, .rw, 0, 15, .chan, .fpFilter, fun _ _ => 3⟩,
    ⟨0x4800, 3, 0x100, 8, 1, 1, 1, 0x03, 1, .uint16, .rwp, 0, 7, .chan, .fpInvert, fun _ _ => 0⟩,
    ⟨0x4800, 3, 0x100, 8, 1, 1, 1, 0x04, 1, .uint16, .rwp, 0, 2, .chan, .fpIndexMode, fun _ _ => 0⟩,
    ⟨0x4800, 3, 0x100, 8, 1, 1, 1, 0x05, 1, .uint32, .rwp, 4, 0x1000000, .chan, .fpCountsPerRev, fun _ _ => 16384⟩,
    ⟨0x4800, 3, 0x100, 8, 1, 1, 1, 0x06, 1, .uint16, .rwp, 0, 255, .chan, .fpIndexTol, fun _ _ => 0⟩,
    ⟨0x4800, 3, 0x100, 8, 1, 1, 1, 0x07, 1, .uint16, .rwp, 6, 750, .chan, .stepWidth, fun _ _ => 75⟩,
    ⟨0x4800, 3, 0x100, 8, 1, 1, 1, 0x08, 1, .uint16, .rwp, 15, 1500, .chan, .dirSetup, fun _ _ => 150⟩,
    ⟨0x4810, 3, 0x100, 8, 1, 1, 1, 0x01, 1, .int32, .ro, -0x80000000, 0x7fffffff, .chan, .fpRaw, fun _ _ => 0⟩,
    ⟨0x4810, 3, 0x100, 8, 1, 1, 1, 0x02, 1, .int32, .ro, -0x80000000, 0x7fffffff, .chan, .fpPos, fun _ _ => 0⟩,
    ⟨0x4810, 3, 0x100, 8, 1, 1, 1, 0x03, 1, .uint16, .ro, 0, 65535, .chan, .fpStatus, fun _ _ => 0⟩,
    ⟨0x4810, 3, 0x100, 8, 1, 1, 1, 0x04, 1, .uint16, .wo, 0, 296, .chan, .fpStatusClear, fun _ _ => 0⟩,
    ⟨0x4810, 3, 0x100, 8, 1, 1, 1, 0x05, 1, .int32, .ro, -0x80000000, 0x7fffffff, .chan, .indexRaw, fun _ _ => 0⟩,
    ⟨0x4810, 3, 0x100, 8, 1, 1, 1, 0x06, 1, .time64, .ro, 0, 0xffffffffffffffff, .chan, .indexTime, fun _ _ => 0⟩,
    ⟨0x4810, 3, 0x100, 8, 1, 1, 1, 0x07, 1, .int32, .ro, -0x80000000, 0x7fffffff, .chan, .indexOffset, fun _ _ => 0⟩,
    ⟨0x4810, 3, 0x100, 8, 1, 1, 1, 0x08, 1, .uint32, .ro, 0, 0xffffffff, .chan, .fpIndexMismatchCount, fun _ _ => 0⟩,
    ⟨0x4810, 3, 0x100, 8, 1, 1, 1, 0x09, 1, .uint32, .ro, 0, 0xffffffff, .chan, .fpQuadErrCount, fun _ _ => 0⟩,
    ⟨0x4810, 3, 0x100, 8, 1, 1, 1, 0x0A, 1, .int32, .wo, -0x80000000, 0x7fffffff, .chan, .fpPreset, fun _ _ => 0⟩,
    ⟨0x4820, 3, 0x100, 8, 1, 1, 1, 0x01, 16, .int32, .rw, -0x80000000, 0x7fffffff, .chan, .cmpPosition, fun _ _ => 0⟩,
    ⟨0x4830, 3, 0x100, 8, 1, 1, 1, 0x01, 16, .uint16, .rw, 0, 65535, .chan, .cmpControl, fun _ _ => 0⟩,
    ⟨0x4840, 3, 0x100, 8, 1, 1, 1, 0x01, 1, .uint16, .rw, 1, 15000, .chan, .cmpPulseWidth, fun _ _ => 150⟩,
    ⟨0x4840, 3, 0x100, 8, 1, 1, 1, 0x02, 1, .uint16, .rw, 0, 1, .chan, .cmpCounter, fun _ _ => 0⟩,
    ⟨0x4840, 3, 0x100, 8, 1, 1, 1, 0x03, 1, .uint32, .ro, 0, 0xffffffff, .chan, .cmpFireCount, fun _ _ => 0⟩,
    ⟨0x4840, 3, 0x100, 8, 1, 1, 1, 0x04, 1, .uint32, .ro, 0, 0xffffffff, .chan, .cmpMergedCount, fun _ _ => 0⟩,
    ⟨0x4880, 3, 0x100, 3, 1, 1, 1, 0x01, 1, .bool, .rwp, 0, 1, .chan, .resEnable, fun _ _ => 0⟩,
    ⟨0x4880, 3, 0x100, 3, 1, 1, 1, 0x02, 1, .uint16, .rwp, 0, 7, .chan, .resExcPort, fun _ j => 5 + j⟩,
    ⟨0x4880, 3, 0x100, 3, 1, 1, 1, 0x03, 1, .uint16, .rwp, 5000, 20000, .chan, .resExcFreq, fun _ _ => 10000⟩,
    ⟨0x4880, 3, 0x100, 3, 1, 1, 1, 0x04, 1, .uint16, .rwp, 0, 65535, .chan, .resPhase, fun _ _ => 25000⟩,
    ⟨0x4880, 3, 0x100, 3, 1, 1, 1, 0x05, 1, .uint16, .rwp, 100, 2000, .chan, .resBw, fun _ _ => 500⟩,
    ⟨0x4880, 3, 0x100, 3, 1, 1, 1, 0x06, 1, .uint16, .rwp, 1000, 32767, .chan, .resAmpNom, fun _ _ => 20000⟩]

/-- Objects of indices 0x4800 to 0x4BFF, part 2. -/
def dictH1 : List Desc := [
    ⟨0x4880, 3, 0x100, 3, 1, 1, 1, 0x07, 1, .uint16, .ro, 0, 65535, .chan, .resAngle, fun _ _ => 0⟩,
    ⟨0x4880, 3, 0x100, 3, 1, 1, 1, 0x08, 1, .uint16, .ro, 0, 65535, .chan, .resStatus, fun _ _ => 0⟩,
    ⟨0x4880, 3, 0x100, 3, 1, 1, 1, 0x09, 1, .int32, .ro, -0x80000000, 0x7fffffff, .chan, .resRaw, fun _ _ => 0⟩,
    ⟨0x4880, 3, 0x100, 3, 1, 1, 1, 0x0A, 1, .int32, .ro, -0x80000000, 0x7fffffff, .chan, .resPos, fun _ _ => 0⟩]

/-- Objects of indices 0x4800 to 0x4BFF. -/
def dictH : List Desc := dictH0 ++ dictH1

/-- Objects of indices 0x4C00 to 0x4FFF, part 1. -/
def dictI0 : List Desc := [
    ⟨0x4C00, 3, 0x100, 6, 1, 1, 1, 0x01, 1, .uint16, .rwp, 0, 3, .chan, .spMode, fun _ _ => 0⟩,
    ⟨0x4C00, 3, 0x100, 6, 1, 1, 1, 0x02, 1, .uint16, .rwp, 30, 900, .chan, .sentTick, fun _ _ => 30⟩,
    ⟨0x4C00, 3, 0x100, 6, 1, 1, 1, 0x03, 1, .uint16, .rwp, 0, 1, .chan, .sentCrc, fun _ _ => 0⟩,
    ⟨0x4C00, 3, 0x100, 6, 1, 1, 1, 0x04, 1, .bool, .rwp, 0, 1, .chan, .sentPause, fun _ _ => 0⟩,
    ⟨0x4C00, 3, 0x100, 6, 1, 1, 1, 0x05, 1, .uint16, .rwp, 0, 1, .chan, .psi5Rate, fun _ _ => 0⟩,
    ⟨0x4C00, 3, 0x100, 6, 1, 1, 1, 0x06, 1, .uint16, .rwp, 10, 24, .chan, .psi5Bits, fun _ _ => 16⟩,
    ⟨0x4C00, 3, 0x100, 6, 1, 1, 1, 0x07, 1, .uint16, .rwp, 0, 1, .chan, .psi5Check, fun _ _ => 1⟩,
    ⟨0x4C00, 3, 0x100, 6, 1, 1, 1, 0x08, 1, .uint16, .rwp, 100, 2000, .chan, .psi5SyncPeriod, fun _ _ => 500⟩,
    ⟨0x4C00, 3, 0x100, 6, 1, 1, 1, 0x09, 1, .uint16, .rwp, 10, 1000, .chan, .psi5SlotStart, fun _ _ => 44⟩,
    ⟨0x4C00, 3, 0x100, 6, 1, 1, 1, 0x0A, 1, .uint16, .rwp, 0, 10000, .chan, .spAge, fun _ _ => 0⟩,
    ⟨0x4C00, 3, 0x100, 6, 1, 1, 1, 0x0B, 1, .uint16, .rwp, 100, 50000, .chan, .spTimeout, fun _ _ => 2000⟩,
    ⟨0x4C10, 3, 0x100, 6, 1, 1, 1, 0x01, 1, .int32, .ro, -0x80000000, 0x7fffffff, .chan, .spRaw, fun _ _ => 0⟩,
    ⟨0x4C10, 3, 0x100, 6, 1, 1, 1, 0x02, 1, .int32, .ro, -0x80000000, 0x7fffffff, .chan, .spPos, fun _ _ => 0⟩,
    ⟨0x4C10, 3, 0x100, 6, 1, 1, 1, 0x03, 1, .uint16, .ro, 0, 65535, .chan, .spStatus, fun _ _ => 0⟩,
    ⟨0x4C10, 3, 0x100, 6, 1, 1, 1, 0x04, 1, .uint16, .wo, 0, 8, .chan, .spStatusClear, fun _ _ => 0⟩,
    ⟨0x4C10, 3, 0x100, 6, 1, 1, 1, 0x05, 1, .uint16, .ro, 0, 65535, .chan, .spValue, fun _ _ => 0⟩,
    ⟨0x4C10, 3, 0x100, 6, 1, 1, 1, 0x06, 1, .uint16, .ro, 0, 65535, .chan, .spStatusNibble, fun _ _ => 0⟩,
    ⟨0x4C10, 3, 0x100, 6, 1, 1, 1, 0x07, 1, .uint32, .ro, 0, 0xffffffff, .chan, .sentSlowBits, fun _ _ => 0⟩,
    ⟨0x4C10, 3, 0x100, 6, 1, 1, 1, 0x08, 1, .uint32, .ro, 0, 0xffffffff, .chan, .spErrCount, fun _ _ => 0⟩,
    ⟨0x4C10, 3, 0x100, 6, 1, 1, 1, 0x09, 1, .time64, .ro, 0, 0xffffffffffffffff, .chan, .spLastTime, fun _ _ => 0⟩,
    ⟨0x4C10, 3, 0x100, 6, 1, 1, 1, 0x0A, 1, .int32, .wo, -0x80000000, 0x7fffffff, .chan, .spPreset, fun _ _ => 0⟩]

/-- Objects of indices 0x4C00 to 0x4FFF. -/
def dictI : List Desc := dictI0

/-- Objects of indices 0x5000 to 0x5FFF, part 1. -/
def dictJ0 : List Desc := [
    ⟨0x5000, 512, 4, 1, 1, 1, 1, 0x01, 1, .uint16, .rwp, 0, 65535, .repl, .taskType, fun _ _ => 0⟩,
    ⟨0x5000, 512, 4, 1, 1, 1, 1, 0x02, 1, .bool, .rwp, 0, 1, .repl, .taskEnable, fun _ _ => 0⟩,
    ⟨0x5000, 512, 4, 1, 1, 1, 1, 0x03, 1, .uint16, .rw, 0, 1, .repl, .bankSelect, fun _ _ => 0⟩,
    ⟨0x5000, 512, 4, 1, 1, 1, 1, 0x04, 1, .uint16, .rwp, 0, 16, .repl, .intFrac, fun _ _ => 8⟩,
    ⟨0x5000, 512, 4, 1, 1, 1, 1, 0x05, 1, .int32, .rw, -0x80000000, 0x7fffffff, .repl, .intInit, fun _ _ => 0⟩,
    ⟨0x5000, 512, 4, 1, 1, 1, 1, 0x06, 1, .uint32, .rws, 0, 0xffffffff, .repl, .feLimit, fun _ _ => 0⟩,
    ⟨0x5000, 512, 4, 1, 1, 1, 1, 0x07, 1, .uint16, .rws, 0, 60000, .repl, .feTime, fun _ _ => 10⟩,
    ⟨0x5000, 512, 4, 1, 1, 1, 1, 0x08, 1, .uint16, .rws, 0, 3, .repl, .feReaction, fun _ _ => 2⟩,
    ⟨0x5000, 512, 4, 1, 1, 1, 1, 0x09, 1, .uint16, .rws, 1, 1000, .repl, .invalidMax, fun _ _ => 3⟩,
    ⟨0x5000, 512, 4, 1, 1, 1, 1, 0x0A, 1, .uint16, .rws, 0, 3, .repl, .invalidReaction, fun _ _ => 3⟩,
    ⟨0x5000, 512, 4, 1, 1, 1, 1, 0x0B, 1, .int32, .rwp, -0x80000000, 0x7fffffff, .repl, .dqAngleOffset, fun _ _ => 0⟩,
    ⟨0x5000, 512, 4, 1, 1, 1, 1, 0x0C, 1, .bool, .rw, 0, 1, .repl, .dqRecon, fun _ _ => 1⟩,
    ⟨0x5000, 512, 4, 1, 1, 1, 1, 0x0D, 1, .uint16, .rw, 0, 32767, .repl, .dqSumLimit, fun _ _ => 1638⟩,
    ⟨0x5000, 512, 4, 1, 1, 1, 1, 0x0E, 1, .uint16, .rwp, 0, 255, .repl, .dqVdcSource, fun _ _ => 255⟩,
    ⟨0x5000, 512, 4, 1, 1, 1, 1, 0x0F, 1, .uint16, .rwp, 1, 32767, .repl, .dqVdcNominal, fun _ _ => 26214⟩,
    ⟨0x5001, 512, 4, 2, 1, 1, 1, 0x01, 8, .int32, .rw, -0x80000000, 0x7fffffff, .repl, .coef, fun _ _ => 0⟩,
    ⟨0x5001, 512, 4, 2, 1, 1, 1, 0x09, 8, .uint16, .rw, 0, 31, .repl, .shift, fun _ _ => 0⟩,
    ⟨0x5001, 512, 4, 2, 1, 1, 1, 0x11, 1, .int32, .rw, -0x80000000, 0x7fffffff, .repl, .outMax, fun _ _ => 0x7fffffff⟩,
    ⟨0x5001, 512, 4, 2, 1, 1, 1, 0x12, 1, .int32, .rw, -0x80000000, 0x7fffffff, .repl, .outMin, fun _ _ => -0x80000000⟩,
    ⟨0x5003, 512, 4, 1, 1, 1, 1, 0x01, 1, .uint16, .ro, 0, 65535, .repl, .taskStatus, fun _ _ => 1⟩,
    ⟨0x5003, 512, 4, 1, 1, 1, 1, 0x02, 1, .int32, .ro, -0x80000000, 0x7fffffff, .repl, .lastOutput, fun _ _ => 0⟩,
    ⟨0x5003, 512, 4, 1, 1, 1, 1, 0x03, 1, .int32, .ro, -0x80000000, 0x7fffffff, .repl, .lastError, fun _ _ => 0⟩,
    ⟨0x5003, 512, 4, 1, 1, 1, 1, 0x04, 1, .int32, .ro, -0x80000000, 0x7fffffff, .repl, .intState, fun _ _ => 0⟩,
    ⟨0x5003, 512, 4, 1, 1, 1, 1, 0x05, 1, .uint32, .ro, 0, 0xffffffff, .owner, .iterations, fun _ _ => 0⟩,
    ⟨0x5003, 512, 4, 1, 1, 1, 1, 0x06, 1, .uint32, .ro, 0, 0xffffffff, .owner, .deadlineMisses, fun _ _ => 0⟩,
    ⟨0x5003, 512, 4, 1, 1, 1, 1, 0x07, 1, .uint32, .ro, 0, 0xffffffff, .owner, .arithSatCount, fun _ _ => 0⟩,
    ⟨0x5003, 512, 4, 1, 1, 1, 1, 0x08, 1, .uint32, .ro, 0, 0xffffffff, .owner, .swapCount, fun _ _ => 0⟩,
    ⟨0x5003, 512, 4, 1, 1, 1, 1, 0x09, 1, .uint32, .ro, 0, 0xffffffff, .owner, .feMax, fun _ _ => 0⟩,
    ⟨0x5003, 512, 4, 1, 1, 1, 1, 0x0A, 1, .uint32, .ro, 0, 0xffffffff, .owner, .holdCount, fun _ _ => 0⟩,
    ⟨0x5003, 512, 4, 1, 1, 1, 1, 0x0B, 1, .uint16, .ro, 0, 65535, .owner, .maxExec, fun _ _ => 0⟩]

/-- Objects of indices 0x5000 to 0x5FFF, part 2. -/
def dictJ1 : List Desc := [
    ⟨0x5003, 512, 4, 1, 1, 1, 1, 0x0C, 1, .uint16, .ro, 0, 65535, .repl, .dqStatus, fun _ _ => 0⟩,
    ⟨0x5800, 512, 4, 1, 1, 1, 1, 0x01, 1, .uint16, .rw, 0, 3, .repl, .traceControl, fun _ _ => 0⟩,
    ⟨0x5800, 512, 4, 1, 1, 1, 1, 0x02, 1, .uint64, .rw, 0, 0xffffffffffffffff, .repl, .traceNodes, fun _ _ => 0xffffffffffffffff⟩,
    ⟨0x5800, 512, 4, 1, 1, 1, 1, 0x03, 1, .uint16, .rw, 1, 65535, .repl, .traceDecim, fun _ _ => 1⟩,
    ⟨0x5800, 512, 4, 1, 1, 1, 1, 0x04, 1, .uint32, .rw, 16, 0x100000, .repl, .traceLength, fun _ _ => 65536⟩,
    ⟨0x5800, 512, 4, 1, 1, 1, 1, 0x05, 1, .uint16, .rw, 0, 100, .repl, .tracePre, fun _ _ => 25⟩,
    ⟨0x5800, 512, 4, 1, 1, 1, 1, 0x06, 1, .uint16, .rw, 0, 6, .repl, .traceTrigSrc, fun _ _ => 0⟩,
    ⟨0x5800, 512, 4, 1, 1, 1, 1, 0x07, 1, .uint16, .rw, 0, 65535, .repl, .traceTrigNode, fun _ _ => 0⟩,
    ⟨0x5800, 512, 4, 1, 1, 1, 1, 0x08, 1, .int32, .rw, -0x80000000, 0x7fffffff, .repl, .traceTrigLevel, fun _ _ => 0⟩,
    ⟨0x5801, 512, 4, 1, 1, 1, 1, 0x01, 1, .uint16, .ro, 0, 65535, .repl, .traceStatus, fun _ _ => 0⟩,
    ⟨0x5801, 512, 4, 1, 1, 1, 1, 0x02, 1, .uint16, .ro, 0, 65535, .repl, .traceChannel, fun _ _ => 255⟩,
    ⟨0x5801, 512, 4, 1, 1, 1, 1, 0x03, 1, .time64, .ro, 0, 0xffffffffffffffff, .repl, .traceTrigTime, fun _ _ => 0⟩,
    ⟨0x5801, 512, 4, 1, 1, 1, 1, 0x04, 1, .uint32, .ro, 0, 0xffffffff, .repl, .traceRecords, fun _ _ => 0⟩,
    ⟨0x5801, 512, 4, 1, 1, 1, 1, 0x05, 1, .uint32, .ro, 0, 0xffffffff, .repl, .traceDropped, fun _ _ => 0⟩,
    ⟨0x5802, 512, 4, 1, 1, 1, 1, 0x00, 1, .domain, .ro, 0, 0, .repl, .traceData, fun _ _ => 0⟩]

/-- Objects of indices 0x5000 to 0x5FFF. -/
def dictJ : List Desc := dictJ0 ++ dictJ1

/-- Objects of indices 0x6000 to 0x67FF, part 1. -/
def dictK0 : List Desc := [
    ⟨0x6000, 3, 0x100, 4, 1, 1, 1, 0x01, 1, .bool, .rwp, 0, 1, .chan, .bsMode, fun _ _ => 0⟩,
    ⟨0x6000, 3, 0x100, 4, 1, 1, 1, 0x02, 1, .uint16, .rwp, 1500, 32608, .chan, .pwmTop, fun _ _ => 3750⟩,
    ⟨0x6000, 3, 0x100, 4, 1, 1, 1, 0x03, 1, .uint16, .rwp, 0, 65535, .chan, .pwmPhase, fun _ _ => 0⟩,
    ⟨0x6000, 3, 0x100, 4, 1, 1, 1, 0x04, 1, .uint16, .rwp, 0, 600, .chan, .deadTime, fun _ _ => 90⟩,
    ⟨0x6000, 3, 0x100, 4, 1, 1, 1, 0x05, 1, .q15, .rwp, 19661, 32113, .chan, .dutyMax, fun _ _ => 29491⟩,
    ⟨0x6000, 3, 0x100, 4, 1, 1, 1, 0x06, 1, .uint16, .rwp, 300, 65535, .chan, .ckptOffset, fun _ _ => 500⟩,
    ⟨0x6000, 3, 0x100, 4, 1, 1, 1, 0x07, 1, .uint16, .rwp, 0, 3, .chan, .pwmPolarity, fun _ _ => 0⟩,
    ⟨0x6010, 3, 0x100, 4, 1, 1, 1, 0x01, 1, .uint16, .ro, 0, 65535, .chan, .bsStatus, fun _ _ => 0⟩,
    ⟨0x6010, 3, 0x100, 4, 1, 1, 1, 0x02, 1, .q15, .ro, -32768, 32767, .chan, .dutyU, fun _ _ => 0⟩,
    ⟨0x6010, 3, 0x100, 4, 1, 1, 1, 0x03, 1, .q15, .ro, -32768, 32767, .chan, .dutyV, fun _ _ => 0⟩,
    ⟨0x6010, 3, 0x100, 4, 1, 1, 1, 0x04, 1, .q15, .ro, -32768, 32767, .chan, .dutyW, fun _ _ => 0⟩,
    ⟨0x6010, 3, 0x100, 4, 1, 1, 1, 0x05, 1, .uint32, .ro, 0, 0xffffffff, .chan, .repeatCount, fun _ _ => 0⟩,
    ⟨0x6010, 3, 0x100, 4, 1, 1, 1, 0x06, 1, .time64, .ro, 0, 0xffffffffffffffff, .chan, .valleyTime, fun _ _ => 0⟩,
    ⟨0x6040, 3, 0x100, 2, 1, 1, 1, 0x01, 1, .bool, .rwp, 0, 1, .chan, .gspiEnable, fun _ _ => 0⟩,
    ⟨0x6040, 3, 0x100, 2, 1, 1, 1, 0x02, 1, .uint16, .rwp, 1, 2, .chan, .gspiChain, fun _ _ => 2⟩,
    ⟨0x6040, 3, 0x100, 2, 1, 1, 1, 0x03, 1, .uint16, .rwp, 8, 75, .chan, .gspiDiv, fun _ _ => 8⟩,
    ⟨0x6040, 3, 0x100, 2, 1, 1, 1, 0x04, 1, .uint16, .rwp, 0, 3, .chan, .gspiMode, fun _ _ => 1⟩,
    ⟨0x6040, 3, 0x100, 2, 1, 1, 1, 0x05, 1, .uint16, .rw, 100, 65000, .chan, .gdPollPeriod, fun _ _ => 1000⟩,
    ⟨0x6040, 3, 0x100, 2, 1, 1, 1, 0x06, 1, .uint16, .rwp, 0, 65535, .chan, .gdNopWord, fun _ _ => 0⟩,
    ⟨0x6050, 3, 0x100, 4, 1, 1, 1, 0x01, 1, .uint16, .rwp, 0, 16, .chan, .gdInitCount, fun _ _ => 0⟩,
    ⟨0x6050, 3, 0x100, 4, 1, 1, 1, 0x02, 16, .uint64, .rwp, 0, 0xffffffffffffffff, .chan, .gdInitEntry, fun _ _ => 0⟩,
    ⟨0x6058, 3, 0x100, 4, 1, 1, 1, 0x01, 1, .uint16, .rw, 0, 4, .chan, .gdPollCount, fun _ _ => 0⟩,
    ⟨0x6058, 3, 0x100, 4, 1, 1, 1, 0x02, 4, .uint64, .rw, 0, 0xffffffffffffffff, .chan, .gdPollEntry, fun _ _ => 0⟩,
    ⟨0x6058, 3, 0x100, 4, 1, 1, 1, 0x06, 1, .uint16, .rws, 0, 3, .chan, .gdFaultAction, fun _ _ => 3⟩,
    ⟨0x6058, 3, 0x100, 4, 1, 1, 1, 0x07, 1, .uint16, .ro, 0, 65535, .chan, .gdStatus, fun _ _ => 0⟩,
    ⟨0x6058, 3, 0x100, 4, 1, 1, 1, 0x08, 1, .uint16, .ro, 0, 65535, .chan, .gdLastRx, fun _ _ => 0⟩,
    ⟨0x6058, 3, 0x100, 4, 1, 1, 1, 0x09, 1, .uint32, .ro, 0, 0xffffffff, .chan, .gdFaultCount, fun _ _ => 0⟩]

/-- Objects of indices 0x6000 to 0x67FF. -/
def dictK : List Desc := dictK0

/-- Objects of indices 0x6800 to 0x6FFF, part 1. -/
def dictL0 : List Desc := [
    ⟨0x6800, 32, 1, 1, 1, 1, 1, 0x01, 1, .uint32, .rws, 1, 0xffffffff, .repl, .pgQsDec, fun _ _ => 42950⟩,
    ⟨0x6800, 32, 1, 1, 1, 1, 1, 0x02, 1, .uint32, .rw, 0, 0xf4240, .repl, .ssWindow, fun _ _ => 8⟩,
    ⟨0x6800, 32, 1, 1, 1, 1, 1, 0x03, 1, .uint16, .rw, 1, 10000, .repl, .ssTime, fun _ _ => 5⟩,
    ⟨0x6800, 32, 1, 1, 1, 1, 1, 0x04, 1, .uint16, .rws, 0, 1, .repl, .safeMode, fun _ _ => 0⟩,
    ⟨0x6800, 32, 1, 1, 1, 1, 1, 0x05, 1, .int32, .rws, -0x80000000, 0x7fffffff, .repl, .safeTarget, fun _ _ => 0⟩,
    ⟨0x6820, 32, 1, 1, 1, 1, 1, 0x01, 1, .int32, .rw, -0x80000000, 0x7fffffff, .repl, .pgTarget, fun _ _ => 0⟩,
    ⟨0x6820, 32, 1, 1, 1, 1, 1, 0x02, 1, .uint32, .rw, 1, 0x7fffffff, .repl, .pgVmax, fun _ _ => 65536⟩,
    ⟨0x6820, 32, 1, 1, 1, 1, 1, 0x03, 1, .uint32, .rw, 1, 0xffffffff, .repl, .pgAcc, fun _ _ => 4295⟩,
    ⟨0x6820, 32, 1, 1, 1, 1, 1, 0x04, 1, .uint32, .rw, 1, 0xffffffff, .repl, .pgDec, fun _ _ => 4295⟩,
    ⟨0x6820, 32, 1, 1, 1, 1, 1, 0x05, 1, .uint16, .rw, 0, 2, .repl, .pgControl, fun _ _ => 0⟩,
    ⟨0x6840, 32, 1, 1, 1, 1, 1, 0x01, 1, .int32, .ro, -0x80000000, 0x7fffffff, .repl, .pgSetpoint, fun _ _ => 0⟩,
    ⟨0x6840, 32, 1, 1, 1, 1, 1, 0x02, 1, .int32, .ro, -0x80000000, 0x7fffffff, .repl, .pgVelNow, fun _ _ => 0⟩,
    ⟨0x6840, 32, 1, 1, 1, 1, 1, 0x03, 1, .int32, .ro, -0x80000000, 0x7fffffff, .repl, .pgTargetNow, fun _ _ => 0⟩,
    ⟨0x6840, 32, 1, 1, 1, 1, 1, 0x04, 1, .int32, .ro, -0x80000000, 0x7fffffff, .repl, .pgPending, fun _ _ => 0⟩,
    ⟨0x6840, 32, 1, 1, 1, 1, 1, 0x05, 1, .uint16, .ro, 0, 65535, .repl, .pgStatus, fun _ _ => 64⟩]

/-- Objects of indices 0x6800 to 0x6FFF. -/
def dictL : List Desc := dictL0

/-- Objects of indices 0x7000 to 0x7FFF, part 1. -/
def dictM0 : List Desc := [
    ⟨0x7000, 18, 1, 1, 1, 1, 1, 0x01, 1, .uint16, .rws, 0, 2, .repl, .siMode, fun _ _ => 0⟩,
    ⟨0x7000, 18, 1, 1, 1, 1, 1, 0x02, 1, .uint16, .rws, 1, 100, .repl, .siFilter, fun _ _ => 3⟩,
    ⟨0x7000, 18, 1, 1, 1, 1, 1, 0x03, 1, .uint16, .rws, 10, 5000, .repl, .siDiscTime, fun _ _ => 100⟩,
    ⟨0x7000, 18, 1, 1, 1, 1, 1, 0x04, 1, .uint32, .rws, 0, 0xffffffff, .repl, .siAxisMask, fun _ _ => 0⟩,
    ⟨0x7000, 18, 1, 1, 1, 1, 1, 0x05, 1, .uint16, .rws, 0, 3, .repl, .siReaction, fun _ _ => 0⟩,
    ⟨0x7000, 18, 1, 1, 1, 1, 1, 0x06, 1, .bool, .rws, 0, 1, .repl, .siWake, fun _ _ => 0⟩,
    ⟨0x7020, 18, 1, 1, 1, 1, 1, 0x01, 1, .uint16, .ro, 0, 65535, .repl, .siStatus, fun _ _ => 64⟩,
    ⟨0x7020, 18, 1, 1, 1, 1, 1, 0x02, 1, .uint32, .ro, 0, 0xffffffff, .repl, .siNearMissCount, fun _ _ => 0⟩,
    ⟨0x7020, 18, 1, 1, 1, 1, 1, 0x03, 1, .uint16, .ro, 0, 65535, .repl, .siDiscMax, fun _ _ => 0⟩,
    ⟨0x7020, 18, 1, 1, 1, 1, 1, 0x04, 1, .time64, .ro, 0, 0xffffffffffffffff, .repl, .siLastChange, fun _ _ => 0⟩,
    ⟨0x7040, 1, 0x10000, 1, 65536, 1, 1, 0x01, 1, .uint16, .rws, 30, 240, .repl, .opWidth, fun _ _ => 75⟩,
    ⟨0x7040, 1, 0x10000, 1, 65536, 1, 1, 0x02, 1, .uint16, .rws, 0, 3, .repl, .permitArmReaction, fun _ _ => 1⟩,
    ⟨0x7048, 3, 1, 1, 1, 1, 1, 0x01, 1, .uint16, .ro, 0, 65535, .repl, .opFaultMap, fun _ _ => 0⟩,
    ⟨0x7048, 3, 1, 1, 1, 1, 1, 0x02, 1, .uint16, .ro, 0, 65535, .repl, .opUntestedMap, fun _ _ => 0⟩,
    ⟨0x7048, 3, 1, 1, 1, 1, 1, 0x03, 1, .uint32, .ro, 0, 0xffffffff, .repl, .opFails, fun _ _ => 0⟩,
    ⟨0x7048, 3, 1, 1, 1, 1, 1, 0x04, 1, .time64, .ro, 0, 0xffffffffffffffff, .repl, .opLastFail, fun _ _ => 0⟩,
    ⟨0x7060, 1, 0x10000, 1, 65536, 1, 1, 0x01, 1, .uint16, .rw, 0, 1, .repl, .faultReset, fun _ _ => 0⟩,
    ⟨0x7060, 1, 0x10000, 1, 65536, 1, 1, 0x02, 1, .uint16, .ro, 0, 65535, .repl, .resetStatus, fun _ _ => 0⟩,
    ⟨0x7060, 1, 0x10000, 1, 65536, 1, 1, 0x03, 1, .uint32, .ro, 0, 0xffffffff, .repl, .resetCount, fun _ _ => 0⟩,
    ⟨0x7060, 1, 0x10000, 1, 65536, 1, 1, 0x04, 1, .uint32, .ro, 0, 0xffffffff, .repl, .resetRejects, fun _ _ => 0⟩,
    ⟨0x7060, 1, 0x10000, 1, 65536, 1, 1, 0x05, 1, .time64, .ro, 0, 0xffffffffffffffff, .repl, .lastResetTime, fun _ _ => 0⟩,
    ⟨0x7080, 1, 0x10000, 1, 65536, 1, 1, 0x01, 1, .visible, .wo, 0, 0, .repl, .pwEnter, fun _ _ => 0⟩,
    ⟨0x7080, 1, 0x10000, 1, 65536, 1, 1, 0x02, 1, .visible, .wo, 0, 0, .repl, .pwNew, fun _ _ => 0⟩,
    ⟨0x7080, 1, 0x10000, 1, 65536, 1, 1, 0x03, 1, .uint16, .wo, 1, 1, .repl, .pwLock, fun _ _ => 0⟩,
    ⟨0x7080, 1, 0x10000, 1, 65536, 1, 1, 0x04, 1, .uint16, .ro, 0, 65535, .repl, .pwStatus, fun _ _ => 0⟩,
    ⟨0x7080, 1, 0x10000, 1, 65536, 1, 1, 0x05, 1, .uint16, .ro, 0, 65535, .repl, .pwFailCount, fun _ _ => 0⟩,
    ⟨0x7080, 1, 0x10000, 1, 65536, 1, 1, 0x06, 1, .uint32, .ro, 0, 0xffffffff, .repl, .pwLockoutLeft, fun _ _ => 0⟩,
    ⟨0x7080, 1, 0x10000, 1, 65536, 1, 1, 0x07, 1, .octets, .ro, 0, 0, .repl, .pwSalt, fun _ _ => 0⟩,
    ⟨0x7080, 1, 0x10000, 1, 65536, 1, 1, 0x08, 1, .uint16, .rws, 10, 3600, .repl, .unlockIdle, fun _ _ => 600⟩,
    ⟨0x70A0, 3, 1, 1, 1, 1, 1, 0x01, 1, .uint16, .ro, 0, 65535, .repl, .supplyStatus, fun _ _ => 0⟩]

/-- Objects of indices 0x7000 to 0x7FFF, part 2. -/
def dictM1 : List Desc := [
    ⟨0x7800, 1, 0x10000, 1, 65536, 1, 1, 0x01, 1, .uint16, .rws, 0, 1, .repl, .clMode, fun _ _ => 0⟩,
    ⟨0x7800, 1, 0x10000, 1, 65536, 1, 1, 0x02, 1, .uint16, .ro, 0, 65535, .repl, .clCount, fun _ _ => 0⟩,
    ⟨0x7800, 1, 0x10000, 1, 65536, 1, 1, 0x03, 1, .uint32, .ro, 0, 0xffffffff, .repl, .clNextSeq, fun _ _ => 0⟩,
    ⟨0x7800, 1, 0x10000, 1, 65536, 1, 1, 0x04, 1, .uint32, .ro, 0, 0xffffffff, .repl, .clLastChain, fun _ _ => (Config.deviceUid % 2 ^ 32 : Nat)⟩,
    ⟨0x7800, 1, 0x10000, 1, 65536, 1, 1, 0x05, 1, .uint32, .ro, 0, 0xffffffff, .repl, .clBaseChain, fun _ _ => (Config.deviceUid % 2 ^ 32 : Nat)⟩,
    ⟨0x7800, 1, 0x10000, 1, 65536, 1, 1, 0x06, 1, .uint32, .ro, 0, 0xffffffff, .repl, .clOverwritten, fun _ _ => 0⟩,
    ⟨0x7800, 1, 0x10000, 1, 65536, 1, 1, 0x07, 1, .uint32, .rws, 0x65706977, 0x65706977, .repl, .clClear, fun _ _ => 0⟩,
    ⟨0x7801, 1, 0x10000, 1, 65536, 1, 1, 0x00, 1, .domain, .ro, 0, 0, .repl, .clData, fun _ _ => 0⟩]

/-- Objects of indices 0x7000 to 0x7FFF. -/
def dictM : List Desc := dictM0 ++ dictM1

/-- Objects of indices 0x8000 to 0x9FFF, part 1. -/
def dictN0 : List Desc := [
    ⟨0x8000, 3, 1, 1, 1, 1, 1, 0x01, 1, .uint16, .rw, 0, 3, .repl, .plRequest, fun _ _ => 3⟩,
    ⟨0x8000, 3, 1, 1, 1, 1, 1, 0x02, 1, .uint16, .ro, 0, 65535, .repl, .plNow, fun _ _ => 3⟩,
    ⟨0x8000, 3, 1, 1, 1, 1, 1, 0x03, 1, .uint16, .ro, 0, 65535, .repl, .plVddcMv, fun _ _ => 850⟩,
    ⟨0x8000, 3, 1, 1, 1, 1, 1, 0x04, 1, .uint16, .ro, 0, 65535, .repl, .plStatus, fun _ _ => 0⟩,
    ⟨0x8004, 1, 0x10000, 1, 65536, 1, 1, 0x01, 1, .uint16, .rw, 1, 100, .repl, .plVoltTimeout, fun _ _ => 5⟩,
    ⟨0x8008, 1, 0x10000, 1, 65536, 1, 1, 0x01, 1, .uint16, .rw, 10, 10000, .repl, .napIdle, fun _ _ => 50⟩,
    ⟨0x8008, 1, 0x10000, 1, 65536, 1, 1, 0x02, 1, .uint16, .rw, 10, 60000, .repl, .retainIdle, fun _ _ => 100⟩,
    ⟨0x8008, 1, 0x10000, 1, 65536, 1, 1, 0x03, 1, .uint16, .rw, 1, 3600, .repl, .parkIdle, fun _ _ => 30⟩,
    ⟨0x8008, 1, 0x10000, 1, 65536, 1, 1, 0x04, 1, .bool, .rw, 0, 1, .repl, .vehicleParked, fun _ _ => 0⟩,
    ⟨0x8008, 1, 0x10000, 1, 65536, 1, 1, 0x05, 1, .uint16, .wo, 1, 2, .repl, .pwrRequest, fun _ _ => 0⟩,
    ⟨0x8008, 1, 0x10000, 1, 65536, 1, 1, 0x06, 1, .uint16, .rws, 0, 7, .repl, .sleepEnable, fun _ _ => 7⟩,
    ⟨0x8010, 1, 0x10000, 1, 65536, 1, 1, 0x01, 1, .uint16, .ro, 0, 65535, .repl, .pwrStatus, fun _ _ => 0⟩,
    ⟨0x8010, 1, 0x10000, 1, 65536, 1, 1, 0x02, 1, .uint16, .ro, 0, 65535, .repl, .wakeCause, fun _ _ => 8⟩,
    ⟨0x8010, 1, 0x10000, 1, 65536, 1, 1, 0x03, 1, .time64, .ro, 0, 0xffffffffffffffff, .repl, .lastWakeTime, fun _ _ => 0⟩,
    ⟨0x8010, 1, 0x10000, 1, 65536, 1, 1, 0x04, 1, .uint32, .ro, 0, 0xffffffff, .repl, .wakeCount, fun _ _ => 0⟩,
    ⟨0x8020, 1, 0x10000, 1, 65536, 1, 1, 0x01, 1, .uint32, .rw, 0, 0xffffffff, .repl, .rtcSeconds, fun _ _ => 0⟩,
    ⟨0x8020, 1, 0x10000, 1, 65536, 1, 1, 0x02, 1, .uint32, .rw, 0, 0xffffffff, .repl, .rtcAlarm, fun _ _ => 0⟩,
    ⟨0x8020, 1, 0x10000, 1, 65536, 1, 1, 0x03, 1, .uint32, .ro, 0, 0xffffffff, .sum, .scrubCorrected, fun _ _ => 0⟩,
    ⟨0x8020, 1, 0x10000, 1, 65536, 1, 1, 0x04, 1, .uint32, .ro, 0, 0xffffffff, .sum, .scrubUncorrectable, fun _ _ => 0⟩,
    ⟨0x8020, 1, 0x10000, 1, 65536, 1, 1, 0x05, 1, .uint32, .ro, 0, 0xffffffff, .sum, .mramRewritten, fun _ _ => 0⟩,
    ⟨0x8020, 1, 0x10000, 1, 65536, 1, 1, 0x06, 1, .uint32, .ro, 0, 0xffffffff, .sum, .mramUncorrectable, fun _ _ => 0⟩,
    ⟨0x8020, 1, 0x10000, 1, 65536, 1, 1, 0x07, 1, .uint16, .ro, 0, 65535, .repl, .mramSweepAge, fun _ _ => 0⟩,
    ⟨0x8040, 1, 0x10000, 1, 65536, 1, 1, 0x01, 1, .uint32, .ro, 0, 0xffffffff, .repl, .refusalCount, fun _ _ => 0⟩,
    ⟨0x8040, 1, 0x10000, 1, 65536, 1, 1, 0x02, 1, .uint16, .ro, 0, 65535, .repl, .lastRefuser, fun _ _ => 0⟩,
    ⟨0x8040, 1, 0x10000, 1, 65536, 1, 1, 0x03, 1, .uint16, .ro, 0, 65535, .repl, .lastRefusedState, fun _ _ => 0⟩,
    ⟨0x8040, 1, 0x10000, 1, 65536, 1, 1, 0x04, 1, .time64, .ro, 0, 0xffffffffffffffff, .repl, .lastRefusalTime, fun _ _ => 0⟩,
    ⟨0x8040, 1, 0x10000, 1, 65536, 1, 1, 0x05, 1, .uint16, .ro, 0, 65535, .repl, .refuserMap, fun _ _ => 0⟩,
    ⟨0x9800, 6, 1, 1, 1, 1, 1, 0x01, 1, .uint16, .rw, 0, 3, .repl, .domainMode, fun _ _ => 3⟩,
    ⟨0x9800, 6, 1, 1, 1, 1, 1, 0x02, 1, .uint16, .ro, 0, 65535, .repl, .domainState, fun _ _ => 0⟩,
    ⟨0x9800, 6, 1, 1, 1, 1, 1, 0x03, 1, .uint16, .ro, 0, 65535, .repl, .domainLast, fun _ _ => 0⟩]

/-- Objects of indices 0x8000 to 0x9FFF. -/
def dictN : List Desc := dictN0

/-- Objects of indices 0xA000 to 0xA7FF, part 1. -/
def dictO0 : List Desc := [
    ⟨0xA000, 1, 0x10000, 1, 65536, 1, 1, 0x01, 1, .uint16, .rws, 0, 254, .repl, .fabNodeAddr, fun _ _ => 0⟩,
    ⟨0xA000, 1, 0x10000, 1, 65536, 1, 1, 0x02, 1, .uint16, .ro, 0, 65535, .repl, .fabAddrInUse, fun _ _ => 0⟩,
    ⟨0xA000, 1, 0x10000, 1, 65536, 1, 1, 0x03, 1, .uint16, .ro, 0, 65535, .repl, .fabStatus, fun _ _ => 0⟩,
    ⟨0xA000, 1, 0x10000, 1, 65536, 1, 1, 0x04, 1, .uint16, .rws, 0, 255, .repl, .fabTimePriority, fun _ _ => 128⟩,
    ⟨0xA000, 1, 0x10000, 1, 65536, 1, 1, 0x05, 1, .uint16, .ro, 0, 65535, .repl, .fabTimeMaster, fun _ _ => 0⟩,
    ⟨0xA000, 1, 0x10000, 1, 65536, 1, 1, 0x06, 1, .uint16, .rw, 2, 64, .repl, .fabMaxTtl, fun _ _ => 32⟩,
    ⟨0xA000, 1, 0x10000, 1, 65536, 1, 1, 0x07, 1, .uint16, .rws, 0, 4095, .repl, .fabLaneEnable, fun _ _ => 4095⟩,
    ⟨0xA000, 1, 0x10000, 1, 65536, 1, 1, 0x08, 1, .uint16, .rws, 0, 2, .repl, .fabAuthMode, fun _ _ => 0⟩,
    ⟨0xA000, 1, 0x10000, 1, 65536, 1, 1, 0x09, 1, .uint16, .rws, 0, 1, .repl, .fabAuthSlot, fun _ _ => 0⟩,
    ⟨0xA000, 1, 0x10000, 1, 65536, 1, 1, 0x0A, 1, .uint16, .rw, 2, 500, .repl, .fabAgreeWindow, fun _ _ => 20⟩,
    ⟨0xA001, 1, 0x10000, 1, 65536, 1, 1, 0x01, 1, .octets, .wo, 0, 0, .repl, .fabAuthKey0, fun _ _ => 0⟩,
    ⟨0xA001, 1, 0x10000, 1, 65536, 1, 1, 0x02, 1, .octets, .wo, 0, 0, .repl, .fabAuthKey1, fun _ _ => 0⟩,
    ⟨0xA001, 1, 0x10000, 1, 65536, 1, 1, 0x03, 1, .uint64, .ro, 0, 0xffffffffffffffff, .repl, .fabKeyId, fun _ _ => 0⟩,
    ⟨0xA010, 1, 0x10000, 1, 65536, 1, 1, 0x01, 1, .uint32, .ro, 0, 0xffffffff, .sum, .fabFramesFwd, fun _ _ => 0⟩,
    ⟨0xA010, 1, 0x10000, 1, 65536, 1, 1, 0x02, 1, .uint32, .ro, 0, 0xffffffff, .sum, .fabTtlDrops, fun _ _ => 0⟩,
    ⟨0xA010, 1, 0x10000, 1, 65536, 1, 1, 0x03, 1, .uint32, .ro, 0, 0xffffffff, .sum, .fabNoRoute, fun _ _ => 0⟩,
    ⟨0xA010, 1, 0x10000, 1, 65536, 1, 1, 0x04, 1, .uint32, .ro, 0, 0xffffffff, .sum, .fabStreamReject, fun _ _ => 0⟩,
    ⟨0xA010, 1, 0x10000, 1, 65536, 1, 1, 0x05, 1, .uint32, .ro, 0, 0xffffffff, .sum, .fabRateDrops, fun _ _ => 0⟩,
    ⟨0xA010, 1, 0x10000, 1, 65536, 1, 1, 0x06, 1, .uint32, .ro, 0, 0xffffffff, .sum, .fabAgreeFail, fun _ _ => 0⟩,
    ⟨0xA010, 1, 0x10000, 1, 65536, 1, 1, 0x07, 1, .uint32, .ro, 0, 0xffffffff, .sum, .fabElimDuplicates, fun _ _ => 0⟩,
    ⟨0xA010, 1, 0x10000, 1, 65536, 1, 1, 0x08, 1, .uint32, .ro, 0, 0xffffffff, .sum, .fabElimLate, fun _ _ => 0⟩,
    ⟨0xA010, 1, 0x10000, 1, 65536, 1, 1, 0x09, 1, .uint32, .ro, 0, 0xffffffff, .sum, .fabElimResets, fun _ _ => 0⟩,
    ⟨0xA010, 1, 0x10000, 1, 65536, 1, 1, 0x0A, 1, .uint32, .ro, 0, 0xffffffff, .sum, .fabAuthFails, fun _ _ => 0⟩,
    ⟨0xA020, 3, 4, 4, 1, 1, 1, 0x01, 1, .uint16, .ro, 0, 65535, .repl, .laneState, fun _ _ => 1⟩,
    ⟨0xA020, 3, 4, 4, 1, 1, 1, 0x02, 1, .uint16, .rws, 1, 255, .repl, .laneCost, fun _ _ => 10⟩,
    ⟨0xA020, 3, 4, 4, 1, 1, 1, 0x03, 1, .uint64, .ro, 0, 0xffffffffffffffff, .repl, .lanePeerUid, fun _ _ => 0⟩,
    ⟨0xA020, 3, 4, 4, 1, 1, 1, 0x04, 1, .uint16, .ro, 0, 65535, .repl, .lanePeerAddr, fun _ _ => 0⟩,
    ⟨0xA020, 3, 4, 4, 1, 1, 1, 0x05, 1, .uint16, .ro, 0, 65535, .repl, .lanePeerPos, fun _ _ => 0⟩,
    ⟨0xA020, 3, 4, 4, 1, 1, 1, 0x06, 1, .uint32, .ro, 0, 0xffffffff, .repl, .laneCrcErrors, fun _ _ => 0⟩,
    ⟨0xA020, 3, 4, 4, 1, 1, 1, 0x07, 1, .uint16, .ro, 0, 65535, .repl, .laneDelay, fun _ _ => 0⟩]

/-- Objects of indices 0xA000 to 0xA7FF, part 2. -/
def dictO1 : List Desc := [
    ⟨0xA200, 512, 1, 1, 1, 1, 1, 0x01, 8, .uint64, .rws, 0, 0xffffffffffffffff, .repl, .streamDesc, fun _ _ => 0⟩,
    ⟨0xA401, 254, 1, 1, 1, 1, 1, 0x01, 1, .uint64, .ro, 0, 0xffffffffffffffff, .repl, .nodeUid, fun _ _ => 0⟩,
    ⟨0xA401, 254, 1, 1, 1, 1, 1, 0x02, 1, .uint16, .ro, 0, 65535, .repl, .nodeReach, fun _ _ => 0⟩]

/-- Objects of indices 0xA000 to 0xA7FF. -/
def dictO : List Desc := dictO0 ++ dictO1

/-- Objects of indices 0xA800 to 0xAFFF, part 1. -/
def dictP0 : List Desc := [
    ⟨0xA800, 1, 0x10000, 1, 65536, 1, 1, 0x01, 1, .uint16, .rws, 1, 254, .repl, .twinPeerAddr, fun _ _ => 0⟩,
    ⟨0xA800, 1, 0x10000, 1, 65536, 1, 1, 0x02, 1, .uint64, .rws, 0, 0xffffffffffffffff, .repl, .twinPeerUid, fun _ _ => 0⟩,
    ⟨0xA800, 1, 0x10000, 1, 65536, 1, 1, 0x03, 1, .uint16, .wo, 1, 3, .repl, .twinPairCmd, fun _ _ => 0⟩,
    ⟨0xA800, 1, 0x10000, 1, 65536, 1, 1, 0x04, 1, .bool, .rws, 0, 1, .repl, .twinPreferred, fun _ _ => 0⟩,
    ⟨0xA800, 1, 0x10000, 1, 65536, 1, 1, 0x05, 1, .uint32, .rws, 0, 0xffffffff, .repl, .twinSteerAxes, fun _ _ => 0⟩,
    ⟨0xA800, 1, 0x10000, 1, 65536, 1, 1, 0x06, 1, .uint32, .rws, 0, 0xffffffff, .repl, .twinBrakeAxes, fun _ _ => 0⟩,
    ⟨0xA800, 1, 0x10000, 1, 65536, 1, 1, 0x07, 1, .uint16, .rws, 0, 254, .repl, .twinSpareAddr, fun _ _ => 0⟩,
    ⟨0xA800, 1, 0x10000, 1, 65536, 1, 1, 0x08, 1, .uint16, .rws, 1, 100, .repl, .twinHandshakeTime, fun _ _ => 20⟩,
    ⟨0xA800, 1, 0x10000, 1, 65536, 1, 1, 0x09, 1, .uint16, .rws, 100, 10000, .repl, .twinEligibleTime, fun _ _ => 500⟩,
    ⟨0xA800, 1, 0x10000, 1, 65536, 1, 1, 0x0A, 1, .uint16, .rws, 0, 255, .repl, .quietAxis, fun _ _ => 255⟩,
    ⟨0xA800, 1, 0x10000, 1, 65536, 1, 1, 0x0B, 1, .uint32, .rws, 0, 0xffffffff, .repl, .quietRate, fun _ _ => 1000⟩,
    ⟨0xA800, 1, 0x10000, 1, 65536, 1, 1, 0x0C, 1, .uint16, .rws, 0, 255, .repl, .quietGroup, fun _ _ => 255⟩,
    ⟨0xA800, 1, 0x10000, 1, 65536, 1, 1, 0x0D, 1, .uint32, .rws, 0, 0xffffffff, .repl, .quietBand, fun _ _ => 100⟩,
    ⟨0xA800, 1, 0x10000, 1, 65536, 1, 1, 0x0E, 1, .uint16, .rws, 10, 10000, .repl, .quietTime, fun _ _ => 100⟩,
    ⟨0xA800, 1, 0x10000, 1, 65536, 1, 1, 0x0F, 1, .uint16, .rws, 2, 100, .repl, .spareDelay, fun _ _ => 3⟩,
    ⟨0xA801, 1, 0x10000, 1, 65536, 1, 1, 0x01, 1, .uint16, .ro, 0, 65535, .repl, .twinState, fun _ _ => 0⟩,
    ⟨0xA801, 1, 0x10000, 1, 65536, 1, 1, 0x02, 1, .uint16, .ro, 0, 65535, .repl, .twinStatus, fun _ _ => 0⟩,
    ⟨0xA801, 1, 0x10000, 1, 65536, 1, 1, 0x03, 1, .uint32, .ro, 0, 0xffffffff, .repl, .twinEpoch, fun _ _ => 0⟩,
    ⟨0xA801, 1, 0x10000, 1, 65536, 1, 1, 0x04, 1, .uint16, .ro, 0, 65535, .repl, .twinPairResult, fun _ _ => 0⟩,
    ⟨0xA801, 1, 0x10000, 1, 65536, 1, 1, 0x05, 1, .uint32, .ro, 0, 0xffffffff, .repl, .twinConfigDigest, fun _ _ => 0⟩,
    ⟨0xA801, 1, 0x10000, 1, 65536, 1, 1, 0x06, 1, .uint32, .ro, 0, 0xffffffff, .sum, .twinHbMisses, fun _ _ => 0⟩,
    ⟨0xA801, 1, 0x10000, 1, 65536, 1, 1, 0x07, 1, .uint32, .ro, 0, 0xffffffff, .sum, .twinHbRejects, fun _ _ => 0⟩,
    ⟨0xA801, 1, 0x10000, 1, 65536, 1, 1, 0x08, 1, .uint32, .ro, 0, 0xffffffff, .repl, .twinTakeovers, fun _ _ => 0⟩,
    ⟨0xA801, 1, 0x10000, 1, 65536, 1, 1, 0x09, 1, .uint32, .ro, 0, 0xffffffff, .repl, .twinFailbacks, fun _ _ => 0⟩,
    ⟨0xA801, 1, 0x10000, 1, 65536, 1, 1, 0x0A, 1, .uint32, .ro, 0, 0xffffffff, .repl, .twinStaleClaims, fun _ _ => 0⟩,
    ⟨0xA801, 1, 0x10000, 1, 65536, 1, 1, 0x0B, 1, .uint16, .ro, 0, 65535, .repl, .twinEligibleAge, fun _ _ => 0⟩,
    ⟨0xA801, 1, 0x10000, 1, 65536, 1, 1, 0x0C, 1, .time64, .ro, 0, 0xffffffffffffffff, .repl, .twinLastChange, fun _ _ => 0⟩,
    ⟨0xA802, 1, 0x10000, 1, 65536, 1, 1, 0x01, 1, .uint16, .rws, 0, 254, .repl, .sparePair0, fun _ _ => 0⟩,
    ⟨0xA802, 1, 0x10000, 1, 65536, 1, 1, 0x02, 1, .uint16, .rws, 0, 254, .repl, .sparePair1, fun _ _ => 0⟩]

/-- Objects of indices 0xA800 to 0xAFFF. -/
def dictP : List Desc := dictP0

/-- Objects of indices 0xB000 to 0xFFFF, part 1. -/
def dictQ0 : List Desc := [
    ⟨0xB000, 1, 0x10000, 1, 65536, 1, 1, 0x01, 1, .uint16, .ro, 0, 65535, .repl, .lcState, fun _ _ => 0⟩,
    ⟨0xB000, 1, 0x10000, 1, 65536, 1, 1, 0x02, 1, .uint32, .wo, 0, 0xffffffff, .repl, .lcRequest, fun _ _ => 0⟩,
    ⟨0xB000, 1, 0x10000, 1, 65536, 1, 1, 0x03, 1, .uint16, .ro, 0, 65535, .repl, .lcStatus, fun _ _ => 0⟩,
    ⟨0xB000, 1, 0x10000, 1, 65536, 1, 1, 0x04, 1, .bool, .rws, 0, 1, .repl, .debugPermit, fun _ _ => 0⟩,
    ⟨0xB000, 1, 0x10000, 1, 65536, 1, 1, 0x05, 1, .uint32, .ro, 0, 0xffffffff, .repl, .lcLastChange, fun _ _ => 0⟩,
    ⟨0xB010, 3, 1, 1, 1, 1, 1, 0x01, 1, .uint32, .ro, 0, 0xffffffff, .repl, .lbistFailMap, fun _ _ => 0⟩,
    ⟨0xB010, 3, 1, 1, 1, 1, 1, 0x02, 1, .uint32, .ro, 0, 0xffffffff, .repl, .mbistFailMap, fun _ _ => 0⟩,
    ⟨0xB010, 3, 1, 1, 1, 1, 1, 0x03, 1, .uint16, .ro, 0, 65535, .repl, .mbistRepairs, fun _ _ => 0⟩,
    ⟨0xB010, 3, 1, 1, 1, 1, 1, 0x04, 1, .uint16, .ro, 0, 65535, .repl, .bistDuration, fun _ _ => 0⟩,
    ⟨0xB020, 1, 0x10000, 1, 65536, 1, 1, 0x01, 1, .bool, .rws, 0, 1, .repl, .sliceEnable, fun _ _ => 1⟩,
    ⟨0xB020, 1, 0x10000, 1, 65536, 1, 1, 0x02, 1, .uint32, .ro, 0, 0xffffffff, .sum, .sliceRotations, fun _ _ => 0⟩,
    ⟨0xB020, 1, 0x10000, 1, 65536, 1, 1, 0x03, 1, .uint32, .ro, 0, 0xffffffff, .sum, .sliceAborts, fun _ _ => 0⟩,
    ⟨0xB020, 1, 0x10000, 1, 65536, 1, 1, 0x04, 1, .uint32, .ro, 0, 0xffffffff, .sum, .sliceRefusals, fun _ _ => 0⟩,
    ⟨0xB020, 1, 0x10000, 1, 65536, 1, 1, 0x05, 1, .uint32, .ro, 0, 0xffffffff, .sum, .sliceFails, fun _ _ => 0⟩,
    ⟨0xB020, 1, 0x10000, 1, 65536, 1, 1, 0x06, 1, .uint16, .ro, 0, 65535, .repl, .rotationMax, fun _ _ => 0⟩,
    ⟨0xB028, 3, 1, 1, 1, 1, 1, 0x01, 16, .uint16, .ro, 0, 65535, .repl, .sliceNext, fun _ _ => 0⟩,
    ⟨0xC000, 1, 0x10000, 1, 65536, 1, 1, 0x01, 1, .uint16, .wo, 0, 7, .repl, .sedTrigger, fun _ _ => 0⟩,
    ⟨0xC000, 1, 0x10000, 1, 65536, 1, 1, 0x02, 1, .uint16, .rws, 0, 7, .repl, .sedRelease, fun _ _ => 0⟩,
    ⟨0xC000, 1, 0x10000, 1, 65536, 1, 1, 0x03, 1, .uint16, .rw, 1000, 20000, .repl, .sedTraceRate, fun _ _ => 1000⟩,
    ⟨0xC001, 1, 0x10000, 1, 65536, 1, 1, 0x01, 16, .uint32, .rw, 0, 0xffffffff, .repl, .sedTraceNode, fun _ _ => 0⟩,
    ⟨0xC010, 3, 1, 1, 1, 1, 1, 0x01, 1, .uint16, .ro, 0, 65535, .repl, .sedStatus, fun _ _ => 0⟩,
    ⟨0xC010, 3, 1, 1, 1, 1, 1, 0x02, 1, .uint32, .ro, 0, 0xffffffff, .repl, .sedEvents, fun _ _ => 0⟩,
    ⟨0xC010, 3, 1, 1, 1, 1, 1, 0x03, 1, .time64, .ro, 0, 0xffffffffffffffff, .repl, .sedFreezeTime, fun _ _ => 0⟩,
    ⟨0xC010, 3, 1, 1, 1, 1, 1, 0x04, 1, .uint16, .ro, 0, 65535, .repl, .sedFreezeCause, fun _ _ => 0⟩,
    ⟨0xC010, 3, 1, 1, 1, 1, 1, 0x05, 1, .uint16, .ro, 0, 65535, .repl, .sedSumValid, fun _ _ => 0⟩,
    ⟨0xC010, 3, 1, 1, 1, 1, 1, 0x06, 1, .uint16, .rws, 0, 255, .repl, .sedSumLock, fun _ _ => 0⟩,
    ⟨0xC010, 3, 1, 1, 1, 1, 1, 0x07, 1, .uint16, .ro, 0, 65535, .repl, .sedSumNewest, fun _ _ => 255⟩,
    ⟨0xC010, 3, 1, 1, 1, 1, 1, 0x08, 1, .uint32, .ro, 0, 0xffffffff, .repl, .sedSumDropped, fun _ _ => 0⟩,
    ⟨0xC010, 3, 1, 1, 1, 1, 1, 0x09, 1, .uint32, .ro, 0, 0xffffffff, .repl, .sedSuppressed, fun _ _ => 0⟩,
    ⟨0xC020, 3, 1, 1, 1, 1, 1, 0x01, 1, .domain, .ro, 0, 0, .repl, .sedRing, fun _ _ => 0⟩]

/-- Objects of indices 0xB000 to 0xFFFF, part 2. -/
def dictQ1 : List Desc := [
    ⟨0xC020, 3, 1, 1, 1, 1, 1, 0x02, 1, .domain, .ro, 0, 0, .repl, .sedTrace, fun _ _ => 0⟩,
    ⟨0xC030, 3, 8, 8, 1, 1, 1, 0x01, 1, .domain, .ro, 0, 0, .repl, .sumHeader, fun _ _ => 0⟩,
    ⟨0xC030, 3, 8, 8, 1, 1, 1, 0x02, 1, .domain, .ro, 0, 0, .repl, .sumEvents, fun _ _ => 0⟩,
    ⟨0xC030, 3, 8, 8, 1, 1, 1, 0x03, 1, .domain, .ro, 0, 0, .repl, .sumTrace, fun _ _ => 0⟩,
    ⟨0xF010, 1, 0x10000, 1, 65536, 1, 1, 0x01, 1, .time64, .ro, 0, 0xffffffffffffffff, .repl, .deviceTime, fun _ _ => 0⟩,
    ⟨0xF010, 1, 0x10000, 1, 65536, 1, 1, 0x02, 1, .uint16, .ro, 0, 65535, .repl, .timeStatus, fun _ _ => 0⟩,
    ⟨0xF010, 1, 0x10000, 1, 65536, 1, 1, 0x03, 1, .int32, .ro, -0x80000000, 0x7fffffff, .repl, .timeOffset, fun _ _ => 0⟩,
    ⟨0xF010, 1, 0x10000, 1, 65536, 1, 1, 0x04, 1, .int32, .ro, -0x80000000, 0x7fffffff, .repl, .timeRateAdj, fun _ _ => 0⟩,
    ⟨0xF010, 1, 0x10000, 1, 65536, 1, 1, 0x05, 1, .uint16, .ro, 0, 65535, .repl, .channelSkewMax, fun _ _ => 0⟩,
    ⟨0xF020, 1, 0x10000, 1, 65536, 1, 1, 0x00, 1, .uint16, .ro, 0, 65535, .repl, .strapStatus, fun _ _ => 0⟩,
    ⟨0xF021, 1, 0x10000, 1, 65536, 1, 1, 0x00, 1, .uint16, .ro, 0, 65535, .repl, .strapNidA, fun _ _ => 0⟩,
    ⟨0xF022, 1, 0x10000, 1, 65536, 1, 1, 0x00, 1, .uint16, .ro, 0, 65535, .repl, .strapNidB, fun _ _ => 0⟩,
    ⟨0xF023, 1, 0x10000, 1, 65536, 1, 1, 0x00, 1, .uint16, .ro, 0, 65535, .repl, .strapNidC, fun _ _ => 0⟩,
    ⟨0xF030, 3, 1, 1, 1, 1, 1, 0x01, 1, .uint16, .ro, 0, 65535, .repl, .suStep, fun _ _ => 0⟩,
    ⟨0xF030, 3, 1, 1, 1, 1, 1, 0x02, 1, .uint16, .ro, 0, 65535, .repl, .suFailStep, fun _ _ => 0⟩,
    ⟨0xF030, 3, 1, 1, 1, 1, 1, 0x03, 1, .time64, .ro, 0, 0xffffffffffffffff, .repl, .suReadyTime, fun _ _ => 0⟩,
    ⟨0xF030, 3, 1, 1, 1, 1, 1, 0x04, 1, .uint16, .ro, 0, 65535, .repl, .suDuration, fun _ _ => 0⟩,
    ⟨0xF034, 1, 0x10000, 1, 65536, 1, 1, 0x01, 1, .uint16, .ro, 0, 65535, .repl, .suStatus, fun _ _ => 0⟩,
    ⟨0xF100, 2, 1, 1, 1, 1, 1, 0x01, 1, .uint64, .ro, 0, 0xffffffffffffffff, .repl, .hrUid, fun _ _ => 0⟩,
    ⟨0xF100, 2, 1, 1, 1, 1, 1, 0x02, 1, .uint16, .ro, 0, 65535, .repl, .hrRedundState, fun _ _ => 0⟩,
    ⟨0xF100, 2, 1, 1, 1, 1, 1, 0x03, 1, .uint16, .ro, 0, 65535, .repl, .hrDeviceScore, fun _ _ => 0⟩,
    ⟨0xF100, 2, 1, 1, 1, 1, 1, 0x04, 1, .uint16, .ro, 0, 65535, .repl, .hrSpare, fun _ _ => 0⟩,
    ⟨0xF100, 2, 1, 1, 1, 1, 1, 0x05, 1, .uint16, .ro, 0, 65535, .repl, .hrTwinState, fun _ _ => 0⟩,
    ⟨0xF100, 2, 1, 1, 1, 1, 1, 0x06, 1, .uint32, .ro, 0, 0xffffffff, .repl, .hrEpoch, fun _ _ => 0⟩,
    ⟨0xF100, 2, 1, 1, 1, 1, 1, 0x07, 1, .uint32, .ro, 0, 0xffffffff, .repl, .hrFaultSummary, fun _ _ => 0⟩,
    ⟨0xF100, 2, 1, 1, 1, 1, 1, 0x08, 1, .uint16, .ro, 0, 65535, .repl, .hrSliceAge, fun _ _ => 0⟩,
    ⟨0xF100, 2, 1, 1, 1, 1, 1, 0x09, 1, .uint32, .ro, 0, 0xffffffff, .repl, .hrSliceFails, fun _ _ => 0⟩,
    ⟨0xF100, 2, 1, 1, 1, 1, 1, 0x0A, 1, .time64, .ro, 0, 0xffffffffffffffff, .repl, .hrTime, fun _ _ => 0⟩]

/-- Objects of indices 0xB000 to 0xFFFF. -/
def dictQ : List Desc := dictQ0 ++ dictQ1

/-- The descriptors among which an index may be found. -/
def dictFor (idx : Nat) : List Desc :=
  if 0x1000 ≤ idx ∧ idx ≤ 0x11FF then dictA
  else if 0x1200 ≤ idx ∧ idx ≤ 0x1FFF then dictB
  else if 0x2000 ≤ idx ∧ idx ≤ 0x23FF then dictC
  else if 0x2400 ≤ idx ∧ idx ≤ 0x2FFF then dictD
  else if 0x3000 ≤ idx ∧ idx ≤ 0x37FF then dictE
  else if 0x3800 ≤ idx ∧ idx ≤ 0x3FFF then dictF
  else if 0x4000 ≤ idx ∧ idx ≤ 0x47FF then dictG
  else if 0x4800 ≤ idx ∧ idx ≤ 0x4BFF then dictH
  else if 0x4C00 ≤ idx ∧ idx ≤ 0x4FFF then dictI
  else if 0x5000 ≤ idx ∧ idx ≤ 0x5FFF then dictJ
  else if 0x6000 ≤ idx ∧ idx ≤ 0x67FF then dictK
  else if 0x6800 ≤ idx ∧ idx ≤ 0x6FFF then dictL
  else if 0x7000 ≤ idx ∧ idx ≤ 0x7FFF then dictM
  else if 0x8000 ≤ idx ∧ idx ≤ 0x9FFF then dictN
  else if 0xA000 ≤ idx ∧ idx ≤ 0xA7FF then dictO
  else if 0xA800 ≤ idx ∧ idx ≤ 0xAFFF then dictP
  else if 0xB000 ≤ idx ∧ idx ≤ 0xFFFF then dictQ
  else []

/-- The instance numbers with which a descriptor covers an index. -/
def Desc.inst (d : Desc) (idx : Nat) : Option (Nat × Nat × Nat) :=
  let x := idx - d.base
  let i := x / d.s1
  let y := x % d.s1
  let j := y / d.s2
  let z := y % d.s2
  let k := z / d.s3
  if d.base ≤ idx ∧ i < d.n1 ∧ j < d.n2 ∧ k < d.n3 ∧ z % d.s3 = 0 then some (i, j, k) else none

/-- The entry at an index and subindex among descriptors (checks 2 and 3 of R83 without the record count). -/
def findIn (idx sub : Nat) : List Desc → Option Entry
  | [] => none
  | d :: r =>
    match d.inst idx with
    | some (i, j, k) =>
      if d.sub ≤ sub ∧ sub < d.sub + d.nsub then some ⟨d, i, j, k, sub - d.sub, idx * 256 + sub⟩ else findIn idx sub r
    | none => findIn idx sub r

/-- Whether any object has the index (R59). -/
def indexExists (idx : Nat) : Bool := (dictFor idx).any fun d => (d.inst idx).isSome

/-- The highest subindex in use at an index (R56). -/
def highestSub (idx : Nat) : Nat :=
  (dictFor idx).foldl (fun h d => if (d.inst idx).isSome then max h (d.sub + d.nsub - 1) else h) 0

/-- The descriptor of a record's subindex 0 (R56). -/
def countDesc (idx : Nat) : Desc :=
  ⟨idx, 1, 1, 1, 1, 1, 1, 0, 1, .uint16, .const, 0, 255, .repl, .count, fun _ _ => (highestSub idx : Nat)⟩

/-- The entry at an index and subindex (R56, R59). -/
def findObj (idx sub : Nat) : Option Entry :=
  match findIn idx sub (dictFor idx) with
  | some e => some e
  | none => if sub = 0 ∧ indexExists idx then some ⟨countDesc idx, 0, 0, 0, 0, idx * 256⟩ else none

/-- Default of STREAM_DESC of stream `n` (R376): PRIORITY 0b10, and the two streams with defaults of their own. -/
def streamDflt (n : Nat) : Int := if n = 0x0E00 then 0x25 else if n = 0x0F00 then 0x45 else 0x40

/-- The object of an entry. -/
def Entry.obj (e : Entry) : Obj :=
  ⟨e.key, match e.desc.role with
    | .streamDesc => streamDflt (e.i * 8 + e.m)
    | _ => e.desc.dflt e.i e.j⟩

/-- The object at an index and subindex; an address at which no object is defined gives default 0. -/
def objAt (idx sub : Nat) : Obj :=
  match findObj idx sub with
  | some e => e.obj
  | none => ⟨idx * 256 + sub, 0⟩

end Sys2Proof.Machine
end

