-- ==== Sys2Proof/Machine/Tbl.lean ====
section
/-! DEFINITION. Finite tables in one canonical form.

A table is a list of (key, value) pairs with strictly rising keys in which no entry equals the value that an unlisted
key reads as. Equal tables are therefore equal lists. The value that an unlisted key reads as is passed to each
operation. -/

namespace Sys2Proof.Machine

/-- A table from a number to a value. -/
abbrev Tbl (α : Type) := List (Nat × α)

/-- The value at key `k`; an unlisted key reads as `d`. -/
def Tbl.getD {α : Type} (t : Tbl α) (k : Nat) (d : α) : α :=
  match t with
  | [] => d
  | (k', v) :: r => if k' = k then v else Tbl.getD r k d

/-- `t` without the entry of key `k`. -/
def Tbl.erase {α : Type} (t : Tbl α) (k : Nat) : Tbl α := t.filter fun e => e.1 != k

/-- `t` with a new entry placed before the first larger key. -/
def Tbl.place {α : Type} (t : Tbl α) (k : Nat) (v : α) : Tbl α :=
  match t with
  | [] => [(k, v)]
  | (k', v') :: r => if k < k' then (k, v) :: (k', v') :: r else (k', v') :: Tbl.place r k v

/-- `t` with value `v` at key `k`; storing the default `d` removes the entry. -/
def Tbl.put {α : Type} [DecidableEq α] (t : Tbl α) (k : Nat) (d v : α) : Tbl α :=
  if v = d then t.erase k else (t.erase k).place k v

/-- `t` with the value at key `k` changed by `f`. -/
def Tbl.modify {α : Type} [DecidableEq α] (t : Tbl α) (k : Nat) (d : α) (f : α → α) : Tbl α :=
  t.put k d (f (t.getD k d))

/-- The keys rise strictly. -/
def Tbl.sorted {α : Type} : Tbl α → Bool
  | [] => true
  | (k, _) :: r => (r.all fun e => k < e.1) && Tbl.sorted r

/-- The canonical form against a default that may depend on the key. -/
def Tbl.wf {α : Type} [DecidableEq α] (t : Tbl α) (d : Nat → α) : Bool :=
  Tbl.sorted t && t.all fun e => e.2 != d e.1

end Sys2Proof.Machine
end

