-- ==== Sys2Proof/Machine/UnitsA.lean ====
section
/-! DEFINITION. The state of the units behind the dictionary, first part: sensing, feedback, tasks, bridges, profiles,
groups, the Sluice, host ports, KDP, voting and the sediment record.

Dictionary values themselves are held in `State.regs`; a unit holds what the rules give it beyond its objects. -/

namespace Sys2Proof.Machine

/-- Where a converter stands in a calibration (R144, R146). -/
inductive CalPhase where
  | idle
  /-- selected; the time since which it waits for its disturbed group -/
  | waiting (since : Option Nat)
  /-- selected at start-up, which does not wait (R147) -/
  | startup
  /-- calibrating since the given time; whether at start-up -/
  | running (since : Nat) (atStart : Bool)
  /-- ended at the given time; CAL stays until a result whose window lies after it -/
  | ended (at_ : Nat)
deriving DecidableEq, Repr, Inhabited

/-- A converter (R126 to R148). -/
structure Conv where
  /-- in overrange now (R137): by the detector, or by a filter output beyond the code range -/
  ovr : Bool := false
  det : Bool := false
  filt : Bool := false
  /-- the present excursion is positive -/
  ovrPos : Bool := false
  /-- the instant at which SETTLING ends (R138) -/
  settleEnd : Nat := 0
  cal : CalPhase := .idle
  /-- a calibration has completed since power-on (R147) -/
  calibrated : Bool := false
  /-- the instant of the last result, from which the next is counted (R128, R129) -/
  last : Nat := 0
  /-- the next result is the first one of a new start: its window begins at `last` (R128) -/
  gap : Bool := true
  /-- no window that begins before this instant gives a result (R135) -/
  from_ : Nat := 0
  /-- the valley whose loop sample has been delivered (R129) -/
  loopAt : Option Nat := none
  /-- the latest loop sample (R130), and the one before it -/
  sample : Option LoopSample := none
  samplePrev : Option LoopSample := none
deriving DecidableEq, Repr, Inhabited

/-- A reference group (R137 to R139). -/
structure Grp where
  /-- BUF_OUT: the buffer is outside its tolerance now -/
  bufOut : Bool := false
  /-- GRPF: a converter-group fault is latched -/
  grpf : Bool := false
  /-- members calibrated successfully since the fault, one bit each -/
  calOk : Nat := 0
deriving DecidableEq, Repr, Inhabited

/-- A diagnostic converter's scan (R141, R142). -/
structure Diag where
  /-- the source whose scan step runs -/
  src : Nat := 0
  /-- the start of the running scan step or injected conversion -/
  since : Nat := 0
  /-- the requested source of a pending injected conversion -/
  inj : Option Nat := none
deriving DecidableEq, Repr, Inhabited

/-- An input pin of a feedback port (R155). -/
structure Pin where
  /-- the accepted level, after inversion and filter -/
  level : Bool := false
  /-- a level has been accepted since the sampling began -/
  known : Bool := false
  /-- the raw level, and the sample from which on it has been seen without a break -/
  raw : Bool := false
  since : Nat := 0
deriving DecidableEq, Repr, Inhabited

/-- A feedback port beyond its objects (R155 to R166, R174 to R176). -/
structure Fport where
  pinA : Pin := {}
  pinB : Pin := {}
  pinZ : Pin := {}
  /-- the first sample since power-on or the last wake (R36, R180) -/
  from_ : Nat := 0
  /-- the 64-bit extension of RAW (R161) -/
  raw64 : Int := 0
  ref : Int := 0
  lastOff : Option Int := none
  /-- time of the last quadrature error (R158) -/
  quadErrAt : Option Nat := none
  /-- the pulse on the CMP pin: its rising and its falling edge (R174, R175) -/
  pulse : Option (Nat × Nat) := none
  /-- directions of the moves in which entries are behind (R176), by entry -/
  behindDir : Tbl Int := []
  /-- DIR level of the output mode and the time from which steps may follow it (R165) -/
  dirUp : Bool := false
  dirReady : Nat := 0
  /-- rising edges of the steps of the present tick that have not been counted yet, oldest first (R165) -/
  steps : List Nat := []
  /-- rising edge of the last step that has been counted -/
  lastStep : Option Nat := none
deriving DecidableEq, Repr, Inhabited

/-- A sensor port beyond its objects (R168 to R171). -/
structure Sport where
  /-- the previous reading; none before the first valid one (R170) -/
  prev : Option Nat := none
  errs : Nat := 0
  goods : Nat := 0
  /-- calibration pulse of the previous SENT frame -/
  calib : Option Nat := none
  /-- the last good frame, or the enabling (R171) -/
  lastGood : Nat := 0
  /-- the instant of the last PSI5 sync request, and whether its frame is still to come (R169) -/
  syncAt : Option Nat := none
  waits : Bool := false
deriving DecidableEq, Repr, Inhabited

/-- A resolver tracker beyond its objects (R173). -/
structure Tracker where
  /-- the first rising edge of the excitation (R172) -/
  exc : Nat := 0
  prev : Option Nat := none
  /-- time of the last reading -/
  readAt : Nat := 0
  /-- angle and speed estimate of the tracking loop, in units of the loop (log entry 7) -/
  angle : Nat := 0
  speed : Int := 0
  low : Nat := 0
  out : Nat := 0
  flagged : Nat := 0
  goodAmp : Nat := 0
  goodDos : Nat := 0
deriving DecidableEq, Repr, Inhabited

/-- The inputs of a released iteration: the values and whether each is valid (R19, R209). -/
structure Inputs where
  /-- period start of the iteration -/
  start : Nat := 0
  r : Int := 0
  y : Int := 0
  f : Int := 0
  valid : Bool := true
  /-- dq: phase samples, DC-link value, extrapolated position and its validity -/
  iu : Int := 0
  iv : Int := 0
  iw : Int := 0
  usable : Trio Bool := Trio.all true
  vdc : Int := 0
  vdcOk : Bool := true
  pos : Int := 0
  posPrev : Int := 0
  posValid : Bool := true
  /-- a loop sample of the set carries OVRG (R250) -/
  ovrg : Bool := false
deriving DecidableEq, Repr, Inhabited

/-- The integrator and anti-windup states of one axis of a controller (R202, R203, R243). -/
structure Integ where
  i : Int := 0
  sat : Bool := false
  dir : Int := 0
  esign : Int := 0
deriving DecidableEq, Repr, Inhabited

/-- The current limit of an axis as its dq task keeps it (R248, R249). -/
structure Limit where
  /-- L, 2^-16 codes -/
  l : Int := 0
  lb : Int := 0
  /-- remainder of the slew, in codes · ticks -/
  lbRem : Int := 0
  h : Int := 32768
  ilimit : Int := 0
  stillSince : Option Nat := none
  /-- the stall timer: the iterated time in ticks since it started (R249) -/
  stall : Option Nat := none
deriving DecidableEq, Repr, Inhabited

/-- The state of a task in one channel: what a state copy carries (R202 to R209, R211, R214, R243, R244, R248). -/
structure TaskSt where
  pid : Integ := {}
  /-- first use presets the integrator to this mirrored INT_STATE (R403) -/
  preset : Option Int := none
  d : Int := 0
  ePrev : Int := 0
  pPrev : Int := 0
  vf : Int := 0
  rPrev : Int := 0
  /-- x of an observer, y of a rate limiter -/
  x : Int := 0
  /-- dq: the two controllers, the last angle and position, the last duty values, the current limit -/
  ctlD : Integ := {}
  ctlQ : Integ := {}
  thPrev : Int := 0
  posPrev : Int := 0
  duty : Trio Int := Trio.all 0
  lim : Limit := {}
  dqStatus : Nat := 0
  /-- bank in use: 0 = A, 1 = B -/
  bank : Nat := 0
  first : Bool := true
  satNow : Bool := false
  arithSat : Bool := false
  /-- period start at which the following-error timer started (R214) -/
  feStart : Option Nat := none
  feFault : Bool := false
  hold : Bool := false
  lost : Bool := false
  /-- consecutive held iterations -/
  heldRun : Nat := 0
  /-- period start of the last iteration that was not held -/
  start : Nat := 0
  /-- node values of the last primary pass (R225) -/
  nodes : List (Nat × Int) := []
  /-- values of the last iteration with valid inputs (R211, R212): u or vq, e or eq, f, the change of r; and for a dq
  pair vd, ed, w, id, iq and vdc -/
  uLast : Int := 0
  eLast : Int := 0
  fLast : Int := 0
  drLast : Int := 0
  vdLast : Int := 0
  edLast : Int := 0
  wLast : Int := 0
  idLast : Int := 0
  iqLast : Int := 0
  vdcLast : Int := 0
deriving DecidableEq, Repr, Inhabited

/-- A completed iteration waiting for its checkpoint (R294, R300). -/
structure Done where
  start : Nat := 0
  outs : List Int := []
  digest : Nat := 0
  /-- the iteration ended in a coding fault: no output and no digest (R298) -/
  fault : Bool := false
  /-- a loop sample of the iteration carried OVRG (R250) -/
  ovrg : Bool := false
  /-- the inputs of the iteration, as a candidate sends them to the twin (R311) -/
  inputs : List Int := []
deriving DecidableEq, Repr, Inhabited

/-- The progress of a task move (R348). -/
structure TaskMove where
  /-- new owner channel number (3 = twin) and new engine per channel -/
  owner : Nat := 0
  computed : Trio Bool := Trio.all false
  engines : Trio Nat := Trio.all 0
  /-- the copy has been sent at checkpoint N -/
  copied : Bool := false
  /-- the copy had arrived at every new site when the iteration after it was released -/
  ready : Bool := false
  fails : Nat := 0
deriving DecidableEq, Repr, Inhabited

/-- A control task (R190 to R221). -/
structure TaskRec where
  st : Trio TaskSt := Trio.all {}
  /-- the released iteration of each channel, with its release time -/
  rel : Trio (Option Inputs) := Trio.all none
  relAt : Nat := 0
  /-- the completed iteration of each channel -/
  fin : Trio (Option Done) := Trio.all none
  /-- period start of the last released iteration -/
  lastStart : Option Nat := none
  /-- a requested bank swap: the bank and the agreement time (R210) -/
  swap : Option (Nat × Nat) := none
  /-- last committed outputs per channel -/
  out : Trio (List Int) := Trio.all []
  move : Option TaskMove := none
  /-- site in force: owner (0 to 2, 3 = twin), computing channels and engines (R330 PLAN_SITE) -/
  owner : Nat := 0
  computed : Trio Bool := Trio.all false
  engines : Trio Nat := Trio.all 0
  placed : Bool := false
  fallback : Bool := false
  pinBroken : Bool := false
  unplaced : Bool := false
  /-- steps of its axis's hand-over: 1 = N awaited toward SPLIT, 2 = N awaited toward LOCKED, 3 = N passed, 4 = copy sent,
  5 = the task has changed (R316, R317); 0 = none -/
  ho : Nat := 0
deriving DecidableEq, Repr, Inhabited

/-- A trace (R222 to R231): its state beyond the objects. -/
structure TraceRec where
  /-- 0 idle, 1 armed, 2 triggered, 3 done, 4 aborted (R231) -/
  state : Nat := 0
  cause : Nat := 0
  preShort : Bool := false
  dropped : Bool := false
  chan : Option Ch := none
  /-- records and markers, oldest first: time (or all ones) and node values -/
  recs : List (Nat × List Int) := []
  /-- records written after the trigger iteration, that one included -/
  post : Nat := 0
  /-- iterations since the last record -/
  decim : Nat := 0
  prev : Option Int := none
  /-- bytes in the capture FIFO and the time at which they stood there (R223) -/
  fifo : Nat := 0
  fifoAt : Nat := 0
  dropRun : Nat := 0
  /-- the next iteration is the trigger iteration: source 0, or the host (R226) -/
  fire : Bool := false
  /-- an event of trigger source 4 since the last iteration -/
  event : Bool := false
  /-- source trigger time of a cross-trigger in flight (R227) -/
  cross : Option Nat := none
  /-- pool space held, in bytes -/
  pool : Nat := 0
  lastBank : Nat := 0
  lastEngine : Nat := 0
deriving DecidableEq, Repr, Inhabited

/-- A bridge slot and the ARM output of the same number (R232 to R257, R424 to R431). -/
structure Slot where
  running : Bool := false
  aligned : Bool := false
  /-- grid in force: half period and phase (R233) -/
  top : Nat := 0
  phase : Nat := 0
  /-- a start or a new grid waits for this instant or later -/
  startFrom : Option Nat := none
  /-- ticks still to realign after a time-base step, by which the valleys lie after their grid (R233) -/
  realign : Int := 0
  /-- the tick that the peak of the present period has added or removed; none before the peak -/
  adj : Option Int := none
  /-- active compare values of U, V and W, and those of the period before (R234, R235) -/
  cmp : Trio Nat := Trio.all 0
  cmpPrev : Trio Nat := Trio.all 0
  staged : Option (Trio Int) := none
  owed : Bool := false
  owedNext : Bool := false
  repeated : Bool := false
  en : Bool := false
  enrb : Bool := false
  /-- last valley -/
  valley : Option Nat := none
  /-- the loop-sample set that each channel received from the owner: its valley, and the samples by converter (R130) -/
  mirror : Trio (Option (Nat × List (Nat × LoopSample))) := Trio.all none
deriving DecidableEq, Repr, Inhabited

/-- An ARM output of a channel (R254 to R256). -/
structure Arm where
  out : Bool := false
  held : Bool := false
  /-- a held output has fallen and stays low until power-on -/
  fallen : Bool := false
  rb : Bool := false
  /-- ARMRB has read high since -/
  rbHigh : Option Nat := none
  /-- read high for 10 µs: reported in byte 8 of later digest frames -/
  qualified : Bool := false
  /-- the owner has received the report -/
  reported : Bool := false
deriving DecidableEq, Repr, Inhabited

/-- One permit output's test state: EN0 to EN3 and ARM0 to ARM3 of a channel (R424 to R429). -/
structure PermitTest where
  /-- an off-pulse runs since this time -/
  pulse : Option Nat := none
  /-- a test has failed: whether it was a pulse, and when its retest is due -/
  fail : Option (Bool × Nat) := none
  /-- the last passed pulse, or the rise of the demand -/
  lastPass : Nat := 0
  /-- demanded high since -/
  highSince : Option Nat := none
  /-- the last change of the demanded level or end of a pulse -/
  changed : Nat := 0
  /-- a reset has cleared its fault: it is retested after its next rise -/
  owed : Bool := false
  /-- that rise -/
  after : Option Nat := none
deriving DecidableEq, Repr, Inhabited

/-- A word for a gate driver (R259 to R262): the word, the mask and the value that its response is checked with, whether it is
an init entry, and whether it ends its poll round. -/
structure DrvWord where
  word : Nat
  mask : Nat
  want : Nat
  init : Bool
  last : Bool
deriving DecidableEq, Repr, Inhabited

/-- The gate driver of a slot (R260 to R263). -/
structure Driver where
  /-- responses checked so far in the running list, and whether all matched -/
  initRunning : Bool := false
  initAt : Nat := 0
  bad : Bool := false
  /-- the mismatch after which the list is sent again -/
  retryAt : Option Nat := none
  /-- words waiting -/
  queue : List DrvWord := []
  /-- the entry whose response comes with the next transfer -/
  wait : Option DrvWord := none
  pollAt : Nat := 0
  pollBad : Bool := false
deriving DecidableEq, Repr, Inhabited

/-- A gate-driver SPI port (R258, R259). -/
structure Gspi where
  /-- the peak or commit instant of the last transfer -/
  last : Option Nat := none
  /-- its words, the lower slot's first -/
  words : List Nat := []
deriving DecidableEq, Repr, Inhabited

/-- The generator's activity (R264 to R275). -/
inductive GenMode where
  /-- tracking the axis; the flag says whether it is at standstill -/
  | tracking (still : Bool)
  | moving
  /-- STOP or QUICK_STOP with the deceleration in force -/
  | stopping (quick : Bool)
  | settling
  | standstill
deriving DecidableEq, Repr, Inhabited

/-- A profile generator (R264). -/
structure Gen where
  /-- PA as a signed 64-bit value, 2^-32 counts -/
  pa : Int := 0
  vx : Int := 0
  tgt : Int := 0
  pend : Option Int := none
  mode : GenMode := .tracking false
  /-- the direction of the running move -/
  dir : Int := 1
  /-- start of the SS_TIME count in SETTLING or tracking -/
  since : Nat := 0
  /-- reference latch of an axis that was at standstill when tracking began -/
  trackRef : Option Int := none
  /-- lowest and highest latch of the present tracking count (R272) -/
  trackWin : Option (Int × Int) := none
  /-- the move is part of its group's move -/
  inGroup : Bool := false
  /-- the setpoints that the last ticks left, newest first, each with its tick (R265) -/
  past : List (Nat × Int) := []
  /-- the last stop request: its instant, and QUICK_STOP or not (R274) -/
  stopReq : Option (Nat × Bool) := none
deriving DecidableEq, Repr, Inhabited

/-- The latched causes and the redundancy mode of an axis (R215, R250, R314). -/
structure AxisSt where
  /-- OC_TRIPPED as each channel holds it (R250) -/
  ocTripped : Trio Bool := Trio.all false
  /-- latched causes and the reaction code each requests -/
  causes : List (Nat × Nat) := []
  /-- SPLIT in force, and a hand-over in progress: 1 = toward SPLIT, 2 = toward LOCKED (R316, R317) -/
  split : Bool := false
  handover : Nat := 0
  /-- the last latch of a force axis (R205) -/
  forceLatch : Int := 0
  /-- no latch was taken since the history was cleared (R177) -/
  latchCleared : Bool := true
deriving DecidableEq, Repr, Inhabited

/-- A stop request of a group move (R274, R278, R284): QUICK_STOP or not, its first tick, and the deceleration that the
twin's description gives it (R285). -/
structure GStop where
  quick : Bool
  start : Nat
  dec : Option Int := none
deriving DecidableEq, Repr, Inhabited

/-- A running or waiting group move (R277, R278, R284, R285). The lead's path is kept here, so that a remote lead's is
known too. -/
structure GMove where
  /-- member slot of the lead; 255 where the lead is an axis of the twin -/
  lead : Nat := 0
  /-- start points and distances by member slot -/
  s : List Int := []
  d : List Int := []
  /-- start point, distance, PA and VX of the lead -/
  ls : Int := 0
  ld : Int := 0
  pa : Int := 0
  vx : Int := 0
  /-- first tick of the move -/
  start : Nat := 0
  /-- stop requests, newest first -/
  stops : List GStop := []
  /-- limits of a move that the twin describes: VM, ACC and DEC -/
  given : Option (Int × Int × Int) := none
  confirmed : Bool := false
deriving DecidableEq, Repr, Inhabited

/-- An axis group (R276 to R285). -/
structure Group where
  move : Option GMove := none
  /-- pending targets by member slot -/
  pend : Tbl (Option Int) := []
  pendTotal : Option Int := none
  /-- total force in effect -/
  total : Int := 0
  lost : Nat := 0
  /-- the last move description was not confirmed -/
  unconfirmed : Bool := false
  /-- remote members that the twin reports lost -/
  remoteLost : Nat := 0
  /-- the last stop request of the group: its instant, and QUICK_STOP or not (R274) -/
  stopReq : Option (Nat × Bool) := none
deriving DecidableEq, Repr, Inhabited

/-- A Sluice semaphore (R115 to R122). -/
structure Sem where
  holder : Option Port := none
  lapse : Nat := 0
  /-- last restart of the lease -/
  restart : Nat := 0
  /-- start of the HOLD phase -/
  lapseAt : Nat := 0
deriving DecidableEq, Repr, Inhabited

end Sys2Proof.Machine
end

