-- ==== Sys2Proof/Machine/UnitsB.lean ====
section
/-! DEFINITION. The state of the units behind the dictionary, second part: voting and redundancy, the sediment record,
host ports, KDP, time and cross-straps. -/

namespace Sys2Proof.Machine

/-- The redundancy states of R310. -/
inductive RState where
  | startup
  | nominal
  | dual
  | single
  | passive
deriving DecidableEq, Repr, Inhabited

/-- The number that REDUND_STATE reads (R323). -/
def RState.num : RState → Nat
  | .startup => 0
  | .nominal => 1
  | .dual => 2
  | .single => 3
  | .passive => 4

/-- Arbitration under R311: its start and the candidates. -/
structure Arb where
  start : Nat := 0
  cands : Trio Bool := Trio.all false
deriving DecidableEq, Repr, Inhabited

/-- A digest stream: tasks 0 to 511, the Sluice stream 512, the profile stream 513 (R301 to R306). -/
structure Stream where
  /-- checkpoint count of the stream since enabling -/
  seq : Nat := 0
  /-- the last checkpoint instant -/
  ck : Option Nat := none
  /-- digests held: by receiving channel, then by sending channel -/
  held : Trio (Trio (Option DigFrame)) := Trio.all (Trio.all none)
  /-- each channel's own vote result, once voted -/
  vote : Trio (Option (Trio Bool)) := Trio.all none
  /-- results received: by receiving channel, then by sending channel -/
  got : Trio (Trio (Option (Trio Bool))) := Trio.all (Trio.all none)
  complete : Bool := false
  /-- 8-bit histories: by keeping channel, then by judged channel (R306) -/
  hist : Trio (Trio Nat) := Trio.all (Trio.all 0)
  /-- channels that wait for a state copy (R305) -/
  reseed : Trio Bool := Trio.all false
  /-- channels that skip the next iteration for reseeding -/
  skip : Trio Bool := Trio.all false
  /-- channels left out of the history at this checkpoint (R306) -/
  exempt : Trio Bool := Trio.all false
  /-- this checkpoint is voted (R314, R317) -/
  voting : Bool := false
deriving DecidableEq, Repr, Inhabited

/-- Redundancy (R292 to R329). -/
structure Redund where
  state : RState := .startup
  entry : Nat := 0
  inV : Trio Bool := Trio.all false
  faulty : Trio Bool := Trio.all false
  inDebug : Trio Bool := Trio.all false
  /-- debug access open in the channel (R319) -/
  debugOpen : Trio Bool := Trio.all false
  /-- engines halted through debug access, one bit each -/
  halted : Trio Nat := Trio.all 0
  survivor : Option Ch := none
  arb : Option Arb := none
  /-- the device has reached DUAL since power-on (R75, R106) -/
  reachedDual : Bool := false
  /-- the twin compares the survivor's checkpoints (R324) -/
  supervising : Bool := false
  /-- engines declared faulty, by channel, one bit each (R298) -/
  engineFault : Trio Nat := Trio.all 0
  streams : Tbl Stream := []
  /-- next test run of the comparator injection (R322) -/
  injRetry : Option Nat := none
deriving DecidableEq, Repr, Inhabited

/-- A sediment event (R500); the CRC of bytes 30 and 31 is formed at readout. -/
structure SedEvent where
  time : Nat
  code : Nat
  source : Nat
  chan : Ch
  payload : List Byte
deriving DecidableEq, Repr, Inhabited

/-- Events of one CODE and SOURCE in one 1 ms window (R502). -/
structure SedWin where
  win : Nat
  code : Nat
  source : Nat
  written : Nat
  dropped : Nat
deriving DecidableEq, Repr, Inhabited

/-- A summary slot's content (R508, R509): header fields, events and trace records, oldest first, and the blocks
written so far. -/
structure Summary where
  flags : Nat := 0
  seq : Nat := 0
  trigTime : Nat := 0
  cause : Nat := 0
  redund : Nat := 0
  nodes : Nat := 0
  rtc : Nat := 0
  chain : Nat := 0
  planDigest : Nat := 0
  events : List SedEvent := []
  trace : List (Nat × List Int) := []
  /-- data blocks planned and written -/
  evBlocks : Nat := 0
  trBlocks : Nat := 0
  written : Nat := 0
  headerOk : Bool := true
deriving DecidableEq, Repr, Inhabited

/-- A trigger with what a summary records of its moment (R505, R509). -/
structure SedTrig where
  time : Nat
  cause : Nat
  redund : Nat
  rtc : Nat
  chain : Nat
  planDigest : Nat
deriving DecidableEq, Repr, Inhabited

/-- A channel's slot of the common area (R498): the values of its SED_STATUS record, and the summaries with their headers. -/
structure CommonSlot where
  at_ : Nat
  status : List Int
  sums : Tbl Summary
deriving DecidableEq, Repr, Inhabited

/-- A summary copy in progress (R508, R511). -/
structure SumCopy where
  slot : Nat := 0
  cause : Nat := 0
  /-- PFAIL has come during the copy: no further summary follows -/
  last : Bool := false
  /-- the next write: 0 = header, n = data block n, and one more for the final header -/
  next : Nat := 0
deriving DecidableEq, Repr, Inhabited

/-- The sediment record of a channel (R497 to R516). Lists hold the newest entry first. -/
structure Sed where
  ring : List SedEvent := []
  shadow : List SedEvent := []
  trace : List (Nat × List Int) := []
  wins : List SedWin := []
  dramReady : Bool := false
  dramFault : Bool := false
  frozen : Bool := false
  copy : Option SumCopy := none
  /-- the latest merged trigger (R511) -/
  merged : Option SedTrig := none
  slots : Tbl Summary := []
  sumSeq : Nat := 0
  /-- the common-area slot as last written (R498) -/
  common : Option CommonSlot := none
  /-- corrected DRAM errors, and 64-byte blocks marked invalid by block number (R17) -/
  corrected : Nat := 0
  invalid : List Nat := []
  /-- writes blocked by the partition firewall (R16) -/
  blocked : Nat := 0
deriving DecidableEq, Repr, Inhabited

/-- A copy of a request held by a channel (R68). -/
structure KdpCopy where
  carrier : Carrier
  chan : Ch
  frame : List Byte
  at_ : Nat
  /-- on the proxy stream, the node that asks (R88) -/
  src : Nat := 0
deriving DecidableEq, Repr, Inhabited

/-- An agreed request, executed once (R68, R70). A request that a row of the command table makes by itself has
TRANSACTION_ID 0; an entry of a cyclic frame has no frame of its own and gets no response (R109). -/
structure KdpReq where
  carrier : Carrier
  frame : List Byte
  holders : Trio Bool
  first : Nat
  agreed : Nat
  src : Nat := 0
deriving DecidableEq, Repr, Inhabited

/-- A request stalled for a sleeping domain (R85), with the object and the whole value that it writes where it has passed
the checks before (R78). -/
structure KdpStall where
  req : KdpReq
  write : Option (Nat × Val) := none
deriving DecidableEq, Repr, Inhabited

/-- A stored response (R71). -/
structure KdpResp where
  req : KdpReq
  answered : Nat
  code : Nat
  detail : Nat
  last : Bool
  data : List Byte
deriving DecidableEq, Repr, Inhabited

/-- An accepted write that waits for its instant (R72, R81). -/
structure PendWrite where
  req : KdpReq
  /-- the instant at which it is applied -/
  due : Nat
  members : List (Nat × Val)
deriving DecidableEq, Repr, Inhabited

/-- An open segmented transfer (R77 to R80). -/
structure Transfer where
  carrier : Carrier
  index : Nat
  sub : Nat
  write : Bool
  total : Nat
  next : Nat
  data : List Byte
  last : Nat
deriving DecidableEq, Repr, Inhabited

/-- KDP (R64 to R90). -/
structure Kdp where
  copies : List KdpCopy := []
  /-- agreed requests whose execution is still to come -/
  ready : List KdpReq := []
  answered : List KdpResp := []
  writes : List PendWrite := []
  transfers : List Transfer := []
  /-- requests stalled for a sleeping domain (R85) -/
  stalled : List KdpStall := []
  proxied : List KdpReq := []
  /-- a store in progress: the requests of its commit instant and its start (R74, R89) -/
  store : Option (List KdpReq × Nat) := none
deriving DecidableEq, Repr, Inhabited

/-- An agreed cyclic command frame (R108). -/
structure CycFrame where
  counter : Nat
  payload : List Byte
  agreed : Nat
  /-- the boundary at which it is applied -/
  due : Nat
deriving DecidableEq, Repr, Inhabited

/-- A host port (R101 to R114). -/
structure PortSt where
  copies : List (Ch × List Byte × Nat) := []
  /-- frames agreed, with the end of their window (R107) -/
  taken : List (List Byte × Nat) := []
  frames : List CycFrame := []
  lastCounter : Option Nat := none
  /-- the last agreed request or frame (R112) -/
  heard : Nat := 0
  cycles : Nat := 0
  /-- values latched at the last boundary: time, payload, NO_MAJORITY (R111) -/
  latched : Option (Nat × List Byte × Bool) := none
  running : Bool := false
  silent : Bool := false
  /-- 802.1AS: grandmaster heard on the port: clock quality, clock identity (R100) -/
  gm : Option (Nat × Nat) := none
deriving DecidableEq, Repr, Inhabited

/-- What a frame that waits on a cross-strap carries (R11, R177, R250, R305). -/
inductive StrapBody where
  /-- the loop samples of slot `k` of the sending channel for the valley at `start`, by converter -/
  | samples (k start : Nat) (l : List (Nat × LoopSample))
  /-- the latch of an axis: position and time, those of the latch before, and LATCH_COUNT -/
  | latch (n : Nat) (pos time prevPos prevTime count : Int)
  /-- OC_TRIPPED of an axis -/
  | trip (n : Nat)
  /-- the output of a task that one channel computes, for data object `o` (R294) -/
  | output (k o : Nat) (v : Int)
  /-- the state and the last outputs of a task; for streams 512 and 513 the state of the Sluice and of the generators -/
  | copy (k : Nat) (st : TaskSt) (outs : List Int)
  /-- the state of a task for its new site, which computes beside the old one until it takes over (R348) -/
  | site (k : Nat) (st : TaskSt)
  /-- a snapshot or plan of the planner (R344, R346) -/
  | plan
deriving DecidableEq, Repr, Inhabited

/-- A frame queued on a cross-strap: its ends, its class, when it was queued, the time by which R12 lets it arrive (none
where it has been discarded or has no path), and what it carries. -/
structure StrapMsg where
  src : Ch
  dst : Ch
  cls : StrapClass
  at_ : Nat
  due : Option Nat
  body : StrapBody
deriving DecidableEq, Repr, Inhabited

/-- Time bases, cross-straps and host lanes (R11 to R30). -/
structure Arch where
  /-- the time of the last alignment of each channel's base, and its offset from device time in ticks then (R25, R27) -/
  anchor : Trio (Nat × Int) := Trio.all (0, 0)
  /-- offset of each base from device time in ns, as last measured (R27) -/
  skew : Trio Int := Trio.all 0
  /-- device time was within ±100 ns of fabric time at the last measurement (R30) -/
  near : Bool := false
  /-- PORST_N is released, and the PLLs are locked (R517) -/
  alive : Trio Bool := Trio.all false
  started : Trio Bool := Trio.all false
  linkFail : Trio Bool := Trio.all false
  /-- failures not yet met by a vote (R306) -/
  linkFresh : Trio Bool := Trio.all false
  /-- discarded cross-strap frames by receiving channel (R12) -/
  linkErr : Trio Nat := Trio.all 0
  /-- frames waiting on the cross-straps, oldest first (R11) -/
  queue : List StrapMsg := []
  /-- payloads of other frames delivered over the straps, newest first -/
  strapIn : List (Ch × Ch × StrapClass × List Byte) := []
deriving DecidableEq, Repr, Inhabited

end Sys2Proof.Machine
end

