-- ==== Sys2Proof/Machine/UnitsC.lean ====
section
/-! DEFINITION. The state of the units behind the dictionary, third part: placement, fabric, twin, safety functions,
power, self-test, life cycle and start-up. -/

namespace Sys2Proof.Machine

/-- The penalties on a score that last (R338); held penalties are computed from the state. -/
structure Penalty where
  decaying : Nat := 0
  permanent : Nat := 0
deriving DecidableEq, Repr, Inhabited

/-- A plan (R343, R346, R347, R544). -/
structure Plan where
  /-- PLAN_SITE of each placed task, in the layout of R330 -/
  site : Tbl Nat := []
  unplaced : List Nat := []
  pinBroken : List Nat := []
  /-- PLACED in bits 1 and 0 and PLACED_VALID in bit 2, by object -/
  objs : Tbl Nat := []
  /-- fallback engine of each task in each channel; 0xFF = none -/
  fbEngine : Trio (Tbl Nat) := Trio.all []
  /-- fallback owner of each task; 0xFF = none -/
  fbOwner : Tbl Nat := []
  noFallback : Trio Nat := Trio.all 0
  /-- planned utilisation of each engine, in 0.01 % -/
  util : Trio (Tbl Nat) := Trio.all []
deriving DecidableEq, Repr, Inhabited

/-- The planner (R330 to R358). -/
structure Place where
  /-- penalties by channel: engines 0 to 15, and 16 for the channel itself -/
  pens : Trio (Tbl Penalty) := Trio.all []
  /-- scores of the last snapshot, by channel, keyed likewise -/
  snapScores : Trio (Tbl Nat) := Trio.all []
  plan : Plan := {}
  /-- a trigger that waits for its plan instant: its time and causes -/
  trig : Option (Nat × Nat) := none
  /-- causes of the replan between its plan instant and its vote, and that instant -/
  run : Option (Nat × Nat) := none
  snapVoted : Bool := false
  /-- the plan that follows from the snapshot, and whether a performance level has no plan (R354) -/
  snap : Option Plan := none
  perfRefused : Bool := false
  /-- the waiting replan is to adopt the static plan (R352) -/
  static : Bool := false
  /-- the plan that the channels computed, and each channel's error in its CRC -/
  computed : Option Plan := none
  flips : Trio Nat := Trio.all 0
  /-- causes merged into the next replan -/
  merged : Nat := 0
  /-- causes held while HEALTH_AGE is below 1,000 ms (R352) -/
  held : Nat := 0
  /-- the replan that found no majority is repeated at this time or later -/
  retryAt : Option (Nat × Nat) := none
  /-- the instant at which the device first reached DUAL -/
  ageFrom : Option Nat := none
  aged : Bool := false
  /-- the static placement of start-up has been made -/
  placed : Bool := false
  adaptive : Bool := false
  staticDev : Bool := false
  /-- the engine being emptied or under test in each channel (R353), and the tasks moved out of it -/
  emptying : Trio (Option Nat) := Trio.all none
  testing : Trio (Option Nat) := Trio.all none
  movedOut : Trio (List Nat) := Trio.all []
deriving DecidableEq, Repr, Inhabited

/-- A fabric lane beyond its objects (R360 to R363, R385). -/
structure Lane where
  /-- state of R360 -/
  st : Nat := 1
  lastHello : Nat := 0
  peerUid : Nat := 0
  peerAddr : Nat := 0
  peerPos : Nat := 0
  /-- times of FCS and code errors of the last 100 ms -/
  errs : List Nat := []
  suspendAt : Nat := 0
  /-- de-emphasis chosen at the first alignment since power-on: 0 = 0 dB, 1 = -3.5 dB, 2 = -6 dB (R537) -/
  deemph : Option Nat := none
  /-- times of the last HELLO and the last PDELAY_REQ sent (R368, R385) -/
  helloAt : Option Nat := none
  pdelayAt : Option Nat := none
deriving DecidableEq, Repr, Inhabited

/-- A held link-state advertisement and the time of its last refresh. -/
structure LsaHeld where
  lsa : Lsa
  at_ : Nat
deriving DecidableEq, Repr, Inhabited

/-- An elimination context (R381). -/
structure Elim where
  src : Nat
  stream : Nat
  h : Nat
  /-- bit n = SEQ h - n was accepted -/
  map : Nat
  last : Nat
deriving DecidableEq, Repr, Inhabited

/-- A first frame that waits for its continuation (R380). -/
structure Part where
  src : Nat
  stream : Nat
  seq : Nat
  data : List Byte
  at_ : Nat
deriving DecidableEq, Repr, Inhabited

/-- One channel's plane (R359 to R385). -/
structure Plane where
  lanes : Tbl Lane := []
  lsas : List LsaHeld := []
  lsaSeq : Nat := 0
  /-- the own LSA is due (a lane entered or left NEIGHBOUR) -/
  lsaDue : Bool := false
  /-- frames delivered locally and not yet judged, oldest first -/
  inbox : List (List Byte) := []
  ctxs : List Elim := []
  parts : List Part := []
  /-- sequence counter of each sending stream (R378) -/
  seqs : Tbl Nat := []
  /-- REDUNDANT streams without a disjoint pair, and since when (R375) -/
  degraded : List (Nat × Nat) := []
  /-- time at which the bytes of a rate-limited stream have left, by stream (R377) -/
  busy : Tbl Nat := []
  /-- streams that this node sends without any path (R375) -/
  noPath : List Nat := []
  /-- time of the last TIME_SYNC that this channel followed -/
  lastSync : Option Nat := none
  /-- time of the last own LSA sent (R373) -/
  lsaAt : Option Nat := none
deriving DecidableEq, Repr, Inhabited

/-- A payload under copy agreement (R379). -/
structure AgreeMsg where
  src : Nat
  stream : Nat
  seq : Nat
  first : Nat
  copies : Trio (Option (List Byte))
deriving DecidableEq, Repr, Inhabited

/-- The Delta fabric (R359 to R389). -/
structure Fab where
  planes : Trio Plane := Trio.all {}
  /-- address in use -/
  addr : Nat := 0
  conflict : Bool := false
  /-- a node with this address and a lower UID was last seen -/
  conflictSeen : Nat := 0
  /-- the strap vote of R45 has been made -/
  strapVoted : Bool := false
  master : Nat := 0
  /-- time is held until the new master's first TIME_SYNC (R384) -/
  holdTime : Bool := false
  agree : List AgreeMsg := []
  /-- payloads released to their consumers: channel set, source, stream, payload; newest first -/
  delivered : List (Trio Bool × Nat × Nat × List Byte) := []
  /-- the keys of slots 0 and 1 (R382); empty until a key is written -/
  key0 : List Byte := []
  key1 : List Byte := []
  /-- last change of any LSA set -/
  lsaChange : Nat := 0
  /-- times of the last exchange of fabric state and the last TIME_SYNC sent (R370, R385) -/
  exchAt : Option Nat := none
  syncAt : Option Nat := none
  discoveryAt : Option Nat := none
deriving DecidableEq, Repr, Inhabited

/-- The last accepted heartbeat (R395). -/
structure Beat where
  redund : Nat := 0
  score : Nat := 0
  flags : Nat := 0
  epoch : Nat := 0
  handbackAt : Nat := 0
  time : Nat := 0
  src : Nat := 0
deriving DecidableEq, Repr, Inhabited

/-- A handback that another device has announced (R408, R410): its time, the node, and when the announcement was sent. -/
structure PeerBack where
  at_ : Nat
  src : Nat
  told : Nat
deriving DecidableEq, Repr, Inhabited

/-- Twin pairing (R390 to R416). -/
structure Twin where
  paired : Bool := false
  key : List Byte := []
  /-- the running pairing request: its start and random bytes -/
  request : Option (Nat × List Byte) := none
  /-- own and peer unpair requests -/
  unpairOwn : Option Nat := none
  unpairPeer : Option Nat := none
  lost : Bool := false
  lostAt : Nat := 0
  /-- a heartbeat was accepted since the previous check, by channel -/
  accepted : Trio Bool := Trio.all false
  /-- every heartbeat since the previous check carried this device's epoch, by channel (R406) -/
  epochOk : Trio Bool := Trio.all true
  misses : Trio Nat := Trio.all 0
  reported : Trio Bool := Trio.all false
  beat : Option Beat := none
  handshake : Option Nat := none
  eligible : Bool := false
  /-- the eligibility conditions hold since -/
  since : Option Nat := none
  quietSince : Option Nat := none
  quietTotal : Int := 0
  /-- own announced handback and whether it is acknowledged -/
  handback : Option Nat := none
  acked : Bool := false
  /-- the peer's announced handback -/
  peerHandback : Option PeerBack := none
  changedAt : Nat := 0
  lastReport : Option Nat := none
  lastFails : Nat := 0
  report : Option Report := none
  degraded : Bool := false
  forced : Bool := false
  spareHolds : Bool := false
  /-- mirrored values waiting, by object, with the times of their arrival (R399) -/
  mirror : Tbl (Option (Int × Nat)) := []
  /-- times of the last pairing request and of the last health report sent (R391, R411) -/
  pairSent : Option Nat := none
  reportAt : Option Nat := none
  /-- last mirrored values of the twin's dictionary objects, by index and subindex (R283) -/
  remote : Tbl Int := []
  /-- last miss under R306, for R405 and R406 -/
  lastMiss : Option Nat := none
  passiveHeard : Bool := false
deriving DecidableEq, Repr, Inhabited

/-- A safe input pair (R417 to R421). -/
structure SafePair where
  inA : Option Bool := none
  inB : Option Bool := none
  /-- level and length of the present run of equal samples of A and of B -/
  runA : Bool × Nat := (false, 0)
  runB : Bool × Nat := (false, 0)
  start : Option Nat := none
  lost : Bool := true
  discrepancy : Bool := false
  nearMiss : Bool := false
  value : Bool := false
  /-- earlier and present VALUE with their times, newest first (R420) -/
  stamps : List (Nat × Bool) := []
deriving DecidableEq, Repr, Inhabited

/-- The FRST pin of a channel (R432, R435). -/
structure Frst where
  /-- falling edge of the last qualifying pulse -/
  qualified : Option Nat := none
  stuck : Bool := false
  /-- sampling started at this time, and the last accepted falling edge since -/
  from_ : Nat := 0
  lastFall : Option Nat := none
deriving DecidableEq, Repr, Inhabited

/-- A change-log entry (R443); CHAIN as formed when the entry was made. -/
structure LogEntry where
  seq : Nat
  time : Nat
  index : Nat
  sub : Nat
  carrier : Nat
  old : List Byte
  new : List Byte
  form : Nat
  chain : Nat
deriving DecidableEq, Repr, Inhabited

/-- The safety functions (R417 to R449). -/
structure Safe where
  pairs : Trio (Tbl SafePair) := Trio.all []
  frst : Trio Frst := Trio.all {}
  /-- FAULT_RESET holds 1 since -/
  objHigh : Option Nat := none
  pwHash : List Byte := []
  pwSalt : Option (List Byte) := none
  /-- open unlocks by carrier number: time of the last RWS write or the opening -/
  unlocks : Tbl (Option Nat) := []
  /-- lock-out: its end and length in seconds; the length stays after its end -/
  lockEnd : Option Nat := none
  lockLen : Nat := 0
  /-- change log, newest first -/
  log : List LogEntry := []
  /-- rails outside their window now, by channel, one bit each -/
  rails : Trio Nat := Trio.all 0
  supply : Trio Bool := Trio.all false
deriving DecidableEq, Repr, Inhabited

/-- The power states of R453. -/
inductive PwrState where
  | run
  | retain
  | park
deriving DecidableEq, Repr, Inhabited

/-- A performance-level change in progress (R470). -/
structure PlChange where
  target : Nat
  /-- the level before the change -/
  old : Nat
  start : Nat
  /-- 0 = voltage awaited, 1 = plan awaited, 2 = clock changes at the next commit instant; after a lowering 3 = VDDC may
  drop, with both windows in force, 4 = likewise, with the new window alone (R471) -/
  phase : Nat
deriving DecidableEq, Repr, Inhabited

/-- Power (R453 to R476). -/
structure Power where
  state : PwrState := .run
  /-- the entry in progress: its target -/
  entering : Option PwrState := none
  /-- when that entry began -/
  sleptAt : Nat := 0
  /-- the one waiting request of R466, and whether a timer made it -/
  queued : Option (PwrState × Bool) := none
  /-- a request held by SLICE alone (R456) -/
  sliceWait : Option (PwrState × Bool) := none
  /-- a refused timer request is evaluated again at this time: RETAIN and PARK (R456, R458) -/
  againRetain : Option Nat := none
  againPark : Option Nat := none
  /-- a request to be evaluated at the next commit instant, and whether a timer made it -/
  request : Option (PwrState × Bool) := none
  waking : Bool := false
  /-- an access has started the wake of the engines and the IO domain (R461) -/
  needed : Bool := false
  woken : Trio Bool := Trio.all false
  wakeAt : Nat := 0
  com : Bool := true
  ce : Bool := true
  io : Bool := true
  /-- engines in NAP by channel, one bit each -/
  nap : Trio Nat := Trio.all 0
  /-- start and end of the last iteration on each engine, by channel (R191, R454) -/
  used : Trio (Tbl Nat) := Trio.all []
  ended : Trio (Tbl Nat) := Trio.all []
  /-- restart of the idle timers -/
  idleFrom : Nat := 0
  changes : Trio (Option PlChange) := Trio.all none
  plWait : Trio (Option Nat) := Trio.all none
  /-- RTC_SECONDS read this value at this time -/
  rtc : Nat × Nat := (0, 0)
  /-- last scrub pass and last block of the MRAM scheduler -/
  scrubAt : Trio Nat := Trio.all 0
  mramAt : Trio Nat := Trio.all 0
  mramPtr : Trio Nat := Trio.all 0
  /-- blocks read in the sweep in progress, which starts anew at power-on (R464) -/
  mramRead : Trio Nat := Trio.all 0
  mramSweeps : Trio Nat := Trio.all 0
  sweepAt : Trio (Option Nat) := Trio.all none
  /-- replicated blocks waiting for their repair at a commit instant (R464) -/
  repairs : Trio Nat := Trio.all 0
  /-- retained blocks lost (R462) -/
  lossFb : Trio Bool := Trio.all false
  lossTrim : Trio Bool := Trio.all false
  lossEngine : Trio Nat := Trio.all 0
  retainLoss : Bool := false
  pfailSlept : Bool := false
  lastSleep : Nat := 0
  deepest : Nat := 0
  domDeepest : Tbl Nat := []
deriving DecidableEq, Repr, Inhabited

/-- A turn of the self-test rotation (R481). -/
structure Turn where
  engine : Nat
  /-- the engine became empty -/
  emptyAt : Option Nat := none
  /-- slices run so far in this turn -/
  runs : Nat := 0
  first : Nat := 0
  returning : Bool := false
deriving DecidableEq, Repr, Inhabited

/-- The rotation of a channel (R481, R482). -/
structure Rotation where
  start : Option Nat := none
  next : Nat := 0
  turn : Option Turn := none
  late : Bool := false
  /-- time of the last completed slice of each engine -/
  lastSlice : Tbl Nat := []
deriving DecidableEq, Repr, Inhabited

/-- Self-test and life cycle (R477 to R496). -/
structure Life where
  rot : Trio Rotation := Trio.all {}
  /-- life-cycle cells of each channel (R487) -/
  cells : Trio Nat := Trio.all 0
  erasePending : Trio Bool := Trio.all false
  eraseDone : Trio Bool := Trio.all false
  eraseFail : Trio Bool := Trio.all false
  scanOpen : Trio Bool := Trio.all false
  disagree : Bool := false
  /-- the state after an accepted LC_REQUEST -/
  state : Nat := 0
deriving DecidableEq, Repr, Inhabited

/-- A stored configuration image: every stored value (R521). -/
structure Image where
  vals : Tbl Int := []
  strs : Tbl (List Byte) := []
deriving DecidableEq, Repr, Inhabited

/-- Start-up (R517 to R526). -/
structure StartUp where
  images : Trio Image := Trio.all {}
  imageOk : Trio Bool := Trio.all true
  loaded : Trio Bool := Trio.all false
  released : Trio (Option Nat) := Trio.all none
  step1 : Trio (Option Nat) := Trio.all none
  /-- arrival at step 4 -/
  arrived : Trio (Option Nat) := Trio.all none
  /-- step 4 has run in these channels -/
  injected : Trio Bool := Trio.all false
  injDone : Bool := false
  stopped : Bool := false
  left : Bool := false
  straps : Trio (Option Nat) := Trio.all none
  discovered : Bool := false
deriving DecidableEq, Repr, Inhabited

end Sys2Proof.Machine
end

