-- ==== Sys2Proof/Machine/State.lean ====
section
/-! DEFINITION. The state of the block, and the state right after reset.

`regs` holds one copy of every dictionary object per channel (R61, R62); a key that is not listed reads as the object's
default. The typed fields hold what the rules give the units beyond their objects; an object whose value is wholly
determined by them is computed at the read (`Machine/Views.lean`). -/

namespace Sys2Proof.Machine

/-- What the device sends: frames and responses that leave on a lane, a stream or a CAN port. -/
inductive Out where
  /-- a KDP response on a carrier by the channels that hold a copy (R65, R66, R70), with its VLAN tag (R96), or on a
  CAN port the identifier of channel A (R86); `frames` are the frames as they leave, by channel -/
  | response (cr : Carrier) (by_ : Trio Bool) (tag tid code detail : Nat) (last : Bool) (data : List Byte)
      (frames : List (Ch × List Byte))
  /-- a frame on a host lane with its VLAN tag (R96): ARP (1), neighbour (2) or echo (3) answers, status frames (4) -/
  | lane (c : Ch) (p : Port) (tag kind : Nat) (data : List Byte)
  /-- a frame on a cross-strap from a channel, with its class and payload -/
  | strap (c : Ch) (cls : StrapClass) (data : List Byte)
  /-- a message on a fabric stream, from a channel, on the path sides taken -/
  | fabric (c : Ch) (stream : Nat) (data : List Byte)
  /-- a frame on a fabric lane -/
  | fabLane (c : Ch) (l : Nat) (kind : Nat) (data : List Byte)
  /-- a move description to the twin (R285) -/
  | move (d : MoveDesc)
  /-- the confirmation of a move description: its group and start tick (R285) -/
  | confirm (g start : Nat)
  /-- words on a gate-driver SPI port -/
  | spi (c : Ch) (p : Nat) (words : List Nat)
  /-- a report to health (R112, R139, R163, R412): fault class and source -/
  | health (cls : Nat) (source : Nat)
deriving DecidableEq, Repr, Inhabited

/-- Why a step stops with a fault. No rule of the spec stops the device: the spec's faults are states of it.
Nothing raises the one constructor. -/
inductive Fault where
  /-- raised by nothing; safe -/
  | none
deriving DecidableEq, Repr, Inhabited

/-- Why a command is refused. -/
inductive Refusal where
  /-- the command has no meaning yet; raised by the arms of `exec` alone; safe -/
  | notModelled (mnemonic : String)
deriving DecidableEq, Repr, Inhabited

/-- The state of the block. -/
structure State where
  /-- device time in ticks of 3.33 ns (log entry 2) -/
  now : Nat := 0
  regs : Trio (Tbl Int) := Trio.all []
  /-- string objects, keyed like `regs` -/
  strs : Trio (Tbl (List Byte)) := Trio.all []
  arch : Arch := {}
  kdp : Kdp := {}
  ports : Tbl PortSt := []
  sems : Tbl Sem := []
  convs : Trio (Tbl Conv) := Trio.all []
  grps : Trio (Tbl Grp) := Trio.all []
  diags : Trio (Tbl Diag) := Trio.all []
  fports : Trio (Tbl Fport) := Trio.all []
  sports : Trio (Tbl Sport) := Trio.all []
  trackers : Trio (Tbl Tracker) := Trio.all []
  axes : Tbl AxisSt := []
  gens : Tbl Gen := []
  groups : Tbl Group := []
  tasks : Tbl TaskRec := []
  traces : Tbl TraceRec := []
  slots : Trio (Tbl Slot) := Trio.all []
  arms : Trio (Tbl Arm) := Trio.all []
  tests : Trio (Tbl PermitTest) := Trio.all []
  drivers : Trio (Tbl Driver) := Trio.all []
  spis : Trio (Tbl Gspi) := Trio.all []
  /-- data objects of the object table, one copy per channel (R294) -/
  objs : Trio (Tbl Int) := Trio.all []
  red : Redund := {}
  sed : Trio Sed := Trio.all {}
  place : Place := {}
  fab : Fab := {}
  twin : Twin := {}
  safe : Safe := {}
  power : Power := {}
  life : Life := {}
  su : StartUp := {}
  /-- one more than the instant at which a periodic row last ran, by its mark; 0 = not yet -/
  marks : Tbl Nat := []
  /-- free values used so far (log entry 6) -/
  used : Nat := 0
  /-- what the device has sent, newest first -/
  sent : List Out := []
  /-- commands waiting, first in, first out -/
  pending : List Instr := []
deriving DecidableEq, Repr, Inhabited

/-- The machine right after power-on: device time 0, every object at its default, nothing listed, no command waiting
(log entry 8 names the values that the spec does not state). -/
def State.reset : State := {}

end Sys2Proof.Machine
end

