-- ==== Sys2Proof/Machine/Ops.lean ====
section
/-! DEFINITION. The named operations over the state: time, dictionary copies, the units' tables, the voting set, and
what the device sends. -/

namespace Sys2Proof.Machine

/-- The outcome of a command. -/
abbrev Res := Host.Outcome State Fault Refusal

/-- Ticks in a microsecond (R23, R25). -/
def us : Nat := 300

/-- Ticks in a millisecond. -/
def ms : Nat := 300000

/-- Ticks in a second. -/
def sec : Nat := 300000000

/-- A commit instant of R72. -/
def isCommit (t : Nat) : Bool := t % 30000 == 0

/-- A profile tick of R265. -/
def isTick (t : Nat) : Bool := t % 300 == 0

/-- `s` at device time `t`; device time never runs backwards (R25). -/
def State.upTo (s : State) (t : Nat) : State := { s with now := max s.now t }

-- dictionary copies

/-- Channel `c`'s copy of an object (R61, R62). -/
def State.g (s : State) (c : Ch) (o : Obj) : Int := (s.regs.get c).getD o.key o.dflt

/-- The value that at least two of three copies hold; the first where all differ. -/
def maj3 (x y z : Int) : Int := if x = y ∨ x = z then x else if y = z then y else x

/-- The value of a replicated object: the majority of its copies (R61). -/
def State.v (s : State) (o : Obj) : Int := maj3 (s.g .chA o) (s.g .chB o) (s.g .chC o)

/-- The value of a replicated object as a natural number. -/
def State.vn (s : State) (o : Obj) : Nat := (s.v o).toNat

/-- Channel `c`'s copy as a natural number. -/
def State.gn (s : State) (c : Ch) (o : Obj) : Nat := (s.g c o).toNat

/-- `s` with channel `c`'s copy set. -/
def State.setC (s : State) (c : Ch) (o : Obj) (v : Int) : State :=
  { s with regs := s.regs.upd c fun t => t.put o.key o.dflt v }

/-- `s` with every channel's copy set (R61). -/
def State.setR (s : State) (o : Obj) (v : Int) : State :=
  { s with regs := s.regs.map fun t => t.put o.key o.dflt v }

/-- A 32-bit counter of channel `c` advanced by `n`. -/
def State.bumpC (s : State) (c : Ch) (o : Obj) (n : Nat := 1) : State := s.setC c o (wrapU32 (s.g c o + n))

/-- A replicated 32-bit counter advanced by `n`. -/
def State.bumpR (s : State) (o : Obj) (n : Nat := 1) : State := s.setR o (wrapU32 (s.v o + n))

/-- Bit `n` of channel `c`'s copy set to `b`. -/
def State.bitC (s : State) (c : Ch) (o : Obj) (n : Nat) (b : Bool) : State := s.setC c o (withBit (s.g c o) n b)

/-- Bit `n` of a replicated object set to `b`. -/
def State.bitR (s : State) (o : Obj) (n : Nat) (b : Bool) : State := s.setR o (withBit (s.v o) n b)

/-- Bit `n` of channel `c`'s copy. -/
def State.isBitC (s : State) (c : Ch) (o : Obj) (n : Nat) : Bool := bit (s.g c o) n

/-- Bit `n` of a replicated object. -/
def State.isBit (s : State) (o : Obj) (n : Nat) : Bool := bit (s.v o) n

/-- Channel `c`'s copy of a string object. -/
def State.str (s : State) (c : Ch) (o : Obj) : List Byte := (s.strs.get c).getD o.key []

/-- `s` with every channel's copy of a string object set. -/
def State.setStr (s : State) (o : Obj) (v : List Byte) : State :=
  { s with strs := s.strs.map fun t => t.put o.key [] v }

-- objects that the chapters describe without a table row

/-- CMD_MAP of port `p`: 0x1140+p, the count at :01 and entry `i` at :02 + i (R103). -/
def Obj.cmdMapCount (p : Nat) : Obj := ⟨(0x1140 + p) * 256 + 1, 0⟩

/-- Entry `i` of the command map of port `p` (R103). -/
def Obj.cmdMapEntry (p i : Nat) : Obj := ⟨(0x1140 + p) * 256 + 2 + i, 0⟩

/-- STATUS_MAP of port `p`: 0x1160+p (R103). -/
def Obj.statusMapCount (p : Nat) : Obj := ⟨(0x1160 + p) * 256 + 1, 0⟩

/-- Entry `i` of the status map of port `p` (R103). -/
def Obj.statusMapEntry (p i : Nat) : Obj := ⟨(0x1160 + p) * 256 + 2 + i, 0⟩

/-- OBJ_DESC of object-table entry `o` (R336). -/
def Obj.objDesc (o : Nat) : Obj := ⟨(0x2200 + o / 8) * 256 + o % 8 + 1, 0x30⟩

/-- STREAM_DESC of stream `n` (R376). -/
def Obj.streamDesc (n : Nat) : Obj := ⟨(0xA200 + n / 8) * 256 + n % 8 + 1, streamDflt n⟩

-- the units

/-- The converter `n` of channel `c`. -/
def State.conv (s : State) (c : Ch) (n : Nat) : Conv := (s.convs.get c).getD n {}

/-- `s` with converter `n` of channel `c` changed by `f`. -/
def State.updConv (s : State) (c : Ch) (n : Nat) (f : Conv → Conv) : State :=
  { s with convs := s.convs.upd c fun t => Tbl.modify t n {} f }

/-- The reference group `n` of channel `c`. -/
def State.grp (s : State) (c : Ch) (n : Nat) : Grp := (s.grps.get c).getD n {}

/-- `s` with reference group `n` of channel `c` changed by `f`. -/
def State.updGrp (s : State) (c : Ch) (n : Nat) (f : Grp → Grp) : State :=
  { s with grps := s.grps.upd c fun t => Tbl.modify t n {} f }

/-- The diagnostic converter `n` of channel `c`. -/
def State.diag (s : State) (c : Ch) (n : Nat) : Diag := (s.diags.get c).getD n {}

/-- `s` with diagnostic converter `n` of channel `c` changed by `f`. -/
def State.updDiag (s : State) (c : Ch) (n : Nat) (f : Diag → Diag) : State :=
  { s with diags := s.diags.upd c fun t => Tbl.modify t n {} f }

/-- The feedback port `n` of channel `c`. -/
def State.fport (s : State) (c : Ch) (n : Nat) : Fport := (s.fports.get c).getD n {}

/-- `s` with feedback port `n` of channel `c` changed by `f`. -/
def State.updFport (s : State) (c : Ch) (n : Nat) (f : Fport → Fport) : State :=
  { s with fports := s.fports.upd c fun t => Tbl.modify t n {} f }

/-- The sensor port `n` of channel `c`. -/
def State.sport (s : State) (c : Ch) (n : Nat) : Sport := (s.sports.get c).getD n {}

/-- `s` with sensor port `n` of channel `c` changed by `f`. -/
def State.updSport (s : State) (c : Ch) (n : Nat) (f : Sport → Sport) : State :=
  { s with sports := s.sports.upd c fun t => Tbl.modify t n {} f }

/-- The resolver tracker `n` of channel `c`. -/
def State.tracker (s : State) (c : Ch) (n : Nat) : Tracker := (s.trackers.get c).getD n {}

/-- `s` with resolver tracker `n` of channel `c` changed by `f`. -/
def State.updTracker (s : State) (c : Ch) (n : Nat) (f : Tracker → Tracker) : State :=
  { s with trackers := s.trackers.upd c fun t => Tbl.modify t n {} f }

/-- The bridge slot `n` of channel `c`. -/
def State.slot (s : State) (c : Ch) (n : Nat) : Slot := (s.slots.get c).getD n {}

/-- `s` with bridge slot `n` of channel `c` changed by `f`. -/
def State.updSlot (s : State) (c : Ch) (n : Nat) (f : Slot → Slot) : State :=
  { s with slots := s.slots.upd c fun t => Tbl.modify t n {} f }

/-- The ARM output `n` of channel `c`. -/
def State.arm (s : State) (c : Ch) (n : Nat) : Arm := (s.arms.get c).getD n {}

/-- `s` with ARM output `n` of channel `c` changed by `f`. -/
def State.updArm (s : State) (c : Ch) (n : Nat) (f : Arm → Arm) : State :=
  { s with arms := s.arms.upd c fun t => Tbl.modify t n {} f }

/-- The permit output `n` of channel `c`. -/
def State.test (s : State) (c : Ch) (n : Nat) : PermitTest := (s.tests.get c).getD n {}

/-- `s` with permit output `n` of channel `c` changed by `f`. -/
def State.updTest (s : State) (c : Ch) (n : Nat) (f : PermitTest → PermitTest) : State :=
  { s with tests := s.tests.upd c fun t => Tbl.modify t n {} f }

/-- The gate driver `n` of channel `c`. -/
def State.driver (s : State) (c : Ch) (n : Nat) : Driver := (s.drivers.get c).getD n {}

/-- `s` with gate driver `n` of channel `c` changed by `f`. -/
def State.updDriver (s : State) (c : Ch) (n : Nat) (f : Driver → Driver) : State :=
  { s with drivers := s.drivers.upd c fun t => Tbl.modify t n {} f }

/-- The gate-driver SPI port `n` of channel `c`. -/
def State.spi (s : State) (c : Ch) (n : Nat) : Gspi := (s.spis.get c).getD n {}

/-- `s` with gate-driver SPI port `n` of channel `c` changed by `f`. -/
def State.updSpi (s : State) (c : Ch) (n : Nat) (f : Gspi → Gspi) : State :=
  { s with spis := s.spis.upd c fun t => Tbl.modify t n {} f }

/-- The host port `n`. -/
def State.port (s : State) (n : Nat) : PortSt := s.ports.getD n {}

/-- `s` with host port `n` changed by `f`. -/
def State.updPort (s : State) (n : Nat) (f : PortSt → PortSt) : State :=
  { s with ports := Tbl.modify s.ports n {} f }

/-- The semaphore `n`. -/
def State.sem (s : State) (n : Nat) : Sem := s.sems.getD n {}

/-- `s` with semaphore `n` changed by `f`. -/
def State.updSem (s : State) (n : Nat) (f : Sem → Sem) : State :=
  { s with sems := Tbl.modify s.sems n {} f }

/-- The axis `n`. -/
def State.axis (s : State) (n : Nat) : AxisSt := s.axes.getD n {}

/-- `s` with axis `n` changed by `f`. -/
def State.updAxis (s : State) (n : Nat) (f : AxisSt → AxisSt) : State :=
  { s with axes := Tbl.modify s.axes n {} f }

/-- The profile generator `n`. -/
def State.gen (s : State) (n : Nat) : Gen := s.gens.getD n {}

/-- `s` with profile generator `n` changed by `f`. -/
def State.updGen (s : State) (n : Nat) (f : Gen → Gen) : State :=
  { s with gens := Tbl.modify s.gens n {} f }

/-- The axis group `n`. -/
def State.group (s : State) (n : Nat) : Group := s.groups.getD n {}

/-- `s` with axis group `n` changed by `f`. -/
def State.updGroup (s : State) (n : Nat) (f : Group → Group) : State :=
  { s with groups := Tbl.modify s.groups n {} f }

/-- The task `n`. -/
def State.task (s : State) (n : Nat) : TaskRec := s.tasks.getD n {}

/-- `s` with task `n` changed by `f`. -/
def State.updTask (s : State) (n : Nat) (f : TaskRec → TaskRec) : State :=
  { s with tasks := Tbl.modify s.tasks n {} f }

/-- The trace `n`. -/
def State.trace (s : State) (n : Nat) : TraceRec := s.traces.getD n {}

/-- `s` with trace `n` changed by `f`. -/
def State.updTrace (s : State) (n : Nat) (f : TraceRec → TraceRec) : State :=
  { s with traces := Tbl.modify s.traces n {} f }

/-- The value of data object `o` in channel `c` (R294, R336). -/
def State.dobj (s : State) (c : Ch) (o : Nat) : Int := (s.objs.get c).getD o 0

/-- `s` with data object `o` of channel `c` set. -/
def State.setDobj (s : State) (c : Ch) (o : Nat) (v : Int) : State :=
  { s with objs := s.objs.upd c fun t => t.put o 0 v }

/-- The task state of channel `c`. -/
def State.taskSt (s : State) (c : Ch) (k : Nat) : TaskSt := (s.task k).st.get c

/-- `s` with the state of task `k` in channel `c` changed by `f`. -/
def State.updTaskSt (s : State) (c : Ch) (k : Nat) (f : TaskSt → TaskSt) : State :=
  s.updTask k fun r => { r with st := r.st.upd c f }

/-- The digest stream `k`. -/
def State.stream (s : State) (k : Nat) : Stream := s.red.streams.getD k {}

/-- `s` with digest stream `k` changed by `f`. -/
def State.updStream (s : State) (k : Nat) (f : Stream → Stream) : State :=
  { s with red := { s.red with streams := Tbl.modify s.red.streams k {} f } }

/-- `s` with the sediment record of channel `c` changed by `f`. -/
def State.updSed (s : State) (c : Ch) (f : Sed → Sed) : State := { s with sed := s.sed.upd c f }

/-- A frame or response leaves the device. -/
def State.send (s : State) (o : Out) : State := { s with sent := o :: s.sent }

/-- A periodic row that has already run at the present instant runs no second time. -/
def State.once (s : State) (key : Nat) (f : State → State) : State :=
  if s.marks.getD key 0 = s.now + 1 then s else f { s with marks := s.marks.put key 0 (s.now + 1) }

/-- The marks of the periodic rows: the commit instant. -/
def markCommit : Nat := 0

/-- The profile tick. -/
def markTick : Nat := 1

/-- The recovery of decaying penalties. -/
def markDecay : Nat := 2

/-- The score report. -/
def markScore : Nat := 3

/-- The common area. -/
def markCommon : Nat := 4

/-- The heartbeat. -/
def markBeat : Nat := 5

/-- The heartbeat check of a channel. -/
def markBeatCheck (c : Ch) : Nat := 6 + c.num

/-- The sediment trace of a channel. -/
def markSedTrace (c : Ch) : Nat := 9 + c.num

/-- The latch of an axis. -/
def markLatch (n : Nat) : Nat := 16 + n

/-- A safe input pair. -/
def markPair (c : Ch) (i : Nat) : Nat := 64 + 8 * c.num + i

/-- A fresh free value (log entry 6). -/
def State.free (s : State) : Nat := Config.freeValue s.used

/-- `s` with one more free value used. -/
def State.useFree (s : State) : State := { s with used := s.used + 1 }

/-- `f` applied for every member of a list. -/
def forEach {α : Type} (l : List α) (s : State) (f : State → α → State) : State := l.foldl f s

-- the ring and the voting set

/-- Channel by its number; numbers above 2 give C. -/
def chOf (n : Nat) : Ch := if n = 0 then .chA else if n = 1 then .chB else .chC

/-- The channels that have ended step 1 of start-up and have not been declared faulty (R61). -/
def State.running (s : State) (c : Ch) : Bool := s.arch.started.get c && !s.red.faulty.get c

/-- Whether a channel takes part in voting or, in STARTUP and PASSIVE, in reads (R61, R302). -/
def State.takesPart (s : State) (c : Ch) : Bool :=
  match s.red.state with
  | .startup => s.running c
  | .passive => s.running c
  | _ => s.red.inV.get c

/-- V, in the order A, B, C (R61, R302). -/
def State.voters (s : State) : List Ch := Ch.all.filter s.takesPart

/-- Whether the channels of a set form a voting majority under R61. -/
def State.isMajority (s : State) (m : Trio Bool) : Bool :=
  let v := s.voters
  let n := (v.filter fun c => m.get c).length
  if v.length ≤ 1 then n == v.length && n != 0 else 2 ≤ n

/-- The device is in the given redundancy state. -/
def State.inState (s : State) (r : RState) : Bool := s.red.state == r

/-- Paired, and the twin is not lost; a twin that says it is PASSIVE is treated as lost (R397). -/
def State.twinThere (s : State) : Bool := s.twin.paired && !s.twin.lost && !s.twin.passiveHeard

/-- The task's first-use mark set in every channel (R208). -/
def State.firstUse (s : State) (k : Nat) : State :=
  s.updTask k fun r => { r with st := r.st.map fun x => { x with first := true, preset := none } }

/-- Numbers 0 to n - 1. -/
def upto (n : Nat) : List Nat := List.range n

/-- The enabled tasks, in ascending number, among those that have a record or a written TASK_ENABLE. -/
def State.enabledTasks (s : State) : List Nat := (upto 512).filter fun k => s.v (Obj.taskEnable k) == 1

/-- The bridge slot bound to an axis: channel and slot (R251). -/
def State.bridgeOf (s : State) (n : Nat) : Option (Ch × Nat) :=
  let w := s.v (Obj.axBridge n)
  if bit w 15 then some (chOf (field w 8 2), field w 0 2) else none

/-- The axis bound to a slot (R251). -/
def State.axisOf (s : State) (c : Ch) (k : Nat) : Option Nat := (upto 32).find? fun n => s.bridgeOf n == some (c, k)

end Sys2Proof.Machine
end

