-- ==== Sys2Proof/Machine/Sha.lean ====
section
/-! DEFINITION. SHA-256 and HMAC-SHA-256 (R382, R392, R438, R443, R509 name them; the functions are those of FIPS 180-4 and
RFC 2104). -/

namespace Sys2Proof.Machine

/-- The 64 round constants of SHA-256. -/
def shaK : List Nat := [
    0x428A2F98, 0x71374491, 0xB5C0FBCF, 0xE9B5DBA5, 0x3956C25B, 0x59F111F1, 0x923F82A4, 0xAB1C5ED5,
    0xD807AA98, 0x12835B01, 0x243185BE, 0x550C7DC3, 0x72BE5D74, 0x80DEB1FE, 0x9BDC06A7, 0xC19BF174,
    0xE49B69C1, 0xEFBE4786, 0x0FC19DC6, 0x240CA1CC, 0x2DE92C6F, 0x4A7484AA, 0x5CB0A9DC, 0x76F988DA,
    0x983E5152, 0xA831C66D, 0xB00327C8, 0xBF597FC7, 0xC6E00BF3, 0xD5A79147, 0x06CA6351, 0x14292967,
    0x27B70A85, 0x2E1B2138, 0x4D2C6DFC, 0x53380D13, 0x650A7354, 0x766A0ABB, 0x81C2C92E, 0x92722C85,
    0xA2BFE8A1, 0xA81A664B, 0xC24B8B70, 0xC76C51A3, 0xD192E819, 0xD6990624, 0xF40E3585, 0x106AA070,
    0x19A4C116, 0x1E376C08, 0x2748774C, 0x34B0BCB5, 0x391C0CB3, 0x4ED8AA4A, 0x5B9CCA4F, 0x682E6FF3,
    0x748F82EE, 0x78A5636F, 0x84C87814, 0x8CC70208, 0x90BEFFFA, 0xA4506CEB, 0xBEF9A3F7, 0xC67178F2]

/-- The initial hash value of SHA-256. -/
def shaInit : List Nat := [
    0x6A09E667, 0xBB67AE85, 0x3C6EF372, 0xA54FF53A, 0x510E527F, 0x9B05688C, 0x1F83D9AB, 0x5BE0CD19]

/-- A sum of 32-bit words. -/
def add32 (a b : Nat) : Nat := (a + b) % 4294967296

/-- A 32-bit word rotated right by `n`. -/
def rotr (n x : Nat) : Nat := x / 2 ^ n + x % 2 ^ n * 2 ^ (32 - n)

/-- The complement of a 32-bit word. -/
def not32 (x : Nat) : Nat := 4294967295 - x

/-- The big-endian number of some bytes. -/
def ofBeBytes (l : List Byte) : Nat := l.foldl (fun a b => a * 256 + b.toNat) 0

/-- The big-endian bytes of a number, `n` of them. -/
def beBytes (n v : Nat) : List Byte := (leBytes n v).reverse

/-- The message schedule: `n` further words after the 16 or more in `w`, newest first. -/
def shaExtend : Nat → List Nat → List Nat
  | 0, w => w
  | n + 1, w =>
    let g := fun i => w.getD i 0
    let s0 := Nat.xor (Nat.xor (rotr 7 (g 14)) (rotr 18 (g 14))) (g 14 / 8)
    let s1 := Nat.xor (Nat.xor (rotr 17 (g 1)) (rotr 19 (g 1))) (g 1 / 1024)
    shaExtend n (add32 (add32 (g 15) s0) (add32 (g 6) s1) :: w)

/-- The eight working words of the compression. -/
structure ShaSt where
  a : Nat
  b : Nat
  c : Nat
  d : Nat
  e : Nat
  f : Nat
  g : Nat
  h : Nat

/-- One round with its constant and its schedule word. -/
def ShaSt.round (x : ShaSt) (kw : Nat × Nat) : ShaSt :=
  let s1 := Nat.xor (Nat.xor (rotr 6 x.e) (rotr 11 x.e)) (rotr 25 x.e)
  let ch := Nat.xor (Nat.land x.e x.f) (Nat.land (not32 x.e) x.g)
  let t1 := add32 (add32 x.h s1) (add32 ch (add32 kw.1 kw.2))
  let s0 := Nat.xor (Nat.xor (rotr 2 x.a) (rotr 13 x.a)) (rotr 22 x.a)
  let mj := Nat.xor (Nat.xor (Nat.land x.a x.b) (Nat.land x.a x.c)) (Nat.land x.b x.c)
  ⟨add32 t1 (add32 s0 mj), x.a, x.b, x.c, add32 x.d t1, x.e, x.f, x.g⟩

/-- The words of a state as a list. -/
def ShaSt.words (x : ShaSt) : List Nat := [x.a, x.b, x.c, x.d, x.e, x.f, x.g, x.h]

/-- The state of a hash value. -/
def shaLoad (h : List Nat) : ShaSt :=
  ⟨h.getD 0 0, h.getD 1 0, h.getD 2 0, h.getD 3 0, h.getD 4 0, h.getD 5 0, h.getD 6 0, h.getD 7 0⟩

/-- The 16 words of a 64-byte block. -/
def shaWords (l : List Byte) : List Nat := (List.range 16).map fun i => ofBeBytes ((l.drop (4 * i)).take 4)

/-- The compression of one block into the hash value. -/
def shaBlock (h : List Nat) (l : List Byte) : List Nat :=
  let w := (shaExtend 48 (shaWords l).reverse).reverse
  ((shaK.zip w).foldl ShaSt.round (shaLoad h)).words.zipWith add32 h

/-- The padded message. -/
def shaPad (l : List Byte) : List Byte :=
  l ++ [0x80] ++ List.replicate ((119 - l.length % 64) % 64) 0 ++ beBytes 8 (8 * l.length)

/-- SHA-256. -/
def sha256 (l : List Byte) : List Byte :=
  let p := shaPad l
  ((List.range (p.length / 64)).foldl (fun h i => shaBlock h ((p.drop (64 * i)).take 64)) shaInit).flatMap (beBytes 4)

/-- A key brought to 64 bytes. -/
def hmacKey (k : List Byte) : List Byte :=
  let k := if 64 < k.length then sha256 k else k
  k ++ List.replicate (64 - k.length) 0

/-- HMAC-SHA-256. -/
def hmac (key l : List Byte) : List Byte :=
  let k := hmacKey key
  sha256 (k.map (· ^^^ 0x5C) ++ sha256 (k.map (· ^^^ 0x36) ++ l))

end Sys2Proof.Machine
end

