-- ==== Sys2Proof/Machine/FabOps.lean ====
section
/-! DEFINITION. The Delta fabric below its commands: lanes, stream descriptors, frames, routes and sending (R359 to R367,
R372 to R378, R380 to R382). -/

namespace Sys2Proof.Machine

-- planes and lanes

/-- Channel `c`'s plane. -/
def State.plane (s : State) (c : Ch) : Plane := s.fab.planes.get c

/-- `s` with channel `c`'s plane changed by `f`. -/
def State.updPlane (s : State) (c : Ch) (f : Plane → Plane) : State :=
  { s with fab := { s.fab with planes := s.fab.planes.upd c f } }

/-- Lane `l` of channel `c`. -/
def State.fabLane (s : State) (c : Ch) (l : Nat) : Lane := (s.plane c).lanes.getD l {}

/-- `s` with lane `l` of channel `c` changed by `f`. -/
def State.updLane (s : State) (c : Ch) (l : Nat) (f : Lane → Lane) : State :=
  s.updPlane c fun p => { p with lanes := Tbl.modify p.lanes l {} f }

/-- The node routes, ROUTING (R372). -/
def State.routes (s : State) : Bool :=
  s.fab.addr != 0 && !s.fab.conflict && s.red.state != .passive && s.power.state == .run && s.power.com

/-- LANE_STATE values of R360. -/
def laneDisabled : Nat := 0

/-- DOWN. -/
def laneDown : Nat := 1

/-- ALIGNED. -/
def laneAligned : Nat := 2

/-- NEIGHBOUR. -/
def laneNeighbour : Nat := 3

/-- MISWIRED. -/
def laneMiswired : Nat := 4

/-- SUSPENDED. -/
def laneSuspended : Nat := 5

/-- ISOLATED. -/
def laneIsolated : Nat := 6

/-- Before the strap vote of fabric discovery the address in use is not known, and lanes are not isolated (log entry 14). -/
def State.mayNeighbour (s : State) : Bool := s.routes || !s.fab.strapVoted

/-- LANE_STATE (R360): a lane of a node that does not route is ISOLATED where it would be ALIGNED or NEIGHBOUR. -/
def State.laneState (s : State) (c : Ch) (l : Nat) : Nat :=
  let x := (s.fabLane c l).st
  if (x = laneAligned ∨ x = laneNeighbour) ∧ s.mayNeighbour = false then laneIsolated else x

/-- A lane enters a state of R360; entering or leaving NEIGHBOUR makes the channel's LSA due (R373). -/
def State.setLane (s : State) (c : Ch) (l : Nat) (st : Nat) : State :=
  let old := (s.fabLane c l).st
  let s := s.updLane c l fun x => { x with st := st }
  if old ≠ st ∧ (old = laneNeighbour ∨ st = laneNeighbour) then s.updPlane c fun p => { p with lsaDue := true } else s

/-- The state that a lane with alignment and no neighbour has (R360, R372). -/
def State.restState (s : State) : Nat := if s.mayNeighbour then laneAligned else laneIsolated

/-- The lanes of a channel in NEIGHBOUR. -/
def State.neighbours (s : State) (c : Ch) : List Nat := (upto 4).filter fun l => s.laneState c l == laneNeighbour

/-- FAB_LANE_ENABLE of a lane (R360). -/
def State.laneOn (s : State) (c : Ch) (l : Nat) : Bool := s.isBit Obj.fabLaneEnable (4 * c.num + l)

/-- Channel `c` runs its lanes: its clocks run and COM is on (R453). -/
def State.fabAlive (s : State) (c : Ch) : Bool := s.arch.started.get c && s.power.com

-- stream descriptors (R376)

/-- STREAM_DESC of stream `n`. -/
def State.desc (s : State) (n : Nat) : Int := s.v (Obj.streamDesc n)

/-- ENABLE. -/
def State.streamOn (s : State) (n : Nat) : Bool := bit (s.desc n) 0

/-- SRC_NODE. -/
def State.streamSrc (s : State) (n : Nat) : Nat := field (s.desc n) 56 8

/-- DEST_NODE. -/
def State.streamDest (s : State) (n : Nat) : Nat := field (s.desc n) 48 8

/-- MAX_RATE in Mbit/s; 0 = none. -/
def State.streamRate (s : State) (n : Nat) : Nat := field (s.desc n) 36 12

/-- PRIORITY. -/
def State.streamPrio (s : State) (n : Nat) : Nat := field (s.desc n) 5 2

/-- AGREE. -/
def State.streamAgree (s : State) (n : Nat) : Bool := bit (s.desc n) 4

/-- AUTH. -/
def State.streamAuth (s : State) (n : Nat) : Bool := bit (s.desc n) 3

/-- REDUNDANT. -/
def State.streamRedundant (s : State) (n : Nat) : Bool := bit (s.desc n) 2

/-- A descriptor from its fields (R376, R394). -/
def descOf (src dest prio : Nat) (agree auth redundant enable : Bool) : Int :=
  (src * 2 ^ 56 + dest * 2 ^ 48 + prio * 2 ^ 5 + b2n agree * 16 + b2n auth * 8 + b2n redundant * 4 + b2n enable : Nat)

/-- The streams whose descriptors have been written. -/
def State.writtenStreams (s : State) : List Nat :=
  ((((s.regs.a ++ s.regs.b ++ s.regs.c).map (·.1)).eraseDups).filter fun k => 0xA200 * 256 ≤ k && k < 0xA400 * 256).map
    fun k => (k / 256 - 0xA200) * 8 + (k % 256 - 1)

/-- The streams that this node sends to a node that their descriptor names (R375, R377). -/
def State.sentStreams (s : State) : List Nat :=
  s.writtenStreams.filter fun n => s.streamOn n && s.streamDest n != 0 && s.streamDest n != s.fab.addr

-- frames (R362, R364)

/-- The fields of a Delta link layer frame. -/
structure FabFrame where
  type : Nat
  flags : Nat
  dest : Nat
  src : Nat
  stream : Nat
  seq : Nat
  ttl : Nat
  payload : List Byte
  tag : Option (List Byte)
deriving DecidableEq, Repr, Inhabited

/-- FLAGS of R364. -/
def fabFlags (more : Bool) (slot : Nat) (auth : Bool) (path prio : Nat) : Nat :=
  128 * b2n more + 64 * slot + 32 * b2n auth + 16 * path + prio

/-- Bytes 0 to 11 with a given TTL. -/
def FabFrame.header (f : FabFrame) (ttl : Nat) : List Byte :=
  leBytes 1 f.type ++ leBytes 1 f.flags ++ leBytes 1 f.dest ++ leBytes 1 f.src ++ leBytes 2 f.stream ++ leBytes 2 f.seq ++
    leBytes 1 ttl ++ [0] ++ leBytes 2 f.payload.length

/-- Bytes 0 to 13 with a given TTL. -/
def FabFrame.head (f : FabFrame) (ttl : Nat) : List Byte := f.header ttl ++ leBytes 2 (crc16 (f.header 0))

/-- Everything before the FCS with a given TTL. -/
def FabFrame.body (f : FabFrame) (ttl : Nat) : List Byte := f.head ttl ++ f.payload ++ f.tag.getD []

/-- The bytes between the delimiters. -/
def FabFrame.bytes (f : FabFrame) : List Byte := f.body f.ttl ++ leBytes 4 (crc32 (f.body 0))

/-- TAG of a frame under a key (R382). -/
def FabFrame.tagOf (f : FabFrame) (key : List Byte) : List Byte := (hmac key (f.head 0 ++ f.payload)).take 8

/-- The key of a slot; a slot never written holds zeros (R383, R386). -/
def State.fabKey (s : State) (slot : Nat) : List Byte :=
  let k := if slot = 0 then s.fab.key0 else s.fab.key1
  if k.isEmpty then List.replicate 32 0 else k

/-- `every` has passed since a time, if there was one. -/
def State.since (s : State) (at_ : Option Nat) (every : Nat) : Bool := match at_ with
  | some b => b + every ≤ s.now
  | none => true

/-- `f` with its tag by key slot `slot`. -/
def State.withTag (s : State) (f : FabFrame) (slot : Nat) : FabFrame := { f with tag := some (f.tagOf (s.fabKey slot)) }

/-- The fields of a frame of a length that its LENGTH and AUTH allow, with a valid HCRC; none for one to be discarded at
this hop (R362, R363, R364). -/
def parseFab (l : List Byte) : Option FabFrame :=
  let g := fun i n => ofLeBytes ((l.drop i).take n)
  let len := g 10 2
  let auth := bit (g 1 1 : Int) 5
  let f : FabFrame :=
    { type := g 0 1, flags := g 1 1, dest := g 2 1, src := g 3 1, stream := g 4 2, seq := g 6 2, ttl := g 8 1
      payload := (l.drop 14).take len, tag := if auth then some ((l.drop (14 + len)).take 8) else none }
  if 18 ≤ l.length ∧ len ≤ 1024 ∧ l.length = 18 + len + 8 * b2n auth ∧ 1 ≤ f.type ∧ f.type ≤ 6 ∧ g 9 1 = 0 ∧
      f.stream < 4096 ∧ field f.flags 2 2 = 0 ∧ f.flags % 4 ≠ 3 ∧ g 12 2 = crc16 (f.header 0) then some f
  else none

/-- The FCS of a received frame holds (R362). -/
def fcsOk (l : List Byte) (f : FabFrame) : Bool := ofLeBytes (l.drop (l.length - 4)) == crc32 (f.body 0)

-- routes (R373, R374)

/-- A lane of the plane as an LSA gives it. -/
structure Edge where
  u : Nat
  v : Nat
  lane : Nat
  rlane : Nat
  cost : Nat
deriving DecidableEq, Repr, Inhabited

/-- The records of the channel's own LSA (R373). -/
def State.ownRecs (s : State) (c : Ch) : List LsaRec :=
  if s.routes then
    (s.neighbours c).map fun l =>
      ⟨(s.fabLane c l).peerAddr, l, field (s.fabLane c l).peerPos 2 2, s.vn (Obj.laneCost c l)⟩
  else []

/-- The lanes of the plane: those of the own LSA and of the LSAs held. -/
def State.edges (s : State) (c : Ch) : List Edge :=
  let f := fun (u : Nat) (r : LsaRec) => (⟨u, r.nbr, r.localLane, r.remoteLane, r.cost⟩ : Edge)
  (s.ownRecs c).map (f s.fab.addr) ++ (s.plane c).lsas.flatMap fun h => h.lsa.recs.map (f h.lsa.node)

/-- The nodes that occur in a set of lanes. -/
def nodesOf (es : List Edge) : List Nat := (es.flatMap fun e => [e.u, e.v]).eraseDups

/-- One round of relaxation of the costs to a destination. -/
def relax (es : List Edge) (d : Tbl (Option Nat)) : Tbl (Option Nat) :=
  es.foldl (fun d e =>
    match d.getD e.v none with
    | none => d
    | some x =>
      match d.getD e.u none with
      | some y => if x + e.cost < y then d.put e.u none (some (x + e.cost)) else d
      | none => d.put e.u none (some (x + e.cost))) d

/-- The least cost from every node to `dest` (R374). -/
def costsTo (es : List Edge) (dest : Nat) : Tbl (Option Nat) :=
  (nodesOf es).foldl (fun d _ => relax es d) [(dest, some 0)]

/-- The first lane of the path of least cost from `u`: ties go to the lower next-hop address, then to the lower local
lane (R374). -/
def nextHop (es : List Edge) (u dest : Nat) : Option Edge :=
  let d := costsTo es dest
  if u = dest then none
  else (es.filter fun e => e.u == u).foldl (fun b e =>
    match d.getD e.v none with
    | none => b
    | some x =>
      match b with
      | none => some e
      | some f =>
        let y := (d.getD f.v none).getD 0 + f.cost
        if x + e.cost < y || (x + e.cost == y && (e.v < f.v || (e.v == f.v && e.lane < f.lane))) then some e else b) none

/-- The number of hops from `u` to `dest` on the paths of least cost. -/
def hopsTo (es : List Edge) (dest : Nat) : Nat → Nat → Option Nat
  | 0, u => if u = dest then some 0 else none
  | n + 1, u =>
    if u = dest then some 0
    else match nextHop es u dest with
      | some e => (hopsTo es dest n e.v).map (· + 1)
      | none => none

/-- Every path without a repeated node from `u` to `dest`, of at most the given number of hops. -/
def pathsTo (es : List Edge) (dest : Nat) : Nat → List Nat → Nat → List (List Edge)
  | 0, _, _ => []
  | n + 1, seen, u =>
    (es.filter fun e => e.u == u && !seen.contains e.v).flatMap fun e =>
      if e.v = dest then [[e]] else (pathsTo es dest n (e.v :: seen) e.v).map (e :: ·)

/-- The cost of a path. -/
def pathCost (p : List Edge) : Nat := p.foldl (fun a e => a + e.cost) 0

/-- The order of paths of one cost: lower next-hop address, then lower local lane, hop by hop. -/
def hopsBefore : List Edge → List Edge → Bool
  | e :: p, f :: q =>
    if e.v ≠ f.v then e.v < f.v else if e.lane ≠ f.lane then e.lane < f.lane else hopsBefore p q
  | _, _ => false

/-- The rule for single paths as an order of paths (R374). -/
def pathBefore (p q : List Edge) : Bool := pathCost p < pathCost q || (pathCost p == pathCost q && hopsBefore p q)

/-- Two paths share no lane and no transit node (R374). -/
def disjoint (p q : List Edge) : Bool :=
  p.all fun e => q.all fun f =>
    !(e.u == f.u && e.lane == f.lane) && !(e.v == f.v && e.rlane == f.rlane) && (e.v != f.v || some e == p.getLast?)

/-- The pair of paths of a REDUNDANT stream: disjoint, of least total cost, ties by the rule for single paths on the first
path and then on the second (R374). -/
def pairFor (es : List Edge) (u dest : Nat) : Option (List Edge × List Edge) :=
  let ps := pathsTo es dest (nodesOf es).length [u] u
  (ps.flatMap fun p => (ps.filter (disjoint p)).map fun q => (p, q)).foldl (fun b x =>
    match b with
    | none => some x
    | some y =>
      let cx := pathCost x.1 + pathCost x.2
      let cy := pathCost y.1 + pathCost y.2
      if cx < cy || (cx == cy && (pathBefore x.1 y.1 || (x.1 == y.1 && pathBefore x.2 y.2))) then some x else b) none

/-- The fabric has a route to a node on the plane of some channel. -/
def State.hasRoute (s : State) (dest : Nat) : Bool := Ch.all.any fun c => (nextHop (s.edges c) s.fab.addr dest).isSome

-- sending (R377, R378, R380 to R382)

/-- Whether this node puts a tag into the DATA frames of a stream (R382). -/
def State.tagged (s : State) (n : Nat) : Bool :=
  let m := s.vn Obj.fabAuthMode
  m == 2 || (m == 1 && s.streamAuth n)

/-- The first lanes on which channel `c` sends a frame of stream `n` to `dest`, with PATH (R374, R375, R381). -/
def State.firstLanes (s : State) (c : Ch) (n dest : Nat) : List (Nat × Nat) :=
  let es := s.edges c
  let one := match nextHop es s.fab.addr dest with
    | some e => [(e.lane, 0)]
    | none => []
  if s.streamRedundant n then
    match pairFor es s.fab.addr dest with
    | some (p, q) => (p.take 1).map (fun e => (e.lane, 0)) ++ (q.take 1).map fun e => (e.lane, 1)
    | none => one
  else one

/-- The time at which `m` more bytes of stream `n` have left channel `c` under MAX_RATE, and whether they may wait: at
most 64 KiB of a stream wait (R377). -/
def State.rateTake (s : State) (c : Ch) (n m : Nat) : Nat × Bool :=
  let r := s.streamRate n
  let b := max s.now ((s.plane c).busy.getD n 0)
  let waiting := (b - s.now) * r / (8 * us)
  if r = 0 then (0, true) else (b + m * 8 * us / r, waiting + m ≤ 65536)

/-- One frame of stream `n` leaves channel `c` for `dest` with the present SEQ, which then advances (R378). -/
def State.sendFrame (s : State) (c : Ch) (n dest : Nat) (more : Bool) (payload : List Byte) : State :=
  let seq := (s.plane c).seqs.getD n 0
  let s := s.updPlane c fun p => { p with seqs := p.seqs.put n 0 ((seq + 1) % 65536) }
  let auth := s.tagged n
  let slot := if auth then s.vn Obj.fabAuthSlot else 0
  let mk := fun (path : Nat) =>
    let f : FabFrame :=
      { type := 1, flags := fabFlags more slot auth path (s.streamPrio n), dest := dest, src := s.fab.addr, stream := n
        seq := seq, ttl := s.vn Obj.fabMaxTtl, payload := payload, tag := none }
    (if auth then s.withTag f slot else f).bytes
  let ls := s.firstLanes c n dest
  let take := s.rateTake c n (mk 0).length
  if ls.isEmpty then s.bumpC c Obj.fabNoRoute
  else if !take.2 then s.bumpC c Obj.fabRateDrops
  else
    let s := s.updPlane c fun p => { p with busy := p.busy.put n 0 take.1 }
    forEach ls s fun s x => s.send (.fabLane c x.1 1 (mk x.2))

/-- Channel `c` sends a message of stream `n` to `dest` in one frame or two (R377, R380). -/
def State.sendTo (s : State) (c : Ch) (n dest : Nat) (payload : List Byte) : State :=
  let dest := if s.streamDest n = 0 then dest else s.streamDest n
  if !s.routes || !s.streamOn n || !s.fabAlive c then s
  else if payload.length ≤ 1024 then s.sendFrame c n dest false payload
  else (s.sendFrame c n dest true (payload.take 1024)).sendFrame c n dest false (payload.drop 1024)

/-- Channel `c` hands a message of its own to stream `n`, whose descriptor names the destination. -/
def State.sendMsg (s : State) (c : Ch) (n : Nat) (payload : List Byte) : State :=
  (s.send (.fabric c n payload)).sendTo c n 0 payload

end Sys2Proof.Machine
end

