-- ==== Sys2Proof/Machine/SedOps.lean ====
section
/-! DEFINITION. Recording: events, suppression, triggers and the start of a summary copy (R499 to R508, R511, R524). -/

namespace Sys2Proof.Machine

/-- Codes that are never suppressed (R502). -/
def neverSuppressed (code : Nat) : Bool := 0x0901 ≤ code && code ≤ 0x0906

/-- The channel's DRAM ring takes events (R506, R512). -/
def Sed.recording (d : Sed) : Bool := d.dramReady && !d.frozen && !d.dramFault

/-- 1 MiB in bytes. -/
def mib : Nat := 1048576

/-- The channel that the partition firewall lets write at a byte address of the DRAM: three partitions of 160 MiB, then the
common area with a slot of 8 MiB for each channel (R16, R498). -/
def dramWriter (a : Nat) : Option Ch := if a < 480 * mib then Ch.ofNum? (a / (160 * mib)) else Ch.ofNum? ((a - 480 * mib) / (8 * mib))

/-- The first address of channel `c`'s partition. -/
def partitionOf (c : Ch) : Nat := 160 * mib * c.num

/-- The first address of channel `c`'s slot in the common area. -/
def commonSlotOf (c : Ch) : Nat := 480 * mib + 8 * mib * c.num

/-- Channel `c` writes `f` at an address of the DRAM: the firewall blocks and counts a write outside its own regions (R16). -/
def Sed.dramWrite (d : Sed) (c : Ch) (a : Nat) (f : Sed → Sed) : Sed :=
  if dramWriter a = some c then f d else { d with blocked := d.blocked + 1 }

/-- An event enters the shadow ring, and the DRAM ring while that records (R497, R499). -/
def Sed.add (d : Sed) (e : SedEvent) : Sed :=
  let d := { d with shadow := (e :: d.shadow).take 4096 }
  if d.recording then d.dramWrite e.chan (partitionOf e.chan) fun d => { d with ring := (e :: d.ring).take 1048576 } else d

/-- The suppression window of a time (R502). -/
def winOf (t : Nat) : Nat := t / ms

/-- Whether an event passes the limit of 16 per code, source and window (R502). -/
def Sed.passes (d : Sed) (t code source : Nat) : Bool :=
  neverSuppressed code ||
    (d.wins.all fun w => !(w.win == winOf t && w.code == code && w.source == source) || w.written < 16)

/-- One more event of a code and source counted in its window (R502). -/
def Sed.count (d : Sed) (t code source : Nat) : Sed :=
  if neverSuppressed code then d
  else if d.wins.any fun w => w.win == winOf t && w.code == code && w.source == source then
    { d with wins := d.wins.map fun w =>
        if w.win == winOf t && w.code == code && w.source == source then
          if w.written < 16 then { w with written := w.written + 1 } else { w with dropped := w.dropped + 1 }
        else w }
  else { d with wins := ⟨winOf t, code, source, 1, 0⟩ :: d.wins }

/-- A channel event of channel `c`: it is written while the channel runs, unless suppressed (R501, R502). Recording pauses while
the device sleeps (R512). -/
def State.logC (s : State) (c : Ch) (code source : Nat) (payload : List Byte) : State :=
  if s.arch.alive.get c && s.power.com then
    let d := s.sed.get c
    let e : SedEvent := ⟨s.now, code, source, c, payload⟩
    if d.passes s.now code source then
      (s.updSed c fun d => (d.add e).count s.now code source).bumpR (Obj.sedEvents c)
    else s.updSed c fun d => d.count s.now code source
  else s

/-- A device event: written by every channel in V with the same TIME (R501). -/
def State.logDev (s : State) (code source : Nat) (payload : List Byte) : State :=
  forEach s.voters s fun s c => s.logC c code source payload

/-- RTC_SECONDS now (R463). -/
def State.rtcNow (s : State) : Nat := (s.power.rtc.1 + (s.now - s.power.rtc.2) / sec) % 2 ^ 32

/-- The trace nodes in use: those before the first of kind 0 (R504). -/
def State.traceNodes (s : State) : List Nat :=
  ((upto 16).map fun i => s.vn (Obj.sedTraceNode i)).takeWhile fun r => field r 28 4 != 0

/-- The age of a slot: slots without a summary first, then by SUM_SEQ (R508). -/
def Sed.slotAge (d : Sed) (k : Nat) : Nat :=
  let m := d.slots.getD k {}
  if m.headerOk && m.written != 0 then m.seq + 1 else 0

/-- The oldest slot that is not locked (R508). -/
def Sed.pickSlot (d : Sed) (lock : Nat) : Option Nat :=
  (upto 8).foldl (fun b k =>
    if bit lock k then b
    else match b with
      | none => some k
      | some j => if d.slotAge k < d.slotAge j then some k else some j) none

/-- Bytes of a sediment-trace record with `n` nodes (R504). -/
def recordSize (n : Nat) : Nat := 8 + 4 * n

/-- Trace blocks for `m` records of `n` nodes, at most 18 (R508). -/
def traceBlocks (n m : Nat) : Nat :=
  let per := 4096 / recordSize n
  min 18 ((m + per - 1) / per)

/-- A trigger now, with what its summary records of the moment (R509). -/
def State.trigNow (s : State) (cause : Nat) : SedTrig :=
  { time := s.now, cause := cause, redund := s.red.state.num, rtc := s.rtcNow, chain := s.vn Obj.clLastChain
    planDigest := s.vn Obj.planDigest }

/-- A summary copy starts at channel `c` for a trigger (R508, R509, R511). -/
def State.startCopy (s : State) (c : Ch) (g : SedTrig) (noTrace merged : Bool) : State :=
  let d := s.sed.get c
  match d.pickSlot (s.vn (Obj.sedSumLock c)) with
  | none => (s.bumpR (Obj.sedSumDropped c)).logC c 0x0903 (0xC010 + c.num) [BitVec.ofNat 8 g.cause]
  | some k =>
    let evs := d.shadow.dropWhile fun e => !(e.code == 0x0901 && e.time == g.time)
    let n := s.traceNodes.length
    let recs := if noTrace then [] else d.trace.filter fun r => r.1 ≤ g.time && g.time < r.1 + 50 * ms
    let nb := traceBlocks n recs.length
    let m : Summary :=
      { flags := (if noTrace then 4 else 0) + (if merged then 8 else 0)
        seq := d.sumSeq + 1
        trigTime := g.time
        cause := g.cause
        redund := g.redund
        nodes := n
        rtc := g.rtc
        chain := g.chain
        planDigest := g.planDigest
        events := evs
        trace := recs.take (nb * (4096 / recordSize n))
        evBlocks := 32
        trBlocks := nb
        headerOk := false }
    (s.updSed c fun d =>
      { d with sumSeq := d.sumSeq + 1, slots := d.slots.put k {} m, copy := some { slot := k, cause := g.cause } }).bitR
        (Obj.sedSumValid c) k false

/-- The step of start-up that channel `c` has ended: no command marks the end of step 2, which is taken at its maximum of
6.0 ms after step 1 (R517, log entry 20). -/
def State.stepOf (s : State) (c : Ch) : Nat :=
  let n := s.vn (Obj.suStep c)
  match s.su.step1.get c with
  | some b => if n = 1 ∧ b + 6 * ms ≤ s.now then 2 else n
  | none => n

/-- A trigger in channel `c` (R505, R506, R511). Before the end of step 2 of start-up no summary is made (R524). -/
def State.trigger (s : State) (c : Ch) (cause : Nat) : State :=
  if s.arch.alive.get c then
    let was := (s.sed.get c).frozen
    let noTrace := was || (s.sed.get c).dramFault || !(s.sed.get c).dramReady
    let s := s.logC c 0x0901 (0xC010 + c.num) [BitVec.ofNat 8 cause]
    let s := if was then s else
      ((s.updSed c fun d => { d with frozen := true }).setR (Obj.sedFreezeTime c) s.now).setR
        (Obj.sedFreezeCause c) cause
    if s.stepOf c < 2 then s
    else match (s.sed.get c).copy with
      | some x =>
        if cause = 3 then s.updSed c fun d => { d with merged := none, copy := some { x with last := true } }
        else if x.last then s
        else s.updSed c fun d => { d with merged := some (s.trigNow cause) }
      | none => s.startCopy c (s.trigNow cause) noTrace false
  else s

/-- Every running channel takes the trigger (R505, causes 1 and 2). -/
def State.triggerAll (s : State) (cause : Nat) : State := forEach Ch.all s fun s c => s.trigger c cause

end Sys2Proof.Machine
end

