-- ==== Sys2Proof/Machine/AxisOps.lean ====
section
/-! DEFINITION. Axes: the bound source, standstill, reactions, generator requests and group moves (R188, R205, R215,
R264 to R285). -/

namespace Sys2Proof.Machine

-- the bound source

/-- A position source: kind, channel and instance (R154, R188). -/
abbrev Src := SourceKind × Ch × Nat

/-- The source that an AX_FB_SOURCE value names (R188). -/
def srcOfWord (w : Int) : Option Src :=
  let c := chOf (field w 8 2)
  let n := field w 0 4
  match field w 12 4 with
  | 1 => some (.port, c, n)
  | 2 => some (.sensor, c, n)
  | 3 => some (.resolver, c, n)
  | _ => none

/-- The source bound to axis `n`. -/
def State.sourceOf (s : State) (n : Nat) : Option Src := srcOfWord (s.v (Obj.axFbSource n))

/-- The axis bound to a source. -/
def State.axisOfSrc (s : State) (x : Src) : Option Nat := (upto 32).find? fun n => s.sourceOf n == some x

/-- The status object of a source (R183). -/
def Src.status : Src → Obj
  | (.port, c, n) => Obj.fpStatus c n
  | (.sensor, c, n) => Obj.spStatus c n
  | (.resolver, c, n) => Obj.resStatus c n

/-- The POS object of a source. -/
def Src.pos : Src → Obj
  | (.port, c, n) => Obj.fpPos c n
  | (.sensor, c, n) => Obj.spPos c n
  | (.resolver, c, n) => Obj.resPos c n

/-- The RAW object of a source. -/
def Src.raw : Src → Obj
  | (.port, c, n) => Obj.fpRaw c n
  | (.sensor, c, n) => Obj.spRaw c n
  | (.resolver, c, n) => Obj.resRaw c n

/-- A source is ACTIVE: enabled and delivering, in a channel that has not been declared faulty (R177, R183). -/
def State.srcActive (s : State) (x : Src) : Bool := s.isBitC x.2.1 x.status 0 && !s.red.faulty.get x.2.1

/-- SOURCE_OK of axis `n`: bound, ACTIVE and not SOURCE_LOST (R189). -/
def State.sourceOk (s : State) (n : Nat) : Bool :=
  match s.sourceOf n with
  | none => false
  | some x => s.srcActive x && !s.isBitC x.2.1 x.status 7

-- setpoints and standstill

/-- PG_SETPOINT: PA[63:32] (R264, R288). -/
def Gen.setpoint (g : Gen) : Int := signed32 (g.pa / 2 ^ 32)

/-- The setpoint after the last tick at or before time `t` (R265). -/
def Gen.setpointAt (g : Gen) (t : Nat) : Int :=
  match g.past.find? fun p => p.1 ≤ t with
  | some p => p.2
  | none => match g.past.getLast? with
    | some p => p.2
    | none => g.setpoint

/-- A tick at `t` leaves the present setpoint (R265): the last 256 changes cover the longest PWM period. -/
def Gen.note (g : Gen) (t : Nat) : Gen :=
  if (g.past.headD (0, 0)).2 = g.setpoint ∧ g.past ≠ [] then g else { g with past := ((t, g.setpoint) :: g.past).take 256 }

/-- PG_VEL_NOW: VX / 2^16, rounded toward zero (R288). -/
def Gen.velocity (g : Gen) : Int := signed32 (Int.tdiv g.vx (2 ^ 16))

/-- A generator tracks (R270). -/
def Gen.tracks (g : Gen) : Bool := match g.mode with | .tracking _ => true | _ => false

/-- A generator is at standstill (R272). -/
def Gen.still (g : Gen) : Bool :=
  match g.mode with
  | .tracking b => b
  | .standstill => true
  | _ => false

/-- A move or a stop runs. -/
def Gen.moves (g : Gen) : Bool :=
  match g.mode with
  | .moving => true
  | .stopping _ => true
  | _ => false

/-- The standstill condition of axis `n` (R272), used by RWP objects, hold reduction and homing. -/
def State.standstill (s : State) (n : Nat) : Bool := (s.gen n).still

/-- Every axis is at standstill. -/
def State.allStill (s : State) : Bool := (upto 32).all s.standstill

/-- The conditions of the axis itself under which its generator tracks (R270, R275). -/
def State.trackCase (s : State) (n : Nat) : Bool :=
  s.v (Obj.axTorqueEnable n) != 1 || s.vn (Obj.axReaction n) == 3 ||
    match s.bridgeOf n with
    | some (c, k) => !(s.slot c k).en
    | none => !s.sourceOk n

/-- A task's axis (R330). -/
def State.taskAxis (s : State) (k : Nat) : Option Nat :=
  let a := s.vn (Obj.taskAxis k)
  if a < 32 then some a else none

/-- The enabled tasks of axis `n`. -/
def State.tasksOf (s : State) (n : Nat) : List Nat := s.enabledTasks.filter fun k => s.taskAxis k == some n

/-- The lowest-numbered enabled position/force loop of an axis (R205, R280). TASK_TYPE 4 is the position/force loop (R199). -/
def State.posForceLoop (s : State) (n : Nat) : Option Nat := (s.tasksOf n).find? fun k => s.v (Obj.taskType k) == 4

/-- A position/force loop is a position loop when y is the latched POS of an axis (R205). -/
def State.isPosLoop (s : State) (k : Nat) : Bool := field (s.v (Obj.taskIn k 1)) 28 4 == 2

/-- A force axis: its lowest-numbered enabled position/force loop is a force loop (R205). -/
def State.isForceAxis (s : State) (n : Nat) : Bool :=
  match s.posForceLoop n with
  | some k => !s.isPosLoop k
  | none => false

-- group membership

/-- The member word of slot `m` of group `g` (R290). -/
def State.member (s : State) (g m : Nat) : Int := s.v (Obj.agMember g m)

/-- Slot `m` is in use. -/
def State.inUse (s : State) (g m : Nat) : Bool := bit (s.member g m) 15

/-- Slot `m` names a remote axis. -/
def State.isRemote (s : State) (g m : Nat) : Bool := s.inUse g m && bit (s.member g m) 14

/-- The axis of slot `m`. -/
def State.memberAxis (s : State) (g m : Nat) : Nat := field (s.member g m) 0 5

/-- The slots in use of a group. -/
def State.members (s : State) (g : Nat) : List Nat := (upto 8).filter (s.inUse g)

/-- The group and slot of local axis `n`. -/
def State.groupOf (s : State) (n : Nat) : Option (Nat × Nat) :=
  (upto 16).findSome? fun g =>
    ((s.members g).find? fun m => !s.isRemote g m && s.memberAxis g m == n).map fun m => (g, m)

/-- A dictionary value of a member's axis: this device's for a local member, the twin's mirrored one for a remote
member (R283). -/
def State.memberVal (s : State) (g m : Nat) (o : Nat → Obj) : Int :=
  let a := o (s.memberAxis g m)
  if s.isRemote g m then s.twin.remote.getD a.key a.dflt else s.v a

/-- The setpoint of a member. -/
def State.memberSetpoint (s : State) (g m : Nat) : Int :=
  if s.isRemote g m then s.twin.remote.getD (Obj.pgSetpoint (s.memberAxis g m)).key 0
  else (s.gen (s.memberAxis g m)).setpoint

/-- The target of a member. -/
def State.memberTarget (s : State) (g m : Nat) : Int :=
  if s.isRemote g m then s.twin.remote.getD (Obj.pgTargetNow (s.memberAxis g m)).key 0
  else (s.gen (s.memberAxis g m)).tgt

/-- A lost member (R282), as last found. -/
def State.memberLost (s : State) (g m : Nat) : Bool := bit ((s.group g).lost : Int) m

/-- The conditions under which the generator of axis `n` tracks (R270, R275), the loss of a group member among them
(R282). -/
def State.mustTrack (s : State) (n : Nat) : Bool :=
  s.trackCase n ||
    match s.groupOf n with
    | some (g, m) => s.memberLost g m
    | none => false

-- generator requests

/-- The direction of a move from the present PA to target `v` (R267). -/
def Gen.dirTo (g : Gen) (v : Int) : Int := if signed64 (v * 2 ^ 32 - g.pa) < 0 then -1 else 1

/-- A move of the generator alone to `v` (R269). -/
def Gen.start (g : Gen) (v : Int) : Gen := { g with tgt := v, pend := none, mode := .moving, dir := g.dirTo v }

/-- The generator's axis begins to settle at time `t` (R272). -/
def Gen.settle (g : Gen) (t : Nat) : Gen := { g with mode := .settling, since := t, inGroup := false }

/-- A stop request of a generator that moves alone (R273, R274). -/
def Gen.stop (g : Gen) (quick : Bool) : Gen :=
  match g.mode with
  | .moving => { g with pend := none, mode := .stopping quick }
  | .stopping q => { g with pend := none, mode := .stopping (q || quick) }
  | _ => { g with pend := none }

/-- The generator begins to track (R270, R272). -/
def Gen.track (g : Gen) (t : Nat) (ref : Int) : Gen :=
  if g.tracks then { g with vx := 0, pend := none }
  else
    { g with vx := 0, pend := none, mode := .tracking g.still, since := t, inGroup := false, trackWin := none
             trackRef := if g.still then some ref else none }

/-- Whether latch `v` keeps an axis that tracks within `w` of its reference or of its other latches (R272). -/
def Gen.trackOk (g : Gen) (w v : Int) : Bool :=
  match g.trackRef, g.trackWin with
  | some r, _ => (signed32 (v - r)).natAbs ≤ w
  | none, some (lo, hi) => signed32 (hi - v) ≤ w && signed32 (v - lo) ≤ w
  | none, none => true

/-- The window of the tracking count with latch `v` (R272). -/
def Gen.trackGrow (g : Gen) (v : Int) : Option (Int × Int) :=
  match g.trackRef, g.trackWin with
  | some _, x => x
  | none, some (lo, hi) => some (if signed32 (v - lo) < 0 then v else lo, if 0 < signed32 (v - hi) then v else hi)
  | none, none => some (v, v)

/-- What a latch with measured value `v` does to the generator (R270, R272): while it tracks, PA and T follow and the
tracking standstill is judged; in SETTLING and STANDSTILL a latch outside SS_WINDOW starts the count over. -/
def Gen.latch (g : Gen) (t : Nat) (w v : Int) : Gen :=
  let out := w < (signed32 (v - g.setpoint)).natAbs
  match g.mode with
  | .tracking _ =>
    let g := { g with pa := v * 2 ^ 32, tgt := v, pend := none }
    if g.trackOk w v then { g with trackWin := g.trackGrow v }
    else { g with mode := .tracking false, since := t, trackRef := none, trackWin := some (v, v) }
  | .settling => if out then { g with since := t } else g
  | .standstill => if out then g.settle t else g
  | _ => g

/-- The group of axis `n` if it moves as one (AG_MODE 1 or 2) (R276). -/
def State.jointGroup (s : State) (n : Nat) : Option Nat :=
  match s.groupOf n with
  | some (g, _) => if s.v (Obj.agMode g) == 1 || s.v (Obj.agMode g) == 2 then some g else none
  | none => none

/-- A group has remote members. -/
def State.hasRemote (s : State) (g : Nat) : Bool := (s.members g).any (s.isRemote g)

/-- The first tick of what a group with remote members does from now on (R284). -/
def State.remoteStart (s : State) (g : Nat) : Nat :=
  if s.hasRemote g then (s.now + s.vn (Obj.agRemoteDelay g) * us + us - 1) / us * us else s.now

/-- The distances of a group move by member slot. -/
def GMove.dist (m : GMove) : List (Nat × Int) := (upto 8).zip m.d

/-- A value of a list by slot. -/
def slotVal (l : List Int) (m : Nat) : Int := l.getD m 0

/-- The least of `f m * |D_L| / |D_m|` over the members that move, rounded down (R277, R278). -/
def State.scaled (s : State) (g : Nat) (o : Nat → Obj) (dl : Int) (d : List (Nat × Int)) : Int :=
  let l := (d.filter fun p => p.2 != 0).map fun p => s.memberVal g p.1 o * dl.natAbs / (p.2.natAbs : Int)
  l.foldl min (l.headD 0)

/-- Slot `m` takes part in the running group move: a member that left it by tracking or by its loss does not (R278,
R282). -/
def State.inMove (s : State) (g m : Nat) : Bool :=
  s.inUse g m && if s.isRemote g m then !s.memberLost g m else (s.gen (s.memberAxis g m)).inGroup

/-- The distances of the members that take part in a move (R278). -/
def State.moveDist (s : State) (g : Nat) (m : GMove) : List (Nat × Int) := m.dist.filter fun p => s.inMove g p.1

/-- VM, ACC and DEC of a group move at this tick (R277). -/
def State.moveLimits (s : State) (g : Nat) (m : GMove) : Int × Int × Int :=
  match m.given with
  | some x => x
  | none =>
    let d := s.moveDist g m
    (s.scaled g Obj.pgVmax m.ld d * 2 ^ 16, s.scaled g Obj.pgAcc m.ld d, s.scaled g Obj.pgDec m.ld d)

/-- The deceleration of a stop of a group move (R278); where no member has a way to go, that of the path. -/
def State.stopLimit (s : State) (g : Nat) (m : GMove) (x : GStop) : Int :=
  match x.dec with
  | some d => d
  | none =>
    let d := s.scaled g (if x.quick then Obj.pgQsDec else Obj.pgDec) m.ld (s.moveDist g m)
    if d = 0 then (s.moveLimits g m).2.2 else d

/-- The stop that acts on a group move at time `t`: the newest request whose first tick has come (R274, R284). -/
def GMove.stopAt (m : GMove) (t : Nat) : Option GStop := m.stops.find? fun x => x.start ≤ t

/-- The description of a group's move, or of a stop of it, goes to the twin (R285); a lost member is not listed. -/
def State.describe (s : State) (g : Nat) (m : GMove) (start : Nat) (stop : Option GStop) : State :=
  if s.hasRemote g then
    let l := s.moveLimits g m
    s.send (.move
      { group := g, start := start, s := m.s, d := m.d, lead := m.lead, vx := m.vx, vm := l.1, acc := l.2.1, dec := l.2.2
        axes := (upto 8).map fun k => if s.isRemote g k && s.inMove g k then some (s.memberAxis g k) else none
        stop := match stop with
          | some x => s.stopLimit g m x
          | none => 0 })
  else s

/-- A stop of a group move: its pending slots are cleared, and a running move brakes along its path (R273, R278, R284); a
STOP does not replace a QUICK_STOP (R274). -/
def State.stopGroup (s : State) (g : Nat) (quick : Bool) : State :=
  let s := s.updGroup g fun x => { x with pend := [], pendTotal := none, stopReq := some (s.now, quick) }
  let s := forEach (s.members g) s fun s m =>
    if s.isRemote g m then s else s.updGen (s.memberAxis g m) fun x => { x with pend := none }
  match (s.group g).move with
  | none => s
  | some m =>
    let keep := match m.stops with
      | x :: _ => x.quick || !quick
      | [] => false
    if keep then s
    else
      let x : GStop := { quick := quick, start := s.remoteStart g }
      (s.updGroup g fun y => { y with move := some { m with stops := x :: m.stops } }).describe g m x.start (some x)

/-- The lead of a list of distances (R277): the member with the largest |D|, ties to the lowest axis number. -/
def leadOf (axis : Nat → Nat) (d : List (Nat × Int)) : Option (Nat × Int) :=
  d.foldl (fun b p =>
    match b with
    | none => some p
    | some q =>
      if q.2.natAbs < p.2.natAbs || (q.2.natAbs == p.2.natAbs && axis p.1 < axis q.1) then some p else b) none

/-- PA of slot `m` when the lead of the move has gone the way `q` (R277). -/
def GMove.paOf (x : GMove) (m : Nat) (q : Int) : Int :=
  signed64 (slotVal x.s m * 2 ^ 32 + divRound (q * slotVal x.d m) x.ld)

/-- The way that the lead has gone (R277). -/
def GMove.way (x : GMove) : Int := signed64 (x.pa - x.ls * 2 ^ 32)

/-- The move with slot `m` as its lead, at the same point of the same path (R278). -/
def GMove.ledBy (x : GMove) (m : Nat) : GMove :=
  if x.lead = m then x
  else
    { x with lead := m, ls := slotVal x.s m, ld := slotVal x.d m, pa := x.paOf m x.way
             vx := divRound (x.vx * slotVal x.d m) x.ld }

/-- The end of a group move: no lead. -/
def State.endGroup (s : State) (g : Nat) : State :=
  (s.updGroup g fun x => { x with move := none }).setR (Obj.agLead g) 255

/-- A running move goes on with the members that are still part of it: the path is computed without the others (R278).
The members of a move in which none is left that has a way to go settle where they stand. -/
def State.releadGroup (s : State) (g : Nat) : State :=
  match (s.group g).move with
  | none => s
  | some x =>
    if x.given.isSome then
      if x.lead == 255 || s.inMove g x.lead then s
      else (s.updGroup g fun y => { y with move := some { x with lead := 255 } }).setR (Obj.agLead g) 255
    else match leadOf (s.memberAxis g) ((s.moveDist g x).filter fun p => p.2 != 0) with
      | some (m, _) => (s.updGroup g fun y => { y with move := some (x.ledBy m) }).setR (Obj.agLead g) m
      | none =>
        let s := forEach ((s.members g).filter fun m => !s.isRemote g m && s.inMove g m) s fun s m =>
          s.updGen (s.memberAxis g m) fun a => { a.settle s.now with vx := 0 }
        s.endGroup g

/-- A stop of axis `n` (R273), of its whole group move where the group moves as one (R276). A member of a remote follower
leaves the twin's path and brakes alone: log entry 130 (DEDUCED). -/
def State.stopAxis (s : State) (n : Nat) (quick : Bool) : State :=
  match s.jointGroup n with
  | some g => s.stopGroup g quick
  | none =>
    let s := s.updGen n fun x => { x.stop quick with inGroup := false, stopReq := some (s.now, quick) }
    match s.groupOf n with
    | some (g, _) => s.releadGroup g
    | none => s

/-- A stop of the whole group (R290): of its group move or, where the members move alone, of each member (R276). -/
def State.stopAll (s : State) (g : Nat) (quick : Bool) : State :=
  if s.v (Obj.agMode g) = 0 then
    forEach ((s.members g).filter fun m => !s.isRemote g m) s fun s m => s.stopAxis (s.memberAxis g m) quick
  else s.stopGroup g quick

/-- A target that takes effect at the instant of a stop request is applied first, and the stop then clears or brakes it
(R274). -/
def State.restop (s : State) (n : Nat) : State :=
  match (match s.jointGroup n with
    | some g => (s.group g).stopReq
    | none => (s.gen n).stopReq) with
  | some (t, q) => if t = s.now then s.stopAxis n q else s
  | none => s

/-- A total force that takes effect at the instant of a stop request of the group (R274). -/
def State.restopGroup (s : State) (g : Nat) : State :=
  match (s.group g).stopReq with
  | some (t, q) => if t = s.now then s.stopGroup g q else s
  | none => s

/-- Axis `n` begins to track (R270): its pending slots are empty, and it leaves its group's move; in mode 1 the rest
quick-stops (R278). -/
def State.beginTrack (s : State) (n : Nat) : State :=
  let was := (s.gen n).inGroup
  let ref := if s.isForceAxis n then (s.axis n).forceLatch else s.v (Obj.latchPos n)
  let s := s.updGen n fun x => x.track s.now ref
  match s.groupOf n with
  | some (g, m) =>
    let s := s.updGroup g fun x => { x with pend := x.pend.erase m }
    if was then
      let s := s.releadGroup g
      if s.v (Obj.agMode g) == 1 then s.stopGroup g true else s
    else s
  | none => s

-- reactions

/-- Causes of reactions beside the bits of R219. -/
def causeOvercurrent : Nat := 3

/-- Gate-driver fault (R261). -/
def causeGateDriver : Nat := 4

/-- Safe input at VALUE 0 (R420). -/
def causeSafeInput : Nat := 5

/-- Permit readback fault (R428). -/
def causePermit : Nat := 6

/-- A cause with its code in the list of causes, with the higher code where it stands already. -/
def addCause (l : List (Nat × Nat)) (cause code : Nat) : List (Nat × Nat) :=
  if l.any fun p => p.1 == cause then l.map fun p => if p.1 == cause then (cause, max p.2 code) else p
  else (cause, code) :: l

/-- A reaction with `code` is requested on axis `n` for a cause (R215): the cause is recorded, and a higher code
replaces the active reaction and acts. -/
def State.react (s : State) (n cause code : Nat) : State :=
  let s := if cause < 3 then s.bitR (Obj.axFaultCause n) cause true else s
  let s := s.updAxis n fun a => { a with causes := addCause a.causes cause code }
  if s.vn (Obj.axReaction n) < code then
    let s := s.setR (Obj.axReaction n) code
    match code with
    | 1 => s.stopAxis n false
    | 2 => s.stopAxis n true
    | _ => s.beginTrack n
  else s

/-- AX_REACTION of an axis. -/
def State.reaction (s : State) (n : Nat) : Nat := s.vn (Obj.axReaction n)

-- group moves

/-- The velocity of slot `m` in a running move. -/
def State.memberVx (s : State) (g m : Nat) : Int :=
  match (s.group g).move with
  | some x => if x.ld = 0 then 0 else divRound (x.vx * slotVal x.d m) x.ld
  | none => if s.isRemote g m then 0 else (s.gen (s.memberAxis g m)).vx

/-- A member takes part in new group moves: it is not lost and does not track (R278, R282). -/
def State.mayMove (s : State) (g m : Nat) : Bool :=
  s.inUse g m && !s.memberLost g m && (s.isRemote g m || !(s.gen (s.memberAxis g m)).tracks)

/-- A group move of group `g` to the targets given by slot; members without one keep their targets (R277). The lead of a
retargeted group keeps its speed where it moves in its new direction (R282). With a remote member the move starts after
AG_REMOTE_DELAY, and the twin receives its description (R284, R285). -/
def State.startGroup (s : State) (g : Nat) (tgt : List (Nat × Int)) : State :=
  let act := (s.members g).filter (s.mayMove g)
  let new := fun m => match tgt.find? fun p => p.1 == m with
    | some p => p.2
    | none => s.memberTarget g m
  let s0 := (upto 8).map fun m => if act.contains m then s.memberSetpoint g m else 0
  let d0 := (upto 8).map fun m => if act.contains m then signed32 (new m - s.memberSetpoint g m) else 0
  let ds := (upto 8).zip d0
  match leadOf (s.memberAxis g) (ds.filter fun p => act.contains p.1) with
  | none => s
  | some (lead, dl) =>
    let v := s.memberVx g lead
    let v := if 0 < v * sgn dl then v else 0
    let s := forEach act s fun s m =>
      if s.isRemote g m then s else s.updGen (s.memberAxis g m) fun x => { x with tgt := new m, pend := none }
    if dl = 0 then
      let s := forEach act s fun s m =>
        if s.isRemote g m || !(s.gen (s.memberAxis g m)).inGroup then s
        else s.updGen (s.memberAxis g m) fun x => { x.settle s.now with pa := slotVal s0 m * 2 ^ 32, vx := 0 }
      if (s.group g).move.isSome then (s.updGroup g fun x => { x with move := none }).setR (Obj.agLead g) 255 else s
    else
      let at_ := s.remoteStart g
      let mv : GMove :=
        { lead := lead, s := s0, d := d0, ls := slotVal s0 lead, ld := dl, pa := slotVal s0 lead * 2 ^ 32, vx := v, start := at_ }
      let s := s.updGroup g fun x => { x with move := some mv }
      let s := s.setR (Obj.agLead g) lead
      let s := forEach act s fun s m =>
        if s.isRemote g m then s
        else s.updGen (s.memberAxis g m) fun x =>
          { x with mode := .moving, inGroup := true, dir := if slotVal d0 m < 0 then -1 else 1 }
      s.describe g mv at_ none

/-- PG_STATUS of a remote member, as the twin mirrors it (R283, R289). -/
def State.remoteStatus (s : State) (g m : Nat) : Int := s.memberVal g m Obj.pgStatus

/-- Slot `m` is MOVING, stopping or SETTLING (R269, R277). -/
def State.memberBusy (s : State) (g m : Nat) : Bool :=
  if s.isRemote g m then
    bit (s.remoteStatus g m) 0 || bit (s.remoteStatus g m) 1 || bit (s.remoteStatus g m) 5
  else
    let x := s.gen (s.memberAxis g m)
    x.moves || x.mode == .settling

/-- Whether a group move runs or any member that is not lost is MOVING or SETTLING (R277). -/
def State.groupBusy (s : State) (g : Nat) : Bool :=
  (s.group g).move.isSome || (s.members g).any fun m => !s.memberLost g m && s.memberBusy g m

/-- A new target of axis `n` (R269), alone or through its interpolating group (R277). -/
def State.setTarget (s : State) (n : Nat) (v : Int) : State :=
  let one := fun (s : State) => s.updGen n fun x =>
    match x.mode with
    | .tracking _ => x
    | .standstill => if v = x.tgt then x else x.start v
    | _ => if v = x.tgt then { x with pend := none } else { x with pend := some v }
  match s.groupOf n with
  | some (g, m) =>
    if s.v (Obj.agMode g) == 1 then
      if s.groupBusy g then
        let s := s.updGroup g fun x => { x with pend := x.pend.put m none (if v = (s.gen n).tgt then none else some v) }
        s.updGen n fun x => { x with pend := if v = x.tgt then none else some v }
      else s.updGroup g fun x => { x with pend := x.pend.put m none (if v = (s.gen n).tgt then none else some v) }
    else one s
  | none => one s

/-- The pending targets of an idle interpolating group form one group move (R277). -/
def State.launchGroup (s : State) (g : Nat) : State :=
  if s.v (Obj.agMode g) == 1 && !s.groupBusy g && !(s.group g).pend.isEmpty then
    let tg := (s.group g).pend.filterMap fun p => p.2.map fun v => (p.1, v)
    (s.updGroup g fun x => { x with pend := [] }).startGroup g tg
  else s

/-- The generator starts as it does on leaving tracking (R270): at first use of the axis's tasks and after a wake. -/
def State.genRestart (s : State) (n : Nat) : State :=
  let v := if s.isForceAxis n then (s.axis n).forceLatch else s.v (Obj.latchPos n)
  if (s.gen n).tracks then s
  else
    let s := s.updGen n fun x => { x.settle s.now with pa := v * 2 ^ 32, vx := 0, tgt := v, pend := none }
    match s.groupOf n with
    | some (g, m) => (s.updGroup g fun x => { x with pend := x.pend.erase m }).releadGroup g
    | none => s

/-- A task's first use, with the start of its axis's generator (R208, R270). -/
def State.startTask (s : State) (k : Nat) : State :=
  match s.taskAxis k with
  | some n => (s.firstUse k).genRestart n
  | none => s.firstUse k

end Sys2Proof.Machine
end

