-- ==== Sys2Proof/Machine/Permits.lean ====
section
/-! DEFINITION. The permits EN and ARM (R253 to R256), what falls with their conditions, and the frame in which every
command runs. -/

namespace Sys2Proof.Machine

/-- INIT_OK of a slot's gate driver (R253 condition 5, R263). -/
def State.initOk (s : State) (c : Ch) (k : Nat) : Bool := s.isBitC c (Obj.gdStatus c k) 0

/-- The phase converters of a slot have been calibrated (R523). -/
def State.phasesCalibrated (s : State) (c : Ch) (k : Nat) : Bool :=
  (upto 3).all fun i => (s.conv c (3 * k + i)).calibrated

/-- The reaction of the axis bound to a slot is below code 3 (R253 condition 3, R254 condition 4). -/
def State.slotReactionOk (s : State) (c : Ch) (k : Nat) : Bool :=
  match s.axisOf c k with
  | some n => s.reaction n < 3
  | none => true

/-- OC_TRIPPED of the axis bound to a slot is clear, as the slot's owner holds it (R250, R253 condition 8). -/
def State.slotNotTripped (s : State) (c : Ch) (k : Nat) : Bool :=
  match s.axisOf c k with
  | some n => !(s.axis n).ocTripped.get c
  | none => true

/-- The IO domain of a channel runs and its bank has its supply: in RETAIN, PARK and OFF, and without VDDIO, its outputs
float and its inputs are not sampled (R36). -/
def State.ioLive (s : State) (c : Ch) : Bool := s.power.io && !bit (s.safe.rails.get c : Int) 1

/-- The conditions of R253 but for condition 2: EN falls at once when one of them ends. An engine halted in a debug
split also keeps EN low (R319), and so does a domain without power (R36). -/
def State.enHolds (s : State) (c : Ch) (k : Nat) : Bool :=
  s.ioLive c && 10 ≤ s.vn (Obj.suStep c) && s.slotReactionOk c k && !s.red.faulty.get c && s.red.state != .passive &&
    s.initOk c k && !s.isBit (Obj.opFaultMap c) k && (s.arm c.before k).reported && s.slotNotTripped c k &&
    s.red.halted.get c == 0

/-- Condition 2 of R253: the slot is in use and its axis asks for EN. -/
def State.enAsked (s : State) (c : Ch) (k : Nat) : Bool :=
  s.g c (Obj.bsMode c k) == 1 &&
    match s.axisOf c k with
    | some n => s.v (Obj.axTorqueEnable n) == 1
    | none => false

/-- The conditions of R254 for ARMk of channel `y`; a latched readback fault also keeps it low (R428). -/
def State.armHolds (s : State) (y : Ch) (k : Nat) : Bool :=
  s.ioLive y && 9 ≤ s.vn (Obj.suStep y) && s.g y.next (Obj.bsMode y.next k) == 1 && !s.red.faulty.get y.next &&
    s.slotReactionOk y.next k && s.red.state != .passive && !s.isBit (Obj.opFaultMap y) (4 + k)

/-- What a slot keeps of EN (R253, R255). -/
def State.slotAfter (s : State) (c : Ch) (k : Nat) (x : Slot) : Slot :=
  if x.en && !s.enHolds c k then { x with en := false, enrb := false } else x

/-- An ARM output falls (R254 to R256). -/
def Arm.fall (x : Arm) : Arm := { x with out := false, rb := false, rbHigh := none, qualified := false }

/-- What an ARM output keeps of its level (R254 to R256): a held one falls only in reset, with PASSIVE, and when its channel
loses VDDIO or its domain is off. -/
def State.armAfter (s : State) (y : Ch) (k : Nat) (x : Arm) : Arm :=
  if x.out then
    if x.held then
      if s.red.state == .passive || !s.ioLive y then { x.fall with fallen := true } else x
    else if s.armHolds y k then x else x.fall
  else x

/-- Every value of a table changed by its key; a value that becomes the default `d` is no longer listed. -/
def Tbl.mapVals {α : Type} [DecidableEq α] (t : Tbl α) (d : α) (f : Nat → α → α) : Tbl α :=
  match t with
  | [] => []
  | (k, v) :: r => if f k v = d then (Tbl.mapVals r d f).erase k else (k, f k v) :: Tbl.mapVals r d f

/-- The output of a permit test is demanded high: EN k is number k, ARM k is number 4 + k (R424). -/
def State.demanded (s : State) (c : Ch) (j : Nat) : Bool := if j < 4 then (s.slot c j).en else (s.arm c (j - 4)).out

/-- The test state of an output whose demand has ended (R426, R427). -/
def State.testAfter (s : State) (c : Ch) (j : Nat) (x : PermitTest) : PermitTest :=
  if x.highSince.isSome && !s.demanded c j then { x with highSince := none, changed := s.now, after := none } else x

/-- `s` with the test states of the outputs that have fallen. -/
def State.noteFalls (s : State) : State :=
  { s with tests := ⟨s.tests.a.mapVals {} (s.testAfter .chA), s.tests.b.mapVals {} (s.testAfter .chB),
      s.tests.c.mapVals {} (s.testAfter .chC)⟩ }

/-- `s` with every permit whose conditions have ended low (R253 to R256). -/
def State.dropPermits (s : State) : State :=
  State.noteFalls { s with
    slots := ⟨s.slots.a.mapVals {} (s.slotAfter .chA), s.slots.b.mapVals {} (s.slotAfter .chB),
      s.slots.c.mapVals {} (s.slotAfter .chC)⟩
    arms := ⟨s.arms.a.mapVals {} (s.armAfter .chA), s.arms.b.mapVals {} (s.armAfter .chB),
      s.arms.c.mapVals {} (s.armAfter .chC)⟩ }

/-- The generator of axis `n` has a reason to track, with the permits as they are about to fall (R270). -/
def State.mustTrackNow (s : State) (n : Nat) : Bool :=
  s.mustTrack n ||
    match s.bridgeOf n with
    | some (c, k) => !s.enHolds c k
    | none => false

/-- Generators whose tracking begins (R270). -/
def State.beginTracking (s : State) : State :=
  forEach (s.gens.map (·.1)) s fun s n => if !(s.gen n).tracks && s.mustTrackNow n then s.beginTrack n else s

/-- The entries of a compare list that are behind, armed again (R176): all of them where `dir` is none, else those that
were behind in a move of the other direction. -/
def State.armEntries (s : State) (c : Ch) (n : Nat) (dir : Option Int) : State :=
  let l := (s.fport c n).behindDir.filter fun p => decide (p.1 < 16) && match dir with
    | none => true
    | some d => p.2 == -d
  let s := forEach l s fun s p => s.bitC c (Obj.cmpControl c n p.1) 3 false
  s.updFport c n fun x => { x with behindDir := l.foldl (fun b p => b.erase p.1) x.behindDir }

/-- Compare entries that were behind are armed when the bound axis is at standstill or moves the other way (R176). -/
def State.syncBehind (s : State) : State :=
  forEach (upto 32) s fun s n =>
    match s.sourceOf n with
    | some (.port, c, p) =>
      if (s.fport c p).behindDir.isEmpty then s
      else if (s.gen n).still then s.armEntries c p none
      else if (s.gen n).moves then s.armEntries c p (some (s.gen n).dir)
      else s
    | _ => s

/-- What follows every command at once: generators begin to track, compare entries are armed, permits fall. -/
def State.follow (s : State) : State := s.beginTracking.syncBehind.dropPermits

/-- PASSIVE is left only at power-on (R310). -/
def State.latchPassive (s s' : State) : State :=
  { s' with red := { s'.red with state := if s.red.state = .passive then .passive else s'.red.state } }

/-- What a command at time `t` leaves when its effect gives `s'`: the consequences follow, time has moved on, and the queue
of waiting commands is not the command's to change. -/
def State.after (s : State) (t : Nat) (s' : State) : State :=
  { (s.latchPassive s').follow with now := max s.now t, pending := s.pending }

/-- A command at time `t` with effect `f`: time moves on, the effect acts, its consequences follow. -/
def State.run (s : State) (t : Nat) (f : State → State) : Res := .next (s.after t (f (s.upTo t)))

/-- A release of PORST_N (R29, R310, R518): as `run`, but PASSIVE may end, and device time is what the release leaves. -/
def State.runPowerOn (s : State) (t : Nat) (f : State → State) : Res :=
  .next { (f (s.upTo t)).follow with pending := s.pending }

/-- An effect that happens only at an instant that the spec defines; elsewhere only the time moves (log entry 10). -/
def State.runIf (s : State) (t : Nat) (b : Bool) (f : State → State) : Res := s.run t fun s => if b then f s else s

/-- A channel's ARM outputs are held at their levels when it declares itself faulty (R256). -/
def State.holdArms (s : State) (c : Ch) : State :=
  forEach (upto 4) s fun s k => s.updArm c k fun x => { x with held := true }

end Sys2Proof.Machine
end

