-- ==== Sys2Proof/Machine/Planner.lean ====
section
/-! DEFINITION. Watershed: costs, fit, scores, the planner's loop, the objects' classes and the fallback table (R193,
R331 to R343, R347, R351). -/

namespace Sys2Proof.Machine

-- costs and deadlines

/-- CLK_CE in MHz at a performance level (R23, R468). -/
def ceMHz (pl : Nat) : Nat := if pl = 3 then 600 else if pl = 2 then 480 else if pl = 1 then 400 else 200

/-- Cycles of both passes by task type (R193, R199). -/
def taskCycles (ty : Nat) : Nat :=
  match ty with
  | 1 => 96
  | 2 => 320
  | 3 => 112
  | 4 => 128
  | 5 => 80
  | 6 => 48
  | _ => 0

/-- State-memory footprint in bytes (R193). -/
def taskBytes (ty : Nat) : Nat :=
  match ty with
  | 1 => 128
  | 2 => 384
  | 3 => 128
  | 4 => 128
  | 5 => 64
  | 6 => 32
  | _ => 0

/-- `a / b` rounded upward. -/
def ceilDiv (a b : Nat) : Nat := (a + b - 1) / b

/-- C of R341 in ns, with the 12 cycles of the largest trace overhead. -/
def taskCost (ty mhz : Nat) : Nat := ceilDiv ((taskCycles ty + 12) * 1000) mhz

/-- TASK_TYPE of a task. -/
def State.taskTy (s : State) (k : Nat) : Nat := s.vn (Obj.taskType k)

/-- A dq pair (R199). -/
def State.isDq (s : State) (k : Nat) : Bool := s.taskTy k == 2

/-- The slot of a dq pair: the slot bound to its axis (R240). -/
def State.dqSlot (s : State) (k : Nat) : Option (Ch × Nat) :=
  match s.taskAxis k with
  | some n => s.bridgeOf n
  | none => none

/-- The converters bound to slot `k` of a channel, enabled or not (R131, R149, R331). -/
def State.boundConverters (s : State) (c : Ch) (k : Nat) : List Nat := (upto 20).filter fun n => s.g c (Obj.cvSlotBind c n) == k

/-- The delivery time of a converter after the sampling instant, in ns rounded upward (R129, R331). -/
def State.delivery (s : State) (c : Ch) (n : Nat) : Nat :=
  let nm := s.gn c (Obj.sincOrder c n) * s.gn c (Obj.decimRatio c n)
  if s.g c (Obj.windowAlign c n) == 1 then ceilDiv (nm * 20) 3 else ceilDiv (nm * 40) 3

/-- Three times the task's period in ns (R331): thirds of a nanosecond are exact for a PWM period. -/
def State.period3 (s : State) (k : Nat) : Nat :=
  if s.isDq k then
    match s.dqSlot k with
    | some (c, b) => 20 * s.gn c (Obj.pwmTop c b)
    | none => 0
  else 3000 * s.vn (Obj.taskPeriod k)

/-- D of R331 in ns; a dq pair whose sensing leaves no time has 0. -/
def State.deadline (s : State) (k : Nat) : Nat :=
  if s.isDq k then
    match s.dqSlot k with
    | some (c, b) =>
      let dl := (s.boundConverters c b).foldl (fun m n => max m (s.delivery c n)) 0
      10 * s.gn c (Obj.ckptOffset c b) - (dl + 14 + 600)
    | none => 0
  else
    let d := s.vn (Obj.taskDeadline k)
    1000 * (if d = 0 then s.vn (Obj.taskPeriod k) else d)

/-- What the fit test needs of a task on an engine (R341). -/
structure Load where
  task : Nat
  cost : Nat
  /-- in 0.01 % -/
  util : Nat
  per3 : Nat
  dead : Nat
  bytes : Nat
deriving DecidableEq, Repr, Inhabited

/-- The load of a task on an engine at the given clock (R341). -/
def State.load (s : State) (mhz k : Nat) : Load :=
  let c := taskCost (s.taskTy k) mhz
  let p := s.period3 k
  ⟨k, c, if p = 0 then 1000000 else ceilDiv (3 * c * 10000) p, p, s.deadline k, taskBytes (s.taskTy k)⟩

/-- Σ ceil(D / P_i) · C_i over a set (R341). -/
def demand (d : Nat) (l : List Load) : Nat :=
  l.foldl (fun a x => a + (if x.per3 = 0 then 0 else ceilDiv (3 * d) x.per3) * x.cost) 0

/-- The fit test of R341 with cap `k` and `extra` bytes of engine-state objects. -/
def fits (k extra : Nat) (l : List Load) : Bool :=
  (l.foldl (fun a x => a + x.util) 0 ≤ k) &&
    (l.foldl (fun a x => a + x.bytes) extra ≤ 65536) &&
      l.all fun j =>
        let b := l.foldl (fun m x => if x.task = j.task then m else max m x.cost) 0
        b + demand j.dead l ≤ j.dead

-- scores

/-- 255 less the penalties, not below 0 (R338). -/
def score (penalty : Nat) : Nat := 255 - penalty

/-- The lasting penalties of engine `e` (16 = the channel) of channel `c`. -/
def State.pen (s : State) (c : Ch) (e : Nat) : Penalty := (s.place.pens.get c).getD e {}

/-- The score of an engine (R338). -/
def State.engineScore (s : State) (c : Ch) (e : Nat) : Nat := score ((s.pen c e).decaying + (s.pen c e).permanent)

/-- A cross-strap link of channel `c` has failed. -/
def State.linksDown (s : State) (c : Ch) : Nat :=
  match c with
  | .chA => b2n s.arch.linkFail.a + b2n s.arch.linkFail.c
  | .chB => b2n s.arch.linkFail.a + b2n s.arch.linkFail.b
  | .chC => b2n s.arch.linkFail.b + b2n s.arch.linkFail.c

/-- Number of a list's members that satisfy `p`. -/
def count {α : Type} (l : List α) (p : α → Bool) : Nat := (l.filter p).length

/-- A TEMP source of the channel reads above 140 °C (R140): sources 4 to 6 of either diagnostic converter, and code
26,214.4 · 0.784 = 20,552.09 at 140 °C. -/
def State.hot (s : State) (c : Ch) : Bool :=
  (upto 2).any fun k => (upto 3).any fun i => 20552 < s.g c (Obj.diagSrcCode c k (4 + i))

/-- The held penalties of a channel (R338). -/
def State.heldPenalty (s : State) (c : Ch) : Nat :=
  64 * count (upto 5) (fun m => (s.grp c m).grpf) + 48 * s.linksDown c +
    24 * (count (upto 8) (fun n => s.isBitC c (Obj.fpStatus c n) 6) + count (upto 3) fun k => s.isBitC c (Obj.resStatus c k) 6) +
      8 * count (upto 3) (fun k => s.isBitC c (Obj.resStatus c k) 2) + 32 * b2n (s.hot c)

/-- The score of a channel (R338). -/
def State.channelScore (s : State) (c : Ch) : Nat :=
  score ((s.pen c 16).decaying + (s.pen c 16).permanent + s.heldPenalty c)

/-- DEVICE_SCORE (R339). -/
def State.deviceScore (s : State) : Nat :=
  let low := s.voters.foldl (fun m c => min m (s.channelScore c)) 255
  match s.red.state with
  | .nominal => low
  | .dual => min low 160
  | .single => min low 64
  | _ => 0

/-- TWIN_SCORE (R339, R411). -/
def State.twinScore (s : State) : Nat :=
  if s.twinThere then (match s.twin.report with | some r => r.score | none => 0) else 0

/-- TWIN_SPARE (R411). -/
def State.twinSpare (s : State) : Nat :=
  if s.twinThere then (match s.twin.report with | some r => r.spare | none => 0) else 0

-- planning

/-- What a planning run is given beside the state: clocks in MHz, all scores taken as 255 (R352), engines under test
counted as available (R343). -/
structure PlanIn where
  mhz : Trio Nat
  fresh : Bool
  withTest : Bool
deriving DecidableEq, Repr, Inhabited

/-- The clocks in force. -/
def State.clocks (s : State) : Trio Nat := ⟨ceMHz (s.vn (Obj.plNow .chA)), ceMHz (s.vn (Obj.plNow .chB)), ceMHz (s.vn (Obj.plNow .chC))⟩

/-- A plan in the making: the assignments (task, engine) per channel, the owners, the tasks on the twin. -/
structure Draft where
  asg : Trio (List (Nat × Nat)) := Trio.all []
  owner : Tbl Nat := []
  twin : List Nat := []
  unplaced : List Nat := []
  broken : List Nat := []
deriving DecidableEq, Repr, Inhabited

/-- The engine of a task in a channel of a draft. -/
def Draft.engine (d : Draft) (c : Ch) (k : Nat) : Option Nat := ((d.asg.get c).find? fun p => p.1 == k).map (·.2)

/-- The tasks on an engine of a draft. -/
def Draft.on (d : Draft) (c : Ch) (e : Nat) : List Nat := ((d.asg.get c).filter fun p => p.2 == e).map (·.1)

/-- An engine is under test or being emptied (R353). -/
def State.inTest (s : State) (c : Ch) (e : Nat) : Bool :=
  s.place.emptying.get c == some e || s.place.testing.get c == some e

/-- The channels that the planner uses: V, and STARTUP's reading set for the static plan (R302, R343). -/
def State.planChannels (s : State) : List Ch := s.voters.filter fun c => !s.red.inDebug.get c

/-- An engine is available (R343). -/
def State.available (s : State) (i : PlanIn) (c : Ch) (e : Nat) : Bool :=
  !bit (s.red.engineFault.get c : Int) e && (i.withTest || !s.inTest c e) && s.planChannels.contains c

/-- A task of an axis in SPLIT (R314); during a hand-over each task changes at a checkpoint of its own (R316, R317). -/
def State.isSplit (s : State) (k : Nat) : Bool :=
  match s.taskAxis k with
  | some n =>
    match (s.axis n).handover with
    | 1 => (s.task k).ho == 5
    | 2 => (s.task k).ho != 5
    | _ => (s.axis n).split
  | none => false

/-- TASK_PIN mode (R334). -/
def State.pinMode (s : State) (k : Nat) : Nat := field (s.v (Obj.taskPin k)) 14 2

/-- The channel that TASK_PIN names. -/
def State.pinCh (s : State) (k : Nat) : Ch := chOf (field (s.v (Obj.taskPin k)) 8 2)

/-- The engine that TASK_PIN names. -/
def State.pinEngine (s : State) (k : Nat) : Nat := field (s.v (Obj.taskPin k)) 0 4

/-- MOVE_MIN_PERIOD in µs at the lowest performance level in V (R342). -/
def State.moveMin (s : State) : Nat :=
  let low := s.voters.foldl (fun m c => min m (s.vn (Obj.plNow c))) 3
  if low = 3 then 40 else if low = 2 then 45 else if low = 1 then 50 else 80

/-- A fixed-site task (R342). -/
def State.fixedSite (s : State) (k : Nat) : Bool := s.period3 k < 3000 * s.moveMin

/-- A task's present site includes channel `c`. -/
def State.siteIn (s : State) (k : Nat) (c : Ch) : Bool := (s.task k).placed && (s.task k).computed.get c

/-- A task is computed by the twin. -/
def State.onTwin (s : State) (k : Nat) : Bool := (s.task k).placed && (s.task k).owner == 3

/-- The planner's order (R343): dq pairs, then by period, then by number. -/
def State.planOrder (s : State) : List Nat :=
  let l := s.enabledTasks
  let rest := l.filter fun k => !s.isDq k
  l.filter s.isDq ++ rest.mergeSort fun a b => s.period3 a ≤ s.period3 b

/-- The data objects that a task writes or reads (R333). -/
def State.objectsOf (s : State) (k : Nat) : List Nat :=
  let o := s.vn (Obj.taskOut k)
  (if o < 2048 then [o] else []) ++
    ((upto 3).filterMap fun i =>
      let r := s.v (Obj.taskIn k i)
      if field r 28 4 = 1 then some (field r 0 11) else none)

/-- CLASS_ALLOW of an object: bits engine state, SRAM, DRAM, remote (R336). -/
def State.classAllow (s : State) (o : Nat) : Nat := field (s.v (Obj.objDesc o)) 4 4

/-- SIZE of an object in bytes. -/
def State.objSize (s : State) (o : Nat) : Nat := field (s.v (Obj.objDesc o)) 8 16

/-- DICT_REF of an object. -/
def State.dictRef (s : State) (o : Nat) : Nat := field (s.v (Obj.objDesc o)) 40 24

/-- The tasks that name an object as input. -/
def State.readersOf (s : State) (o : Nat) : List Nat :=
  s.enabledTasks.filter fun k => (upto 3).any fun i =>
    let r := s.v (Obj.taskIn k i)
    field r 28 4 == 1 && field r 0 11 == o

/-- The tasks that write an object. -/
def State.writersOf (s : State) (o : Nat) : List Nat := s.enabledTasks.filter fun k => s.vn (Obj.taskOut k) == o

/-- Placing a task on engine `e` of channel `c` leaves each of its objects a class that CLASS_ALLOW permits (R337): an object
that the twin writes or reads is remote, another one is held by this device. -/
def State.classesAllow (s : State) (d : Draft) (c : Ch) (k e : Nat) : Bool :=
  (s.objectsOf k).all fun o =>
    let a : Int := s.classAllow o
    let us := s.writersOf o ++ s.readersOf o
    if s.objSize o = 0 then true
    else if us.any d.twin.contains then bit a 3
    else
      bit a 1 || (bit a 2 && (s.readersOf o).isEmpty) ||
        (bit a 0 && us.all fun j => j == k || match d.engine c j with
          | some f => f == e
          | none => true)

/-- An object that only engine state can hold (R337). -/
def State.engineOnly (s : State) (o : Nat) : Bool :=
  s.dictRef o == 0 && bit (s.classAllow o : Int) 0 && !bit (s.classAllow o : Int) 1 &&
    !(bit (s.classAllow o : Int) 2 && (s.readersOf o).isEmpty)

/-- The bytes of the objects of a set of tasks that only engine state can hold (R337, R341 condition 2). -/
def State.stateBytes (s : State) (ks : List Nat) : Nat :=
  ((ks.flatMap s.objectsOf).eraseDups.filter s.engineOnly).foldl (fun a o => a + s.objSize o) 0

/-- The present set of an engine plus a task fits (R341). -/
def State.fitsOn (s : State) (i : PlanIn) (d : Draft) (cap : Nat) (c : Ch) (e k : Nat) : Bool :=
  let ks := k :: d.on c e
  fits cap (s.stateBytes ks) (ks.map (s.load (i.mhz.get c)))

/-- Utilisation of an engine in a draft (R341). -/
def State.utilOn (s : State) (i : PlanIn) (d : Draft) (c : Ch) (e : Nat) : Nat :=
  (d.on c e).foldl (fun a k => a + (s.load (i.mhz.get c) k).util) 0

/-- A channel's score as the planner takes it (R352). -/
def State.planChScore (s : State) (i : PlanIn) (c : Ch) : Nat := if i.fresh then 255 else s.channelScore c

/-- An engine's score as the planner takes it (R352). -/
def State.planEngScore (s : State) (i : PlanIn) (c : Ch) (e : Nat) : Nat := if i.fresh then 255 else s.engineScore c e

/-- The best of a list under a strict order; the first where none is better. -/
def bestOf {α : Type} (better : α → α → Bool) : List α → Option α
  | [] => none
  | a :: r => some (r.foldl (fun b x => if better x b then x else b) a)

/-- A role task (R390): an enabled task of a twin axis that is not a dq pair. -/
def State.isRole (s : State) (k : Nat) : Bool :=
  !s.isDq k && match s.taskAxis k with
    | some n => s.isBit Obj.twinSteerAxes n || s.isBit Obj.twinBrakeAxes n
    | none => false

/-- The rate of an object in Hz (R337): its writer's task rate, or RATE. -/
def State.objRate (s : State) (o : Nat) : Nat :=
  match s.writersOf o with
  | k :: _ => if s.period3 k = 0 then 0 else 3000000000 / s.period3 k
  | [] => field (s.v (Obj.objDesc o)) 24 16

/-- The bits per second of the remote objects with the tasks `tw` on the twin (R337). -/
def State.remoteLoad (s : State) (tw : List Nat) : Nat :=
  let os := (tw.flatMap s.objectsOf).eraseDups
  os.foldl (fun a o => a + s.objSize o * 8 * s.objRate o) 0

/-- R351 admits a task to the twin beside the tasks already there. -/
def State.twinAdmits (s : State) (d : Draft) (k : Nat) : Bool :=
  s.pinMode k == 0 && !s.isDq k && !s.isRole k && !s.isSplit k && s.v Obj.twinPlaceEnable == 1 && s.twin.paired &&
    128 ≤ s.twinScore && 3000 * s.vn Obj.remoteMinPeriod ≤ s.period3 k &&
      ((s.objectsOf k).all fun o => s.objSize o == 0 || bit (s.classAllow o : Int) 3) &&
        (s.remoteLoad (k :: d.twin) ≤ s.vn Obj.remoteBudget * 1000000) &&
          (((k :: d.twin).foldl (fun a j => a + (s.load 600 j).util) 0) ≤ s.twinSpare)

/-- The channel in which every task of a SPLIT axis is placed (R314): that of the axis's bridge slot, else the one that a draft
has chosen for a task of the axis. -/
def State.splitChannel (s : State) (d : Draft) (k : Nat) : Option Ch :=
  if !s.isSplit k then none
  else match s.dqSlot k with
    | some (c, _) => some c
    | none => (s.enabledTasks.find? fun j => j != k && s.taskAxis j == s.taskAxis k && d.owner.any fun p => p.1 == j).map fun j =>
      chOf (d.owner.getD j 3)

/-- The owner that the planner gives a task (R314, R343); SPLIT comes before a pin (log entry 140). -/
def State.planOwner (s : State) (i : PlanIn) (d : Draft) (k : Nat) : Option Ch :=
  let v := s.planChannels
  let best := bestOf (fun a b => s.planChScore i b < s.planChScore i a) v
  match s.dqSlot k, s.isDq k, (s.splitChannel d k).filter v.contains with
  | some (c, _), true, _ => some c
  | _, _, some c => some c
  | _, _, none =>
    if 2 ≤ s.pinMode k && v.contains (s.pinCh k) then some (s.pinCh k)
    else
      match best with
      | none => none
      | some b =>
        let r := s.task k
        if r.placed && r.owner < 3 && v.contains (chOf r.owner) &&
            s.planChScore i b ≤ s.planChScore i (chOf r.owner) + s.vn Obj.ownerMargin then some (chOf r.owner)
        else some b

/-- The channels that compute a task with the given owner (R292, R314). -/
def State.planComputes (s : State) (k : Nat) (owner : Ch) : List Ch :=
  if s.isSplit k then [owner] else s.planChannels

/-- The engine that the planner picks for a task in a channel (R343). -/
def State.pickEngine (s : State) (i : PlanIn) (d : Draft) (k : Nat) (c : Ch) : Option Nat :=
  let all := (upto 16).filter fun e =>
    s.available i c e && s.vn Obj.engineMinScore ≤ s.planEngScore i c e &&
      s.fitsOn i d (s.vn Obj.utilCap) c e k && s.classesAllow d c k e
  let es := if s.pinMode k == 3 && s.available i c (s.pinEngine k) then all.filter (· == s.pinEngine k) else all
  let r := s.task k
  if s.siteIn k c && es.contains (r.engines.get c) then some (r.engines.get c)
  else
    bestOf (fun a b =>
      let ua := s.utilOn i d c a
      let ub := s.utilOn i d c b
      ua < ub || (ua == ub && (s.planEngScore i c b < s.planEngScore i c a ||
        (s.planEngScore i c a == s.planEngScore i c b && a < b)))) es

/-- A task placed at the given engines. -/
def Draft.put (d : Draft) (k : Nat) (owner : Nat) (l : List (Ch × Nat)) : Draft :=
  { d with
    asg := l.foldl (fun a p => a.upd p.1 fun x => x ++ [(k, p.2)]) d.asg
    owner := d.owner.put k 3 owner }

/-- The present owner of a task that keeps its site, where it still takes part; else the one that the planner gives it. -/
def State.keptOwner (s : State) (k : Nat) (o : Ch) : Ch :=
  if s.planChannels.contains (chOf (s.task k).owner) then chOf (s.task k).owner else o

/-- The task keeps its present engines in every channel that computes it, all of them available (R342, R343). -/
def State.keepsSite (s : State) (i : PlanIn) (k : Nat) (cs : List Ch) : Bool :=
  (s.task k).placed && (s.task k).owner < 3 && !cs.isEmpty &&
    cs.all fun c => s.siteIn k c && s.available i c ((s.task k).engines.get c)

/-- One task of the planner's loop (R343). -/
def State.planTask (s : State) (i : PlanIn) (d : Draft) (k : Nat) : Draft :=
  let lost := !s.planChannels.contains (s.pinCh k) || match s.splitChannel d k with
    | some c => c != s.pinCh k
    | none => false
  let d := if 2 ≤ s.pinMode k && !s.isDq k && lost then { d with broken := d.broken ++ [k] } else d
  match s.planOwner i d k with
  | none => { d with unplaced := d.unplaced ++ [k] }
  | some o =>
    let cs := s.planComputes k o
    let debugOwned := (s.task k).placed && (s.task k).owner < 3 && s.red.inDebug.get (chOf (s.task k).owner)
    if debugOwned then
      let oc := chOf (s.task k).owner
      d.put k oc.num [(oc, (s.task k).engines.get oc)]
    else if !cs.contains o && s.isDq k then { d with unplaced := d.unplaced ++ [k] }
    else if (s.fixedSite k || s.v Obj.planAdapt == 0) && s.keepsSite i k cs then
      d.put k (s.keptOwner k o).num (cs.map fun c => (c, (s.task k).engines.get c))
    else if s.onTwin k && s.twinAdmits d k &&
        (s.v Obj.planAdapt == 0 || !(s.twinScore + s.vn Obj.ownerMargin < s.deviceScore)) then
      { d with twin := d.twin ++ [k] }
    else
      let picks := cs.map fun c => (c, s.pickEngine i d k c)
      let d := if s.pinMode k == 3 && cs.any (fun c => !s.available i c (s.pinEngine k)) && !d.broken.contains k then
          { d with broken := d.broken ++ [k] } else d
      let better := s.deviceScore + s.vn Obj.ownerMargin < s.twinScore
      if picks.all (fun p => p.2.isSome) && !(better && s.twinAdmits d k && !i.fresh) then
        d.put k o.num (picks.filterMap fun p => p.2.map fun e => (p.1, e))
      else if s.twinAdmits d k then { d with twin := d.twin ++ [k] }
      else { d with unplaced := d.unplaced ++ [k] }

/-- The static step for a task (R352): its TASK_STATIC site where the set fits, in every channel that computes it. -/
def State.staticTask (s : State) (i : PlanIn) (d : Draft) (k : Nat) : Draft :=
  let w := s.vn (Obj.taskStatic k)
  if w = 0xFFFF then d
  else
    let o := chOf (field w 8 2)
    let e := field w 0 4
    let cs := s.planComputes k o
    if cs.contains o && cs.all (fun c => s.available i c e && s.fitsOn i d (s.vn Obj.utilCap) c e k) then
      d.put k o.num (cs.map fun c => (c, e))
    else d

/-- Whether a draft already places a task. -/
def Draft.has (d : Draft) (k : Nat) : Bool := (d.owner.any fun p => p.1 == k) || d.twin.contains k

/-- Where the objects placed so far stand (R337): their classes, the bytes of engine state taken by channel and engine, and the
bytes of SRAM taken. -/
structure ObjRoom where
  classes : List (Nat × Nat) := []
  eng : Tbl Nat := []
  sram : Nat := 0
deriving DecidableEq, Repr, Inhabited

/-- The engine that holds an object in channel `c` where its writer and every reader are computed there on one engine. -/
def State.oneEngine (s : State) (d : Draft) (c : Ch) (o : Nat) : Option (Option Nat) :=
  match (s.writersOf o ++ s.readersOf o).filterMap (d.engine c) with
  | [] => some none
  | e :: r => if r.all (· == e) then some (some e) else none

/-- An object fits the state memory of one engine in every channel that holds it (R337). -/
def State.roomInEngine (s : State) (i : PlanIn) (d : Draft) (r : ObjRoom) (o : Nat) : Bool :=
  !(s.writersOf o ++ s.readersOf o).isEmpty && Ch.all.all fun c =>
    match s.oneEngine d c o with
    | none => false
    | some none => true
    | some (some e) =>
      let used := (d.on c e).foldl (fun a k => a + (s.load (i.mhz.get c) k).bytes) (r.eng.getD (16 * c.num + e) 0)
      used + s.objSize o ≤ 65536

/-- The shared SRAM of a channel in bytes (R9). -/
def sramBytes : Nat := 8388608

/-- One object is placed in the first class that CLASS_ALLOW permits and that fits: PLACED and PLACED_VALID (R337). -/
def State.placeObj (s : State) (i : PlanIn) (d : Draft) (r : ObjRoom) (o : Nat) : ObjRoom :=
  let put := fun (r : ObjRoom) v => { r with classes := r.classes ++ [(o, v)] }
  if s.dictRef o ≠ 0 then put r (4 + 1)
  else if s.objSize o = 0 then put r 0
  else
    let a : Int := s.classAllow o
    let onTwin := (s.writersOf o ++ s.readersOf o).any d.twin.contains
    let engs := Ch.all.filterMap fun c => (s.oneEngine d c o).join.map fun e => 16 * c.num + e
    if bit a 0 && !onTwin && s.roomInEngine i d r o then
      put { r with eng := engs.foldl (fun t e => t.put e 0 (t.getD e 0 + s.objSize o)) r.eng } 4
    else if bit a 1 && !onTwin && r.sram + s.objSize o ≤ sramBytes then
      put { r with sram := r.sram + s.objSize o } (4 + 1)
    else if bit a 3 && onTwin then put r (4 + 3)
    else if bit a 2 && (s.readersOf o).isEmpty then put r (4 + 2)
    else put r 0

/-- The objects of a draft, in the order of their numbers (log entry 141); those that only engine state can hold come first. -/
def State.placeObjs (s : State) (i : PlanIn) (d : Draft) (os : List Nat) : ObjRoom :=
  let l := os.mergeSort fun a b => a ≤ b
  (l.filter s.engineOnly ++ l.filter fun o => !s.engineOnly o).foldl (s.placeObj i d) {}

/-- The first engine counting upward from `e` that passes (R347). -/
def nextEngine (p : Nat → Bool) (e : Nat) : Option Nat := ((upto 16).map fun j => (e + j) % 16).find? p

/-- A task fits engine `f` as a fallback beside the tasks planned there and the fallback tasks already assigned (R347). -/
def State.fallbackFits (s : State) (i : PlanIn) (d : Draft) (c : Ch) (f k : Nat) (done : List (Nat × Nat)) : Bool :=
  let ks := k :: ((d.on c f) ++ ((done.filter fun p => p.2 == f).map (·.1)))
  fits 9000 (s.stateBytes ks) (ks.map (s.load (i.mhz.get c)))

/-- The fallback engine of one task of engine `e` with the fallback tasks already assigned (R347). -/
def State.fallbackFor (s : State) (i : PlanIn) (d : Draft) (c : Ch) (e k : Nat) (done : List (Nat × Nat)) : Option Nat :=
  nextEngine (fun f =>
    f != e && s.available i c f && !s.inTest c f && s.fallbackFits i d c f k done) ((e + 1) % 16)

/-- The fallback tasks of engine `e` and whether every one has a site (R347). -/
def State.fallbackOf (s : State) (i : PlanIn) (d : Draft) (order : List Nat) (c : Ch) (e : Nat) : List (Nat × Nat) × Bool :=
  (order.filter fun k => d.engine c k == some e).foldl (fun a k =>
    match s.fallbackFor i d c e k a.1 with
    | some f => (a.1 ++ [(k, f)], a.2)
    | none => (a.1, false)) ([], true)

/-- The fallback owner of a task owned by `o`: the other channel in V with the higher score, ties to the next in the
ring (R347). -/
def State.fallbackOwner (s : State) (i : PlanIn) (o : Ch) : Option Ch :=
  bestOf (fun a b => s.planChScore i b < s.planChScore i a)
    ([o.next, o.next.next].filter s.planChannels.contains)

/-- The local fallback engines of the tasks on the twin in channel `c`, counted upward from engine 0 (R347, log entry 142). -/
def State.twinFallbacks (s : State) (i : PlanIn) (d : Draft) (c : Ch) : List (Nat × Nat) :=
  d.twin.foldl (fun a k =>
    match nextEngine (fun f => s.available i c f && !s.inTest c f && s.fallbackFits i d c f k a) 0 with
    | some f => a ++ [(k, f)]
    | none => a) []

/-- The fallback engines of channel `c`: tasks of its engines, then local sites of the tasks on the twin (R347). -/
def State.fallbackEngines (s : State) (i : PlanIn) (d : Draft) (order : List Nat) (c : Ch) : List (Nat × Nat) :=
  let es := (upto 16).filter (s.available i c)
  (es.flatMap fun e => (s.fallbackOf i d order c e).1) ++ s.twinFallbacks i d c

/-- NO_FALLBACK_MAP of channel `c` (R347). -/
def State.noFallback (s : State) (i : PlanIn) (d : Draft) (order : List Nat) (c : Ch) : Nat :=
  ((upto 16).filter (s.available i c)).foldl (fun m e => if (s.fallbackOf i d order c e).2 then m else m + 2 ^ e) 0

/-- A list of pairs as a table. -/
def toTbl (d : Nat) (l : List (Nat × Nat)) : Tbl Nat := l.foldl (fun t p => t.put p.1 d p.2) []

/-- PLAN_SITE of a task in a draft (R330). -/
def Draft.siteWord (d : Draft) (k : Nat) : Nat :=
  if d.twin.contains k then 3 * 2 ^ 30
  else
    let f := fun c sh => match d.engine c k with
      | some e => 2 ^ (16 + c.num) + e * 2 ^ sh
      | none => 0
    d.owner.getD k 3 * 2 ^ 30 + f .chA 0 + f .chB 4 + f .chC 8

/-- The entries of the object table that have been written (R336). -/
def State.objEntries (s : State) : List Nat :=
  ((s.regs.a ++ s.regs.b).filterMap fun p =>
    if 0x2200 * 256 ≤ p.1 && p.1 < 0x2300 * 256 then some ((p.1 / 256 - 0x2200) * 8 + p.1 % 256 - 1) else none).eraseDups

/-- The finished plan of a draft (R337, R343, R347). -/
def State.finish (s : State) (i : PlanIn) (d : Draft) : Plan :=
  let order := s.planOrder
  let placed := order.filter d.has
  { site := toTbl 0 (placed.map fun k => (k, d.siteWord k))
    unplaced := d.unplaced
    pinBroken := d.broken
    objs := toTbl 0 (s.placeObjs i d s.objEntries).classes
    fbEngine := ⟨toTbl 255 (s.fallbackEngines i d order .chA), toTbl 255 (s.fallbackEngines i d order .chB),
      toTbl 255 (s.fallbackEngines i d order .chC)⟩
    fbOwner := toTbl 255 (placed.filterMap fun k =>
      if s.isDq k then none
      else if d.twin.contains k then (s.planOwner i d k).map fun c => (k, c.num)
      else (s.fallbackOwner i (chOf (d.owner.getD k 3))).map fun c => (k, c.num))
    noFallback := ⟨s.noFallback i d order .chA, s.noFallback i d order .chB, s.noFallback i d order .chC⟩
    util := ⟨toTbl 0 ((upto 16).map fun e => (e, s.utilOn i d .chA e)),
      toTbl 0 ((upto 16).map fun e => (e, s.utilOn i d .chB e)),
      toTbl 0 ((upto 16).map fun e => (e, s.utilOn i d .chC e))⟩ }

/-- One computation of the planner (R343). -/
def State.planOnce (s : State) (i : PlanIn) : Plan := s.finish i (s.planOrder.foldl (s.planTask i) {})

/-- A replan at the given clocks (R343): a FAULT replan that leaves a task unplaced is computed a second time with the
engines under test. -/
def State.replan (s : State) (mhz : Trio Nat) (fresh : Bool) (causes : Nat) : Plan :=
  let p := s.planOnce ⟨mhz, fresh, false⟩
  if bit (causes : Int) 0 && !p.unplaced.isEmpty then s.planOnce ⟨mhz, fresh, true⟩ else p

/-- The static plan (R352). -/
def State.staticPlan (s : State) : Plan :=
  let i : PlanIn := ⟨s.clocks, true, false⟩
  let d := s.planOrder.foldl (s.staticTask i) {}
  s.finish i ((s.planOrder.filter fun k => !d.has k).foldl (s.planTask i) d)

/-- Whether a static site was not used by a plan (R352). -/
def State.deviates (s : State) (p : Plan) : Bool :=
  s.enabledTasks.any fun k =>
    let w := s.vn (Obj.taskStatic k)
    w != 0xFFFF && (p.site.getD k 0 / 2 ^ 30 != field w 8 2 ||
      Ch.all.any fun c => bit (p.site.getD k 0 : Int) (16 + c.num) && field (p.site.getD k 0) (4 * c.num) 4 != field w 0 4)

/-- The fallback engine of a task that has arrived on a lost engine since its table was computed (R349). -/
def State.lateFallback (s : State) (c : Ch) (e k : Nat) (d : Draft) : Option Nat :=
  s.fallbackFor ⟨s.clocks, false, false⟩ d c e k []

/-- The present assignment as a draft. -/
def State.present (s : State) : Draft :=
  s.enabledTasks.foldl (fun d k =>
    let r := s.task k
    if r.placed && r.owner < 3 then
      d.put k r.owner ((Ch.all.filter r.computed.get).map fun c => (c, r.engines.get c))
    else if r.placed then { d with twin := d.twin ++ [k] } else d) {}

/-- Whether every set of the present plan fits at the given clocks (R354). -/
def State.fitsAt (s : State) (mhz : Trio Nat) : Bool :=
  let d := s.present
  Ch.all.all fun c => (upto 16).all fun e => fits (s.vn Obj.utilCap) 0 ((d.on c e).map (s.load (mhz.get c)))

end Sys2Proof.Machine
end

