-- ==== Sys2Proof/Machine/Straps.lean ====
section
/-! DEFINITION. The cross-straps: paths, waiting frames, their order and their arrival (R8, R11 to R14, R19).

Class 1 frames have rows of their own (DIGEST_FRAME, VOTE_RESULT), and time frames and placement votes carry what was
measured or voted; the frames that a channel owes the others from its own state (samples, latches, trips, outputs, state
copies) wait in `Arch.queue` until they arrive. -/

namespace Sys2Proof.Machine

/-- The link between two channels. -/
def linkOf (c d : Ch) : Link :=
  if c != .chC && d != .chC then .ab else if c != .chA && d != .chA then .bc else .ca

/-- Whether a link has failed. -/
def State.linkDown (s : State) (l : Link) : Bool :=
  match l with
  | .ab => s.arch.linkFail.a
  | .bc => s.arch.linkFail.b
  | .ca => s.arch.linkFail.c

/-- `s` with a link marked failed or restored. -/
def State.setLink (s : State) (l : Link) (b : Bool) : State :=
  { s with arch := { s.arch with linkFail :=
      match l with
      | .ab => { s.arch.linkFail with a := b }
      | .bc => { s.arch.linkFail with b := b }
      | .ca => { s.arch.linkFail with c := b } } }

/-- `s` with a link's failure marked as not yet met by a vote (R306), or met. -/
def State.markLink (s : State) (l : Link) (b : Bool) : State :=
  { s with arch := { s.arch with linkFresh :=
      match l with
      | .ab => { s.arch.linkFresh with a := b }
      | .bc => { s.arch.linkFresh with b := b }
      | .ca => { s.arch.linkFresh with c := b } } }

/-- Whether a link's failure has not yet met a vote. -/
def State.linkIsFresh (s : State) (l : Link) : Bool :=
  match l with
  | .ab => s.arch.linkFresh.a
  | .bc => s.arch.linkFresh.b
  | .ca => s.arch.linkFresh.c

/-- A frame from `tx` can reach `rx`: directly, or relayed through the third channel (R14). -/
def State.strapPath (s : State) (rx tx : Ch) : Bool :=
  !s.linkDown (linkOf rx tx) ||
    Ch.all.any fun m => m != rx && m != tx && s.arch.alive.get m && !s.linkDown (linkOf rx m) && !s.linkDown (linkOf m tx)

/-- The rank of a class: a lower number is served first (R11). -/
def strapRank : StrapClass → Nat
  | .digest => 1
  | .samples => 2
  | .time => 3
  | .placement => 4
  | .copy => 5

/-- The payload of a frame in bytes: 384 for a dq pair's state, 128 for another task's (R12, R193); the samples, latches,
trips and outputs are taken with the length that fits the timeline of R22 (log entry 115). -/
def StrapBody.size : StrapBody → Nat
  | .samples _ _ l => 4 + 4 * l.length
  | .latch .. => 16
  | .trip _ => 1
  | .output _ _ _ => 6
  | .copy _ _ outs => if outs.length = 3 then 384 else 128
  | .site _ _ => 384
  | .plan => 6150

/-- Two frames that carry the same thing: a new one takes the place of one that waits or was lost. -/
def StrapBody.same : StrapBody → StrapBody → Bool
  | .samples k _ _, .samples j _ _ => k == j
  | .latch n .., .latch m .. => n == m
  | .trip n, .trip m => n == m
  | .output k _ _, .output j _ _ => k == j
  | .copy k _ _, .copy j _ _ => k == j
  | .site k _, .site j _ => k == j
  | .plan, .plan => true
  | _, _ => false

/-- Ticks that `n` bytes take on a link of 2 Gbit/s, rounded up (R12). -/
def strapTicks (n : Nat) : Nat := (n * 12 + 9) / 10

/-- Channel `c` holds a latch of axis `n` (R177): position and time, those of the latch before, and LATCH_COUNT. -/
def State.setLatch (s : State) (c : Ch) (n : Nat) (pos time prevPos prevTime count : Int) : State :=
  let s := (s.setC c (Obj.latchPos n) pos).setC c (Obj.latchTime n) time
  ((s.setC c (Obj.latchPrevPos n) prevPos).setC c (Obj.latchPrevTime n) prevTime).setC c (Obj.latchCount n) count

/-- What a waiting frame leaves in the channel that receives it (R11): the mirrored set, a latch, OC_TRIPPED, an output, or a state
copy with its outputs (R177, R294, R305). -/
def State.deliver (s : State) (m : StrapMsg) : State :=
  match m.body with
  | .samples k start l => s.updSlot m.src k fun x => { x with mirror := x.mirror.set m.dst (some (start, l)) }
  | .latch n p t q u k => s.setLatch m.dst n p t q u k
  | .trip n => s.updAxis n fun a => { a with ocTripped := a.ocTripped.set m.dst true }
  | .output _ o v => s.setDobj m.dst o v
  | .copy k st outs =>
    let s := s.updStream k fun x => { x with reseed := x.reseed.set m.dst false }
    let o := s.vn (Obj.taskOut k)
    if 512 ≤ k then s
    else
      let s := s.updTask k fun r => { r with st := r.st.set m.dst st, out := r.out.set m.dst outs }
      match outs with
      | [v] => if o < 2048 then s.setDobj m.dst o v else s
      | _ => s
  | .site _ _ => s
  | .plan => s

/-- The frame arrives at the latest at its bound, but for a state copy, whose arrival has a row of its own (R12, R305). -/
def StrapMsg.arrived (m : StrapMsg) (now : Nat) : Bool :=
  match m.due with
  | some t => t ≤ now && m.cls != .copy
  | none => false

/-- The frames whose bound has passed have arrived (R12). -/
def State.settleStraps (s : State) : State :=
  let l := s.arch.queue.filter fun m => m.arrived s.now
  let s := { s with arch := { s.arch with queue := s.arch.queue.filter fun m => !m.arrived s.now } }
  forEach l s State.deliver

/-- The bound of a frame of `n` bytes that is queued now (R12, R14): 0.30 µs, the transmission of what exceeds 16 bytes and
of the frames of its own or a higher class ahead of it, and 0.30 µs more where it is relayed. -/
def State.strapDue (s : State) (src dst : Ch) (cls : StrapClass) (n : Nat) : Option Nat :=
  if s.strapPath dst src then
    let ahead := s.arch.queue.filter fun m => m.src == src && m.dst == dst && m.due.isSome && strapRank m.cls ≤ strapRank cls
    some (s.now + 90 + strapTicks (n - 16) + ahead.foldl (fun t m => t + strapTicks m.body.size) 0 +
      if s.linkDown (linkOf dst src) then 90 else 0)
  else none

/-- A channel queues a frame for another (R11). -/
def State.strapSend (s : State) (src dst : Ch) (cls : StrapClass) (b : StrapBody) : State :=
  let s := s.settleStraps
  let q := s.arch.queue.filter fun m => !(m.src == src && m.dst == dst && m.body.same b)
  { s with arch := { s.arch with
      queue := q ++ [{ src := src, dst := dst, cls := cls, at_ := s.now, due := s.strapDue src dst cls b.size, body := b }] } }

/-- A channel queues a frame for each of its peers that runs. -/
def State.strapSendAll (s : State) (src : Ch) (cls : StrapClass) (b : StrapBody) : State :=
  forEach (src.peers.filter s.arch.alive.get) s fun s d => s.strapSend src d cls b

/-- The channel `src` sends `dst` the state of task `k` with its outputs (R294, R305). -/
def State.sendCopy (s : State) (src dst : Ch) (k : Nat) : State :=
  s.strapSend src dst .copy (.copy k ((s.task k).st.get src) ((s.task k).out.get src))

/-- A frame is the state copy of task `k` for a channel that computes it. -/
def StrapBody.isCopy (k : Nat) : StrapBody → Bool
  | .copy j _ _ => j == k
  | _ => false

/-- A frame is the state of task `k` for its new site. -/
def StrapBody.isSite (k : Nat) : StrapBody → Bool
  | .site j _ => j == k
  | _ => false

/-- A frame for channel `d` of which `p` holds has not arrived. -/
def State.inFlight (s : State) (d : Ch) (p : StrapBody → Bool) : Bool :=
  s.arch.queue.any fun m => m.dst == d && p m.body

/-- The frame of a class that a link delivers next: the oldest one, unless a frame of a higher class was queued no later
(R11). -/
def State.strapNext (s : State) (rx tx : Ch) (cls : StrapClass) : Option StrapMsg :=
  let l := s.arch.queue.filter fun m => m.dst == rx && m.src == tx && m.due.isSome
  match l.find? fun m => m.cls == cls with
  | some m => if l.any fun h => strapRank h.cls < strapRank cls && h.at_ ≤ m.at_ then none else some m
  | none => none

/-- The frames of a class wait on a link. -/
def State.strapWaits (s : State) (rx tx : Ch) (cls : StrapClass) : Bool :=
  s.arch.queue.any fun m => m.dst == rx && m.src == tx && m.cls == cls && m.due.isSome

/-- A waiting frame is gone from its link: delivered, or discarded for its CRC and then never to arrive (R12). -/
def State.strapTake (s : State) (m : StrapMsg) (ok : Bool) : State :=
  if ok then { s with arch := { s.arch with queue := s.arch.queue.erase m } }.deliver m
  else { s with arch := { s.arch with queue := s.arch.queue.map fun x => if x == m then { x with due := none } else x } }

end Sys2Proof.Machine
end

