-- ==== Sys2Proof/Machine/Redundancy.lean ====
section
/-! DEFINITION. Redundancy: health reports, scores, plan triggers, engine faults with their fallback moves, channel
faults, the redundancy states and arbitration (R298, R307 to R313, R338, R344, R349, R352). -/

namespace Sys2Proof.Machine

-- fault classes of R412, by bit number

/-- Channel fault. -/
def clsChannel : Nat := 0

/-- Engine fault. -/
def clsEngine : Nat := 1

/-- Converter-group fault. -/
def clsGroup : Nat := 2

/-- Feedback fault. -/
def clsFeedback : Nat := 3

/-- Host-port fault. -/
def clsHostPort : Nat := 4

/-- Fabric-path fault. -/
def clsFabric : Nat := 5

/-- Twin fault. -/
def clsTwin : Nat := 6

/-- Supply fault. -/
def clsSupply : Nat := 7

/-- A fault of a class is reported to health, with its source. -/
def State.health (s : State) (cls source : Nat) : State := s.send (.health cls source)

-- plan triggers

/-- A replan is triggered (R344, R352): held while HEALTH_AGE is below 1,000 ms, unless a fault; merged into the next
replan while one is computed, unless a fault, which starts a new one at once. Bits of `causes` as in R357. -/
def State.planTrigger (s : State) (causes : Nat) : State :=
  let p := s.place
  let fault := bit (causes : Int) 0
  let or := fun (a b : Nat) => a ||| b
  if s.red.state = .passive ∨ !p.placed then s
  else if !p.aged && !fault && !bit (causes : Int) 5 then { s with place := { p with held := or p.held causes } }
  else
    match p.run, p.trig with
    | some (rc, _), _ =>
      if fault then
        { s with place := { p with run := none, computed := none, snapVoted := false, merged := 0
                                   trig := some (s.now, or (or rc causes) p.merged) } }
      else { s with place := { p with merged := or p.merged causes } }
    | none, some (t, c) => { s with place := { p with trig := some (t, or c causes) } }
    | none, none => { s with place := { p with trig := some (s.now, causes) } }

/-- The scores of a channel: engines 0 to 15, and 16 for the channel (R338). -/
def State.scores (s : State) (c : Ch) : Tbl Nat :=
  (upto 16).map (fun e => (e, s.engineScore c e)) ++ [(16, s.channelScore c)]

/-- Whether a score differs by 16 or more from its value in the last snapshot (R344). -/
def State.scoreMoved (s : State) : Bool :=
  Ch.all.any fun c => (s.scores c).any fun p =>
    let o := (s.place.snapScores.get c).getD p.1 255
    o + 16 ≤ p.2 || p.2 + 16 ≤ o

/-- A score change of 16 or more triggers a replan (R344). -/
def State.checkHealth (s : State) : State := if s.scoreMoved then s.planTrigger 2 else s

/-- A penalty on engine `e` (16 = the channel itself) of channel `c` (R338). -/
def State.penalize (s : State) (c : Ch) (e : Nat) (decaying permanent : Nat) : State :=
  ({ s with place := { s.place with
      pens := s.place.pens.upd c fun t => Tbl.modify t e {} fun p =>
        { decaying := p.decaying + decaying, permanent := p.permanent + permanent } } }).checkHealth

-- self-test turns

/-- The rotation of channel `c` goes on at engine `n` or the next one that is not faulty; after engine 15 it ends
(R481, R482). -/
def State.nextTurn (s : State) (c : Ch) (n : Nat) : State :=
  let m := ((upto 16).find? fun e => n ≤ e && !bit (s.red.engineFault.get c : Int) e).getD 16
  let rot := s.life.rot.get c
  match rot.start with
  | some b =>
    if m < 16 then { s with life := { s.life with rot := s.life.rot.upd c fun r => { r with turn := none, next := m } } }
    else
      let s := { s with life := { s.life with rot := s.life.rot.upd c fun r =>
        { r with turn := none, next := 0, start := none, late := if s.now ≤ b + sec then false else r.late } } }
      let s := s.bumpC c Obj.sliceRotations
      s.setR Obj.rotationMax (max (s.v Obj.rotationMax) (min 65535 ((s.now - b) / ms) : Nat))
  | none => { s with life := { s.life with rot := s.life.rot.upd c fun r => { r with turn := none, next := m % 16 } } }

/-- No engine of channel `c` is being emptied or under test any more. -/
def State.clearTest (s : State) (c : Ch) : State :=
  { s with place := { s.place with
      emptying := s.place.emptying.set c none, testing := s.place.testing.set c none, movedOut := s.place.movedOut.set c [] } }

/-- The turn of channel `c`'s engine under test ends for service (R353, R485). -/
def State.abortTurn (s : State) (c : Ch) : State :=
  match (s.life.rot.get c).turn with
  | none => s
  | some t =>
    let s := (s.clearTest c).nextTurn c (t.engine + 1)
    (s.setR (Obj.sliceNext c t.engine) ((t.first + t.runs) % 32 : Nat)).bumpC c Obj.sliceAborts

/-- The turn of channel `c` has ended with its return moves (R353): a replan with cause SLICE follows. -/
def State.endTurn (s : State) (c : Ch) : State :=
  match (s.life.rot.get c).turn with
  | none => s
  | some t => ((s.clearTest c).nextTurn c (t.engine + 1)).planTrigger 4

/-- What completed moves bring about for the turns (R353, R481): an emptied engine is under test, and a turn whose tasks
are back has ended. -/
def State.movesDone (s : State) : State :=
  forEach Ch.all s fun s c =>
    match (s.life.rot.get c).turn with
    | none => s
    | some t =>
      if t.returning then
        if (s.place.movedOut.get c).all fun k => (s.task k).move.isNone then s.endTurn c else s
      else if t.emptyAt.isNone && s.enabledTasks.all fun k => !(s.siteIn k c && (s.task k).engines.get c == t.engine) then
        { s with
          place := { s.place with emptying := s.place.emptying.set c none, testing := s.place.testing.set c (some t.engine) }
          life := { s.life with rot := s.life.rot.upd c fun r => { r with turn := some { t with emptyAt := some s.now } } } }
      else s

/-- Engine `e` of channel `c` leaves NAP (R454). -/
def State.wakeEngine (s : State) (c : Ch) (e : Nat) : State :=
  { s with power := { s.power with nap := s.power.nap.upd c fun m => if bit (m : Int) e then m - 2 ^ e else m } }

/-- Work is placed on engine `e`: a NAP engine wakes, and a turn on it ends (R349, R353, R454). -/
def State.serve (s : State) (c : Ch) (e : Nat) : State :=
  let s := s.wakeEngine c e
  if s.inTest c e then s.abortTurn c else s

-- engine faults

/-- ENGINE_FAULT_MAP of a channel (R323). -/
def Obj.engineFaultMap (c : Ch) : Obj :=
  match c with
  | .chA => Obj.engineFaultMapA
  | .chB => Obj.engineFaultMapB
  | .chC => Obj.engineFaultMapC

/-- The armed traces on an engine (R222, R228). -/
def State.armedOn (s : State) (c : Ch) (e : Nat) : List Nat :=
  (s.traces.filter fun p => (p.2.state == 1 || p.2.state == 2) && p.2.chan == some c &&
    (s.task p.1).engines.get c == e).map (·.1)

/-- An armed or triggered trace ends with a cause (R222, R231). -/
def State.stopTrace (s : State) (k cause : Nat) : State :=
  s.updTrace k fun x => if x.state == 1 || x.state == 2 then { x with state := 4, cause := cause } else x

/-- A move of task `k` to engine `e` of channel `c` would bring a fifth armed trace onto it: that of the moving task (R222). -/
def State.fifthTrace (s : State) (k : Nat) (c : Ch) (e : Nat) : Bool :=
  (s.trace k).chan == some c && (s.task k).engines.get c != e && decide (4 ≤ ((s.armedOn c e).filter (· != k)).length)

/-- The moving task's trace stops where it would be the fifth on its new engine (R222). -/
def State.limitTraces (s : State) (k : Nat) (c : Ch) (e : Nat) : State := if s.fifthTrace k c e then s.stopTrace k 3 else s

/-- The channel from which a task's state is copied to channel `c`: the first of A, B and C, other than `c`, that
computes it (R349). -/
def State.copySource (s : State) (c : Ch) (k : Nat) : Option Ch := Ch.all.find? fun d => d != c && s.siteIn k d

/-- The fallback move of task `k` in channel `c` off engine `e` (R349). -/
def State.fallbackMove (s : State) (c : Ch) (e k : Nat) : State :=
  let planned := field (s.place.plan.site.getD k 0) (4 * c.num) 4 == e && bit (s.place.plan.site.getD k 0 : Int) (16 + c.num)
  let tab := (s.place.plan.fbEngine.get c).getD k 255
  let mv := match (s.task k).move with
    | some m => if m.computed.get c && m.engines.get c != e then some (m.engines.get c) else none
    | none => none
  let dest := match mv with
    | some f => some f
    | none => if planned && tab != 255 then some tab else if planned then none else s.lateFallback c e k s.present
  let lone := (s.copySource c k).isNone && s.red.state != .single
  match dest with
  | none =>
    let s := s.updTask k fun r => { r with computed := r.computed.set c false, fin := r.fin.set c none, rel := r.rel.set c none }
    if lone then s.startTask k else s
  | some f =>
    let s := (s.limitTraces k c f).serve c f
    let s := s.updTask k fun r =>
      { r with engines := r.engines.set c f, fallback := true, rel := r.rel.set c none, move := none
               fin := r.fin.set c (some { start := r.lastStart.getD 0, fault := true })
               ho := if c.num = r.owner ∧ 2 ≤ r.ho ∧ r.ho < 5 then 2 else r.ho }
    let s := if lone then s.startTask k else s.updStream k fun x => { x with reseed := x.reseed.set c true }
    let s := match s.copySource c k with
      | some d => s.sendCopy d c k
      | none => s
    s.bumpR Obj.fallbackMoves

/-- A move of task `k` is abandoned (R348, R354): the task stays at its old site, and a turn that waits for the move ends. -/
def State.dropMove (s : State) (k : Nat) : State :=
  let s := s.updTask k fun r => { r with move := none }
  forEach Ch.all s fun s c =>
    if (s.place.emptying.get c).isSome && (s.place.movedOut.get c).contains k then s.abortTurn c else s

/-- The moves whose new site in channel `c` is engine `e`, but whose task does not run there yet (R354). -/
def State.movesTo (s : State) (c : Ch) (e : Nat) : List Nat :=
  s.enabledTasks.filter fun k => match (s.task k).move with
    | some m => m.computed.get c && m.engines.get c == e && !(s.siteIn k c && (s.task k).engines.get c == e)
    | none => false

/-- A fault or PFAIL during an entry into a sleep state abandons it (R467); from RETAIN, step 3 of R457 has been made. -/
def State.abandonEntry (s : State) : State :=
  if s.power.state = .run then { s with power := { s.power with entering := none } } else s

/-- Engine `e` of channel `c` is declared faulty (R298): 0 coding fault, 1 power-up BIST, 2 slice. Its tasks take their
fallback engines at the same instant (R349). -/
def State.engineFault (s : State) (c : Ch) (e kind : Nat) : State :=
  if bit (s.red.engineFault.get c : Int) e then s
  else
    let res := s.enabledTasks.filter fun k => s.siteIn k c && (s.task k).engines.get c == e
    let s := { s with red := { s.red with engineFault := s.red.engineFault.upd c fun m => m + 2 ^ e } }
    let s := s.bitR (Obj.engineFaultMap c) e true
    let s := s.bumpR (Obj.chCodingFaults c)
    let s := s.logC c 0x0103 (0x2810 + c.num) [BitVec.ofNat 8 e, BitVec.ofNat 8 kind]
    let s := s.abandonEntry
    let s := s.health clsEngine (16 * c.num + e)
    let s := forEach (s.movesTo c e) s State.dropMove
    let s := forEach res s fun s k => s.fallbackMove c e k
    (s.planTrigger 1).penalize c e 0 255

-- tasks stop

/-- Every task stops: nothing released or unfinished stays (R313, R457). -/
def State.stopTasks (s : State) (cause : Nat) : State :=
  let s := forEach (s.tasks.map (·.1)) s fun s k => s.updTask k fun r =>
    { r with rel := Trio.all none, fin := Trio.all none, lastStart := none }
  forEach (s.traces.map (·.1)) s fun s k => s.stopTrace k cause

-- redundancy states

/-- Every safety unlock closes (R439, R490). -/
def State.closeUnlocks (s : State) : State := { s with safe := { s.safe with unlocks := [] } }

/-- TWIN_STATE changes (R400). -/
def State.setTwinState (s : State) (v : Nat) : State :=
  if s.vn Obj.twinState = v then s
  else { s.setR Obj.twinState v with twin := { s.twin with changedAt := s.now } }

/-- A hand-over in progress is abandoned (R318). -/
def State.dropHandovers (s : State) : State :=
  forEach (s.axes.map (·.1)) s fun s n => s.updAxis n fun a => { a with handover := 0 }

/-- The channels that are candidates no longer read so (R311, R325): faulty, or running in V as before. -/
def State.endCandidates (s : State) : State :=
  match s.red.arb with
  | some a => forEach Ch.all s fun s c =>
    if a.cands.get c then s.setR (Obj.chState c) (if s.red.faulty.get c then 2 else 1) else s
  | none => s

/-- The device enters a redundancy state (R310): recorded, with what entering PASSIVE does (R313). -/
def State.enter (s : State) (r : RState) : State :=
  if s.red.state = r then s
  else
    let old := s.red.state
    let s := s.logDev 0x0101 0x2800 [BitVec.ofNat 8 old.num, BitVec.ofNat 8 r.num]
    let s := { s.endCandidates with red := { s.red with state := r, entry := s.now, arb := none } }
    let s := s.setR Obj.stateEntryTime s.now
    match r with
    | .passive =>
      let s := (s.stopTasks 2).closeUnlocks.dropHandovers
      let s := { s with place := { s.place with trig := none, run := none, computed := none, merged := 0, retryAt := none } }
      let s := { s with red := { s.red with inV := Trio.all false, supervising := false } }
      let s := if s.twin.paired then s.setTwinState 7 else if s.vn Obj.twinState = 9 then s.setTwinState 8 else s
      s.triggerAll 2
    | .single => s.dropHandovers.planTrigger 1
    | _ => if old = .startup then s else s.planTrigger 1

-- arbitration

/-- A channel may be a candidate (R311): it runs, is not debugged, and has no cause but MISMATCH and ARBITRATION. -/
def State.mayStand (s : State) (c : Ch) : Bool :=
  let w := s.v (Obj.chFaultCause c)
  s.arch.alive.get c && s.arch.started.get c && !s.red.inDebug.get c && ((upto 7).all fun b => !bit w b || b == 0 || b == 6)

/-- The values of a task's state, as a message to the twin carries them (R311; their order is log entry 132). -/
def TaskSt.values (x : TaskSt) : List Int :=
  [x.pid.i, x.pid.dir, x.pid.esign, x.d, x.ePrev, x.pPrev, x.vf, x.rPrev, x.x, x.ctlD.i, x.ctlD.dir, x.ctlD.esign, x.ctlQ.i,
    x.ctlQ.dir, x.ctlQ.esign, x.thPrev, x.posPrev, x.duty.a, x.duty.b, x.duty.c, x.lim.l, x.lim.lb, x.lim.lbRem, x.lim.h,
    x.lim.ilimit, x.bank, b2i x.first, b2i x.hold, x.heldRun, x.uLast, x.eLast]

/-- A safety-rated task (R314, R328): one whose axis is safety-rated, or that has none. -/
def State.safetyRated (s : State) (k : Nat) : Bool :=
  match s.taskAxis k with
  | some n => s.v (Obj.axSafetyRated n) == 1
  | none => true

/-- Candidate `c` sends the twin the state of every safety-rated task that it computes (R311). -/
def State.seedTwin (s : State) (c : Ch) : State :=
  forEach (s.enabledTasks.filter fun k => s.safetyRated k && s.siteIn k c) s fun s k =>
    s.sendMsg c 0x0D02 (leBytes 2 k ++ ((s.task k).st.get c).values.flatMap (leBytesInt 4))

/-- Arbitration starts with the candidates among `who` (R310, R311). -/
def State.arbitrate (s : State) (who : List Ch) : State :=
  let cs := who.filter s.mayStand
  if cs.isEmpty || !s.twinThere then s.enter .passive
  else
    let s := s.enter .dual
    let cands : Trio Bool := ⟨cs.contains .chA, cs.contains .chB, cs.contains .chC⟩
    let s := { s with red := { s.red with arb := some ⟨s.now, cands⟩ } }
    let s := forEach cs s fun s c => s.setR (Obj.chState c) 4
    forEach cs s State.seedTwin

/-- PASSIVE of R519: two channels declared faulty in start-up and the third has ended step 8. -/
def State.startupPassive (s : State) : State :=
  if s.red.state = .startup ∧ 2 ≤ count Ch.all s.red.faulty.get ∧
      Ch.all.any (fun c => !s.red.faulty.get c && 8 ≤ s.vn (Obj.suStep c)) then s.enter .passive
  else s

-- the end of step 8 of start-up (R147, R517, R525)

/-- The start-up calibration of channel `c` is over (R147): EN waits for it. -/
def State.startupCalDone (s : State) (c : Ch) : Bool :=
  (upto 20).all fun n => match (s.conv c n).cal with
    | .startup => false
    | .running _ b => !b
    | _ => true

/-- Every dq pair with a site and a running counter has been voted (R517). -/
def State.dqVoted (s : State) : Bool :=
  s.enabledTasks.all fun k => !(s.isDq k && (s.task k).placed) || match s.dqSlot k with
    | some (c, b) => !(s.slot c b).running || (s.stream k).complete || 2 ≤ (s.stream k).seq
    | none => true

/-- The work of step 8 is done in channel `c` (R517): converters calibrated, counters started, init lists sent. -/
def State.seeded (s : State) (c : Ch) : Bool :=
  s.startupCalDone c && ((upto 4).all fun k => s.g c (Obj.bsMode c k) != 1 || (s.slot c k).running) &&
    (upto 4).all fun k => !(s.driver c k).initRunning

/-- Step 8 has ended in channel `c` (R525). -/
def State.ready (s : State) (c : Ch) : State :=
  let d := match s.su.released.get c with
    | some b => min 65535 ((s.now - b) / ms)
    | none => 0
  ((s.setR (Obj.suStep c) 8).setR (Obj.suReadyTime c) s.now).setR (Obj.suDuration c) (d : Nat)

/-- Step 8 ends in the channels whose seeding is done (R517); two channels declared faulty then end in PASSIVE (R519). -/
def State.endSeeding (s : State) : State :=
  if s.red.state = .startup then
    (forEach (Ch.all.filter fun c => s.vn (Obj.suStep c) = 7 && !s.red.faulty.get c && s.dqVoted && s.seeded c) s
      State.ready).startupPassive
  else s

-- channel faults

/-- Safe inputs of a channel are lost (R421): their VALUE is 0. -/
def State.loseSafeInputs (s : State) (c : Ch) (from_ : Nat) : State :=
  { s with safe := { s.safe with
      pairs := s.safe.pairs.upd c fun t =>
        (upto 6).foldl (fun t i => if i < from_ then t else Tbl.modify t i {} fun p =>
          { p with lost := true, value := false
                   stamps := if p.value then (s.now, false) :: p.stamps.take 15 else p.stamps }) t } }

/-- Causes of R326 by bit number. -/
def cfMismatch : Nat := 0

/-- R24. -/
def cfClock : Nat := 1

/-- R45. -/
def cfStrap : Nat := 2

/-- R14. -/
def cfCrossStrap : Nat := 3

/-- R448. -/
def cfSupply : Nat := 4

/-- R477. -/
def cfBist : Nat := 5

/-- R311. -/
def cfArbitration : Nat := 6

/-- What a declaration itself does (R309): cause, time, record, permits, score, inputs, V. -/
def State.declare (s : State) (c : Ch) (cause : Nat) : State :=
  let s := (s.bitR (Obj.chFaultCause c) cause true).setR (Obj.chFaultTime c) s.now
  let s := s.logDev 0x0102 (0x2810 + c.num) (BitVec.ofNat 8 c.num :: leBytes 2 (s.vn (Obj.chFaultCause c)))
  let s := s.setR (Obj.chState c) 2
  let s := { s with red := { s.red with faulty := s.red.faulty.set c true, inV := s.red.inV.set c false } }
  let s := s.health (if cause = cfSupply then clsSupply else clsChannel) c.num
  let s := (s.holdArms c).loseSafeInputs c 0
  let s := s.abandonEntry
  (s.triggerAll 1).penalize c 16 0 255

/-- A channel is declared faulty (R309, R310, R312, R450): a repeated declaration adds its cause and nothing else. -/
def State.channelFault (s : State) (c : Ch) (cause : Nat) : State :=
  if s.red.faulty.get c then s.bitR (Obj.chFaultCause c) cause true
  else
    let was := s.red.state
    let mine := s.red.inV.get c
    let s := s.declare c cause
    match was with
    | .startup => (s.planTrigger 1).startupPassive
    | .nominal => s.enter .dual
    | .dual =>
      let s := s.planTrigger 1
      if s.red.arb.isSome then
        let s := match s.red.arb with
          | some a => { s with red := { s.red with arb := some { a with
              cands := if cause = cfMismatch then a.cands else a.cands.set c false } } }
          | none => s
        match s.red.arb with
        | some a => if Ch.all.any a.cands.get then s else s.enter .passive
        | none => s
      else s.arbitrate Ch.all
    | .single => if mine then s.enter .passive else s
    | .passive => s

/-- The second channel fault that names no channel: R307 for all three, R308 for both (R310); arbitration in progress goes
on. -/
def State.noMajorityFault (s : State) (who : List Ch) : State := if s.red.arb.isSome then s else s.arbitrate who

/-- The twin confirms candidates (R311): the first of A, B and C among them survives. -/
def State.confirm (s : State) (conf : Trio Bool) : State :=
  match s.red.arb with
  | none => s
  | some a =>
    match Ch.all.find? fun c => a.cands.get c && conf.get c with
    | none => s
    | some c =>
      let others := Ch.all.filter fun d => d != c && a.cands.get d
      let s := forEach others s fun s d =>
        if s.red.faulty.get d then s.bitR (Obj.chFaultCause d) cfArbitration true else s.declare d cfArbitration
      let s := s.enter .single
      let s := { s with red := { s.red with
        faulty := s.red.faulty.set c false
        inV := (Trio.all false).set c true
        survivor := some c
        supervising := true } }
      s.setR (Obj.chState c) 5

end Sys2Proof.Machine
end

