-- ==== Sys2Proof/Machine/Arch.lean ====
section
/-! DEFINITION. Chapter 01: cross-straps, clock monitor, recording DRAM and the device time (R8 to R31). -/

namespace Sys2Proof.Machine

-- device time

/-- Ticks by which a base may be corrected in a span of time: ±200 ppm (R25). -/
def slewLimit (ticks : Nat) : Int := (ticks / 5000 : Nat)

/-- The offset of channel `c`'s base from device time in ticks: it has moved from its last alignment toward the measured
skew by rate adjustment alone, within ±200 ppm (R25, R27). -/
def State.offsetOf (s : State) (c : Ch) : Int :=
  let a := s.arch.anchor.get c
  let goal := divRound (s.arch.skew.get c * 3) 10
  let d := slewLimit (s.now - a.1)
  a.2 + clamp (-d) d (goal - a.2)

/-- The time base of channel `c` (R25). -/
def State.baseOf (s : State) (c : Ch) : Nat := ((s.now : Int) + s.offsetOf c).toNat

/-- DEVICE_TIME (R29): the median of three contributing bases, the lower of two, or the one; with none, device time. -/
def State.deviceTime (s : State) : Nat :=
  match s.voters.map s.baseOf with
  | [x, y, z] => max (min x y) (min (max x y) z)
  | [x, y] => min x y
  | [x] => x
  | _ => s.now

/-- The channels' skews are within ±20 ns of each other (R27). -/
def State.skewOk (s : State) : Bool :=
  s.voters.all fun c => s.voters.all fun d => (s.arch.skew.get c - s.arch.skew.get d).natAbs ≤ 20

/-- FABRIC_LOCKED as the last measurements leave it (R27, R30). -/
def State.checkLocked (s : State) : State := s.bitR Obj.timeStatus 4 (s.arch.near && s.skewOk)

/-- Device time was measured within ±100 ns of fabric time, or outside (R30). -/
def State.setNear (s : State) (b : Bool) : State := { s with arch := { s.arch with near := b } }.checkLocked

/-- FABRIC_LOCKED for a measured offset in ticks: within ±100 ns, 30 ticks, and the skew in bounds (R30). -/
def State.lockFabric (s : State) (offset : Int) : State := s.setNear (offset.natAbs ≤ 30)

/-- TIME_STATUS.SOURCE (R30). -/
def State.setSource (s : State) (v : Nat) : State := s.setR Obj.timeStatus (withField (s.v Obj.timeStatus) 0 2 v)

/-- The single permitted step may be made: no lock to a time source since power-on (R25). -/
def State.mayStep (s : State) : Bool := field (s.v Obj.timeStatus) 0 2 == 0 && !s.isBit Obj.timeStatus 2

/-- The step that a lock to a source `offset` ticks ahead makes (R25): one behind is approached by rate adjustment alone. -/
def State.lockStep (s : State) (offset : Int) : Nat := if s.mayStep then offset.toNat else 0

/-- The rest of a period's grid offset by the shorter way round (R233). -/
def shorterWay (offset period : Nat) : Int :=
  let r := offset % max 1 period
  if 2 * r ≤ period then r else (r : Int) - period

/-- The single step forward of the time bases by `d` ticks (R25): the counters of running slots go on counting and realign
to the stepped grid (R233). Other running intervals are counted on the time base (log entry 116). -/
def State.stepBases (s : State) (d : Nat) : State :=
  let s := { s with arch := { s.arch with anchor := s.arch.anchor.map fun a => (a.1 + d, a.2) } }
  let s := forEach Ch.all s fun s c => forEach (upto 4) s fun s k =>
    if (s.slot c k).running then
      s.updSlot c k fun x =>
        { x with aligned := false, realign := shorterWay d (2 * max 1 x.top), valley := x.valley.map (· + d) }
    else s
  s.bitR Obj.timeStatus 2 true

/-- A lock to a time source that lies `offset` ticks ahead with a rate adjustment in ppb (R25, R29): the first lock may step
forward once. -/
def State.timeLock (s : State) (offset rate : Int) (traceable : Bool) : State :=
  let d := s.lockStep offset
  let s := (s.setR Obj.timeOffset (clamp (-2147483648) 2147483647 offset)).setSource (if traceable then 2 else 1)
  let s := (s.bitR Obj.timeStatus 3 false).setR Obj.timeRateAdj (clamp (-200000) 200000 rate)
  if d = 0 then s.lockFabric offset else (s.stepBases d).lockFabric 0

/-- The time source is lost (R28): HOLDOVER is set; the last rate adjustment stays. -/
def State.timeLoss (s : State) : State :=
  if field (s.v Obj.timeStatus) 0 2 = 0 then s else s.bitR Obj.timeStatus 3 true

/-- The source returns (R28): HOLDOVER clears, and the base slews back within ±200 ppm without stepping. -/
def State.timeReturn (s : State) (offset rate : Int) (traceable : Bool) : State :=
  let s := (s.bitR Obj.timeStatus 3 false).setR Obj.timeOffset (clamp (-2147483648) 2147483647 offset)
  let s := s.setR Obj.timeRateAdj (clamp (-200000) 200000 rate)
  (s.setSource (if traceable then 2 else 1)).lockFabric offset

/-- TIME_SOURCE_LOCK (R25): the time at which it acts lies after the step that it makes. -/
def execTimeSourceLock (t : Nat) (offset rate : Int) (traceable : Bool) (s : State) : Res :=
  s.run (max s.now t + s.lockStep offset) fun s => s.timeLock offset rate traceable

/-- TIME_SOURCE_LOSS (R28). -/
def execTimeSourceLoss (t : Nat) (s : State) : Res := s.run t State.timeLoss

/-- TIME_SOURCE_RETURN (R28): has an effect while HOLDOVER is set. -/
def execTimeSourceReturn (t : Nat) (offset rate : Int) (traceable : Bool) (s : State) : Res :=
  s.run t fun s => if s.isBit Obj.timeStatus 3 then s.timeReturn offset rate traceable else s

-- cross-straps

/-- A time-alignment frame (R27): it measures the skew of `rx`'s base against that of `tx` in ns; the receiver's base is then
corrected by rate from where it stands, and the largest skew since the last read is kept. -/
def State.alignTime (s : State) (rx tx : Ch) (skew : Int) : State :=
  let m : Int := min 65535 (skew.natAbs : Int)
  let s := { s with arch := { s.arch with
    anchor := s.arch.anchor.set rx (s.now, s.offsetOf rx), skew := s.arch.skew.set rx (s.arch.skew.get tx + skew) } }
  let s := if s.v Obj.channelSkewMax < m then s.setR Obj.channelSkewMax m else s
  s.checkLocked

/-- A discarded cross-strap frame is counted by its receiver (R12). -/
def State.countStrap (s : State) (rx : Ch) : State :=
  { s with arch := { s.arch with linkErr := s.arch.linkErr.upd rx (· + 1) } }

/-- CROSS_STRAP_FRAME (R12): a frame whose CRC fails is discarded and counted; another is delivered by its class (R11). Where
frames of the class wait on the link it is the oldest of them, in the order of R11; a frame that could not yet come has
no effect. -/
def execCrossStrapFrame (t : Nat) (rx tx : Ch) (cls : StrapClass) (crcOk : Bool) (skew : Int) (payload : List Byte)
    (s : State) : Res :=
  s.run t fun s =>
    let s := s.settleStraps
    if !(s.arch.alive.get rx && rx != tx && s.strapPath rx tx) then s
    else if s.strapWaits rx tx cls then
      match s.strapNext rx tx cls with
      | some m => if crcOk then s.strapTake m true else (s.strapTake m false).countStrap rx
      | none => s
    else if !crcOk then s.countStrap rx
    else
      match cls with
      | .time => s.alignTime rx tx skew
      | _ => { s with arch := { s.arch with strapIn := (rx, tx, cls, payload) :: s.arch.strapIn } }

/-- The channels that reach neither peer directly (R14). -/
def State.cutOff (s : State) : List Ch :=
  Ch.all.filter fun c => s.linksDown c == 2 && s.arch.alive.get c && !s.red.faulty.get c

/-- CROSS_STRAP_LINK_FAIL (R14): the failure enters the scores (R338); a channel that reaches neither peer directly is
declared faulty. -/
def execCrossStrapLinkFail (t : Nat) (l : Link) (s : State) : Res :=
  s.run t fun s =>
    if s.linkDown l then s
    else
      let s := (s.setLink l true).markLink l true
      let s := s.checkHealth
      forEach s.cutOff s fun s c => s.channelFault c cfCrossStrap

/-- CROSS_STRAP_LINK_RESTORED (R338): the held penalties of the link end. -/
def execCrossStrapLinkRestored (t : Nat) (l : Link) (s : State) : Res :=
  s.run t fun s => if s.linkDown l then (s.setLink l false).checkHealth else s

/-- CLOCK_MONITOR_FAULT (R24): a channel fault; EN falls with it (R255), and ARM holds (R256). -/
def execClockMonitorFault (t : Nat) (c : Ch) (s : State) : Res :=
  s.run t fun s => if s.arch.alive.get c then s.channelFault c cfClock else s

-- recording DRAM

/-- DRAM_FAULT (R17, R512): DRAM recording of the channel stops, and its traces end with ABORT_CAUSE 4 (R223). -/
def execDramFault (t : Nat) (c : Ch) (addr : Nat) (s : State) : Res :=
  s.run t fun s =>
    if (s.sed.get c).dramFault then s
    else
      let s := s.updSed c fun d => { d with dramFault := true }
      let s := s.logC c 0x0905 (0xC010 + c.num) (leBytes 8 addr)
      forEach (s.traces.map (·.1)) s fun s k => if (s.trace k).chan == some c then s.stopTrace k 4 else s

/-- DRAM_ECC_ERROR (R17): a single-bit error is corrected and counted; another makes its 64-byte block invalid. -/
def execDramEccError (t : Nat) (c : Ch) (block : Nat) (correctable : Bool) (s : State) : Res :=
  s.run t fun s => s.updSed c fun d =>
    if correctable then { d with corrected := d.corrected + 1 }
    else if d.invalid.contains block then d else { d with invalid := block :: d.invalid }

end Sys2Proof.Machine
end

