-- ==== Sys2Proof/Machine/Sensing.lean ====
section
/-! DEFINITION. Chapter 05: converters, reference groups, the diagnostic scan and calibration (R124 to R153). -/

namespace Sys2Proof.Machine

-- status bits of R132

/-- VALID. -/
def cvValid : Nat := 0

/-- NEW. -/
def cvNew : Nat := 1

/-- OVRN. -/
def cvOvrn : Nat := 2

/-- OVRG. -/
def cvOvrg : Nat := 3

/-- SETTLING. -/
def cvSettling : Nat := 5

/-- CAL. -/
def cvCal : Nat := 6

/-- INJ. -/
def cvInj : Nat := 7

/-- GRPF. -/
def cvGrpf : Nat := 8

/-- The members of reference group `m` (R9). -/
def groupMembers (m : Nat) : List Nat := (upto 4).map (4 * m + ·)

/-- One window of N · M modulator bits in ticks (R126): a bit lasts 4 ticks. -/
def State.cvWindow (s : State) (c : Ch) (n : Nat) : Nat :=
  4 * (s.gn c (Obj.sincOrder c n) * s.gn c (Obj.decimRatio c n))

/-- The converter is on: CV_ENABLE, and the sensing domain has power (R148). -/
def State.cvOn (s : State) (c : Ch) (n : Nat) : Bool := s.g c (Obj.cvEnable c n) == 1 && s.power.io

/-- A member of the group is in overrange. -/
def State.ovrPresent (s : State) (c : Ch) (m : Nat) : Bool := (groupMembers m).any fun n => (s.conv c n).ovr

/-- A member of the group shows SETTLING. -/
def State.settlingActive (s : State) (c : Ch) (m : Nat) : Bool :=
  (groupMembers m).any fun n => s.isBitC c (Obj.cvStatus c n) cvSettling

/-- The group of converter `n` is disturbed: an overrange is present or SETTLING shows (R146). -/
def State.grpBusy (s : State) (c : Ch) (n : Nat) : Bool := s.ovrPresent c (n / 4) || s.settlingActive c (n / 4)

/-- The code of a filter output of `nv` nanovolts (R125, R143): the voltage × 32,768 / 1.25 V less the offset trim, times the
gain trim, rounded to the nearest integer; not yet clamped (log entry 118). -/
def State.filterCode (s : State) (c : Ch) (n : Nat) (nv : Int) : Int :=
  divRound ((nv * 32768 - s.g c (Obj.calOffset c n) * 1250000000) * s.g c (Obj.calGain c n)) (1250000000 * 32768)

/-- A filter output beyond the code range (R137). -/
def beyond (code : Int) : Bool := decide (code < -32768 ∨ 32767 < code)

/-- The code that is written (R125, R137): in overrange the excursion's clamp, else the clamped code. -/
def State.codeOf (s : State) (c : Ch) (n : Nat) (code : Int) : Int :=
  let x := s.conv c n
  if x.ovr then (if x.ovrPos then 32767 else -32768) else clamp (-32768) 32767 code

/-- CV_SAMPLE: status and code together (R150). -/
def State.cvSampleNow (s : State) (c : Ch) (n : Nat) : Int :=
  s.g c (Obj.cvStatus c n) * 65536 + s.g c (Obj.cvResult c n) % 65536

/-- A result is written to the register (R133): VALID and NEW set, OVRN if NEW stood, INJ as given. -/
def State.writeResult (s : State) (c : Ch) (n : Nat) (code : Int) (inj : Bool) : State :=
  let o := Obj.cvStatus c n
  let s := if s.isBitC c o cvNew then s.bitC c o cvOvrn true else s
  let s := ((s.bitC c o cvValid true).bitC c o cvNew true).bitC c o cvInj inj
  (s.setC c (Obj.cvResult c n) code).setC c (Obj.cvLastTime c n) s.now

/-- The result register starts over (R135): 0x8000, VALID and NEW 0. -/
def State.clearResult (s : State) (c : Ch) (n : Nat) : State :=
  let o := Obj.cvStatus c n
  (((s.bitC c o cvValid false).bitC c o cvNew false).bitC c o cvInj false).setC c (Obj.cvResult c n) (-32768)

/-- What a result whose window starts at `start` does to CAL (R144): it ends with the first window after the end of the
calibration. -/
def State.endCal (s : State) (c : Ch) (n start : Nat) : State :=
  match (s.conv c n).cal with
  | .ended e =>
    if e ≤ start then (s.updConv c n fun x => { x with cal := .idle }).bitC c (Obj.cvStatus c n) cvCal false else s
  | _ => s

/-- The register holds its last value: a calibration waits, runs, or has ended too recently (R144). -/
def State.calHolds (s : State) (c : Ch) (n : Nat) : Bool := (s.conv c n).cal != .idle

-- overrange

/-- The onset of an overrange (R137): OVRG sets, and the group counts the onset. -/
def State.ovrOnset (s : State) (c : Ch) (n : Nat) (positive : Bool) : State :=
  if (s.conv c n).ovr then s
  else
    let s := s.updConv c n fun x => { x with ovr := true, ovrPos := positive }
    let s := s.bitC c (Obj.cvStatus c n) cvOvrg true
    s.bumpC c (Obj.grpOverrangeCount c (n / 4))

/-- The overrange of a converter clears once neither cause stands (R137, R138): every converter of the group sets SETTLING
for its own window and 2 µs. -/
def State.ovrEnd (s : State) (c : Ch) (n : Nat) : State :=
  if (s.conv c n).ovr && !(s.conv c n).det && !(s.conv c n).filt then
    let s := s.updConv c n fun x => { x with ovr := false }
    forEach (groupMembers (n / 4)) s fun s i =>
      (s.bitC c (Obj.cvStatus c i) cvSettling true).updConv c i fun x =>
        { x with settleEnd := s.now + s.cvWindow c i + 2 * us }
  else s

/-- What a filter output does to the overrange of its converter (R137): one beyond the code range is an onset unless an
overrange stands, and one within it ends what the filter alone showed. -/
def State.judgeFilter (s : State) (c : Ch) (n : Nat) (code : Int) : State :=
  if beyond code then (s.ovrOnset c n (decide (0 < code))).updConv c n fun x => { x with filt := true }
  else (s.updConv c n fun x => { x with filt := false }).ovrEnd c n

-- results

/-- A window from `start` on began before the converter started over (R135), by more than the crystals' tolerance (R25). -/
def State.tooEarly (s : State) (c : Ch) (n start : Nat) : Bool := start + 1 + (s.now - start) / 5000 < (s.conv c n).from_

/-- A result of a converter that is no diagnostic converter, with a window from `start` on (R133, R135, R144): the register
takes it unless a calibration holds it or the window began before the converter started over. -/
def State.takeResult (s : State) (c : Ch) (n : Nat) (nv : Int) (start : Nat) : State :=
  let s := (s.endCal c n start).updConv c n fun x => { x with last := s.now, gap := false }
  let code := s.filterCode c n nv
  if s.calHolds c n || s.tooEarly c n start then s
  else
    let s := s.judgeFilter c n code
    s.writeResult c n (s.codeOf c n code) false

/-- The converter is bound to a slot whose counter runs (R128, R129). -/
def State.cvBound (s : State) (c : Ch) (n : Nat) : Bool :=
  s.gn c (Obj.cvSlotBind c n) < 4 && (s.slot c (s.gn c (Obj.cvSlotBind c n))).running

/-- The delivery time of a converter's loop sample after the valley, in ticks (R129). -/
def State.loopDelay (s : State) (c : Ch) (n : Nat) : Nat :=
  if s.g c (Obj.windowAlign c n) = 1 then s.cvWindow c n / 2 else s.cvWindow c n

/-- The valley of a bound converter whose loop sample is still to come (R129). -/
def State.loopValley (s : State) (c : Ch) (n : Nat) : Option Nat :=
  if s.cvBound c n then
    match (s.slot c (s.gn c (Obj.cvSlotBind c n))).valley with
    | some v => if (s.conv c n).loopAt = some v then none else some v
    | none => none
  else none

/-- The instant of a loop sample (R129): its nominal position, or at most one CLK_MOD edge, 4 ticks, later; one per
valley. -/
def State.loopDue (s : State) (c : Ch) (n t : Nat) : Bool :=
  match s.loopValley c n with
  | some v => v + s.loopDelay c n ≤ t && t ≤ v + s.loopDelay c n + 4
  | none => false

/-- `t` is an instant of the converter's grid of intervals M / 75 MHz, counted from its last result (R126, R128, R129): the
first result of a new start comes one window after it, every other one interval after the one before. The instants follow
the crystal, so within ±200 ppm of device time and one tick (R25). A loop sample that is due comes first. -/
def State.gridAt (s : State) (c : Ch) (n t : Nat) : Bool :=
  let x := s.conv c n
  let step := 4 * s.gn c (Obj.decimRatio c n)
  let d := t - x.last
  let tol := 1 + d / 5000
  let first := if x.gap then s.cvWindow c n else step
  let r := (d + step * 4096 - first) % max 1 step
  decide (first ≤ d + tol) && (r ≤ tol || step ≤ r + tol) &&
    match s.loopValley c n with
    | some v => t < v + s.loopDelay c n
    | none => true

/-- CONVERTER_RESULT (R126, R128, R129, R133): `nv` is the filter output in nV before the trims; the window of N · M bits ends
at the delivery. The diagnostic converters deliver by scan steps alone (R141). -/
def execConverterResult (t : Nat) (c : Ch) (n : Fin 20) (nv : Int) (s : State) : Res :=
  s.run t fun s =>
    if n.val < 18 && s.cvOn c n && s.arch.alive.get c && s.gridAt c n s.now then
      s.takeResult c n nv (s.now - s.cvWindow c n)
    else s

/-- The converters whose loop samples form the set of slot `k` (R130). A bound converter with CV_ENABLE 0 delivers nothing, so
it is no member of the set (DESIGN CHOICE, log entry 119). -/
def State.setMembers (s : State) (c : Ch) (k : Nat) : List Nat :=
  (upto 18).filter fun n => s.g c (Obj.cvSlotBind c n) == k && s.g c (Obj.cvEnable c n) == 1

/-- The set of slot `k` for the valley at `v` is complete in its channel (R130). -/
def State.setComplete (s : State) (c : Ch) (k v : Nat) : Bool :=
  (s.setMembers c k).all fun n => (s.conv c n).loopAt == some v && (s.conv c n).sample.isSome

/-- The complete set is mirrored to the peers in a class 2 frame (R13, R130). -/
def State.sendSet (s : State) (c : Ch) (k v : Nat) : State :=
  if s.setComplete c k v then
    s.strapSendAll c .samples (.samples k v ((s.setMembers c k).filterMap fun n => (s.conv c n).sample.map fun x => (n, x)))
  else s

/-- LOOP_SAMPLE (R129): the result enters the register like any other, and the loop sample carries its code, its status
bits and its window end (R130). OVRG of the sample is that of its own window (R241). A converter that waits or
calibrates repeats its held code with CAL set (R144). The last sample of the set sends the set to the peers. -/
def execLoopSample (t : Nat) (c : Ch) (n : Fin 20) (nv : Int) (ovrg : Bool) (s : State) : Res :=
  s.run t fun s =>
    if n.val < 18 && s.cvOn c n && s.loopDue c n s.now then
      let k := s.gn c (Obj.cvSlotBind c n)
      let v := (s.loopValley c n).getD 0
      let s := s.takeResult c n nv (s.now - s.cvWindow c n)
      let st := withBit (s.g c (Obj.cvStatus c n)) cvOvrg (ovrg || (s.conv c n).filt)
      let s := s.updConv c n fun x =>
        { x with samplePrev := x.sample, sample := some ⟨s.g c (Obj.cvResult c n), st.toNat, s.now⟩, loopAt := some v }
      s.sendSet c k v
    else s

/-- A converter starts to run free, or over (R128): the next window begins at the end of the last result, or now where
nothing valid came before. -/
def State.runFree (s : State) (c : Ch) (n : Nat) (anew : Bool) : State :=
  s.updConv c n fun x =>
    if anew then { x with last := s.now, gap := true, from_ := s.now, sample := none, samplePrev := none } else { x with gap := true }

/-- OVERRANGE_ONSET (R137): the overload detector reports an input beyond full scale. -/
def execOverrangeOnset (t : Nat) (c : Ch) (n : Fin 20) (positive : Bool) (s : State) : Res :=
  s.run t fun s =>
    if s.cvOn c n then (s.ovrOnset c n positive).updConv c n fun x => { x with det := true } else s

/-- OVERRANGE_CLEAR (R137, R138): the detector reports the input in range. -/
def execOverrangeClear (t : Nat) (c : Ch) (n : Fin 20) (s : State) : Res :=
  s.run t fun s =>
    if (s.conv c n).det then (s.updConv c n fun x => { x with det := false }).ovrEnd c n else s

/-- SETTLING_END (R138): SETTLING clears once its time has passed and no member is in overrange. -/
def execSettlingEnd (t : Nat) (c : Ch) (n : Fin 20) (s : State) : Res :=
  s.run t fun s =>
    if (s.conv c n).settleEnd ≤ s.now && !s.ovrPresent c (n.val / 4) then
      s.bitC c (Obj.cvStatus c n) cvSettling false
    else s

/-- A converter-group fault (R139). -/
def State.groupFault (s : State) (c : Ch) (m : Nat) : State :=
  let s := s.updGrp c m fun g => { g with grpf := true, calOk := 0 }
  let s := forEach (groupMembers m) s fun s n => s.bitC c (Obj.cvStatus c n) cvGrpf true
  (s.health clsGroup (8 * c.num + m)).checkHealth

/-- REFERENCE_BUFFER_FAULT (R139, R152): a report of the supervisor. `outside` is the time since which the buffer stands outside
±2 % of nominal, none where it is back within; outside for longer than 20 µs it is a fault. -/
def execReferenceBufferFault (t : Nat) (c : Ch) (m : Fin 5) (outside : Option Nat) (s : State) : Res :=
  s.run t fun s =>
    let s := s.updGrp c m fun g => { g with bufOut := outside.isSome }
    match outside with
    | some b => if b + 20 * us < s.now then s.groupFault c m else s
    | none => s

/-- GRP_STATUS (R152). -/
def State.grpStatusNow (s : State) (c : Ch) (m : Nat) : Int :=
  b2i (s.ovrPresent c m) + 2 * b2i (s.settlingActive c m) + 4 * b2i (s.grp c m).bufOut + 8 * b2i (s.grp c m).grpf

-- reads of the result register

/-- The read of CV_RESULT by a KDP request (R133). -/
def State.readCvResult (s : State) (c : Ch) (n : Nat) : State := s.bitC c (Obj.cvStatus c n) cvNew false

/-- The effect of a write to CV_STATUS_CLEAR (R136). -/
def State.clearCvStatus (s : State) (c : Ch) (n : Nat) (v : Int) : State :=
  let s := if bit v 2 then s.bitC c (Obj.cvStatus c n) cvOvrn false else s
  if bit v 3 && !(s.conv c n).ovr then s.bitC c (Obj.cvStatus c n) cvOvrg false else s

-- the diagnostic scan

/-- The next source of the scan at or after `i`, in ascending order and round again (R141). -/
def nextSource (mask : Int) (i : Nat) : Option Nat := ((upto 7).map fun j => (i + j) % 7).find? fun j => bit mask j

/-- What the multiplexer gives the modulator for source `i`, in nV (R140): the source's voltage, a quarter of it for VDDIO and
VDDA; for a temperature source `x` is in 10^-6 °C, and the sensor gives 0.600 V at 25 °C and 1.6 mV/°C. -/
def sourceNv (i : Nat) (x : Int) : Int :=
  if i = 2 ∨ i = 3 then divRound x 4 else if 4 ≤ i then 600000000 + divRound ((x - 25000000) * 16) 10 else x

/-- Steps 2 and 3 of R141 have passed since a source was switched: 1 µs and one window. -/
def State.scanned (s : State) (c : Ch) (k : Nat) : Bool :=
  (s.diag c k).since + us + s.cvWindow c (18 + k) ≤ s.now

/-- DIAG_SCAN_STEP (R141): the result of the present source goes to the register and to its DIAG_SRC_CODE; `x` is what the
source shows (R140). A pending injected conversion has abandoned the step (R142), and a calibration holds the register.
Where DIAG_SCAN_MASK has changed during the step, its result counts for the next source of the new mask (DESIGN CHOICE,
log entry 120). -/
def execDiagScanStep (t : Nat) (c : Ch) (k : Fin 2) (x : Int) (s : State) : Res :=
  s.run t fun s =>
    let n := 18 + k.val
    let d := s.diag c k
    let mask := s.g c (Obj.diagScanMask c k)
    match nextSource mask d.src with
    | none => s
    | some i =>
      if !s.cvOn c n || d.inj.isSome || !s.arch.alive.get c || !s.scanned c k then s
      else
        let s := s.endCal c n (s.now - s.cvWindow c n)
        let s := s.updDiag c k fun x => { x with since := s.now }
        if s.calHolds c n then s
        else
          let raw := s.filterCode c n (sourceNv i x)
          let s := s.judgeFilter c n raw
          let code := s.codeOf c n raw
          let s := (s.writeResult c n code false).setC c (Obj.diagSrcCode c k i) code
          (s.updDiag c k fun x => { x with src := (nextSource mask (i + 1)).getD i }).checkHealth

/-- The effect of a write to DIAG_SCAN_MASK (R141): a scan that stood still begins with its first source now. -/
def State.writeScanMask (s : State) (c : Ch) (k : Nat) (v : Int) : State :=
  let was := s.g c (Obj.diagScanMask c k)
  let s := s.setC c (Obj.diagScanMask c k) v
  if was = 0 then s.updDiag c k fun x => { x with since := s.now } else s

/-- The effect of a write to DIAG_INJECT (R142): the present scan step is abandoned and the source switched, unless a
calibration runs (R145). -/
def State.injectDiag (s : State) (c : Ch) (k : Nat) (v : Int) : State :=
  (s.updDiag c k fun x => { x with inj := some v.toNat, since := s.now }).setC c (Obj.diagInjState c k) 1

/-- INJECTED_CONVERSION_DONE (R142): waits for the end of a running calibration (R145), then 1 µs and a window. A request
whose converter is disabled meanwhile stays pending until it is on again (DESIGN CHOICE, log entry 121). The scan goes on
at the abandoned source. -/
def execInjectedConversionDone (t : Nat) (c : Ch) (k : Fin 2) (x : Int) (s : State) : Res :=
  s.run t fun s =>
    let n := 18 + k.val
    let busy := match (s.conv c n).cal with | .running _ _ => true | _ => false
    match (s.diag c k).inj with
    | none => s
    | some i =>
      if busy || !s.cvOn c n || !s.scanned c k then s
      else
        let s := s.endCal c n (s.now - s.cvWindow c n)
        let raw := s.filterCode c n (sourceNv i x)
        let s := s.judgeFilter c n raw
        let code := s.codeOf c n raw
        let s := (s.writeResult c n code true).setC c (Obj.diagInjCode c k) code
        (s.updDiag c k fun x => { x with inj := none, since := s.now }).setC c (Obj.diagInjState c k) 2

-- calibration

/-- Converter `n` of channel `c` is read by a running bridge (R146). -/
def State.readByBridge (s : State) (c : Ch) (n : Nat) : Bool :=
  let k := s.gn c (Obj.cvSlotBind c n)
  (k < 4 && (s.slot c k).en) ||
    s.enabledTasks.any fun j =>
      (match s.taskAxis j with
        | some a => match s.bridgeOf a with
          | some (d, b) => (s.slot d b).en
          | none => false
        | none => false) &&
        (((upto 3).any fun i =>
            let r := s.v (Obj.taskIn j i)
            field r 28 4 == 4 && field r 8 2 == c.num && field r 0 5 == n) ||
          (s.isDq j && (match s.dqSlot j with | some (d, _) => d == c | none => false) &&
            s.v (Obj.dqVdcSource j) == n))

/-- A converter is skipped (R146, R147): its bit goes to CAL_SKIP_MAP. -/
def State.skipCal (s : State) (c : Ch) (n : Nat) : State :=
  let s := s.updConv c n fun x => { x with cal := .idle }
  let s := (s.bitC c (Obj.cvStatus c n) cvCal false).bitC c (Obj.calPending c) n false
  (s.bitC c (Obj.calSkipMap c) n true).endSeeding

/-- One converter is selected for calibration (R146): not a second time, and a disabled one is skipped. -/
def State.selectCal (s : State) (c : Ch) (n : Nat) (ph : CalPhase) : State :=
  if bit (s.g c (Obj.calPending c)) n then s
  else if !s.cvOn c n then s.skipCal c n
  else
    let s := s.updConv c n fun x => { x with cal := ph }
    (s.bitC c (Obj.cvStatus c n) cvCal true).bitC c (Obj.calPending c) n true

/-- The effect of a write to CAL_REQUEST (R146). -/
def State.requestCal (s : State) (c : Ch) (v : Int) : State :=
  forEach ((upto 20).filter (bit v)) s fun s n => s.selectCal c n (.waiting none)

/-- The start-up calibration (R147): every converter, a disabled one skipped. -/
def State.startupCal (s : State) (c : Ch) : State := forEach (upto 20) s fun s n => s.selectCal c n .startup

/-- Converter `n` is next in channel `c`: none calibrates, and none below it is pending (R144). One that waits for its
disturbed group keeps the converters above it waiting, those of other groups too (DESIGN CHOICE, log entry 122). -/
def State.calTurn (s : State) (c : Ch) (n : Nat) : Bool :=
  let p := s.g c (Obj.calPending c)
  bit p n && ((upto 20).all fun i => !bit p i || (n ≤ i && match (s.conv c i).cal with
    | .running _ _ => false
    | _ => true))

/-- Converter `n` waits for its disturbed group from now on, unless it waits already (R146). -/
def State.waitForGroup (s : State) (c : Ch) (n : Nat) : State :=
  match (s.conv c n).cal with
  | .waiting none => s.updConv c n fun x => { x with cal := .waiting (some s.now) }
  | _ => s

/-- CALIBRATION_START (R144 to R147): the converter's turn begins. A pending injected conversion goes first, a disturbed
group makes it wait, and at start-up a disturbed group skips it. -/
def execCalibrationStart (t : Nat) (c : Ch) (n : Fin 20) (s : State) : Res :=
  s.run t fun s =>
    if !s.calTurn c n then s
    else if !s.cvOn c n then s.skipCal c n
    else if 18 ≤ n.val && (s.diag c (n.val - 18)).inj.isSome then s
    else
      match (s.conv c n).cal with
      | .startup => if s.grpBusy c n then s.skipCal c n else s.updConv c n fun x => { x with cal := .running s.now true }
      | .waiting _ => if s.grpBusy c n then s.waitForGroup c n else s.updConv c n fun x => { x with cal := .running s.now false }
      | _ => s

/-- A member of group `m` has calibrated successfully while the buffer is within tolerance; with all four, GRPF clears
(R139). -/
def State.calGood (s : State) (c : Ch) (n : Nat) : State :=
  let m := n / 4
  if (s.grp c m).grpf then
    let ok := (withBit ((s.grp c m).calOk : Int) (n % 4) true).toNat
    if ok = 15 then
      let s := s.updGrp c m fun g => { g with grpf := false, calOk := 0 }
      (forEach (groupMembers m) s fun s i => s.bitC c (Obj.cvStatus c i) cvGrpf false).checkHealth
    else s.updGrp c m fun g => { g with calOk := ok }
  else s

/-- The results of a calibration are within the limits of R143: ±655 codes, and a gain of 0.97 to 1.03 in units of
2^-15. -/
def calPasses (offset gain : Int) : Bool := offset.natAbs ≤ 655 && 31785 ≤ gain && gain ≤ 33751

/-- CALIBRATION_DONE (R143, R144): 40 µs after its start; `bufferOk` tells whether the reference buffer is within
tolerance. -/
def execCalibrationDone (t : Nat) (c : Ch) (n : Fin 20) (offset gain : Int) (bufferOk : Bool) (s : State) : Res :=
  s.run t fun s =>
    match (s.conv c n).cal with
    | .running b _ =>
      if s.now < b + 40 * us then s
      else
        let s := s.updConv c n fun x => { x with cal := .ended s.now, calibrated := true }
        let s := s.updGrp c (n.val / 4) fun g => { g with bufOut := !bufferOk }
        let s := if 18 ≤ n.val then s.updDiag c (n.val - 18) fun x => { x with since := s.now } else s
        let s := (s.bitC c (Obj.calPending c) n false).bitC c (Obj.calSkipMap c) n false
        let s := s.setC c (Obj.calLastTime c) s.now
        let s := if calPasses offset gain then
            let s := (s.setC c (Obj.calOffset c n) offset).setC c (Obj.calGain c n) gain
            let s := s.bitC c (Obj.calFailMap c) n false
            if bufferOk then s.calGood c n else s
          else (s.bitC c (Obj.calFailMap c) n true).groupFault c (n.val / 4)
        s.endSeeding
    | _ => s

/-- CAL_WAIT_TIMEOUT (R146): a converter that has waited more than 100 ms for its group is skipped; the wait counts from
the moment at which its turn finds the group disturbed (log entry 122). -/
def execCalWaitTimeout (t : Nat) (c : Ch) (n : Fin 20) (s : State) : Res :=
  s.run t fun s =>
    match (s.conv c n).cal with
    | .waiting (some b) => if b + 100 * ms < s.now && s.grpBusy c n then s.skipCal c n else s
    | .waiting none => if s.calTurn c n && s.grpBusy c n then s.waitForGroup c n else s
    | _ => s

/-- The converters are off in RETAIN, PARK and OFF and start over at the wake (R135, R148). -/
def State.restartConverters (s : State) (c : Ch) : State :=
  let s := forEach (upto 20) s fun s n =>
    (s.clearResult c n).updConv c n fun x =>
      { x with ovr := false, det := false, filt := false, sample := none, samplePrev := none, loopAt := none
               last := s.now, gap := true, from_ := s.now }
  forEach (upto 2) s fun s k => s.updDiag c k fun x => { x with since := s.now }

end Sys2Proof.Machine
end

