-- ==== Sys2Proof/Machine/Feedback.lean ====
section
/-! DEFINITION. Chapter 06: position sources, homing, step output, sensor ports, resolver trackers, compare lists, axis
latches and extrapolation (R154 to R189). -/

namespace Sys2Proof.Machine

-- status bits of R183

/-- ACTIVE. -/
def fbActive : Nat := 0

/-- DIR. -/
def fbDir : Nat := 1

/-- DOS. -/
def fbDos : Nat := 2

/-- FORMAT_ERR. -/
def fbFormat : Nat := 3

/-- INDEX_SEEN. -/
def fbIndexSeen : Nat := 4

/-- INDEX_MISMATCH. -/
def fbMismatch : Nat := 5

/-- FEEDBACK_SUSPECT. -/
def fbSuspect : Nat := 6

/-- SOURCE_LOST. -/
def fbLost : Nat := 7

/-- STEP_OVERRUN. -/
def fbOverrun : Nat := 8

-- bits of AX_FB_STATUS (R189); SOURCE_OK is formed at the read

/-- HOME_ARMED. -/
def afArmed : Nat := 1

/-- HOMED. -/
def afHomed : Nat := 2

/-- EXTRAP_VALID. -/
def afValid : Nat := 3

/-- EXTRAP_STALE. -/
def afStale : Nat := 4

/-- The sources of channel `c` count: it runs, and their domain has power (R180). -/
def State.counts (s : State) (c : Ch) : Bool := s.arch.alive.get c && s.ioLive c

/-- A number for a source in health reports: kind, channel and instance as in AX_FB_SOURCE (R188). -/
def Src.word : Src → Nat
  | (.port, c, n) => 0x1000 + 0x100 * c.num + n
  | (.sensor, c, n) => 0x2000 + 0x100 * c.num + n
  | (.resolver, c, n) => 0x3000 + 0x100 * c.num + n

/-- A feedback fault of a source is reported to health (R163, R166, R171, R173). -/
def State.feedbackFault (s : State) (x : Src) : State := (s.health clsFeedback x.word).checkHealth

/-- A frame carries a latch of axis `n`. -/
def StrapBody.isLatch (n : Nat) : StrapBody → Bool
  | .latch m .. => m == n
  | _ => false

/-- The latch history of axis `n` is cleared (R179): a latch on its way is of the history that ends. -/
def State.clearLatches (s : State) (n : Nat) : State :=
  let s := { s with arch := { s.arch with queue := s.arch.queue.filter fun m => !m.body.isLatch n } }
  (s.setR (Obj.latchCount n) 0).updAxis n fun a => { a with latchCleared := true }

/-- The latch history of the axis bound to a source is cleared. -/
def State.clearSrcLatches (s : State) (x : Src) : State :=
  match s.axisOfSrc x with
  | some n => s.clearLatches n
  | none => s

/-- FEEDBACK_SUSPECT sets (R158, R162, R163). -/
def State.suspect (s : State) (c : Ch) (n : Nat) : State :=
  (s.bitC c (Obj.fpStatus c n) fbSuspect true).feedbackFault (.port, c, n)

-- RAW and POS

/-- POS after a change of RAW (R159). -/
def posAfter (raw pos : Int) : Int :=
  let d := signed32 (raw - pos)
  if 0 < d then raw else if d < -1 then signed32 (raw + 1) else pos

/-- `s` with RAW of a source moved to `raw`, POS following under R159 and DIR with POS (R183). -/
def State.moveRaw (s : State) (x : Src) (raw : Int) : State :=
  let c := x.2.1
  let p := s.g c x.pos
  let q := posAfter raw p
  let s := (s.setC c x.raw raw).setC c x.pos q
  if q = p then s else s.bitC c x.status fbDir (0 < signed32 (q - p))

/-- `s` with RAW and POS of a source set to a value (R160): no compare entry fires, and it is no motion. -/
def State.setCounters (s : State) (x : Src) (v : Int) : State :=
  let s := match x with
    | (.port, c, n) =>
      let d := v - s.g c (Obj.fpRaw c n)
      s.updFport c n fun p => { p with raw64 := p.raw64 + d }
    | _ => s
  (s.setC x.2.1 x.raw v).setC x.2.1 x.pos v

-- compare lists

/-- The compare list of port `n` is not evaluated while a tracker drives its CMP pin (R172). -/
def State.cmpTaken (s : State) (c : Ch) (n : Nat) : Bool :=
  (upto 3).any fun k => s.g c (Obj.resEnable c k) == 1 && s.g c (Obj.resExcPort c k) == n

/-- The counter that the entries of a port are compared with (R174). -/
def State.cmpValue (s : State) (c : Ch) (n : Nat) : Int :=
  if s.g c (Obj.cmpCounter c n) = 1 then s.g c (Obj.fpRaw c n) else s.g c (Obj.fpPos c n)

/-- An entry is armed for a direction (R174, R176). -/
def cmpArmed (ctl : Int) (up : Bool) : Bool := !bit ctl 3 && (if up then bit ctl 0 else bit ctl 1)

/-- The pulse on the CMP pin after a firing whose pulse would rise at `t` and last `w` ticks: one that is still high then is
extended (R175). -/
def pulseAfter (p : Option (Nat × Nat)) (t w : Nat) : Nat × Nat :=
  match p with
  | some (b, e) => if t < e then (b, t + w) else (t, t + w)
  | none => (t, t + w)

/-- Entry `e` fires (R174, R175): the pulse starts or is extended 20 ns, 6 ticks, after the sample. -/
def State.fireEntry (s : State) (c : Ch) (n e : Nat) : State :=
  let ctl := s.g c (Obj.cmpControl c n e)
  let ctl := withBit ctl 4 true
  let ctl := if bit ctl 2 then withField ctl 0 2 0 else ctl
  let merged : Bool := match (s.fport c n).pulse with
    | some (_, e) => decide (s.now + 6 < e)
    | none => false
  let s := (s.setC c (Obj.cmpControl c n e) ctl).bumpC c (Obj.cmpFireCount c n)
  let s := if merged then s.bumpC c (Obj.cmpMergedCount c n) else s
  s.updFport c n fun x => { x with pulse := some (pulseAfter x.pulse (s.now + 6) (2 * s.gn c (Obj.cmpPulseWidth c n))) }

/-- The firings of one count that took the selected counter from `old` to its present value (R174). -/
def State.fireAll (s : State) (c : Ch) (n : Nat) (old : Int) : State :=
  let v := s.cmpValue c n
  if v = old || s.cmpTaken c n then s
  else
    let up := decide (0 < signed32 (v - old))
    forEach (upto 16) s fun s e =>
      if s.g c (Obj.cmpPosition c n e) == v && cmpArmed (s.g c (Obj.cmpControl c n e)) up then s.fireEntry c n e else s

/-- One count of port `n`: RAW, POS and the compare list. -/
def State.count1 (s : State) (c : Ch) (n : Nat) (d : Int) : State :=
  let old := s.cmpValue c n
  let s := s.updFport c n fun x => { x with raw64 := x.raw64 + d }
  (s.moveRaw (.port, c, n) (signed32 (s.g c (Obj.fpRaw c n) + d))).fireAll c n old

/-- The steps of output port `n` whose rising edges have passed are counted, each at its own instant (R165). -/
def State.settlePort (s : State) (c : Ch) (n : Nat) : State :=
  let p := s.fport c n
  let l := p.steps.filter fun e => e ≤ s.now
  if l.isEmpty then s
  else
    let u := forEach l s fun s e =>
      ({ s with now := e }.updFport c n fun x => { x with lastStep := some e }).count1 c n (if p.dirUp then 1 else -1)
    { u.updFport c n fun x => { x with steps := p.steps.filter fun e => s.now < e } with now := s.now }

/-- The steps of every output port that have risen are counted (R165). -/
def State.settleSteps (s : State) : State := forEach Ch.all s fun s c => forEach (upto 8) s fun s n => s.settlePort c n

/-- Whether a compare entry is behind at its write (R176): the direction of the present move if so. -/
def State.entryBehind (s : State) (c : Ch) (n e : Nat) : Option Int :=
  match s.axisOfSrc (.port, c, n) with
  | none => none
  | some a =>
    let g := s.gen a
    let dir := sgn (signed32 (g.tgt - g.setpoint))
    if g.moves && signed32 (s.g c (Obj.cmpPosition c n e) - s.cmpValue c n) * dir < 0 then some dir else none

/-- BEHIND of an entry judged anew at a write (R176). -/
def State.judgeEntry (s : State) (c : Ch) (n e : Nat) : State :=
  match s.entryBehind c n e with
  | some d => (s.bitC c (Obj.cmpControl c n e) 3 true).updFport c n fun x => { x with behindDir := x.behindDir.put e 0 d }
  | none => (s.bitC c (Obj.cmpControl c n e) 3 false).updFport c n fun x => { x with behindDir := x.behindDir.erase e }

/-- The effect of a write to CMP_CONTROL (R176, R185): FIRED clears, and the read-only bits are ignored. -/
def State.writeCmpControl (s : State) (c : Ch) (n e : Nat) (v : Int) : State :=
  (s.settleSteps.setC c (Obj.cmpControl c n e) (v % 8)).judgeEntry c n e

/-- The effect of a write to CMP_POSITION (R176). -/
def State.writeCmpPosition (s : State) (c : Ch) (n e : Nat) (v : Int) : State :=
  (s.settleSteps.setC c (Obj.cmpPosition c n e) v).judgeEntry c n e

/-- COMPARE_PULSE_END (R175): the pin falls once the pulse has lasted its width. -/
def execComparePulseEnd (t : Nat) (c : Ch) (n : Fin 8) (s : State) : Res :=
  s.run t fun s =>
    match (s.fport c n).pulse with
    | some (_, e) => if e ≤ s.now then s.updFport c n fun x => { x with pulse := none } else s
    | none => s

-- homing

/-- The start point of member `m` in a running group move shifts by `d` (R271). -/
def GMove.shift (x : GMove) (m : Nat) (d : Int) : GMove :=
  let x := { x with s := x.s.mapIdx fun i v => if i = m then v + d else v }
  if x.lead = m then { x with ls := x.ls + d, pa := signed64 (x.pa + d * 2 ^ 32) } else x

/-- The setpoint, T and the pending target move with the counters (R271). -/
def State.shiftGen (s : State) (n : Nat) (d : Int) : State :=
  let s := s.updGen n fun g =>
    { g with pa := signed64 (g.pa + d * 2 ^ 32), tgt := signed32 (g.tgt + d)
             pend := g.pend.map fun p => signed32 (p + d) }.note s.now
  match s.groupOf n with
  | some (g, m) => s.updGroup g fun x =>
    { x with pend := if x.pend.any fun p => p.1 == m then Tbl.modify x.pend m none fun v => v.map fun p => signed32 (p + d) else x.pend
             move := x.move.map fun y => y.shift m d }
  | none => s

/-- What homing clears and sets in the source's status (R164). -/
def State.homeFlags (s : State) (x : Src) : State :=
  let s := s.bitC x.2.1 x.status fbMismatch false
  let was := s.isBitC x.2.1 x.status fbSuspect
  let s := s.bitC x.2.1 x.status fbSuspect false
  let s := match x with
    | (.port, c, n) => s.updFport c n fun p => { p with lastOff := none }
    | _ => s
  if was then s.checkHealth else s

/-- Speed and position/force loops of an axis enter first use at homing (R208). -/
def State.homeFirstUse (s : State) (n : Nat) : State :=
  forEach ((s.tasksOf n).filter fun k => s.taskTy k == 3 || s.taskTy k == 4) s fun s k => s.firstUse k

/-- Axis `n` is homed now through its source `x` (R164): `atIndex` tells whether at an index event. -/
def State.homeAxis (s : State) (n : Nat) (x : Src) (atIndex : Bool) : State :=
  let s := s.settleSteps
  let v := s.v (Obj.axHomeValue n)
  let c := x.2.1
  let shift := signed32 (v - s.g c x.pos)
  let rawShift := v - s.g c x.raw
  let s := s.setCounters x v
  let s := match x with
    | (.port, c, p) =>
      if atIndex then
        let s := s.updFport c p fun q => { q with raw64 := v, ref := v }
        let s := s.bitC c (Obj.fpStatus c p) fbIndexSeen true
        (s.setC c (Obj.indexRaw c p) v).setC c (Obj.indexTime c p) s.now
      else if s.isBitC c (Obj.fpStatus c p) fbIndexSeen then s.updFport c p fun q => { q with ref := q.ref + rawShift }
      else s
    | _ => s
  let s := ((s.homeFlags x).bitR (Obj.axFbStatus n) afArmed false).bitR (Obj.axFbStatus n) afHomed true
  ((s.shiftGen n shift).clearLatches n).homeFirstUse n

/-- The effect of a write to AX_HOME (R164), accepted by its checks. -/
def State.writeHome (s : State) (n : Nat) (v : Int) : State :=
  let s := s.setR (Obj.axHome n) v
  match s.sourceOf n, v with
  | some _, 1 => s.bitR (Obj.axFbStatus n) afArmed true
  | some x, 2 => s.homeAxis n x false
  | _, 0 => s.bitR (Obj.axFbStatus n) afArmed false
  | _, _ => s

-- feedback port inputs

/-- The offset of an index at `x` from the reference (R162). -/
def indexOff (x ref cpr : Int) : Int := (x - ref + cpr / 2) % cpr - cpr / 2

/-- The index check of R162. -/
def State.checkIndex (s : State) (c : Ch) (n : Nat) : State :=
  let p := s.fport c n
  let s := (s.setC c (Obj.indexRaw c n) (s.g c (Obj.fpRaw c n))).setC c (Obj.indexTime c n) s.now
  if !s.isBitC c (Obj.fpStatus c n) fbIndexSeen then
    (s.updFport c n fun x => { x with ref := p.raw64, lastOff := none }).bitC c (Obj.fpStatus c n) fbIndexSeen true
  else
    let off := indexOff p.raw64 p.ref (s.g c (Obj.fpCountsPerRev c n))
    if off.natAbs ≤ s.g c (Obj.fpIndexTol c n) then s.updFport c n fun x => { x with lastOff := none }
    else
      let s := (s.bitC c (Obj.fpStatus c n) fbMismatch true).setC c (Obj.indexOffset c n) off
      let s := s.bumpC c (Obj.fpIndexMismatchCount c n)
      let s := s.logC c 0x0301 (Obj.indexOffset c n).index (leBytesInt 4 off)
      let s := if p.lastOff = some off then s.suspect c n else s
      s.updFport c n fun x => { x with lastOff := some off }

/-- An index event (R162, R164). -/
def State.indexEvent (s : State) (c : Ch) (n : Nat) : State :=
  match s.axisOfSrc (.port, c, n) with
  | some a => if s.isBit (Obj.axFbStatus a) afArmed then s.homeAxis a (.port, c, n) true else s.checkIndex c n
  | none => s.checkIndex c n

/-- A quadrature error (R158). -/
def State.quadError (s : State) (c : Ch) (n : Nat) : State :=
  let again : Bool := match (s.fport c n).quadErrAt with
    | some t => decide (s.now ≤ t + 100 * ms)
    | none => false
  let s := (s.bitC c (Obj.fpStatus c n) fbFormat true).bumpC c (Obj.fpQuadErrCount c n)
  let s := if again then s.suspect c n else s
  s.updFport c n fun x => { x with quadErrAt := some s.now }

/-- The count of a quadrature edge: up when A leads B (R158). -/
def quadCount (aChanged a b : Bool) : Int := if aChanged then (if a = b then -1 else 1) else if a = b then 1 else -1

/-- The counts that accepted levels `a`, `b` after `a0`, `b0` make in the port's mode (R156 to R158): none for a quadrature
error. -/
def edgeCount (mode : Int) (a0 b0 a b : Bool) : Option Int :=
  let riseA := a && !a0
  let riseB := b && !b0
  match mode with
  | 1 => some (if riseA then (if b then 1 else -1) else 0)
  | 2 => some (b2i riseA - b2i riseB)
  | 3 =>
    if a != a0 && b != b0 then none
    else if a != a0 then some (quadCount true a b)
    else if b != b0 then some (quadCount false a b)
    else some 0
  | _ => some 0

/-- Whether accepted levels after `a0`, `b0`, `z0` make an index event (R161). -/
def isIndex (mode : Int) (a0 b0 z0 a b z : Bool) : Bool :=
  match mode with
  | 1 => z && !z0
  | 2 => a && b && z && !(a0 && b0 && z0)
  | _ => false

/-- A sample of a pin at time `t` (R155): every change of the raw level restarts the count, and a level seen on more than
`filter` consecutive samples is accepted, after the inversion. -/
def Pin.sample (p : Pin) (x : PinSample) (inv : Bool) (filter t : Nat) : Pin :=
  let p := { p with raw := x.level, since := t - 2 * (x.samples - 1) }
  if filter < x.samples then { p with level := x.level != inv, known := true } else p

/-- The accepted level before a sample that leaves `q`: for the first level accepted since the sampling began at `from_`, the
one that stood then. -/
def Pin.before (p q : Pin) (from_ : Nat) : Bool :=
  if p.known || !q.known then p.level else if from_ + 2 ≤ q.since then !q.level else q.level

/-- The sampling of a channel's inputs begins (R36, R180): no level has been accepted yet. -/
def State.startPins (s : State) (c : Ch) : State :=
  let s := forEach (upto 8) s fun s n => s.updFport c n fun x => { x with pinA := {}, pinB := {}, pinZ := {}, from_ := s.now }
  { s with safe := { s.safe with frst := s.safe.frst.upd c fun x => { x with from_ := s.now, lastFall := none } } }

/-- FP_EDGE_ACCEPTED (R155): a sample of A, B and Z with the runs of their raw levels passes the filter; the levels that it
accepts act by the port's mode. A count of the same sample comes before the index event (R162). -/
def execFpEdgeAccepted (t : Nat) (c : Ch) (n : Fin 8) (a b z : PinSample) (s : State) : Res :=
  s.run t fun s =>
    if !s.counts c then s
    else
      let p := s.fport c n
      let mode := s.g c (Obj.fpMode c n)
      let inv := s.g c (Obj.fpInvert c n)
      let filter := s.gn c (Obj.fpFilter c n)
      let qa := p.pinA.sample a (bit inv 0) filter s.now
      let qb := p.pinB.sample b (bit inv 1) filter s.now
      let qz := p.pinZ.sample z (bit inv 2) filter s.now
      let a0 := p.pinA.before qa p.from_
      let b0 := p.pinB.before qb p.from_
      let z0 := p.pinZ.before qz p.from_
      let s := s.updFport c n fun x => { x with pinA := qa, pinB := qb, pinZ := qz }
      if mode < 1 || 3 < mode then s
      else
        let s := match edgeCount mode a0 b0 qa.level qb.level with
          | none => s.quadError c n
          | some d => if d = 0 then s else s.count1 c n d
        if isIndex (s.g c (Obj.fpIndexMode c n)) a0 b0 z0 qa.level qb.level qz.level then s.indexEvent c n else s

/-- The effect of a change of FP_INVERT (R155): the accepted levels of the changed pins take their new values at once
and make no edge. -/
def State.writeInvert (s : State) (c : Ch) (n : Nat) (v : Int) : State :=
  let o := s.g c (Obj.fpInvert c n)
  let flip := fun i (x : Pin) => if bit o i = bit v i then x else { x with level := !x.level }
  (s.setC c (Obj.fpInvert c n) v).updFport c n fun p =>
    { p with pinA := flip 0 p.pinA, pinB := flip 1 p.pinB, pinZ := flip 2 p.pinZ }

/-- The first rising edge of a tracker's excitation lies within one period of its enabling: a free value (R172, log entry
125). -/
def State.startExc (s : State) (c : Ch) (k : Nat) : State :=
  (s.updTracker c k fun _ => { exc := s.now + s.free % max 1 (sec / max 1 (s.gn c (Obj.resExcFreq c k))) }).useFree

/-- A source is enabled or disabled (R160, R183): RAW and POS 0, and ACTIVE for a feedback port. The accepted levels of A, B and
Z are those of its inputs, which are sampled in every mode (R155; DEDUCED, log entry 124). -/
def State.enableSource (s : State) (x : Src) (on : Bool) : State :=
  let c := x.2.1
  let s := s.clearSrcLatches x
  let s := forEach [fbActive, fbDos, fbIndexSeen, fbLost] s fun s b => s.bitC c x.status b false
  if !on then s
  else
    let s := (s.setC c x.raw 0).setC c x.pos 0
    match x with
    | (.port, c, n) =>
      (s.updFport c n fun p => { p with raw64 := 0, ref := 0, lastOff := none, steps := [], lastStep := none }).bitC c
        (Obj.fpStatus c n) fbActive true
    | (.sensor, c, n) => s.updSport c n fun p => { p with prev := none, errs := 0, goods := 0, calib := none, lastGood := s.now, syncAt := none }
    | (.resolver, c, k) => s.startExc c k

/-- The effect of a write to FP_MODE: a port that leaves mode 0 is enabled, and one that goes from one mode to another stays
enabled (R160; DESIGN CHOICE, log entry 124). -/
def State.writeFpMode (s : State) (c : Ch) (n : Nat) (v : Int) : State :=
  let o := s.g c (Obj.fpMode c n)
  let s := s.setC c (Obj.fpMode c n) v
  if (o = 0) = (v = 0) then s else s.enableSource (.port, c, n) (v != 0)

/-- The effect of a write to SP_MODE: each change to a mode other than 0 enables the port anew, since the range of its readings
changes with it (R160; DESIGN CHOICE, log entry 124). -/
def State.writeSpMode (s : State) (c : Ch) (n : Nat) (v : Int) : State :=
  let o := s.g c (Obj.spMode c n)
  let s := s.setC c (Obj.spMode c n) v
  if o = v then s else s.enableSource (.sensor, c, n) (v != 0)

/-- The effect of a write to RES_ENABLE. -/
def State.writeResEnable (s : State) (c : Ch) (k : Nat) (v : Int) : State :=
  let o := s.g c (Obj.resEnable c k)
  let s := s.setC c (Obj.resEnable c k) v
  if o = v then s else s.enableSource (.resolver, c, k) (v != 0)

/-- The sources of a channel that its configuration enables are enabled (R160, R517 step 8). -/
def State.enableSources (s : State) (c : Ch) : State :=
  let s := forEach (upto 8) s fun s n => if s.g c (Obj.fpMode c n) = 0 then s else s.enableSource (.port, c, n) true
  let s := forEach (upto 6) s fun s n => if s.g c (Obj.spMode c n) = 0 then s else s.enableSource (.sensor, c, n) true
  forEach (upto 3) s fun s k => if s.g c (Obj.resEnable c k) = 0 then s else s.enableSource (.resolver, c, k) true

/-- The effect of a write to FP_PRESET or SP_PRESET (R160, R163) of an unbound source. -/
def State.preset (s : State) (x : Src) (v : Int) : State :=
  let s := (s.settleSteps.setCounters x v).clearSrcLatches x
  if s.isBitC x.2.1 x.status fbSuspect then (s.bitC x.2.1 x.status fbSuspect false).checkHealth else s

-- output mode

/-- The steps due of an output port: the setpoint of its axis less RAW (R165). -/
def State.stepsDue (s : State) (c : Ch) (n : Nat) : Int :=
  match s.axisOfSrc (.port, c, n) with
  | some a => signed32 ((s.gen a).setpoint - s.g c (Obj.fpRaw c n))
  | none => 0

/-- The spacing of steps in CLK_PER cycles (R165). -/
def State.stepSpacing (s : State) (c : Ch) (n due : Nat) : Nat :=
  max (150 / max 1 due) (max 15 (2 * s.gn c (Obj.stepWidth c n)))

/-- The number of steps that start within the tick: the first at `from_`, then one per `sp` cycles, before `until_`. -/
def stepsFit (from_ until_ sp due : Nat) : Nat :=
  if until_ ≤ from_ then 0 else min due ((until_ - from_ + 2 * sp - 1) / (2 * sp))

/-- One profile tick of an output-mode port (R165, R166): the steps of the coming microsecond are placed, and each is counted
at its rising edge. -/
def State.stepTick (s : State) (c : Ch) (n : Nat) : State :=
  let due := s.stepsDue c n
  if due = 0 then s
  else
    let up := decide (0 < due)
    let s := if 16 < due.natAbs && !s.isBitC c (Obj.fpStatus c n) fbOverrun then
        (s.bitC c (Obj.fpStatus c n) fbOverrun true).feedbackFault (.port, c, n)
      else s
    let s := if (s.fport c n).dirUp = up then s
      else s.updFport c n fun x => { x with dirUp := up, dirReady := s.now + 2 * s.gn c (Obj.dirSetup c n) }
    let p := s.fport c n
    let sp := s.stepSpacing c n due.natAbs
    let low := max 15 (2 * s.gn c (Obj.stepWidth c n))
    let first := max (max s.now p.dirReady) (match p.lastStep with
      | some e => e + 2 * low
      | none => 0)
    s.updFport c n fun x =>
      { x with steps := (upto (stepsFit first (s.now + us) sp due.natAbs)).map fun i => first + 2 * sp * i }

/-- The step outputs at a profile tick (R165). -/
def State.stepAll (s : State) : State :=
  forEach (upto 32) s.settleSteps fun s a =>
    match s.sourceOf a with
    | some (.port, c, n) => if s.g c (Obj.fpMode c n) = 4 && s.counts c then s.stepTick c n else s
    | _ => s

/-- The effect of a write to FP_STATUS_CLEAR (R166, R182): STEP_OVERRUN clears once the backlog is 0. -/
def State.clearFpStatus (s : State) (c : Ch) (n : Nat) (v : Int) : State :=
  let o := Obj.fpStatus c n
  let s := s.settlePort c n
  let s := if bit v 3 then s.bitC c o fbFormat false else s
  let s := if bit v 5 then s.bitC c o fbMismatch false else s
  if bit v 8 && s.stepsDue c n == 0 then s.bitC c o fbOverrun false else s

/-- The effect of a write to SP_STATUS_CLEAR (R186). -/
def State.clearSpStatus (s : State) (c : Ch) (n : Nat) (v : Int) : State :=
  if bit v 3 then s.bitC c (Obj.spStatus c n) fbFormat false else s

-- absolute sources

/-- SOURCE_LOST of a source sets or clears (R171, R173, R179). -/
def State.setLost (s : State) (x : Src) (b : Bool) : State :=
  if s.isBitC x.2.1 x.status fbLost = b then s
  else
    let s := (s.bitC x.2.1 x.status fbLost b).clearSrcLatches x
    if b then s.feedbackFault x else s

/-- The step between two readings, mapped into [-R/2, R/2) (R170). -/
def readStep (r v prev : Int) : Int := (v - prev + r / 2) % r - r / 2

/-- A reading extends RAW (R170). -/
def State.extendRaw (s : State) (x : Src) (prev : Option Nat) (r v : Nat) : State :=
  match prev with
  | none => (s.setC x.2.1 x.raw v).setC x.2.1 x.pos v
  | some p => s.moveRaw x (signed32 (s.g x.2.1 x.raw + readStep r v p))

/-- A good frame of a sensor port with value `v` of range `r` and reading time `at_` (R168 to R171). While SOURCE_LOST
is set RAW and POS hold, and so does the reading that the next one is compared with. SP_VALUE is 16 bits wide and shows the
low 16 bits of a longer PSI5 value (R186; DESIGN CHOICE, log entry 126). -/
def State.goodReading (s : State) (c : Ch) (n r v at_ : Nat) : State :=
  let p := s.sport c n
  let goods := p.goods + 1
  let s := s.updSport c n fun x => { x with errs := 0, goods := goods, lastGood := s.now }
  let s := if 3 ≤ goods then s.setLost (.sensor, c, n) false else s
  let s := (s.setC c (Obj.spValue c n) (v % 65536)).setC c (Obj.spLastTime c n) at_
  let s := s.bitC c (Obj.spStatus c n) fbActive true
  if s.isBitC c (Obj.spStatus c n) fbLost then s
  else (s.extendRaw (.sensor, c, n) p.prev r v).updSport c n fun x => { x with prev := some v }

/-- A frame error of a sensor port (R168, R171). -/
def State.badReading (s : State) (c : Ch) (n : Nat) : State :=
  let errs := (s.sport c n).errs + 1
  let s := s.updSport c n fun x => { x with errs := errs, goods := 0 }
  let s := (s.bitC c (Obj.spStatus c n) fbFormat true).bumpC c (Obj.spErrCount c n)
  if 3 ≤ errs then s.setLost (.sensor, c, n) true else s

/-- The time of a reading: the given instant less SP_AGE (R168, R169). -/
def State.readingTime (s : State) (c : Ch) (n at_ : Nat) : Nat := at_ - s.gn c (Obj.spAge c n) * us

/-- The CRC of a SENT frame's data nibbles: polynomial x^4 + x^3 + x^2 + 1 from seed 5; the recommended variant appends a zero
nibble (R168; PRESUMED from SAE J2716, log entry 127). -/
def sentCrc (legacy : Bool) (l : List Nat) : Nat :=
  let tab : List Nat := [0, 13, 7, 10, 14, 3, 9, 4, 1, 12, 6, 11, 15, 2, 8, 5]
  (if legacy then l else l ++ [0]).foldl (fun a d => (tab.getD (a % 16) 0) ^^^ (d % 16)) 5

/-- The nibbles of a SENT frame: 12 ticks are 0 and 27 ticks are 15 (R168). -/
def sentNibbles (f : SentFrame) : List Nat := f.nibbleTicks.map (· - 12)

/-- The data nibbles of a frame, between the status nibble and the CRC nibble. -/
def sentData (f : SentFrame) : List Nat := ((sentNibbles f).drop 1).dropLast

/-- The value of a frame, most significant nibble first (log entry 127). -/
def sentValue (f : SentFrame) : Nat := (sentData f).foldl (fun a d => a * 16 + d) 0

/-- The data nibbles of the port's mode (R168). -/
def sentLength (mode : Int) : Nat := if mode = 1 then 3 else 4

/-- The checks of a SENT frame (R168): `calib` is in units of 0.01 µs. -/
def State.sentOk (s : State) (c : Ch) (n : Nat) (f : SentFrame) : Bool :=
  let nom : Int := 560 * s.g c (Obj.sentTick c n)
  let near := decide (5 * (f.calib - nom).natAbs ≤ nom)
  let steady := match (s.sport c n).calib with
    | some q => decide (64 * ((f.calib : Int) - q).natAbs ≤ q)
    | none => true
  near && steady && (f.nibbleTicks.all fun x => 12 ≤ x && x ≤ 27) && (sentData f).length == sentLength (s.g c (Obj.spMode c n)) &&
    (sentNibbles f).getLastD 16 == sentCrc (s.g c (Obj.sentCrc c n) == 1) (sentData f) && (s.g c (Obj.sentPause c n) != 1 || f.pause)

/-- SENT_FRAME (R168): the falling edge that ends the CRC nibble lies at the command's time. -/
def execSentFrame (t : Nat) (c : Ch) (n : Fin 6) (f : SentFrame) (s : State) : Res :=
  s.run t fun s =>
    let m := s.g c (Obj.spMode c n)
    if !s.counts c || !(m == 1 || m == 2) then s
    else
      let ok := s.sentOk c n f
      let s := s.updSport c n fun x => { x with calib := some f.calib }
      if ok then
        let st := (sentNibbles f).headD 0
        let s := s.setC c (Obj.spStatusNibble c n) st
        let s := s.setC c (Obj.sentSlowBits c n)
          (s.g c (Obj.sentSlowBits c n) / 4 + ((st / 4 % 4 : Nat) : Int) * 2 ^ 30)
        s.goodReading c n (if m = 1 then 4096 else 65536) (sentValue f) (s.readingTime c n s.now)
      else s.badReading c n

/-- PSI5_SYNC_REQUEST (R169): at the multiples of PSI5_SYNC_PERIOD; the port drives its pin high for 2 µs. -/
def execPsi5SyncRequest (t : Nat) (c : Ch) (n : Fin 6) (s : State) : Res :=
  s.run t fun s =>
    let p := s.gn c (Obj.psi5SyncPeriod c n) * us
    if s.counts c && s.g c (Obj.spMode c n) == 3 && p != 0 && s.now % p == 0 then
      s.updSport c n fun x => { x with syncAt := some s.now, waits := true }
    else s

/-- The 3-bit CRC of a PSI5 frame: polynomial x^3 + x + 1 from seed 7 over the data bits, least significant first, and three
zeros (R169; PRESUMED from PSI5, log entry 127). -/
def psi5Crc (l : List Bool) : Nat :=
  (l ++ [false, false, false]).foldl (fun a b =>
    let x := (a * 2 + if b then 1 else 0) % 16
    if 8 ≤ x then (x - 8) ^^^ 3 else x) 7

/-- The check bits that follow the data bits of a PSI5 frame: even parity, or the CRC, most significant bit first (R169, log
entry 127). -/
def psi5Check (crc : Bool) (l : List Bool) : List Bool :=
  if crc then
    let x := psi5Crc l
    [x / 4 % 2 == 1, x / 2 % 2 == 1, x % 2 == 1]
  else [l.foldl xor false]

/-- The value of data bits, least significant first. -/
def bitsValue (l : List Bool) : Nat := l.foldr (fun b a => 2 * a + if b then 1 else 0) 0

/-- PSI5_FRAME (R169): the first frame whose start bit falls into the 20 µs slot after the sync instant, with its bits, data and
check, and the rate at which they came. -/
def execPsi5Frame (t : Nat) (c : Ch) (n : Fin 6) (startBit : Nat) (rate : Fin 2) (bits : List Bool) (s : State) : Res :=
  s.run t fun s =>
    match (s.sport c n).syncAt with
    | none => s
    | some sy =>
      let from_ := sy + s.gn c (Obj.psi5SlotStart c n) * us
      if !(s.sport c n).waits || !s.counts c || s.g c (Obj.spMode c n) != 3 || startBit < from_ || from_ + 20 * us < startBit then s
      else
        let s := s.updSport c n fun x => { x with waits := false }
        let m := s.gn c (Obj.psi5Bits c n)
        let ok := s.g c (Obj.psi5Rate c n) == rate.val && bits.drop m == psi5Check (s.g c (Obj.psi5Check c n) == 1) (bits.take m)
        if ok then s.goodReading c n (2 ^ m) (bitsValue (bits.take m)) (s.readingTime c n sy) else s.badReading c n

/-- SOURCE_LOST (R171): no good frame for SP_TIMEOUT. -/
def execSourceLost (t : Nat) (c : Ch) (n : Fin 6) (s : State) : Res :=
  s.run t fun s =>
    if s.counts c && s.g c (Obj.spMode c n) != 0 &&
        (s.sport c n).lastGood + s.gn c (Obj.spTimeout c n) * us ≤ s.now then
      (s.setLost (.sensor, c, n) true).updSport c n fun x => { x with goods := 0 }
    else s

-- resolver trackers

/-- A loop sample is flagged: OVRG, SETTLING, CAL or GRPF set, or VALID clear (R173, R241, R332). -/
def sampleFlagged (x : LoopSample) : Bool :=
  !bit x.status 0 || bit x.status 3 || bit x.status 5 || bit x.status 6 || bit x.status 8

/-- A flagged pair (R173): the angle advances by the speed estimate. -/
def Tracker.coast (x : Tracker) : Tracker :=
  { x with angle := (((x.angle : Int) + x.speed) % 65536).toNat, flagged := x.flagged + 1, goodAmp := 0, goodDos := 0
           low := 0, out := 0 }

/-- The amplitude counts of an unflagged pair with a² = `a2` and nominal amplitude `nom` (R173). -/
def Tracker.amplitude (x : Tracker) (a2 nom : Int) : Tracker :=
  let low := decide (4 * a2 < nom * nom)
  let out := decide (25 * a2 < 16 * (nom * nom) ∨ 36 * (nom * nom) < 25 * a2)
  { x with
    flagged := 0
    low := if low then x.low + 1 else 0
    goodAmp := if low then 0 else x.goodAmp + 1
    out := if out then x.out + 1 else 0
    goodDos := if out then 0 else x.goodDos + 1 }

/-- Rising edge `j` of a tracker's excitation (R172). -/
def State.excEdge (s : State) (c : Ch) (k j : Nat) : Nat :=
  (s.tracker c k).exc + (divRound (j * sec) (s.g c (Obj.resExcFreq c k))).toNat

/-- The sampling instant after rising edge `j`: RES_PHASE ns later (R172). -/
def State.resInstant (s : State) (c : Ch) (k j : Nat) : Nat :=
  s.excEdge c k j + (divRound (s.g c (Obj.resPhase c k) * 3) 10).toNat

/-- The sampling instant whose pair of samples is delivered now (R129, R172): the windows lie to it as those of a loop sample
lie to a valley; one pair for each instant. -/
def State.resDue (s : State) (c : Ch) (k : Nat) : Option Nat :=
  let d := s.loopDelay c (12 + 2 * k)
  let j := (s.now - d - (s.tracker c k).exc) * s.gn c (Obj.resExcFreq c k) / sec
  [j - 2, j - 1, j, j + 1].findSome? fun i =>
    let v := s.resInstant c k i
    if v + d ≤ s.now && s.now ≤ v + d + 4 && (s.tracker c k).readAt < v then some v else none

/-- One of a tracker's converters delivers the sample of an instant: its register takes it like any other result, and the sample
carries the overrange of its own window (R129, R130). -/
def State.resConvert (s : State) (c : Ch) (n : Nat) (nv : Int) (ovrg : Bool) : State × LoopSample :=
  let s := if s.cvOn c n then s.takeResult c n nv (s.now - s.cvWindow c n) else s
  let st := withBit (s.g c (Obj.cvStatus c n)) cvOvrg (ovrg || (s.conv c n).filt)
  (s, ⟨s.g c (Obj.cvResult c n), if s.cvOn c n then st.toNat else 0, s.now⟩)

/-- One step of the tracking loop at instant `v` on a pair of samples (R173): a flagged pair makes no correction. The loop's
equations are not given, so its angle and speed after a correction are free values (log entry 7). -/
def State.trackStep (s : State) (c : Ch) (k v : Nat) (x y : LoopSample) : State :=
  let tr := s.tracker c k
  let flagged := sampleFlagged x || sampleFlagged y
  let st := Obj.resStatus c k
  let new : Tracker :=
    if flagged then tr.coast
    else
      { tr.amplitude (x.code * x.code + y.code * y.code) (s.g c (Obj.resAmpNom c k)) with
        angle := s.free % 65536, speed := signed16 s.useFree.free }
  let first := flagged && tr.prev.isNone
  let s := if flagged then s.bitC c st fbFormat true else s.useFree.useFree
  let s := s.updTracker c k fun _ => { new with prev := if first then none else some new.angle, readAt := v }
  let s := if 3 ≤ new.low || 3 ≤ new.flagged then s.setLost (.resolver, c, k) true
    else if 3 ≤ new.goodAmp then s.setLost (.resolver, c, k) false else s
  let dos := if 3 ≤ new.out then true else if 3 ≤ new.goodDos then false else s.isBitC c st fbDos
  let s := if dos = s.isBitC c st fbDos then s else (s.bitC c st fbDos dos).checkHealth
  let s := s.setC c (Obj.resAngle c k) new.angle
  if first then s else (s.bitC c st fbActive true).extendRaw (.resolver, c, k) tr.prev 65536 new.angle

/-- RESOLVER_SAMPLE (R172, R173): the filter outputs of the sine and cosine converters for a sampling instant, in nV before the
trims, with the overranges of their windows. A pair that is flagged before the first valid reading extends nothing (R170), and
ACTIVE sets with the first reading (R183; DESIGN CHOICE, log entry 123). -/
def execResolverSample (t : Nat) (c : Ch) (k : Fin 3) (sin cos : Int) (ovS ovC : Bool) (s : State) : Res :=
  s.run t fun s =>
    match s.resDue c k with
    | some v =>
      if !s.counts c || s.g c (Obj.resEnable c k) != 1 then s
      else
        let p := s.resConvert c (12 + 2 * k) sin ovS
        let q := p.1.resConvert c (13 + 2 * k) cos ovC
        q.1.trackStep c k v p.2 q.2
    | none => s

-- latches and extrapolation

/-- Task `k` reads the latched position of axis `n` (R177, R204, R332). -/
def State.readsLatch (s : State) (k n : Nat) : Bool :=
  (s.taskTy k == 3 && s.taskAxis k == some n) ||
    (!s.isDq k && (upto 3).any fun i =>
      let r := s.v (Obj.taskIn k i)
      field r 28 4 == 2 && field r 0 5 == n)

/-- The period in µs with which axis `n` latches: that of the fastest of its tasks that read position (R177). -/
def State.latchPeriod (s : State) (n : Nat) : Option Nat :=
  ((s.tasksOf n).filter fun k => s.readsLatch k n).foldl (fun b k =>
    let p := s.vn (Obj.taskPeriod k)
    match b with
    | none => some p
    | some q => some (min p q)) none

/-- A latch of axis `n` falls due at the present time (R177). -/
def State.latchDue (s : State) (n : Nat) : Bool :=
  match s.latchPeriod n with
  | some p => p != 0 && s.now % (p * us) == 0
  | none => isCommit s.now

/-- The time at which a source's POS is valid (R177). -/
def State.posTime (s : State) (x : Src) : Nat :=
  match x with
  | (.port, _, _) => s.now
  | (.sensor, c, n) => s.gn c (Obj.spLastTime c n)
  | (.resolver, c, k) => (s.tracker c k).readAt

/-- What a latch with measured value `v` does to the generator of axis `n` (R270, R272). -/
def State.genLatch (s : State) (n : Nat) (v : Int) : State :=
  s.updGen n fun g => g.latch s.now (s.v (Obj.ssWindow n)) v

/-- Channel `c` sends its latch of axis `n` to its peers in class 2 frames (R11, R177); a channel that no frame can reach takes
no part, and its copy follows at once. -/
def State.sendLatch (s : State) (c : Ch) (n : Nat) : State :=
  let g := fun o => s.g c (o n)
  forEach c.peers s fun s d =>
    if s.arch.alive.get d && s.strapPath d c then
      s.strapSend c d .samples (.latch n (g Obj.latchPos) (g Obj.latchTime) (g Obj.latchPrevPos) (g Obj.latchPrevTime) (g Obj.latchCount))
    else s.setLatch d n (g Obj.latchPos) (g Obj.latchTime) (g Obj.latchPrevPos) (g Obj.latchPrevTime) (g Obj.latchCount)

/-- The latch of axis `n` from source `x` (R177), in the channel that holds the source. -/
def State.takeLatch (s : State) (n : Nat) (x : Src) : State :=
  let c := x.2.1
  let s := s.settleSteps
  let p := s.g c x.pos
  if p = s.g c (Obj.latchPos n) && !(s.axis n).latchCleared then s
  else
    let s := s.setLatch c n p (s.posTime x) (s.g c (Obj.latchPos n)) (s.g c (Obj.latchTime n)) (wrapU32 (s.g c (Obj.latchCount n) + 1))
    let s := (s.sendLatch c n).bitR (Obj.axFbStatus n) afStale false
    s.updAxis n fun a => { a with latchCleared := false }

/-- AXIS_LATCH (R177): at the period starts of the fastest reading task, or at the commit instants. A latch of a
position axis also acts on the generator, whether or not the position changed (R270, R272). -/
def execAxisLatch (t : Nat) (n : Fin 32) (s : State) : Res :=
  s.run t fun s =>
    match s.sourceOf n with
    | none => s
    | some x =>
      if !s.latchDue n || !s.srcActive x || !s.counts x.2.1 then s
      else s.once (markLatch n) fun s =>
        let s := s.takeLatch n x
        if s.isForceAxis n then s else s.genLatch n (s.g x.2.1 (Obj.latchPos n))

/-- An extrapolation: the position, whether it is valid, and whether it is stale (R178). -/
structure Extrap where
  pos : Int
  valid : Bool
  stale : Bool
deriving DecidableEq, Repr, Inhabited

/-- The extrapolated position of axis `n` at time `t` (R178). -/
def State.extrapAt (s : State) (n t : Nat) : Extrap :=
  let p1 := s.v (Obj.latchPos n)
  let p0 := s.v (Obj.latchPrevPos n)
  let t1 := s.vn (Obj.latchTime n)
  let t0 := s.vn (Obj.latchPrevTime n)
  let cnt := s.v (Obj.latchCount n)
  if cnt = 0 then ⟨0, false, s.isBit (Obj.axFbStatus n) afStale⟩
  else if cnt = 1 then ⟨p1, false, s.isBit (Obj.axFbStatus n) afStale⟩
  else if t < t0 then ⟨p0, false, s.isBit (Obj.axFbStatus n) afStale⟩
  else if t1 + s.vn (Obj.extrapHorizon n) * us < t then ⟨p1, false, true⟩
  else
    let dp := signed32 (p1 - p0)
    ⟨signed32 (p1 + divRound (dp * ((t : Int) - t1)) ((t1 : Int) - t0)), true, s.isBit (Obj.axFbStatus n) afStale⟩

/-- An extrapolation of axis `n` for time `t` is made: the status bits follow it (R178, R189). -/
def State.noteExtrap (s : State) (n t : Nat) : State :=
  let x := s.extrapAt n t
  (s.bitR (Obj.axFbStatus n) afValid x.valid).bitR (Obj.axFbStatus n) afStale x.stale

/-- The read of AX_EXTRAP_POS (R178, R189). -/
def State.readExtrap (s : State) (n : Nat) : State := s.noteExtrap n s.now

/-- AX_FB_STATUS (R189). -/
def State.axFbStatusNow (s : State) (n : Nat) : Int := withBit (s.v (Obj.axFbStatus n)) 0 (s.sourceOk n)

/-- The effect of a write to AX_FB_SOURCE: a change clears the latch history (R179). -/
def State.writeFbSource (s : State) (n : Nat) (v : Int) : State :=
  if s.v (Obj.axFbSource n) = v then s
  else ((s.setR (Obj.axFbSource n) v).clearLatches n).bitR (Obj.axFbStatus n) afArmed false

/-- The sources stop (R180): every step that has risen is counted, and no other is issued. -/
def State.stopSources (s : State) : State :=
  forEach Ch.all s.settleSteps fun s c => forEach (upto 8) s fun s n => s.updFport c n fun x => { x with steps := [], pulse := none }

/-- The wake of the sources (R180): HOMED clears and the latch histories are cleared; counters and lists stand as saved, and
the inputs are sampled anew. -/
def State.wakeSources (s : State) : State :=
  let s := forEach Ch.all s State.startPins
  forEach (upto 32) s fun s n => (s.clearLatches n).bitR (Obj.axFbStatus n) afHomed false

end Sys2Proof.Machine
end

