-- ==== Sys2Proof/Machine/Operands.lean ====
section
/-! DEFINITION. What a task reads: the arithmetic of R194 to R197, sine and cosine of R242, and the signal references
of R332. -/

namespace Sys2Proof.Machine

-- arithmetic and shift points (R194 to R197, R295 to R297)

/-- A shift point of the primary pass (R296): the exact value there is the sum of plain factors times operands; it is rounded by
a divisor and held within bounds, and the primary pass produced `out`. -/
structure Point where
  terms : List (Int × Int)
  den : Int
  lo : Int
  hi : Int
  out : Int
deriving DecidableEq, Repr, Inhabited

/-- What a pass leaves beside its values: whether a saturation has taken effect (R196), and its shift points, the latest
first. -/
structure Pass where
  sat : Bool := false
  points : List Point := []
deriving DecidableEq, Repr, Inhabited

/-- A computation of the primary pass. -/
abbrev Ar := StateM Pass

/-- The sum of factors times operands. -/
def sumTerms (l : List (Int × Int)) : Int := l.foldl (fun a p => a + p.1 * p.2) 0

/-- A shift point (R194, R195, R296): the sum rounded by `den`, ties away from zero, and clamped; with `flag` the clamp is a
saturation that counts under R196. -/
def shiftPoint (flag : Bool) (l : List (Int × Int)) (den lo hi : Int) : Ar Int := fun b =>
  let x := divRound (sumTerms l) den
  let r := clamp lo hi x
  (r, { sat := b.sat || (flag && r != x), points := ⟨l, den, lo, hi, r⟩ :: b.points })

/-- The rounding of a sum by 2^s, saturated to 32 bits (R194, R195). -/
def satRnd (l : List (Int × Int)) (s : Nat) : Ar Int := shiftPoint true l (2 ^ s) (-2147483648) 2147483647

/-- sat32(a + b) (R195). -/
def add (a b : Int) : Ar Int := satRnd [(1, a), (1, b)] 0

/-- sat32(a - b) (R195). -/
def sub (a b : Int) : Ar Int := satRnd [(1, a), (-1, b)] 0

/-- A clamp to a task's own limits, which is a shift point and no saturation of R196 (R296). -/
def limit (lo hi x : Int) : Ar Int := shiftPoint false [(1, x)] 1 lo hi

/-- `x / 2^s` rounded to the nearest integer, ties away from zero; `x` itself for `s = 0` (R194). -/
def rndExact (x : Int) (s : Nat) : Int := divRound x (2 ^ s)

/-- mul(c, s, x) of R194. -/
def mul (c : Int) (s : Nat) (x : Int) : Ar Int := satRnd [(c, x)] s

/-- rnd(x, k) of R195. -/
def rnd (x : Int) (k : Nat) : Ar Int := satRnd [(1, x)] k

/-- A coefficient with its shift (R7, R200). -/
structure Coef where
  c : Int
  s : Nat
deriving DecidableEq, Repr, Inhabited

/-- mul with a coefficient. -/
def Coef.mul (k : Coef) (x : Int) : Ar Int := Sys2Proof.Machine.mul k.c k.s x

-- the eddy pass

/-- The code constant A of R295. -/
def eddyA : Int := 4093

/-- The coded form of a value (R295). -/
def enc (x : Int) : Int := x * eddyA

/-- The coded sum at a shift point: coded operands, each multiplied by its plain factor, are added exactly (R296); `e` is an
error of the accumulator. -/
def Point.coded (p : Point) (e : Int) : Int := sumTerms (p.terms.map fun q => (q.1, enc q.2)) + e

/-- The check at a shift point (R297): a residue modulo A, or a decoded value that the rounding and the clamp take elsewhere
than the primary pass, is a coding fault. -/
def Point.fault (p : Point) (e : Int) : Bool :=
  p.coded e % eddyA != 0 || clamp p.lo p.hi (divRound (p.coded e / eddyA) p.den) != p.out

/-- The eddy pass of an iteration finds a coding fault: `errs` are the errors of its accumulator by shift point, in the order of
the points (R296, R297). -/
def eddyFault (points : List Point) (errs : List Int) : Bool :=
  (points.zip (errs ++ List.replicate points.length 0)).any fun p => p.1.fault p.2

/-- A bound of an integrator: `x · 2^f`, replaced by the nearest 32-bit value where it lies beyond (R202, R244). -/
def intBound (x : Int) (f : Nat) : Int := sat32 (x * 2 ^ f)

-- sine and cosine (R242)

/-- π / 2 · 2^60, rounded. -/
def halfPi : Int := 1811004864519280711

/-- The terms of the sine series from the n-th on, for an angle `x` with 60 fractional bits. -/
def sinSeries (x : Int) : Nat → Nat → Int → Int → Int
  | 0, _, _, acc => acc
  | k + 1, n, term, acc =>
    sinSeries x k (n + 2) (-(term * x / 2 ^ 60 * x / 2 ^ 60) / ((n + 1) * (n + 2))) (acc + term)

/-- round(32,767 · sin(π / 2 · r / 16,384)) for r of 0 to 16,384. -/
def sinQuarter (r : Nat) : Int :=
  let x := halfPi * r / 16384
  (32767 * sinSeries x 14 1 x 0 + 2 ^ 59) / 2 ^ 60

/-- SINQ15 of R242. -/
def sinQ15 (a : Nat) : Int :=
  let r := a % 16384
  match a / 16384 % 4 with
  | 0 => sinQuarter r
  | 1 => sinQuarter (16384 - r)
  | 2 => -sinQuarter r
  | _ => -sinQuarter (16384 - r)

/-- COSQ15 of R242. -/
def cosQ15 (a : Nat) : Int := sinQ15 (a + 16384)

-- signal references (R332)

/-- The value of an input and whether it is valid (R209). -/
abbrev Sig := Int × Bool

/-- A twin axis (R390). -/
def State.isRoleAxis (s : State) (n : Nat) : Bool := s.isBit Obj.twinSteerAxes n || s.isBit Obj.twinBrakeAxes n

/-- The role tasks run: TWIN_STATE UNPAIRED, PAIRING, HOLDER or SPARE_HOLDER (R400). -/
def State.rolesRun (s : State) : Bool := [0, 1, 3, 9].contains (s.vn Obj.twinState)

/-- Task `k` is no role task, or the role tasks run (R400). -/
def State.roleRuns (s : State) (k : Nat) : Bool := !s.isRole k || s.rolesRun

/-- The last iteration of task `k` in channel `c` was held (R209). -/
def State.isHeld (s : State) (c : Ch) (k : Nat) : Bool := (s.taskSt c k).hold

/-- Every task whose TASK_OUT names object `o`, enabled or not. -/
def State.namersOf (s : State) (o : Nat) : List Nat :=
  (s.tasks.map (·.1)).filter fun k => s.vn (Obj.taskOut k) == o && s.taskTy k != 0

/-- Task `k`'s last iteration was held, as channel `c` knows it: by its own copy where it computes the task, else by the
owner's (R209, R294). -/
def State.heldFor (s : State) (c : Ch) (k : Nat) : Bool := s.isHeld (if s.siteIn k c then c else chOf (s.task k).owner) k

/-- Whether an input that names data object `o` is valid in channel `c` (R209, R333): its enabled writer is placed and
not held; a role task that does not run is no bar; an object with none but disabled writers is invalid; one without
writers carries what the twin's mirror or a remote transfer left (log entry 13). -/
def State.objValid (s : State) (c : Ch) (o : Nat) : Bool :=
  match s.writersOf o with
  | k :: _ => !s.roleRuns k || ((s.task k).placed && !s.heldFor c k)
  | [] => (s.namersOf o).isEmpty

/-- Channel `d` holds the sample `x` of converter `n` of channel `c`: it is its own, or one not older has come in a mirrored set
(R13, R130). -/
def State.holdsSample (s : State) (d c : Ch) (n : Nat) (x : LoopSample) : Bool :=
  d == c || (upto 4).any fun k => match (s.slot c k).mirror.get d with
    | some (_, l) => l.any fun p => p.1 == n && x.time ≤ p.2.time
    | none => false

/-- The latest loop sample of a converter that was delivered at or before an instant and that all of some channels hold
(R332). -/
def State.sampleBy (s : State) (cs : List Ch) (c : Ch) (n start : Nat) : Option LoopSample :=
  let l := [(s.conv c n).sample, (s.conv c n).samplePrev].filterMap id
  l.find? fun x => x.time ≤ start && cs.all fun d => s.holdsSample d c n x

/-- The present value of a dictionary object as a task reads it (R332 kind 0x5). -/
def State.dictValue (s : State) (idx sub : Nat) : Int :=
  match findObj idx sub with
  | none => 0
  | some e =>
    match e.desc.role, e.desc.home with
    | .pgSetpoint, _ => (s.gen e.i).setpoint
    | .pgVelNow, _ => (s.gen e.i).velocity
    | .pgTargetNow, _ => (s.gen e.i).tgt
    | _, .chan => s.g (chOf e.i) e.obj
    | _, _ => s.v e.obj

/-- A dictionary object that holds a result of one channel: read-only, with one copy in that channel. Nothing sends it to the
others between sampling instants, so no other channel can read it as an input (R8, R13; DEDUCED, log entry 129). -/
def State.foreignResult (c : Ch) (idx sub : Nat) : Bool :=
  match findObj idx sub with
  | some e => e.desc.home == .chan && e.desc.acc == .ro && chOf e.i != c
  | none => false

/-- The value of signal reference `r` in channel `c` for an iteration with the given period start that the channels
`cs` compute (R332, R333). -/
def State.signal (s : State) (cs : List Ch) (c : Ch) (start : Nat) (r : Int) : Sig :=
  match field r 28 4 with
  | 0 => (0, true)
  | 1 => (s.dobj c (field r 0 11), s.objValid c (field r 0 11))
  | 2 => (s.v (Obj.latchPos (field r 0 5)), s.sourceOk (field r 0 5))
  | 3 => ((s.gen (field r 0 5)).setpointAt start, true)
  | 4 =>
    match s.sampleBy cs (chOf (field r 8 2)) (field r 0 5) start with
    | some x => (x.code, !sampleFlagged x)
    | none => (0, false)
  | 5 =>
    if State.foreignResult c (field r 8 16) (field r 0 8) then (0, false)
    else (s.dictValue (field r 8 16) (field r 0 8), true)
  | _ => (0, false)

end Sys2Proof.Machine
end

