-- ==== Sys2Proof/Machine/Loops.lean ====
section
/-! DEFINITION. The task types: PID, speed, position/force, observer, rate limiter (R202 to R208) and the dq
current-loop pair (R241 to R244, R248), as functions of the inputs, the coefficients and the task's state. -/

namespace Sys2Proof.Machine

/-- What an iteration produces (R195 to R204, R220, R225, R299). -/
structure Iter where
  st : TaskSt := {}
  outs : List Int := []
  /-- traced values by node code (R225, R247) -/
  nodes : List (Nat × Int) := []
  /-- the error that R214 supervises, and LAST_ERROR -/
  err : Int := 0
  /-- words that the primary pass writes to the task's state, in order (R299); what it writes of the held state and of the
  first-use mark is added by the iteration -/
  words : List Int := []
deriving DecidableEq, Repr, Inhabited

/-- What a task's configuration gives an iteration. -/
structure LoopCfg where
  coef : List Coef := []
  hi : Int := 2147483647
  lo : Int := -2147483648
  frac : Nat := 8
  init : Int := 0
deriving DecidableEq, Repr, Inhabited

/-- Coefficient slot `i`. -/
def LoopCfg.k (f : LoopCfg) (i : Nat) : Coef := f.coef.getD i ⟨0, 0⟩

/-- The configuration of task `k` with bank `b` (R198, R200). -/
def State.loopCfg (s : State) (k b : Nat) : LoopCfg :=
  { coef := (upto 8).map fun i => ⟨s.v (Obj.coef k b i), s.vn (Obj.shift k b i)⟩
    hi := s.v (Obj.outMax k b)
    lo := s.v (Obj.outMin k b)
    frac := s.vn (Obj.intFrac k)
    init := s.v (Obj.intInit k) }

-- the controller shared by PID, speed and position/force loops

/-- The integrator and SAT before an iteration with error `e` (R202, R203). -/
def Integ.judge (x : Integ) (e : Int) : Integ := if x.sat && (sgn e != x.esign || e == 0) then { x with sat := false } else x

/-- The integrator with increment `inc`, within `lo .. hi` (R202). -/
def Integ.step (x : Integ) (inc lo hi : Int) : Ar Integ := do
  if x.sat && sgn inc == x.dir then pure x
  else
    let i ← add x.i inc
    let i ← limit lo hi i
    pure { x with i := i }

/-- The integrator with SAT set by a clamped output (R202). -/
def Integ.clampTo (x : Integ) (clamped : Bool) (dir e : Int) : Integ :=
  if clamped then { x with sat := true, dir := dir, esign := sgn e } else x

/-- The words of an integrator and its anti-windup state (R299). -/
def Integ.words (x : Integ) : List Int := [x.i, b2i x.sat, x.dir, x.esign]

/-- The output of R202 from its terms, and the state after it. -/
def control (f : LoopCfg) (st : TaskSt) (e d ff : Int) : Ar Iter := do
  let lo := intBound f.lo f.frac
  let hi := intBound f.hi f.frac
  let pid := st.pid.judge e
  let p ← (f.k 0).mul e
  let inc ← (f.k 1).mul e
  let pid ← pid.step inc lo hi
  let i ← rnd pid.i f.frac
  let x1 ← add p i
  let x2 ← add x1 d
  let raw ← add x2 ff
  let u ← limit f.lo f.hi raw
  let now := raw != u
  let pid := pid.clampTo now (if f.hi < raw then 1 else -1) e
  let st := { st with pid := pid, d := d, satNow := now, uLast := u, eLast := e }
  pure { st := st, outs := [u], err := e
         nodes := [(2, e), (3, p), (4, i), (5, d), (6, ff), (7, raw), (8, u), (11, pid.i)]
         words := pid.words ++ [d, b2i now, u, e] }

/-- The presets of R208 that the three controllers share. -/
def preset (f : LoopCfg) (st : TaskSt) : TaskSt :=
  let i0 := st.preset.getD (sat32 (f.init * 2 ^ f.frac))
  { st with d := 0, satNow := false, preset := none
            pid := { i := clamp (intBound f.lo f.frac) (intBound f.hi f.frac) i0 } }

/-- The derivative term of R202. -/
def derivative (f : LoopCfg) (st : TaskSt) (e : Int) : Ar Int := do
  let de ← sub e st.ePrev
  let kd ← (f.k 2).mul de
  let dd ← sub kd st.d
  let fd ← (f.k 3).mul dd
  add st.d fd

/-- PID (R202): inputs r, y and f. -/
def pidLoop (f : LoopCfg) (st : TaskSt) (afterHold : Bool) (r y ffIn : Int) : Ar Iter := do
  let e ← sub r y
  let st := if st.first then { preset f st with ePrev := e } else if afterHold then { st with ePrev := e } else st
  let d ← derivative f st e
  let ff ← (f.k 4).mul ffIn
  let x ← control f st e d ff
  pure { x with
    st := { x.st with ePrev := e, fLast := ffIn }
    nodes := (0, r) :: (1, y) :: (10, ffIn) :: x.nodes, words := x.words ++ [e, ffIn] }

/-- Speed loop (R204): reference r and latched position p. -/
def speedLoop (f : LoopCfg) (st : TaskSt) (afterHold : Bool) (r p : Int) : Ar Iter := do
  let st := if st.first then { preset f st with pPrev := p, rPrev := r, vf := 0 }
    else if afterHold then { st with pPrev := p, rPrev := r } else st
  let v ← satRnd [(65536, signed32 (p - st.pPrev))] 0
  let vf ← if afterHold && !st.first then pure st.vf else do
    let dv ← sub v st.vf
    let fv ← (f.k 2).mul dv
    add st.vf fv
  let e ← sub r vf
  let dr ← sub r st.rPrev
  let ff ← (f.k 3).mul dr
  let x ← control f { st with vf := vf, pPrev := p, rPrev := r } e 0 ff
  pure { x with
    st := { x.st with drLast := dr }
    nodes := (0, r) :: (1, p) :: x.nodes.map fun n => if n.1 == 5 then (5, vf) else n
    words := p :: vf :: r :: dr :: x.words }

/-- Position/force loop (R205): reference r and measurement y. -/
def posLoop (f : LoopCfg) (st : TaskSt) (afterHold : Bool) (r y : Int) : Ar Iter := do
  let e := signed32 (r - y)
  let st := if st.first then { preset f st with ePrev := e, rPrev := r }
    else if afterHold then { st with ePrev := e, rPrev := r } else st
  let d ← derivative f st e
  let dr := signed32 (r - st.rPrev)
  let ff ← (f.k 4).mul dr
  let x ← control f st e d ff
  pure { x with
    st := { x.st with ePrev := e, rPrev := r, drLast := dr }
    nodes := (0, r) :: (1, y) :: x.nodes, words := r :: dr :: e :: x.words }

/-- First-order observer (R206): measurement y and input u. -/
def observer (f : LoopCfg) (st : TaskSt) (y u : Int) : Ar Iter := do
  let x0 := if st.first then y else st.x
  let e ← sub y x0
  let a ← (f.k 0).mul e
  let b ← add x0 a
  let c ← (f.k 1).mul u
  let raw ← add b c
  let x ← limit f.lo f.hi raw
  pure { st := { st with x := x, satNow := raw != x, uLast := x, eLast := e }
         outs := [x], err := e, words := [x, b2i (raw != x), e]
         nodes := [(1, y), (2, e), (7, raw), (8, x), (10, u)] }

/-- Rate limiter (R207): input x. -/
def rateLimiter (f : LoopCfg) (st : TaskSt) (xin : Int) : Ar Iter := do
  let y0 := if st.first then xin else st.x
  let e ← sub xin y0
  let m ← shiftPoint false [(1, xin), (-1, y0)] 1 (-(f.k 1).c) (f.k 0).c
  let raw ← add y0 m
  let y ← limit f.lo f.hi raw
  pure { st := { st with x := y, satNow := raw != y, uLast := y, eLast := e }
         outs := [y], err := e, words := [y, b2i (raw != y), e]
         nodes := [(1, xin), (2, e), (7, raw), (8, y)] }

-- current limit (R248)

/-- What an axis's configuration gives the current limit (R251). -/
structure LimitCfg where
  base : Int := 0
  boost : Int := 0
  headroom : Int := 0
  slew : Int := 100
  tau : Int := 50
  holdDelay : Nat := 500
  holdFraction : Int := 0x4000
  stallSpeed : Int := 1000
deriving DecidableEq, Repr, Inhabited

/-- The configuration of axis `n`. -/
def State.limitCfg (s : State) (n : Nat) : LimitCfg :=
  ⟨s.v (Obj.baseLimit n), s.v (Obj.boostLimit n), s.v (Obj.boostHeadroom n), s.v (Obj.boostSlew n), s.v (Obj.loadTau n),
    s.vn (Obj.holdDelay n), s.v (Obj.holdFraction n), s.v (Obj.stallSpeed n)⟩

/-- The limit at first use (R248). -/
def Limit.fresh (f : LimitCfg) : Limit := { lb := f.base }

/-- One update of the limit (R248): `per` is the PWM period in ticks and `t` the sampling instant. -/
def Limit.step (x : Limit) (f : LimitCfg) (per t : Nat) (still : Bool) (iq : Int) : Limit :=
  let l := x.l + divRound ((iq.natAbs * 65536 - x.l) * per) (f.tau * ms)
  let tg := clamp f.base f.boost (l / 65536 + f.headroom)
  let quota := f.slew * per + x.lbRem
  let most := quota / ms
  let lb := if x.lb < tg then min tg (x.lb + most) else max tg (x.lb - most)
  let since := if still then some (x.stillSince.getD t) else none
  let held := match since with
    | some b => decide (b + f.holdDelay * ms ≤ t)
    | none => false
  let h := if held then max f.holdFraction (x.h - divRound ((32768 - f.holdFraction) * per) (10 * ms)) else 32768
  { x with l := l, lb := lb, lbRem := quota % ms, h := h, stillSince := since, ilimit := divRound (lb * h) 32768 }

/-- The stall timer after an iteration (R249): it runs while the limit stands at BOOST_LIMIT, the reference is clamped
and the axis moves slower than STALL_SPEED; a held iteration does not move it (R241). -/
def Limit.time (x : Limit) (f : LimitCfg) (per : Nat) (limited : Bool) (dpos : Int) : Limit :=
  if x.lb = f.boost && limited && decide (dpos.natAbs * (sec : Int) < f.stallSpeed * per) then
    { x with stall := match x.stall with
        | some n => some (n + per)
        | none => some 0 }
  else { x with stall := none }

/-- The words of a current limit (R299). -/
def Limit.words (x : Limit) : List Int :=
  let o := fun (n : Option Nat) => match n with
    | some t => (t : Int) + 1
    | none => 0
  [x.l, x.lb, x.lbRem, x.h, x.ilimit, o x.stillSince, o x.stall]

-- the dq current-loop pair

/-- What a dq pair's configuration gives an iteration beyond the coefficients (R237, R245). -/
structure DqCfg where
  top : Nat := 3750
  dutyMax : Int := 0x7333
  angleOffset : Int := 0
  recon : Bool := true
  sumLimit : Int := 1638
deriving DecidableEq, Repr, Inhabited

/-- The electrical angle of a position (R242): the product is exact and the result wraps. -/
def electricalAngle (f : LoopCfg) (offset pos : Int) : Int :=
  rndExact (signed32 (pos - offset) * (f.k 7).c) (f.k 7).s % 2 ^ 32

/-- The phase currents of an iteration, whether its inputs are valid, and DQ_STATUS bits RECON and SUM_ERR (R241). -/
def phases (f : DqCfg) (x : Inputs) : (Int × Int × Int) × Bool × Bool × Bool :=
  match x.usable.a, x.usable.b, x.usable.c with
  | true, true, true =>
    if f.sumLimit = 0 || decide ((x.iu + x.iv + x.iw).natAbs ≤ f.sumLimit) then ((x.iu, x.iv, x.iw), true, false, false)
    else ((x.iu, x.iv, x.iw), false, false, true)
  | false, true, true => ((sat32 (-(x.iv + x.iw)), x.iv, x.iw), f.recon, f.recon, false)
  | true, false, true => ((x.iu, sat32 (-(x.iu + x.iw)), x.iw), f.recon, f.recon, false)
  | true, true, false => ((x.iu, x.iv, sat32 (-(x.iu + x.iv))), f.recon, f.recon, false)
  | _, _, _ => ((x.iu, x.iv, x.iw), false, false, false)

/-- A dq iteration's inputs are valid (R209, R241). -/
def dqValid (f : DqCfg) (x : Inputs) : Bool := (phases f x).2.1 && x.vdcOk && decide (0 < x.vdc) && x.valid

/-- DQ_STATUS bits of an iteration that held, or of its sensing alone (R246). -/
def dqHeldStatus (f : DqCfg) (x : Inputs) (old : Nat) : Nat :=
  old % 16 + 16 * b2n (phases f x).2.2.1 + 32 * b2n (phases f x).2.2.2

/-- Vlim of R243: one rounding, and the clamp to OUT_MAX. -/
def dqVlim (f : LoopCfg) (g : DqCfg) (vdc : Int) : Ar Int :=
  shiftPoint false [((2 * g.dutyMax - 32768) * 18919, vdc)] (2 ^ 30) (-(2 ^ 63)) f.hi

/-- prod(a, b) of R243. -/
def prod (a b : Int) : Ar Int := satRnd [(a, b)] 0

/-- The electrical angle of R242 as the pass forms it: one rounding, and the result wraps. -/
def dqAngle (f : LoopCfg) (offset pos : Int) : Ar Int := do
  let x ← shiftPoint false [((f.k 7).c, signed32 (pos - offset))] (2 ^ (f.k 7).s) (-(2 ^ 64)) (2 ^ 64)
  pure (x % 2 ^ 32)

/-- The currents of R243 in the rotor frame. -/
def dqCurrents (iu iv iw sn cs : Int) : Ar (Int × Int × Int × Int) := do
  let t1 ← satRnd [(2, iu), (-1, iv)] 0
  let t2 ← sub t1 iw
  let ia ← mul 21845 16 t2
  let t3 ← sub iv iw
  let ib ← mul 37837 16 t3
  let id ← satRnd [(cs, ia), (sn, ib)] 15
  let iq ← satRnd [(cs, ib), (-sn, ia)] 15
  pure (ia, ib, id, iq)

/-- The feedforward terms of R243. -/
def dqForward (f : LoopCfg) (w id iq : Int) : Ar (Int × Int) := do
  let pq ← prod w iq
  let a ← (f.k 5).mul pq
  let fd ← sub 0 a
  let pd ← prod w id
  let b ← (f.k 4).mul pd
  let c ← (f.k 6).mul w
  let fq ← add b c
  pure (fd, fq)

/-- One PI controller of R243: its new integrator and its raw output. -/
def dqPI (x : Integ) (kp ki : Coef) (e ff vlim : Int) (frac : Nat) : Ar (Integ × Int) := do
  let x := x.judge e
  let inc ← ki.mul e
  let x ← x.step inc (intBound (-vlim) frac) (intBound vlim frac)
  let p ← kp.mul e
  let i ← rnd x.i frac
  let a ← add p i
  let v ← add a ff
  pure (x, v)

/-- The duty of one phase (R243): the division is rounded, and the sum clamped. -/
def dqDuty (v vm vdc dmax : Int) : Ar Int := do
  let q ← shiftPoint false [(32768, v), (-32768, vm)] vdc (-(2 ^ 63)) (2 ^ 63)
  shiftPoint false [(1, 16384), (1, q)] 1 (32768 - dmax) dmax

/-- The modulation of R243: the duties of U, V and W. -/
def dqModulate (vd vq sn cs vdc dmax : Int) : Ar (Int × Int × Int) := do
  let va ← satRnd [(cs, vd), (-sn, vq)] 15
  let vb ← satRnd [(sn, vd), (cs, vq)] 15
  let h ← mul 16384 15 va
  let b ← mul 28378 15 vb
  let vu := va
  let vv ← sub b h
  let nb ← sub 0 b
  let vw ← sub nb h
  let mm ← add (max vu (max vv vw)) (min vu (min vv vw))
  let vm ← rnd mm 1
  let du ← dqDuty vu vm vdc dmax
  let dv ← dqDuty vv vm vdc dmax
  let dw ← dqDuty vw vm vdc dmax
  pure (du, dv, dw)

/-- The integrators of an iteration: from 0 at first use (R244). -/
def dqFresh (first : Bool) (x : Integ) : Integ := if first then {} else x

/-- One iteration of a dq pair with valid inputs (R241 to R244, R248, R249). `still` is the axis's standstill. -/
def dqLoop (f : LoopCfg) (g : DqCfg) (l : LimitCfg) (st : TaskSt) (still : Bool) (x : Inputs) : Ar Iter := do
  let th ← dqAngle f g.angleOffset x.pos
  let th0 := if st.first then (if x.posValid then electricalAngle f g.angleOffset x.posPrev else th) else st.thPrev
  let lim0 := if st.first then Limit.fresh l else st.lim
  let lim := lim0.step l (2 * g.top) x.start still x.y
  let a := (th / 65536 % 65536).toNat
  let sn := sinQ15 a
  let cs := cosQ15 a
  let (iu, iv, iw) := (phases g x).1
  let (ia, ib, id, iq) ← dqCurrents iu iv iw sn cs
  let w ← rnd (signed32 (th - th0)) 16
  let il := lim.ilimit
  let dr ← limit (-il) il x.r
  let qm := isqrt (il * il - dr * dr)
  let qr ← limit (-qm) qm x.y
  let limited := dr != x.r || qr != x.y
  let vlim ← dqVlim f g x.vdc
  let (fd, fq) ← dqForward f w id iq
  let ed ← sub dr id
  let eq ← sub qr iq
  let (ctlD, vdRaw) ← dqPI (dqFresh st.first st.ctlD) (f.k 0) (f.k 1) ed fd vlim f.frac
  let (ctlQ, vqRaw) ← dqPI (dqFresh st.first st.ctlQ) (f.k 2) (f.k 3) eq fq vlim f.frac
  let vd ← limit (-vlim) vlim vdRaw
  let vqm := isqrt (vlim * vlim - vd * vd)
  let vq ← limit (-vqm) vqm vqRaw
  let ctlD := ctlD.clampTo (vd != vdRaw) (sgn vdRaw) ed
  let ctlQ := ctlQ.clampTo (vq != vqRaw) (sgn vqRaw) eq
  let vLim := vd != vdRaw || vq != vqRaw
  let (du, dv, dw) ← dqModulate vd vq sn cs x.vdc g.dutyMax
  let status := b2n ctlD.sat + 2 * b2n ctlQ.sat + 4 * b2n vLim + 8 * b2n limited + 16 * b2n (phases g x).2.2.1
  let lim := if st.first then { lim with stall := none }
    else lim.time l (2 * g.top) limited (signed32 (x.pos - st.posPrev))
  let st := { st with ctlD := ctlD, ctlQ := ctlQ, thPrev := th, posPrev := x.pos, duty := ⟨du, dv, dw⟩, lim := lim
                      dqStatus := status, satNow := vLim, uLast := vq, eLast := eq, vdLast := vd, edLast := ed
                      wLast := w, idLast := id, iqLast := iq, vdcLast := x.vdc }
  pure { st := st, outs := [du, dv, dw], err := eq
         words := [th, x.pos, du, dv, dw, status, b2i vLim, vq, eq, vd, ed, w, id, iq, x.vdc] ++ ctlD.words ++ ctlQ.words ++ lim.words
         nodes := [(0x10, iu), (0x11, iv), (0x12, iw), (0x13, ia), (0x14, ib), (0x15, id), (0x16, iq), (0x17, dr)
           , (0x18, qr), (0x19, vd), (0x1A, vq), (0x1B, signed32 th), (0x1C, w), (0x1D, x.vdc), (0x1E, du), (0x1F, dv)
           , (0x20, dw), (0x21, ctlD.i), (0x22, ctlQ.i), (0x23, il), (0x24, (status : Nat))] }

-- coefficient banks (R211, R244)

/-- The bumpless integrator of R211: output `u`, proportional term, `d` and feedforward under the new bank. -/
def bumpless (u p d ff lo hi : Int) (frac : Nat) : Int :=
  let t := sat32 (sat32 (sat32 (u - p) - d) - ff)
  clamp lo hi (t * 2 ^ frac)

/-- The feedforward term of a task type with the new bank's coefficients and the last inputs (R202, R204, R205). -/
def lastForward (ty : Nat) (f : LoopCfg) (st : TaskSt) : Int :=
  match ty with
  | 1 => ((f.k 4).mul st.fLast {}).1
  | 3 => ((f.k 3).mul st.drLast {}).1
  | _ => ((f.k 4).mul st.drLast {}).1

/-- The state of a task after a swap to bank `b` with configuration `f` (R211, R212, R244). -/
def swapBank (ty : Nat) (f : LoopCfg) (g : DqCfg) (b : Nat) (st : TaskSt) : TaskSt :=
  if st.first then { st with bank := b }
  else if ty = 1 || ty = 3 || ty = 4 then
    let p := ((f.k 0).mul st.eLast {}).1
    let i := bumpless st.uLast p (if ty = 3 then 0 else st.d) (lastForward ty f st)
      (intBound f.lo f.frac) (intBound f.hi f.frac) f.frac
    { st with bank := b, pid := { st.pid with i := i } }
  else if ty = 2 then
    let v := (dqVlim f g st.vdcLast {}).1
    let ff := (dqForward f st.wLast st.idLast st.iqLast {}).1
    let pd := ((f.k 0).mul st.edLast {}).1
    let pq := ((f.k 2).mul st.eLast {}).1
    let lo := intBound (-v) f.frac
    let hi := intBound v f.frac
    { st with
      bank := b
      ctlD := { st.ctlD with i := bumpless st.vdLast pd 0 ff.1 lo hi f.frac }
      ctlQ := { st.ctlQ with i := bumpless st.uLast pq 0 ff.2 lo hi f.frac } }
  else { st with bank := b }

end Sys2Proof.Machine
end

