-- ==== Sys2Proof/Machine/Traces.lean ====
section
/-! DEFINITION. Traces of a task's nodes (R222 to R231). -/

namespace Sys2Proof.Machine

/-- The node list of trace `k`: the codes before the first unused slot (R225). -/
def State.traceList (s : State) (k : Nat) : List Nat :=
  ((upto 8).map fun i => field (s.v (Obj.traceNodes k)) (8 * i) 8).takeWhile (· != 255)

/-- A node code of R225 or R247. -/
def nodeDefined (c : Nat) : Bool := c ≤ 0x0B || (0x10 ≤ c && c ≤ 0x24)

/-- The node list is well formed: at least one node, defined codes, and nothing used after an unused slot (R225). -/
def State.traceListOk (s : State) (k : Nat) : Bool :=
  let all := (upto 8).map fun i => field (s.v (Obj.traceNodes k)) (8 * i) 8
  let l := s.traceList k
  !l.isEmpty && l.all nodeDefined && (all.drop l.length).all (· == 255)

/-- Bytes of a record of trace `k` (R224). -/
def State.traceRecBytes (s : State) (k : Nat) : Nat := 8 + 4 * (s.traceList k).length

/-- Bytes of the pool that trace `k` needs (R226, R228). -/
def State.traceNeed (s : State) (k : Nat) : Nat := s.vn (Obj.traceLength k) * s.traceRecBytes k

/-- The pool of channel `c` in use by traces other than `k` (R223, R228). -/
def State.poolUsed (s : State) (c : Ch) (k : Nat) : Nat :=
  (s.traces.filter fun p => p.1 != k && p.2.chan == some c).foldl (fun a p => a + p.2.pool) 0

/-- The channel that runs a task's owner iteration, if it is one of this device's. -/
def State.ownerCh (s : State) (k : Nat) : Option Ch := Ch.ofNum? (s.task k).owner

/-- The effect of arming trace `k` (R226). -/
def State.armTrace (s : State) (k : Nat) : State :=
  match s.ownerCh k with
  | none => s.updTrace k fun _ => { state := 4, cause := 2 }
  | some c =>
    let s := (s.setR (Obj.traceChannel k) c.num).setR (Obj.traceDropped k) 0
    s.updTrace k fun _ =>
      { state := 1, chan := some c, fire := s.v (Obj.traceTrigSrc k) == 0, pool := s.traceNeed k
        lastBank := (s.taskSt c k).bank, lastEngine := (s.task k).engines.get c, fifoAt := s.now }

/-- The effect of a write to TRACE_CONTROL (R226, R228). -/
def State.writeTraceControl (s : State) (k : Nat) (v : Int) : State :=
  match v with
  | 0 => s.stopTrace k 1
  | 1 => s.armTrace k
  | 2 => s.updTrace k fun x => if x.state == 1 then { x with fire := true } else x
  | 3 => (s.setR (Obj.traceChannel k) 255).updTrace k fun _ => {}
  | _ => s

/-- The ring before the trigger (R227). -/
def State.tracePreCap (s : State) (k : Nat) : Nat := s.vn (Obj.traceLength k) * s.vn (Obj.tracePre k) / 100

/-- A marker of code `m` with argument `a` (R224). -/
def marker (n m a : Nat) : Nat × List Int := (2 ^ 64 - 1, ((m + 65536 * a : Nat) : Int) :: List.replicate (n - 1) 0)

/-- The traces whose FIFOs on an engine hold bytes (R223). -/
def State.fullFifos (s : State) (c : Ch) (e : Nat) : List Nat :=
  (s.traces.filter fun p => p.2.chan == some c && (s.task p.1).engines.get c == e && p.2.fifo != 0).map (·.1)

/-- The FIFO of trace `k` drains by some of the bytes that its engine can still move: how the engine shares its rate among its
FIFOs is open (R223, log entry 6). -/
def State.drainFifo (p : State × Nat) (k : Nat) : State × Nat :=
  let x := p.1.trace k
  let n := min x.fifo (p.1.free % (p.2 + 1))
  ((p.1.updTrace k fun x => { x with fifo := x.fifo - n, fifoAt := p.1.now }).useFree, p.2 - n)

/-- An engine drains its FIFOs: together at most 50 MB/s since they last drained (R223). -/
def State.drainEngine (s : State) (c : Ch) (e : Nat) : State :=
  let l := s.fullFifos c e
  let since := l.foldl (fun t k => max t (s.trace k).fifoAt) 0
  (l.foldl State.drainFifo (s, (s.now - since) * 50 / us)).1

/-- One entry enters the trace through the capture FIFO (R223); an entry that does not fit is dropped and counted. -/
def State.traceEntry (s : State) (k : Nat) (e : Nat × List Int) : State :=
  let s := match (s.trace k).chan with
    | some c => s.drainEngine c ((s.task k).engines.get c)
    | none => s
  let x := s.trace k
  let full := x.fifo
  let n := s.traceRecBytes k
  let cap := if x.state = 1 then s.tracePreCap k else 2 ^ 40
  let keep := fun (l : List (Nat × List Int)) => l.drop (l.length - cap)
  if 4096 < full + n then
    (s.bumpR (Obj.traceDropped k)).updTrace k fun x =>
      { x with dropped := true, dropRun := x.dropRun + 1, fifo := full, fifoAt := s.now }
  else
    let mark := if x.dropRun = 0 then [] else [marker (s.traceList k).length 1 (min 65535 x.dropRun)]
    s.updTrace k fun x => { x with dropRun := 0, fifo := full + n, fifoAt := s.now, recs := keep (x.recs ++ mark ++ [e]) }

/-- Whether the trigger condition of R226 holds at an iteration with node value `v` that starts at `start`. -/
def State.traceTriggers (s : State) (k start : Nat) (v : Int) (event : Bool) : Bool :=
  let x := s.trace k
  let lev := s.v (Obj.traceTrigLevel k)
  let rise := match x.prev with
    | some p => decide (p < lev ∧ lev ≤ v)
    | none => false
  let fall := match x.prev with
    | some p => decide (lev ≤ p ∧ v < lev)
    | none => false
  x.fire ||
    match s.v (Obj.traceTrigSrc k) with
    | 1 => rise
    | 2 => fall
    | 3 => rise || fall
    | 4 => event || x.event
    | 6 => match x.cross with
      | some t => decide (t + (if (s.trace (s.vn (Obj.traceTrigNode k))).chan = x.chan then 0 else us) ≤ start)
      | none => false
    | _ => false

/-- One iteration of the recording channel with node values `val` (R226, R227). -/
def State.traceIteration (s : State) (k start bank engine : Nat) (val : Nat → Int) (event : Bool) : State :=
  let x := s.trace k
  if !(x.state == 1 || x.state == 2) then s
  else
    let nodes := s.traceList k
    let n := nodes.length
    let s := if engine = x.lastEngine then s else s.traceEntry k (marker n 2 engine)
    let s := if bank = x.lastBank then s else s.traceEntry k (marker n 3 bank)
    let v := val (s.vn (Obj.traceTrigNode k))
    let trig := x.state == 1 && s.traceTriggers k start v event
    let held := (s.trace k).recs.length
    let s := if trig then
        (s.setR (Obj.traceTrigTime k) start).updTrace k fun y =>
          { y with state := 2, preShort := held < s.tracePreCap k, post := 0, decim := 0 }
      else s
    let due := (s.trace k).decim == 0
    let s := if due then s.traceEntry k (start, nodes.map val) else s
    let s := s.updTrace k fun y =>
      { y with
        decim := (y.decim + 1) % max 1 (s.vn (Obj.traceDecim k))
        post := if y.state == 2 && due && y.dropRun == 0 then y.post + 1 else y.post
        prev := some v, fire := false, event := false, lastBank := bank, lastEngine := engine }
    let y := s.trace k
    if y.state = 2 && s.vn (Obj.traceLength k) - s.tracePreCap k ≤ y.post then s.updTrace k fun y => { y with state := 3 }
    else s

/-- An event of trigger source 4 (R226). -/
def State.traceEvent (s : State) (k : Nat) : State :=
  s.updTrace k fun x => if x.state == 1 then { x with event := true } else x

/-- TRACE_STATUS (R231). -/
def State.traceStatusNow (s : State) (k : Nat) : Int :=
  let x := s.trace k
  x.state + 64 * b2i x.dropped + 128 * b2i x.preShort + 256 * (x.cause : Int)

/-- TRACE_DATA (R224, R229). -/
def State.traceBytes (s : State) (k : Nat) : List Byte :=
  (s.trace k).recs.flatMap fun r => leBytes 8 r.1 ++ r.2.flatMap (leBytesInt 4)

/-- The cross-trigger of trace `src` leaves its recording channel in a class 4 frame (R11, R227): the trace and its trigger time
(layout: log entry 3). -/
def State.sendCross (s : State) (k src : Nat) : State :=
  match (s.trace src).chan with
  | some c =>
    if (s.trace k).chan == some c then s
    else s.send (.strap c .placement (leBytes 2 src ++ leBytes 8 (s.vn (Obj.traceTrigTime src))))
  | none => s

/-- TRACE_CROSS_TRIGGER (R227): trace `src` has triggered, and trace `k` waits for it. -/
def execTraceCrossTrigger (t : Nat) (k src : Fin 512) (s : State) : Res :=
  s.run t fun s =>
    if (s.trace k).state == 1 && s.v (Obj.traceTrigSrc k) == 6 && s.vn (Obj.traceTrigNode k) == src.val &&
        ((s.trace src).state == 2 || (s.trace src).state == 3) then
      (s.updTrace k fun x => { x with cross := some (s.vn (Obj.traceTrigTime src)) }).sendCross k src
    else s

/-- Whether a case of R222 that stops trace `k` holds. -/
def State.traceMustStop (s : State) (k cause : Nat) : Bool :=
  match (s.trace k).chan with
  | none => false
  | some c =>
    match cause with
    | 2 => !s.siteIn k c
    | 3 => match (s.task k).move with
      | some m => s.fifthTrace k c (m.engines.get c)
      | none => false
    | 5 => s.power.state != .run || !s.arch.alive.get c
    | _ => false

/-- TRACE_ABORT (R222). -/
def execTraceAbort (t : Nat) (k : Fin 512) (cause : Nat) (s : State) : Res :=
  s.run t fun s => if s.traceMustStop k cause then s.stopTrace k cause else s

end Sys2Proof.Machine
end

