-- ==== Sys2Proof/Machine/Tasks.lean ====
section
/-! DEFINITION. Iterations: release, the primary and the eddy pass, following error, invalid inputs, bank swaps and the
clearing of reactions (R19, R190 to R221, R292 to R300). -/

namespace Sys2Proof.Machine

/-- The configuration of a dq pair (R237, R245). -/
def State.dqCfg (s : State) (k : Nat) : DqCfg :=
  match s.dqSlot k with
  | some (c, b) =>
    ⟨s.gn c (Obj.pwmTop c b), s.g c (Obj.dutyMax c b), s.v (Obj.dqAngleOffset k), s.v (Obj.dqRecon k) == 1,
      s.v (Obj.dqSumLimit k)⟩
  | none => { angleOffset := s.v (Obj.dqAngleOffset k) }

/-- EN of a dq pair's slot. -/
def State.dqEn (s : State) (k : Nat) : Bool :=
  match s.dqSlot k with
  | some (c, b) => (s.slot c b).en
  | none => false

/-- The period start of the iteration that may be released at `t` (R18, R331). -/
def State.periodStart (s : State) (k t : Nat) : Option Nat :=
  if s.isDq k then
    match s.dqSlot k with
    | some (c, b) => if (s.slot c b).running then (s.slot c b).valley else none
    | none => none
  else
    let p := s.vn (Obj.taskPeriod k) * us
    if p = 0 then none else some (t - t % p)

/-- The checkpoint instant of the iteration that starts at `start` (R20, R331). -/
def State.checkpointOf (s : State) (k start : Nat) : Nat :=
  if s.isDq k then
    match s.dqSlot k with
    | some (c, b) => start + 3 * s.gn c (Obj.ckptOffset c b)
    | none => start
  else start + s.vn (Obj.taskPeriod k) * us

/-- `t` is a period boundary of the task (R210). -/
def State.atBoundary (s : State) (k t : Nat) : Bool := s.periodStart k t == some t

-- release

/-- The mirrored sample of converter `n` in a set, or one without VALID. -/
def mirrorSample (m : Option (Nat × List (Nat × LoopSample))) (n : Nat) : LoopSample :=
  match m with
  | some (_, l) => ((l.find? fun p => p.1 == n).map (·.2)).getD ⟨0, 0, 0⟩
  | none => ⟨0, 0, 0⟩

/-- The loop sample of converter `n` of slot `b` in channel `sc` as channel `c` holds it: its own, or the mirrored one (R13,
R130); where there is none, one without VALID. -/
def State.lastSample (s : State) (c sc : Ch) (b n : Nat) : LoopSample :=
  if c = sc then (s.conv sc n).sample.getD ⟨0, 0, 0⟩ else mirrorSample ((s.slot sc b).mirror.get c) n

/-- The inputs of a dq iteration at valley `v` in channel `c`, one of the channels `cs` that compute it (R241, R242); the current
setpoints are zero under a reaction of code 3 (R215). -/
def State.dqInputs (s : State) (cs : List Ch) (c : Ch) (k : Nat) (sc : Ch) (b v : Nat) : Inputs :=
  let u := s.lastSample c sc b (3 * b)
  let w := s.lastSample c sc b (3 * b + 1)
  let x := s.lastSample c sc b (3 * b + 2)
  let src := s.vn (Obj.dqVdcSource k)
  let dc := s.lastSample c sc b src
  let id := s.signal cs c v (s.v (Obj.taskIn k 0))
  let iq := s.signal cs c v (s.v (Obj.taskIn k 1))
  let n := (s.taskAxis k).getD 0
  let ex := s.extrapAt n v
  let hand := (s.vn Obj.twinState == 2 && s.isRoleAxis n) || s.reaction n == 3
  { start := v
    r := if hand then 0 else id.1
    y := if hand then 0 else iq.1
    valid := id.2 && iq.2
    iu := u.code, iv := w.code, iw := x.code
    usable := ⟨!sampleFlagged u, !sampleFlagged w, !sampleFlagged x⟩
    vdc := if src = 255 then s.v (Obj.dqVdcNominal k) else dc.code
    vdcOk := src == 255 || !sampleFlagged dc
    pos := ex.pos, posValid := ex.valid
    posPrev := (s.extrapAt n (v - 2 * s.gn sc (Obj.pwmTop sc b))).pos
    ovrg := bit u.status 3 || bit w.status 3 || bit x.status 3 }

/-- The inputs of an iteration of a task that is no dq pair (R204, R332, R333). -/
def State.loopInputs (s : State) (cs : List Ch) (c : Ch) (k start : Nat) : Inputs :=
  let i0 := s.signal cs c start (s.v (Obj.taskIn k 0))
  let i1 := s.signal cs c start (s.v (Obj.taskIn k 1))
  let i2 := s.signal cs c start (s.v (Obj.taskIn k 2))
  let p : Sig := match s.taskAxis k with
    | some n => (s.v (Obj.latchPos n), s.sourceOk n)
    | none => (0, false)
  let y := if s.taskTy k = 3 then p else i1
  { start := start, r := i0.1, y := y.1, f := i2.1, valid := i0.2 && y.2 && i2.2 }

/-- The channels in which an iteration of task `k` is to run: those that compute it, in the voting set or debugged with
the task their own, on an engine that is neither faulty nor halted (R292, R298, R319). -/
def State.runsIn (s : State) (k : Nat) (c : Ch) : Bool :=
  let e := (s.task k).engines.get c
  s.siteIn k c && (s.takesPart c || (s.red.inDebug.get c && (s.task k).owner == c.num) ||
      match s.red.arb with
      | some a => a.cands.get c
      | none => false) &&
    !bit (s.red.engineFault.get c : Int) e && !bit (s.red.halted.get c : Int) e

/-- Task `k` iterates on this device now (R313, R333, R400, R453). -/
def State.iterates (s : State) (k : Nat) : Bool :=
  s.v (Obj.taskEnable k) == 1 && (s.task k).placed && (s.task k).owner < 3 && s.roleRuns k &&
    s.red.state != .passive && s.power.ce

/-- A role task that no longer runs here but whose iteration in progress is to finish (R408 step 4). -/
def State.finishing (s : State) (k : Nat) : Bool :=
  s.v (Obj.taskEnable k) == 1 && (s.task k).placed && (s.task k).owner < 3 && !s.roleRuns k &&
    (s.task k).lastStart.isSome && s.red.state != .passive && s.power.ce

/-- The latch of a force axis at the period start of its force loop (R205, R272). -/
def State.forceLatch (s : State) (k : Nat) (y : Int) : State :=
  match s.taskAxis k with
  | some n =>
    if s.isForceAxis n && s.posForceLoop n == some k then
      (s.updAxis n fun a => { a with forceLatch := y }).genLatch n y
    else s
  | none => s

/-- The axes whose latched position an iteration of task `k` reads (R177, R204, R242, R332). -/
def State.latchesRead (s : State) (k : Nat) : List Nat :=
  let own := if s.isDq k || s.taskTy k == 3 then [s.vn (Obj.taskAxis k)] else []
  own ++ (upto 3).filterMap fun i =>
    let r := s.v (Obj.taskIn k i)
    if field r 28 4 = 2 then some (field r 0 5) else none

/-- The data objects that task `k` reads (R332). -/
def State.objectsRead (s : State) (k : Nat) : List Nat :=
  (upto 3).filterMap fun i =>
    let r := s.v (Obj.taskIn k i)
    if field r 28 4 = 1 then some (field r 0 11) else none

/-- A frame carries the output of a task for data object `o`. -/
def StrapBody.isOutput (o : Nat) : StrapBody → Bool
  | .output _ p _ => p == o
  | _ => false

/-- Channel `c` holds all that an iteration of task `k` with period start `v` reads: the slot's sample set (R19), the latches
(R177), and outputs of tasks that one channel computes (R294). -/
def State.holdsInputs (s : State) (k v : Nat) (c : Ch) : Bool :=
  (match s.isDq k, s.dqSlot k with
    | true, some (sc, b) =>
      if c = sc then s.setComplete sc b v else match (s.slot sc b).mirror.get c with
        | some (w, _) => w == v
        | none => false
    | _, _ => true) &&
    ((s.latchesRead k).all fun n => !s.inFlight c (StrapBody.isLatch n)) &&
    (s.objectsRead k).all fun o => !s.inFlight c (StrapBody.isOutput o)

/-- The extrapolation that a dq iteration makes is noted in its axis's status (R178, R189). -/
def State.noteDq (s : State) (k start : Nat) : State :=
  match s.isDq k, s.taskAxis k with
  | true, some n => s.noteExtrap n start
  | _, _ => s

/-- The release of one iteration (R19, R293, R305): a channel whose state copy has not arrived skips it. -/
def State.release (s : State) (k start : Nat) : State :=
  let cs := Ch.all.filter (s.runsIn k)
  let inp := fun c => match s.isDq k, s.dqSlot k with
    | true, some (sc, b) => s.dqInputs cs c k sc b start
    | _, _ => s.loopInputs cs c k start
  let waits := fun c => (s.stream k).reseed.get c
  let rel := fun c => if cs.contains c && !waits c then some (inp c) else none
  let y := match cs with
    | c :: _ => (inp c).y
    | [] => 0
  let here := Ch.all.all fun c => !s.inFlight c (StrapBody.isSite k)
  let s := (s.noteDq k start).updTask k fun r =>
    { r with move := r.move.map fun m => { m with ready := m.copied && here }, rel := ⟨rel .chA, rel .chB, rel .chC⟩, relAt := s.now, lastStart := some start, fin := Trio.all none }
  let s := forEach cs s fun s c => s.wakeEngine c ((s.task k).engines.get c)
  let s := s.updStream k fun x => { x with skip := ⟨waits .chA && cs.contains .chA, waits .chB && cs.contains .chB,
    waits .chC && cs.contains .chC⟩ }
  if s.taskTy k = 4 && !cs.isEmpty then s.forceLatch k y else s

/-- The release of an iteration once per period, when every channel that is to compute it holds its inputs (R19, R177, R294).
The frames whose bound has passed have arrived (R12). -/
def State.tryRelease (s : State) (k : Nat) : State :=
  let s := s.settleStraps
  match s.periodStart k s.now with
  | none => s
  | some v =>
    if s.iterates k && ((Ch.all.filter (s.runsIn k)).all fun c => s.holdsInputs k v c) && (s.task k).lastStart != some v &&
        s.now < s.checkpointOf k v then s.release k v
    else s

-- signature and digest

/-- The signature of an iteration (R299). The layout of the state is not given, so the word offsets are open (log entry
12). -/
def signature (ty : Nat) (words : List Int) : Nat :=
  crc32c ((upto words.length).flatMap fun i =>
    leBytes 2 (Config.stateOffset ty i).toNat ++ leBytesInt 4 (words.getD i 0))

/-- The digest of a task at a checkpoint (R300). -/
def taskDigest (k start : Nat) (outs : List Int) (sig : Nat) : Nat :=
  crc32c (leBytes 2 k ++ leBytes 8 start ++ outs.flatMap (leBytesInt 4) ++ leBytes 4 sig)

-- iterations

/-- Following-error supervision of an iteration with error `e` that starts at `start` (R214, R244). -/
def superviseFe (limit : Int) (e : Int) (start : Nat) (st : TaskSt) : TaskSt :=
  if limit = 0 then { st with feStart := none }
  else if decide (limit < e.natAbs) then { st with feStart := some (st.feStart.getD start) }
  else { st with feStart := none }

/-- Node values over those of the last primary pass. -/
def overNodes (l old : List (Nat × Int)) : List (Nat × Int) := l ++ old.filter fun p => !l.any fun q => q.1 == p.1

/-- A held iteration (R209, R241, R244): the last output again, every state as it was; a dq pair takes its angle. A node that it
does not form shows the value of the last primary pass (R225; DESIGN CHOICE, log entry 128). -/
def heldIter (dq : Bool) (g : DqCfg) (f : LoopCfg) (st : TaskSt) (x : Inputs) : Ar Iter := do
  if dq then
    let th ← dqAngle f g.angleOffset x.pos
    let status := dqHeldStatus g x st.dqStatus
    pure { st := { st with thPrev := th, posPrev := x.pos, dqStatus := status }
           outs := [st.duty.a, st.duty.b, st.duty.c], err := st.eLast, words := [th, x.pos, status]
           nodes := overNodes [(0x10, x.iu), (0x11, x.iv), (0x12, x.iw), (0x1B, signed32 th), (0x24, (status : Nat))] st.nodes }
  else pure { st := st, outs := [st.uLast], err := st.eLast, words := [st.uLast], nodes := st.nodes }

/-- An iteration with valid inputs by task type (R199). -/
def State.validIter (s : State) (k : Nat) (st : TaskSt) (x : Inputs) : Ar Iter :=
  let f := s.loopCfg k st.bank
  match s.taskTy k with
  | 1 => pidLoop f st st.hold x.r x.y x.f
  | 2 =>
    let n := (s.taskAxis k).getD 0
    dqLoop f (s.dqCfg k) (s.limitCfg n) st (s.standstill n) x
  | 3 => speedLoop f st st.hold x.r x.y
  | 4 => posLoop f st st.hold x.r x.y
  | 5 => observer f st x.r x.y
  | _ => rateLimiter f st x.r

/-- The inputs of an iteration are valid (R209, R241). -/
def State.inputsValid (s : State) (k : Nat) (x : Inputs) : Bool := if s.isDq k then dqValid (s.dqCfg k) x else x.valid

/-- TASK_STATUS of a task's state in one channel (R221). -/
def State.taskStatusOf (s : State) (k : Nat) (st : TaskSt) : Int :=
  let dq := s.isDq k
  b2i st.first + 2 * b2i (if dq then st.ctlD.sat || st.ctlQ.sat else st.pid.sat) + 4 * b2i st.satNow +
    8 * b2i st.arithSat + 16 * (st.bank : Int) + 32 * b2i (s.task k).swap.isSome + 64 * b2i st.feFault +
    128 * b2i st.feStart.isSome + 256 * b2i st.lost + 512 * b2i st.hold +
    1024 * b2i (s.iterates k && (s.task k).lastStart.isSome)

/-- Ticks to nanoseconds (R25). -/
def ticksToNs (n : Nat) : Nat := n * 10 / 3

/-- Whether the outputs of task `k` take effect when channel `c`'s own iteration completes (R311, R312, R314, R319). -/
def State.ungated (s : State) (c : Ch) (k : Nat) : Bool :=
  (s.task k).owner == c.num && (s.isSplit k || s.red.state == .single || s.red.inDebug.get c ||
    match s.red.arb with
    | some a => a.cands.get c
    | none => false)

/-- Duty values are staged for the next valley (R235), by the channel of the slot, and not in STARTUP (R310). -/
def State.stage (s : State) (c : Ch) (k : Nat) (d : List Int) : State :=
  match s.dqSlot k, d with
  | some (sc, b), [x, y, z] =>
    if sc = c ∧ s.red.state ≠ .startup ∧ s.red.state ≠ .passive then
      s.updSlot c b fun w => { w with staged := some ⟨x, y, z⟩ }
    else s
  | _, _ => s

/-- The registers that an iteration of channel `c` writes (R220). -/
def State.iterRegs (s : State) (c : Ch) (k : Nat) (st : TaskSt) (err : Int) (held : Bool) (arith : Bool) : State :=
  let s := s.setC c (Obj.lastOutput k) st.uLast
  let s := if held then s else s.setC c (Obj.lastError k) err
  let s := s.setC c (Obj.intState k) (if s.isDq k then st.ctlQ.i else st.pid.i)
  let s := s.setC c (Obj.dqStatus k) st.dqStatus
  let s := s.bumpC c (Obj.iterations k)
  let s := if arith then s.bumpC c (Obj.arithSatCount k) else s
  let s := if held then s.bumpC c (Obj.holdCount k) else s
  let s := if held then s else s.setC c (Obj.feMax k) (max (s.g c (Obj.feMax k)) err.natAbs)
  s.setC c (Obj.maxExec k) (max (s.g c (Obj.maxExec k)) (min 65535 (ticksToNs (s.now - (s.task k).relAt)) : Nat))

/-- Cycles of an iteration of task `k` in channel `c`: both passes, and 4 + n more where it records n nodes (R193). -/
def State.iterCycles (s : State) (c : Ch) (k : Nat) : Nat :=
  let x := s.trace k
  taskCycles (s.taskTy k) +
    if x.chan == some c && (x.state == 1 || x.state == 2) && x.decim == 0 then 4 + (s.traceList k).length else 0

/-- Ticks of an iteration at the channel's performance level (R190, R193), rounded up. -/
def State.iterTicks (s : State) (c : Ch) (k : Nat) : Nat :=
  let f := s.clocks.get c
  (s.iterCycles c k * 300 + f - 1) / f

/-- Task `j` comes before task `k` on its engine: the earlier checkpoint instant, then the lower number (R192). -/
def State.comesFirst (s : State) (j k : Nat) : Bool :=
  let a := s.checkpointOf j ((s.task j).lastStart.getD 0)
  let b := s.checkpointOf k ((s.task k).lastStart.getD 0)
  a < b || (a == b && j < k)

/-- The engine has run task `k`'s released iteration to its end now (R191, R192): it began after its release and after the
engine's last iteration ended, and no iteration released by then comes first. -/
def State.mayEnd (s : State) (c : Ch) (k : Nat) : Bool :=
  let e := (s.task k).engines.get c
  let d := s.iterTicks c k
  (s.task k).relAt + d ≤ s.now && (s.power.ended.get c).getD e 0 + d ≤ s.now &&
    s.tasks.all fun p => !(p.1 != k && p.2.engines.get c == e && (p.2.rel.get c).isSome && s.runsIn p.1 c &&
      p.2.relAt + d ≤ s.now && s.comesFirst p.1 k)

/-- INVALID_MAX consecutive held iterations have been made (R209). -/
def State.lostAfter (s : State) (k : Nat) (st : TaskSt) : Bool := st.hold && s.vn (Obj.invalidMax k) ≤ st.heldRun

/-- The last iteration started at least FE_TIME after the following-error timer (R214). -/
def State.feAfter (s : State) (k : Nat) (st : TaskSt) : Bool :=
  match st.feStart with
  | some b => b + s.vn (Obj.feTime k) * 30000 ≤ st.start && s.v (Obj.feLimit k) != 0
  | none => false

/-- What an iteration leaves of the state that it found: the held state and the first-use mark, the supervision of the error,
and the node values (R208, R209, R214). -/
def State.settleSt (s : State) (k : Nat) (old : TaskSt) (i : Iter) (valid arith : Bool) (start : Nat) : TaskSt :=
  let st := { i.st with arithSat := arith, nodes := i.nodes }
  let st := if valid then { st with first := false, hold := false, heldRun := 0, start := start }
    else { st with first := old.first, hold := true, heldRun := st.heldRun + 1 }
  if valid && s.taskTy k < 5 then superviseFe (s.v (Obj.feLimit k)) i.err start st else st

/-- The task sets SAT, FE_FAULT or INPUT_LOST in an iteration that takes state `a` to `b` (R226). -/
def State.setsEvent (s : State) (k : Nat) (a b : TaskSt) : Bool :=
  (!a.pid.sat && b.pid.sat) || (!a.ctlD.sat && b.ctlD.sat) || (!a.ctlQ.sat && b.ctlQ.sat) ||
    (!b.lost && s.lostAfter k b) || (!b.feFault && s.feAfter k b)

/-- The inputs of a dq iteration in order. -/
def Inputs.dqList (x : Inputs) : List Int := [x.r, x.y, x.iu, x.iv, x.iw, x.vdc, x.pos]

/-- The state that an iteration finds: a dq pair whose bridge does not run begins with first use (R208). -/
def State.foundSt (s : State) (c : Ch) (k : Nat) : TaskSt :=
  let st := s.taskSt c k
  if s.isDq k && !s.dqEn k then { st with first := true } else st

/-- The computation of an iteration with inputs `x`, with the shift points that the eddy pass repeats (R191, R209, R295). -/
def State.iterOf (s : State) (c : Ch) (k : Nat) (x : Inputs) : Iter × Pass :=
  let st := s.foundSt c k
  if s.inputsValid k x then s.validIter k st x {} else heldIter (s.isDq k) (s.dqCfg k) (s.loopCfg k st.bank) st x {}

/-- One iteration of task `k` in channel `c` with inputs `x` (R191, R202 to R209, R214, R243, R295 to R300). `errs` are errors
of the eddy pass's accumulator, by shift point. -/
def State.iterate (s : State) (c : Ch) (k : Nat) (x : Inputs) (errs : List Int) : State :=
  let e := (s.task k).engines.get c
  let began := s.now - s.iterTicks c k
  let s := { s with power := { s.power with
    used := s.power.used.upd c fun t => t.put e 0 began, ended := s.power.ended.upd c fun t => t.put e 0 s.now } }
  let st0 := s.foundSt c k
  let valid := s.inputsValid k x
  let it := s.iterOf c k x
  let i := it.1
  if eddyFault it.2.points.reverse errs then
    (s.updTask k fun r => { r with rel := r.rel.set c none, fin := r.fin.set c (some { start := x.start, fault := true }) }).engineFault
      c e 0
  else
    let st := s.settleSt k (s.taskSt c k) i valid it.2.sat x.start
    let sig := signature (s.taskTy k) (i.words ++ [b2i st.first, b2i st.hold, st.heldRun, b2i st.arithSat])
    let fin : Done :=
      { start := x.start, outs := i.outs, digest := taskDigest k x.start i.outs sig, ovrg := x.ovrg
        inputs := if s.isDq k then x.dqList else [x.r, x.y, x.f] }
    let s := s.updTask k fun r => { r with st := r.st.set c st, rel := r.rel.set c none, fin := r.fin.set c (some fin) }
    let s := s.iterRegs c k st i.err (!valid) it.2.sat
    let status := s.taskStatusOf k st
    let val := fun n => if n = 9 then status else ((i.nodes.find? fun p => p.1 == n).map (·.2)).getD 0
    let s := if (s.trace k).chan == some c then s.traceIteration k x.start st.bank e val (s.setsEvent k st0 st) else s
    if s.isDq k && s.ungated c k then s.stage c k i.outs else s

/-- The released iteration of a task in a channel has run to its end, if there is one. -/
def State.runIteration (s : State) (c : Ch) (k : Nat) (errs : List Int) : State :=
  match (s.task k).rel.get c with
  | some x => if (s.iterates k || s.finishing k) && s.runsIn k c && s.mayEnd c k then s.iterate c k x errs else s
  | none => s

/-- TASK_ITERATION (R191): an iteration of a task that is no dq pair; the command's time is the end of its eddy pass. -/
def execTaskIteration (t : Nat) (c : Ch) (k : Fin 512) (errs : List Int) (s : State) : Res :=
  s.run t fun s => if s.isDq k then s else s.runIteration c k errs

/-- DQ_ITERATION (R243). -/
def execDqIteration (t : Nat) (c : Ch) (k : Fin 512) (errs : List Int) (s : State) : Res :=
  s.run t fun s => if s.isDq k then s.runIteration c k errs else s

-- invalid inputs and following error

/-- INPUT_LOST (R209): after INVALID_MAX consecutive held iterations. -/
def execInputLost (t : Nat) (c : Ch) (k : Fin 512) (s : State) : Res :=
  s.run t fun s =>
    if s.lostAfter k (s.taskSt c k) then
      let s := s.updTaskSt c k fun x => { x with lost := true }
      match s.taskAxis k with
      | some n => s.react n 1 (s.vn (Obj.invalidReaction k))
      | none => s
    else s

/-- FE_FAULT (R214): at the first iteration whose period start lies at least FE_TIME after the timer's start. -/
def execFeFault (t : Nat) (c : Ch) (k : Fin 512) (s : State) : Res :=
  s.run t fun s =>
    if s.feAfter k (s.taskSt c k) then
      let s := s.updTaskSt c k fun x => { x with feFault := true }
      match s.taskAxis k with
      | some n => s.react n 0 (s.vn (Obj.feReaction k))
      | none => s
    else s

-- bank swaps

/-- The bank in use: that of the owner's copy. -/
def State.bankOf (s : State) (k : Nat) : Nat := (s.taskSt ((s.ownerCh k).getD .chA) k).bank

/-- A swap of task `k` to bank `b` is requested, to be made at the first period boundary at or after `at_` (R210): a request for
the bank in use cancels a pending one. -/
def State.askSwap (s : State) (k b at_ : Nat) : State :=
  s.updTask k fun r => { r with swap := if b = s.bankOf k then none else some (b, at_) }

/-- The effect of a write to BANK_SELECT (R210, R212): a task that is not enabled changes bank at once. -/
def State.writeBankSelect (s : State) (k : Nat) (v : Int) : State :=
  let s := s.setR (Obj.bankSelect k) v
  let b := v.toNat
  if s.v (Obj.taskEnable k) != 1 then s.updTask k fun r => { r with swap := none, st := r.st.map fun x => { x with bank := b } }
  else s.askSwap k b (match (s.task k).swap with
    | some (x, at_) => if x = b then min at_ s.now else s.now
    | none => s.now)

/-- The pending swap of task `k` is made, if the present time is its period boundary (R210, R211). -/
def State.makeSwap (s : State) (k : Nat) : State :=
  match (s.task k).swap with
  | some (b, at_) =>
    if at_ ≤ s.now && s.atBoundary k s.now then
      let f := s.loopCfg k b
      let s := s.updTask k fun r =>
        { r with swap := none, st := r.st.map fun x => swapBank (s.taskTy k) f (s.dqCfg k) b x }
      let s := forEach (Ch.all.filter (s.siteIn k)) s fun s c => s.bumpC c (Obj.swapCount k)
      s.traceEvent k
    else s
  | none => s

-- clearing a reaction

/-- A safe input that covers axis `n` stands at VALUE 0 (R420). -/
def State.safeInputLow (s : State) (n : Nat) : Bool :=
  Ch.all.any fun c => (upto 6).any fun i =>
    s.isBit (Obj.siAxisMask (6 * c.num + i)) n &&
      !((s.safe.pairs.get c).getD i {}).value

/-- The condition of a latched cause persists (R217). -/
def State.causeHolds (s : State) (n cause : Nat) : Bool :=
  let own := fun k => s.taskSt ((s.ownerCh k).getD .chA) k
  match cause with
  | 0 => (s.tasksOf n).any fun k => (own k).feStart.isSome
  | 1 => (s.tasksOf n).any fun k => (own k).hold || (s.task k).unplaced
  | 2 => (s.tasksOf n).any fun k => (own k).lim.stall.isSome
  | 3 => match s.bridgeOf n with
    | some (c, b) => (upto 3).any fun i => (s.conv c (3 * b + i)).ovr
    | none => false
  | 4 => match s.bridgeOf n with
    | some (c, b) => s.isBitC c (Obj.gdStatus c b) 2
    | none => false
  | 5 => s.safeInputLow n
  | 6 => match s.bridgeOf n with
    | some (c, b) => s.isBit (Obj.opFaultMap c) b || s.isBit (Obj.opFaultMap c.before) (4 + b)
    | none => false
  | _ => false

/-- The reaction of axis `n` has completed (R217). -/
def State.reactionDone (s : State) (n : Nat) : Bool :=
  match s.reaction n with
  | 1 => s.standstill n
  | 2 => s.standstill n
  | 3 => match s.bridgeOf n with
    | some (c, b) => !(s.slot c b).en
    | none => true
  | _ => true

/-- The effect of AX_FAULT_CLEAR written 0x0001 (R217, R250). -/
def State.clearFault (s : State) (n : Nat) : State :=
  let left := (s.axis n).causes.filter fun p => s.causeHolds n p.1
  let s := s.updAxis n fun a => { a with causes := left, ocTripped := Trio.all false }
  let s := forEach [0, 1, 2] s fun s b => s.bitR (Obj.axFaultCause n) b (left.any fun p => p.1 == b)
  let s := s.setR (Obj.axReaction n) (left.foldl (fun m p => max m p.2) 0)
  forEach (s.tasksOf n) s fun s k => (s.startTask k).updTask k fun r =>
    { r with st := r.st.map fun x =>
        { x with feFault := x.feFault && left.any (fun p => p.1 == 0), lost := x.lost && left.any (fun p => p.1 == 1) } }

-- reads that clear

/-- The owner's copy of an object that is read from a task's owner channel (R220). -/
def State.ownerVal (s : State) (k : Nat) (o : Obj) : Int := s.g ((s.ownerCh k).getD .chA) o

end Sys2Proof.Machine
end

