-- ==== Sys2Proof/Machine/Bridges.lean ====
section
/-! DEFINITION. Bridge slots: the PWM counter, the duty values, the permits EN and ARM, and the gate-driver SPI ports
(R232 to R236, R249, R250, R253 to R261). -/

namespace Sys2Proof.Machine

-- the counter

/-- The slot's valleys lie at multiples of 2 · PWM_TOP from its phase (R233). -/
def onGrid (top phase t : Nat) : Bool := 0 < top && phase ≤ t && (t - phase) % (2 * top) == 0

/-- The grid that the slot's objects name (R233). -/
def State.gridNow (s : State) (c : Ch) (k t : Nat) : Bool := onGrid (s.gn c (Obj.pwmTop c k)) (s.gn c (Obj.pwmPhase c k)) t

/-- A new grid waits for the first valley at or after its commit instant (R233). -/
def Slot.regrid (x : Slot) (t : Nat) : Bool :=
  match x.startFrom with
  | some f => f ≤ t
  | none => false

/-- The ticks by which the peak of the present period lengthens it: while a time-base step is worked off, one tick toward the
grid (R233). -/
def Slot.peakTick (x : Slot) : Int := x.adj.getD (-(sgn x.realign))

/-- The peak of the present period has passed (R233): its tick is worked off. -/
def Slot.peaked (x : Slot) : Slot :=
  match x.adj with
  | some _ => x
  | none => { x with adj := some (-(sgn x.realign)), realign := x.realign - sgn x.realign }

/-- `t` is a valley of a running slot (R232, R233): on the grid, and while a time-base step is worked off one period of its
counter after the last one. -/
def Slot.isValley (x : Slot) (t : Nat) : Bool :=
  x.running && match x.valley with
    | some v =>
      if x.realign = 0 ∧ x.peakTick = 0 then decide (v < t) && onGrid x.top x.phase t
      else decide ((t : Int) = v + 2 * x.top + x.peakTick)
    | none => onGrid x.top x.phase t

/-- `t` is a peak of a running slot: PWM_TOP ticks after its valley (R232). -/
def Slot.isPeak (x : Slot) (t : Nat) : Bool :=
  x.running && match x.valley with
    | some v => v + x.top == t
    | none => false

/-- The count of a slot at time `t` of its present period: up from 0 to PWM_TOP and down again, with the peak held one tick
longer or left one tick earlier while it realigns (R232, R233); a counter that stands or holds is at 0. -/
def Slot.count (x : Slot) (t : Nat) : Nat :=
  match x.running, x.valley with
  | true, some v => if t ≤ v + x.top then t - v else min x.top (2 * x.top + x.peakTick - ((t : Int) - v)).toNat
  | _, _ => 0

/-- The compare value of a duty (R235). -/
def compareOf (top : Nat) (d : Int) : Nat := (top - divRound (top * d) 32768 : Int).toNat

/-- The slot's active duties as compare values (R235). -/
def State.comparesOf (s : State) (c : Ch) (k top : Nat) : Trio Nat :=
  ⟨compareOf top (s.g c (Obj.dutyU c k)), compareOf top (s.g c (Obj.dutyV c k)), compareOf top (s.g c (Obj.dutyW c k))⟩

/-- The converters bound to a slot that no longer delivers a sampling instant run free (R128). -/
def State.freeConverters (s : State) (c : Ch) (k : Nat) : State :=
  forEach (s.boundConverters c k) s fun s n => s.runFree c n false

/-- The enabled dq pair of a slot that iterates (R235, R240). -/
def State.dqOf (s : State) (c : Ch) (k : Nat) : Option Nat :=
  s.enabledTasks.find? fun j => s.isDq j && s.dqSlot j == some (c, k) && s.iterates j

/-- The counter of a slot stops at 0 (R232), with EN low (R255). -/
def State.stopCounter (s : State) (c : Ch) (k : Nat) : State :=
  (s.updSlot c k fun x => { x with running := false, aligned := false, startFrom := none, realign := 0, adj := none, valley := none
                                   staged := none, owedNext := false, repeated := false, en := false, enrb := false }).freeConverters c k

/-- The effect of a write to BS_MODE (R232, R233, R255): a slot whose EN is high stops at its next valley. -/
def State.writeBsMode (s : State) (c : Ch) (k : Nat) (v : Int) : State :=
  let s := s.setC c (Obj.bsMode c k) v
  if v = 1 then
    if (s.slot c k).running then s else s.updSlot c k fun x => { x with startFrom := some s.now }
  else if (s.slot c k).en then s
  else s.stopCounter c k

/-- The effect of a write to PWM_TOP or PWM_PHASE of a running slot (R233). -/
def State.writeGrid (s : State) (c : Ch) (k : Nat) (o : Obj) (v : Int) : State :=
  let s := s.setC c o v
  if (s.slot c k).running then s.updSlot c k fun x => { x with startFrom := some s.now } else s

/-- PWM_COUNTER_START (R233): at the first grid instant at or after the commit instant at which BS_MODE became 1. -/
def execPwmCounterStart (t : Nat) (c : Ch) (k : Fin 4) (s : State) : Res :=
  s.run t fun s =>
    if s.g c (Obj.bsMode c k) == 1 && !(s.slot c k).running && (s.slot c k).regrid s.now && s.gridNow c k s.now &&
        s.arch.alive.get c && s.power.io then
      (s.updSlot c k fun x =>
        { x with running := true, aligned := true, startFrom := none, realign := 0, adj := none, valley := none
                 top := s.gn c (Obj.pwmTop c k), phase := s.gn c (Obj.pwmPhase c k)
                 cmp := s.comparesOf c k (s.gn c (Obj.pwmTop c k)) }).endSeeding
    else s

/-- PWM_GRID_CHANGE (R233): the slot's present period has ended, and the counter holds at 0 until the new grid. -/
def execPwmGridChange (t : Nat) (c : Ch) (k : Fin 4) (s : State) : Res :=
  s.run t fun s =>
    if (s.slot c k).regrid s.now && (s.slot c k).isValley s.now then
      (s.updSlot c k fun x =>
        { x with aligned := false, startFrom := none, realign := 0, adj := none, valley := none
                 top := s.gn c (Obj.pwmTop c k), phase := s.gn c (Obj.pwmPhase c k)
                 cmp := s.comparesOf c k (s.gn c (Obj.pwmTop c k)) }).freeConverters c k
    else s

/-- The duties that take effect at a valley (R235): the staged ones, or the present ones again. -/
def State.takeDuties (s : State) (c : Ch) (k : Nat) : State :=
  let x := s.slot c k
  match x.staged with
  | some d =>
    let s := ((s.setC c (Obj.dutyU c k) d.a).setC c (Obj.dutyV c k) d.b).setC c (Obj.dutyW c k) d.c
    s.updSlot c k fun x => { x with staged := none, repeated := false }
  | none =>
    let s := if x.owedNext then s.bumpC c (Obj.repeatCount c k) else s
    s.updSlot c k fun x => { x with repeated := x.owedNext }

/-- The valley of a running slot (R18, R235): duties, the time of the valley, and whether its dq pair samples here, so
that the period after the next valley is owed a value. -/
def State.valleyAt (s : State) (c : Ch) (k : Nat) : State :=
  let s := (s.takeDuties c k).setC c (Obj.valleyTime c k) s.now
  let owed := (s.dqOf c k).isSome
  let cmp := s.comparesOf c k (s.slot c k).top
  s.updSlot c k fun x =>
    let x := x.peaked
    { x with valley := some s.now, owed := x.owedNext, owedNext := owed, adj := none, cmp := cmp, cmpPrev := if x.valley.isSome then x.cmp else Trio.all x.top
             aligned := x.aligned || x.realign == 0 }

/-- A valley of slot `k` (R232, R235). A valley from which the slot holds for a new grid is none (R233). -/
def State.pwmValley (s : State) (c : Ch) (k : Nat) : State :=
  if (s.slot c k).isValley s.now && !(s.slot c k).regrid s.now then
    if s.g c (Obj.bsMode c k) == 1 then s.valleyAt c k else s.stopCounter c k
  else s

/-- PWM_PEAK (R233): a realigning counter adds or removes one tick; it is aligned from its first valley on the grid. -/
def execPwmPeak (t : Nat) (c : Ch) (k : Fin 4) (s : State) : Res :=
  s.run t fun s => if (s.slot c k).isPeak s.now then s.updSlot c k Slot.peaked else s

-- overload and stall

/-- The enabled dq task of axis `n`. -/
def State.dqTaskOf (s : State) (n : Nat) : Option Nat := (s.tasksOf n).find? s.isDq

/-- STALL_TIMEOUT (R249): the stall timer of the axis has run for STALL_TIME. -/
def execStallTimeout (t : Nat) (n : Fin 32) (s : State) : Res :=
  s.run t fun s =>
    match s.dqTaskOf n with
    | none => s
    | some k =>
      let st := s.taskSt ((s.ownerCh k).getD .chA) k
      match st.lim.stall with
      | some e => if s.vn (Obj.stallTime n) * ms ≤ e then s.react n 2 (s.vn (Obj.stallReaction n)) else s
      | none => s

/-- A phase converter of a slot is in overrange (R137, R250). -/
def State.phaseOver (s : State) (c : Ch) (k : Nat) : Bool := (upto 3).any fun i => (s.conv c (3 * k + i)).ovr

/-- OVERCURRENT_TRIP (R250): with OC_REACTION 3, OC_TRIPPED sets in the owner, and EN falls with it (R253 condition 8); the
owner's next class 2 frame takes it to the peers. -/
def execOvercurrentTrip (t : Nat) (c : Ch) (k : Fin 4) (s : State) : Res :=
  s.run t fun s =>
    match s.axisOf c k with
    | some n =>
      if s.vn (Obj.ocReaction n) = 3 ∧ s.phaseOver c k = true then
        (s.updAxis n fun a => { a with ocTripped := a.ocTripped.set c true }).strapSendAll c .samples (.trip n)
      else s
    | none => s

-- permits

/-- A permit output of channel `c` has risen: EN k is number k, ARM k is number 4 + k. Its test times start (R425,
R429). -/
def State.permitUp (s : State) (c : Ch) (j : Nat) : State :=
  s.updTest c j fun x =>
    { x with lastPass := s.now, highSince := some s.now, changed := s.now, owed := false
             after := if x.owed then some s.now else none }

/-- EN may rise at this instant (R253): a valley at which every condition holds, once the channel's converters have been
calibrated (R147, R523). -/
def State.enMayRise (s : State) (c : Ch) (k : Nat) : Bool :=
  !(s.slot c k).en && (s.slot c k).valley == some s.now && s.enHolds c k && s.enAsked c k && s.phasesCalibrated c k && s.startupCalDone c

/-- EN_RISE (R253). -/
def execEnRise (t : Nat) (c : Ch) (k : Fin 4) (s : State) : Res :=
  s.run t fun s =>
    if s.enMayRise c k then (s.updSlot c k fun x => { x with en := true, enrb := true }).permitUp c k else s

/-- EN_FALL (R255): a condition other than the request has ended, or the request has and a valley is reached. -/
def execEnFall (t : Nat) (c : Ch) (k : Fin 4) (s : State) : Res :=
  s.run t fun s =>
    if (s.slot c k).en && (!s.enHolds c k || (!s.enAsked c k && (s.slot c k).valley == some s.now)) then
      s.updSlot c k fun x => { x with en := false, enrb := false }
    else s

/-- ARM may rise (R254, R256): its conditions hold, and no latch holds or has dropped it. -/
def State.armMayRise (s : State) (y : Ch) (k : Nat) : Bool :=
  !(s.arm y k).out && !(s.arm y k).held && !(s.arm y k).fallen && s.armHolds y k

/-- ARM_CHANGE (R254): ARMk of channel `c` rises when its conditions hold and falls when they end. -/
def execArmChange (t : Nat) (c : Ch) (k : Fin 4) (s : State) : Res :=
  s.run t fun s =>
    if s.armMayRise c k then
      (s.updArm c k fun x => { x with out := true, rb := true, rbHigh := some s.now }).permitUp c (4 + k)
    else s.updArm c k (s.armAfter c k)

/-- ARMRB_QUALIFIED (R253 condition 7): ARMRB has read high for 10 µs. -/
def execArmrbQualified (t : Nat) (c : Ch) (k : Fin 4) (s : State) : Res :=
  s.run t fun s =>
    match (s.arm c k).rbHigh with
    | some b => if b + 10 * us ≤ s.now && (s.arm c k).rb && s.ioLive c then s.updArm c k fun x => { x with qualified := true } else s
    | none => s

-- gate drivers

/-- INIT_OK, INIT_FAIL, POLL_FAULT and POLL_LATE by bit number (R263). -/
def gdInitOk : Nat := 0

/-- INIT_FAIL. -/
def gdInitFail : Nat := 1

/-- POLL_FAULT. -/
def gdPollFault : Nat := 2

/-- POLL_LATE. -/
def gdPollLate : Nat := 3

/-- An entry of an init or poll list (R262). -/
def listEntry (v : Int) (init last : Bool) : DrvWord := ⟨field v 0 16, field v 16 16, field v 32 16, init, last⟩

/-- The init list of a slot is queued, before any poll entry (R260, R261); an empty list sets INIT_OK. -/
def State.startInit (s : State) (c : Ch) (k : Nat) : State :=
  let n := s.gn c (Obj.gdInitCount c k)
  if n = 0 then
    ((s.bitC c (Obj.gdStatus c k) gdInitOk true).bitC c (Obj.gdStatus c k) gdInitFail false).updDriver c k fun x =>
      { x with initRunning := false, retryAt := none, pollAt := s.now }
  else
    let l := (upto n).map fun i => listEntry (s.g c (Obj.gdInitEntry c k i)) true false
    s.updDriver c k fun x =>
      { x with initRunning := true, bad := false, initAt := s.now, retryAt := none
               queue := l ++ x.queue.filter fun e => !e.init }

/-- Every init list of a channel is sent (R260): at start-up, and after a wake; INIT_OK is clear until it has passed. -/
def State.startInits (s : State) (c : Ch) : State :=
  forEach (upto 4) s fun s k =>
    ((s.bitC c (Obj.gdStatus c k) gdInitOk false).updDriver c k fun x => { x with queue := [], wait := none }).startInit c k

/-- A response does not match its entry (R260, R261). -/
def mismatch (rx mask want : Nat) : Bool := (rx &&& mask) != (want &&& mask)

/-- The response to an entry of a poll round (R261): POLL_FAULT clears at the end of a round in which every entry matched. -/
def State.pollResponse (s : State) (c : Ch) (k rx : Nat) (w : DrvWord) : State :=
  let s := s.updDriver c k fun x => { x with wait := none }
  let s := if mismatch rx w.mask w.want then
      let s := (s.bitC c (Obj.gdStatus c k) gdPollFault true).bumpC c (Obj.gdFaultCount c k)
      let s := (s.setC c (Obj.gdLastRx c k) rx).updDriver c k fun x => { x with pollBad := true }
      match s.axisOf c k with
      | some n => s.react n causeGateDriver (s.vn (Obj.gdFaultAction c k))
      | none => s
    else s
  if w.last then
    let s := if (s.driver c k).pollBad then s else s.bitC c (Obj.gdStatus c k) gdPollFault false
    s.updDriver c k fun x => { x with pollBad := false }
  else s

/-- The response to the word that waits for one (R260, R261). -/
def State.gdResponse (s : State) (c : Ch) (k rx : Nat) : State :=
  match (s.driver c k).wait with
  | none => s
  | some w =>
    if w.init then s.updDriver c k fun x => { x with wait := none, bad := x.bad || mismatch rx w.mask w.want }
    else s.pollResponse c k rx w

/-- The next word of a driver (R259): a driver with no word queued receives GD_NOP_WORD. -/
def State.gdNext (s : State) (c : Ch) (p k : Nat) : Nat × State :=
  match (s.driver c k).queue with
  | [] => (s.gn c (Obj.gdNopWord c p), s)
  | w :: r => (w.word, s.updDriver c k fun x => { x with queue := r, wait := some w })

/-- The slots on port `p`'s chain, lower first (R258). -/
def State.chain (s : State) (c : Ch) (p : Nat) : List Nat :=
  if s.g c (Obj.gspiChain c p) = 2 then [2 * p, 2 * p + 1] else [2 * p]

/-- A transfer may start (R259): at a peak of the lower slot, of the higher one if only that runs, or with neither
running at a commit instant; once per peak. -/
def State.spiDue (s : State) (c : Ch) (p : Nat) : Bool :=
  let lo := s.slot c (2 * p)
  let hi := s.slot c (2 * p + 1)
  (s.spi c p).last != some s.now &&
    if lo.running then lo.isPeak s.now else if hi.running then hi.isPeak s.now else isCommit s.now

/-- GSPI_TRANSFER (R259): `rx` holds the received bits, the lower slot's response in bits 15 to 0. -/
def execGspiTransfer (t : Nat) (c : Ch) (p : Fin 2) (rx : Nat) (s : State) : Res :=
  s.run t fun s =>
    if s.g c (Obj.gspiEnable c p) == 1 && s.arch.alive.get c && s.ioLive c && s.spiDue c p then
      let s := forEach (s.chain c p) s fun s k => s.gdResponse c k (rx / 2 ^ (16 * (k % 2)) % 65536)
      let a := (s.chain c p).foldl (fun (a : List Nat × State) k =>
        let n := a.2.gdNext c p k
        (a.1 ++ [n.1], n.2)) ([], s)
      (a.2.updSpi c p fun x => { x with last := some s.now, words := a.1 }).send (.spi c p a.1)
    else s

/-- GD_INIT_CHECK (R260): once every response of the init list is in. -/
def execGdInitCheck (t : Nat) (c : Ch) (k : Fin 4) (s : State) : Res :=
  s.run t fun s =>
    let d := s.driver c k
    let open_ := d.queue.any (·.init) || match d.wait with
      | some w => w.init
      | none => false
    if d.initRunning && !open_ then
      let s := (s.bitC c (Obj.gdStatus c k) gdInitOk (!d.bad)).bitC c (Obj.gdStatus c k) gdInitFail d.bad
      (s.updDriver c k fun x =>
        { x with initRunning := false, pollAt := s.now, retryAt := if d.bad then some (s.now + 100 * ms) else none }).endSeeding
    else s

/-- GD_INIT_RETRY (R260): 100 ms after a mismatch the whole list is sent again. -/
def execGdInitRetry (t : Nat) (c : Ch) (k : Fin 4) (s : State) : Res :=
  s.run t fun s =>
    match (s.driver c k).retryAt with
    | some b => if b ≤ s.now then s.startInit c k else s
    | none => s

/-- GD_POLL_ROUND (R261): every GD_POLL_PERIOD after INIT_OK; a round still queued makes it late. A round without
entries matches. -/
def execGdPollRound (t : Nat) (c : Ch) (k : Fin 4) (s : State) : Res :=
  s.run t fun s =>
    let d := s.driver c k
    if s.isBitC c (Obj.gdStatus c k) gdInitOk && d.pollAt + s.gn c (Obj.gdPollPeriod c (k / 2)) * us ≤ s.now then
      let s := s.updDriver c k fun x => { x with pollAt := s.now }
      if d.queue.any fun e => !e.init then s.bitC c (Obj.gdStatus c k) gdPollLate true
      else
        let n := s.gn c (Obj.gdPollCount c k)
        let l := (upto n).map fun i => listEntry (s.g c (Obj.gdPollEntry c k i)) false (i + 1 == n)
        let s := s.bitC c (Obj.gdStatus c k) gdPollLate false
        if n = 0 then s.bitC c (Obj.gdStatus c k) gdPollFault false
        else s.updDriver c k fun x => { x with queue := x.queue ++ l }
    else s

end Sys2Proof.Machine
end

