-- ==== Sys2Proof/Machine/Profiles.lean ====
section
/-! DEFINITION. Profile generators and axis groups: the profile tick, standstill, stops, group moves, force allocation,
and remote members (R264 to R285). -/

namespace Sys2Proof.Machine

-- one tick of a path (R267, R273)

/-- PA, VX and whether the move arrives at this tick (R267). -/
structure PathStep where
  pa : Int
  vx : Int
  done : Bool
deriving DecidableEq, Repr, Inhabited

/-- One tick of a move in direction `d` to `tgt` (R267). -/
def moveTick (d tgt pa vx vm acc dec : Int) : PathStep :=
  let r := d * signed64 (tgt * 2 ^ 32 - pa)
  let a := d * vx
  let a :=
    if a * (a + dec) ≥ 2 * dec * r then a - max dec (divCeil (a * a) (2 * r))
    else if vm < a then max (a - dec) vm
    else min (a + acc) vm
  let a := max a (min dec r)
  if r ≤ a then ⟨signed64 (tgt * 2 ^ 32), 0, true⟩ else ⟨signed64 (pa + d * a), d * a, false⟩

/-- The whole count nearest `pa`, ties in direction `d` (R273). -/
def nearest (d pa : Int) : Int := signed32 (if d < 0 then -((-pa + 2 ^ 31) / 2 ^ 32) else (pa + 2 ^ 31) / 2 ^ 32)

/-- One tick of a stop in direction `d` with deceleration `dec` (R273); at its end PA still lies off the whole count. -/
def stopTick (d pa vx dec : Int) : PathStep :=
  let a := max 0 (d * vx - dec)
  ⟨signed64 (pa + d * a), d * a, a == 0⟩

-- single axes

/-- The generator of an axis that moves alone, at a tick (R267, R269, R270, R273). On a device that is not the holder,
the generators of twin axes take mirrored values and do not run (R399). -/
def State.genTick (s : State) (n : Nat) : State :=
  let g := s.gen n
  if s.isRoleAxis n && !s.rolesRun then s
  else match g.mode with
  | .tracking _ => if s.mustTrack n then s else s.updGen n fun x => x.settle s.now
  | .moving =>
    if g.inGroup then s
    else
      let p := moveTick g.dir g.tgt g.pa g.vx (s.v (Obj.pgVmax n) * 2 ^ 16) (s.v (Obj.pgAcc n)) (s.v (Obj.pgDec n))
      s.updGen n fun x =>
        let x := { x with pa := p.pa, vx := p.vx }
        if p.done then x.settle s.now else x
  | .stopping quick =>
    if g.inGroup then s
    else
      let p := stopTick g.dir g.pa g.vx (s.v (if quick then Obj.pgQsDec n else Obj.pgDec n))
      s.updGen n fun x =>
        if p.done then
          let t := nearest x.dir p.pa
          { x with pa := t * 2 ^ 32, vx := 0, tgt := t }.settle s.now
        else { x with pa := p.pa, vx := p.vx }
  | _ => s

/-- A target pending at standstill becomes T at the next tick (R269). -/
def State.pendTick (s : State) (n : Nat) : State :=
  let g := s.gen n
  match g.pend with
  | some v =>
    if g.mode == .standstill && g.since < s.now && !g.inGroup then
      match s.jointGroup n with
      | some _ => s
      | none => s.updGen n fun x => if v = x.tgt then { x with pend := none } else x.start v
    else s
  | none => s

-- force allocation (R281)

/-- A member's share of a total in the making: slot, numerator over the common denominator. -/
abbrev Shares := List (Nat × Int)

/-- An allocation: the targets by slot, and the deficit. -/
structure Alloc where
  f : List (Nat × Int) := []
  deficit : Int := 0
deriving DecidableEq, Repr, Inhabited

/-- Σ of a function over a list. -/
def sumBy {α : Type} (l : List α) (f : α → Int) : Int := l.foldl (fun a x => a + f x) 0

/-- The passes of R281: shares `f` over `den`, deficit numerator, the last U, and whether the loop stopped. -/
structure AllocPass where
  f : Shares
  den : Int
  deficit : Int := 0
  u : List Nat := []
  stop : Bool := false
deriving DecidableEq, Repr, Inhabited

/-- One pass of R281. -/
def allocPass (fmax w : Nat → Int) (p : AllocPass) : AllocPass :=
  if p.stop then p
  else
    let x := sumBy p.f fun q => max 0 (q.2 - fmax q.1 * p.den)
    let f := p.f.map fun q => (q.1, min q.2 (fmax q.1 * p.den))
    if x = 0 then { p with f := f, stop := true }
    else
      let u := (f.filter fun q => q.2 < fmax q.1 * p.den && 0 < w q.1).map (·.1)
      if u.isEmpty then { p with f := f, u := [], deficit := p.deficit + x, stop := true }
      else
        let sw := sumBy u w
        { f := f.map fun q => (q.1, if u.contains q.1 then q.2 * sw + x * w q.1 else q.2 * sw)
          den := p.den * sw, deficit := p.deficit * sw, u := u }

/-- The cap after the last pass (R281). -/
def allocCap (fmax : Nat → Int) (p : AllocPass) : AllocPass :=
  let x := sumBy p.f fun q => max 0 (q.2 - fmax q.1 * p.den)
  { p with f := p.f.map (fun q => (q.1, min q.2 (fmax q.1 * p.den))), deficit := p.deficit + x }

/-- The rounding remainder, added to the first slot of `order` that can take it; what none can take whole is spread in
that order, and the rest is deficit (R281). -/
def addRemainder (fmax : Nat → Int) (order : List Nat) (f : Shares) (rem : Int) : Shares × Int :=
  let val := fun m => ((f.find? fun q => q.1 == m).map (·.2)).getD 0
  match order.find? fun m => val m + rem ≤ fmax m with
  | some m => (f.map fun q => if q.1 = m then (q.1, q.2 + rem) else q, 0)
  | none => order.foldl (fun a m =>
      let add := min a.2 (max 0 (fmax m - val m))
      (a.1.map fun q => if q.1 = m then (q.1, q.2 + add) else q, a.2 - add)) (f, rem)

/-- The allocation of total `tot` (R281): `all` are the members in use, `lost` tells which of them are lost. -/
def allocate (tot : Int) (all : List Nat) (lost : Nat → Bool) (sh w fmax : Nat → Int) : Alloc :=
  let a := all.filter fun m => !lost m
  let sall := sumBy all sh
  if a.isEmpty || sall = 0 then { f := [], deficit := tot }
  else
    let wa := sumBy a w
    let slost := sumBy (all.filter lost) sh
    let p : AllocPass :=
      if wa = 0 then { f := a.map fun i => (i, tot * sh i), den := sall, deficit := tot * slost }
      else { f := a.map fun i => (i, tot * sh i * wa + tot * slost * w i), den := sall * wa }
    let p := allocCap fmax ((upto 8).foldl (fun p _ => allocPass fmax w p) p)
    let r := p.f.map fun q => (q.1, divRound q.2 p.den)
    let def0 := divRound p.deficit p.den
    let rem := tot - def0 - sumBy r fun q => q.2
    let first := (if p.u.isEmpty then a else p.u).headD 0
    let order := (a.filter fun m => first ≤ m) ++ a.filter fun m => m < first
    let x := addRemainder fmax order r rem
    { f := x.1, deficit := def0 + x.2 }

/-- The allocation of a group's total among its members (R281). -/
def State.allocGroup (s : State) (g : Nat) (tot : Int) : Alloc :=
  allocate tot (s.members g) (s.memberLost g) (fun m => s.v (Obj.agShare g m)) (fun m => s.v (Obj.agReallocW g m))
    fun m => s.v (Obj.agForceMax g m)

/-- A total force takes effect: allocation and group move (R280, R281); a total held back waits on (R277). -/
def State.allocMove (s : State) (g : Nat) (tot : Int) : State :=
  let a := s.allocGroup g tot
  let s := s.updGroup g fun x => { x with total := tot }
  (s.setR (Obj.agForceDeficit g) (clamp (-2147483648) 2147483647 a.deficit)).startGroup g a.f

/-- A total under the pending rule (R277, R280): held while the group is busy; the total in effect makes no move. -/
def State.wantTotal (s : State) (g : Nat) (tot : Int) : State :=
  if s.groupBusy g then s.updGroup g fun x => { x with pendTotal := some tot }
  else
    let s := s.updGroup g fun x => { x with pendTotal := none }
    if tot = (s.group g).total then s else s.allocMove g tot

/-- The effect of a write to AG_FORCE_TOTAL (R280). -/
def State.writeForceTotal (s : State) (g : Nat) (v : Int) : State := (s.setR (Obj.agForceTotal g) v).wantTotal g v

-- group moves at a tick (R277, R278)

/-- A local member of a running move. -/
def State.localIn (s : State) (g : Nat) : List Nat := (s.members g).filter fun m => !s.isRemote g m && s.inMove g m

/-- What a tick of the group's path leaves of member `m`: it follows the lead's way `q`; at the lead's arrival it stands
on its target, and at the end of a stop on the whole count nearest its PA (R277, R278). -/
def Gen.follow (a : Gen) (now : Nat) (stop : Option GStop) (done : Bool) (pa : Int) : Gen :=
  match stop, done with
  | some _, true =>
    let t := nearest a.dir pa
    { a with pa := t * 2 ^ 32, vx := 0, tgt := t }.settle now
  | none, true => { a with pa := signed64 (a.tgt * 2 ^ 32), vx := 0 }.settle now
  | some x, false => { a with pa := pa, vx := signed64 (pa - a.pa), mode := .stopping x.quick }
  | none, false => { a with pa := pa, vx := signed64 (pa - a.pa) }

/-- One tick of the lead of a group move (R267, R273, R278). -/
def State.leadTick (s : State) (g : Nat) (x : GMove) : PathStep :=
  match x.stopAt s.now with
  | some y => stopTick (sgn x.ld) x.pa x.vx (s.stopLimit g x y)
  | none =>
    let l := s.moveLimits g x
    moveTick (sgn x.ld) (signed32 (x.ls + x.ld)) x.pa x.vx l.1 l.2.1 l.2.2

/-- One tick of a group's running move (R277, R278). A move whose members have all left it ends. -/
def State.groupTick (s : State) (g : Nat) : State :=
  match (s.group g).move with
  | none => s
  | some x =>
    if s.now < x.start then s
    else if (s.moveDist g x).isEmpty then s.endGroup g
    else
      let p := s.leadTick g x
      let y := { x with pa := p.pa, vx := p.vx }
      let s := forEach (s.localIn g) s fun s m =>
        s.updGen (s.memberAxis g m) fun a => a.follow s.now (x.stopAt s.now) p.done (y.paOf m y.way)
      if p.done then s.endGroup g else s.updGroup g fun z => { z with move := some y }

/-- What an idle group starts at a tick: its pending targets (mode 1) or its pending total (mode 2) (R277). -/
def State.groupPend (s : State) (g : Nat) : State :=
  if s.v (Obj.agMode g) == 2 then
    match (s.group g).pendTotal with
    | some v => if s.groupBusy g then s else s.wantTotal g v
    | none => s
  else s.launchGroup g

/-- Slot `m` stands at its safe setpoint (R279): at its target or, in modes 0 and 1 with SAFE_MODE 1, at SAFE_TARGET. -/
def State.atSafe (s : State) (g m : Nat) : Bool :=
  let still := if s.isRemote g m then bit (s.remoteStatus g m) 2 else (s.gen (s.memberAxis g m)).still
  let safe := if s.v (Obj.agMode g) < 2 && s.memberVal g m Obj.safeMode == 1 then s.memberVal g m Obj.safeTarget
    else s.memberTarget g m
  still && s.memberSetpoint g m == safe

/-- A group in RAMP is at its safe setpoint when every member has reached standstill there with nothing pending (R119,
R279); in mode 2 a lost member has no share of the safe total. -/
def State.rampDone (s : State) (g : Nat) : Bool :=
  !s.groupBusy g && (s.group g).pend.isEmpty && (s.group g).pendTotal.isNone &&
    (s.v (Obj.agMode g) != 2 || (s.group g).total == s.v (Obj.agSafeTotal g)) &&
      (s.members g).all fun m => (s.v (Obj.agMode g) == 2 && s.memberLost g m) || s.atSafe g m

/-- LAPSE becomes 0b11 at the safe setpoint (R279). -/
def State.endRamp (s : State) (g : Nat) : State :=
  if (s.sem g).lapse = 2 ∧ s.rampDone g = true then s.updSem g fun x => { x with lapse := 3 } else s

/-- One profile tick (R265, R267, R277): pending targets start, every generator and group advances, step outputs
follow. -/
def State.tick (s : State) : State :=
  let s := forEach (upto 32) s fun s n => s.pendTick n
  let s := forEach (upto 16) s fun s g => s.groupPend g
  let s := forEach (upto 32) s fun s n => s.genTick n
  let s := forEach (upto 16) s fun s g => s.groupTick g
  let s := forEach (upto 32) s fun s n => s.updGen n fun x => x.note s.now
  (forEach (upto 16) s fun s g => s.endRamp g).stepAll

/-- PROFILE_TICK (R267): at the whole multiples of 300 ticks, while the control domain has power. -/
def execProfileTick (t : Nat) (s : State) : Res :=
  s.run t fun s => if isTick s.now && s.power.ce then s.once markTick State.tick else s

/-- STANDSTILL_REACHED (R272): SS_TIME has passed without a latch outside the window. -/
def execStandstillReached (t : Nat) (n : Fin 32) (s : State) : Res :=
  s.run t fun s =>
    let g := s.gen n
    if g.since + s.vn (Obj.ssTime n) * ms ≤ s.now then
      let s := match g.mode with
        | .settling => s.updGen n fun x => { x with mode := .standstill, since := s.now }
        | .tracking false => s.updGen n fun x => { x with mode := .tracking true }
        | _ => s
      match s.groupOf n with
      | some (g, _) => s.endRamp g
      | none => s
    else s

-- member loss (R282)

/-- Slot `m` is lost now (R282). -/
def State.lostNow (s : State) (g m : Nat) : Bool :=
  s.inUse g m &&
    if s.isRemote g m then
      bit ((s.group g).remoteLost : Int) m || ((s.group g).unconfirmed && (s.group g).move.isSome)
    else
      let n := s.memberAxis g m
      s.trackCase n || bit (s.v (Obj.axFaultCause n)) 1 || bit (s.v (Obj.axFaultCause n)) 2

/-- The map of the slots that satisfy `p`. -/
def slotMap (p : Nat → Bool) : Nat := (upto 8).foldl (fun m k => if p k then m + 2 ^ k else m) 0

/-- MEMBER_LOSS (R282): at a commit instant; `remote` holds the twin's loss reports, one bit per slot. -/
def execMemberLoss (t : Nat) (g : Fin 16) (remote : Nat) (s : State) : Res :=
  s.run t fun s =>
    let mode := s.v (Obj.agMode g)
    if isCommit s.now && (mode == 1 || mode == 2) then
      let s := s.updGroup g fun x => { x with remoteLost := remote % 256 }
      let new := slotMap fun m => s.memberLost g m || s.lostNow g m
      if new = (s.group g).lost then s
      else
        let s := s.updGroup g fun x => { x with lost := new }
        if mode = 2 then (s.bumpR (Obj.agReallocCount g)).allocMove g (s.group g).total else s
    else s

/-- MEMBER_REGAIN (R282): at a commit instant at group standstill. -/
def execMemberRegain (t : Nat) (g : Fin 16) (s : State) : Res :=
  s.run t fun s =>
    let new := slotMap fun m => s.memberLost g m && s.lostNow g m
    if isCommit s.now && !s.groupBusy g && new != (s.group g).lost then
      let back := (s.members g).filter fun m => !s.isRemote g m && s.memberLost g m && !bit (new : Int) m
      let s := s.updGroup g fun x => { x with lost := new }
      let s := forEach back s fun s m =>
        let n := s.memberAxis g m
        if s.mustTrack n then s else s.updGen n fun x => x.settle s.now
      if s.v (Obj.agMode g) == 2 then s.allocMove g (s.group g).total else s
    else s

-- remote members (R284, R285)

/-- REMOTE_MOVE_START (R284): the move's first tick; a remote member whose confirmation is missing is lost for it. -/
def execRemoteMoveStart (t : Nat) (g : Fin 16) (s : State) : Res :=
  s.run t fun s =>
    match (s.group g).move with
    | some m =>
      if isTick s.now && m.start == s.now && s.hasRemote g then s.updGroup g fun x => { x with unconfirmed := !m.confirmed }
      else s
    | none => s

/-- The slot of the description that names the axis of this device's slot `m`. -/
def slotNamed (d : MoveDesc) (axis : Nat) : Option Nat := (upto 8).find? fun i => d.axes.getD i none == some axis

/-- The description of a stop: the running move of the twin's path brakes with the deceleration it gives (R285). -/
def GMove.braked (x : GMove) (d : MoveDesc) : GMove :=
  { x with stops := { quick := false, start := d.start, dec := some d.stop } :: x.stops }

/-- The move that a description gives to the members `mem` of group `g` (R285). -/
def State.described (s : State) (g : Nat) (d : MoveDesc) (mem : List Nat) : GMove :=
  let at_ := fun m (l : List Int) => match slotNamed d (s.memberAxis g m) with
    | some i => if mem.contains m then l.getD i 0 else 0
    | none => 0
  let ls := d.s.getD d.lead 0
  { lead := ((mem.find? fun m => slotNamed d (s.memberAxis g m) == some d.lead).getD 255)
    s := (upto 8).map fun m => at_ m d.s, d := (upto 8).map fun m => at_ m d.d, ls := ls, ld := d.d.getD d.lead 0
    pa := ls * 2 ^ 32, vx := d.vx, start := d.start, given := some (d.vm, d.acc, d.dec), confirmed := true }

/-- MOVE_DESCRIPTION (R285): a group of AG_MODE 3 confirms the description and runs the same path; the description of a
stop brakes the running move. -/
def execMoveDescription (t : Nat) (g : Fin 16) (d : MoveDesc) (s : State) : Res :=
  s.run t fun s =>
    let mem := (s.members g).filter fun m => !s.isRemote g m && (slotNamed d (s.memberAxis g m)).isSome
    if s.v (Obj.agMode g) != 3 || mem.isEmpty || !s.twinThere then s
    else
      let s := s.send (.confirm d.group d.start)
      if d.stop ≠ 0 then s.updGroup g fun x => { x with move := x.move.map fun y => y.braked d }
      else
        let mem := mem.filter fun m => !(s.gen (s.memberAxis g m)).tracks
        let mv := s.described g d mem
        if mem.isEmpty || mv.ld = 0 then s
        else
          let s := (s.updGroup g fun x => { x with move := some mv }).setR (Obj.agLead g) mv.lead
          forEach mem s fun s m => s.updGen (s.memberAxis g m) fun x =>
            { x with mode := .moving, inGroup := true, pend := none, dir := if slotVal mv.d m < 0 then -1 else 1
                     tgt := signed32 (slotVal mv.s m + slotVal mv.d m) }

/-- MOVE_CONFIRMATION (R285): the twin confirms before the start tick. -/
def execMoveConfirmation (t : Nat) (g : Fin 16) (s : State) : Res :=
  s.run t fun s => s.updGroup g fun x =>
    { x with move := x.move.map fun m => if s.now ≤ m.start then { m with confirmed := true } else m }

end Sys2Proof.Machine
end

