-- ==== Sys2Proof/Machine/Voting.lean ====
section
/-! DEFINITION. Redundant execution: checkpoints, digest frames, votes, reseeding, hand-overs, planned moves, arbitration
and SINGLE-SUPERVISED (R22, R292 to R320, R348, R350, R399). -/

namespace Sys2Proof.Machine

-- streams

/-- The Sluice stream (R304). -/
def sluiceStream : Nat := 512

/-- The profile stream (R304). -/
def profileStream : Nat := 513

/-- The ARMRB byte of channel `c`'s digest frames (R301). -/
def State.armrbByte (s : State) (c : Ch) : Nat :=
  (upto 4).foldl (fun m k => if (s.arm c k).qualified && (s.arm c k).rb then m + 2 ^ k else m) 0

/-- The 16 bytes of a digest frame (R301). -/
def digBytes (k : Nat) (f : DigFrame) : List Byte :=
  leBytes 2 k ++ leBytes 2 f.seq ++ leBytes 4 f.digest ++ leBytes 1 f.armrb ++ leBytes 1 f.flags ++ leBytes 6 0

/-- Channel `c` sends its digest frame to both peers and holds it itself (R301). -/
def State.sendDigest (s : State) (c : Ch) (k digest flags : Nat) : State :=
  let f : DigFrame := ⟨(s.stream k).seq % 65536, digest, s.armrbByte c, flags⟩
  let s := s.updStream k fun x => { x with held := x.held.upd c fun t => t.set c (some f) }
  s.send (.strap c .digest (digBytes k f))

/-- A checkpoint of stream `k` opens: nothing is held yet, and `voting` tells whether a vote follows. -/
def State.openStream (s : State) (k : Nat) (voting : Bool) : State :=
  s.updStream k fun x =>
    { x with seq := x.seq + 1, ck := some s.now, held := Trio.all (Trio.all none), vote := Trio.all none
             got := Trio.all (Trio.all none), complete := false, exempt := Trio.all false, voting := voting }

/-- Votes are made now (R302, R312, R313): in STARTUP, NOMINAL and DUAL, arbitration included. In SINGLE-SUPERVISED the twin
compares (log entry 131). -/
def State.votesNow (s : State) : Bool := s.red.state != .passive && s.red.state != .single

-- the twin's mirror (R336, R399)

/-- OBJ_DESC.MIRROR of entry `o`. -/
def State.isMirrored (s : State) (o : Nat) : Bool := bit (s.v (Obj.objDesc o)) 0

/-- The present value of entry `o` of the object table. -/
def State.entryValue (s : State) (o : Nat) : Int :=
  let r := s.dictRef o
  if r = 0 then maj3 (s.dobj .chA o) (s.dobj .chB o) (s.dobj .chC o) else s.dictValue (r / 256) (r % 256)

/-- The task that writes the value of entry `o`: that of its data object, or of the task that INT_STATE names. -/
def State.entryWriter (s : State) (o : Nat) : Option Nat :=
  let r := s.dictRef o
  if r = 0 then (s.writersOf o).head?
  else
    match findObj (r / 256) (r % 256) with
    | some e =>
      match e.desc.role with
      | .intState => some e.i
      | .lastOutput => some e.i
      | .lastError => some e.i
      | _ => none
    | none => none

/-- The streams that carry the mirror now (R399, R400). -/
def State.mirrorStreams (s : State) : List Nat :=
  (if s.vn Obj.twinState = 3 then [0x0D01] else []) ++
    (if (s.vn Obj.twinState = 3 ∨ s.vn Obj.twinState = 9) ∧ s.streamOn 0x0D09 = true then [0x0D09] else [])

/-- The mirror values of the given entries leave on the mirror's streams, sent by every channel in V (R399). -/
def State.mirrorSend (s : State) (os : List Nat) : State :=
  let data := os.flatMap fun o => leBytes 2 o ++ leBytesInt 4 (s.entryValue o)
  if os.isEmpty then s
  else forEach s.mirrorStreams s fun s n => forEach s.voters s fun s c => s.sendMsg c n data

-- remote objects (R337)

/-- Objects placed remotely leave for the twin on PLACE_STREAM, sent by every channel in V (R337; their order is log entry
145). -/
def State.remoteSend (s : State) (os : List Nat) : State :=
  let data := os.flatMap fun o => leBytes 2 o ++ leBytesInt 4 (s.entryValue o)
  if os.isEmpty then s else forEach s.voters s fun s c => s.sendMsg c (s.vn Obj.placeStream) data

/-- The objects that the plan places remotely (R337). -/
def State.remoteObjs (s : State) : List Nat := (s.place.plan.objs.filter fun p => p.2 == 4 + 3).map (·.1)

/-- The remote objects that no task writes leave at their RATE (R337, log entry 144). -/
def State.remoteRates (s : State) : State :=
  s.remoteSend (s.remoteObjs.filter fun o =>
    (s.writersOf o).isEmpty && decide ((s.now - 30000) * s.objRate o / sec < s.now * s.objRate o / sec))

-- owners and moves

/-- A task's owner has left V: it takes its fallback owner (R350). A SPLIT task starts there in first use. -/
def State.ownerFallback (s : State) (k : Nat) : State :=
  let r := s.task k
  let own := chOf r.owner
  if r.owner < 3 && !s.isDq k && !s.voters.contains own && !s.red.inDebug.get own then
    let f := s.place.plan.fbOwner.getD k 255
    let o := if f < 3 && s.voters.contains (chOf f) then some (chOf f) else s.voters.head?
    match o with
    | none => s
    | some o =>
      if r.computed.get o then s.updTask k fun r => { r with owner := o.num }
      else
        match s.pickEngine ⟨s.clocks, false, false⟩ s.present k o with
        | some e =>
          (s.startTask k).updTask k fun r =>
            { r with owner := o.num, computed := (Trio.all false).set o true, engines := r.engines.set o e }
        | none => s
  else s

/-- The channels in which a move gives a task a new engine (R348). -/
def TaskRec.moved (r : TaskRec) (m : TaskMove) : List Ch :=
  Ch.all.filter fun c => m.computed.get c && (!r.computed.get c || r.engines.get c != m.engines.get c)

/-- A task state of unknown content: a copy that came from the twin (log entry 6). -/
def State.freeTaskSt (s : State) (old : TaskSt) : TaskSt × State :=
  let f := fun i => signed32 (Config.freeValue (s.used + i))
  ({ old with pid := { old.pid with i := f 0 }, d := f 1, ePrev := f 2, pPrev := f 3, vf := f 4, rPrev := f 5, x := f 6
              uLast := f 7 },
    { s with used := s.used + 8 })

/-- The site that the present plan gives a task, as a move (R330, R343). -/
def siteMove (w : Nat) : TaskMove :=
  { owner := w / 2 ^ 30, computed := ⟨bit w 16, bit w 17, bit w 18⟩, engines := ⟨field w 0 4, field w 4 4, field w 8 4⟩ }

/-- A site differs from the present one in what counts: owner, channels, and the engines of those channels. -/
def TaskRec.differs (r : TaskRec) (m : TaskMove) : Bool :=
  r.owner != m.owner || r.computed != m.computed || Ch.all.any fun c => m.computed.get c && r.engines.get c != m.engines.get c

/-- A planned move of task `k` to the site that the plan gives it (R348, R354): not during a hand-over, and not while a
move of the task runs or a turn keeps it off its engine. -/
def State.planMove (s : State) (k : Nat) : State :=
  let r := s.task k
  let m := siteMove (s.place.plan.site.getD k 0)
  let hand := match s.taskAxis k with
    | some n => (s.axis n).handover != 0
    | none => false
  let out := Ch.all.any fun c => (s.place.movedOut.get c).contains k
  if !r.placed || r.unplaced || hand || out || r.move.isSome || (s.place.plan.site.getD k 0) = 0 then s
  else if r.differs m then s.updTask k fun r => { r with move := some m }
  else s

/-- The new site takes over (R348): every channel that did not compute the task starts from the owner's state, or from
the twin's copy. Its trace stops where it would be the fifth on its new engine (R222). -/
def State.takeOver (s : State) (k : Nat) (m : TaskMove) : State :=
  let s := forEach (Ch.all.filter m.computed.get) s fun s c => s.limitTraces k c (m.engines.get c)
  let r := s.task k
  let a := if r.owner = 3 then s.freeTaskSt (r.st.get .chA) else (r.st.get (chOf r.owner), s)
  let s := a.2.updTask k fun r =>
    { r with st := ⟨if r.computed.a then r.st.a else a.1, if r.computed.b then r.st.b else a.1,
                    if r.computed.c then r.st.c else a.1⟩
             owner := m.owner, computed := m.computed, engines := m.engines, move := none, fallback := false }
  (((s.bumpR (Obj.taskMoves k)).planMove k).movesDone)

/-- A failed attempt of a move (R348); the third abandons it, and with it a turn that waits for it. -/
def State.moveFails (s : State) (k : Nat) (m : TaskMove) : State :=
  if 2 ≤ m.fails then
    let s := forEach ((s.task k).moved m) s fun s c => s.penalize c (m.engines.get c) 32 0
    s.dropMove k
  else s.updTask k fun r => { r with move := some { m with fails := m.fails + 1 } }

/-- The state after the iteration goes to the new sites (R348): to the twin on the redundant twin stream, to another channel as a
class 5 frame; within the owner's channel it needs no frame. -/
def State.sendSite (s : State) (k : Nat) (m : TaskMove) : State :=
  let r := s.task k
  let own := chOf r.owner
  if m.owner = 3 then
    forEach s.voters s fun s c => s.sendMsg c 0x0D02 (leBytes 2 k ++ (r.st.get c).values.flatMap (leBytesInt 4))
  else if r.owner = 3 then s
  else forEach ((r.moved m).filter fun c => c != own) s fun s c => s.strapSend own c .copy (.site k (r.st.get own))

/-- A planned move at a checkpoint of iteration start `v` (R348): the copy at N, the compare at N + 1. -/
def State.moveStep (s : State) (k v : Nat) : State :=
  match (s.task k).move with
  | none => s
  | some m =>
    let r := s.task k
    let cs := r.moved m
    if cs.isEmpty && r.computed = m.computed then s.updTask k fun r => { r with owner := m.owner, move := none }
    else if !m.copied then
      if cs.any fun c => bit (s.power.nap.get c : Int) (m.engines.get c) then s
      else
        (s.updTask k fun r => { r with move := some { m with copied := true } }).sendSite k m
    else
      let done := m.ready && (Ch.all.filter (s.runsIn k)).all fun c => match r.fin.get c with
        | some d => d.start == v && !d.fault
        | none => false
      if done then s.takeOver k m
      else (s.moveFails k m).sendSite k m

-- hand-overs

/-- Every enabled task of an axis has passed its step: the new mode is in effect (R316, R317). -/
def State.endHandover (s : State) (n : Nat) : State :=
  let ks := s.tasksOf n
  if (s.axis n).handover ≠ 0 ∧ (ks.all fun k => (s.task k).ho == 5) = true then
    let s := s.updAxis n fun a => { a with split := a.handover == 1, handover := 0 }
    forEach ks s fun s k => s.updTask k fun r => { r with ho := 0 }
  else s

/-- The shadows of a task that becomes LOCKED take their engines and wait for the owner's state (R317 step 2). -/
def State.joinShadows (s : State) (k : Nat) : State :=
  let r := s.task k
  let cs := s.voters.filter fun c => c.num != r.owner
  let s := forEach cs s fun s c =>
    if (s.task k).computed.get c then s
    else match s.pickEngine ⟨s.clocks, false, false⟩ s.present k c with
      | some e => s.updTask k fun r => { r with computed := r.computed.set c true, engines := r.engines.set c e }
      | none => s
  let s := s.updStream k fun x => { x with reseed := cs.foldl (fun t c => t.set c ((s.task k).computed.get c)) x.reseed }
  let s := s.updTask k fun r => { r with ho := 4 }
  if r.owner < 3 then forEach (cs.filter (s.task k).computed.get) s fun s c => s.sendCopy (chOf r.owner) c k else s

/-- A hand-over toward LOCKED at a checkpoint of the task (R317), before its frames leave. -/
def State.handStep (s : State) (k : Nat) : State :=
  match s.taskAxis k with
  | none => s
  | some n =>
    if (s.axis n).handover ≠ 2 then s
    else match (s.task k).ho with
      | 2 => s.updTask k fun r => { r with ho := 3 }
      | 3 => s.joinShadows k
      | 4 =>
        let x := s.stream k
        if s.voters.any fun c => x.reseed.get c || x.skip.get c then s.joinShadows k
        else (s.updTask k fun r => { r with ho := 5 }).endHandover n
      | _ => s

/-- A hand-over toward SPLIT at checkpoint N of the task (R316), after its frames have left. -/
def State.splitStep (s : State) (k : Nat) : State :=
  match s.taskAxis k with
  | none => s
  | some n =>
    if (s.axis n).handover = 1 ∧ (s.task k).ho = 1 then
      (s.updTask k fun r =>
        { r with ho := 5, computed := if r.owner < 3 then (Trio.all false).set (chOf r.owner) true else r.computed }).endHandover n
    else s

/-- The effect of a write to AX_REDUND_MODE (R314 to R317): with every task of the axis disabled it takes effect at
once. -/
def State.writeRedundMode (s : State) (n : Nat) (v : Int) : State :=
  let s := s.setR (Obj.axRedundMode n) v
  let ks := s.tasksOf n
  if ((s.axis n).split = true ↔ v = 1) then s
  else if ks.isEmpty then s.updAxis n fun a => { a with split := v == 1 }
  else
    let s := s.updAxis n fun a => { a with handover := if v = 1 then 1 else 2 }
    forEach ks s fun s k => s.updTask k fun r => { r with ho := if v = 1 then 1 else 2 }

-- checkpoints

/-- The start of the iteration whose checkpoint lies at the present time (R20, R331). -/
def State.ckStart (s : State) (k : Nat) : Option Nat :=
  if s.isDq k then
    match s.dqSlot k with
    | some (c, b) =>
      match (s.slot c b).valley with
      | some v => if (s.slot c b).running && v + 3 * s.gn c (Obj.ckptOffset c b) == s.now then some v else none
      | none => none
    | none => none
  else
    let p := s.vn (Obj.taskPeriod k) * us
    if p ≠ 0 ∧ s.now % p = 0 ∧ p ≤ s.now then some (s.now - p) else none

/-- The channels that compute task `k` now, whether or not their engine works. -/
def State.computes (s : State) (k : Nat) : List Ch :=
  Ch.all.filter fun c => s.siteIn k c && (s.takesPart c || (s.red.inDebug.get c && (s.task k).owner == c.num) ||
    match s.red.arb with
    | some a => a.cands.get c
    | none => false)

/-- The output of a completed iteration enters its data object in channel `c` (R294); that of a task computed in one
channel goes to the other channels in V. -/
def State.enterOutput (s : State) (c : Ch) (k : Nat) (outs : List Int) (alone : Bool) : State :=
  let s := s.updTask k fun r => { r with out := r.out.set c outs }
  let o := s.vn (Obj.taskOut k)
  if s.isDq k || 2048 ≤ o then s
  else
    let v := outs.headD 0
    let s := s.setDobj c o v
    if alone then forEach (s.voters.filter fun d => d != c) s fun s d => s.strapSend c d .samples (.output k o v) else s

/-- Channel `c` sends the twin the inputs and the digest of an iteration (R311, R312). -/
def State.sendToTwin (s : State) (c : Ch) (k : Nat) (d : Done) : State :=
  s.sendMsg c 0x0D02 (digBytes k ⟨(s.stream k).seq % 65536, d.digest, 0, 0⟩ ++ d.inputs.flatMap (leBytesInt 4))

/-- The frame of channel `c` at a checkpoint without a digest: FLAGS as given, left out of the history or not (R301, R306). -/
def State.noDigest (s : State) (c : Ch) (k flags : Nat) (sends exempt : Bool) : State :=
  let s := if exempt then s.updStream k fun x => { x with exempt := x.exempt.set c true } else s
  if sends then s.sendDigest c k 0 flags else s

/-- A deadline miss of task `k` in channel `c` (R22). -/
def State.missDeadline (s : State) (c : Ch) (k : Nat) : State :=
  (s.bumpC c (Obj.deadlineMisses k)).penalize c ((s.task k).engines.get c) 16 0

/-- What channel `c` does at a checkpoint of iteration start `v` (R22, R294, R298, R301, R306, R311): an iteration that a
coding fault ended, or that its engine can no longer end, and one skipped for reseeding are left out of the history. -/
def State.checkChannel (s : State) (c : Ch) (k v : Nat) (sends alone : Bool) : State :=
  let r := s.task k
  let e := r.engines.get c
  let lost := bit (s.red.engineFault.get c : Int) e || bit (s.red.halted.get c : Int) e
  match r.fin.get c with
  | some d =>
    if d.fault || lost then s.noDigest c k 1 sends true
    else if d.start = v then
      let s := s.enterOutput c k d.outs alone
      let s := if sends then s.sendDigest c k d.digest 0 else s
      if s.red.arb.isSome || s.red.state == .single then s.sendToTwin c k d else s
    else (s.missDeadline c k).noDigest c k 1 sends false
  | none =>
    if lost then s.noDigest c k 1 sends true
    else if (s.stream k).skip.get c then s.noDigest c k 2 sends true
    else (s.missDeadline c k).noDigest c k 1 sends false

/-- A checkpoint of task `k` of iteration start `v` (R301): no digest of a task in SPLIT, or of one that a debugged channel
computes as in SPLIT, is sent or voted (R314, R319). A channel of V that has no site for the task sends no digest and is
left out of the history (R306). -/
def State.checkTask (s : State) (k v : Nat) : State :=
  let s := (s.ownerFallback k).handStep k
  let cs := s.computes k
  let sends := !s.isSplit k && cs.any s.voters.contains
  let s := s.openStream k (s.votesNow && sends)
  let s := forEach (s.voters.filter fun c => !cs.contains c) s fun s c =>
    s.updStream k fun x => { x with exempt := x.exempt.set c true }
  let s := forEach cs s fun s c => s.checkChannel c k v sends (cs.length == 1)
  let s := (s.splitStep k).moveStep k v
  let s := s.remoteSend (s.remoteObjs.filter fun o => s.vn (Obj.taskOut k) == o)
  s.mirrorSend ((s.objEntries.filter s.isMirrored).filter fun o => s.entryWriter o == some k)

/-- A task on the twin that is to move here: the twin's copy comes at N, and the site takes over at N + 1 (R348). -/
def State.checkTwinTask (s : State) (k : Nat) : State :=
  match (s.task k).move with
  | some m =>
    if m.owner < 3 ∧ (s.task k).owner = 3 then
      if m.copied then s.takeOver k m else s.updTask k fun r => { r with move := some { m with copied := true } }
    else s
  | none => s

/-- CHECKPOINT (R301): at the checkpoint instant of the iteration that was last to be released. -/
def execCheckpoint (t : Nat) (k : Fin 512) (s : State) : Res :=
  s.run t fun s =>
    match s.ckStart k with
    | none => s
    | some v =>
      if s.onTwin k then s.checkTwinTask k
      else if (s.iterates k && (s.task k).lastStart.isSome && (s.stream k).ck != some s.now) then s.checkTask k v
      else if s.finishing k && (s.task k).lastStart == some v && (s.stream k).ck != some s.now then
        (s.checkTask k v).updTask k fun r => { r with lastStart := none }
      else s

/-- DIGEST_FRAME (R301): held for the vote while collection is open. The arming channel's report acts on the owner at
once (R253 condition 7). -/
def execDigestFrame (t : Nat) (rx tx : Ch) (k : Fin 514) (f : DigFrame) (s : State) : Res :=
  s.run t fun s =>
    if rx == tx || !s.arch.alive.get rx || !s.strapPath rx tx then s
    else
      let s := if rx = tx.next then
          forEach (upto 4) s fun s b => s.updArm tx b fun x => { x with reported := bit (f.armrb : Int) b }
        else s
      match (s.stream k).ck with
      | some ck =>
        if s.takesPart rx && s.now ≤ ck + us && f.seq == (s.stream k).seq % 65536 then
          s.updStream k fun x => { x with held := x.held.upd rx fun h => h.set tx (some f) }
        else s
      | none => s

-- votes

/-- The digest of channel `d` as channel `c` holds it: none where it is missing (R302). -/
def State.heldDigest (s : State) (k : Nat) (c d : Ch) : Option Nat :=
  match ((s.stream k).held.get c).get d with
  | some f => if f.flags % 4 = 0 then some f.digest else none
  | none => none

/-- The channels of V whose digest equals that of `d`, as `c` holds them. -/
def State.equalTo (s : State) (k : Nat) (c d : Ch) : List Ch :=
  match s.heldDigest k c d with
  | some g => s.voters.filter fun e => s.heldDigest k c e == some g
  | none => []

/-- The least |M| that gives a result (R302): two, but in STARTUP a channel alone in V is its own result. -/
def State.quorum (s : State) : Nat := if s.red.state = .startup ∧ s.voters.length ≤ 1 then 1 else 2

/-- M in channel `c` (R302): the largest set of equal digests, where the rule in force lets it give a result. -/
def State.voteOf (s : State) (k : Nat) (c : Ch) : List Ch :=
  let m := s.voters.foldl (fun b d => if b.length < (s.equalTo k c d).length then s.equalTo k c d else b) []
  if s.quorum ≤ m.length then m else []

/-- A set of channels as a mask. -/
def maskOf (l : List Ch) : Trio Bool := ⟨l.contains .chA, l.contains .chB, l.contains .chC⟩

/-- A history with one more checkpoint (R306). -/
def shiftHist (h : Nat) (miss : Bool) : Nat := (2 * h + b2n miss) % 256

/-- Channel `d` is left out of channel `c`'s history at this vote (R306). -/
def State.leftOut (s : State) (k : Nat) (c d : Ch) : Bool :=
  (s.stream k).exempt.get d ||
    (c != d && (s.heldDigest k c d).isNone && s.linkDown (linkOf c d) && s.linkIsFresh (linkOf c d))

/-- Channel `c` votes stream `k` (R302, R306). -/
def State.voteChannel (s : State) (k : Nat) (c : Ch) : State :=
  let m := maskOf (s.voteOf k c)
  forEach s.voters (s.updStream k fun x => { x with vote := x.vote.set c (some m) }) fun s d =>
    if s.leftOut k c d then s
    else s.updStream k fun x => { x with hist := x.hist.upd c fun h => h.upd d fun b => shiftHist b (!m.get d) }

/-- Whether most channels of V find channel `d` outside M. -/
def State.missed (s : State) (k : Nat) (d : Ch) : Bool :=
  let out := count s.voters fun c => match (s.stream k).vote.get c with
    | some m => !m.get d
    | none => false
  s.voters.length < 2 * out

/-- A miss of channel `d` enters the device's records (R306, R338). -/
def State.recordMiss (s : State) (k : Nat) (d : Ch) (sent : Bool) : State :=
  let s := s.bumpR (if sent then Obj.chMismatchCount d else Obj.chMissingCount d)
  let s := (s.setR Obj.lastMissStream k).setR Obj.lastMissChannel d.num
  let s := s.setR Obj.lastMissTime ((s.stream k).ck.getD 0 : Nat)
  let s := { s with twin := { s.twin with lastMiss := some s.now } }
  s.penalize d 16 32 0

/-- Links whose failure a vote has met (R306). -/
def State.meetLinks (s : State) (k : Nat) : State :=
  forEach Ch.all s fun s c =>
    let l := linkOf c c.next
    let none_ := (s.heldDigest k c c.next).isNone || (s.heldDigest k c.next c).isNone
    if s.linkDown l && s.linkIsFresh l && none_ then s.markLink l false else s

/-- A dq iteration of task `k` at this checkpoint saw an overload (R250). -/
def State.sawOverload (s : State) (k : Nat) : Bool :=
  Ch.all.any fun c => match (s.task k).fin.get c with
    | some d => d.ovrg
    | none => false

/-- OC_REACTION at the vote (R250). -/
def State.voteOverload (s : State) (k : Nat) : State :=
  if k < 512 ∧ s.isDq k = true ∧ s.sawOverload k = true then
    match s.taskAxis k with
    | some n => s.react n causeOvercurrent (s.vn (Obj.ocReaction n))
    | none => s
  else s

-- the end of a vote

/-- A set of three with at least three 1 bits in its history (R307). -/
def State.threeMisses (s : State) (k : Nat) (c d : Ch) : Bool :=
  3 ≤ popcount ((((s.stream k).hist.get c).get d : Nat) : Int) 8

/-- The result of channel `c`, if it gave one. -/
def State.resultOf (s : State) (k : Nat) (c : Ch) : Trio Bool := ((s.stream k).vote.get c).getD (Trio.all false)

/-- Channel `d` is found outside M by two channels inside it, whose histories of it hold three misses (R307). -/
def State.convicted (s : State) (k : Nat) (d : Ch) : Bool :=
  let x := d.next
  let y := d.next.next
  let f := fun (a b : Ch) => (s.resultOf k a).get a && (s.resultOf k a).get b && !(s.resultOf k a).get d && s.threeMisses k a d
  f x y && f y x

/-- No channel of V has a result (R305). -/
def State.resultNone (s : State) (k : Nat) : Bool := s.voters.all fun c => !(Ch.all.any (s.resultOf k c).get)

/-- The channel of a vote's result `m` from which a channel outside it takes the state (R305): the owner where it is in M, else
the first of A, B and C that is. -/
def State.copyFrom (s : State) (k : Nat) (m : Trio Bool) : Option Ch :=
  let own := (s.task k).owner
  if k < 512 ∧ own < 3 ∧ m.get (chOf own) = true then some (chOf own) else Ch.all.find? m.get

/-- Channel `c` lies outside a result M that is not empty: it takes the majority's state as a copy (R304, R305). Of the Sluice
and of the generators the device holds one copy, the majority's, and the frame leaves it as it is (log entry 50). -/
def State.reseed (s : State) (k : Nat) (c : Ch) : State :=
  match s.copyFrom k (s.resultOf k c) with
  | none => s
  | some d =>
    if (s.resultOf k c).get c then s
    else if 512 ≤ k then s.strapSend d c .copy (.copy k {} [])
    else if s.siteIn k c then (s.updStream k fun x => { x with reseed := x.reseed.set c true }).sendCopy d c k
    else s

/-- What follows a complete vote (R304, R305, R307, R308): reseeding of the channels outside M, and channel faults. -/
def State.judge (s : State) (k : Nat) : State :=
  let v := s.voters
  let s := forEach v s fun s c => s.reseed k c
  if v.length = 3 then
    match v.find? (s.convicted k) with
    | some d => s.channelFault d cfMismatch
    | none =>
      if s.resultNone k && v.all fun c => s.threeMisses k c c then
        if s.red.state == .startup then s else s.noMajorityFault v
      else s
  else if v.length = 2 && s.resultNone k && v.all fun c => s.threeMisses k c c then
    if s.red.state == .startup then { s with su := { s.su with stopped := true } } else s.noMajorityFault v
  else s

/-- The peers of `c` that take part in the vote. -/
def State.peersIn (s : State) (c : Ch) : List Ch := s.voters.filter fun d => d != c

/-- Channel `c` holds the results of its peers (R303). -/
def State.voteDone (s : State) (k : Nat) (c : Ch) : Bool :=
  ((s.stream k).vote.get c).isSome && (s.peersIn c).all fun d => (((s.stream k).got.get c).get d).isSome

/-- The newest bit of the history of `d` that `c` keeps becomes `miss`, where this vote entered one (R303, R306). -/
def State.rewriteHist (s : State) (k : Nat) (c d : Ch) (miss : Bool) : State :=
  if s.leftOut k c d then s
  else s.updStream k fun x => { x with hist := x.hist.upd c fun h => h.upd d fun b => b / 2 * 2 + b2n miss }

/-- A channel whose result differs from the one that both peers sent adopts theirs, and it counts as a miss of the
channel (R303). -/
def State.adopt (s : State) (k : Nat) (c : Ch) : State :=
  let g := (s.stream k).got.get c
  match s.peersIn c with
  | [x, y] =>
    match g.get x, g.get y, (s.stream k).vote.get c with
    | some a, some b, some own =>
      if a = b ∧ a ≠ own then
        let s := s.updStream k fun z => { z with vote := z.vote.set c (some a) }
        let s := forEach s.voters s fun s d => s.rewriteHist k c d (!a.get d)
        let s := forEach s.voters s fun s d => s.rewriteHist k d c true
        s.bumpR (Obj.chMismatchCount c)
      else s
    | _, _, _ => s
  | _ => s

/-- The owner stages the voted duty values when its vote is complete and it is in M (R21, R235). -/
def State.stageVoted (s : State) (k : Nat) (c : Ch) : State :=
  if k < 512 ∧ s.isDq k = true ∧ (s.task k).owner = c.num ∧ (s.resultOf k c).get c = true then
    match (s.task k).fin.get c with
    | some d => if d.fault then s else s.stage c k d.outs
    | none => s
  else s

/-- A channel's vote is complete: adoption and staging; with every channel's, the judgement. -/
def State.completeVote (s : State) (k : Nat) (c : Ch) : State :=
  if s.voteDone k c then
    let s := (s.adopt k c).stageVoted k c
    if !(s.stream k).complete && s.voters.all (s.voteDone k) then
      (s.updStream k fun x => { x with complete := true }).judge k
    else s
  else s

/-- The vote of stream `k` (R302, R306, R250). -/
def State.vote (s : State) (k : Nat) : State :=
  let vs := s.voters
  let s := forEach vs s fun s c => s.voteChannel k c
  let s := forEach vs s fun s c => s.send (.strap c .digest (leBytes 2 k ++
    leBytes 1 (b2n (s.resultOf k c).a + 2 * b2n (s.resultOf k c).b + 4 * b2n (s.resultOf k c).c)))
  let s := forEach vs s fun s d => if s.missed k d then s.recordMiss k d (s.heldDigest k d d).isSome else s
  let s := (s.meetLinks k).voteOverload k
  match vs with
  | [c] => s.completeVote k c
  | _ => s

/-- VOTE (R302): when collection closes, 1 µs after the checkpoint. -/
def execVote (t : Nat) (k : Fin 514) (s : State) : Res :=
  s.run t fun s =>
    let x := s.stream k
    match x.ck with
    | some ck =>
      if x.voting && ck + us ≤ s.now && x.vote = Trio.all none && s.votesNow then (s.vote k).endSeeding else s
    | none => s

/-- VOTE_RESULT (R303): channel `rx` receives the result `m` of channel `tx`, within 2 µs of the checkpoint. -/
def execVoteResult (t : Nat) (rx tx : Ch) (k : Fin 514) (m : Trio Bool) (s : State) : Res :=
  s.run t fun s =>
    match (s.stream k).ck with
    | some ck =>
      if rx != tx && s.takesPart rx && s.takesPart tx && s.now ≤ ck + 2 * us && ((s.stream k).vote.get rx).isSome &&
          !(s.stream k).complete && s.strapPath rx tx && s.votesNow then
        (s.updStream k fun x => { x with got := x.got.upd rx fun g => g.set tx (some m) }).completeVote k rx |>.endSeeding
      else s
    | none => s

-- reseeding

/-- The state copy of task `k` on its way to channel `c` (R305). -/
def State.copyFor (s : State) (c : Ch) (k : Nat) : Option StrapMsg :=
  s.arch.queue.find? fun m => m.dst == c && m.due.isSome && m.body.isCopy k

/-- RESEED_COPY (R305): the copy arrives, outputs included (R294). In SINGLE-SUPERVISED it comes from the twin, which
computes the same state (R349). -/
def execReseedCopy (t : Nat) (c : Ch) (k : Fin 512) (s : State) : Res :=
  s.run t fun s =>
    match s.copyFor c k with
    | some m => s.strapTake m true
    | none => if s.red.state = .single then s.updStream k fun x => { x with reseed := x.reseed.set c false } else s

-- arbitration and SINGLE-SUPERVISED

/-- ARBITRATION_CONFIRM (R311): the twin's confirmation within 5 ms. -/
def execArbitrationConfirm (t : Nat) (cands : Trio Bool) (s : State) : Res :=
  s.run t fun s =>
    match s.red.arb with
    | some a => if s.now ≤ a.start + 5 * ms && s.twinThere then s.confirm cands else s
    | none => s

/-- ARBITRATION_TIMEOUT (R310). -/
def execArbitrationTimeout (t : Nat) (s : State) : Res :=
  s.run t fun s =>
    match s.red.arb with
    | some a => if a.start + 5 * ms ≤ s.now then s.enter .passive else s
    | none => s

/-- TWIN_SUPERVISION_REPORT (R311, R312): `misses` of the last 8 checkpoints of task `k`, a safety-rated one. -/
def execTwinSupervisionReport (t : Nat) (k : Fin 512) (misses : Nat) (s : State) : Res :=
  s.run t fun s =>
    if s.red.state = .single ∧ s.v (Obj.taskEnable k) = 1 ∧ s.safetyRated k = true ∧ 3 ≤ misses then s.enter .passive else s

/-- SS_BOUND_EXPIRY (R312). -/
def execSsBoundExpiry (t : Nat) (s : State) : Res :=
  s.run t fun s =>
    if s.red.state = .single ∧ s.red.entry + s.vn Obj.ssBound * sec ≤ s.now then s.enter .passive else s

-- debug split

/-- Debug access of channel `c` takes effect at a commit instant (R319, R320): the channel leaves V, and its peers no longer
shadow the tasks that it owns. -/
def State.debugSplit (s : State) (c : Ch) : State :=
  if s.red.debugOpen.get c && !s.red.inDebug.get c && !s.red.faulty.get c && s.red.state != .passive then
    let s := { s with red := { s.red with inDebug := s.red.inDebug.set c true, inV := s.red.inV.set c false } }
    let own := s.enabledTasks.filter fun k => (s.task k).placed && (s.task k).owner == c.num
    let s := forEach own s fun s k => s.updTask k fun r => { r with computed := (Trio.all false).set c true }
    let s := (s.setR (Obj.chState c) 3).logDev 0x0104 0x2800 [BitVec.ofNat 8 c.num]
    if s.red.state = .nominal then s.enter .dual else s.planTrigger 1
  else s

/-- DEBUG_ACCESS_OPEN (R319, R494): in DEV, with debug access permitted; it takes effect at the next commit instant. -/
def execDebugAccessOpen (t : Nat) (c : Ch) (s : State) : Res :=
  s.run t fun s =>
    if s.life.state = 2 ∧ s.v Obj.debugPermit = 1 ∧ s.arch.alive.get c = true then
      let s := { s with red := { s.red with debugOpen := s.red.debugOpen.set c true } }
      if isCommit s.now then s.debugSplit c else s
    else s

/-- ENGINE_HALT (R319): an engine of a debugged channel; EN of its slots falls (R253). -/
def execEngineHalt (t : Nat) (c : Ch) (e : Fin 16) (s : State) : Res :=
  s.run t fun s =>
    if s.red.debugOpen.get c && s.red.inDebug.get c && !bit (s.red.halted.get c : Int) e then
      { s with red := { s.red with halted := s.red.halted.upd c (· + 2 ^ e.val) } }
    else s

end Sys2Proof.Machine
end

