-- ==== Sys2Proof/Machine/Placement.lean ====
section
/-! DEFINITION. Watershed: replans, adoption of plans, static placement, scores and slice requests (R338 to R354, R544). -/

namespace Sys2Proof.Machine

-- the plan image (R544)

/-- The bytes of an object's value, least significant first. -/
def State.objBytes (s : State) (idx sub : Nat) : List Byte :=
  match findObj idx sub with
  | some e => leBytesInt e.desc.ty.size (s.v e.obj)
  | none => []

/-- The plan image of R544. -/
def planImage (p : Plan) : List Byte :=
  ((upto 512).flatMap fun k => leBytes 4 (p.site.getD k 0)) ++
    ((upto 2048).flatMap fun o => let w := p.objs.getD o 0
                                  leBytes 1 (if 4 ≤ w then w else 0)) ++
    (Ch.all.flatMap fun c => (upto 512).flatMap fun k => leBytes 1 ((p.fbEngine.get c).getD k 255)) ++
    ((upto 512).flatMap fun k => leBytes 1 (p.fbOwner.getD k 255)) ++
    (Ch.all.flatMap fun c => leBytes 2 (p.noFallback.get c))

/-- PLAN_DIGEST of a plan (R346, R544). -/
def planCrc (p : Plan) : Nat := crc32c (planImage p)

-- adoption

/-- A task without a site (R343): it runs nowhere; INPUT_LOST is set for it and its axis, with its reaction. -/
def State.unplace (s : State) (k : Nat) : State :=
  let was := (s.task k).unplaced
  let s := s.updTask k fun r =>
    { r with placed := false, unplaced := true, computed := Trio.all false, move := none, rel := Trio.all none
             fin := Trio.all none, lastStart := none, st := r.st.map fun x => { x with lost := true } }
  if was then s
  else match s.taskAxis k with
    | some n => s.react n 1 (s.vn (Obj.invalidReaction k))
    | none => s

/-- A task takes the site of a plan at once: it had none, or start-up places it (R352). -/
def State.placeAt (s : State) (k : Nat) (m : TaskMove) : State :=
  let s := s.updTask k fun r =>
    { r with placed := true, unplaced := false, owner := m.owner, computed := m.computed, engines := m.engines, move := none
             fallback := false }
  forEach Ch.all s fun s c => if m.computed.get c then s.serve c (m.engines.get c) else s

/-- Task `k` under an adopted plan (R343, R348, R350): unplaced, placed at once, or moved. A channel that left V no longer
computes it. -/
def State.adoptTask (s : State) (p : Plan) (k : Nat) : State :=
  let w := p.site.getD k 0
  let m := siteMove w
  let s := s.updTask k fun r =>
    { r with pinBroken := p.pinBroken.contains k, fallback := false
             computed := ⟨r.computed.a && (s.takesPart .chA || s.red.inDebug.a), r.computed.b && (s.takesPart .chB || s.red.inDebug.b),
               r.computed.c && (s.takesPart .chC || s.red.inDebug.c)⟩ }
  if p.unplaced.contains k then s.unplace k
  else
    let r := s.task k
    let none_ := !(r.computed.a || r.computed.b || r.computed.c)
    if !r.placed || (r.owner < 3 && none_ && m.owner < 3) then s.placeAt k m
    else if r.owner = 3 && !s.twinThere && m.owner < 3 then s.placeAt k m
    else
      let s := forEach Ch.all s fun s c =>
        if m.computed.get c && ((s.task k).engines.get c != m.engines.get c || !(s.task k).computed.get c) then
          s.serve c (m.engines.get c)
        else s
      s.planMove k

/-- The end of the plan check of a lowered performance level (R354, R470). -/
def State.endPlCheck (s : State) (ok : Bool) : State :=
  forEach Ch.all s fun s c =>
    match s.power.changes.get c with
    | some x =>
      if x.phase = 1 then
        let s := s.bitR (Obj.plStatus c) 1 false
        if ok then { s with power := { s.power with changes := s.power.changes.set c (some { x with phase := 2 }) } }
        else
          let s := (s.bitR (Obj.plStatus c) 5 true).bitR (Obj.plStatus c) 0 false
          { s with power := { s.power with changes := s.power.changes.set c none } }
      else s
    | none => s

/-- The plan in force becomes `p`; no computation is in progress any more. -/
def State.takePlan (s : State) (p : Plan) : State :=
  { s with place := { s.place with plan := p, run := none, computed := none, snap := none, snapVoted := false } }

/-- The registers of an adopted plan (R346). -/
def State.planRegs (s : State) (p : Plan) (causes : Nat) : State :=
  (((s.bumpR Obj.planCount).setR Obj.planLastTime s.now).setR Obj.planLastCause causes).setR Obj.planDigest (planCrc p)

/-- Triggers merged while a computation ran start the next one (R344). -/
def State.nextRun (s : State) : State :=
  if s.place.merged = 0 then s
  else { s with place := { s.place with trig := some (s.now, s.place.merged), merged := 0 } }

/-- A plan is adopted with the given causes (R346). -/
def State.adoptPlan (s : State) (p : Plan) (causes : Nat) : State :=
  let s := (s.takePlan p).planRegs p causes
  let s := forEach s.enabledTasks s fun s k => s.adoptTask p k
  let s := if bit causes 6 then s.endPlCheck (!s.place.perfRefused) else s
  ({ s with place := { s.place with perfRefused := false } } : State).nextRun

/-- The static placement of start-up (R352). -/
def State.adoptStatic (s : State) : State :=
  let p := s.staticPlan
  let f : Trio (Tbl Nat) := ⟨s.scores .chA, s.scores .chB, s.scores .chC⟩
  let s := { s with place := { s.place with placed := true, staticDev := s.deviates p, trig := none, snapScores := f } }
  s.adoptPlan p 0

-- a replan (R344 to R346)

/-- The clocks with which a replan reckons: the lower one of a channel whose level is checked (R354). -/
def State.planClocks (s : State) : Trio Nat :=
  let f := fun c => match s.power.changes.get c with
    | some x => if x.phase = 1 then ceMHz x.target else ceMHz (s.vn (Obj.plNow c))
    | none => ceMHz (s.vn (Obj.plNow c))
  ⟨f .chA, f .chB, f .chC⟩

/-- The scores of the snapshot show in the registers (R340, R358). -/
def State.showScores (s : State) : State :=
  forEach Ch.all s fun s c =>
    (forEach (upto 16) s fun s e => s.setR (Obj.engineScore c e) (s.engineScore c e)).setR (Obj.channelScore c) (s.channelScore c)

/-- The plan that a replan with these causes computes from the present state (R343, R352, R354): with a level that no
plan serves, the plan at the present clocks, and the change is refused. -/
def State.planFor (s : State) (causes : Nat) : Plan × Bool :=
  let fresh := !s.place.aged
  let p := if s.place.static then s.staticPlan else s.replan s.planClocks fresh causes
  if bit (causes : Int) 6 && !p.unplaced.isEmpty then (s.replan s.clocks fresh causes, true) else (p, false)

/-- The snapshot of a replan (R344). -/
def State.snapshot (s : State) (causes : Nat) : State :=
  let p := s.planFor causes
  let s := s.showScores
  { s with place := { s.place with
      trig := none, run := some (causes, s.now), snapVoted := false, computed := none, snap := some p.1, perfRefused := p.2
      static := false, flips := Trio.all 0, snapScores := ⟨s.scores .chA, s.scores .chB, s.scores .chC⟩ } }

/-- PLAN_INSTANT (R344): the first multiple of 10 µs at or after the trigger. -/
def execPlanInstant (t : Nat) (s : State) : Res :=
  s.run t fun s =>
    match s.place.trig with
    | some (b, c) =>
      if s.now % (10 * us) = 0 ∧ b ≤ s.now ∧ s.place.run = none ∧ s.red.state ≠ .passive then s.snapshot c else s
    | none => s

/-- The channels of V whose value carries no error. -/
def State.agreeing (s : State) (flip : Trio Nat) : Trio Bool :=
  let f := fun c => s.voters.contains c && flip.get c == 0
  ⟨f .chA, f .chB, f .chC⟩

/-- The bytes of a snapshot (R344): the task table, the object table, the scores, the levels, V and the present plan, in this order
(log entry 143). -/
def State.snapImage (s : State) : List Byte :=
  (s.enabledTasks.flatMap fun k => leBytes 2 k ++ (upto 9).flatMap fun i => s.objBytes (0x2000 + k) (i + 1)) ++
    (s.objEntries.flatMap fun o => leBytes 2 o ++ leBytesInt 8 (s.v (Obj.objDesc o))) ++
      (Ch.all.flatMap fun c => (s.place.snapScores.get c).flatMap fun p => leBytes 1 p.2) ++
        (Ch.all.flatMap fun c => leBytes 1 (s.vn (Obj.plNow c)) ++ leBytes 1 (b2n (s.voters.contains c))) ++ planImage s.place.plan

/-- Every channel in V sends a CRC-32C with its own error in a class 4 frame (R344, R346). -/
def State.sendCrcs (s : State) (crc : Nat) (flip : Trio Nat) : State :=
  forEach s.voters s fun s c => s.send (.strap c .placement (leBytes 4 (crc + flip.get c)))

/-- The channels of V outside a majority `m` take its snapshot or plan as a state copy (R344, R346). The device holds one, the
majority's, and the frame leaves it as it is (log entry 50). -/
def State.copyPlan (s : State) (m : Trio Bool) : State :=
  match Ch.all.find? m.get with
  | some d => forEach (s.voters.filter fun c => !m.get c) s fun s c => s.strapSend d c .copy .plan
  | none => s

/-- SNAPSHOT_VOTE (R344): a channel in the minority takes the majority snapshot; without a majority each computes from
its own, so that the plans differ too. -/
def execSnapshotVote (t : Nat) (flip : Trio Nat) (s : State) : Res :=
  s.run t fun s =>
    if s.place.run.isSome && !s.place.snapVoted then
      let s := s.sendCrcs (crc32c s.snapImage) flip
      let m := s.agreeing flip
      let s := if s.isMajority m then s.copyPlan m else s
      { s with place := { s.place with snapVoted := true, flips := if s.isMajority m then Trio.all 0 else flip } }
    else s

/-- PLAN_COMPUTED (R343, R346): `flip` is an error of a channel's computed plan. -/
def execPlanComputed (t : Nat) (flip : Trio Nat) (s : State) : Res :=
  s.run t fun s =>
    if s.place.run.isSome && s.place.snapVoted && s.place.computed.isNone then
      let f := fun c => s.place.flips.get c + flip.get c
      { s with place := { s.place with computed := s.place.snap, flips := ⟨f .chA, f .chB, f .chC⟩ } }
    else s

/-- PLAN_VOTE (R346). -/
def execPlanVote (t : Nat) (s : State) : Res :=
  s.run t fun s =>
    match s.place.run, s.place.computed with
    | some (c, _), some p =>
      let s := s.sendCrcs (planCrc p) s.place.flips
      let m := s.agreeing s.place.flips
      if s.isMajority m then
        let s := if s.voters.all m.get then s else (s.copyPlan m).bumpR Obj.planVoteMismatch
        s.adoptPlan p c
      else
        let s := { s with place := { s.place with
          run := none, computed := none, snap := none, snapVoted := false, retryAt := some (s.now + ms, c) } }
        (s.bumpR Obj.planNoMajority).logDev 0x0201 0x2301 (leBytes 4 (s.vn Obj.planCount))
    | _, _ => s

/-- PLAN_RETRY (R346): the replan that found no majority, 1 ms later. -/
def execPlanRetry (t : Nat) (s : State) : Res :=
  s.run t fun s =>
    match s.place.retryAt with
    | some (b, c) =>
      if b ≤ s.now then
        let s := { s with place := { s.place with retryAt := none } }
        match s.place.trig with
        | some (a, d) => { s with place := { s.place with trig := some (a, c ||| d) } }
        | none => { s with place := { s.place with trig := some (s.now, c) } }
      else s
    | none => s

-- scores

/-- SCORE_REPORT (R340): every 1 ms. -/
def execScoreReport (t : Nat) (s : State) : Res :=
  s.run t fun s =>
    if s.now % ms = 0 then
      s.once markScore fun s => forEach s.voters s.showScores fun s c =>
        s.send (.strap c .placement ((upto 16).flatMap (fun e => leBytes 1 (s.engineScore c e)) ++ leBytes 1 (s.channelScore c)))
    else s

/-- Every decaying penalty recovers 1 point (R338). -/
def State.decay (s : State) : State :=
  let f := fun (l : Tbl Penalty) => l.foldl (fun t p => Tbl.modify t p.1 {} fun x => { x with decaying := x.decaying - 1 }) l
  ({ s with place := { s.place with pens := s.place.pens.map f } }).checkHealth

/-- SCORE_DECAY (R338): every 100 ms. -/
def execScoreDecay (t : Nat) (s : State) : Res :=
  s.run t fun s => if s.now % (100 * ms) = 0 then s.once markDecay State.decay else s

/-- HEALTH_AGE in ms, saturating at 1,000 (R352). -/
def State.healthAge (s : State) : Nat :=
  match s.place.ageFrom with
  | some b => min 1000 ((s.now - b) / ms)
  | none => 0

/-- HEALTH_AGE_REACHED (R352): held triggers are released; with PLAN_ADAPT 1 a HISTORY replan runs. -/
def execHealthAgeReached (t : Nat) (s : State) : Res :=
  s.run t fun s =>
    match s.place.ageFrom with
    | some b =>
      if b + sec ≤ s.now && !s.place.aged then
        let h := s.place.held
        let adapt := s.v Obj.planAdapt == 1
        let s := { s with place := { s.place with aged := true, held := 0, adaptive := adapt } }
        if adapt then s.planTrigger (h ||| 32) else if h = 0 then s else s.planTrigger h
      else s
    | none => s

/-- The effect of PLAN_REQUEST (R344, R352). -/
def State.writePlanRequest (s : State) (v : Int) : State :=
  (if v = 2 then { s with place := { s.place with static := true } } else s).planTrigger 8

/-- Every axis whose tasks the static plan would move is at standstill (R352). -/
def State.staticStill (s : State) : Bool :=
  let p := s.staticPlan
  s.enabledTasks.all fun k =>
    !(s.task k).differs (siteMove (p.site.getD k 0)) ||
      match s.taskAxis k with
      | some n => s.standstill n
      | none => true

-- slices (R353)

/-- A task on engine `e` of channel `c` is in a move or a hand-over (R353). -/
def State.engineBusy (s : State) (c : Ch) (e : Nat) : Bool :=
  s.enabledTasks.any fun k =>
    let here := s.siteIn k c && (s.task k).engines.get c == e
    let there := match (s.task k).move with
      | some m => m.computed.get c && m.engines.get c == e
      | none => false
    ((here && (s.task k).move.isSome) || there || (here && match s.taskAxis k with
      | some n => (s.axis n).handover != 0
      | none => false))

/-- Whether turns may start in channel `c` (R483). -/
def State.turnsRun (s : State) (c : Ch) : Bool :=
  s.v Obj.sliceEnable == 1 && s.takesPart c && !s.red.inDebug.get c && s.red.state != .startup && s.red.state != .passive &&
    s.power.state == .run && s.power.entering.isNone && !s.power.waking && s.power.sliceWait.isNone

/-- Engine `e` is refused for a turn (R353). -/
def State.refusesSlice (s : State) (c : Ch) (e : Nat) : Bool :=
  bit (s.place.plan.noFallback.get c : Int) e || (s.place.emptying.get c).isSome || (s.place.testing.get c).isSome ||
    s.engineBusy c e

/-- The tasks on an engine. -/
def State.tasksOn (s : State) (c : Ch) (e : Nat) : List Nat :=
  s.enabledTasks.filter fun k => s.siteIn k c && (s.task k).engines.get c == e

/-- The fallback table of the plan computed again for the present placement (R353). -/
def State.redoFallback (s : State) (d : Draft) : State :=
  let i : PlanIn := ⟨s.clocks, !s.place.aged, false⟩
  let p := s.finish i d
  { s with place := { s.place with plan := { s.place.plan with
      fbEngine := p.fbEngine, fbOwner := p.fbOwner, noFallback := p.noFallback } } }

/-- A turn begins: the engine's tasks move to their fallback engines (R353, R481). -/
def State.startTurn (s : State) (c : Ch) (e : Nat) : State :=
  let ks := s.tasksOn c e
  let site := fun k => (s.place.plan.fbEngine.get c).getD k 255
  let s := { s with
    life := { s.life with rot := s.life.rot.upd c fun r =>
      { r with turn := some { engine := e, first := s.vn (Obj.sliceNext c e) } } }
    place := { s.place with emptying := s.place.emptying.set c (some e), movedOut := s.place.movedOut.set c ks } }
  let s := forEach ks s fun s k =>
    (s.serve c (site k)).updTask k fun r =>
      { r with move := some { owner := r.owner, computed := r.computed, engines := r.engines.set c (site k) } }
  let d := s.present
  let s := s.redoFallback { d with asg := d.asg.upd c fun l => l.map fun p => if p.2 = e then (p.1, site p.1) else p }
  s.movesDone

/-- SLICE_REQUEST (R353): the turn of engine `e`, whose turn it is in the rotation. -/
def execSliceRequest (t : Nat) (c : Ch) (e : Fin 16) (s : State) : Res :=
  s.run t fun s =>
    let r := s.life.rot.get c
    if r.start.isSome && r.turn.isNone && r.next == e.val && s.turnsRun c then
      if s.refusesSlice c e then (s.bumpC c Obj.sliceRefusals).nextTurn c (e + 1) else s.startTurn c e
    else s

/-- Service is needed from an engine under test or being emptied (R353, R485): a task stands on it that is not one of those
that the turn moves out. -/
def State.neededInTest (s : State) (c : Ch) (e : Nat) : Bool :=
  s.inTest c e && (s.tasksOn c e).any fun k => s.place.testing.get c == some e || !(s.place.movedOut.get c).contains k

/-- SLICE_ABORT (R485): the turn of an engine from which service is needed ends, where the work's arrival has not ended it. -/
def execSliceAbort (t : Nat) (c : Ch) (e : Fin 16) (s : State) : Res :=
  s.run t fun s => if s.neededInTest c e then s.abortTurn c else s

end Sys2Proof.Machine
end

