-- ==== Sys2Proof/Machine/Fabric.lean ====
section
/-! DEFINITION. Chapter 12: the Delta fabric's commands (R45, R360 to R389). -/

namespace Sys2Proof.Machine

-- address and conflict

/-- The lanes of a node that has begun to route come to ALIGNED and wait for a HELLO; those of one that has stopped are
ISOLATED (R360, R372). -/
def State.routingChanged (s : State) (was : Bool) : State :=
  if s.mayNeighbour = was then s
  else forEach Ch.all s fun s c => forEach (upto 4) s fun s l =>
    let st := (s.fabLane c l).st
    if st = laneAligned ∨ st = laneNeighbour ∨ st = laneIsolated then s.setLane c l s.restState else s

/-- The address in use becomes `a` (R369); a conflict of the old one is over (R371). -/
def State.useAddress (s : State) (a : Nat) : State :=
  let was := s.mayNeighbour
  let s := if s.fab.addr = a then s else { s with fab := { s.fab with addr := a, conflict := false } }
  (s.setR Obj.fabAddrInUse a).routingChanged was

/-- NID_SOURCE of R47. -/
def State.nidSource (s : State) : Nat := field (s.v Obj.strapStatus) 0 2

/-- The strap value that the vote uses, and the channels outvoted; none where the values are disregarded (R45). With
fewer than three channels, values that differ are disregarded (log entry 15). -/
def strapResult (l : List (Ch × Nat)) : Option Nat × List Ch :=
  match l with
  | [(_, x)] => (some x, [])
  | [(_, x), (_, y)] => if x = y then (some x, []) else (none, [])
  | [(a, x), (b, y), (c, z)] =>
    if x = y then (some x, if z = x then [] else [c])
    else if x = z then (some x, [b])
    else if y = z then (some y, [a])
    else (none, [])
  | _ => (none, [])

/-- The strap vote (R45 to R47): it fixes the address in use, and a channel in the minority takes a channel fault. -/
def State.strapVote (s : State) : State :=
  if s.fab.strapVoted then s
  else
    let l := (Ch.all.filter s.running).filterMap fun c => (s.su.straps.get c).map fun v => (c, v)
    let r := strapResult l
    let source := match r.1 with
      | none => 2
      | some v => if 1 ≤ v ∧ v ≤ 0xFE then 0 else 1
    let w : Nat := source + r.2.foldl (fun m c => m + 2 ^ (2 + c.num)) 0 + (if r.1 = none then 32 else 0)
    let addr := if source = 0 then r.1.getD 0 else s.vn Obj.fabNodeAddr
    let s := s.setR Obj.strapStatus w
    let was := s.mayNeighbour
    let s := { s with fab := { s.fab with strapVoted := true, addr := addr } }
    let s := (s.setR Obj.fabAddrInUse addr).routingChanged was
    forEach r.2 s fun s c => s.channelFault c cfStrap

/-- The node meets its own address under another UID (R371): the node with the higher UID withdraws. -/
def State.meetAddress (s : State) (addr uid : Nat) : State :=
  if addr ≠ 0 ∧ addr = s.fab.addr ∧ uid < Config.deviceUid then
    let was := s.mayNeighbour
    let found := s.fab.conflict
    let s := { s with fab := { s.fab with conflict := true, conflictSeen := s.now } }
    let s := s.routingChanged was
    if found then s else s.health clsFabric 0xA000
  else s

/-- ADDRESS_CONFLICT_END (R371). -/
def execAddressConflictEnd (t : Nat) (s : State) : Res :=
  s.run t fun s =>
    if s.fab.conflict && s.fab.conflictSeen + 100 * ms ≤ s.now then
      let was := s.mayNeighbour
      ({ s with fab := { s.fab with conflict := false } } : State).routingChanged was
    else s

/-- The effect of a write to FAB_NODE_ADDR (R369): the address in use follows where the straps do not give it. -/
def State.writeNodeAddr (s : State) (v : Int) : State :=
  let s := s.setR Obj.fabNodeAddr v
  if s.fab.strapVoted && s.nidSource != 0 then s.useAddress v.toNat else s

/-- The effect of a write to FAB_LANE_ENABLE (R360). -/
def State.writeLaneEnable (s : State) (v : Int) : State :=
  let s := s.setR Obj.fabLaneEnable v
  forEach Ch.all s fun s c => forEach (upto 4) s fun s l =>
    if !s.laneOn c l then s.setLane c l laneDisabled
    else if (s.fabLane c l).st = laneDisabled then s.setLane c l laneDown
    else s

-- paths (R375)

/-- The paths of the streams that channel `c` sends, looked at again after a change (R374, R375): a stream without a path
is reported, and one without its disjoint pair is marked from now on. -/
def State.checkPaths (s : State) (c : Ch) : State :=
  if !s.routes then s
  else
    let es := s.edges c
    let ss := s.sentStreams
    let none_ := ss.filter fun n => (nextHop es s.fab.addr (s.streamDest n)).isNone
    let alone := ss.filter fun n => s.streamRedundant n && (pairFor es s.fab.addr (s.streamDest n)).isNone
    let new := none_.filter fun n => !(s.plane c).noPath.contains n
    let old := (s.plane c).degraded
    let s := s.updPlane c fun p =>
      { p with
        noPath := none_
        degraded := alone.map fun n => match old.find? fun x => x.1 == n with
          | some x => x
          | none => (n, s.now) }
    forEach new s fun s n => s.health clsFabric (0xA200 + n / 8)

/-- The LSA set or the lanes of channel `c` have changed. -/
def State.lsaChanged (s : State) (c : Ch) : State :=
  ({ s with fab := { s.fab with lsaChange := s.now } } : State).checkPaths c

/-- The effect of a write to STREAM_DESC (R375, R376, R378): the sequence counter of a stream that is enabled starts at 0. -/
def State.streamChanged (s : State) (was : Bool) (n : Nat) : State :=
  let s := if !was && s.streamOn n then forEach Ch.all s fun s c => s.updPlane c fun p => { p with seqs := p.seqs.put n 0 0 } else s
  forEach Ch.all s State.checkPaths

-- time master (R384)

/-- The better of two candidates for time master: priority, then UID. -/
def betterMaster (x y : Nat × Nat × Nat) : Bool := x.1 < y.1 || (x.1 == y.1 && x.2.1 < y.2.1)

/-- The candidate that channel `c` forms: priority, UID and node address (R384). -/
def State.masterOf (s : State) (c : Ch) : Nat :=
  let own := if s.routes && s.v Obj.fabTimePriority < 255 then
      [(s.vn Obj.fabTimePriority, Config.deviceUid, s.fab.addr)] else []
  let l := own ++ ((s.plane c).lsas.filter fun h => h.lsa.timePriority < 255).map
    fun h => (h.lsa.timePriority, h.lsa.uid, h.lsa.node)
  match bestOf betterMaster l with
  | some x => x.2.2
  | none => 0

/-- Hops from this node to the time master on channel `c`'s plane. -/
def State.masterHops (s : State) (c : Ch) : Option Nat :=
  if s.fab.master = 0 then none
  else hopsTo (s.edges c) s.fab.master ((s.plane c).lsas.length + 1) s.fab.addr

/-- Channel `c` follows its plane: the master is at most 8 hops away (R385). -/
def State.follows (s : State) (c : Ch) : Bool := match s.masterHops c with
  | some h => h ≤ 8
  | none => false

/-- TIME_MASTER of FAB_STATUS (R387). -/
def State.isTimeMaster (s : State) : Bool := s.fab.master != 0 && s.fab.master == s.fab.addr

/-- TIME_RANGE (R385): no plane reaches the master within 8 hops. -/
def State.timeRange (s : State) : Bool := s.fab.strapVoted && !s.isTimeMaster && !Ch.all.any s.follows

/-- A node out of range of any master runs in HOLDOVER (R385). -/
def State.checkRange (s : State) : State := if s.timeRange then s.timeLoss else s

/-- The vote on the time master (R370, R384): a new one is followed from its first TIME_SYNC on. The master's own time is
fabric time; a node that no longer is master disciplines nothing to 802.1AS (R26, R30). -/
def State.voteMaster (s : State) : State :=
  let l := s.voters.map s.masterOf
  let m := match l with
    | [x, y, z] => if x = y ∨ x = z then x else if y = z then y else s.fab.master
    | [x, y] => if x = y then x else s.fab.master
    | [x] => x
    | _ => s.fab.master
  if m = s.fab.master then s
  else
    let s := { s with fab := { s.fab with master := m, holdTime := true } }
    let s := s.setR Obj.fabTimeMaster m
    if s.isTimeMaster then { s with fab := { s.fab with holdTime := false } }.setNear true
    else (s.bitR Obj.timeStatus 5 false).timeLoss

/-- TIME_MASTER_CHANGE (R384). -/
def execTimeMasterChange (t : Nat) (s : State) : Res := s.run t fun s => s.voteMaster.checkRange

/-- The state that a channel tells its peers (R370). -/
def State.fabState (s : State) (c : Ch) : List Byte :=
  leBytes 1 s.fab.addr ++ leBytes 1 (b2n s.fab.conflict) ++ leBytes 1 (s.masterOf c) ++
    leBytes 1 ((s.masterHops c).getD 255)

/-- FABRIC_STATE_EXCHANGE (R370): every 1 ms the channels exchange their fabric state and vote; during discovery, on the straps
too (R45). -/
def execFabricStateExchange (t : Nat) (s : State) : Res :=
  s.run t fun s =>
    if !s.since s.fab.exchAt ms then s
    else
    let s := { s with fab := { s.fab with exchAt := some s.now } }
    let s := forEach s.voters s fun s c => s.send (.strap c .placement (s.fabState c))
    let s := if s.fab.discoveryAt.isSome then s.strapVote else s
    s.voteMaster.checkRange

-- lanes

/-- The de-emphasis with which a lane aligns (R537): the setting kept since the first alignment after power-on, or the first of
0, -3.5 and -6 dB that aligns; `aligns` tells with which settings the partner's receiver aligns. -/
def Lane.tries (x : Lane) (aligns : List Bool) : Option Nat :=
  let l := match x.deemph with
    | some d => [d]
    | none => [0, 1, 2]
  l.find? fun d => aligns.getD d false

/-- FABRIC_LANE_ALIGNED (R360, R361, R537). -/
def execFabricLaneAligned (t : Nat) (c : Ch) (l : Fin 4) (at0 at35 at6 : Bool) (s : State) : Res :=
  s.run t fun s =>
    if s.fabAlive c && s.laneOn c l && (s.fabLane c l).st == laneDown then
      match (s.fabLane c l).tries [at0, at35, at6] with
      | some d => (s.updLane c l fun x => { x with deemph := some d }).setLane c l s.restState
      | none => s
    else s

/-- FABRIC_LANE_ALIGNMENT_LOSS (R361). -/
def execFabricLaneAlignmentLoss (t : Nat) (c : Ch) (l : Fin 4) (s : State) : Res :=
  s.run t fun s =>
    if (s.fabLane c l).st = laneDisabled ∨ (s.fabLane c l).st = laneDown then s
    else
      let was := (s.fabLane c l).st
      let s := s.setLane c l laneDown
      if was = laneNeighbour then s.lsaChanged c else s

/-- The HELLO payload of a lane (R368). -/
def State.helloBytes (s : State) (c : Ch) (l : Nat) : List Byte :=
  leBytes 8 Config.deviceUid ++ leBytes 1 s.fab.addr ++ leBytes 1 (c.num + 4 * l) ++
    leBytes 1 ((s.neighbours c).foldl (fun m k => m + 2 ^ k) 0) ++
    leBytes 1 (b2n s.fab.conflict + 2 * b2n s.routes + 4 * b2n (s.v Obj.fabAuthMode != 0)) ++
    leBytes 2 (s.vn Obj.fabTimePriority) ++ leBytes 8 (s.fabLane c l).peerUid ++ leBytes 2 0

/-- A frame that is not forwarded leaves on a lane (R362); with `auth`, with a tag of the sending slot (R382). -/
def State.sendOnLane (s : State) (c : Ch) (l type prio : Nat) (payload : List Byte) (auth : Bool := false) : State :=
  let slot := if auth then s.vn Obj.fabAuthSlot else 0
  let f : FabFrame := { type := type, flags := fabFlags false slot auth 0 prio, dest := 0, src := s.fab.addr, stream := 0
                        seq := 0, ttl := 1, payload := payload, tag := none }
  s.send (.fabLane c l type (if auth then s.withTag f slot else f).bytes)

/-- HELLO_SEND (R368): every 1 ms, 10 µs more or less, on every lane that is not DISABLED. -/
def execHelloSend (t : Nat) (c : Ch) (l : Fin 4) (s : State) : Res :=
  s.run t fun s =>
    if s.fabAlive c && s.laneOn c l && s.since (s.fabLane c l).helloAt (990 * us) then
      (s.sendOnLane c l 2 1 (s.helloBytes c l)).updLane c l fun x => { x with helloAt := some s.now }
    else s

/-- A received HELLO enters the lane's record (R368, R388). -/
def State.noteHello (s : State) (c : Ch) (l : Nat) (h : Hello) : State :=
  s.updLane c l fun x =>
    { x with lastHello := s.now, peerUid := h.uid, peerAddr := h.address, peerPos := h.position }

/-- What a HELLO makes of the lane's state (R360, R361): another channel letter or the node's own UID is a miswiring; a
bidirectional HELLO makes an ALIGNED lane NEIGHBOUR. -/
def State.helloState (s : State) (c : Ch) (l : Nat) (h : Hello) : Nat :=
  let st := (s.fabLane c l).st
  let wrong := h.position % 4 != c.num || h.uid == Config.deviceUid
  if st = laneSuspended then st
  else if wrong then laneMiswired
  else
    let st := if st = laneMiswired ∨ st = laneIsolated then s.restState else st
    if st = laneAligned ∧ h.lastHeard = Config.deviceUid then laneNeighbour else st

/-- HELLO_RECEIVE (R361, R368, R371). -/
def execHelloReceive (t : Nat) (c : Ch) (l : Fin 4) (h : Hello) (s : State) : Res :=
  s.run t fun s =>
    let st := (s.fabLane c l).st
    if !s.fabAlive c || st = laneDisabled || st = laneDown then s
    else
      let s := s.noteHello c l h
      let new := s.helloState c l h
      let s := s.setLane c l new
      let s := if (st = laneNeighbour) ≠ (new = laneNeighbour) then s.lsaChanged c else s
      if h.position % 4 = c.num ∧ h.uid ≠ Config.deviceUid then s.meetAddress h.address h.uid else s

/-- HELLO_TIMEOUT (R361): 3 ms without a HELLO. -/
def execHelloTimeout (t : Nat) (c : Ch) (l : Fin 4) (s : State) : Res :=
  s.run t fun s =>
    let x := s.fabLane c l
    if x.st = laneNeighbour ∧ x.lastHello + 3 * ms ≤ s.now then (s.setLane c l s.restState).lsaChanged c else s

/-- An FCS or code error on a lane (R363): more than 16 within 100 ms suspend it. -/
def State.laneError (s : State) (c : Ch) (l : Nat) : State :=
  let s := s.bumpR (Obj.laneCrcErrors c l)
  let s := s.updLane c l fun x => { x with errs := s.now :: x.errs.filter fun e => s.now < e + 100 * ms }
  if 16 < (s.fabLane c l).errs.length then
    let was := (s.fabLane c l).st
    let s := (s.setLane c l laneSuspended).updLane c l fun x => { x with errs := [], suspendAt := s.now }
    if was = laneNeighbour then s.lsaChanged c else s
  else s

/-- LANE_SUSPEND_END (R363). -/
def execLaneSuspendEnd (t : Nat) (c : Ch) (l : Fin 4) (s : State) : Res :=
  s.run t fun s =>
    let x := s.fabLane c l
    if x.st = laneSuspended ∧ x.suspendAt + sec ≤ s.now then s.setLane c l s.restState else s

-- forwarding (R363, R365)

/-- The lane on which a transit node forwards a frame (R365, R374): PATH 1 takes the second path of the pair between its
ends, every other frame the path of least cost (log entry 16). -/
def State.forwardLane (s : State) (c : Ch) (f : FabFrame) : Option Nat :=
  let es := s.edges c
  let one := (nextHop es s.fab.addr f.dest).map (·.lane)
  if bit f.flags 4 then
    match pairFor es f.src f.dest with
    | some (_, q) => match q.find? fun e => e.u == s.fab.addr with
      | some e => some e.lane
      | none => one
    | none => one
  else one

/-- A frame to another node (R365): dropped or forwarded with its TTL lowered; a damaged or aborted one goes on with
EOF_BAD, kind 0x81. -/
def State.forward (s : State) (c : Ch) (f : FabFrame) (good : Bool) : State :=
  if f.ttl ≤ 1 then s.bumpC c Obj.fabTtlDrops
  else match s.forwardLane c f with
    | none => s.bumpC c Obj.fabNoRoute
    | some l =>
      let g := { f with ttl := f.ttl - 1 }
      (s.bumpC c Obj.fabFramesFwd).send (.fabLane c l (if good then 1 else 0x81) g.bytes)

/-- FABRIC_FRAME_RECEIVE (R362 to R365): `good` tells that the frame ended with EOF and not with EOF_BAD. HELLO, LSA,
TIME_SYNC and PDELAY frames act through commands of their own. -/
def execFabricFrameReceive (t : Nat) (c : Ch) (l : Fin 4) (frame : List Byte) (good : Bool) (s : State) : Res :=
  s.run t fun s =>
    if !s.fabAlive c || s.laneState c l = laneDisabled || s.laneState c l = laneDown then s
    else match parseFab frame with
      | none => s
      | some f =>
        let ok := fcsOk frame f
        let st := s.laneState c l
        let s := if good && !ok then s.laneError c l else s
        if f.type ≠ 1 ∨ st ≠ laneNeighbour then s
        else if f.dest = s.fab.addr then
          if good && ok then s.updPlane c fun p => { p with inbox := p.inbox ++ [frame] } else s
        else s.forward c f (good && ok)

-- link-state advertisements (R373)

/-- The bytes of an LSA as this node sends it: the fields of R373 (log entry 9). -/
def lsaBytes (a : Lsa) : List Byte :=
  leBytes 1 a.node ++ leBytes 8 a.uid ++ leBytes 4 a.seq ++ leBytes 1 a.timePriority ++
    a.recs.flatMap fun r => leBytes 1 r.nbr ++ leBytes 1 r.localLane ++ leBytes 1 r.remoteLane ++ leBytes 1 r.cost

/-- An LSA leaves on some lanes of a channel; with FAB_AUTH_MODE 2 it carries a tag (R382). -/
def State.flood (s : State) (c : Ch) (ls : List Nat) (a : Lsa) : State :=
  forEach ls s fun s l => s.sendOnLane c l 3 1 (lsaBytes a) (s.v Obj.fabAuthMode == 2)

/-- The tag of a received LSA is as FAB_AUTH_MODE requires (R382): `head` are bytes 0 to 13 of its frame, with TTL taken as
0. -/
def State.lsaTagOk (s : State) (a : Lsa) (head : List Byte) (tag : Option (List Byte)) : Bool :=
  match s.v Obj.fabAuthMode, tag with
  | 0, _ => true
  | m, none => m != 2
  | _, some g => g == (hmac (s.fabKey (field (ofLeBytes ((head.drop 1).take 1)) 6 1)) (head ++ lsaBytes a)).take 8

/-- A frame that fails the check of its tag is discarded, counted and recorded (R382). -/
def State.authFails (s : State) (c : Ch) (n src : Nat) : State :=
  (s.bumpC c Obj.fabAuthFails).logC c 0x0601 (0xA200 + n / 8) (leBytes 1 src ++ leBytes 2 n)

/-- LSA_ORIGINATE (R373): where a lane has entered or left NEIGHBOUR, and every 100 ms. -/
def execLsaOriginate (t : Nat) (c : Ch) (s : State) : Res :=
  s.run t fun s =>
    if s.routes && s.fabAlive c && ((s.plane c).lsaDue || s.since (s.plane c).lsaAt (100 * ms)) then
      let s := s.updPlane c fun p => { p with lsaSeq := (p.lsaSeq + 1) % 2 ^ 32, lsaDue := false, lsaAt := some s.now }
      s.flood c (s.neighbours c)
        ⟨s.fab.addr, Config.deviceUid, (s.plane c).lsaSeq, s.vn Obj.fabTimePriority, s.ownRecs c⟩
    else s

/-- An LSA that the channel has not seen before: of another node, and newer than the one held (R373). -/
def Plane.isNew (p : Plane) (a : Lsa) : Bool :=
  match p.lsas.find? fun h => h.lsa.node == a.node && h.lsa.uid == a.uid with
  | some h =>
    let d := ((a.seq : Int) - h.lsa.seq) % 2 ^ 32
    decide (1 ≤ d ∧ d < 2 ^ 31)
  | none => true

/-- The LSA enters the set; the time counts as a refresh. -/
def Plane.holdLsa (p : Plane) (a : Lsa) (t : Nat) : Plane :=
  { p with lsas := ⟨a, t⟩ :: p.lsas.filter fun h => !(h.lsa.node == a.node && h.lsa.uid == a.uid) }

/-- An LSA tells nothing that the one held does not tell, its sequence number apart. -/
def Plane.sameLsa (p : Plane) (a : Lsa) : Bool :=
  p.lsas.any fun h => h.lsa.node == a.node && h.lsa.uid == a.uid && h.lsa.recs == a.recs &&
    h.lsa.timePriority == a.timePriority

/-- LSA_RECEIVE (R371, R373, R374, R382). -/
def execLsaReceive (t : Nat) (c : Ch) (l : Fin 4) (lsa : Lsa) (head : List Byte) (tag : Option (List Byte)) (s : State) : Res :=
  s.run t fun s =>
    if !s.fabAlive c || s.laneState c l != laneNeighbour then s
    else if !s.lsaTagOk lsa head tag then s.authFails c 0 lsa.node
    else if lsa.uid = Config.deviceUid then s
    else
      let s := s.meetAddress lsa.node lsa.uid
      if !s.routes || lsa.node = s.fab.addr || !(s.plane c).isNew lsa then s
      else
        let same := (s.plane c).sameLsa lsa
        let s := s.updPlane c fun p => p.holdLsa lsa s.now
        let s := s.flood c ((s.neighbours c).filter fun k => k != l.val) lsa
        if same then s else s.lsaChanged c

/-- LSA_EXPIRY (R373): 350 ms without a refresh. -/
def execLsaExpiry (t : Nat) (c : Ch) (node : Fin 255) (s : State) : Res :=
  s.run t fun s =>
    let old := fun (h : LsaHeld) => h.lsa.node == node.val && h.at_ + 350 * ms ≤ s.now
    if (s.plane c).lsas.any old then
      (s.updPlane c fun p => { p with lsas := p.lsas.filter fun h => !old h }).lsaChanged c
    else s

/-- PATH_DEGRADED_TIMEOUT (R375): more than 10 ms without a disjoint pair. -/
def execPathDegradedTimeout (t : Nat) (c : Ch) (n : Fin 4096) (s : State) : Res :=
  s.run t fun s =>
    if (s.plane c).degraded.any fun x => x.1 == n.val && x.2 + 10 * ms < s.now then
      s.health clsFabric (0xA200 + n.val / 8)
    else s

-- streams

/-- STREAM_SEND (R377): every channel that takes part sends its copy on its plane. -/
def execStreamSend (t : Nat) (n : Fin 4096) (dest : Fin 255) (payload : List Byte) (s : State) : Res :=
  s.run t fun s =>
    if payload.length ≤ 2048 then forEach s.voters s fun s c => s.sendTo c n dest payload else s

/-- The elimination of a frame with sequence number `q` (R381): the contexts after it, whether the frame is accepted, and
the counter that it advances, if any. -/
def Plane.eliminate (p : Plane) (src stream q t : Nat) : Plane × Bool × Option Obj :=
  match p.ctxs.find? fun x => x.src == src && x.stream == stream with
  | none =>
    let full := 512 ≤ p.ctxs.length
    let oldest := p.ctxs.foldl (fun m x => min m x.last) t
    let l := if full then
        match p.ctxs.findIdx? fun x => x.last == oldest with
        | some i => p.ctxs.eraseIdx i
        | none => p.ctxs
      else p.ctxs
    ({ p with ctxs := ⟨src, stream, q, 1, t⟩ :: l }, true, if full then some Obj.fabElimResets else none)
  | some x =>
    let put := fun (y : Elim) => { p with ctxs := p.ctxs.map fun z => if z.src = src ∧ z.stream = stream then y else z }
    let ahead := (((q : Int) - x.h) % 65536).toNat
    let behind := (((x.h : Int) - q) % 65536).toNat
    if 1 ≤ ahead ∧ ahead ≤ 32767 then
      (put { x with h := q, map := (x.map * 2 ^ ahead + 1) % 2 ^ 64, last := t }, true, none)
    else if behind ≤ 63 then
      if bit x.map behind then (put { x with last := t }, false, some Obj.fabElimDuplicates)
      else (put { x with map := x.map + 2 ^ behind, last := t }, true, none)
    else (put { x with last := t }, false, some Obj.fabElimLate)

/-- The tag of a received frame is as the stream and the mode require (R382). -/
def State.tagOk (s : State) (f : FabFrame) : Bool :=
  if s.v Obj.fabAuthMode = 0 then true
  else match f.tag with
    | some g => g == f.tagOf (s.fabKey (b2n (bit f.flags 6)))
    | none => !s.tagged f.stream

/-- The object values of a payload on PLACE_STREAM: numbers and values (R337, log entry 145). -/
def remoteValues : Nat → List Byte → List (Nat × Int)
  | 0, _ => []
  | n + 1, l =>
    if l.length < 6 then []
    else (ofLeBytes (l.take 2), signed32 (ofLeBytes ((l.drop 2).take 4))) :: remoteValues n (l.drop 6)

/-- A payload reaches its consumers in some channels (R377, R379); one of the twin on PLACE_STREAM enters the data objects that a
task on the twin, or none, writes (R333, R337). -/
def State.consume (s : State) (who : Trio Bool) (src stream : Nat) (data : List Byte) : State :=
  let s := { s with fab := { s.fab with delivered := (who, src, stream, data) :: s.fab.delivered } }
  if stream = s.vn Obj.placeStream ∧ src = s.vn Obj.twinPeerAddr ∧ s.twin.paired = true then
    forEach ((remoteValues data.length data).filter fun p =>
        decide (p.1 < 2048) && s.dictRef p.1 == 0 && (s.writersOf p.1).all s.onTwin) s fun s p =>
      forEach (Ch.all.filter who.get) s fun s c => s.setDobj c p.1 p.2
  else s

/-- A message of a stream has arrived in channel `c` (R379): agreed first on a stream with AGREE, else released. -/
def State.arrive (s : State) (c : Ch) (src stream seq : Nat) (data : List Byte) : State :=
  if s.streamAgree stream && stream != s.vn Obj.kdpProxyStream then
    let s := s.send (.strap c .digest (leBytes 1 src ++ leBytes 2 stream ++ leBytes 2 seq ++ leBytes 4 (crc32c data)))
    let mine := fun (m : AgreeMsg) => m.src == src && m.stream == stream && m.seq == seq
    let l := if s.fab.agree.any mine then
        s.fab.agree.map fun m => if mine m then { m with copies := m.copies.set c (some data) } else m
      else s.fab.agree ++ [⟨src, stream, seq, s.now, (Trio.all none).set c (some data)⟩]
    { s with fab := { s.fab with agree := l } }
  else s.consume ((Trio.all false).set c true) src stream data

/-- An accepted frame: a first frame waits for its continuation, a second one completes its message (R380). -/
def State.assemble (s : State) (c : Ch) (f : FabFrame) : State :=
  let mine := fun (x : Part) => x.src == f.src && x.stream == f.stream
  if bit f.flags 7 then
    if f.payload.length = 1024 then
      s.updPlane c fun p =>
        { p with parts := ⟨f.src, f.stream, f.seq, f.payload, s.now⟩ :: p.parts.filter fun x => !mine x }
    else s
  else match (s.plane c).parts.find? fun x => mine x && (x.seq + 1) % 65536 == f.seq with
    | some x =>
      (s.updPlane c fun p => { p with parts := p.parts.filter fun x => !mine x }).arrive c f.src f.stream x.seq
        (x.data ++ f.payload)
    | none => s.arrive c f.src f.stream f.seq f.payload

/-- A DATA frame for this node (R377, R381, R382). -/
def State.acceptFrame (s : State) (c : Ch) (f : FabFrame) : State :=
  let n := f.stream
  if !(s.streamOn n && (s.streamSrc n == 0 || s.streamSrc n == f.src)) then s.bumpC c Obj.fabStreamReject
  else if !s.tagOk f then s.authFails c n f.src
  else if s.streamRedundant n || s.streamAuth n then
    let r := (s.plane c).eliminate f.src n f.seq s.now
    let s := s.updPlane c fun _ => r.1
    let s := match r.2.2 with
      | some o => s.bumpC c o
      | none => s
    if r.2.1 then s.assemble c f else s
  else s.assemble c f

/-- DATA_FRAME_ACCEPT (R377): the oldest frame that waits in channel `c`. -/
def execDataFrameAccept (t : Nat) (c : Ch) (s : State) : Res :=
  s.run t fun s =>
    match (s.plane c).inbox with
    | [] => s
    | b :: rest =>
      let s := s.updPlane c fun p => { p with inbox := rest }
      match parseFab b with
      | some f => if s.routes then s.acceptFrame c f else s
      | none => s

/-- The largest set of channels that take part and hold equal copies of a payload, with that payload (R379). -/
def State.agreed (s : State) (m : AgreeMsg) : Option (List Byte) :=
  (s.voters.filterMap m.copies.get).find? fun d =>
    s.isMajority ⟨m.copies.a == some d, m.copies.b == some d, m.copies.c == some d⟩

/-- The payload under agreement that a command names. -/
def State.agreeMsg (s : State) (n src seq : Nat) : Option AgreeMsg :=
  s.fab.agree.find? fun m => m.stream == n && m.src == src && m.seq == seq

/-- `s` without a payload under agreement. -/
def State.dropAgree (s : State) (m : AgreeMsg) : State :=
  { s with fab := { s.fab with agree := s.fab.agree.filter fun x => x != m } }

/-- The channels that hold no copy of an agreed payload, or another one, take it from the first that holds it, as a class 5 state
copy (R379). -/
def State.copyPayload (s : State) (m : AgreeMsg) (d : List Byte) : State :=
  match s.voters.find? fun c => m.copies.get c == some d with
  | some c => if s.voters.all fun x => m.copies.get x == some d then s else s.send (.strap c .copy d)
  | none => s

/-- PAYLOAD_AGREED (R379): a majority within FAB_AGREE_WINDOW of the first copy; every channel takes part in the
release. -/
def execPayloadAgreed (t : Nat) (n : Fin 4096) (src : Fin 255) (seq : Nat) (s : State) : Res :=
  s.run t fun s =>
    match s.agreeMsg n src seq with
    | some m =>
      match s.agreed m with
      | some d =>
        if s.now ≤ m.first + s.vn Obj.fabAgreeWindow * us then
          let all := ⟨s.takesPart .chA, s.takesPart .chB, s.takesPart .chC⟩
          ((s.dropAgree m).copyPayload m d).consume all m.src m.stream d
        else s
      | none => s
    | none => s

/-- FABRIC_AGREE_FAIL (R379): no majority within FAB_AGREE_WINDOW. -/
def execFabricAgreeFail (t : Nat) (n : Fin 4096) (src : Fin 255) (seq : Nat) (s : State) : Res :=
  s.run t fun s =>
    match s.agreeMsg n src seq with
    | some m =>
      if m.first + s.vn Obj.fabAgreeWindow * us ≤ s.now ∧ s.agreed m = none then
        (s.dropAgree m).bumpC .chA Obj.fabAgreeFail
      else s
    | none => s

/-- MESSAGE_CONTINUATION_TIMEOUT (R380). -/
def execMessageContinuationTimeout (t : Nat) (c : Ch) (n : Fin 4096) (src : Fin 255) (s : State) : Res :=
  s.run t fun s =>
    s.updPlane c fun p =>
      { p with parts := p.parts.filter fun x => !(x.stream == n.val && x.src == src.val && x.at_ + 100 * us ≤ s.now) }

-- fabric time (R385)

/-- The payload of a TIME_SYNC: the master, its time and the correction in ns (R385; layout: log entry 9). -/
def syncBytes (master time correction : Nat) : List Byte := leBytes 1 master ++ leBytes 8 time ++ leBytes 8 correction

/-- TIME_SYNC_SEND (R385): every 1 ms the master's channels, on every NEIGHBOUR lane. -/
def execTimeSyncSend (t : Nat) (s : State) : Res :=
  s.run t fun s =>
    if s.isTimeMaster && s.routes && s.since s.fab.syncAt ms then
      let s := { s with fab := { s.fab with syncAt := some s.now } }
      forEach s.voters s fun s c => forEach (s.neighbours c) s fun s l =>
        s.sendOnLane c l 4 0 (syncBytes s.fab.addr s.deviceTime 0)
    else s

/-- The lanes of channel `c` that lead downstream on the master's tree: the neighbour reaches the master over them. -/
def State.downstream (s : State) (c : Ch) : List Nat :=
  let es := s.edges c
  (s.neighbours c).filter fun l =>
    match nextHop es (s.fabLane c l).peerAddr s.fab.master with
    | some e => e.v == s.fab.addr && e.rlane == l
    | none => false

/-- The lane of channel `c` that leads to the time master. -/
def State.upstream (s : State) (c : Ch) : Option Nat :=
  (nextHop (s.edges c) s.fab.addr s.fab.master).map (·.lane)

/-- A rate adjustment that a lock finds, in ppb: the spec gives no control law, so the value is free within its range (R25,
R29). -/
def State.freeRate (s : State) : Int := (s.free % 400001 : Nat) - 200000

/-- Device time is disciplined to a TIME_SYNC of the measured offset (R25, R26, R28, R384). TIME_SYNC does not say whether
fabric time is traceable to 802.1AS: the node keeps what its own SOURCE said, and AS_LOCKED, which speaks of disciplining, is
set on the time master alone (DESIGN CHOICE, log entry 117). -/
def State.discipline (s : State) (offset : Int) : State :=
  let traceable := field (s.v Obj.timeStatus) 0 2 == 2
  let s := { s with fab := { s.fab with holdTime := false } }
  let s := if s.isBit Obj.timeStatus 3 then s.timeReturn offset s.freeRate traceable else s.timeLock offset s.freeRate traceable
  s.useFree

/-- A TIME_SYNC of `master` on lane `l` of channel `c` is on the tree that the channel follows (R385). -/
def State.takesSync (s : State) (c : Ch) (l master : Nat) : Bool :=
  s.fabAlive c && s.laneState c l == laneNeighbour && master != 0 && master == s.fab.master && !s.isTimeMaster &&
    s.upstream c == some l

/-- The step that a TIME_SYNC makes (R25): the first lock. -/
def State.syncStep (s : State) (c : Ch) (l master : Nat) (offset : Int) : Nat :=
  if s.takesSync c l master && s.follows c then s.lockStep offset else 0

/-- TIME_SYNC_RECEIVE (R385): the correction grows by the residence time, which is a free value, and the delay of the
lane. -/
def execTimeSyncReceive (t : Nat) (c : Ch) (l : Fin 4) (master : Nat) (offset : Int) (correction : Nat) (s : State) : Res :=
  s.run (max s.now t + s.syncStep c l master offset) fun s =>
    if s.takesSync c l master then
      let down := s.downstream c
      let late := correction + s.vn (Obj.laneDelay c l)
      let sent := (((s.deviceTime : Int) + offset).toNat - late * 3 / 10)
      let s := if down.isEmpty then s
        else forEach down s.useFree fun s k => s.sendOnLane c k 4 0 (syncBytes master sent (late + s.free % 2 ^ 32))
      if s.follows c then (s.updPlane c fun p => { p with lastSync := some s.now }).discipline offset else s
    else s

/-- PDELAY_REQ (R385): a lane sends a delay request every 100 ms, or answers a received one. -/
def execPdelayReq (t : Nat) (c : Ch) (l : Fin 4) (received : Bool) (s : State) : Res :=
  s.run t fun s =>
    if !s.fabAlive c || s.laneState c l != laneNeighbour then s
    else if received then s.sendOnLane c l 6 0 []
    else if s.since (s.fabLane c l).pdelayAt (100 * ms) then
      (s.sendOnLane c l 5 0 []).updLane c l fun x => { x with pdelayAt := some s.now }
    else s

/-- PDELAY_RESP (R385): LANE_DELAY takes the measured delay in ns. -/
def execPdelayResp (t : Nat) (c : Ch) (l : Fin 4) (delay : Nat) (s : State) : Res :=
  s.run t fun s =>
    if s.fabAlive c && s.laneState c l == laneNeighbour then s.setR (Obj.laneDelay c l) (min 65535 delay : Nat) else s

end Sys2Proof.Machine
end

