-- ==== Sys2Proof/Machine/AsTime.lean ====
section
/-! DEFINITION. Chapter 04: IEEE 802.1AS on the host ports (R26, R28, R30, R100). -/

namespace Sys2Proof.Machine

/-- One grandmaster is better than another: by its quality, then by the lower clock identity (R100). -/
def gmBetter (x y : Nat × Nat) : Bool := x.1 < y.1 || (x.1 == y.1 && x.2 < y.2)

/-- The grandmaster heard on a port with AS_ENABLE set. -/
def State.gmOf (s : State) (p : Nat) : Option (Nat × Nat) :=
  if s.v (Obj.asEnable p) = 1 then (s.port p).gm else none

/-- The port whose 802.1AS time is used (R100). -/
def State.asPort (s : State) : Option Nat :=
  match s.gmOf 0, s.gmOf 1 with
  | some x, some y => some (if gmBetter y x then 1 else 0)
  | some _, none => some 0
  | none, some _ => some 1
  | none, none => none

/-- AS_LOCKED (R30): fabric time is within 1 µs, 300 ticks, of the 802.1AS time. -/
def State.lockAs (s : State) (b : Bool) : State := s.bitR Obj.timeStatus 5 b

/-- A port's grandmaster is gone: the other port takes over without stepping, and with none the time source is lost
(R28, R100). -/
def State.loseGm (s : State) (p : Nat) : State :=
  let used := s.asPort == some p
  let s := s.updPort p fun x => { x with gm := none }
  if used && s.isTimeMaster && s.asPort.isNone then s.timeLoss.lockAs false else s

/-- The step that an 802.1AS time from a port makes (R25): the first lock of the fabric's time master, where the port is the
one in use. -/
def State.asStep (s : State) (p : Nat) (offset : Int) : Nat :=
  if s.asPort == some p && s.isTimeMaster then s.lockStep offset else 0

/-- The time received on the port in use disciplines fabric time on the time master (R26, R28, R100): the master's time
lies `offset` ticks behind it, and its own device time is fabric time (R30). -/
def State.followAs (s : State) (offset : Int) : State :=
  let steps := s.lockStep offset != 0
  let s := if s.isBit Obj.timeStatus 3 then s.timeReturn offset s.freeRate true else s.timeLock offset s.freeRate true
  (s.useFree.lockAs (steps || offset.natAbs ≤ 300)).setNear true

end Sys2Proof.Machine
end

