-- ==== Sys2Proof/Machine/Sluice.lean ====
section
/-! DEFINITION. Chapter 04: the Sluice semaphores, their leases and the lapse of an axis group (R115 to R123, R279). -/

namespace Sys2Proof.Machine

/-- STATE of a semaphore (R122). -/
def Sem.code (x : Sem) : Nat := match x.holder with
  | none => 0
  | some .p0 => 1
  | some .p1 => 2

/-- Insertion before the first element that must come later. -/
def insertBy {α : Type} (before : α → α → Bool) (x : α) : List α → List α
  | [] => [x]
  | y :: l => if before x y then x :: y :: l else y :: insertBy before x l

/-- The order of writes of one instant (R74): by agreement time, then P0 before P1. -/
def PendWrite.before (x y : PendWrite) : Bool :=
  x.req.agreed < y.req.agreed || (x.req.agreed == y.req.agreed && x.req.carrier.num < y.req.carrier.num)

/-- The accepted writes that are due, in the order of R74. -/
def State.dueWrites (s : State) : List PendWrite :=
  (s.kdp.writes.filter fun w => w.due ≤ s.now).foldl (fun l w => insertBy PendWrite.before w l) []

/-- The value of a lease object as the writes due at this instant leave it (R118). -/
def State.agreedV (s : State) (o : Obj) : Nat :=
  (s.dueWrites.flatMap fun w => w.members).foldl (fun v m => match m with
    | (key, .num x) => if key = o.key then x.toNat else v
    | _ => v) (s.vn o)

/-- HOLD (R119, R279): every member goes on to its present target; pending targets are discarded. -/
def State.beginHold (s : State) (g : Nat) : State :=
  let s := (s.updSem g fun x => { x with lapse := 1, lapseAt := s.now }).updGroup g fun x =>
    { x with pend := [], pendTotal := none }
  forEach ((s.members g).filter fun m => !s.isRemote g m) s fun s m =>
    s.updGen (s.memberAxis g m) fun x => { x with pend := none }

/-- The safe target of a local member of modes 0 and 1 (R279), unless a reaction or tracking refuses it (R216, R270). -/
def State.safeMove (s : State) (g m : Nat) : State :=
  let n := s.memberAxis g m
  if s.isRemote g m || s.v (Obj.safeMode n) != 1 || s.reaction n != 0 || (s.gen n).tracks then s
  else s.setTarget n (s.v (Obj.safeTarget n))

/-- RAMP (R119, R279): the group moves to its safe setpoint. -/
def State.beginRamp (s : State) (g : Nat) : State :=
  let s := s.updSem g fun x => { x with lapse := 2 }
  match s.vn (Obj.agMode g) with
  | 2 => s.wantTotal g (s.v (Obj.agSafeTotal g))
  | 3 => s
  | _ => forEach (s.members g) s fun s m => s.safeMove g m

/-- The semaphore becomes FREE and its group lapses (R119); HOLD_TIME 0 passes straight to RAMP. -/
def State.freeSem (s : State) (g : Nat) : State :=
  let s := (s.updSem g fun x => { x with holder := none }).beginHold g
  if s.agreedV (Obj.holdTime g) = 0 then s.beginRamp g else s

/-- A port takes a free semaphore: the lease starts (R116); a lapse goes on until the first command is applied (R119). -/
def State.grantSem (s : State) (g : Nat) (p : Port) : State :=
  s.updSem g fun x => { x with holder := some p, restart := s.now }

/-- The lease of a holder restarts (R116, R118). -/
def State.restartLease (s : State) (g : Nat) : State := s.updSem g fun x => { x with restart := s.now }

/-- Every lease that a port holds restarts: a command frame of the port was accepted (R118). -/
def State.renewLeases (s : State) (p : Port) : State :=
  forEach ((upto 16).filter fun g => (s.sem g).holder == some p) s fun s g => s.restartLease g

/-- An acquire of the holder is due: it restarts the lease at this instant (R116, R118). -/
def State.renewing (s : State) (g : Nat) : Bool :=
  s.kdp.writes.any fun w => decide (w.due ≤ s.now) && w.members == [((Obj.sluiceAg g).key, .num 1)] &&
    w.req.carrier.port? == (s.sem g).holder

/-- The lease of a held semaphore has run out (R118). -/
def State.leaseOver (s : State) (g : Nat) : Bool :=
  (s.sem g).holder.isSome && !s.renewing g && (s.sem g).restart + s.agreedV (Obj.leaseTime g) * ms ≤ s.now

/-- The lease expires (R118). -/
def State.expireLease (s : State) (g : Nat) : State :=
  if s.leaseOver g then (s.freeSem g).bumpR (Obj.leaseExpiries g) else s

/-- HOLD_TIME has passed in the HOLD phase (R119). -/
def State.holdOver (s : State) (g : Nat) : Bool :=
  (s.sem g).lapse == 1 && (s.sem g).lapseAt + s.agreedV (Obj.holdTime g) * ms ≤ s.now

/-- The HOLD phase ends (R119). -/
def State.endHold (s : State) (g : Nat) : State := if s.holdOver g then s.beginRamp g else s

/-- A command of the holder has been applied to the group: the lapse ends (R119). -/
def State.commandApplied (s : State) (g : Nat) (p : Port) : State :=
  if (s.sem g).holder = some p then s.updSem g fun x => { x with lapse := 0 } else s

/-- A release at a commit instant (R116): the new state and the answer. -/
def State.releaseSem (s : State) (g : Nat) (p : Port) : State × Nat :=
  if (s.sem g).holder = some p then (s.freeSem g, 0) else (s, 0x0609)

/-- The port that the fairness bit names (R121). -/
def State.fairPort (s : State) (g : Nat) : Port := if s.isBit Obj.sluiceFair g then .p1 else .p0

/-- The acquires of one group at a commit instant (R116): `l` holds the requesting ports. -/
def State.acquireSem (s : State) (g : Nat) (l : List Port) : State :=
  match (s.sem g).holder with
  | some p => if l.contains p then s.restartLease g else s
  | none =>
    if l.contains .p0 && l.contains .p1 then
      (s.grantSem g (s.fairPort g)).bitR Obj.sluiceFair g (!s.isBit Obj.sluiceFair g)
    else match l with
      | p :: _ => s.grantSem g p
      | [] => s

/-- The answer to an acquire once the requests of its instant are decided (R116). -/
def State.acquireCode (s : State) (g : Nat) (p : Port) : Nat := if (s.sem g).holder = some p then 0 else 0x0608

/-- LEASE_EXPIRY (R118): at a commit instant. -/
def execLeaseExpiry (t : Nat) (g : Fin 16) (s : State) : Res :=
  s.run t fun s => if isCommit s.now then s.expireLease g else s

/-- HOLD_TIME_EXPIRY (R119): at a commit instant. -/
def execHoldTimeExpiry (t : Nat) (g : Fin 16) (s : State) : Res :=
  s.run t fun s => if isCommit s.now then s.endHold g else s

/-- The Sluice state as it is voted (R120): states, fairness bits and lapse phases. -/
def State.sluiceBytes (s : State) : List Byte :=
  (upto 16).flatMap fun g =>
    let x := s.sem g
    [BitVec.ofNat 8 x.code, BitVec.ofNat 8 (b2n (s.isBit Obj.sluiceFair g)), BitVec.ofNat 8 x.lapse]

/-- The profile state as it is voted (R266): PA, VX, T and the pending target of every generator. -/
def State.profileBytes (s : State) : List Byte :=
  (upto 32).flatMap fun n =>
    let x := s.gen n
    leBytesInt 8 x.pa ++ leBytesInt 8 x.vx ++ leBytesInt 4 x.tgt ++ leBytes 1 (b2n x.pend.isSome) ++
      leBytesInt 4 (x.pend.getD 0)

end Sys2Proof.Machine
end

