-- ==== Sys2Proof/Machine/ChangeLog.lean ====
section
/-! DEFINITION. The change log (R442 to R445). -/

namespace Sys2Proof.Machine

/-- `n` bytes of `l`, zero-padded. -/
def padTo (n : Nat) (l : List Byte) : List Byte := l.take n ++ List.replicate (n - l.length) 0

/-- Bytes 0 to 35 of an entry (R443). -/
def LogEntry.head (e : LogEntry) : List Byte :=
  leBytes 4 e.seq ++ leBytes 8 e.time ++ leBytes 2 e.index ++ leBytes 1 e.sub ++ leBytes 1 e.carrier ++ padTo 8 e.old ++
    padTo 8 e.new ++ leBytes 1 e.form ++ leBytes 3 0

/-- The 40 bytes of an entry (R443). -/
def LogEntry.bytes (e : LogEntry) : List Byte := e.head ++ leBytes 4 e.chain

/-- CL_DATA: the entries, oldest first (R445). -/
def State.logData (s : State) : List Byte := s.safe.log.reverse.flatMap LogEntry.bytes

/-- A value as an entry records it: values longer than 8 bytes by their CRC-32C, secret ones as zero (R443). -/
def logValue (secret : Bool) (v : List Byte) : List Byte :=
  if secret then [] else if 8 < v.length then leBytes 4 (crc32c v) else v

/-- FORM of an entry (R443). -/
def logForm (secret : Bool) (v : List Byte) : Nat :=
  min 63 v.length + 64 * b2n secret + 128 * b2n (!secret && decide (8 < v.length))

/-- An entry is appended; a full log in mode 0 loses its oldest entry, whose CHAIN becomes CL_BASE_CHAIN (R443, R444). -/
def State.appendLog (s : State) (index sub carrier : Nat) (old new : List Byte) (form : Nat) : State :=
  let e : LogEntry :=
    { seq := s.vn Obj.clNextSeq, time := s.now, index := index, sub := sub, carrier := carrier, old := padTo 8 old
      new := padTo 8 new, form := form, chain := 0 }
  let e := { e with chain := crc32c (e.head ++ leBytes 4 (s.vn Obj.clLastChain)) }
  let full := 1024 ≤ s.safe.log.length
  let s := if full then
      match s.safe.log.getLast? with
      | some o => (s.bumpR Obj.clOverwritten).setR Obj.clBaseChain o.chain
      | none => s
    else s
  let s := { s with safe := { s.safe with log := e :: (if full then s.safe.log.dropLast else s.safe.log) } }
  (((s.bumpR Obj.clNextSeq).setR Obj.clLastChain e.chain).setR Obj.clCount s.safe.log.length)

/-- A change of a value enters the log (R442). -/
def State.logChange (s : State) (index sub carrier : Nat) (old new : List Byte) (secret : Bool) : State :=
  s.appendLog index sub carrier (logValue secret old) (logValue secret new) (logForm secret new)

/-- CL_CLEAR (R444): the log is emptied, and the clearing is the first entry of the new log. -/
def State.clearLog (s : State) (carrier : Nat) (v : List Byte) : State :=
  let n := s.safe.log.length
  let base := s.v Obj.clLastChain
  let s := { s with safe := { s.safe with log := [] } }
  (s.setR Obj.clBaseChain base).appendLog 0x7800 7 carrier (leBytes 4 n) v (logForm false v)

/-- CARRIER of an entry that the device itself makes (R443). -/
def logDevice : Nat := 6

end Sys2Proof.Machine
end

