-- ==== Sys2Proof/Machine/Twin.lean ====
section
/-! DEFINITION. Chapter 13: twin pairing, heartbeats, ownership, mirror, eligibility, handback, health reports and the spare
(R390 to R416). The pairing and unpairing writes stand in `Machine/HostCmds.lean`. -/

namespace Sys2Proof.Machine

-- role tasks and the configuration digest (R390, R391)

/-- The role tasks, in ascending number (R390). -/
def State.roleTasks (s : State) : List Nat := s.enabledTasks.filter s.isRole

/-- The periods of the role tasks respect the limits of their axes (R390). -/
def State.rolePeriodsOk (s : State) : Bool :=
  s.roleTasks.all fun k =>
    match s.taskAxis k with
    | some n =>
      (!s.isBit Obj.twinSteerAxes n || s.vn (Obj.taskPeriod k) ≤ 400) &&
        (!s.isBit Obj.twinBrakeAxes n || s.vn (Obj.taskPeriod k) ≤ 900)
    | none => true

/-- The objects that TWIN_CONFIG_DIGEST covers for a task: 0x2000+t:01 to :09 and 0x5000+4t:01 to :0F (R391). -/
def coveredOf (k : Nat) : List (Nat × Nat) :=
  ((upto 9).map fun i => (0x2000 + k, i + 1)) ++ (upto 15).map fun i => (0x5000 + 4 * k, i + 1)

/-- OBJ_DESC as it is written, without its PLACED fields (log entry 17). -/
def State.descStored (s : State) (o : Nat) : Int := withField (s.v (Obj.objDesc o)) 1 3 0

/-- The entries of the mirror set, in ascending number (R336, R398). -/
def State.mirrorSet (s : State) : List Nat := (upto 2048).filter fun o => s.objEntries.contains o && s.isMirrored o

/-- TWIN_CONFIG_DIGEST (R391). -/
def State.configDigest (s : State) : Nat :=
  crc32c (s.objBytes 0xA800 5 ++ s.objBytes 0xA800 6 ++
    (s.roleTasks.flatMap fun k => (coveredOf k).flatMap fun p => s.objBytes p.1 p.2) ++
      s.mirrorSet.flatMap fun o => leBytesInt 8 (s.descStored o))

/-- The dictionary reference of an object as DICT_REF holds it. -/
def refOf (o : Obj) : Nat := o.key

/-- The twin axes. -/
def State.twinAxes (s : State) : List Nat := (upto 32).filter s.isRoleAxis

/-- The axes of the remote group members (R283). -/
def State.remoteAxes (s : State) : List Nat :=
  ((upto 16).flatMap fun g => ((s.members g).filter (s.isRemote g)).map (s.memberAxis g)).eraseDups

/-- The mirror set holds what R398 requires: outputs and INT_STATE of the role tasks, setpoint, velocity and target of the
twin axes, the limits of remote members. -/
def State.mirrorOk (s : State) : Bool :=
  let ms := s.mirrorSet
  let refs := ms.map s.dictRef
  (s.roleTasks.all fun k =>
    (2048 ≤ s.vn (Obj.taskOut k) || (ms.contains (s.vn (Obj.taskOut k)) && s.dictRef (s.vn (Obj.taskOut k)) == 0)) &&
      refs.contains (refOf (Obj.intState k))) &&
  (s.twinAxes.all fun n =>
    refs.contains (refOf (Obj.pgSetpoint n)) && refs.contains (refOf (Obj.pgVelNow n)) &&
      refs.contains (refOf (Obj.pgTargetNow n))) &&
  s.remoteAxes.all fun n =>
    refs.contains (refOf (Obj.pgVmax n)) && refs.contains (refOf (Obj.pgAcc n)) && refs.contains (refOf (Obj.pgDec n)) &&
      refs.contains (refOf (Obj.pgQsDec n))

-- ownership (R400, R401, R403)

/-- Epoch `n` is newer than `m` (R400). -/
def newer (n m : Nat) : Bool :=
  let d := ((n : Int) - m) % 2 ^ 32
  decide (1 ≤ d ∧ d ≤ 2 ^ 31 - 1)

/-- TWIN_EPOCH becomes `e`; every change is recorded (R400, R503). -/
def State.setEpoch (s : State) (e : Nat) : State :=
  let old := s.vn Obj.twinEpoch
  if old = e then s
  else
    let s := (s.setR Obj.twinEpoch e).setR Obj.twinLastChange s.now
    s.logDev 0x0502 0xA801 (leBytes 4 old ++ leBytes 4 e)

/-- The next epoch (R401). -/
def State.nextEpoch (s : State) : Nat := (s.vn Obj.twinEpoch + 1) % 2 ^ 32

/-- The role tasks stop at once (R401). -/
def State.stopRoles (s : State) : State :=
  forEach s.roleTasks s fun s k => s.updTask k fun r =>
    { r with rel := Trio.all none, fin := Trio.all none, lastStart := none }

/-- The role tasks start here in first use; after a take-over or a handback their integrators are preset from the mirrored
INT_STATE (R402, R403 step 2, R408). -/
def State.startRoles (s : State) (mirrored : Bool) : State :=
  forEach s.roleTasks s fun s k =>
    let p := if mirrored then some (s.v (Obj.intState k)) else none
    (s.firstUse k).updTask k fun r => { r with st := r.st.map fun x => { x with preset := p }, lastStart := none }

/-- The debug split is in force (R320). -/
def State.anyDebug (s : State) : Bool := Ch.all.any s.red.inDebug.get

/-- NOMINAL, or DUAL without DEBUG_SPLIT (R403, R406). -/
def State.soundState (s : State) : Bool := (s.red.state == .nominal || s.red.state == .dual) && !s.anyDebug

/-- Ownership is taken (R403): `st` is HOLDER, or SPARE_HOLDER for a spare (R410). -/
def State.takeOwnership (s : State) (st : Nat) : State :=
  let s := (s.setEpoch s.nextEpoch).setTwinState st
  let s := { s with twin := { s.twin with spareHolds := false, handback := none, acked := false, peerHandback := none } }
  (s.bumpC .chA Obj.twinTakeovers).startRoles true

/-- The holder is lost or unfit (R403, R405). Cause 7 is the reaction of R405; it sets no bit of AX_FAULT_CAUSE. -/
def State.holderGone (s : State) : State :=
  match s.vn Obj.twinState with
  | 4 => if s.soundState then s.takeOwnership 3 else s
  | 5 =>
    let missed := match s.twin.lastMiss with
      | some m => s.now < m + 50 * ms
      | none => false
    if s.red.state = .nominal ∧ missed = false then s.takeOwnership 3
    else forEach s.twinAxes s fun s n => s.react n 7 2
  | _ => s

-- tasks on the twin (R351)

/-- Tasks that ran on the twin take their local fallback sites, with the state that the twin last returned. -/
def State.takeBack (s : State) : State :=
  forEach (s.enabledTasks.filter s.onTwin) s fun s k =>
    let o := s.place.plan.fbOwner.getD k 255
    let eng := fun c => (s.place.plan.fbEngine.get c).getD k 255
    if o < 3 then
      let cs := (s.planComputes k (chOf o)).filter fun c => eng c != 255
      let a := s.freeTaskSt (s.taskSt .chA k)
      let m : TaskMove := { owner := o, computed := maskOf cs, engines := ⟨eng .chA, eng .chB, eng .chC⟩ }
      ((a.2.updTask k fun r => { r with st := Trio.all a.1 }).placeAt k m).bumpR Obj.fallbackMoves
    else s

/-- A device whose twin is lost can neither be confirmed nor supervised: it enters PASSIVE (R310, R312). -/
def State.noSupervisor (s : State) : State := if s.red.arb.isSome || s.red.state == .single then s.enter .passive else s

/-- The twin is lost (R397): the fault is recorded and reported, pending handbacks end, tasks on it come back, and a
standby takes over. -/
def State.loseTwin (s : State) : State :=
  let s := { s with twin := { s.twin with lost := true, lostAt := s.now, handback := none, acked := false, peerHandback := none
                                          since := none, eligible := false } }
  let s := (s.logDev 0x0501 0xA801 (leBytes 4 (s.vn Obj.twinEpoch))).health clsTwin 0xA801
  let s := forEach (s.enabledTasks.filter fun k => match (s.task k).move with
    | some m => m.owner == 3
    | none => false) s State.dropMove
  let s := s.takeBack.holderGone
  s.noSupervisor.planTrigger 1

-- pairing (R391 to R394)

/-- A message on the fabric control stream 0x0FF8 (R391). -/
def State.sendControl (s : State) (payload : List Byte) : State :=
  forEach s.voters s fun s c =>
    let s := s.send (.fabric c 0x0FF8 payload)
    if s.routes && s.fabAlive c then s.sendFrame c 0x0FF8 (s.vn Obj.twinPeerAddr) false payload else s

/-- The payload of a pairing request (R391). -/
def State.pairBytes (s : State) (random : List Byte) : List Byte :=
  leBytes 8 Config.deviceUid ++ leBytes 8 (s.vn Obj.twinPeerUid) ++ leBytes 2 (s.vn Obj.twinPreferred) ++
    leBytes 4 s.configDigest ++ random

/-- Pairing starts (R391). -/
def State.startPairing (s : State) : State :=
  let r := (Config.pairingRandom s.used).toList
  let s := s.useFree.setTwinState 1
  { s with twin := { s.twin with request := some (s.now, r), pairSent := none } }

/-- PAIRING_REQUEST_SEND (R391): every 10 ms while the request runs. -/
def execPairingRequestSend (t : Nat) (s : State) : Res :=
  s.run t fun s =>
    match s.twin.request with
    | some (_, r) =>
      if s.vn Obj.twinState = 1 ∧ s.since s.twin.pairSent (10 * ms) = true then
        { (s.sendControl (s.pairBytes r)) with twin := { s.twin with pairSent := some s.now } }
      else s
    | none => s

/-- The pairing request ends without success (R392). -/
def State.lapsePairing (s : State) (cause : Nat) : State :=
  let s := (s.setTwinState 0).setR Obj.twinPairResult cause
  { s with twin := { s.twin with request := none } }

/-- The device writes a stream descriptor (R375, R378, R394). -/
def State.putDesc (s : State) (n : Nat) (v : Int) : State := (s.setR (Obj.streamDesc n) v).streamChanged (s.streamOn n) n

/-- The stream descriptors of R394. -/
def State.writeTwinStreams (s : State) : State :=
  let p := s.vn Obj.twinPeerAddr
  let sp := s.vn Obj.twinSpareAddr
  let s := s.putDesc 0x0D00 (descOf p p 0 false false true true)
  let s := s.putDesc 0x0D01 (descOf p p 0 true false true true)
  let s := s.putDesc 0x0D02 (descOf p p 1 true false true true)
  if sp = 0 then s
  else (s.putDesc 0x0D08 (descOf 0 sp 0 false true true true)).putDesc 0x0D09 (descOf 0 sp 0 true true true true)

/-- The stream descriptors of R394 at the defaults of R376. -/
def State.dropTwinStreams (s : State) : State :=
  forEach [0x0D00, 0x0D01, 0x0D02, 0x0D08, 0x0D09] s fun s n => s.putDesc n (streamDflt n)

/-- The pairing key (R392). -/
def pairingKey (own peer : Nat) (ownRandom peerRandom : List Byte) : List Byte :=
  if own < peer then sha256 (leBytes 8 own ++ leBytes 8 peer ++ ownRandom ++ peerRandom)
  else sha256 (leBytes 8 peer ++ leBytes 8 own ++ peerRandom ++ ownRandom)

/-- The handshake begins (R402). -/
def State.startHandshake (s : State) : State :=
  let s := s.stopRoles.setTwinState 2
  { s with twin := { s.twin with handshake := some s.now, misses := Trio.all 0, reported := Trio.all false
                                 accepted := Trio.all false, beat := none, since := none, eligible := false } }

/-- Pairing completes (R392). -/
def State.completePairing (s : State) (random peerRandom : List Byte) : State :=
  let key := pairingKey Config.deviceUid (s.vn Obj.twinPeerUid) random peerRandom
  let s := { s with twin := { s.twin with paired := true, key := key, request := none, lost := false, forced := false
                                          passiveHeard := false, unpairOwn := none, unpairPeer := none
                                          degraded := false, lastReport := none } }
  let s := s.writeTwinStreams.setEpoch 1
  let s := (s.setR Obj.twinPairResult 1).startHandshake
  s.logChange 0xA800 3 logDevice (leBytes 2 0) (leBytes 2 1) false

/-- The cause for which a received pairing request does not match, as TWIN_PAIR_RESULT gives it; none where it does. -/
def State.pairCause (s : State) (r : PairReq) : Option Nat :=
  if r.uid ≠ s.vn Obj.twinPeerUid ∨ r.peerUid ≠ Config.deviceUid then some 3
  else if r.preferred = (s.v Obj.twinPreferred == 1) then some 4
  else if r.digest ≠ s.configDigest then some 5
  else if s.mirrorOk = false then some 7
  else none

/-- PAIRING_REQUEST_RECEIVE (R392). -/
def execPairingRequestReceive (t : Nat) (r : PairReq) (s : State) : Res :=
  s.run t fun s =>
    match s.twin.request with
    | some (b, random) =>
      if s.vn Obj.twinState = 1 ∧ s.now ≤ b + 10 * sec then
        match s.pairCause r with
        | some cause => s.lapsePairing cause
        | none => if s.allStill then s.completePairing random r.random else s.lapsePairing 6
      else s
    | none => s

/-- PAIRING_LAPSE (R392): 10 s without completion, or standstill lost. -/
def execPairingLapse (t : Nat) (s : State) : Res :=
  s.run t fun s =>
    match s.twin.request with
    | some (b, _) =>
      if s.vn Obj.twinState ≠ 1 then s
      else if !s.allStill then s.lapsePairing 6
      else if b + 10 * sec ≤ s.now then s.lapsePairing 2
      else s
    | none => s

/-- Unpairing completes (R393, R442). -/
def State.completeUnpair (s : State) (cmd : Nat) : State :=
  let s := { s with twin := { s.twin with paired := false, key := [], unpairOwn := none, unpairPeer := none, lost := false
                                          handshake := none, handback := none, acked := false, peerHandback := none
                                          eligible := false, since := none, degraded := false, spareHolds := false
                                          passiveHeard := false, forced := cmd == 3 } }
  let s := (s.dropTwinStreams.setTwinState 0).setR Obj.twinPairResult 8
  (s.logChange 0xA800 3 logDevice (leBytes 2 0) (leBytes 2 cmd) false).takeBack

/-- Both devices have sent an unpair request within 10 s of each other (R393). -/
def State.checkUnpair (s : State) : State :=
  match s.twin.unpairOwn, s.twin.unpairPeer with
  | some x, some y => if s.twin.paired && x ≤ y + 10 * sec && y ≤ x + 10 * sec then s.completeUnpair 2 else s
  | _, _ => s

/-- This device asks to be unpaired (R393). -/
def State.requestUnpair (s : State) : State :=
  let s := { s with twin := { s.twin with unpairOwn := some s.now } }
  (s.sendControl (leBytes 8 Config.deviceUid ++ leBytes 2 2)).checkUnpair

/-- UNPAIR_REQUEST_RECEIVE (R393). -/
def execUnpairRequestReceive (t : Nat) (s : State) : Res :=
  s.run t fun s =>
    if s.twin.paired then ({ s with twin := { s.twin with unpairPeer := some s.now } } : State).checkUnpair else s

-- heartbeats (R395 to R397, R401)

/-- The device acts as a spare (R410). -/
def State.isSpare (s : State) : Bool := s.v Obj.sparePair0 != 0 && s.v Obj.sparePair1 != 0

/-- The device takes part in heartbeats: paired and past its handshake step, or a spare. -/
def State.beats (s : State) : Bool :=
  s.power.com && ((s.twin.paired && s.vn Obj.twinState != 0 && s.vn Obj.twinState != 1) || s.isSpare)

/-- This device claims ownership. -/
def State.claims (s : State) : Bool := s.vn Obj.twinState == 3 || s.vn Obj.twinState == 9

/-- The handback that node `d` has announced is accepted (R396, R408, R410): by the twin as the one claimant, by a spare from
the node that it releases to. -/
def State.acksTo (s : State) (d : Nat) : Bool :=
  match s.twin.peerHandback with
  | some h => !s.isSpare || h.src == d
  | none => false

/-- HB_FLAGS (R396) of a heartbeat to node `d`. -/
def State.hbFlags (s : State) (d : Nat) : Nat :=
  b2n s.claims + 2 * b2n s.twin.eligible + 4 * b2n s.twin.handback.isSome + 8 * b2n (s.acksTo d) +
    16 * b2n (s.v Obj.twinPreferred == 1) + 32 * b2n s.twin.lost + 64 * b2n s.isSpare

/-- Bytes 0 to 47 of a heartbeat to node `d` (R395). -/
def State.hbHead (s : State) (d : Nat) : List Byte :=
  leBytes 8 Config.deviceUid ++ leBytes 1 s.red.state.num ++ leBytes 1 s.deviceScore ++ leBytes 2 (s.hbFlags d) ++
    leBytes 4 (s.vn Obj.twinEpoch) ++ leBytes 8 (s.twin.handback.getD 0) ++ leBytes 24 0

/-- A claimant that leaves NOMINAL or DUAL withdraws its handback (R409). -/
def State.withdraw (s : State) : State :=
  if s.twin.handback.isSome && !(s.red.state == .nominal || s.red.state == .dual) then
    { s with twin := { s.twin with handback := none, acked := false } }
  else s

/-- Both devices change state at HANDBACK_AT (R408 step 3). -/
def State.handOver (s : State) (st : Nat) : State :=
  let s := ((s.setEpoch s.nextEpoch).setTwinState st).bumpC .chA Obj.twinFailbacks
  { s with twin := { s.twin with handback := none, acked := false, peerHandback := none, spareHolds := false } }

/-- HANDBACK_AT has come (R408, R409): the claimant takes control if its handback was acknowledged, else it abandons it; the
former holder becomes STANDBY, or SPARE_IDLE. -/
def State.settleHandback (s : State) : State :=
  let s := s.withdraw
  match s.twin.handback, s.twin.peerHandback with
  | some h, _ =>
    if h ≤ s.now then
      if s.twin.acked then (s.handOver 3).startRoles true
      else { s with twin := { s.twin with handback := none, quietSince := none } }
    else s
  | none, some h => if h.at_ ≤ s.now then s.handOver (if s.vn Obj.twinState = 9 then 8 else 4) else s
  | none, none => s

/-- The heartbeat of the device (R395, R409, R410). -/
def State.sendBeat (s : State) : State :=
  let s := s.withdraw
  let h := s.hbHead (s.vn Obj.twinPeerAddr)
  let cs := Ch.all.filter s.running
  let s := if s.twin.paired then forEach cs s fun s c => s.sendMsg c 0x0D00 (h ++ (hmac s.twin.key h).take 8) else s
  if s.isSpare then
    forEach cs s fun s c =>
      forEach [s.vn Obj.sparePair0, s.vn Obj.sparePair1] s fun s d =>
        (s.send (.fabric c 0x0D08 (s.hbHead d ++ leBytes 8 0))).sendTo c 0x0D08 d (s.hbHead d ++ leBytes 8 0)
  else if s.streamOn 0x0D08 then forEach cs s fun s c => s.sendMsg c 0x0D08 (h ++ leBytes 8 0)
  else s

/-- HEARTBEAT_SEND (R395): at the multiples of 50 µs. -/
def execHeartbeatSend (t : Nat) (s : State) : Res :=
  s.run t fun s =>
    if s.beats && s.now % (50 * us) == 0 then s.once markBeat State.sendBeat else s

/-- A channel accepts a heartbeat (R397, R410): from the twin by UID and PAIR_CHECK; from the spare, and at a spare from a
twin, by the tag that the stream has already been checked for. -/
def State.acceptsBeat (s : State) (src : Nat) (l : List Byte) : Bool :=
  let uid := ofLeBytes (l.take 8)
  let spare := bit (ofLeBytes ((l.drop 10).take 2)) 6
  if l.length ≠ 56 then false
  else if s.isSpare then src = s.vn Obj.sparePair0 || src = s.vn Obj.sparePair1
  else if spare then s.vn Obj.twinSpareAddr != 0 && src == s.vn Obj.twinSpareAddr
  else uid == s.vn Obj.twinPeerUid && l.drop 48 == (hmac s.twin.key (l.take 48)).take 8

/-- The fields of a heartbeat. -/
def parseBeat (l : List Byte) (t src : Nat) : Beat :=
  let g := fun i n => ofLeBytes ((l.drop i).take n)
  { redund := g 8 1, score := g 9 1, flags := g 10 2, epoch := g 12 4, handbackAt := g 16 8, time := t, src := src }

/-- The rule of R401 on an accepted heartbeat, with what R404, R408 and R410 add for a holder in SINGLE-SUPERVISED, for the
other twin of a handback from the spare, and for the spare's claim. -/
def State.judgeBeat (s : State) (c : Ch) (b : Beat) : State :=
  let e := s.vn Obj.twinEpoch
  let st := s.vn Obj.twinState
  let hp := bit b.flags 0
  let spare := bit b.flags 6
  if newer b.epoch e then
    let s := s.setEpoch b.epoch
    if st = 3 then
      if s.red.state = .single then
        { (s.stopRoles.setTwinState 4) with twin := { s.twin with eligible := false, since := none, changedAt := s.now } }
      else (s.stopRoles).setTwinState 5
    else if (st = 4 ∨ st = 5) ∧ spare = true then s.setTwinState 6
    else if st = 6 ∧ spare = false ∧ hp = true then s.setTwinState 4
    else s
  else if b.epoch = e ∧ hp = true ∧ st = 3 ∧ s.v Obj.twinPreferred = 0 then (s.stopRoles).setTwinState 5
  else if newer e b.epoch && hp then s.bumpC c Obj.twinStaleClaims
  else s

/-- The handback that the holder accepts after a heartbeat (R408, R410): the first claimant's, of two that claim at the same
instant the preferred one's; it ends when its claimant no longer announces it. -/
def backAfter (old : Option PeerBack) (b : Beat) : Option PeerBack :=
  let new : PeerBack := ⟨b.handbackAt, b.src, b.time / (50 * us)⟩
  match old, bit b.flags 2 with
  | none, true => some new
  | none, false => none
  | some h, true =>
    if h.src = b.src then some { new with told := h.told }
    else if h.told = new.told ∧ bit b.flags 4 = true then some new
    else some h
  | some h, false => if h.src = b.src then none else some h

/-- What an accepted heartbeat tells of handbacks (R408). -/
def State.noteHandback (s : State) (b : Beat) : State :=
  let s := if s.claims then { s with twin := { s.twin with peerHandback := backAfter s.twin.peerHandback b } } else s
  if s.twin.handback.isSome && bit b.flags 3 then { s with twin := { s.twin with acked := true } } else s

/-- A heartbeat is accepted by channel `c` (R397, R401, R403). -/
def State.takeBeat (s : State) (c : Ch) (b : Beat) : State :=
  let spare := bit b.flags 6
  let hp := bit b.flags 0
  let counts := if s.isSpare then hp else !spare
  let news := counts && !s.isSpare && b.redund == 4 && !s.twin.passiveHeard
  let s := if counts then
      { s with twin := { s.twin with
          accepted := s.twin.accepted.set c true
          epochOk := s.twin.epochOk.set c (s.twin.epochOk.get c && b.epoch == s.vn Obj.twinEpoch)
          beat := some b
          lost := false
          passiveHeard := !s.isSpare && b.redund == 4 } }
    else s
  let s := if hp then { s with twin := { s.twin with spareHolds := spare } } else s
  let s := (s.judgeBeat c b).noteHandback b
  let s := if news then s.takeBack.noSupervisor.planTrigger 1 else s
  let st := s.vn Obj.twinState
  if counts && !s.isSpare && hp && ((st == 4 && (b.redund == 3 || b.redund == 4)) || (st == 5 && b.redund == 4)) then s.holderGone
  else s

/-- HEARTBEAT_RECEIVE (R397, R401): by one channel, after elimination. -/
def execHeartbeatReceive (t : Nat) (c : Ch) (src : Fin 255) (payload : List Byte) (s : State) : Res :=
  s.run t fun s =>
    if !(s.beats && s.running c) then s
    else if s.acceptsBeat src payload then s.settleHandback.takeBeat c (parseBeat payload s.now src)
    else s.bumpC c Obj.twinHbRejects

/-- The conditions of R406 but for the time that they must hold. -/
def State.eligNow (s : State) : Bool :=
  s.soundState && !Ch.all.any s.red.faulty.get && 128 ≤ s.deviceScore && s.twin.paired && !s.twin.lost &&
    !s.twin.passiveHeard

/-- The count of R406, taken up or restarted: by a check without a heartbeat of the same epoch, or a miss under R306. -/
def State.countElig (s : State) (beatOk : Bool) : State :=
  if s.eligNow && beatOk then
    match s.twin.since with
    | none => { s with twin := { s.twin with since := some s.now } }
    | some b =>
      match s.twin.lastMiss with
      | some m => if b < m then { s with twin := { s.twin with since := some m, eligible := false } } else s
      | none => s
  else { s with twin := { s.twin with since := none, eligible := false } }

/-- HEARTBEAT_CHECK (R397): 25 µs after the multiples of 50 µs. -/
def execHeartbeatCheck (t : Nat) (c : Ch) (s : State) : Res :=
  s.run t fun s =>
    if !(s.beats && s.running c && s.now % (50 * us) == 25 * us) then s
    else s.once (markBeatCheck c) fun s =>
      let ok := s.twin.accepted.get c
      let same := s.twin.epochOk.get c
      let s := { s with twin := { s.twin with
        accepted := s.twin.accepted.set c false
        epochOk := s.twin.epochOk.set c true
        misses := s.twin.misses.set c (if ok then 0 else s.twin.misses.get c + 1)
        reported := s.twin.reported.set c (if ok then false else s.twin.reported.get c || 3 ≤ s.twin.misses.get c + 1) } }
      let s := s.countElig (ok && same)
      if ok then s
      else
        let s := s.bumpC c Obj.twinHbMisses
        if s.twin.misses.get c = 3 then s.send (.strap c .digest (leBytes 2 0xA801)) else s

/-- TWIN_LOSS_REPORT (R397): a voting majority reports three consecutive misses. -/
def execTwinLossReport (t : Nat) (s : State) : Res :=
  s.run t fun s =>
    if s.beats && !s.twin.lost && s.isMajority s.twin.reported then s.loseTwin else s

-- handshake (R402)

/-- The end of the handshake: the first state of R402 that applies. -/
def State.endHandshake (s : State) : State :=
  let e := s.vn Obj.twinEpoch
  let s := { s with twin := { s.twin with handshake := none } }
  match s.twin.beat with
  | some b =>
    let top := if newer b.epoch e then b.epoch else e
    if bit b.flags 0 then
      ({ (s.setEpoch b.epoch) with twin := { s.twin with eligible := false, since := none } } : State).setTwinState 4
    else if s.v Obj.twinPreferred = 1 then ((s.setEpoch ((top + 1) % 2 ^ 32)).setTwinState 3).startRoles false
    else (s.setEpoch b.epoch).setTwinState 4
  | none => ((s.setEpoch s.nextEpoch).setTwinState 3).startRoles false

/-- The handshake may end: a heartbeat was accepted, or TWIN_HANDSHAKE_TIME has passed (R402). -/
def State.handshakeOver (s : State) : Bool :=
  match s.twin.handshake with
  | some b => s.vn Obj.twinState == 2 && (s.twin.beat.isSome || b + s.vn Obj.twinHandshakeTime * ms ≤ s.now)
  | none => false

-- eligibility and handback (R406 to R408)

/-- ELIGIBLE (R406): the conditions have held for TWIN_ELIGIBLE_TIME. -/
def execEligible (t : Nat) (s : State) : Res :=
  s.run t fun s =>
    match s.twin.since with
    | some b =>
      let missed := match s.twin.lastMiss with
        | some m => b < m
        | none => false
      if s.eligNow && !missed && b + s.vn Obj.twinEligibleTime * ms ≤ s.now then
        let s := { s with twin := { s.twin with eligible := true } }
        if s.vn Obj.twinState = 5 then s.setTwinState 4 else s
      else s
    | none => s

/-- The hand-wheel rate is below QUIET_RATE (R407). -/
def State.rateQuiet (s : State) : Bool :=
  let n := s.vn Obj.quietAxis
  if n = 0xFF then true
  else
    let dp := (s.v (Obj.latchPos n) - s.v (Obj.latchPrevPos n)).natAbs
    let dt := (s.v (Obj.latchTime n) - s.v (Obj.latchPrevTime n)).toNat
    if dt = 0 then dp == 0 && decide (0 < s.vn Obj.quietRate) else decide (dp * sec < s.vn Obj.quietRate * dt)

/-- The brake demand of QUIET_GROUP. -/
def State.quietForce (s : State) : Int :=
  let g := s.vn Obj.quietGroup
  if g = 0xFF then 0 else s.v (Obj.agForceTotal g)

/-- The quiet window at a commit instant (R407): taken up, kept, or begun afresh. -/
def State.quietSample (s : State) : State :=
  let f := s.quietForce
  if !s.rateQuiet then { s with twin := { s.twin with quietSince := none } }
  else
    let near := (f - s.twin.quietTotal).natAbs ≤ s.vn Obj.quietBand || s.vn Obj.quietGroup == 0xFF
    match s.twin.quietSince with
    | some _ => if near then s else { s with twin := { s.twin with quietSince := some s.now, quietTotal := f } }
    | none => { s with twin := { s.twin with quietSince := some s.now, quietTotal := f } }

/-- The quiet window is met, QUIET (R407). -/
def State.quiet (s : State) : Bool :=
  match s.twin.quietSince with
  | some b => b + s.vn Obj.quietTime * ms ≤ s.now
  | none => false

/-- HANDBACK_AT for an announcement in the heartbeat sent at `h` (R408): the first period start of the slowest role task at
least 200 µs later. -/
def State.handbackTime (s : State) (h : Nat) : Nat :=
  let p := s.roleTasks.foldl (fun m k => max m (s.vn (Obj.taskPeriod k) * us)) 1
  ceilDiv (h + 200 * us) p * p

/-- QUIET_WINDOW_MET (R407, R408): a preferred, eligible standby announces a handback in its next heartbeat. -/
def execQuietWindowMet (t : Nat) (s : State) : Res :=
  s.run t fun s =>
    let holder := s.twinThere || s.twin.spareHolds
    if s.quiet && s.vn Obj.twinState == 4 && s.v Obj.twinPreferred == 1 && s.twin.eligible && s.twin.handback.isNone && holder then
      let h := (s.now / (50 * us) + 1) * (50 * us)
      { s with twin := { s.twin with handback := some (s.handbackTime h), acked := false } }
    else s

/-- HANDBACK_AT (R408, R409). -/
def execHandbackAt (t : Nat) (s : State) : Res := s.run t State.settleHandback

-- the mirror (R399)

/-- Task `k`, which runs on this device, reads object-table entry `o` (R399). -/
def State.readsEntry (s : State) (k o : Nat) : Bool :=
  let r := s.dictRef o
  s.iterates k && (upto 3).any fun i =>
    let w := s.v (Obj.taskIn k i)
    if r = 0 then field w 28 4 == 1 && field w 0 11 == o
    else (field w 28 4 == 5 && field w 0 24 == r) || (field w 28 4 == 3 && r == refOf (Obj.pgSetpoint (field w 0 5)))

/-- A task reads object-table entry `o`. -/
def State.entryRead (s : State) (o : Nat) : Bool := s.enabledTasks.any fun k => s.readsEntry k o

/-- A mirrored value replaces the local copy of its entry: a data object, or what its dictionary reference names. -/
def State.putMirror (s : State) (o : Nat) (v : Int) : State :=
  let r := s.dictRef o
  if r = 0 then forEach Ch.all s fun s c => s.setDobj c o v
  else
    match findObj (r / 256) (r % 256) with
    | some e =>
      match e.desc.role with
      | .pgSetpoint => s.updGen e.i fun g => { g with pa := v * 2 ^ 32 }
      | .pgVelNow => s.updGen e.i fun g => { g with vx := v * 2 ^ 16 }
      | .pgTargetNow => s.updGen e.i fun g => { g with tgt := v }
      | .intState => s.setR (Obj.intState e.i) v
      | _ => s
    | none => s

/-- A mirrored entry arrives: the twin's value of the object is kept (R283), and on a device that is not the holder it
replaces the local copy at the first period start of a task that reads it, else at the next commit instant. -/
def State.mirrorEntry (s : State) (o : Nat) (v : Int) : State :=
  let r := s.dictRef o
  let s := if r = 0 then s else { s with twin := { s.twin with remote := s.twin.remote.put r 0 v } }
  if s.claims || s.vn Obj.twinState == 0 || s.vn Obj.twinState == 1 then s
  else { s with twin := { s.twin with mirror := s.twin.mirror.put o none (some (v, s.now)) } }

/-- MIRROR_RECEIVE (R399): agreed mirror values by object-table entry. -/
def execMirrorReceive (t : Nat) (entries : List (Nat × Int)) (s : State) : Res :=
  s.run t fun s =>
    if s.beats then forEach (entries.filter fun p => p.1 < 2048 && s.isMirrored p.1) s fun s p => s.mirrorEntry p.1 p.2 else s

/-- The waiting mirrored values of which `p` holds replace their local copies. -/
def State.putWaiting (s : State) (p : Nat → Nat → Bool) : State :=
  let go := fun (x : Nat × Option (Int × Nat)) => match x.2 with
    | some v => p x.1 v.2
    | none => false
  let l := s.twin.mirror.filter go
  let s := { s with twin := { s.twin with mirror := s.twin.mirror.filter fun x => !go x } }
  if s.claims then s
  else forEach l s fun s x => match x.2 with
    | some v => s.putMirror x.1 v.1
    | none => s

/-- Mirrored values that no task reads take effect at a commit instant (R399). -/
def State.applyMirror (s : State) : State := s.putWaiting fun o _ => !s.entryRead o

/-- Mirrored values that task `k` reads, received by its period start, take effect for the iteration that starts there (R399). -/
def State.mirrorFor (s : State) (k : Nat) : State :=
  match s.periodStart k s.now with
  | some v => s.putWaiting fun o at_ => at_ ≤ v && s.readsEntry k o
  | none => s

/-- The entry of an object that no task writes falls due at a commit instant: one of the multiples of 1/RATE s lies in the 100 µs
that end here (R399, log entry 144). -/
def State.rateDue (s : State) (o : Nat) : Bool :=
  let r := field (s.v (Obj.objDesc o)) 24 16
  (s.entryWriter o).isNone && decide ((s.now - 30000) * r / sec < s.now * r / sec)

/-- The mirror entries that no task writes leave at their RATE (R399). -/
def State.mirrorRates (s : State) : State := s.mirrorSend (s.mirrorSet.filter s.rateDue)

-- health reports (R411 to R413)

/-- A feedback fault of the kinds of R450 is in force on a source. -/
def State.sourceFault (s : State) (x : Src) : Bool :=
  s.isBitC x.2.1 x.status 7 || s.isBitC x.2.1 x.status 6 || (x.1 == .port && s.isBitC x.2.1 x.status 8)

/-- STANDBY_DEGRADED (R413): a holder's. -/
def State.standbyDegraded (s : State) : Bool := s.twin.degraded && s.vn Obj.twinState == 3

/-- HR_FAULT_SUMMARY (R412). -/
def State.faultSummary (s : State) : Nat :=
  let chan := Ch.all.any fun c => s.red.inDebug.get c || (s.red.faulty.get c && !(s.vn (Obj.chFaultCause c) == 2 ^ cfSupply))
  let eng := Ch.all.any fun c => s.red.engineFault.get c != 0
  let grp := Ch.all.any fun c => (upto 5).any fun m => (s.grp c m).grpf
  let fb := Ch.all.any fun c => (upto 8).any (fun n => s.sourceFault (.port, c, n)) ||
    (upto 6).any (fun n => s.sourceFault (.sensor, c, n)) || (upto 3).any fun n => s.sourceFault (.resolver, c, n)
  let hp := (upto 2).any fun p => (s.port p).silent
  let fp := s.fab.conflict || Ch.all.any fun c => !(s.plane c).noPath.isEmpty ||
    (s.plane c).degraded.any fun x => x.2 + 10 * ms ≤ s.now
  let tw := s.twin.lost || s.standbyDegraded || s.twin.passiveHeard
  let sup := Ch.all.any s.safe.supply.get
  b2n chan + 2 * b2n eng + 4 * b2n grp + 8 * b2n fb + 16 * b2n hp + 32 * b2n fp + 64 * b2n tw + 128 * b2n sup

/-- The available engines, by channel and number. -/
def State.engines (s : State) : List (Ch × Nat) :=
  let i : PlanIn := ⟨s.clocks, false, false⟩
  Ch.all.flatMap fun c => ((upto 16).filter (s.available i c)).map fun e => (c, e)

/-- HR_SPARE (R411). -/
def State.spareNow (s : State) : Nat :=
  min 65535 (s.engines.foldl (fun a p => a + (s.vn Obj.utilCap - (s.place.plan.util.get p.1).getD p.2 0)) 0)

/-- HR_SLICE_AGE (R411). -/
def State.sliceAge (s : State) : Nat :=
  min 65535 (s.engines.foldl (fun m p => max m ((s.now - (s.life.rot.get p.1).lastSlice.getD p.2 0) / ms)) 0)

/-- The device's own report (R411). -/
def State.ownReport (s : State) : Report :=
  { uid := Config.deviceUid, redund := s.red.state.num, score := s.deviceScore, spare := s.spareNow
    twinState := s.vn Obj.twinState, epoch := s.vn Obj.twinEpoch, faults := s.faultSummary, sliceAge := s.sliceAge
    sliceFails := s.vn Obj.sliceFails, time := s.now }

/-- A report enters the record 0xF100 + x (R411). -/
def State.storeReport (s : State) (x : Nat) (r : Report) : State :=
  let s := ((s.setR (Obj.hrUid x) r.uid).setR (Obj.hrRedundState x) r.redund).setR (Obj.hrDeviceScore x) r.score
  let s := ((s.setR (Obj.hrSpare x) r.spare).setR (Obj.hrTwinState x) r.twinState).setR (Obj.hrEpoch x) r.epoch
  let s := ((s.setR (Obj.hrFaultSummary x) r.faults).setR (Obj.hrSliceAge x) r.sliceAge).setR (Obj.hrSliceFails x) r.sliceFails
  s.setR (Obj.hrTime x) r.time

/-- The bytes of a report, in the order of its record. -/
def reportBytes (r : Report) : List Byte :=
  leBytes 8 r.uid ++ leBytes 2 r.redund ++ leBytes 2 r.score ++ leBytes 2 r.spare ++ leBytes 2 r.twinState ++
    leBytes 4 r.epoch ++ leBytes 4 r.faults ++ leBytes 2 r.sliceAge ++ leBytes 4 r.sliceFails ++ leBytes 8 r.time

/-- HEALTH_REPORT_SEND (R411): every 10 ms. -/
def execHealthReportSend (t : Nat) (s : State) : Res :=
  s.run t fun s =>
    if s.since s.twin.reportAt (10 * ms) then
      let r := s.ownReport
      let s := s.storeReport 0 r
      let s := { s with twin := { s.twin with reportAt := some s.now } }
      if s.twin.paired then forEach s.voters s fun s c => s.sendMsg c 0x0D02 (reportBytes r) else s
    else s

/-- STANDBY_DEGRADED is set or cleared; a twin fault is reported when it is set (R413). -/
def State.setDegraded (s : State) (b : Bool) : State :=
  let was := s.twin.degraded
  let s := { s with twin := { s.twin with degraded := b } }
  if b && !was then s.health clsTwin 0xF101 else s

/-- HEALTH_REPORT_RECEIVE (R411, R413). -/
def execHealthReportReceive (t : Nat) (r : Report) (s : State) : Res :=
  s.run t fun s =>
    if s.twin.paired && r.uid == s.vn Obj.twinPeerUid then
      let risen := s.twin.lastReport.isSome && decide (s.twin.lastFails < r.sliceFails)
      let s := (s.storeReport 1 r)
      let s := { s with twin := { s.twin with lastReport := some s.now, lastFails := r.sliceFails, report := some r } }
      if s.vn Obj.twinState = 3 then
        s.setDegraded (risen || !(r.redund == 1 || r.redund == 2) || decide (r.score < 128) || decide (3000 < r.sliceAge))
      else s
    else s

/-- HEALTH_REPORT_TIMEOUT (R413): no report for 50 ms. -/
def execHealthReportTimeout (t : Nat) (s : State) : Res :=
  s.run t fun s =>
    let last := max s.twin.changedAt (s.twin.lastReport.getD 0)
    if s.vn Obj.twinState = 3 ∧ last + 50 * ms ≤ s.now then s.setDegraded true else s

-- the spare (R410)

/-- The effect of a write to SPARE_PAIR0 or SPARE_PAIR1 (R410). -/
def State.writeSparePair (s : State) (o : Obj) (v : Int) : State :=
  let was := s.isSpare
  let s := s.setR o v
  if s.isSpare && !was then
    ((s.putDesc 0x0D08 (descOf 0 0 0 false true true true)).putDesc 0x0D09 (descOf 0 0 0 true true true true)).setTwinState 8
  else if was && !s.isSpare then
    ((s.putDesc 0x0D08 (streamDflt 0x0D08)).putDesc 0x0D09 (streamDflt 0x0D09)).setTwinState 0
  else s

/-- SPARE_TAKEOVER (R403, R410): SPARE_DELAY after the spare's channels have declared the holder lost. -/
def execSpareTakeover (t : Nat) (s : State) : Res :=
  s.run t fun s =>
    if s.isSpare && s.vn Obj.twinState == 8 && s.twin.lost && s.twin.lostAt + s.vn Obj.spareDelay * ms ≤ s.now && s.soundState then
      s.takeOwnership 9
    else s

end Sys2Proof.Machine
end

