-- ==== Sys2Proof/Machine/SafetyFn.lean ====
section
/-! DEFINITION. Chapter 14: safe inputs, off-pulse tests, fault reset, password and supply monitors (R417 to R449). The
writes and reads of the host stand in `Machine/HostCmds.lean`. -/

namespace Sys2Proof.Machine

-- safe inputs (R417 to R421)

/-- Safe input pair `i` of channel `c`. -/
def State.pair (s : State) (c : Ch) (i : Nat) : SafePair := (s.safe.pairs.get c).getD i {}

/-- `s` with a safe input pair changed by `f`. -/
def State.updPair (s : State) (c : Ch) (i : Nat) (f : SafePair → SafePair) : State :=
  { s with safe := { s.safe with pairs := s.safe.pairs.upd c fun t => Tbl.modify t i {} f } }

/-- The device-wide number of a pair (R417). -/
def pairNum (c : Ch) (i : Nat) : Nat := 6 * c.num + i

/-- A run of equal samples with one more sample (R417). -/
def runOf (r : Bool × Nat) (v : Bool) : Bool × Nat := if r.2 ≠ 0 ∧ r.1 = v then (v, r.2 + 1) else (v, 1)

/-- The accepted level after a run (R417). -/
def acceptRun (old : Option Bool) (r : Bool × Nat) (n : Nat) : Option Bool := if n ≤ r.2 then some r.1 else old

/-- Whether the accepted levels of a pair agree (R418); none where the pair is off or an input has no level yet. -/
def State.pairAgrees (s : State) (c : Ch) (i : Nat) : Option Bool :=
  let p := s.pair c i
  match s.vn (Obj.siMode (pairNum c i)), p.inA, p.inB with
  | 1, some a, some b => some (a == b)
  | 2, some a, some b => some (a != b)
  | _, _, _ => none

/-- The pair is sampled now (R417, R453). -/
def State.pairSampled (s : State) (c : Ch) (i : Nat) : Bool :=
  s.arch.started.get c && (i == 0 || (s.ioLive c && s.power.state == .run))

/-- DISCREPANCY is latched and recorded (R419). -/
def State.latchDiscrepancy (s : State) (c : Ch) (i : Nat) : State :=
  if (s.pair c i).discrepancy then s
  else (s.updPair c i fun p => { p with discrepancy := true }).logC c 0x0401 (0x7020 + pairNum c i) [BitVec.ofNat 8 (pairNum c i)]

/-- VALUE follows the pair's state (R418); a change is stamped (R420, R422). -/
def State.setPairValue (s : State) (c : Ch) (i : Nat) : State :=
  let p := s.pair c i
  let v := s.pairAgrees c i == some true && p.inA == some true && !p.discrepancy && !p.lost
  if v = p.value then s
  else (s.updPair c i fun p => { p with value := v, stamps := (s.now, v) :: p.stamps.take 15 }).setR
    (Obj.siLastChange (pairNum c i)) s.now

/-- The end of a disagreement of `d` ticks (R419). -/
def State.endDisagreement (s : State) (c : Ch) (i d : Nat) : State :=
  let n := pairNum c i
  let near := !(s.pair c i).discrepancy && decide (s.vn (Obj.siDiscTime n) * 100 * us < 2 * d)
  let s := s.setR (Obj.siDiscMax n) (max (s.v (Obj.siDiscMax n)) (min 65535 (d / 3000) : Nat))
  let s := s.updPair c i fun p => { p with start := none, nearMiss := near }
  if near then s.bumpR (Obj.siNearMissCount n) else s

/-- The judgement of a pair at a sample (R419). -/
def State.judgePair (s : State) (c : Ch) (i : Nat) : State :=
  let p := s.pair c i
  match s.pairAgrees c i with
  | some false =>
    let b := p.start.getD s.now
    let s := s.updPair c i fun p => { p with start := some b }
    if b + s.vn (Obj.siDiscTime (pairNum c i)) * 100 * us < s.now then s.latchDiscrepancy c i else s
  | some true =>
    match p.start with
    | some b => s.endDisagreement c i (s.now - b)
    | none => s
  | none => s

/-- SAFE_INPUT_SAMPLE (R417 to R421): at every multiple of 10 µs. -/
def execSafeInputSample (t : Nat) (c : Ch) (i : Fin 6) (a b : Bool) (s : State) : Res :=
  s.run t fun s =>
    if !(s.now % 3000 == 0 && s.pairSampled c i) then s
    else s.once (markPair c i) fun s =>
      let n := s.vn (Obj.siFilter (pairNum c i))
      let s := s.updPair c i fun p =>
        let ra := runOf p.runA a
        let rb := runOf p.runB b
        let x := acceptRun p.inA ra n
        let y := acceptRun p.inB rb n
        { p with runA := ra, runB := rb, inA := x, inB := y, lost := x.isNone || y.isNone || s.red.faulty.get c }
      (s.judgePair c i).setPairValue c i

/-- DISCREPANCY (R419): a disagreement has lasted beyond SI_DISC_TIME. -/
def execDiscrepancy (t : Nat) (c : Ch) (i : Fin 6) (s : State) : Res :=
  s.run t fun s =>
    match (s.pair c i).start with
    | some b =>
      if b + s.vn (Obj.siDiscTime (pairNum c i)) * 100 * us < s.now ∧ s.pairAgrees c i = some false then
        (s.latchDiscrepancy c i).setPairValue c i
      else s
    | none => s

/-- The effect of a write to SI_MODE (R418): 0 discards a running disagreement. -/
def State.writeSiMode (s : State) (n : Nat) (v : Int) : State :=
  let s := s.setR (Obj.siMode n) v
  let c := chOf (n / 6)
  let s := if v = 0 then s.updPair c (n % 6) fun p => { p with start := none } else s
  if v = 0 then s.setPairValue c (n % 6) else s

/-- The VALUE of a pair that every channel uses at a commit instant (R420): the last one stamped at least 5 µs before. -/
def State.commitValue (s : State) (c : Ch) (i : Nat) : Bool :=
  match (s.pair c i).stamps.find? fun x => x.1 + 5 * us ≤ s.now with
  | some x => x.2
  | none => false

/-- The safe inputs act at a commit instant (R420): SI_REACTION on every axis of the mask while VALUE is 0. -/
def State.safeInputs (s : State) : State :=
  if Ch.all.all fun c => s.vn (Obj.suStep c) < 2 then s
  else forEach Ch.all s fun s c => forEach (upto 6) s fun s i =>
    let n := pairNum c i
    if s.v (Obj.siAxisMask n) = 0 ∨ s.v (Obj.siReaction n) = 0 then s
    else if s.commitValue c i then s
    else forEach ((upto 32).filter fun a => s.isBit (Obj.siAxisMask n) a) s fun s a => s.react a causeSafeInput (s.vn (Obj.siReaction n))

-- off-pulse tests (R424 to R429)

/-- An output is held by the permit latch (R256). -/
def State.permitHeld (s : State) (c : Ch) (j : Nat) : Bool := 4 ≤ j && (s.arm c (j - 4)).held

/-- A readback fault of the output is latched (R428). -/
def State.permitFault (s : State) (c : Ch) (j : Nat) : Bool := s.isBit (Obj.opFaultMap c) j

/-- A pulse of the output may start (R425). -/
def State.mayPulse (s : State) (c : Ch) (j : Nat) : Bool :=
  s.demanded c j && !s.permitHeld c j && !s.permitFault c j && (s.test c j).pulse.isNone

/-- The axis on which a latched readback fault acts, with the reaction (R428). -/
def State.permitTarget (s : State) (c : Ch) (j : Nat) : Option Nat × Nat :=
  if j < 4 then (s.axisOf c j, 3) else (s.axisOf c.next (j - 4), s.vn Obj.permitArmReaction)

/-- A readback fault is latched (R428). -/
def State.latchPermit (s : State) (c : Ch) (j : Nat) : State :=
  let s := s.updTest c j fun x => { x with fail := none, after := none }
  let s := ((s.bitR (Obj.opFaultMap c) j true).bumpR (Obj.opFails c)).setR (Obj.opLastFail c) s.now
  let s := s.logC c 0x0402 (0x7048 + c.num) [BitVec.ofNat 8 (8 * c.num + j)]
  match s.permitTarget c j with
  | (some n, code) => s.react n causePermit code
  | (none, _) => s

/-- A test has failed (R428): the first failure is tested again 1 ms later, the second latches the fault. -/
def State.failTest (s : State) (c : Ch) (j : Nat) (pulse : Bool) : State :=
  match (s.test c j).fail with
  | none => s.updTest c j fun x => { x with fail := some (pulse, s.now + ms) }
  | some _ => s.latchPermit c j

/-- A pulse that began at `b` has passed (R428, R429): a run of failed pulses ends where it is their retest. -/
def State.passPulse (s : State) (c : Ch) (j b : Nat) : State :=
  let s := s.updTest c j fun x =>
    { x with
      fail := match x.fail with
        | some (true, d) => if d ≤ b then none else x.fail
        | f => f
      lastPass := s.now }
  s.bitR (Obj.opUntestedMap c) j false

/-- A pulse that began at `b` has failed (R428): the first failure, or the failure of the retest; a run of failures outside
a pulse goes on by its own retest. -/
def State.failPulse (s : State) (c : Ch) (j b : Nat) : State :=
  match (s.test c j).fail with
  | none => s.failTest c j true
  | some (true, d) => if d ≤ b then s.failTest c j true else s
  | some (false, _) => s

/-- An ARMRB input shows a level: a low one ends its qualification, which starts again with the next high one (R253). -/
def Arm.read (x : Arm) (now : Nat) (v : Bool) : Arm :=
  if v then { x with rb := true, rbHigh := if x.rb then x.rbHigh else some now }
  else { x with rb := false, rbHigh := none, qualified := false }

/-- The readback of an output shows a level. -/
def State.setReadback (s : State) (c : Ch) (j : Nat) (v : Bool) : State :=
  if j < 4 then s.updSlot c j fun x => { x with enrb := v } else s.updArm c (j - 4) fun x => x.read s.now v

/-- OFF_PULSE_START (R424, R425). -/
def execOffPulseStart (t : Nat) (c : Ch) (j : Fin 8) (s : State) : Res :=
  s.run t fun s =>
    if s.now % 15000000 = (8 * c.num + j.val) * 625000 ∧ s.mayPulse c j = true then
      s.updTest c j fun x => { x with pulse := some s.now, after := none }
    else s

/-- OFF_PULSE_END (R426, R427): `readback` is the level in the last 20 ns of the pulse; it passes when low. -/
def execOffPulseEnd (t : Nat) (c : Ch) (j : Fin 8) (readback : Bool) (s : State) : Res :=
  s.run t fun s =>
    match (s.test c j).pulse with
    | some b =>
      if b + s.vn Obj.opWidth ≤ s.now then
        let s := s.updTest c j fun x => { x with pulse := none, changed := s.now }
        if readback then s.failPulse c j b else s.passPulse c j b
      else s
    | none => s

/-- READBACK_MISMATCH (R427): outside a pulse, the readback has differed from the demand for 1 µs, the check's suspension
apart. -/
def execReadbackMismatch (t : Nat) (c : Ch) (j : Fin 8) (s : State) : Res :=
  s.run t fun s =>
    let x := s.test c j
    if x.pulse.isSome || s.permitFault c j || s.now < x.changed + 2 * us || !s.arch.started.get c || !s.ioLive c then s
    else
      let s := s.setReadback c j (!s.demanded c j)
      if x.fail.isSome then s else s.failTest c j false

/-- An extra pulse of a retest starts now, where R425 lets it; OFF_PULSE_END judges it (R428). -/
def State.extraPulse (s : State) (c : Ch) (j : Nat) : State :=
  if s.mayPulse c j then s.updTest c j fun x => { x with pulse := some s.now, after := none } else s

/-- OFF_PULSE_RETEST (R428): the retest that is due, or the one after a reset. A failed pulse is repeated by an extra pulse
while the output is demanded high, else by the outside-pulse check; that check is timed afresh, outside its suspension, and
`readback` is the level that it saw throughout. -/
def execOffPulseRetest (t : Nat) (c : Ch) (j : Fin 8) (readback : Bool) (s : State) : Res :=
  s.run t fun s =>
    let x := s.test c j
    match x.fail, x.after with
    | some (kind, d), _ =>
      if s.now < d || x.pulse.isSome then s
      else if kind && s.demanded c j then s.extraPulse c j
      else if s.now < d + us || s.now < x.changed + 2 * us || !s.arch.started.get c || !s.ioLive c then s
      else
        let s := s.setReadback c j readback
        if readback = s.demanded c j then s.updTest c j fun x => { x with fail := none } else s.failTest c j false
    | none, some _ => s.extraPulse c j
    | none, none => s

/-- PERMIT_UNTESTED (R429): demanded high for 100 ms without a passed pulse. The report has no class of R412, and number 8
stands for it. -/
def execPermitUntested (t : Nat) (c : Ch) (j : Fin 8) (s : State) : Res :=
  s.run t fun s =>
    if s.demanded c j && (s.test c j).lastPass + 100 * ms ≤ s.now && !s.isBit (Obj.opUntestedMap c) j then
      (s.bitR (Obj.opUntestedMap c) j true).health 8 (0x7048 + c.num)
    else s

-- fault reset (R432 to R435)

/-- A fault reset (R434): 0 = pin, 1 = object. -/
def State.faultReset (s : State) (kind : Nat) : State :=
  let s := forEach Ch.all s fun s c => forEach (upto 6) s fun s i =>
    if (s.pair c i).discrepancy && (s.pairAgrees c i == some true || s.v (Obj.siMode (pairNum c i)) == 0) then
      s.updPair c i fun p => { p with discrepancy := false }
    else s
  let s := forEach Ch.all s fun s c =>
    (forEach (upto 8) s fun s j =>
      if s.permitFault c j then s.updTest c j fun x => { x with owed := true } else s).setR (Obj.opFaultMap c) 0
  let s := s.bitR Obj.resetStatus 2 false
  ((s.bumpR Obj.resetCount).setR Obj.lastResetTime s.now).logDev 0x0403 0x7060 [BitVec.ofNat 8 kind]

/-- `s` with the FRST pin of a channel changed by `f`. -/
def State.updFrst (s : State) (c : Ch) (f : Frst → Frst) : State :=
  { s with safe := { s.safe with frst := s.safe.frst.upd c f } }

/-- RESET_STUCK_PIN shows a stuck pin of any channel (R435). -/
def State.showStuck (s : State) : State := s.bitR Obj.resetStatus 0 (Ch.all.any fun c => (s.safe.frst.get c).stuck)

/-- The high level whose first sample was taken at `rise` has been accepted by three equal samples (R432); the channel
samples FRST, and the pin's last accepted fall came before. -/
def State.frstHigh (s : State) (c : Ch) (rise : Nat) : Bool :=
  let x := s.safe.frst.get c
  s.arch.started.get c && s.ioLive c && rise % 3000 == 0 && x.from_ ≤ rise && rise + 6000 ≤ s.now &&
    match x.lastFall with
    | some f => decide (f < rise)
    | none => true

/-- No low level can have been accepted before the high level of `rise` since sampling started (R432): fewer than three
samples lie between. -/
def State.frstFirst (s : State) (c : Ch) (rise : Nat) : Bool :=
  decide (rise < ((s.safe.frst.get c).from_ + 2999) / 3000 * 3000 + 9000)

/-- FRST_PULSE (R432, R435): the accepted falling edge of a high level whose first sample was taken at `rise`, and which
counts from its third; `initial` marks a high level that was the first one accepted after sampling started. -/
def execFrstPulse (t : Nat) (c : Ch) (rise : Nat) (initial : Bool) (s : State) : Res :=
  s.run t fun s =>
    if !(s.now % 3000 == 0 && s.frstHigh c rise && rise + 9000 ≤ s.now) then s
    else
      let first := initial || s.frstFirst c rise
      let stuck := (s.safe.frst.get c).stuck
      let s := s.updFrst c fun x => { x with stuck := false, lastFall := some s.now }
      if stuck then s.showStuck
      else if first then s
      else if s.now < rise + 6000 + ms || rise + 6000 + 5 * sec < s.now then s.bumpR Obj.resetRejects
      else s.updFrst c fun x => { x with qualified := some s.now }

/-- The falling edges of two channels lie within 10 ms of one another (R432). -/
def nearEdges (x y : Nat) : Bool := x ≤ y + 10 * ms && y ≤ x + 10 * ms

/-- The channels whose qualifying pulses agree with that of `c` (R432). -/
def State.pulseSet (s : State) (c : Ch) : List Ch :=
  match (s.safe.frst.get c).qualified with
  | some x => s.voters.filter fun d => match (s.safe.frst.get d).qualified with
    | some y => decide (x ≤ y) && nearEdges x y
    | none => false
  | none => []

/-- The channels of V that agree on a pulse, if they form a majority (R432): the largest set of edges within 10 ms. -/
def State.agreedPulse (s : State) : Option (List Ch) :=
  (s.voters.map s.pulseSet).foldl (fun b l =>
    if !s.isMajority (maskOf l) then b
    else match b with
      | some m => if m.length < l.length then some l else some m
      | none => some l) none

/-- PIN_RESET (R432): at a commit instant after agreeing pulses; a channel of V without such a pulse disagrees. Pulses
outvoted are counted. -/
def execPinReset (t : Nat) (s : State) : Res :=
  s.run t fun s =>
    if !isCommit s.now then s
    else match s.agreedPulse with
      | some l =>
        let out := s.voters.filter fun c => !l.contains c
        let lone := out.filter fun c => (s.safe.frst.get c).qualified.isSome
        let s := s.faultReset 0
        let s := forEach Ch.all s fun s c => s.updFrst c fun x => { x with qualified := none }
        let s := if lone.isEmpty then s else s.bumpR Obj.resetRejects lone.length
        if out.isEmpty then s else s.bitR Obj.resetStatus 2 true
      | none =>
        let old := Ch.all.filter fun c => match (s.safe.frst.get c).qualified with
          | some x => x + 10 * ms < s.now
          | none => false
        forEach old s fun s c => (s.updFrst c fun x => { x with qualified := none }).bumpR Obj.resetRejects

/-- The effect of a write to FAULT_RESET (R433, R435). -/
def State.writeFaultReset (s : State) (v : Int) : State :=
  if s.v Obj.faultReset = v then s
  else
    let s := s.setR Obj.faultReset v
    if v = 1 then { s with safe := { s.safe with objHigh := some s.now } }
    else
      let b := s.safe.objHigh
      let s := { s with safe := { s.safe with objHigh := none } }
      if s.isBit Obj.resetStatus 1 then s.bitR Obj.resetStatus 1 false
      else match b with
        | some x => if s.now ≤ x + 5 * sec then s.faultReset 1 else s.bumpR Obj.resetRejects
        | none => s

/-- RESET_STUCK (R435): the accepted high level of a pin, with its first sample's time, or the object's value 1, has lasted
for more than 5 s. -/
def execResetStuck (t : Nat) (pin : Option (Ch × Nat)) (s : State) : Res :=
  s.run t fun s =>
    match pin with
    | some (c, rise) =>
      if s.frstHigh c rise && decide (rise + 6000 + 5 * sec < s.now) && !(s.safe.frst.get c).stuck then
        ((s.updFrst c fun x => { x with stuck := true, qualified := none }).showStuck).bumpR Obj.resetRejects
      else s
    | none =>
      match s.safe.objHigh with
      | some b =>
        if b + 5 * sec < s.now ∧ s.isBit Obj.resetStatus 1 = false then
          (s.bitR Obj.resetStatus 1 true).bumpR Obj.resetRejects
        else s
      | none => s

-- the safety password (R438 to R441)

/-- PW_SET (R447). -/
def State.pwIsSet (s : State) : Bool := !s.safe.pwHash.isEmpty

/-- The unlock of a carrier is open (R439, R441): without a password, in BLANK, MFG and DEV alone. -/
def State.unlocked (s : State) (cr : Carrier) : Bool :=
  if s.pwIsSet then (s.safe.unlocks.getD cr.num none).isSome else s.life.state ≤ 2

/-- The stored form of a password (R438). -/
def pwHashOf (pw : List Byte) : List Byte := sha256 (Config.pwSalt.toList ++ pw)

/-- A lock-out runs (R440). -/
def State.lockedOut (s : State) : Bool :=
  match s.safe.lockEnd with
  | some e => s.now < e
  | none => false

/-- A right PW_ENTER (R439): the carrier's unlock opens. -/
def State.openUnlock (s : State) (cr : Carrier) : State :=
  let s := { s with safe := { s.safe with unlocks := s.safe.unlocks.put cr.num none (some s.now), lockLen := 0 } }
  s.setR Obj.pwFailCount 0

/-- A wrong PW_ENTER (R439, R440). -/
def State.wrongPassword (s : State) : State :=
  let n := s.vn Obj.pwFailCount + 1
  let s := s.setR Obj.pwFailCount (min n 65535 : Nat)
  if 5 ≤ n then
    let len := if s.safe.lockLen = 0 then 60 else min 61440 (2 * s.safe.lockLen)
    { s with safe := { s.safe with lockLen := len, lockEnd := some (s.now + len * sec) } }
  else s

/-- PW_NEW (R441): every unlock but the writer's closes, and the change is logged with secret values. A writer whose unlock
counted as open without a password keeps it open. -/
def State.newPassword (s : State) (cr : Carrier) (pw : List Byte) : State :=
  let own := if s.unlocked cr then some ((s.safe.unlocks.getD cr.num none).getD s.now) else none
  let s := { s with safe := { s.safe with
    pwHash := pwHashOf pw, unlocks := Tbl.put [] cr.num none own } }
  s.logChange 0x7080 2 cr.num [] pw true

/-- The unlock of a carrier closes (R439). -/
def State.closeUnlock (s : State) (cr : Carrier) : State :=
  { s with safe := { s.safe with unlocks := s.safe.unlocks.put cr.num none none } }

/-- UNLOCK_IDLE_EXPIRY (R439). -/
def execUnlockIdleExpiry (t : Nat) (cr : Carrier) (s : State) : Res :=
  s.run t fun s =>
    match s.safe.unlocks.getD cr.num none with
    | some b => if b + s.vn Obj.unlockIdle * sec ≤ s.now then s.closeUnlock cr else s
    | none => s

/-- LOCKOUT_END (R440). -/
def execLockoutEnd (t : Nat) (s : State) : Res :=
  s.run t fun s =>
    match s.safe.lockEnd with
    | some e => if e ≤ s.now then { s with safe := { s.safe with lockEnd := none } } else s
    | none => s

-- supply (R448)

/-- The monitor window of VDDC at a performance level, in millivolts (R530). -/
def vddcWindow (n : Nat) : Nat × Nat := if n = 3 then (800, 900) else if n = 2 then (755, 845) else if n = 1 then (710, 790) else (680, 760)

/-- A voltage lies in the VDDC window in force (R448, R471): that of PL_NOW, with that of the other level during a change. After
a lowering PL_NOW is the new level, and the old one is the highest whose voltage was stated before. -/
def State.vddcOk (s : State) (c : Ch) (mv : Nat) : Bool :=
  let inW := fun (w : Nat × Nat) => decide (w.1 ≤ mv) && decide (mv ≤ w.2)
  inW (vddcWindow (s.vn (Obj.plNow c))) ||
    match s.power.changes.get c with
    | some x => decide (x.phase < 4) && (inW (vddcWindow x.target) || inW (vddcWindow x.old))
    | none => false

/-- The voltage of a rail, in millivolts, lies in its monitor window (R448, R530): VDDC, VDDIO, VDDA, VDDS and VDDAON. -/
def State.railOk (s : State) (c : Ch) (rail mv : Nat) : Bool :=
  match rail with
  | 0 => s.vddcOk c mv
  | 1 => 3000 ≤ mv && mv ≤ 3600
  | 2 => 3000 ≤ mv && mv ≤ 3600
  | 3 => 850 ≤ mv && mv ≤ 950
  | _ => 1620 ≤ mv && mv ≤ 1980

/-- A rail is shown outside its window now, or within it (R449). -/
def State.showRail (s : State) (c : Ch) (rail : Nat) (out : Bool) : State :=
  let f := fun (m : Nat) => if out == bit (m : Int) rail then m else if out then m + 2 ^ rail else m - 2 ^ rail
  { s with safe := { s.safe with rails := s.safe.rails.upd c f } }

/-- SUPPLY_FAULT (R448, R530): the monitor's reading of a rail in millivolts, and since when it has stood on that side of its
window. Outside for more than 2 µs latches SUPPLY_FAULT and declares the channel faulty; within, only the rail's present state
changes (log entry 146). -/
def execSupplyFault (t : Nat) (c : Ch) (rail : Fin 5) (mv since : Nat) (s : State) : Res :=
  s.run t fun s =>
    if !s.arch.alive.get c then s
    else if s.railOk c rail mv then s.showRail c rail false
    else if s.now ≤ since + 2 * us then s
    else
      let s := s.showRail c rail true
      let s := { s with safe := { s.safe with supply := s.safe.supply.set c true } }
      s.channelFault c cfSupply

end Sys2Proof.Machine
end

