-- ==== Sys2Proof/Machine/Power.lean ====
section
/-! DEFINITION. Chapter 15: NAP, RETAIN and PARK, wakes, retention, performance levels and the TS-2416 map
(R453 to R476). Writes of its objects stand in `Machine/HostCmds.lean`. -/

namespace Sys2Proof.Machine

/-- `s` with its power record changed. -/
def State.updPower (s : State) (f : Power → Power) : State := { s with power := f s.power }

/-- RETAIN is 1 and PARK is 2 (R473, R475). -/
def PwrState.num : PwrState → Nat
  | .run => 0
  | .retain => 1
  | .park => 2

-- NAP (R454)

/-- No iteration of a task on engine `e` of channel `c` is released and unfinished. -/
def State.engineIdle (s : State) (c : Ch) (e : Nat) : Bool :=
  s.enabledTasks.all fun k => !(s.siteIn k c && (s.task k).engines.get c == e && ((s.task k).rel.get c).isSome)

/-- NAP_ENTRY (R454): no iteration has started on the engine for NAP_IDLE, none is released, and SLEEP_ENABLE permits. -/
def execNapEntry (t : Nat) (c : Ch) (e : Fin 16) (s : State) : Res :=
  s.run t fun s =>
    let used := (s.power.used.get c).getD e 0
    if s.isBit Obj.sleepEnable 0 && s.power.ce && s.arch.started.get c && !bit (s.power.nap.get c : Int) e && !s.inTest c e &&
        s.engineIdle c e && used + s.vn Obj.napIdle * us ≤ s.now then
      s.updPower fun p => { p with nap := p.nap.upd c (· + 2 ^ e.val) }
    else s

/-- An engine has a cause to leave NAP (R454): a resident task, a state copy on its way to the channel, or a turn on it. -/
def State.napCause (s : State) (c : Ch) (e : Nat) : Bool :=
  (s.enabledTasks.any fun k => s.siteIn k c && (s.task k).engines.get c == e) || s.inTest c e ||
    s.arch.queue.any fun m => m.dst == c && m.cls == .copy

/-- NAP_WAKE (R454): the engine's scheduled wake, or a state copy addressed to it. -/
def execNapWake (t : Nat) (c : Ch) (e : Fin 16) (s : State) : Res :=
  s.run t fun s => if s.napCause c e then s.wakeEngine c e else s

-- requests and their evaluation (R455, R456, R458, R466)

/-- A turn of R481 is in progress in some channel. -/
def State.turnRuns (s : State) : Bool := Ch.all.any fun c => (s.life.rot.get c).turn.isSome

/-- Block AXIS refuses (R456). -/
def State.axisRefuses (s : State) : Bool :=
  let s := s.settleSteps
  (Ch.all.any fun c => (upto 4).any fun k => (s.slot c k).en) ||
    ((upto 32).any fun n => (s.gen n).moves || (s.gen n).mode == .settling || (s.gen n).pend.isSome) ||
    Ch.all.any fun c => (upto 8).any fun n => s.g c (Obj.fpMode c n) == 4 && s.stepsDue c n != 0

/-- Block TWIN refuses (R456). -/
def State.twinRefuses (s : State) : Bool :=
  s.twin.paired && (s.vn Obj.twinState == 1 || s.vn Obj.twinState == 2 || s.twin.handback.isSome ||
    s.twin.peerHandback.isSome || s.now < s.twin.changedAt + 10 * ms)

/-- Block SLUICE refuses (R456): a semaphore is held, or a group is in HOLD or RAMP. -/
def State.sluiceRefuses (s : State) : Bool :=
  (upto 16).any fun g => (s.sem g).holder.isSome || (s.sem g).lapse == 1 || (s.sem g).lapse == 2

/-- Block PLACEMENT refuses (R456). -/
def State.placementRefuses (s : State) : Bool :=
  s.place.run.isSome || s.place.trig.isSome || (s.tasks.any fun p => p.2.move.isSome) || s.axes.any fun p => p.2.handover != 0

/-- A change of the performance level is in progress in channel `c` (R456, R466). -/
def State.plBusy (s : State) (c : Ch) : Bool :=
  match s.power.changes.get c with
  | some x => x.phase < 3
  | none => false

/-- The TS-2416 map holds a domain at ON (R472). -/
def State.compatOn (s : State) : Bool := (upto 6).any fun d => s.v (Obj.domainMode d) == 0

/-- COMPAT_ACTIVE (R472). -/
def State.compatActive (s : State) : Bool := (upto 6).any fun d => s.v (Obj.domainMode d) != 3

/-- The IDs of the blocks that refuse, in table order (R456). -/
def State.refusers (s : State) : List Nat :=
  let l : List (Nat × Bool) := [(1, s.axisRefuses), (2, s.turnRuns), (3, s.twinRefuses),
    (4, Ch.all.any fun c => (s.sed.get c).copy.isSome), (5, s.sluiceRefuses), (6, s.placementRefuses),
    (7, s.kdp.store.isSome), (8, !s.kdp.transfers.isEmpty), (9, s.compatOn), (10, Ch.all.any s.plBusy)]
  (l.filter (·.2)).map (·.1)

/-- A refusal is recorded (R456, R473). -/
def State.recordRefusal (s : State) (target : PwrState) (ids : List Nat) : State :=
  let map := ids.foldl (fun m i => withBit m (i - 1) true) (s.v Obj.refuserMap)
  let s := ((s.bumpR Obj.refusalCount).setR Obj.refuserMap map).setR Obj.lastRefuser ((ids.headD 0 : Nat) : Int)
  (s.setR Obj.lastRefusedState (target.num : Nat)).setR Obj.lastRefusalTime s.now

/-- The idle condition of a timer request holds (R455). -/
def State.idleFor (s : State) (target : PwrState) : Bool :=
  match target with
  | .retain => s.isBit Obj.sleepEnable 1 && s.power.idleFrom + s.vn Obj.retainIdle * ms ≤ s.now
  | .park => s.isBit Obj.sleepEnable 2 && s.v Obj.vehicleParked == 1 && s.power.idleFrom + s.vn Obj.parkIdle * sec ≤ s.now
  | .run => false

/-- The next evaluation of a refused timer request: after 10 ms, or after 1 s in RETAIN (R456, R458). -/
def State.setAgain (s : State) (target : PwrState) (v : Option Nat) : State :=
  s.updPower fun p => match target with
    | .retain => { p with againRetain := v }
    | _ => { p with againPark := v }

/-- The device may go from its state to `target`. -/
def State.maySleep (s : State) (target : PwrState) : Bool :=
  match s.power.state, target with
  | .run, .retain => true
  | .run, .park => true
  | .retain, .park => true
  | _, _ => false

/-- A refused request leaves a device in RETAIN there, with COM off again (R458). -/
def State.stayAsleep (s : State) : State :=
  if s.power.state = .retain ∧ s.power.waking = false then s.updPower fun p => { p with com := false } else s

/-- A request is evaluated (R456): the entry begins, or the refusal is recorded. A request that SLICE alone refuses waits
for the end of the turn. -/
def State.judgeSleep (s : State) (target : PwrState) (timer : Bool) : State :=
  if !s.maySleep target || s.power.entering.isSome || s.power.waking then s
  else
    let ids := s.refusers
    if ids.isEmpty then
      s.updPower fun p => { p with entering := some target, sleptAt := s.now, sliceWait := none, againRetain := none
                                   againPark := none }
    else
      let s := s.recordRefusal target ids
      let s := s.updPower fun p => { p with sliceWait := if ids == [2] then some (target, timer) else none }
      let s := if timer then s.setAgain target (some (s.now + if s.power.state = .retain then sec else 10 * ms)) else s
      s.stayAsleep

/-- The evaluation at a commit instant of a request that waits for it (R456). -/
def State.evalSleep (s : State) : State :=
  match s.power.request with
  | none => s
  | some (target, timer) => (s.updPower fun p => { p with request := none }).judgeSleep target timer

/-- A request for RETAIN or PARK (R455, R466): during a transition it waits, and a newer one replaces it. In RETAIN the COM
domain is brought up for the evaluation at a later commit instant (R458). -/
def State.askSleep (s : State) (target : PwrState) (timer : Bool) : State :=
  if s.power.entering.isSome || s.power.waking then s.updPower fun p => { p with queued := some (target, timer) }
  else
    let s := s.updPower fun p => { p with request := some (target, timer) }
    if s.power.state = .retain then s.updPower fun p => { p with com := true }
    else if isCommit s.now then s.evalSleep
    else s

/-- RETAIN_IDLE_EXPIRY (R455). A device in STARTUP is not yet in RUN (log entry 18). -/
def execRetainIdleExpiry (t : Nat) (s : State) : Res :=
  s.run t fun s =>
    if s.power.state = .run ∧ s.red.state ≠ .startup ∧ s.idleFor .retain = true ∧ s.power.againRetain.isNone = true then
      s.askSleep .retain true
    else s

/-- PARK_IDLE_EXPIRY (R455, R458): from RUN, or in RETAIN with the evaluation at the next commit instant. -/
def execParkIdleExpiry (t : Nat) (s : State) : Res :=
  s.run t fun s =>
    if s.power.state ≠ .park ∧ s.red.state ≠ .startup ∧ s.idleFor .park = true ∧ s.power.againPark.isNone = true ∧
        s.power.request.isNone = true then
      s.askSleep .park true
    else s

/-- The effect of PWR_REQUEST (R455). -/
def State.writePwrRequest (s : State) (v : Int) : State := s.askSleep (if v = 1 then .retain else .park) false

/-- A refused timer request of a state is due again; it ends with its idle condition (R456, R458). -/
def State.againDue (s : State) (target : PwrState) (due : Option Nat) : State :=
  match due with
  | none => s
  | some b =>
    if !s.idleFor target then s.setAgain target none
    else if s.now < b then s
    else
      let s := s.setAgain target none
      if s.power.state = .retain then s.askSleep target true else s.judgeSleep target true

/-- SLEEP_REEVALUATION (R456, R458): at a commit instant, a request held by SLICE alone once no turn runs, and timer
requests whose interval has passed. -/
def execSleepReevaluation (t : Nat) (s : State) : Res :=
  s.run t fun s =>
    if !isCommit s.now then s
    else
      let s := match s.power.sliceWait with
        | some (target, timer) =>
          if s.turnRuns then s
          else
            let s := s.updPower fun p => { p with sliceWait := none }
            if !timer || s.idleFor target then s.judgeSleep target timer else s
        | none => s
      let s := s.evalSleep
      let s := s.againDue .park s.power.againPark
      s.againDue .retain s.power.againRetain

-- entry (R457)

/-- The inputs of safe pairs 1 to 5 of a channel are to be accepted anew (R421). -/
def State.forgetInputs (s : State) (c : Ch) : State :=
  forEach [1, 2, 3, 4, 5] (s.loseSafeInputs c 1) fun s i => s.updPair c i fun p =>
    { p with inA := none, inB := none, runA := (false, 0), runB := (false, 0), start := none }

/-- The lanes of a channel are off (R457 step 3): fabric lanes are DOWN, and what the link layer held is gone. -/
def State.lanesOff (s : State) (c : Ch) : State :=
  let s := forEach (upto 4) s fun s l => if s.laneOn c l then s.updLane c l fun x => { x with st := laneDown } else s
  s.updPlane c fun p => { p with lsas := [], lsaDue := true, inbox := [], ctxs := [], parts := [], degraded := [] }

/-- Requests, frames and messages on their way end with the lanes (R457 step 3, R460). -/
def State.dropTraffic (s : State) : State :=
  let s := s.setR Obj.hostLaneStatus 0
  let s := { s with
    kdp := { s.kdp with copies := [], ready := [], stalled := [], proxied := [] }
    fab := { s.fab with agree := [] } }
  forEach [0, 1] s fun s p => s.updPort p fun x => { x with copies := [], frames := [], running := false }

/-- Steps 1 to 3 of the entry in one channel (R457). -/
def State.sleepChannel (s : State) (c : Ch) : State :=
  ((forEach (upto 4) s fun s k => s.stopCounter c k).lanesOff c).forgetInputs c

/-- The deepest state of the TS-2416 map: RETAIN counts 1 and PARK counts OFF, 2 (R472, R476). -/
def State.noteDeepest (s : State) (target : PwrState) : State :=
  if s.compatActive then
    s.updPower fun p => { p with domDeepest := (upto 6).foldl (fun t d => t.put d 0 (max (t.getD d 0) target.num)) p.domDeepest }
  else s

/-- Steps 4 and 5: the DRAM is in self-refresh, and the domains are off (R453, R457). -/
def State.domainsOff (s : State) (target : PwrState) : State :=
  (s.updPower fun p => { p with state := target, entering := none, com := false, ce := false, io := false, nap := Trio.all 0
                                scrubAt := Trio.all s.now, request := none, sliceWait := none }).noteDeepest target

/-- The entry into a sleep state (R457, R463, R512). From RETAIN steps 1 to 3 have been made already (R458). -/
def State.sleep (s : State) (target : PwrState) : State :=
  let s :=
    if s.power.state = .run then
      let s := (s.stopTasks 5).stopSources
      let s := (forEach Ch.all s State.sleepChannel).dropTraffic
      s.setR Obj.timeRateAdj 0
    else s
  let s := s.logDev 0x0701 0x8010 [BitVec.ofNat 8 target.num]
  s.domainsOff target

/-- A queued request is evaluated when the transition completes (R466). -/
def State.takeQueued (s : State) : State :=
  match s.power.queued with
  | none => s
  | some (target, timer) => (s.updPower fun p => { p with queued := none }).askSleep target timer

/-- SLEEP_ENTRY (R457). -/
def execSleepEntry (t : Nat) (s : State) : Res :=
  s.run t fun s =>
    match s.power.entering with
    | some target => (s.sleep target).takeQueued
    | none => s

-- wakes (R459 to R462)

/-- The wake event of a code can occur in a channel now (R459). -/
def State.wakes (s : State) (c : Ch) (code : Nat) : Bool :=
  match code with
  | 1 => s.isBit Obj.hostLaneEnable (2 * c.num) || s.isBit Obj.hostLaneEnable (2 * c.num + 1)
  | 2 => true
  | 3 => true
  | 4 => true
  | 5 => s.v (Obj.siWake (pairNum c 0)) == 1 &&
      match (s.pair c 0).stamps with
      | x :: _ => s.power.sleptAt ≤ x.1
      | [] => false
  | 6 => s.v Obj.rtcAlarm != 0 && s.rtcNow == s.vn Obj.rtcAlarm
  | 7 => c.peers.any s.power.woken.get
  | 8 => true
  | _ => false

/-- Channel `c` wakes (R459, R466): the first event's code is kept; an entry is abandoned, and the queue is emptied. -/
def State.wake (s : State) (c : Ch) (code : Nat) : State :=
  if s.power.woken.get c then s
  else if s.power.state = .run then
    if s.power.entering.isSome then
      (s.setC c Obj.wakeCause code).updPower fun p =>
        { p with entering := none, queued := none, request := none, idleFrom := s.now }
    else s
  else
    (s.setC c Obj.wakeCause code).updPower fun p =>
      { p with waking := true, wakeAt := if p.waking then p.wakeAt else s.now, woken := p.woken.set c true, entering := none
               queued := none, request := none, againPark := none }

/-- WAKE_EVENT (R459). -/
def execWakeEvent (t : Nat) (c : Ch) (code : Fin 9) (s : State) : Res :=
  s.run t fun s => if s.arch.alive.get c && s.wakes c code then s.wake c code else s

/-- COM is up in the channels of V (R460): the device is in RUN; the time base is in HOLDOVER (R463); event 0x0702 gives
each channel's cause (R512). -/
def State.comRuns (s : State) : State :=
  let last := s.power.state.num
  let s := s.updPower fun p =>
    { p with state := .run, com := true, waking := false, woken := Trio.all false, idleFrom := s.now, lastSleep := last
             againRetain := none, againPark := none }
  let s := ((s.bumpR Obj.wakeCount).setR Obj.lastWakeTime s.now).bitR Obj.timeStatus 3 true
  forEach s.voters s fun s c => s.logC c 0x0702 0x8010 [BitVec.ofNat 8 (s.gn c Obj.wakeCause)]

/-- COM_UP (R460). -/
def execComUp (t : Nat) (s : State) : Res :=
  s.run t fun s =>
    if s.power.waking && s.voters.all fun c => s.power.woken.get c && s.arch.alive.get c then s.comRuns.takeQueued else s

/-- Retained data of a channel in which the scrubber found an uncorrectable word starts as after OFF (R462). -/
def State.restoreLost (s : State) (c : Ch) : State :=
  let s := if s.power.lossFb.get c then
      let s := { s with fports := s.fports.set c [], sports := s.sports.set c [], trackers := s.trackers.set c [] }
      s.enableSources c
    else s
  if s.power.lossTrim.get c then
    (forEach (upto 20) s fun s n => s.updConv c n fun x => { x with calibrated := false }).startupCal c
  else s

/-- The state of a task after a sleep: first use (R461); what an engine's lost memory held is as after OFF (R453, R462). -/
def State.wakeTask (s : State) (k : Nat) : State :=
  let lost := fun c => bit (s.power.lossEngine.get c : Int) ((s.task k).engines.get c)
  let f := fun c (x : TaskSt) => if lost c then {} else if s.power.lastSleep = 2 then { bank := x.bank } else x
  (s.updTask k fun r => { r with st := ⟨f .chA r.st.a, f .chB r.st.b, f .chC r.st.c⟩ }).firstUse k

/-- The IO domain of a channel is back (R461). -/
def State.wakeIo (s : State) (c : Ch) : State :=
  let s := (s.restartConverters c).restoreLost c
  let s := forEach (upto 4) s fun s k =>
    if s.g c (Obj.bsMode c k) == 1 then s.updSlot c k fun x => { x with startFrom := some s.now } else s
  let s := forEach (upto 6) s fun s n => s.updSport c n fun x => { x with lastGood := s.now, syncAt := none, waits := false }
  s.startInits c

/-- The engines and the IO domain wake (R461). -/
def State.domainsOn (s : State) : State :=
  let s := s.updPower fun p => { p with ce := true, io := true, needed := false, nap := Trio.all 0 }
  let s := forEach s.enabledTasks s State.wakeTask
  let s := forEach Ch.all s State.wakeIo
  let s := s.wakeSources
  let s := forEach (s.gens.map (·.1)) s State.beginTrack
  let s := s.updPower fun p => { p with lossFb := Trio.all false, lossTrim := Trio.all false, lossEngine := Trio.all 0 }
  if s.twin.paired then s.startHandshake else s

/-- The engines and the IO domain are needed (R461): a task is enabled, a slot is in use, or an access waits for them. -/
def State.domainsNeeded (s : State) : Bool :=
  !s.enabledTasks.isEmpty || (Ch.all.any fun c => (upto 4).any fun k => s.g c (Obj.bsMode c k) == 1) || s.power.needed

/-- DOMAIN_WAKE (R461). -/
def execDomainWake (t : Nat) (s : State) : Res :=
  s.run t fun s =>
    if s.power.state = .run ∧ s.power.com = true ∧ s.power.io = false ∧ s.domainsNeeded = true then s.domainsOn else s

-- retention (R462 to R464)

/-- A retained block is lost (R462); PARK retains no engine state (R453). -/
def State.loseBlock (s : State) (c : Ch) (b : RetainBlock) : State :=
  s.updPower fun p => match b with
    | .feedback => { p with retainLoss := true, lossFb := p.lossFb.set c true }
    | .trims => { p with retainLoss := true, lossTrim := p.lossTrim.set c true }
    | .engine e =>
      if p.state = .park then p else
      { p with retainLoss := true, lossEngine := p.lossEngine.upd c fun m => if bit (m : Int) (e % 16) then m else m + 2 ^ (e % 16) }

/-- SCRUB_PASS (R462, R464): every 10 s in RETAIN and PARK; `corrected` words were corrected, and each block of `lost`
held an uncorrectable one. -/
def execScrubPass (t : Nat) (c : Ch) (corrected : Nat) (lost : List RetainBlock) (s : State) : Res :=
  s.run t fun s =>
    if s.power.state ≠ .run ∧ s.arch.alive.get c = true ∧ s.power.scrubAt.get c + 10 * sec ≤ s.now then
      let s := s.updPower fun p => { p with scrubAt := p.scrubAt.set c s.now }
      let s := (s.bumpC c Obj.scrubCorrected corrected).bumpC c Obj.scrubUncorrectable lost.length
      forEach lost s fun s b => s.loseBlock c b
    else s

/-- Blocks of a channel's MRAM (R464). -/
def mramBlocks : Nat := 2048

/-- The interval of the MRAM scheduler in ticks: 10 s until a sweep has been completed since power-on, then 7,593 s. -/
def State.mramInterval (s : State) (c : Ch) : Nat := (if s.power.mramSweeps.get c = 0 then 10 else 7593) * sec

/-- A block is unreadable at normal margin (R338, R464). -/
def State.mramLost (s : State) (c : Ch) : State := (s.bumpC c Obj.mramUncorrectable).penalize c 16 0 16

/-- What the margin read of a block brings about (R464). -/
def State.refreshBlock (s : State) (c : Ch) (r : BlockRead) : State :=
  match r with
  | .good => s
  | .weak => s.bumpC c Obj.mramRewritten
  | .lostShared => (s.mramLost c).updPower fun p => { p with repairs := p.repairs.upd c (· + 1) }
  | .lostSummary k =>
    let s := (s.mramLost c).bitR (Obj.sedSumValid c) (k % 8) false
    s.updSed c fun d => { d with slots := d.slots.put (k % 8) {} {} }

/-- MRAM_REFRESH_BLOCK (R464): the scheduler's next block. A sweep is complete when every block has been read since it began, and
one begins with each power-on. -/
def execMramRefreshBlock (t : Nat) (c : Ch) (r : BlockRead) (s : State) : Res :=
  s.run t fun s =>
    if s.arch.alive.get c && s.power.mramAt.get c + s.mramInterval c ≤ s.now then
      let s := s.refreshBlock c r
      let last := s.power.mramRead.get c + 1 == mramBlocks
      s.updPower fun p =>
        { p with mramAt := p.mramAt.set c s.now
                 mramPtr := p.mramPtr.upd c fun n => if n + 1 == mramBlocks then 0 else n + 1
                 mramRead := p.mramRead.upd c fun n => if last then 0 else n + 1
                 mramSweeps := p.mramSweeps.upd c fun n => if last then n + 1 else n
                 sweepAt := if last then p.sweepAt.set c (some s.rtcNow) else p.sweepAt }
    else s

/-- Blocks that the peers hold alike are rewritten at a commit instant at which COM runs (R464): a peer is there. -/
def State.repairMram (s : State) : State :=
  if !s.power.com then s
  else forEach Ch.all s fun s c =>
    let n := s.power.repairs.get c
    if n = 0 ∨ (c.peers.any s.running) = false then s
    else (s.bumpC c Obj.mramRewritten n).updPower fun p => { p with repairs := p.repairs.set c 0 }

/-- MRAM_SWEEP_AGE in days: the oldest completed sweep of the channels (R464, R473). -/
def State.sweepAge (s : State) : Nat :=
  Ch.all.foldl (fun m c => match s.power.sweepAt.get c with
    | some b => max m (min 65535 ((s.rtcNow - b) / 86400))
    | none => m) 0

-- performance levels (R468 to R471)

/-- VDDC of a level in millivolts (R468). -/
def plVolt (n : Nat) : Nat := if n = 3 then 850 else if n = 2 then 800 else if n = 1 then 750 else 720

/-- `s` with the level change of channel `c` replaced. -/
def State.setChange (s : State) (c : Ch) (x : Option PlChange) : State :=
  s.updPower fun p => { p with changes := p.changes.set c x }

/-- The clocks with channel `c` at level `n`. -/
def State.clocksWith (s : State) (c : Ch) (n : Nat) : Trio Nat := s.clocks.set c (ceMHz n)

/-- A change of level begins (R470): a raise states the higher voltage; a lowering checks the plan, with a replan where
it breaks R341 (R354). Where no replan can run, the present plan decides. -/
def State.startPl (s : State) (c : Ch) (v : Nat) : State :=
  let now := s.vn (Obj.plNow c)
  let mk := fun ph => some { target := v, old := now, start := s.now, phase := ph : PlChange }
  if v = now then s
  else if now < v then
    let s := (s.setR (Obj.plVddcMv c) (plVolt v : Nat)).bitR (Obj.plStatus c) 0 true
    ((s.bitR (Obj.plStatus c) 2 true).bitR (Obj.plStatus c) 3 false).setChange c (mk 0)
  else
    let s1 := s.bitR (Obj.plStatus c) 0 true
    if s.fitsAt (s.clocksWith c v) then s1.setChange c (mk 2)
    else if s.red.state = .passive ∨ s.place.placed = false then s.bitR (Obj.plStatus c) 5 true
    else ((s1.bitR (Obj.plStatus c) 1 true).setChange c (mk 1)).planTrigger 64

/-- Levels may change now: the device is awake with its engines, and out of STARTUP (R467, R522). -/
def State.plReady (s : State) (c : Ch) : Bool :=
  s.power.state == .run && s.power.entering.isNone && !s.power.waking && s.power.ce && s.red.state != .startup && !s.plBusy c

/-- A waiting request of channel `c` is taken up (R466, R467, R522). -/
def State.nextPl (s : State) (c : Ch) : State :=
  match s.power.plWait.get c with
  | some v => if s.plReady c then (s.updPower fun p => { p with plWait := p.plWait.set c none }).startPl c v else s
  | none => s

/-- The effect of PL_REQUEST (R470): the refusals clear; the request is evaluated, or waits for what runs (R466). -/
def State.writePlRequest (s : State) (c : Ch) (v : Int) : State :=
  let s := ((s.setR (Obj.plRequest c) v).bitR (Obj.plStatus c) 4 false).bitR (Obj.plStatus c) 5 false
  (s.updPower fun p => { p with plWait := p.plWait.set c (some v.toNat) }).nextPl c

/-- The engine clock changes at a commit instant (R470): a raise is complete; after a lowering the board may drop VDDC. -/
def State.changeClock (s : State) (c : Ch) : State :=
  match s.power.changes.get c with
  | some x =>
    if x.phase ≠ 2 ∨ s.now ≤ x.start then s
    else
      let up := s.vn (Obj.plNow c) < x.target
      let s := (s.setR (Obj.plNow c) (x.target : Nat)).bitR (Obj.plStatus c) 0 false
      if up then s.setChange c none
      else
        let s := (s.setR (Obj.plVddcMv c) (plVolt x.target : Nat)).bitR (Obj.plStatus c) 3 true
        s.setChange c (some { x with phase := 3, start := s.now })
  | none => s

/-- What a commit instant does for the performance levels (R466, R470). -/
def State.plCommit (s : State) : State := forEach Ch.all s fun s c => (s.changeClock c).nextPl c

/-- VDDC_SETTLED (R470, R471): VDDC has lain within the new level's window for 100 µs. -/
def execVddcSettled (t : Nat) (c : Ch) (s : State) : Res :=
  s.run t fun s =>
    match s.power.changes.get c with
    | some x =>
      if x.phase = 0 then
        (s.bitR (Obj.plStatus c) 2 false).setChange c (some { x with phase := 2, start := s.now })
      else if 3 ≤ x.phase then (s.bitR (Obj.plStatus c) 3 false).setChange c none
      else s
    | none => s

/-- PL_VOLT_TIMEOUT (R470, R471): a raise is abandoned; after a lowering the new window counts alone. -/
def execPlVoltTimeout (t : Nat) (c : Ch) (s : State) : Res :=
  s.run t fun s =>
    match s.power.changes.get c with
    | some x =>
      if s.now < x.start + s.vn Obj.plVoltTimeout * ms then s
      else if x.phase = 0 then
        let s := (s.setR (Obj.plVddcMv c) (plVolt (s.vn (Obj.plNow c)) : Nat)).bitR (Obj.plStatus c) 4 true
        (((s.bitR (Obj.plStatus c) 2 false).bitR (Obj.plStatus c) 0 false).setChange c none).nextPl c
      else if x.phase = 3 then s.setChange c (some { x with phase := 4 })
      else s
    | none => s

-- the TS-2416 map (R472) and status reads

/-- The effect of DOMAIN_MODE (R472): the map makes a request where no domain is ON; SLEEP_ENABLE withholds it as it
withholds a PWR_REQUEST (log entry 19). -/
def State.writeDomainMode (s : State) (d : Nat) (v : Int) : State :=
  let s := s.setR (Obj.domainMode d) v
  let has := fun m => (upto 6).any fun d => s.v (Obj.domainMode d) == m
  if has 0 then s
  else if has 1 then if s.isBit Obj.sleepEnable 1 then s.askSleep .retain false else s
  else if has 2 then if s.isBit Obj.sleepEnable 2 then s.askSleep .park false else s
  else s

/-- At least one engine is awake (R475). -/
def State.ceAwake (s : State) : Bool := s.power.ce && Ch.all.any fun c => s.takesPart c && s.power.nap.get c != 65535

/-- PWR_STATUS (R475). -/
def State.pwrStatusNow (s : State) : Int :=
  let p := s.power
  (p.lastSleep : Int) + 4 * b2i s.ceAwake + 8 * b2i p.io + 16 * b2i (p.entering.isSome || p.waking) +
    32 * b2i (p.queued.isSome || Ch.all.any fun c => (p.plWait.get c).isSome) + 64 * b2i s.compatActive +
    128 * b2i p.retainLoss + 256 * b2i p.pfailSlept

/-- The read of PWR_STATUS clears PFAIL_IN_SLEEP and RETAIN_LOSS (R475). -/
def State.readPwrStatus (s : State) : State := s.updPower fun p => { p with retainLoss := false, pfailSlept := false }

/-- The read of DOMAIN_LAST clears it (R476). -/
def State.readDomainLast (s : State) (d : Nat) : State := s.updPower fun p => { p with domDeepest := p.domDeepest.put d 0 0 }

end Sys2Proof.Machine
end

