-- ==== Sys2Proof/Machine/Sediment.lean ====
section
/-! DEFINITION. Chapter 17: triggers, summary copies, the sediment trace, and the bytes of the record (R497 to R516). -/

namespace Sys2Proof.Machine

/-- SOURCE of the events of a channel's recorder: its record 0xC010 + c. -/
def sedSource (c : Ch) : Nat := 0xC010 + c.num

-- triggers (R505 to R507)

/-- The trigger of a cause has been recorded at this instant in channel `c`. -/
def State.triggered (s : State) (c : Ch) (cause : Nat) : Bool :=
  (s.sed.get c).shadow.any fun e => e.code == 0x0901 && e.time == s.now && e.payload == [BitVec.ofNat 8 cause]

/-- SEDIMENT_TRIGGER (R505, R506): a trigger of one of the four causes; one that its cause has made already at this
instant is the same trigger. -/
def execSedimentTrigger (t : Nat) (c : Ch) (cause : Fin 5) (s : State) : Res :=
  s.run t fun s => if cause.val = 0 ∨ s.triggered c cause = true then s else s.trigger c cause

/-- PFAIL_ASSERT (R41, R459, R467, R505, R511): accepted after its filter. Asleep it is only recorded; an entry into a sleep
state is abandoned. -/
def execPfailAssert (t : Nat) (c : Ch) (s : State) : Res :=
  s.run t fun s =>
    if !s.arch.alive.get c then s
    else if s.power.state ≠ .run then s.updPower fun p => { p with pfailSlept := true }
    else s.abandonEntry.trigger c 3

/-- Channels of a mask in bits 0 to 2. -/
def maskChannels (v : Int) : List Ch := Ch.all.filter fun c => bit v c.num

/-- The effect of SED_TRIGGER (R505). -/
def State.writeSedTrigger (s : State) (v : Int) : State := forEach (maskChannels v) s fun s c => s.trigger c 4

/-- The effect of SED_RELEASE (R507): the DRAM ring goes on, and the trace starts empty. -/
def State.writeSedRelease (s : State) (v : Int) : State :=
  forEach (maskChannels v) s fun s c => s.updSed c fun d => if d.frozen then { d with frozen := false, trace := [] } else d

/-- A summary copy runs in a channel of the mask (R507). -/
def State.copiesIn (s : State) (v : Int) : Bool := (maskChannels v).any fun c => (s.sed.get c).copy.isSome

/-- The effect of a change of SED_TRACE_RATE or SED_TRACE_NODE (R504): the trace rings are emptied. -/
def State.restartSedTrace (s : State) : State := forEach Ch.all s fun s c => s.updSed c fun d => { d with trace := [] }

-- summaries (R508 to R511)

/-- Data blocks of a summary as planned. -/
def Summary.blocks (m : Summary) : Nat := m.evBlocks + m.trBlocks

/-- A slot of channel `c` changed. -/
def State.updSlotSum (s : State) (c : Ch) (k : Nat) (f : Summary → Summary) : State :=
  s.updSed c fun d => { d with slots := Tbl.modify d.slots k {} f }

/-- SUMMARY_BLOCK_WRITE (R508): the header, then the data blocks in order. -/
def execSummaryBlockWrite (t : Nat) (c : Ch) (s : State) : Res :=
  s.run t fun s =>
    match (s.sed.get c).copy with
    | some x =>
      if !s.arch.alive.get c || ((s.sed.get c).slots.getD x.slot {}).blocks < x.next then s
      else
        let s := s.updSlotSum c x.slot fun m => { m with headerOk := true, written := x.next + 1 }
        s.updSed c fun d => { d with copy := some { x with next := x.next + 1 } }
    | none => s

/-- SED_STATUS (R516). -/
def State.sedStatusNow (s : State) (c : Ch) : Int :=
  let d := s.sed.get c
  ((b2n (d.recording && s.power.state == .run) + 2 * b2n d.frozen + 4 * b2n d.copy.isSome + 8 * b2n d.merged.isSome +
    16 * b2n d.dramFault : Nat) : Int)

/-- The values of a channel's record 0xC010 + c, in order of subindex (R498, R515). -/
def State.sedRecord (s : State) (c : Ch) : List Int :=
  s.sedStatusNow c :: [Obj.sedEvents c, Obj.sedFreezeTime c, Obj.sedFreezeCause c, Obj.sedSumValid c, Obj.sedSumLock c,
    Obj.sedSumNewest c, Obj.sedSumDropped c, Obj.sedSuppressed c].map s.v

/-- The channel's status and summary headers in its common-area slot (R498). -/
def State.writeCommon (s : State) (c : Ch) : State :=
  s.updSed c fun d => if d.dramFault || !d.dramReady then d
    else d.dramWrite c (commonSlotOf c) fun d => { d with common := some ⟨s.now, s.sedRecord c, d.slots⟩ }

/-- SUMMARY_COMPLETE (R508, R511): the header is rewritten with COMPLETE; a merged trigger makes one further summary. -/
def execSummaryComplete (t : Nat) (c : Ch) (s : State) : Res :=
  s.run t fun s =>
    match (s.sed.get c).copy with
    | some x =>
      if !s.arch.alive.get c || x.next ≤ ((s.sed.get c).slots.getD x.slot {}).blocks then s
      else
        let s := s.updSlotSum c x.slot fun m => { m with flags := m.flags - m.flags % 2 + 1 }
        let s := (s.bitR (Obj.sedSumValid c) x.slot true).setR (Obj.sedSumNewest c) (x.slot : Nat)
        let s := s.updSed c fun d => { d with copy := none }
        let s := (s.logC c 0x0902 (sedSource c) [BitVec.ofNat 8 x.slot]).writeCommon c
        match (s.sed.get c).merged with
        | some g => (s.updSed c fun d => { d with merged := none }).startCopy c g true true
        | none => s
    | none => s

/-- The check of the slots at power-on (R510): `bad` gives, by slot, the first block that does not match, 0 for the header.
Blocks before the first mismatch are kept. -/
def State.checkSummaries (s : State) (c : Ch) (bad : List (Nat × Nat)) : State :=
  forEach (upto 8) s fun s k =>
    let m := (s.sed.get c).slots.getD k {}
    let b := (bad.filter fun p => p.1 == k).map (·.2)
    if b.contains 0 then
      (s.updSlotSum c k fun m => { m with headerOk := false }).bitR (Obj.sedSumValid c) k false
    else if m.headerOk && m.written != 0 then
      if m.flags % 2 = 1 then s.bitR (Obj.sedSumValid c) k true
      else
        let keep := b.foldl (fun n x => min n (x - 1)) (m.written - 1)
        let s := s.updSlotSum c k fun m => { m with written := keep + 1, flags := if bit (m.flags : Int) 1 then m.flags else m.flags + 2 }
        (s.bitR (Obj.sedSumValid c) k true).logC c 0x0906 (sedSource c) (BitVec.ofNat 8 k :: leBytes 2 keep)
    else s

/-- SED_SUM_NEWEST after power-on: the valid slot with the highest SUM_SEQ (R515). -/
def State.findNewest (s : State) (c : Ch) : State :=
  let d := s.sed.get c
  let l := (upto 8).filter fun k => s.isBit (Obj.sedSumValid c) k
  let best := l.foldl (fun (b : Option Nat) k => match b with
    | none => some k
    | some j => if d.slotAge j < d.slotAge k then some k else some j) none
  s.setR (Obj.sedSumNewest c) (best.getD 255 : Nat)

-- windows, common area, trace, DRAM

/-- SUPPRESSION_WINDOW_END (R502): at the end of a window, each pair with events dropped in it, or in a window before, is
recorded. -/
def execSuppressionWindowEnd (t : Nat) (s : State) : Res :=
  s.run t fun s =>
    if s.now % ms ≠ 0 then s
    else forEach Ch.all s fun s c =>
      let old := (s.sed.get c).wins.reverse.filter fun w => w.win < winOf s.now
      let s := s.updSed c fun d => { d with wins := d.wins.filter fun w => !(w.win < winOf s.now) }
      forEach (old.filter fun w => w.dropped != 0) s fun s w =>
        (s.logC c 0x0904 (sedSource c) (leBytes 2 w.code ++ leBytes 2 w.source ++ leBytes 4 w.dropped)).bumpR
          (Obj.sedSuppressed c) w.dropped

/-- COMMON_AREA_UPDATE (R498): every 1 ms. -/
def execCommonAreaUpdate (t : Nat) (s : State) : Res :=
  s.run t fun s =>
    if s.now % ms = 0 ∧ s.power.state = .run then
      s.once markCommon fun s => forEach (Ch.all.filter s.arch.alive.get) s fun s c => s.writeCommon c
    else s

/-- The last sample of converter `n` of channel `d` that was mirrored to channel `c`; 0x80000000 without one (R504). -/
def State.oldMirror (s : State) (c d : Ch) (n : Nat) : Int :=
  match (upto 4).findSome? fun k => match (s.slot d k).mirror.get c with
      | some (_, l) => l.find? fun p => p.1 == n
      | none => none with
  | some p => p.2.code
  | none => -2147483648

/-- The value of a trace node in the recording channel; 0x80000000 where it holds none (R504). -/
def State.nodeValue (s : State) (c : Ch) (r : Nat) : Int :=
  let d := chOf (field (r : Int) 8 2)
  let n := field (r : Int) 0 5
  if field (r : Int) 28 4 = 4 then
    match (s.conv d n).sample with
    | some x => if s.holdsSample c d n x then x.code else s.oldMirror c d n
    | none => if d = c then s.cvSampleNow d n else -2147483648
  else (s.signal [c] c s.now r).1

/-- The records that the trace ring holds at most (R497, R504). -/
def traceCap (n : Nat) : Nat := 16777216 / recordSize n

/-- SEDIMENT_TRACE_SAMPLE (R504): at the multiples of 300,000,000 / SED_TRACE_RATE ticks, while the channel records. -/
def execSedimentTraceSample (t : Nat) (c : Ch) (s : State) : Res :=
  s.run t fun s =>
    let per := sec / s.vn Obj.sedTraceRate
    if s.arch.started.get c && (s.sed.get c).recording && s.power.state == .run && per != 0 && s.now % per == 0 then
      let ns := s.traceNodes
      let e := (s.now, ns.map (s.nodeValue c))
      s.once (markSedTrace c) fun s => s.updSed c fun d => d.dramWrite c (partitionOf c) fun d => { d with trace := (e :: d.trace).take (traceCap ns.length) }
    else s

/-- DRAM_READY (R512): events since the release of PORST_N enter the DRAM rings in order. -/
def execDramReady (t : Nat) (s : State) : Res :=
  s.run t fun s =>
    forEach (Ch.all.filter s.arch.alive.get) s fun s c => s.updSed c fun d =>
      if d.dramReady || d.dramFault then d
      else d.dramWrite c (partitionOf c) fun d =>
        { d with dramReady := true, ring := if d.frozen then d.ring else d.shadow ++ d.ring }

-- registers and readout (R500, R509, R513, R516)

/-- The 32 bytes of an event (R500). -/
def SedEvent.bytes (e : SedEvent) : List Byte :=
  let l := leBytes 8 e.time ++ leBytes 2 e.code ++ leBytes 2 e.source ++ leBytes 1 e.chan.num ++ leBytes 1 0 ++ padTo 16 e.payload
  l ++ leBytes 2 (crc16 l)

/-- The bytes of a trace record (R504). -/
def recBytes (r : Nat × List Int) : List Byte := leBytes 8 r.1 ++ r.2.flatMap (leBytesInt 4)

/-- Data blocks of a summary that are usable: all of a complete one, else those kept (R509, R510). -/
def Summary.valid (m : Summary) : Nat := min m.blocks (m.written - 1)

/-- The events of the valid blocks, newest first: 128 in a block (R508). -/
def Summary.evs (m : Summary) : List SedEvent := m.events.take (128 * min m.valid m.evBlocks)

/-- The trace records of the valid blocks, newest first (R508). -/
def Summary.recs (m : Summary) : List (Nat × List Int) :=
  m.trace.take ((4096 / recordSize m.nodes) * (m.valid - m.evBlocks))

/-- Data block `n` of a summary, from 1, as MRAM holds it (R508). -/
def Summary.block (m : Summary) (n : Nat) : List Byte :=
  if n ≤ m.evBlocks then padTo 4096 (((m.events.drop (128 * (n - 1))).take 128).flatMap SedEvent.bytes)
  else
    let per := 4096 / recordSize m.nodes
    padTo 4096 (((m.trace.drop (per * (n - 1 - m.evBlocks))).take per).flatMap recBytes)

/-- Bytes 0 to 263 of a header (R509). -/
def Summary.header (m : Summary) (c : Ch) (k : Nat) : List Byte :=
  let l := leBytes 2 1 ++ leBytes 1 k ++ leBytes 1 m.flags ++ leBytes 4 m.seq ++ leBytes 8 m.trigTime ++ leBytes 2 m.cause ++
    leBytes 1 m.redund ++ leBytes 1 c.num ++ leBytes 2 m.evs.length ++ leBytes 2 m.recs.length ++
    leBytes 2 (recordSize m.nodes) ++ leBytes 2 m.valid ++ leBytes 4 m.rtc ++ leBytes 4 m.chain ++ leBytes 4 m.planDigest ++
    leBytes 8 Config.deviceUid ++ leBytes 12 0
  l ++ leBytes 4 (crc32c l) ++
    (upto 50).flatMap fun n => leBytes 4 (if n < m.blocks then crc32c (m.block (n + 1)) else 0)

/-- SED_RING (R513): the events held, oldest first. -/
def State.ringBytes (s : State) (c : Ch) : List Byte := (s.sed.get c).ring.reverse.flatMap SedEvent.bytes

/-- SED_TRACE (R513). -/
def State.sedTraceBytes (s : State) (c : Ch) : List Byte := (s.sed.get c).trace.reverse.flatMap recBytes

/-- The summary of a slot as a channel serves it: from its MRAM, or for a faulty channel's header from the common area
(R498, R513). -/
def State.summaryOf (s : State) (c : Ch) (k : Nat) (common : Bool) : Summary :=
  let d := s.sed.get c
  if common then
    match d.common with
    | some m => m.sums.getD k {}
    | none => {}
  else d.slots.getD k {}

end Sys2Proof.Machine
end

