-- ==== Sys2Proof/Machine/SelfTest.lean ====
section
/-! DEFINITION. Chapter 16: power-up self-test, run-time slices, life cycle and debug access (R477 to R496). -/

namespace Sys2Proof.Machine

-- start-up steps as far as the self-test ends them (R517, R525)

/-- Step `n` of start-up has ended in channel `c` (R517, R525). -/
def State.setStep (s : State) (c : Ch) (n : Nat) : State := s.setR (Obj.suStep c) (n : Nat)

/-- The start-up of channel `c` stops at the step after the one it has ended (R517, R525). -/
def State.failStep (s : State) (c : Ch) (n : Nat) : State := s.setR (Obj.suFailStep c) (n : Nat)

/-- Start-up of channel `c` goes on: it runs, has not been declared faulty, and has not stopped. -/
def State.starting (s : State) (c : Ch) : Bool :=
  s.arch.alive.get c && s.running c && s.red.state == .startup && !s.su.stopped && s.vn (Obj.suFailStep c) == 0

/-- A self-test of `duration` ms can have ended now (R477, R478): 14 ms of logic and 22 ms of memory tests since step 1 ended,
with 14 ms more where a partition was tested twice. -/
def State.bistEnded (s : State) (c : Ch) (twice : Bool) (duration : Nat) : Bool :=
  match s.su.step1.get c with
  | some b => decide ((if twice then 50 else 36) ≤ duration) && decide (b + duration * ms ≤ s.now)
  | none => false

/-- POWER_UP_BIST (R477 to R479, step 3 of R517): `engines` are the logic partitions and `memories` the arrays that failed
twice or could not be repaired, one bit each as in the registers; `common` is the common partition. -/
def execPowerUpBist (t : Nat) (c : Ch) (engines : Nat) (common : Bool) (memories : Nat) (repairs duration : Nat)
    (s : State) : Res :=
  s.run t fun s =>
    if !(s.starting c && s.vn (Obj.suStep c) == 1 && s.bistEnded c (common || engines % 2 ^ 16 != 0) duration) then s
    else
      let lb : Nat := engines % 2 ^ 16 + 2 ^ 16 * b2n common
      let mb : Nat := memories % 2 ^ 18
      let s := (s.setR (Obj.lbistFailMap c) lb).setR (Obj.mbistFailMap c) mb
      let s := s.setR (Obj.mbistRepairs c) ((s.vn (Obj.mbistRepairs c) + repairs) % 65536 : Nat)
      let s := s.setR (Obj.bistDuration c) (min 65535 duration : Nat)
      let bad := (upto 16).filter fun e => bit (lb : Int) e || bit (mb : Int) e
      let s := forEach bad s fun s e => s.engineFault c e 1
      if common || 2 ^ 16 ≤ mb then (s.failStep c 3).channelFault c cfBist
      else { s.setStep c 3 with su := { s.su with arrived := s.su.arrived.set c (some s.now) } }

-- rotations and slices (R480 to R485)

/-- ROTATION_START (R481, R483): at a multiple of 1 s, once the previous rotation has ended; not while no turn may
start. -/
def execRotationStart (t : Nat) (c : Ch) (s : State) : Res :=
  s.run t fun s =>
    if s.now % sec = 0 ∧ (s.life.rot.get c).start = none ∧ s.turnsRun c = true then
      let s := { s with life := { s.life with rot := s.life.rot.upd c fun r => { r with start := some s.now } } }
      s.nextTurn c 0
    else s

/-- `s` with the turn of channel `c` replaced. -/
def State.setTurn (s : State) (c : Ch) (x : Turn) : State :=
  { s with life := { s.life with rot := s.life.rot.upd c fun r => { r with turn := some x } } }

/-- The return of R353: the moved tasks take a planned move back to the engine; the turn ends with these moves. -/
def State.returnTasks (s : State) (c : Ch) (x : Turn) : State :=
  let ks := s.place.movedOut.get c
  let s := s.setTurn c { x with returning := true }
  let s := { s with place := { s.place with testing := s.place.testing.set c none } }
  let s := forEach ks s fun s k =>
    if (s.task k).move.isNone && (s.task k).placed && (s.task k).engines.get c != x.engine then
      s.updTask k fun r => { r with move := some { owner := r.owner, computed := r.computed, engines := r.engines.set c x.engine } }
    else s
  s.movesDone

/-- A slice of the turn has passed (R480, R484); after the 32nd the tasks return. -/
def State.slicePass (s : State) (c : Ch) (x : Turn) : State :=
  let x := { x with runs := x.runs + 1 }
  let s := { s with life := { s.life with rot := s.life.rot.upd c fun r =>
    { r with lastSlice := r.lastSlice.put x.engine 0 s.now } } }
  if x.runs < 32 then s.setTurn c x else s.returnTasks c x

/-- A slice has failed, on its repeat too (R484): the engine is faulty, and the rotation goes on without the return. -/
def State.sliceFail (s : State) (c : Ch) (x : Turn) : State :=
  let n := (x.first + x.runs) % 32
  let s := (s.clearTest c).nextTurn c (x.engine + 1)
  let s := (s.engineFault c x.engine 2).bumpC c Obj.sliceFails
  s.logC c 0x0801 (0xB028 + c.num) [BitVec.ofNat 8 x.engine, BitVec.ofNat 8 n]

/-- The next slice of a turn can have ended (R480, R481): 150 µs after its start, which is 1 ms times its number after the engine
became empty at `b`, and later where the channel's slices would take more than 20 % of 1 ms. -/
def State.sliceEnded (s : State) (c : Ch) (x : Turn) (b : Nat) : Bool :=
  decide (b + x.runs * ms + 150 * us ≤ s.now) &&
    (s.life.rot.get c).lastSlice.all fun p => decide (p.2 + 950 * us ≤ s.now) || s.now < p.2

/-- SLICE (R480, R481, R484): the end of the next slice of the turn. -/
def execSlice (t : Nat) (c : Ch) (pass : Bool) (s : State) : Res :=
  s.run t fun s =>
    match (s.life.rot.get c).turn with
    | some x =>
      match x.emptyAt with
      | some b =>
        if x.returning || !s.arch.alive.get c || !s.sliceEnded c x b then s
        else
          let s := s.wakeEngine c x.engine
          if pass then s.slicePass c x else s.sliceFail c x
      | none => s
    | none => s

/-- ROTATION_LATE (R482): a rotation has not ended 1 s after its start. -/
def execRotationLate (t : Nat) (c : Ch) (s : State) : Res :=
  s.run t fun s =>
    match (s.life.rot.get c).start with
    | some b =>
      if b + sec ≤ s.now then { s with life := { s.life with rot := s.life.rot.upd c fun r => { r with late := true } } } else s
    | none => s

-- a channel's reset

/-- A channel's outputs, units and memories take their reset states (R36, R256): a held ARM output has fallen for good. -/
def State.resetUnits (s : State) (c : Ch) : State :=
  let s := forEach (upto 4) s fun s k => s.updArm c k fun x => { fallen := x.fallen || x.held }
  { s with
    slots := s.slots.set c [], tests := s.tests.set c [], drivers := s.drivers.set c [], spis := s.spis.set c []
    convs := s.convs.set c [], grps := s.grps.set c [], diags := s.diags.set c [], fports := s.fports.set c []
    sports := s.sports.set c [], trackers := s.trackers.set c [], objs := s.objs.set c []
    tasks := s.tasks.map fun p => (p.1, { p.2 with
      st := p.2.st.set c {}, rel := p.2.rel.set c none, fin := p.2.fin.set c none, out := p.2.out.set c [] }) }

/-- What a channel's logic held beyond its units is gone (R517): lanes, turns, safe inputs, its shadow ring. -/
def State.resetLogic (s : State) (c : Ch) : State :=
  { s with
    arch := { s.arch with alive := s.arch.alive.set c false, started := s.arch.started.set c false }
    fab := { s.fab with planes := s.fab.planes.set c {} }
    safe := { s.safe with pairs := s.safe.pairs.set c [], frst := s.safe.frst.set c {} }
    life := { s.life with rot := s.life.rot.set c {} }
    place := { s.place with emptying := s.place.emptying.set c none, testing := s.place.testing.set c none
                            movedOut := s.place.movedOut.set c [] }
    sed := s.sed.upd c fun d => { d with shadow := [], wins := [], copy := none, merged := none, dramReady := false }
    power := { s.power with nap := s.power.nap.set c 0, used := s.power.used.set c [], changes := s.power.changes.set c none
                            plWait := s.power.plWait.set c none, woken := s.power.woken.set c false }
    su := { s.su with step1 := s.su.step1.set c none, arrived := s.su.arrived.set c none } }

/-- A channel enters reset (R256, R493): its peers see the cross-strap links fail and declare it faulty (R14). -/
def State.resetChannel (s : State) (c : Ch) : State :=
  let s := { s with arch := { s.arch with alive := s.arch.alive.set c false } }
  let s := forEach c.peers s fun s d => (s.setLink (linkOf c d) true).markLink (linkOf c d) true
  let s := if c.peers.any s.running && s.arch.started.get c then s.channelFault c cfCrossStrap else s
  (s.resetUnits c).resetLogic c

-- life cycle (R486 to R492)

/-- Secrets of MRAM are overwritten, and the pairing ends (R491). -/
def State.erase (s : State) : State :=
  let s := { s with
    safe := { s.safe with pwHash := [], pwSalt := some (List.replicate 16 0) }
    fab := { s.fab with key0 := List.replicate 32 0, key1 := List.replicate 32 0 }
    twin := { s.twin with paired := false, key := [], request := none, handshake := none } }
  (s.setR Obj.pwFailCount 0).setTwinState 0

/-- The erasure of R491 in every running channel. -/
def State.eraseAll (s : State) : State :=
  let f := fun (t : Trio Bool) => (⟨t.a || s.arch.alive.a, t.b || s.arch.alive.b, t.c || s.arch.alive.c⟩ : Trio Bool)
  let s := { s with life := { s.life with erasePending := f s.life.erasePending, eraseDone := f s.life.eraseDone } }
  s.erase

/-- An accepted LC_REQUEST takes effect (R489, R490): logged, programmed in every channel of V, with what leaving DEV and
entering RMA or VOID bring. -/
def State.changeLife (s : State) (carrier new : Nat) : State :=
  let old := s.life.state
  let s := s.logChange 0xB000 2 carrier (leBytes 2 old) (leBytes 2 new) false
  let s := s.logDev 0x0802 0xB000 [BitVec.ofNat 8 old, BitVec.ofNat 8 new]
  let prog := fun c n => if s.voters.contains c then new else n
  let s := { s.closeUnlocks with life := { s.life with state := new, cells :=
    ⟨prog .chA s.life.cells.a, prog .chB s.life.cells.b, prog .chC s.life.cells.c⟩ } }
  let s := (s.setR Obj.lcState (new : Nat)).setR Obj.lcLastChange (s.rtcNow : Nat)
  let s := if old = 2 then { s with red := { s.red with debugOpen := Trio.all false } } else s
  let s := if new = 4 ∨ new = 5 then s.enter .passive else s
  if new = 4 then s.eraseAll else s

/-- The transitions of R488: from, to. -/
def lcMoves : List (Nat × Nat) := [(0, 1), (1, 2), (1, 3), (2, 3), (2, 4), (3, 4), (4, 5)]

/-- LC_REQUEST values of R488 in the present state: the target, where the value is permitted. -/
def State.lcTarget (s : State) (v : Int) : Option Nat :=
  let from_ := field v 0 8
  let to_ := field v 8 8
  if field v 16 16 = 0x4C43 ∧ lcMoves.contains (from_, to_) = true ∧ from_ = s.life.state then some to_ else none

/-- Every EN and ARM output of channel `c` is low (R493). -/
def State.permitsLow (s : State) (c : Ch) : Bool := (upto 4).all fun k => !(s.slot c k).en && !(s.arm c k).out

/-- JTAG_SCAN_OPEN (R493): in MFG, or in RMA after the channel's erasure, with its permits low; the channel resets. -/
def execJtagScanOpen (t : Nat) (c : Ch) (s : State) : Res :=
  s.run t fun s =>
    if s.arch.alive.get c && !s.life.scanOpen.get c && s.permitsLow c &&
        (s.life.state == 1 || (s.life.state == 4 && s.life.eraseDone.get c)) then
      ({ s with life := { s.life with scanOpen := s.life.scanOpen.set c true } } : State).resetChannel c
    else s

/-- The effect of DEBUG_PERMIT (R494): 0 closes any open debug access. -/
def State.writeDebugPermit (s : State) (v : Int) : State :=
  let s := s.setR Obj.debugPermit v
  if v = 0 then { s with red := { s.red with debugOpen := Trio.all false } } else s

/-- One bit per channel. -/
def trioBits (t : Trio Bool) : Nat := b2n t.a + 2 * b2n t.b + 4 * b2n t.c

/-- LC_STATUS (R496). -/
def State.lcStatusNow (s : State) : Int :=
  let l := s.life
  ((trioBits s.red.debugOpen + 8 * trioBits l.scanOpen + 64 * trioBits l.eraseDone + 512 * trioBits l.eraseFail +
    4096 * b2n l.disagree + 8192 * b2n (Ch.all.any fun c => (l.rot.get c).late) : Nat) : Int)

end Sys2Proof.Machine
end

