-- ==== Sys2Proof/Machine/StartUp.lean ====
section
/-! DEFINITION. Chapter 18: the start-up sequence, the configuration image and the departure from STARTUP
(R517 to R526, R89). -/

namespace Sys2Proof.Machine

-- the configuration image (R89, R521)

/-- Writable objects that are commands, requests or running values and no configuration (log entry 21). -/
def Role.runs : Role → Bool
  | .sluiceAg => true
  | .axHome => true
  | .axFaultClear => true
  | .axTorqueEnable => true
  | .agForceTotal => true
  | .agControl => true
  | .bankSelect => true
  | .traceControl => true
  | .pgTarget => true
  | .pgControl => true
  | .faultReset => true
  | .rtcSeconds => true
  | .restoreDefaults => true
  | .clClear => true
  | .sedRelease => true
  | _ => false

/-- An object is part of the configuration (R89): it can be written and read back, and is no command. -/
def Entry.stored (e : Entry) : Bool :=
  (match e.desc.acc with
    | .rw => true
    | .rws => true
    | .rwp => true
    | _ => false) && !e.desc.role.runs

/-- The entry of a dictionary key. -/
def entryOf (key : Nat) : Option Entry := findObj (key / 256) (key % 256)

/-- The value that the configuration has for an entry: its channel's own, or the voted one (R61, R62). -/
def State.entryVal (s : State) (e : Entry) : Int :=
  match e.desc.home with
  | .chan => s.g (chOf e.i) e.obj
  | _ => s.v e.obj

/-- The configuration as it stands now (R89), with the time of the RTC. -/
def State.imageNow (s : State) : Image :=
  let keys := ((s.regs.a ++ s.regs.b ++ s.regs.c).map (·.1)).eraseDups
  let vals := keys.foldl (fun t k => match entryOf k with
    | some e => if e.stored then t.put k e.obj.dflt (s.entryVal e) else t
    | none => t) (Tbl.put [] Obj.rtcSeconds.key 0 (s.rtcNow : Int))
  { vals := vals, strs := s.strs.a }

/-- The values of an image that channel `c` holds: a per-channel object only in its channel (R62). -/
def Image.valsOf (m : Image) (c : Ch) : Tbl Int :=
  m.vals.filter fun p => match entryOf p.1 with
    | some e => match e.desc.home with
      | .chan => e.i == c.num
      | _ => true
    | none => false

/-- Objects that MRAM keeps beside the image: the change log's, PW_FAIL_COUNT and TWIN_EPOCH (R440, R442, R401). -/
def keptKey (key : Nat) : Bool :=
  (key / 256 == 0x7800 && !(key % 256 == 1)) || key == Obj.pwFailCount.key || key == Obj.twinEpoch.key

/-- The banks that an image selects (R210). -/
def Image.banks (m : Image) : List (Nat × Nat) :=
  m.vals.filterMap fun p => match entryOf p.1 with
    | some e => if e.desc.role = .bankSelect then some (e.i, p.2.toNat) else none
    | none => none

/-- Channel `c` takes an image as its configuration: its registers beyond the stored ones stand as in the other channels, its
own status objects at their defaults (R135), and its tasks use the banks selected. The first load sets the RTC. -/
def State.loadImage (s : State) (c : Ch) (m : Image) : State :=
  let keep := (s.regs.get c).filter fun p => match entryOf p.1 with
    | some e => !e.stored && e.desc.home != .chan
    | none => true
  let regs := (m.valsOf c).foldl (fun (t : Tbl Int) p => Tbl.place (Tbl.erase t p.1) p.1 p.2) keep
  let s := if s.su.loaded == Trio.all false then
      { s with power := { s.power with rtc := ((m.vals.getD Obj.rtcSeconds.key 0).toNat, s.now) } }
    else s
  let s := { s with regs := s.regs.set c regs, strs := s.strs.set c m.strs
                    su := { s.su with loaded := s.su.loaded.set c true } }
  forEach m.banks s fun s p => s.updTaskSt c p.1 fun x => { x with bank := p.2 }

/-- CMD_MAP_SIGNATURE and STATUS_MAP_SIGNATURE of a map (R105). -/
def State.mapSignature (s : State) (count : Obj) (entry : Nat → Obj) : Nat :=
  crc16 (leBytesInt 2 (s.v count) ++ (upto (s.vn count)).flatMap fun i => leBytesInt 4 (s.v (entry i)))

/-- The signatures of port `p` are computed anew (R105). -/
def State.signMaps (s : State) (p : Nat) : State :=
  (s.setR (Obj.cmdMapSignature p) (s.mapSignature (Obj.cmdMapCount p) (Obj.cmdMapEntry p) : Nat)).setR
    (Obj.statusMapSignature p) (s.mapSignature (Obj.statusMapCount p) (Obj.statusMapEntry p) : Nat)

/-- A configuration that enables the cyclic exchange of a port sets CYCLIC_ENABLE with it (R105). -/
def State.signLoaded (s : State) : State :=
  forEach (upto 2) s fun s p => if s.v (Obj.cyclicEnable p) = 1 then s.signMaps p else s

/-- The image that a majority of the checking images holds (R521). -/
def State.majorityImage (s : State) : Option Image :=
  let ok := Ch.all.filter s.su.imageOk.get
  let img := s.su.images.get
  (ok.find? fun c => ok.any fun d => d != c && img d == img c).map img

/-- A bit of SU_STATUS is set (R526). -/
def State.suFlag (s : State) (n : Nat) : State := s.bitR Obj.suStatus n true

/-- A repair or a default load is recorded (R521); its object is taken as STORE_ALL or RESTORE_DEFAULTS (log entry 22). -/
def State.noteConfig (s : State) (index : Nat) : State := s.logChange index 1 logDevice [] [] false

/-- In FIELD a stored SPLIT of a safety-rated axis becomes LOCKED in the configuration and its image (R490). -/
def State.lockRated (s : State) : State :=
  if s.life.state ≠ 3 then s
  else
    let ns := (upto 32).filter fun n => s.v (Obj.axRedundMode n) == 1 && s.v (Obj.axSafetyRated n) == 1
    forEach ns s fun s n =>
      let s := (s.setR (Obj.axRedundMode n) 0).logChange (0x2840 + n) 1 logDevice (leBytes 2 1) (leBytes 2 0) false
      { s with su := { s.su with images := s.su.images.map fun m => { m with vals := m.vals.erase (Obj.axRedundMode n).key } } }

/-- The load of step 2 in channel `c` (R521): the majority image, repaired where the channel's own does not agree; without a
majority every channel loads the defaults. -/
def State.configLoad (s : State) (c : Ch) : State :=
  match s.majorityImage with
  | some m =>
    let own := s.su.imageOk.get c && s.su.images.get c == m
    let s := s.loadImage c m
    if own then s
    else
      let s := { s with su := { s.su with images := s.su.images.set c m, imageOk := s.su.imageOk.set c true } }
      (s.suFlag 0).noteConfig 0x1010
  | none =>
    let s := forEach (Ch.all.filter s.arch.alive.get) s fun s d => s.loadImage d {}
    let s := { s with su := { s.su with images := Trio.all {} } }
    if s.isBit Obj.suStatus 1 then s else (s.suFlag 1).noteConfig 0x1011

/-- The life-cycle cells of the channels that run are read and exchanged (R487): the most advanced state counts and is
programmed into the others. -/
def State.readCells (s : State) : State :=
  let l := s.life
  let cs := Ch.all.filter s.arch.alive.get
  let top := cs.foldl (fun m c => max m (l.cells.get c)) 0
  let same := cs.all fun c => l.cells.get c == top
  let prog := fun c => if s.arch.alive.get c then top else l.cells.get c
  ({ s with life := { l with state := top, cells := ⟨prog .chA, prog .chB, prog .chC⟩, disagree := l.disagree || !same } } :
    State).setR Obj.lcState (top : Nat)

/-- A pending erasure of a channel is completed (R492). -/
def State.resumeErasure (s : State) (c : Ch) : State :=
  if s.life.erasePending.get c && !s.life.eraseDone.get c then
    ({ s with life := { s.life with eraseDone := s.life.eraseDone.set c true } } : State).erase
  else s

-- power-on

/-- What a power-on leaves of the device (R3, R17, R89, R440, R442, R464, R487, R497): the content of MRAM and of the
life-cycle cells; everything else is as after reset, and device time starts again at 0 (R29; a lockout goes on for the time
that it has left, log entry 23). -/
def State.powerOn (s : State) : State :=
  let keep := fun (t : Tbl Int) => t.filter fun p => keptKey p.1
  { State.reset with
    used := s.used, sent := s.sent, pending := s.pending
    regs := s.regs.map keep
    safe := { pwHash := s.safe.pwHash, pwSalt := s.safe.pwSalt, lockEnd := s.safe.lockEnd.map (· - s.now), lockLen := s.safe.lockLen
              log := s.safe.log }
    twin := { paired := s.twin.paired, key := s.twin.key }
    fab := { key0 := s.fab.key0, key1 := s.fab.key1 }
    sed := s.sed.map fun d => { slots := d.slots, sumSeq := d.sumSeq }
    power := { mramPtr := s.power.mramPtr, sweepAt := s.power.sweepAt }
    life := { cells := s.life.cells, erasePending := s.life.erasePending, eraseDone := s.life.eraseDone
              eraseFail := s.life.eraseFail, state := s.life.state }
    su := { images := s.su.images } }

/-- All three channels are in reset after having run: the next release is a power-on. -/
def State.isOff (s : State) : Bool :=
  Ch.all.all (fun c => !s.arch.alive.get c) && Ch.all.any fun c => (s.su.released.get c).isSome

/-- The work of PORST_RELEASE in channel `c` (R44, R517, steps 1 and 2): straps, configuration, cells, erasure, summaries.
The device's configuration counts from the first load on. -/
def State.release1 (s : State) (c : Ch) (straps : Nat) (imageOk : Bool) (bad : List (Nat × Nat)) : State :=
  let s := { s with
    arch := { s.arch with alive := s.arch.alive.set c true }
    su := { s.su with released := s.su.released.set c (some s.now), straps := s.su.straps.set c (some (straps % 256))
                      imageOk := s.su.imageOk.set c imageOk } }
  let s := (((s.setStep c 0).failStep c 0).configLoad c).signLoaded
  let s := (s.readCells.lockRated).startPins c
  (((s.resumeErasure c).checkSummaries c bad).findNewest c)

/-- PORST_RELEASE (R44, R517, R521): `straps` are the NID balls, `imageOk` whether the channel's image checks, `badBlocks`
the damage that the check of its summary slots finds. A release while asleep is a wake event of code 8 (R459). -/
def execPorstRelease (t : Nat) (c : Ch) (straps : Nat) (imageOk : Bool) (badBlocks : List (Nat × Nat)) (s : State) : Res :=
  s.runPowerOn t fun s =>
    if s.arch.alive.get c then s
    else
      let s := if s.isOff then s.powerOn else s
      let s := s.release1 c straps imageOk badBlocks
      if s.power.state = .run then s else s.wake c 8

/-- PLL_LOCK (R517 step 1): within 0.5 ms of the release; later, or after that time, the channel takes a CLOCK fault. -/
def execPllLock (t : Nat) (c : Ch) (s : State) : Res :=
  s.run t fun s =>
    match s.su.released.get c with
    | some b =>
      if !s.arch.alive.get c || s.arch.started.get c || s.red.faulty.get c || s.vn (Obj.suFailStep c) != 0 then s
      else if b + 500 * us < s.now then (s.failStep c 1).channelFault c cfClock
      else
        let s := s.setStep c 1
        let s := { s with
          arch := { s.arch with started := s.arch.started.set c true }
          su := { s.su with step1 := s.su.step1.set c (some s.now) } }
        s.restartConverters c
    | none => s

/-- PORST_N_ASSERT (R36, R256): the channel enters reset. -/
def execPorstNAssert (t : Nat) (c : Ch) (s : State) : Res :=
  s.run t fun s => if s.arch.alive.get c then s.resetChannel c else s

-- the meeting at step 4 (R321, R322, R518 to R520)

/-- The channels at step 4: arrived, and not stopped or faulty. -/
def State.atStep4 (s : State) : List Ch := Ch.all.filter fun c => (s.su.arrived.get c).isSome && s.starting c

/-- The meeting of step 4 is complete (R518, R519): at least two channels are there, and every other is faulty. -/
def State.meets4 (s : State) : Bool :=
  2 ≤ s.atStep4.length && Ch.all.all fun c => s.atStep4.contains c || s.red.faulty.get c

/-- One run of the test (R321, R322, R327): `flagged` gives the injections flagged in each channel, bit j for
injection j. -/
def State.inject (s : State) (flagged : Trio Nat) : State :=
  let cs := s.atStep4
  let fl := fun c => if cs.contains c then flagged.get c % 64 else 0
  let s := s.setR Obj.injResult ((fl .chA + 256 * fl .chB + 65536 * fl .chC : Nat) : Int)
  let s := s.setR Obj.injAttempts (min 2 (s.vn Obj.injAttempts + 1) : Nat)
  let s := if cs.length < 3 then s.suFlag 2 else s
  let s := if s.vn Obj.injAttempts = 2 then s.suFlag 3 else s
  if cs.all fun c => fl c == 63 then
    let s := forEach cs s fun s c => s.setStep c 4
    { s with
      red := { s.red with injRetry := none }
      su := { s.su with injDone := true }
      fab := { s.fab with discoveryAt := some s.now } }
  else if s.vn Obj.injAttempts < 2 then { s with red := { s.red with injRetry := some (s.now + 10 * ms) } }
  else
    let s := forEach cs s fun s c => s.failStep c 4
    { s with red := { s.red with injRetry := none }, su := { s.su with stopped := true } }

/-- COMPARATOR_INJECTION (R321): the first run, when the channels have met. -/
def execComparatorInjection (t : Nat) (flagged : Trio Nat) (s : State) : Res :=
  s.run t fun s => if s.meets4 && !s.su.injDone && s.vn Obj.injAttempts == 0 then s.inject flagged else s

/-- INJECTION_REPEAT (R322): 10 ms after a failed run, once. -/
def execInjectionRepeat (t : Nat) (flagged : Trio Nat) (s : State) : Res :=
  s.run t fun s =>
    match s.red.injRetry with
    | some b => if b ≤ s.now && !s.su.injDone then s.inject flagged else s
    | none => s

/-- A third channel is declared faulty for not having come (R518, R520): its start-up stops at its next step. -/
def State.leaveOut (s : State) (c : Ch) : State := (s.failStep c (min 10 (s.stepOf c + 1))).channelFault c cfBist

/-- MEET_WAIT_LIMIT (R520): 60 ms after the later of two arrivals at step 4, a missing third is declared faulty. -/
def execMeetWaitLimit (t : Nat) (s : State) : Res :=
  s.run t fun s =>
    match s.atStep4 with
    | [x, y] =>
      let at_ := max ((s.su.arrived.get x).getD 0) ((s.su.arrived.get y).getD 0)
      match Ch.all.find? fun c => c != x && c != y with
      | some c =>
        if at_ + 60 * ms ≤ s.now ∧ s.red.faulty.get c = false ∧ s.su.injDone = false then (s.leaveOut c).suFlag 6 else s
      | none => s
    | _ => s

-- steps 5 to 8

/-- Step 8 in one channel (R517): converters are calibrated, sources enabled, counters started and init lists sent. -/
def State.seedChannel (s : State) (c : Ch) : State :=
  let s := (s.startupCal c).enableSources c
  let s := forEach (upto 4) s fun s k =>
    if s.g c (Obj.bsMode c k) == 1 then s.updSlot c k fun x => { x with startFrom := some s.now } else s
  s.startInits c

/-- Steps 7 and 8 (R352, R517): the static placement, and the seeding, which ends when its work is done. -/
def State.placeAndSeed (s : State) : State :=
  let cs := Ch.all.filter fun c => s.starting c && 4 ≤ s.vn (Obj.suStep c)
  let s := s.adoptStatic
  let s := forEach s.enabledTasks s State.startTask
  let s := forEach cs s fun s c => s.setStep c 7
  (forEach cs s State.seedChannel).endSeeding

/-- Fabric discovery may end (R372). -/
def State.discoveryOver (s : State) : Bool :=
  match s.fab.discoveryAt with
  | none => false
  | some b =>
    b + 10 * ms ≤ s.now ||
      (s.fab.lsaChange + 2 * ms ≤ s.now && Ch.all.all fun c => (upto 4).all fun l => !s.laneOn c l ||
        s.laneState c l == laneNeighbour)

/-- FABRIC_DISCOVERY_END (R45, R372): the strap vote is made; an unpaired device goes on to steps 7 and 8, a spare waits for
a pair to watch, and a paired device begins the handshake (R402, R410). -/
def execFabricDiscoveryEnd (t : Nat) (s : State) : Res :=
  s.run t fun s =>
    if s.su.injDone && !s.su.discovered && s.discoveryOver then
      let s := { s with su := { s.su with discovered := true } }
      let s := s.strapVote
      let s := forEach (Ch.all.filter s.starting) s fun s c => if s.vn (Obj.suStep c) = 4 then s.setStep c 5 else s
      if s.twin.paired then s.startHandshake
      else (if s.isSpare then s.setTwinState 8 else s).placeAndSeed
    else s

/-- TWIN_HANDSHAKE_END (R402); during start-up steps 7 and 8 follow. -/
def execTwinHandshakeEnd (t : Nat) (s : State) : Res :=
  s.run t fun s =>
    if s.handshakeOver then
      let s := s.endHandshake
      if s.red.state = .startup ∧ s.su.discovered = true ∧ s.place.placed = false then s.placeAndSeed else s
    else s

-- the departure (R310, R518, R522)

/-- The channels that have ended step 8 and have not been declared faulty. -/
def State.ended8 (s : State) : List Ch := Ch.all.filter fun c => s.starting c && 8 ≤ s.vn (Obj.suStep c)

/-- Steps 9 and 10 (R486, R517, R523): permits may be granted, except in BLANK, RMA and VOID. -/
def State.grantPermits (s : State) (cs : List Ch) : State :=
  if s.life.state = 0 ∨ s.life.state = 4 ∨ s.life.state = 5 then s.suFlag 5
  else forEach cs s fun s c => s.setStep c 10

/-- The device leaves STARTUP (R310, R518): V is formed, HEALTH_AGE starts (R352), stored level requests wait for the next
commit instant (R522), and the idle timers start. -/
def State.leave (s : State) (cs : List Ch) : State :=
  let inV : Trio Bool := ⟨cs.contains .chA, cs.contains .chB, cs.contains .chC⟩
  let s := { s with red := { s.red with inV := inV, reachedDual := true }, su := { s.su with left := true } }
  let s := forEach cs s fun s c => s.setR (Obj.chState c) 1
  let s := s.enter (if cs.length = 3 then .nominal else .dual)
  let s := s.grantPermits cs
  let wait := fun c => if s.v (Obj.plRequest c) = s.v (Obj.plNow c) then none else some (s.vn (Obj.plRequest c))
  { s with
    place := { s.place with ageFrom := some s.now }
    power := { s.power with idleFrom := s.now, plWait := ⟨wait .chA, wait .chB, wait .chC⟩ } }

/-- STARTUP_EXIT (R518): at a commit instant, three channels have ended step 8, or two with the third faulty. -/
def execStartupExit (t : Nat) (s : State) : Res :=
  s.run t fun s =>
    let s := s.endSeeding
    let cs := s.ended8
    if isCommit s.now && !s.su.left &&
        (cs.length == 3 || (cs.length == 2 && Ch.all.all fun c => cs.contains c || s.red.faulty.get c)) then s.leave cs
    else s

/-- STARTUP_DEADLINE (R518): 150 ms after the earlier of two ready channels' step 1, the third is declared faulty. -/
def execStartupDeadline (t : Nat) (s : State) : Res :=
  s.run t fun s =>
    let s := s.endSeeding
    match s.ended8 with
    | [x, y] =>
      let at_ := min ((s.su.step1.get x).getD 0) ((s.su.step1.get y).getD 0)
      match Ch.all.find? fun c => c != x && c != y with
      | some c =>
        if isCommit s.now ∧ s.su.left = false ∧ s.red.faulty.get c = false ∧ at_ + 150 * ms ≤ s.now then
          ((s.leaveOut c).suFlag 4).leave [x, y]
        else s
      | none => s
    | _ => s

end Sys2Proof.Machine
end

