-- ==== Sys2Proof/Machine/Views.lean ====
section
/-! DEFINITION. The values that reads return (R56 to R63): status words and other objects whose value follows from the
state of a unit, the strings, and the DOMAIN objects. Everything else reads from its dictionary copy. -/

namespace Sys2Proof.Machine

/-- A register value made of flags, the first at bit 0. -/
def flags : List Bool → Int
  | [] => 0
  | b :: r => b2i b + 2 * flags r

/-- A set of numbers below `n` as a bit map. -/
def bitMap (n : Nat) (p : Nat → Bool) : Int := flags ((upto n).map p)

-- bridges, axes and groups

/-- BS_STATUS (R239). -/
def State.bsStatusNow (s : State) (c : Ch) (k : Nat) : Int :=
  let x := s.slot c k
  let a := s.arm c k
  flags [x.running, x.aligned, x.en, x.enrb, a.out, a.rb, a.held, x.repeated]

/-- The current limit of an axis, from its dq task in channel `c` (R248). -/
def State.limitOf (s : State) (c : Ch) (n : Nat) : Option Limit := (s.dqTaskOf n).map fun k => (s.taskSt c k).lim

/-- AX_CURRENT_STATUS (R252). -/
def State.axCurrentStatusNow (s : State) (c : Ch) (n : Nat) : Int :=
  let f := s.limitCfg n
  let permits := match s.bridgeOf n with
    | some (d, k) => [(s.slot d k).en, (s.arm d.before k).reported]
    | none => [false, false]
  let limit := match s.limitOf c n with
    | some x => [decide (x.h < 32768), decide (f.base < x.lb), decide (x.lb = f.boost), x.stall.isSome]
    | none => [false, false, false, false]
  flags (permits ++ limit ++ [(s.axis n).ocTripped.get c])

/-- PG_STATUS (R289). -/
def State.pgStatusNow (s : State) (n : Nat) : Int :=
  let x := s.gen n
  let lead := match s.groupOf n with
    | some (g, k) => match (s.group g).move with
      | some m => m.lead == k && x.inGroup
      | none => false
    | none => false
  let stopping := match x.mode with
    | .stopping _ => true
    | _ => false
  flags [x.moves, x.mode == .settling, x.still, x.pend.isSome, x.mode == .stopping true, stopping, x.tracks, lead]

/-- AG_STATUS (R291). -/
def State.agStatusNow (s : State) (g : Nat) : Int :=
  let x := s.group g
  let pending := x.pendTotal.isSome || x.pend.any fun p => p.2.isSome
  let reacts := (s.members g).any fun m =>
    !s.isRemote g m && (s.reaction (s.memberAxis g m) == 1 || s.reaction (s.memberAxis g m) == 2)
  flags [x.move.isSome, pending, decide (0 < s.v (Obj.agForceDeficit g)), reacts, x.unconfirmed]

-- redundancy and placement

/-- AX_REDUND_STATUS (R329): HANDOVER shows the copying from checkpoint N on (R317). -/
def State.axRedundStatusNow (s : State) (n : Nat) : Int :=
  let ho := fun v => (s.tasksOf n).any fun k => (s.task k).ho == v
  let h : Int := match (s.axis n).handover with
    | 1 => 1
    | 2 => if ho 3 then 2 else if ho 4 then 3 else 0
    | _ => 0
  b2i (s.axis n).split + 2 * h

/-- REDUND_STATUS (R324). -/
def State.redundStatusNow (s : State) : Int :=
  let v := fun c => s.red.inV.get c
  flags [v .chA, v .chB, v .chC, (upto 32).any fun n => (s.axis n).split, (upto 32).any fun n => (s.axis n).handover != 0,
    s.red.arb.isSome, s.red.supervising, s.anyDebug]

/-- SS_REMAINING in units of 10 ms (R323), rounded up. -/
def State.ssRemaining (s : State) : Nat :=
  if s.red.state = .single then ceilDiv (s.red.entry + s.vn Obj.ssBound * sec - s.now) (10 * ms) else 0

/-- PLAN_SITE (R330). -/
def State.planSiteNow (s : State) (k : Nat) : Int :=
  let r := s.task k
  let one := fun (c : Ch) => if r.computed.get c then 2 ^ (16 + c.num) + r.engines.get c * 2 ^ (4 * c.num) else 0
  if r.placed then (((if r.owner = 3 then 0 else one .chA + one .chB + one .chC) + r.owner * 2 ^ 30 : Nat) : Int) else 0

/-- TASK_PLACE_STATUS (R335). -/
def State.taskPlaceStatusNow (s : State) (k : Nat) : Int :=
  let r := s.task k
  let on := s.v (Obj.taskEnable k) == 1
  flags [on && r.placed, r.move.isSome, r.fallback, s.fixedSite k, s.onTwin k, on && r.unplaced, r.pinBroken]

/-- An engine of channel `c` is being emptied or is under test (R353). -/
def State.anyTest (s : State) (c : Ch) : Bool := (s.place.emptying.get c).isSome || (s.place.testing.get c).isSome

/-- PLAN_STATUS (R356). -/
def State.planStatusNow (s : State) : Int :=
  let p := s.place
  flags [p.run.isSome, p.held != 0 || p.merged != 0, s.enabledTasks.any fun k => (s.task k).move.isSome,
    Ch.all.any s.anyTest, p.adaptive, p.staticDev, s.enabledTasks.any fun k => (s.task k).unplaced]

/-- ENGINE_TEST_MAP (R358). -/
def State.engineTestMap (s : State) (c : Ch) : Int :=
  bitMap 16 fun e => s.place.emptying.get c == some e || s.place.testing.get c == some e

/-- OBJ_DESC with its read-only fields (R336): an entry of a dictionary object shows PLACED 0b01. -/
def State.objDescNow (s : State) (o : Nat) : Int :=
  let p := s.place.plan.objs.getD o 0
  let placed := if s.dictRef o = 0 then p % 4 else 1
  withField (s.v (Obj.objDesc o)) 1 3 (p / 4 % 2 + 2 * placed)

/-- TASK_STATUS as channel `c` holds it (R221). -/
def State.taskStatusNow (s : State) (c : Ch) (k : Nat) : Int := s.taskStatusOf k (s.taskSt c k)

-- host ports and the Sluice

/-- SLUICE_AGg (R122). -/
def State.sluiceNow (s : State) (g : Nat) : Int := (((s.sem g).code + 4 * (s.sem g).lapse : Nat) : Int)

/-- SLUICE_SUMMARY (R123). -/
def State.sluiceSummaryNow (s : State) : Int := (upto 16).foldl (fun a g => a + ((s.sem g).code : Int) * 4 ^ g) 0

/-- PORT_STATUS (R114). -/
def State.portStatusNow (s : State) (p : Nat) : Int :=
  let x := s.port p
  flags [x.running, x.silent, s.asPort == some p && s.isTimeMaster]

-- safety

/-- SI_STATUS (R423). -/
def State.siStatusNow (s : State) (c : Ch) (i : Nat) : Int :=
  let x := s.pair c i
  flags [x.inA == some true, x.inB == some true, x.nearMiss, x.value, x.start.isSome, x.discrepancy, x.lost]

/-- PW_STATUS (R447). -/
def State.pwStatusNow (s : State) : Int :=
  flags ([s.pwIsSet, s.lockedOut] ++ [Carrier.p0, .p1, .can0, .can1, .can2, .proxy].map s.unlocked)

/-- PW_LOCKOUT_LEFT in seconds (R446), rounded up. -/
def State.lockoutLeft (s : State) : Nat := match s.safe.lockEnd with
  | some e => ceilDiv (e - s.now) sec
  | none => 0

/-- SUPPLY_STATUS (R449). -/
def State.supplyStatusNow (s : State) (c : Ch) : Int := (s.safe.rails.get c % 32 : Nat) + 256 * b2i (s.safe.supply.get c)

-- fabric and twin

/-- FAB_STATUS (R387). -/
def State.fabStatusNow (s : State) : Int :=
  let degraded := fun c => !(s.plane c).degraded.isEmpty || !(s.plane c).noPath.isEmpty
  flags [Ch.all.any fun c => !(s.neighbours c).isEmpty, s.routes, s.fab.strapVoted && s.fab.addr == 0, s.fab.conflict,
    Ch.all.any degraded, s.timeRange, s.isTimeMaster]

/-- The UID that channel `c` knows for node `a` (R389). -/
def State.nodeUidOf (s : State) (c : Ch) (a : Nat) : Nat :=
  if a ≠ 0 ∧ a = s.fab.addr then Config.deviceUid
  else match (s.plane c).lsas.find? fun x => x.lsa.node == a with
    | some x => x.lsa.uid
    | none => 0

/-- NODE_UID: known when any plane knows it (R389). -/
def State.nodeUidNow (s : State) (a : Nat) : Nat :=
  ((Ch.all.map fun c => s.nodeUidOf c a).find? fun u => u != 0).getD 0

/-- The hops to node `a` on plane `c`. -/
def State.hopsOn (s : State) (c : Ch) (a : Nat) : Option Nat :=
  if s.fab.addr = 0 then none else hopsTo (s.edges c) a ((s.plane c).lsas.length + 1) s.fab.addr

/-- NODE_REACH (R389): the fewest hops over all planes, and the planes on which the node is reachable. -/
def State.nodeReachNow (s : State) (a : Nat) : Int :=
  let l := Ch.all.filterMap fun c => s.hopsOn c a
  let least := (l.foldl (fun (m : Option Nat) h => some (match m with
    | some x => min x h
    | none => h)) none).getD 0
  ((least * 256 + (if (s.hopsOn .chA a).isSome then 1 else 0) + (if (s.hopsOn .chB a).isSome then 2 else 0) +
    (if (s.hopsOn .chC a).isSome then 4 else 0) : Nat) : Int)

/-- FAB_KEY_ID: the CRC-32C of each key, 0 for a slot without one (R383, R386). -/
def State.fabKeyId (s : State) : Int :=
  let one := fun (k : List Byte) => if k.isEmpty then 0 else crc32c k
  ((one s.fab.key0 + one s.fab.key1 * 2 ^ 32 : Nat) : Int)

/-- TWIN_STATUS (R416). -/
def State.twinStatusNow (s : State) : Int :=
  let w := s.twin
  flags [w.lost, w.eligible, s.quiet, w.handback.isSome || w.peerHandback.isSome, s.standbyDegraded, w.spareHolds, w.forced]

/-- TWIN_ELIGIBLE_AGE in milliseconds, saturating (R406, R415). -/
def State.eligibleAge (s : State) : Nat := match s.twin.since with
  | some b => min 10000 ((s.now - b) / ms)
  | none => 0

-- reading one copy

/-- The value of an entry as channel `c` holds it (R56, R61, R62); a computed status is the same in every channel that
runs, but for the words that follow from a channel's own task state. -/
def State.view (s : State) (c : Ch) (e : Entry) : Int :=
  let i := e.i
  let d := chOf e.i
  match e.desc.role with
  | .count => e.desc.dflt i e.j
  | .portStatus => s.portStatusNow i
  | .planSite => s.planSiteNow i
  | .taskPlaceStatus => s.taskPlaceStatusNow i
  | .objDesc => s.objDescNow (i * 8 + e.m)
  | .planStatus => s.planStatusNow
  | .healthAge => s.healthAge
  | .moveMinPeriod => s.moveMin
  | .deviceScore => s.deviceScore
  | .twinScore => s.twinScore
  | .twinSpare => s.twinSpare
  | .engineUtil => (s.place.plan.util.get d).getD e.m 0
  | .noFallbackMap => s.place.plan.noFallback.get d
  | .engineTestMap => s.engineTestMap d
  | .sluiceAg => s.sluiceNow e.m
  | .sluiceSummary => s.sluiceSummaryNow
  | .redundState => s.red.state.num
  | .redundStatus => s.redundStatusNow
  | .ssRemaining => s.ssRemaining
  | .axRedundStatus => s.axRedundStatusNow i
  | .axFbStatus => s.axFbStatusNow i
  | .fpRaw => (s.settlePort d e.j).g c e.obj
  | .fpPos => (s.settlePort d e.j).g c e.obj
  | .fpStatus => (s.settlePort d e.j).g c e.obj
  | .cmpControl => (s.settlePort d e.j).g c e.obj
  | .cmpFireCount => (s.settlePort d e.j).g c e.obj
  | .cmpMergedCount => (s.settlePort d e.j).g c e.obj
  | .axExtrapPos => (s.extrapAt i s.now).pos
  | .ilimitNow => ((s.limitOf c i).map (·.ilimit)).getD 0
  | .loadEst => ((s.limitOf c i).map (·.l / 65536)).getD 0
  | .axCurrentStatus => s.axCurrentStatusNow c i
  | .agStatus => s.agStatusNow i
  | .agLostMap => (s.group i).lost
  | .pgControl => 0
  | .agControl => 0
  | .axFaultClear => 0
  | .restoreDefaults => 0
  | .clClear => 0
  | .sedRelease => 0
  | .cvSample => s.cvSampleNow d e.j
  | .grpStatus => s.grpStatusNow d e.j
  | .taskStatus => s.taskStatusNow c i
  | .dqStatus => if s.isDq i then s.g c e.obj else 0
  | .dqAngleOffset => if s.isDq i then s.g c e.obj else 0
  | .dqRecon => if s.isDq i then s.g c e.obj else 0
  | .dqSumLimit => if s.isDq i then s.g c e.obj else 0
  | .dqVdcSource => if s.isDq i then s.g c e.obj else 0
  | .dqVdcNominal => if s.isDq i then s.g c e.obj else 0
  | .traceControl => 0
  | .traceStatus => s.traceStatusNow i
  | .traceRecords => (s.trace i).recs.length
  | .bsStatus => s.bsStatusNow d e.j
  | .pgSetpoint => (s.gen i).setpoint
  | .pgVelNow => (s.gen i).velocity
  | .pgTargetNow => (s.gen i).tgt
  | .pgPending => (s.gen i).pend.getD 0
  | .pgStatus => s.pgStatusNow i
  | .siStatus => s.siStatusNow (chOf (i / 6)) (i % 6)
  | .pwStatus => s.pwStatusNow
  | .pwLockoutLeft => s.lockoutLeft
  | .supplyStatus => s.supplyStatusNow d
  | .pwrStatus => s.pwrStatusNow
  | .rtcSeconds => s.rtcNow
  | .mramSweepAge => s.sweepAge
  | .domainState => 0
  | .domainLast => s.power.domDeepest.getD i 0
  | .fabStatus => s.fabStatusNow
  | .fabKeyId => s.fabKeyId
  | .laneState => s.laneState d e.j
  | .lanePeerUid => (s.fabLane d e.j).peerUid
  | .lanePeerAddr => (s.fabLane d e.j).peerAddr
  | .lanePeerPos => (s.fabLane d e.j).peerPos
  | .nodeUid => s.nodeUidNow i
  | .nodeReach => s.nodeReachNow i
  | .twinStatus => s.twinStatusNow
  | .twinConfigDigest => s.configDigest
  | .twinEligibleAge => s.eligibleAge
  | .lcStatus => s.lcStatusNow
  | .sedStatus => s.sedStatusNow d
  | .deviceTime => s.deviceTime
  | .strapNidA => (s.su.straps.a.getD 0 : Nat)
  | .strapNidB => (s.su.straps.b.getD 0 : Nat)
  | .strapNidC => (s.su.straps.c.getD 0 : Nat)
  | .suStep => s.stepOf d
  | _ => s.g c e.obj

/-- The bytes of an ASCII text. -/
def ascii (t : String) : List Byte := t.toList.map fun c => BitVec.ofNat 8 c.toNat

/-- The value of a string object as channel `c` holds it (R3, R99, R446). -/
def State.viewStr (s : State) (c : Ch) (e : Entry) : List Byte :=
  match e.desc.role with
  | .deviceName => ascii "TS-4864-Q1"
  | .microcodeVersion => Config.microcodeVersion
  | .pwSalt => s.safe.pwSalt.getD Config.pwSalt.toList
  | .portMac =>
    let v := s.str c e.obj
    if v.isEmpty then (Config.portMac Config.deviceUid e.i).toList else v
  | .portIpv6Addr =>
    let v := s.str c e.obj
    let mac := s.str c (Obj.portMac e.i)
    let mac := if mac.isEmpty then (Config.portMac Config.deviceUid e.i).toList else mac
    if v.isEmpty then (Config.portIpv6 mac).toList else v
  | _ => s.str c e.obj

end Sys2Proof.Machine
end

