-- ==== Sys2Proof/Machine/Checks.lean ====
section
/-! DEFINITION. The checks of a read and of a write (R57, R58, R63, R83, R84), and the conditions that the chapters set
for each object.

Every condition that fails contributes its abort code and detail; the order of R83 decides which one is answered. A
condition on several objects is judged on the values that the write, or its group, would leave behind. -/

namespace Sys2Proof.Machine

/-- An abort: its code and detail (R83, R84). -/
abbrev Abort := Nat × Nat

/-- The place of an abort in the order of R83. -/
def Abort.rank (a : Abort) : Nat :=
  match a.1 with
  | 0x0601 => 2
  | 0x0602 => 3
  | 0x0604 => 4
  | 0x0605 => 4
  | 0x060D => 5
  | 0x0603 => 6
  | 0x0607 => 7
  | 0x0606 => 8
  | 0x060E => 9
  | 0x0608 => if a.2 = 0x0010 then 1 else 10
  | 0x0609 => 11
  | 0x060C => 12
  | _ => 13

/-- The abort of the first check of R83 that fails. -/
def firstAbort (l : List Abort) : Option Abort :=
  l.foldl (fun b a => match b with
    | none => some a
    | some x => if a.rank < x.rank then some a else b) none

/-- The abort `a` where `b` holds. -/
def failIf (b : Bool) (code : Nat) (detail : Nat := 0) : List Abort := if b then [(code, detail)] else []

-- what an entry is

/-- Check 4 of a write (R58). -/
def Entry.writable (e : Entry) : Bool :=
  match e.desc.acc with
  | .ro => false
  | .const => false
  | _ => true

/-- The channel that holds a per-channel object (R62, R63). -/
def Entry.channel (e : Entry) : Option Ch :=
  match e.desc.home, e.desc.role with
  | .chan, _ => some (chOf e.i)
  | _, .siStatus => some (chOf (e.i / 6))
  | _, .siNearMissCount => some (chOf (e.i / 6))
  | _, .siDiscMax => some (chOf (e.i / 6))
  | _, .siLastChange => some (chOf (e.i / 6))
  | _, .supplyStatus => some (chOf e.i)
  | _, .strapNidA => some .chA
  | _, .strapNidB => some .chB
  | _, .strapNidC => some .chC
  | _, .laneState => some (chOf e.i)
  | _, .laneCost => some (chOf e.i)
  | _, .lanePeerUid => some (chOf e.i)
  | _, .lanePeerAddr => some (chOf e.i)
  | _, .lanePeerPos => some (chOf e.i)
  | _, .laneCrcErrors => some (chOf e.i)
  | _, .laneDelay => some (chOf e.i)
  | _, .sedStatus => some (chOf e.i)
  | _, .sedEvents => some (chOf e.i)
  | _, .sedFreezeTime => some (chOf e.i)
  | _, .sedFreezeCause => some (chOf e.i)
  | _, .sedSumValid => some (chOf e.i)
  | _, .sedSumLock => some (chOf e.i)
  | _, .sedSumNewest => some (chOf e.i)
  | _, .sedSumDropped => some (chOf e.i)
  | _, .sedSuppressed => some (chOf e.i)
  | _, .sumEvents => some (chOf e.i)
  | _, .sumTrace => some (chOf e.i)
  | _, .opFaultMap => some (chOf e.i)
  | _, .opUntestedMap => some (chOf e.i)
  | _, .opFails => some (chOf e.i)
  | _, .opLastFail => some (chOf e.i)
  | _, _ => none

/-- The channel from which an entry is read: its own, or the recording channel of a trace's status and data (R230). -/
def State.holderOf (s : State) (e : Entry) : Option Ch :=
  match e.desc.role with
  | .traceStatus => Ch.ofNum? (s.vn (Obj.traceChannel e.i))
  | .traceTrigTime => Ch.ofNum? (s.vn (Obj.traceChannel e.i))
  | .traceRecords => Ch.ofNum? (s.vn (Obj.traceChannel e.i))
  | .traceDropped => Ch.ofNum? (s.vn (Obj.traceChannel e.i))
  | .traceData => Ch.ofNum? (s.vn (Obj.traceChannel e.i))
  | _ => e.channel

/-- The task of an object of a control task's records (R84, R198, R200, R330). -/
def Entry.task (e : Entry) : Option Nat :=
  let idx := e.key / 256
  if (0x2000 ≤ idx ∧ idx < 0x2200) ∨ (0x5000 ≤ idx ∧ idx < 0x5800) then some e.i else none

/-- The axis of a command object of an axis, and the group of one of a group (R60, R115). -/
def Entry.command (e : Entry) : Option (Nat ⊕ Nat) :=
  match e.desc.role with
  | .axHome => some (.inl e.i)
  | .axFaultClear => some (.inl e.i)
  | .axTorqueEnable => some (.inl e.i)
  | .pgTarget => some (.inl e.i)
  | .pgVmax => some (.inl e.i)
  | .pgAcc => some (.inl e.i)
  | .pgDec => some (.inl e.i)
  | .pgControl => some (.inl e.i)
  | .agForceTotal => some (.inr e.i)
  | .agControl => some (.inr e.i)
  | _ => none

/-- The semaphore that a command object belongs to (R115). -/
def State.commandGroup (s : State) (e : Entry) : Option (Option Nat) :=
  e.command.map fun x => match x with
    | .inl n => (s.groupOf n).map (·.1)
    | .inr g => some g

/-- The axes that a command object acts on. -/
def State.commandAxes (s : State) (e : Entry) : List Nat :=
  match e.command with
  | some (.inl n) => [n]
  | some (.inr g) => ((s.members g).filter fun m => !s.isRemote g m).map (s.memberAxis g)
  | none => []

/-- The enabled tasks that read converter `n` of channel `c` (R9, R241, R332). -/
def State.tasksReading (s : State) (c : Ch) (n : Nat) : List Nat :=
  s.enabledTasks.filter fun k =>
    (match s.dqSlot k with
      | some (d, b) => s.isDq k && d == c && (n / 3 == b || s.vn (Obj.dqVdcSource k) == n)
      | none => false) ||
    (!s.isDq k && (upto 3).any fun i =>
      let w := s.v (Obj.taskIn k i)
      field w 28 4 == 4 && field w 8 2 == c.num && field w 0 5 == n)

/-- The slots whose gate drivers a port serves (R258). -/
def portSlots (p : Nat) : List Nat := [2 * p, 2 * p + 1]

/-- The affected axes of an RWP object (R58). -/
def State.affected (s : State) (e : Entry) : List Nat :=
  let c := chOf e.i
  let src := fun (x : Src) => (s.axisOfSrc x).toList
  match e.desc.role with
  | .cycleTime => upto 32
  | .axFbSource => [e.i]
  | .axBridge => [e.i]
  | .agMode => ((s.members e.i).filter fun m => !s.isRemote e.i m).map (s.memberAxis e.i)
  | .agMember => ((s.members e.i).filter fun m => !s.isRemote e.i m).map (s.memberAxis e.i)
  | r =>
    match e.task with
    | some k => (s.taskAxis k).toList
    | none =>
      let idx := e.key / 256 % 256
      let blk := e.key / 65536
      if 0x40 ≤ blk ∧ blk ≤ 0x42 then (s.tasksReading c e.j).filterMap s.taskAxis
      else if 0x48 ≤ blk ∧ blk ≤ 0x4A then (if 0x80 ≤ idx then src (.resolver, c, e.j) else src (.port, c, e.j))
      else if 0x4C ≤ blk ∧ blk ≤ 0x4E then src (.sensor, c, e.j)
      else if 0x60 ≤ blk ∧ blk ≤ 0x62 then
        (if 0x40 ≤ idx ∧ idx < 0x50 then (portSlots e.j).filterMap (s.axisOf c)
        else if r = .gdInitCount ∨ r = .gdInitEntry then (portSlots (e.j / 2)).filterMap (s.axisOf c)
        else (s.axisOf c e.j).toList)
      else []

-- values

/-- The bytes of a value as the dictionary holds it. -/
def Entry.bytes (e : Entry) (v : Val) : List Byte := match v with
  | .num x => leBytesInt e.desc.ty.size x
  | .bytes b => b

/-- A type of variable length (R57). -/
def Ty.isString (t : Ty) : Bool := t == .visible || t == .octets

/-- The allowed lengths of a string object (R57, R99, R383, R446). -/
def stringLen (r : Role) (n : Nat) : Bool :=
  match r with
  | .portMac => n == 6
  | .portIpv6Addr => n == 16
  | .pwEnter => 8 ≤ n && n ≤ 32
  | .pwNew => 8 ≤ n && n ≤ 32
  | .fabAuthKey0 => n == 32
  | .fabAuthKey1 => n == 32
  | _ => false

/-- Check 6 of R83: the length and the type match. -/
def lengthOk (e : Entry) (v : Val) : Bool :=
  match v with
  | .num _ => !e.desc.ty.isString && e.desc.ty != .domain
  | .bytes b => e.desc.ty.isString && stringLen e.desc.role b.length

/-- A value of bytes as it is written to an object of the entry's type (R57). -/
def decodeVal (e : Entry) (b : List Byte) : Option Val :=
  if e.desc.ty.isString then some (.bytes b)
  else if e.desc.ty = .domain ∨ b.length ≠ e.desc.ty.size then none
  else
    let n := ofLeBytes b
    some (.num (if e.desc.ty.signed && 2 ^ (8 * b.length - 1) ≤ n then (n : Int) - 2 ^ (8 * b.length) else n))

/-- A set of bits is within the given mask of bit numbers. -/
def withinBits (v : Int) (l : List Nat) : Bool := (upto 64).all fun i => !bit v i || l.contains i

/-- A signal reference is one of those of R332: its kind is defined, and its bits name what the kind takes. -/
def refKindOk (v : Int) : Bool :=
  match field v 28 4 with
  | 0 => v == 0
  | 4 => field v 8 2 ≤ 2 && field v 0 5 ≤ 19 && field v 5 3 == 0 && field v 10 18 == 0
  | 5 => match findObj (field v 8 16) (field v 0 8) with
    | some e => field v 24 4 == 0 && (e.desc.ty == .int16 || e.desc.ty == .int32 || e.desc.ty == .q15)
    | none => false
  | 1 => field v 0 28 ≤ 2047
  | 2 => field v 0 28 ≤ 31
  | 3 => field v 0 28 ≤ 31
  | _ => false

/-- A node address of a stream: 0x01 to 0xFE, or 0x00 where the field names none (R31). -/
def nodeRef (n : Nat) : Bool := n ≤ 0xFE

/-- The value rule of one object by itself (R57 and the Range column of each table). -/
def rangeOk (e : Entry) (v : Int) : Bool :=
  let n := v.toNat
  match e.desc.role with
  | .portIpv4Prefix => true
  | .kdpSegSizeUdp => n % 2 == 0
  | .kdpCanRates => n / 256 ≤ 1 && 1 ≤ n % 256 && n % 256 ≤ 5
  | .cycleTime => n % 100 == 0
  | .taskPeriod => n % 10 == 0
  | .taskDeadline => n == 0 || 10 ≤ n
  | .taskAxis => n ≤ 31 || n == 255
  | .taskIn => refKindOk v
  | .taskOut => n ≤ 2047 || n == 0xFFFF
  | .taskPin => field v 14 2 < 2 || field v 8 2 ≤ 2
  | .taskStatic => n == 0xFFFF || field v 8 2 ≤ 2
  | .taskType => n ≤ 6
  | .objDesc => field v 4 4 != 0 && field v 8 16 % 4 == 0
  | .axFbSource =>
    let i := field v 0 4
    match field v 12 4 with
    | 0 => true
    | 1 => field v 8 2 ≤ 2 && i < 8
    | 2 => field v 8 2 ≤ 2 && i < 6
    | 3 => field v 8 2 ≤ 2 && i < 3
    | _ => false
  | .axBridge => !bit v 15 || field v 8 2 ≤ 2
  | .decimRatio => [16, 32, 64, 128, 256, 512, 1024].contains n
  | .cvSlotBind =>
    if e.j ≤ 11 then n == e.j / 3 || n == 255 else if e.j ≤ 17 then n ≤ 3 || n == 255 else n == 255
  | .cvStatusClear => withinBits v [2, 3]
  | .fpStatusClear => withinBits v [3, 5, 8]
  | .spStatusClear => withinBits v [3]
  | .psi5SyncPeriod => n % 10 == 0
  | .dqVdcSource => (12 ≤ n && n ≤ 17) || n == 255
  | .siWake => n == 0 || e.i % 6 == 0
  | .quietAxis => n ≤ 31 || n == 255
  | .quietGroup => n ≤ 15 || n == 255
  | .streamDesc => e.i * 8 + e.m < 0xFF0 && field v 36 12 ≤ 3840 && nodeRef (field v 48 8) && nodeRef (field v 56 8)
  | .sedTraceRate => [1000, 2000, 5000, 10000, 20000].contains n
  | .sedTraceNode => refKindOk v
  | _ => true

/-- The content rule of a string value (R57, R99). -/
def contentOk (e : Entry) (b : List Byte) : Bool :=
  match e.desc.ty, e.desc.role with
  | .visible, _ => b.all fun x => 0x20 ≤ x.toNat && x.toNat ≤ 0x7E
  | _, .portMac => match b with
    | x :: _ => x.toNat % 2 == 0
    | [] => false
  | _, _ => true

-- the values that a write leaves behind

/-- The copies of an entry's object take a value, with no other effect (R61, R62); the reserved bits of a stream descriptor
read 0 (R6). -/
def State.rawSet (s : State) (e : Entry) (v : Val) : State :=
  match v with
  | .num x =>
    let x := if e.desc.role = .streamDesc then withField (withField x 7 29 0) 1 1 0 else x
    match e.desc.home with
    | .chan => s.setC (chOf e.i) e.obj x
    | _ => s.setR e.obj x
  | .bytes b => s.setStr e.obj b

-- relations between objects (check 7), on the values left behind

/-- T_PWM of a slot in units of 1/300 µs (R237). -/
def State.pwmPeriod (s : State) (c : Ch) (b : Nat) : Nat := 2 * s.gn c (Obj.pwmTop c b)

/-- The sensing of slot `b` fits its period and its checkpoint offset, and an enabled dq pair fits its engines (R131). -/
def State.sensingOk (s : State) (c : Ch) (b : Nat) : Bool :=
  ((s.boundConverters c b).all fun n =>
    let nm := s.gn c (Obj.sincOrder c n) * s.gn c (Obj.decimRatio c n)
    (nm * 8 ≤ s.pwmPeriod c b) && s.delivery c n + 600 ≤ 10 * s.gn c (Obj.ckptOffset c b)) &&
  match s.enabledTasks.find? fun k => s.isDq k && s.dqSlot k == some (c, b) with
  | none => true
  | some k =>
    let d := s.present
    Ch.all.all fun x => match d.engine x k with
      | some e => fits (s.vn Obj.utilCap) 0 ((d.on x e).map (s.load (s.clocks.get x)))
      | none => true

/-- The sensing of the slot that converter `n` is bound to (R131). -/
def State.bindingOk (s : State) (c : Ch) (n : Nat) : Bool :=
  let b := s.gn c (Obj.cvSlotBind c n)
  3 < b || s.sensingOk c b

/-- The conditions of an enabled dq task (R240). -/
def State.dqEnableOk (s : State) (k : Nat) : Bool :=
  match s.dqSlot k with
  | none => false
  | some (c, b) =>
    s.g c (Obj.bsMode c b) == 1 && ((upto 3).all fun i => s.g c (Obj.cvSlotBind c (3 * b + i)) == b) &&
      (s.v (Obj.dqVdcSource k) == 255 || s.g c (Obj.cvSlotBind c (s.vn (Obj.dqVdcSource k))) == b)

/-- Every enabled dq pair still meets R240. -/
def State.dqAllOk (s : State) : Bool := s.enabledTasks.all fun k => !s.isDq k || s.dqEnableOk k

/-- The number of inputs that a task type reads (R333). -/
def inputsOf (ty : Nat) : Nat :=
  match ty with
  | 1 => 3
  | 2 => 2
  | 3 => 1
  | 4 => 2
  | 5 => 2
  | 6 => 1
  | _ => 0

/-- The conditions of TASK_ENABLE 1 (R199, R240, R333). -/
def State.enableOk (s : State) (k : Nat) : Bool :=
  let ty := s.taskTy k
  let kind := fun i => field (s.v (Obj.taskIn k i)) 28 4
  let o := s.vn (Obj.taskOut k)
  ty != 0 && ((upto 3).all fun i => if i < inputsOf ty then kind i != 0 else kind i == 0) &&
    (if ty = 2 then o == 0xFFFF && s.dqEnableOk k
    else o == 0xFFFF ||
      (s.objSize o == 4 && s.dictRef o == 0 && (s.writersOf o).all fun j => j == k)) &&
    (ty != 3 || s.v (Obj.taskAxis k) != 255)

/-- The conditions of RES_ENABLE 1 (R172). -/
def State.resolverOk (s : State) (c : Ch) (k : Nat) : Bool :=
  let a := 12 + 2 * k
  let b := 13 + 2 * k
  let f := s.gn c (Obj.resExcFreq c k)
  let same := fun (o : Ch → Nat → Obj) => s.g c (o c a) == s.g c (o c b)
  let nm := s.gn c (Obj.sincOrder c a) * s.gn c (Obj.decimRatio c a)
  s.g c (Obj.cvSlotBind c a) == 255 && s.g c (Obj.cvSlotBind c b) == 255 && same Obj.sincOrder && same Obj.decimRatio &&
    same Obj.windowAlign && decide (2 * nm * f ≤ 75000000) && decide (s.gn c (Obj.resPhase c k) * f < 1000000000) &&
    decide (10 * s.gn c (Obj.resBw c k) ≤ f)

/-- PG_VMAX of an axis on a port in output mode stays below its step rate (R268). -/
def State.stepRateOk (s : State) (n : Nat) : Bool :=
  match s.sourceOf n with
  | some (.port, c, p) =>
    s.g c (Obj.fpMode c p) != 4 || s.vn (Obj.pgVmax n) ≤ 65536 * 150 / max 15 (2 * s.gn c (Obj.stepWidth c p))
  | _ => true

/-- The shares of a group of mode 2 do not sum to 0 (R281). -/
def State.sharesOk (s : State) (g : Nat) : Bool :=
  s.v (Obj.agMode g) != 2 || (s.members g).any fun m => s.v (Obj.agShare g m) != 0

/-- Every local member of a group of mode 2 is a force axis (R280). -/
def State.forceMembersOk (s : State) (g : Nat) : Bool :=
  s.v (Obj.agMode g) != 2 || (s.members g).all fun m => s.isRemote g m || s.isForceAxis (s.memberAxis g m)

/-- A member axis stands in no other place of any group (R276). -/
def State.memberUnique (s : State) (g m : Nat) : Bool :=
  !s.inUse g m || (upto 16).all fun h => (upto 8).all fun i =>
    (h == g && i == m) || !s.inUse h i || s.isRemote h i != s.isRemote g m || s.memberAxis h i != s.memberAxis g m

/-- The limits of a remote member are in the mirror set (R283). -/
def State.remoteLimitsOk (s : State) (g m : Nat) : Bool :=
  !s.isRemote g m ||
    let refs := s.mirrorSet.map s.dictRef
    let n := s.memberAxis g m
    [Obj.pgVmax n, Obj.pgAcc n, Obj.pgDec n, Obj.pgQsDec n].all fun o => refs.contains (refOf o)

/-- OUT_MIN does not exceed OUT_MAX, and the OUT_MAX of a dq task is not negative (R200, R245). -/
def State.limitsOk (s : State) (k b : Nat) : Bool :=
  decide (s.v (Obj.outMin k b) ≤ s.v (Obj.outMax k b)) && (!s.isDq k || decide (0 ≤ s.v (Obj.outMax k b)))

/-- Two host UDP ports do not coincide (R99). -/
def State.udpPortsOk (s : State) : Bool :=
  s.v (Obj.cyclicUdpPort 0) != s.v Obj.kdpUdpPort && s.v (Obj.cyclicUdpPort 1) != s.v Obj.kdpUdpPort

/-- A CAN identifier lies within its format (R90). -/
def State.canIdOk (s : State) (n : Nat) (v : Int) : Bool := s.v (Obj.kdpCanFormat n) == 1 || decide (v ≤ 0x7FF)

/-- The number of entries with MIRROR set stays within 256 (R336). -/
def State.mirrorCountOk (s : State) : Bool := s.mirrorSet.length ≤ 256

/-- An object that a task names as input is not confined to DRAM (R336). -/
def State.classOk (s : State) (o : Nat) : Bool := s.classAllow o != 4 || (s.readersOf o).isEmpty

/-- A bank holds what a rate limiter takes: RISE and FALL not negative, and shifts of 0 (R201). -/
def State.rateBankOk (s : State) (k b : Nat) : Bool :=
  (upto 2).all fun i => decide (0 ≤ s.v (Obj.coef k b i)) && s.v (Obj.shift k b i) == 0

/-- The relations that a write of an entry must leave (check 7 of R83). -/
def State.relationOk (s : State) (e : Entry) : Bool :=
  let c := chOf e.i
  let i := e.i
  match e.desc.role with
  | .cyclicUdpPort => s.udpPortsOk
  | .kdpUdpPort => s.udpPortsOk
  | .statusOffset => 2 * s.vn (Obj.statusOffset i) ≤ s.vn (Obj.cycleTime i)
  | .cycleTime => 2 * s.vn (Obj.statusOffset i) ≤ s.vn (Obj.cycleTime i)
  | .kdpCanReqId => s.canIdOk i (s.v (Obj.kdpCanReqId i))
  | .kdpCanRspBase => s.canIdOk i (s.v (Obj.kdpCanRspBase i) + 2)
  | .kdpCanRates => s.v (Obj.kdpCanFormat i) == 2 || s.vn (Obj.kdpCanRates i) % 256 ≤ 3
  | .taskPeriod => (s.vn (Obj.taskDeadline i) == 0 || s.vn (Obj.taskDeadline i) ≤ s.vn (Obj.taskPeriod i)) && s.rolePeriodsOk
  | .taskDeadline => s.vn (Obj.taskDeadline i) == 0 || s.vn (Obj.taskDeadline i) ≤ s.vn (Obj.taskPeriod i)
  | .taskAxis => s.rolePeriodsOk
  | .taskPin =>
    !s.isDq i || match s.dqSlot i with
      | some (d, _) => 2 ≤ s.pinMode i && s.pinCh i == d
      | none => 2 ≤ s.pinMode i
  | .taskType =>
    (s.taskTy i != 0 || s.v (Obj.taskEnable i) == 0) && (!s.isDq i || (s.limitsOk i 0 && s.limitsOk i 1)) &&
      (s.taskTy i != 6 || (s.rateBankOk i 0 && s.rateBankOk i 1))
  | .traceTrigNode =>
    if s.v (Obj.traceTrigSrc i) = 6 then s.vn (Obj.traceTrigNode i) ≤ 511 else nodeDefined (s.vn (Obj.traceTrigNode i))
  | .taskEnable => s.v (Obj.taskEnable i) == 0 || (s.enableOk i && s.rolePeriodsOk)
  | .dqVdcSource => s.dqAllOk
  | .axBridge =>
    let w := s.v (Obj.axBridge i)
    (!bit w 15 || (upto 32).all fun n => n == i || s.bridgeOf n != s.bridgeOf i) && s.dqAllOk
  | .bsMode => s.dqAllOk
  | .sincOrder => s.bindingOk c e.j
  | .decimRatio => s.bindingOk c e.j
  | .windowAlign => s.bindingOk c e.j
  | .cvSlotBind => s.bindingOk c e.j && s.dqAllOk
  | .pwmTop =>
    (3 * s.gn c (Obj.ckptOffset c e.j) + 750 ≤ s.pwmPeriod c e.j) && s.gn c (Obj.pwmPhase c e.j) < s.pwmPeriod c e.j &&
      s.sensingOk c e.j
  | .pwmPhase => s.gn c (Obj.pwmPhase c e.j) < s.pwmPeriod c e.j
  | .ckptOffset => (3 * s.gn c (Obj.ckptOffset c e.j) + 750 ≤ s.pwmPeriod c e.j) && s.sensingOk c e.j
  | .resEnable => s.g c (Obj.resEnable c e.j) == 0 || s.resolverOk c e.j
  | .axFbSource =>
    (s.sourceOf i == none || (upto 32).all fun n => n == i || s.sourceOf n != s.sourceOf i) && s.stepRateOk i
  | .stepWidth => match s.axisOfSrc (.port, c, e.j) with
    | some n => s.stepRateOk n
    | none => true
  | .pgVmax => s.stepRateOk i
  | .baseLimit => decide (s.v (Obj.baseLimit i) ≤ s.v (Obj.boostLimit i))
  | .boostLimit => decide (s.v (Obj.baseLimit i) ≤ s.v (Obj.boostLimit i))
  | .outMax => s.limitsOk i e.j
  | .outMin => s.limitsOk i e.j
  | .coef => s.taskTy i != 6 || 2 ≤ e.m || decide (0 ≤ s.v e.obj)
  | .shift => s.taskTy i != 6 || 2 ≤ e.m || s.v e.obj == 0
  | .agMode => s.sharesOk i && s.forceMembersOk i
  | .agMember => s.memberUnique i e.m && s.sharesOk i && s.remoteLimitsOk i e.m
  | .agShare => s.sharesOk i
  | .objDesc => s.mirrorCountOk && s.classOk (i * 8 + e.m)
  | .twinSteerAxes => field (s.v Obj.twinSteerAxes) 0 32 &&& field (s.v Obj.twinBrakeAxes) 0 32 == 0 && s.rolePeriodsOk
  | .twinBrakeAxes => field (s.v Obj.twinSteerAxes) 0 32 &&& field (s.v Obj.twinBrakeAxes) 0 32 == 0 && s.rolePeriodsOk
  | .traceControl => s.v (Obj.traceControl i) != 1 || s.traceListOk i
  | _ => true

end Sys2Proof.Machine
end

