-- ==== Sys2Proof/Machine/Conditions.lean ====
section
/-! DEFINITION. The state conditions of reads and writes (checks 4, 5 and 8 to 13 of R83), object by object, and the full
check of a write. -/

namespace Sys2Proof.Machine

-- cyclic maps (R103, R104)

/-- The index that a map entry names. -/
def mapIndex (w : Int) : Nat := field w 16 16

/-- The subindex that a map entry names. -/
def mapSub (w : Int) : Nat := field w 8 8

/-- The bytes that a map entry takes in the payload. -/
def mapBytes (w : Int) : Nat := 2 * field w 0 8

/-- The checks of R104 on one entry of a command map or a status map, CYCLIC_ENABLE aside. -/
def mapEntryFails (w : Int) (cmd : Bool) : List Abort :=
  match findObj (mapIndex w) (mapSub w) with
  | none => if indexExists (mapIndex w) then [(0x0602, 0)] else [(0x0601, 0)]
  | some e =>
    let bad := match e.desc.acc with
      | .ro => cmd
      | .const => cmd
      | .rws => cmd
      | .rwp => cmd
      | .wo => !cmd
      | .rw => false
    failIf (e.desc.ty.isString || e.desc.ty == .domain || mapBytes w != e.desc.ty.size) 0x0603 ++ failIf bad 0x0607

/-- The checks of a write to a map on the values that it leaves behind: an entry within the count, or the entries that a
count brings into use. -/
def State.mapFails (s after : State) (e : Entry) : List Abort :=
  let p := e.i
  let one := fun cmd (w : Int) => mapEntryFails w cmd ++ failIf (s.v (Obj.cyclicEnable p) == 1) 0x0608
  let fresh := fun (count : Obj) => if 64 < after.vn count then [] else (upto (after.vn count)).filter fun i => s.vn count ≤ i
  match e.desc.role with
  | .cmdMapEntry => if e.m < after.vn (Obj.cmdMapCount p) then one true (after.v e.obj) else []
  | .statusMapEntry => if e.m < after.vn (Obj.statusMapCount p) then one false (after.v e.obj) else []
  | .cmdMapCount => (fresh (Obj.cmdMapCount p)).flatMap fun i => one true (after.v (Obj.cmdMapEntry p i))
  | .statusMapCount => (fresh (Obj.statusMapCount p)).flatMap fun i => one false (after.v (Obj.statusMapEntry p i))
  | _ => []

-- tasks, axes and groups

/-- A task moves between sites, or its axis is handed over (R84, R315, R318). -/
def State.taskBusy (s : State) (k : Nat) : Bool :=
  (s.task k).move.isSome ||
    match s.taskAxis k with
    | some n => (s.axis n).handover != 0
    | none => false

/-- A write to bank `b` of a task would meet its bank in use, or the bank that a pending swap brings into use (R200,
R212). -/
def State.bankFails (s : State) (k b : Nat) : List Abort :=
  failIf (s.v (Obj.taskEnable k) == 1 && (s.bankOf k == b || match (s.task k).swap with
    | some (x, _) => x == b
    | none => false)) 0x0608

/-- An arm of trace `k` finds no room in the pool or four armed traces on its engine (R223, R228). -/
def State.armFails (s : State) (k : Nat) : List Abort :=
  match s.ownerCh k with
  | none => []
  | some c =>
    failIf (decide (64 * 1048576 < s.poolUsed c k + s.traceNeed k) ||
      decide (4 ≤ ((s.armedOn c ((s.task k).engines.get c)).filter (· != k)).length)) 0x0608

/-- Conditions of the objects of tasks and traces. -/
def State.taskFails (s : State) (e : Entry) (v : Int) : List Abort :=
  let k := e.i
  let on := s.v (Obj.taskEnable k) == 1
  let held := failIf on 0x0608
  let dq := failIf (!s.isDq k) 0x0608
  let armed := failIf ((s.trace k).state == 1 || (s.trace k).state == 2) 0x0608
  match e.desc.role with
  | .taskPeriod => held
  | .taskDeadline => held
  | .taskAxis => held
  | .taskIn => held
  | .taskOut => held
  | .taskType => held
  | .coef => s.bankFails k e.j
  | .shift => s.bankFails k e.j
  | .outMax => s.bankFails k e.j
  | .outMin => s.bankFails k e.j
  | .dqAngleOffset => dq
  | .dqRecon => dq
  | .dqSumLimit => dq
  | .dqVdcSource => dq
  | .dqVdcNominal => dq
  | .traceControl => if v = 1 then s.armFails k else []
  | .traceNodes => armed
  | .traceDecim => armed
  | .traceLength => armed
  | .tracePre => armed
  | .traceTrigSrc => armed
  | .traceTrigNode => armed
  | .traceTrigLevel => armed
  | _ => []

/-- A target of axis `n` is refused: a reaction, tracking, or a group that commands its members itself (R216, R270,
R275, R276, R278). -/
def State.targetRefused (s : State) (n : Nat) : Bool :=
  s.reaction n != 0 || (s.gen n).tracks ||
    match s.groupOf n with
    | some (g, _) =>
      s.v (Obj.agMode g) == 2 || s.v (Obj.agMode g) == 3 ||
        (s.v (Obj.agMode g) == 1 && (s.members g).any fun m =>
          !s.isRemote g m && (s.reaction (s.memberAxis g m) == 1 || s.reaction (s.memberAxis g m) == 2))
    | none => false

/-- A total force of group `g` is refused (R216, R275, R278, R280). -/
def State.totalRefused (s : State) (g : Nat) : Bool :=
  s.v (Obj.agMode g) != 2 || (s.members g).any fun m =>
    !s.isRemote g m && (s.reaction (s.memberAxis g m) == 1 || s.reaction (s.memberAxis g m) == 2)

/-- The source of an axis has an index (R161, R164): a feedback port in mode 1 to 3 with FP_INDEX_MODE other than 0. -/
def State.hasIndex (s : State) (n : Nat) : Bool :=
  match s.sourceOf n with
  | some (.port, c, p) =>
    s.g c (Obj.fpIndexMode c p) != 0 && 1 ≤ s.g c (Obj.fpMode c p) && s.g c (Obj.fpMode c p) ≤ 3
  | _ => false

/-- Conditions of the objects of axes and groups. -/
def State.axisFails (s after : State) (e : Entry) (v : Int) : List Abort :=
  let n := e.i
  match e.desc.role with
  | .axHome =>
    failIf ((v == 1 || v == 2) && (s.sourceOf n).isNone) 0x0607 ++ failIf (v == 1 && !s.hasIndex n) 0x0607 ++
      failIf (v == 2 && !s.standstill n) 0x0608
  | .axFaultClear => failIf (!s.reactionDone n) 0x0608
  | .axRedundMode =>
    failIf (s.life.state == 3 && v == 1 && s.v (Obj.axSafetyRated n) == 1) 0x060D ++
      failIf (s.red.state == .single || s.red.state == .passive) 0x0608 ++ failIf ((s.axis n).handover != 0) 0x060C 0x21
  | .pgTarget => failIf (s.targetRefused n) 0x0608
  | .agForceTotal => failIf (s.totalRefused n) 0x0608
  | .agMember => failIf (after.inUse n e.m && after.isRemote n e.m && !s.twin.paired) 0x0608
  | _ => []

-- channel resources

/-- Conditions of the per-channel objects. -/
def State.channelFails (s : State) (e : Entry) (v : Int) : List Abort :=
  let c := chOf e.i
  let j := e.j
  match e.desc.role with
  | .calRequest => failIf ((upto 20).any fun n => bit v n && s.readByBridge c n) 0x0608
  | .diagInject => failIf (s.g c (Obj.cvEnable c (18 + j)) != 1) 0x0608 ++ failIf (s.diag c j).inj.isSome 0x060C
  | .fpPreset => failIf (s.axisOfSrc (.port, c, j)).isSome 0x0608
  | .spPreset => failIf (s.axisOfSrc (.sensor, c, j)).isSome 0x0608
  | .cmpControl => failIf (s.cmpTaken c j) 0x0608
  | _ => []

-- device functions

/-- The twin changes state: pairing, handshake, or a handback in progress (R409). -/
def State.twinChanging (s : State) : Bool :=
  s.vn Obj.twinState == 1 || s.vn Obj.twinState == 2 || s.twin.handback.isSome || s.twin.peerHandback.isSome ||
    match s.twin.unpairOwn with
    | some b => s.now < b + 10 * sec
    | none => false

/-- An object that TWIN_CONFIG_DIGEST covers (R391). -/
def State.covered (s : State) (e : Entry) : Bool :=
  match e.desc.role with
  | .twinSteerAxes => true
  | .twinBrakeAxes => true
  | .objDesc => bit (s.v e.obj) 0
  | _ => match e.task with
    | some k => s.roleTasks.contains k && (coveredOf k).contains (e.key / 256, e.key % 256)
    | none => false

/-- The conditions of TWIN_PAIR_CMD (R391, R393, R410); the command's own running change aborts with 0x060C (R409). -/
def State.pairFails (s : State) (cr : Carrier) (v : Int) : List Abort :=
  let common := s.allStill && s.unlocked cr && (s.red.state == .nominal || s.red.state == .dual) &&
    s.hasRoute (s.vn Obj.twinPeerAddr) && s.v Obj.twinPeerUid != 0
  let unpaired := s.v Obj.twinState == 0
  let alone := s.allStill && s.unlocked cr && (s.red.state == .nominal || s.red.state == .dual) && s.v Obj.twinPeerUid != 0
  (match v with
    | 1 => failIf (!common || !unpaired || s.isSpare) 0x0608
    | 2 => failIf (!common || unpaired) 0x0608
    | _ => failIf (!alone || unpaired || !s.twin.lost || decide (s.now < s.twin.lostAt + sec)) 0x0608) ++
    failIf (s.twinChanging && v != 3) 0x060C

/-- The conditions of SPARE_PAIR0 and SPARE_PAIR1 (R410). -/
def State.spareFails (s after : State) (v : Int) : List Abort :=
  let st := s.vn Obj.twinState
  failIf (s.v Obj.fabAuthMode == 0 || (v != 0 && st != 0 && st != 8 && st != 9) ||
    (s.isSpare && !after.isSpare && st == 9)) 0x0608

/-- The checks of LC_REQUEST in the order of R489: the first that fails. -/
def State.lcFails (s : State) (cr : Carrier) (v : Int) : List Abort :=
  if (s.lcTarget v).isNone then [(0x0607, 0)]
  else if cr.port?.isNone then [(0x0608, 7)]
  else if !s.unlocked cr then [(0x0606, 0)]
  else failIf (!s.allStill || ((upto 32).any fun n => (s.axis n).handover != 0) || s.kdp.store.isSome ||
    s.enabledTasks.any fun k => (s.task k).move.isSome) 0x0608

/-- A CAN carrier whose port does not allow safety writes (R86, R439). -/
def State.canBarred (s : State) (cr : Carrier) : Bool :=
  match cr.can? with
  | some n => s.v (Obj.kdpCanSafetyWrite n) == 0
  | none => false

/-- Conditions of the objects of the device's functions. -/
def State.deviceFails (s after : State) (cr : Carrier) (e : Entry) (v : Int) : List Abort :=
  match e.desc.role with
  | .restoreDefaults => failIf (!s.allStill || (upto 16).any fun g => (s.sem g).holder.isSome) 0x0608
  | .sluiceAg => failIf cr.port?.isNone 0x0609 7
  | .planRequest => failIf (v == 2 && !s.staticStill) 0x0608
  | .fabNodeAddr => failIf (s.nidSource == 0) 0x0608
  | .fabAuthKey0 => failIf (!s.unlocked cr) 0x0606
  | .fabAuthKey1 => failIf (!s.unlocked cr) 0x0606
  | .twinPairCmd => s.pairFails cr v
  | .sparePair0 => s.spareFails after v
  | .sparePair1 => s.spareFails after v
  | .pwNew => failIf (s.pwIsSet && !s.unlocked cr) 0x0606
  | .pwrRequest =>
    failIf (v == 1 && !s.isBit Obj.sleepEnable 1) 0x0608 ++
      failIf (v == 2 && (!s.isBit Obj.sleepEnable 2 || s.v Obj.vehicleParked == 0)) 0x0608
  | .sliceEnable => failIf (s.life.state == 3 && v == 0) 0x060D
  | .sedRelease => failIf (s.copiesIn v) 0x060C
  | .sedTraceRate => failIf (Ch.all.any fun c => (s.sed.get c).frozen) 0x0608
  | .sedTraceNode => failIf (Ch.all.any fun c => (s.sed.get c).frozen) 0x0608
  | _ => []

-- the whole check of a write

/-- The object is written only through the safety unlock and logged (R58, R383). -/
def Entry.isRws (e : Entry) : Bool := e.desc.acc == .rws || e.desc.role == .fabAuthKey0 || e.desc.role == .fabAuthKey1

/-- Check 5: the life-cycle state excludes the write, whatever its value (R315, R486, R494). -/
def State.lifeBars (s : State) (e : Entry) : Bool :=
  (e.desc.role == .axSafetyRated && s.life.state == 3) || (e.desc.role == .debugPermit && s.life.state != 2) ||
  match s.life.state with
  | 0 => e.desc.role != .lcRequest
  | 4 => e.desc.role != .lcRequest
  | 5 => true
  | _ => false

/-- The indices that a device in PASSIVE may still write (R313). -/
def passiveWritable (idx : Nat) : Bool := (0x1000 ≤ idx && idx ≤ 0x10FF) || (0xC000 ≤ idx && idx ≤ 0xC0FF)

/-- The checks on the twin's side of a write (R393, R398, R399, R409). -/
def State.twinFails (s after : State) (e : Entry) : List Abort :=
  let cov := s.covered e || after.covered e
  failIf (s.twin.paired && cov) 0x0608 ++ failIf (s.twinChanging && cov) 0x060C ++
    failIf (s.twin.paired && s.mirrorOk && !after.mirrorOk) 0x0608 ++
    failIf (!s.rolesRun && ((s.commandAxes e).any s.isRoleAxis)) 0x0608

/-- The semaphore check of a command object (check 11, R84, R115). -/
def State.semFails (s : State) (cr : Carrier) (e : Entry) : List Abort :=
  match s.commandGroup e with
  | none => []
  | some g => match cr.port? with
    | none => [(0x0609, 7)]
    | some p => match g with
      | some n => failIf ((s.sem n).holder != some p) 0x0609
      | none => [(0x0609, 0)]

/-- Checks of R83 that do not look at the value written: `rws` counts the RWS writes of the request up to and with this
one (check 9, R444). -/
def State.accessFails (s : State) (cr : Carrier) (e : Entry) (rws : Nat) : List Abort :=
  let pw := e.desc.role == .pwEnter
  failIf (!e.writable) 0x0604 ++ failIf (s.lifeBars e) 0x060D ++
    failIf (e.desc.acc == .rws && !s.unlocked cr) 0x0606 ++
    failIf (e.isRws && e.desc.role != .clClear && s.v Obj.clMode == 1 &&
      decide (1024 < s.safe.log.length + rws)) 0x060E ++
    failIf (match e.channel with | some c => s.red.faulty.get c | none => false) 0x0608 3 ++
    failIf (e.desc.acc == .rwp && (s.affected e).any fun n => !s.standstill n) 0x0608 ++
    failIf (s.red.state == .passive && !passiveWritable (e.key / 256)) 0x0608 ++
    failIf ((e.desc.acc == .rws || e.desc.acc == .rwp || pw) && s.canBarred cr) 0x0608 ++
    s.semFails cr e ++
    failIf (match e.task with | some k => s.taskBusy k | none => false) 0x060C 0x21 ++
    failIf s.kdp.store.isSome 0x060C 0x22

/-- Checks 6 and 7 on the value, and the state conditions that depend on it; `after` is the state that the write, or its
group, would leave behind. -/
def State.valueFails (s after : State) (cr : Carrier) (e : Entry) (v : Val) : List Abort :=
  failIf (!lengthOk e v) 0x0603 ++
    match v with
    | .bytes b =>
      failIf (!contentOk e b) 0x0607 ++ s.deviceFails after cr e 0
    | .num x =>
      failIf (x < e.desc.lo || e.desc.hi < x || !rangeOk e x || !after.relationOk e) 0x0607 ++
        s.mapFails after e ++ s.taskFails e x ++ s.axisFails after e x ++ s.channelFails e x ++ s.deviceFails after cr e x

/-- A PW_ENTER that the device does not take, and whether the wrong attempt counts (R439, R440). -/
def State.enterFails (s : State) (cr : Carrier) (v : Val) : List Abort × Bool :=
  if s.canBarred cr then ([(0x0608, 0)], false)
  else if s.lockedOut then ([(0x0606, 0)], false)
  else match v with
    | .bytes b => if s.pwIsSet && pwHashOf b == s.safe.pwHash then ([], false) else ([(0x0606, 0)], true)
    | .num _ => ([], false)

/-- The first check of R83 that a write fails; LC_REQUEST follows its own order (R489). -/
def State.writeFails (s after : State) (cr : Carrier) (e : Entry) (v : Val) (rws : Nat) : Option Abort :=
  let base := s.accessFails cr e rws
  let l := match e.desc.role, v with
    | .lcRequest, .num x =>
      let p := base.filter fun a => a.1 == 0x060D
      if p.isEmpty then (match firstAbort (s.lcFails cr x) with
        | some a => [a]
        | none => base) else p
    | .pwEnter, _ =>
      let p := base ++ s.valueFails after cr e v
      if p.isEmpty || s.canBarred cr then (s.enterFails cr v).1 ++ p else p
    | _, _ => base ++ s.valueFails after cr e v
  firstAbort (l ++ s.twinFails after e)

-- reads

/-- The slot that the summary copy of a channel writes (R511). -/
def State.slotBusy (s : State) (c : Ch) (k : Nat) : Bool :=
  match (s.sed.get c).copy with
  | some x => x.slot == k
  | none => false

/-- The checks of a read (R58, R63, R229, R511, R513). -/
def State.readFails (s : State) (e : Entry) : List Abort :=
  let c := chOf e.i
  let away := match e.desc.role with
    | .sedRing => false
    | .sedTrace => false
    | .sumHeader => false
    | _ => match s.holderOf e with
      | some d => s.red.faulty.get d
      | none => false
  let state := match e.desc.role with
    | .traceData => failIf ((s.trace e.i).state != 3 && (s.trace e.i).state != 4) 0x0608
    | .sedRing => failIf (!(s.sed.get c).frozen) 0x0608
    | .sedTrace => failIf (!(s.sed.get c).frozen) 0x0608
    | .sumHeader => failIf (s.slotBusy c e.j) 0x060C
    | .sumEvents => failIf (s.slotBusy c e.j) 0x060C
    | .sumTrace => failIf (s.slotBusy c e.j) 0x060C
    | _ => []
  failIf (e.desc.acc == .wo) 0x0605 ++ failIf away 0x0608 3 ++ state

/-- A read of an object that R75 leaves open before the device first reaches DUAL. -/
def earlyReadable (idx : Nat) : Bool := (0x1000 ≤ idx && idx ≤ 0x10FF) || 0xF000 ≤ idx

/-- The engines that hold a task's values: its sites in the channels that compute it. -/
def State.sitesOf (s : State) (k : Nat) : List (Ch × Nat) :=
  (Ch.all.filter fun c => (s.task k).placed && (s.task k).computed.get c).map fun c => (c, (s.task k).engines.get c)

/-- The entry belongs to a task's records in the engines. -/
def Entry.ofTask (e : Entry) : Bool := 0x50 ≤ e.key / 65536 && e.key / 65536 ≤ 0x57

/-- The entry is held in the IO domain: the units of the channels, and the safe inputs of pairs 1 to 5 (R421, R461). -/
def Entry.inIo (e : Entry) : Bool :=
  let blk := e.key / 65536
  (0x40 ≤ blk && blk ≤ 0x4F) || (0x60 ≤ blk && blk ≤ 0x62) ||
    match e.desc.role with
    | .siStatus => e.i % 6 != 0
    | .siNearMissCount => e.i % 6 != 0
    | .siDiscMax => e.i % 6 != 0
    | .siLastChange => e.i % 6 != 0
    | _ => false

/-- The entry's channel is off (R63). -/
def State.channelOff (s : State) (e : Entry) : Bool :=
  match s.holderOf e with
  | some c => !s.arch.alive.get c && !s.red.faulty.get c
  | none => false

/-- A request for the object waits for a domain (R63, R85, R461): the IO domain and the engines, an engine in NAP, or a
channel that is off. -/
def State.mustWake (s : State) (e : Entry) : Bool :=
  let nap := e.ofTask && (s.sitesOf e.i).any fun p => bit (s.power.nap.get p.1 : Int) p.2
  (e.inIo && !s.power.io) || (e.ofTask && !s.power.ce) || nap || s.channelOff e

end Sys2Proof.Machine
end

