-- ==== Sys2Proof/Machine/Write.lean ====
section
/-! DEFINITION. The effect of an accepted write, object by object (R61, R72), with its change-log entry (R442), the
instant at which it takes effect (R72, R81), and RESTORE_DEFAULTS (R89). -/

namespace Sys2Proof.Machine

/-- The effect of a write to CYCLIC_ENABLE (R105): setting it recomputes the signatures; clearing it drops the frames that
wait. -/
def State.writeCyclicEnable (s : State) (p : Nat) (v : Int) : State :=
  let s := s.setR (Obj.cyclicEnable p) v
  if v = 1 then s.signMaps p
  else s.updPort p fun x => { x with copies := [], frames := [], latched := none }

/-- The effect of a write to HOST_LANE_ENABLE (R93): a disabled lane has no link. -/
def State.writeHostLanes (s : State) (v : Int) : State :=
  (s.setR Obj.hostLaneEnable v).setR Obj.hostLaneStatus (bitMap 6 fun n => bit v n && s.isBit Obj.hostLaneStatus n)

/-- The effect of a write to TASK_ENABLE (R208, R344): the task starts with first use, or stops. -/
def State.writeTaskEnable (s : State) (k : Nat) (v : Int) : State :=
  let was := s.v (Obj.taskEnable k)
  let s := (s.setR (Obj.taskEnable k) v).planTrigger 16
  if was = v then s
  else if v = 1 then (s.updStream k fun _ => {}).startTask k
  else
    let s := s.stopTrace k 2
    s.updTask k fun r => { r with
      rel := Trio.all none, fin := Trio.all none, lastStart := none, swap := none
      st := match r.swap with
        | some (b, _) => r.st.map fun x => { x with bank := b }
        | none => r.st }

/-- The effect of a write to OBJ_DESC (R336, R344): a write to an entry in use triggers a replan. -/
def State.writeObjDesc (s : State) (o : Nat) (v : Int) : State :=
  let used := s.objSize o != 0 || s.dictRef o != 0
  let s := s.setR (Obj.objDesc o) (withField v 1 3 0)
  if used || s.objSize o != 0 || s.dictRef o != 0 then s.planTrigger 16 else s

/-- The effect of a write to a sensing parameter of a converter (R133, R135): a change invalidates its result, and the
converter starts over. -/
def State.writeSensing (s : State) (c : Ch) (n : Nat) (o : Obj) (v : Int) : State :=
  if s.g c o = v then s else ((s.setC c o v).clearResult c n).runFree c n true

/-- The effect of a write to CV_SLOT_BIND (R128): a converter that becomes free goes on without a gap. -/
def State.writeSlotBind (s : State) (c : Ch) (n : Nat) (v : Int) : State :=
  let s := s.setC c (Obj.cvSlotBind c n) v
  if v = 255 then s.runFree c n false else s

/-- The effect of a write to TWIN_PAIR_CMD (R391, R393). -/
def State.writePairCmd (s : State) (v : Int) : State :=
  match v with
  | 1 => s.startPairing
  | 2 => s.requestUnpair
  | _ => s.completeUnpair 3

/-- The effect of PASSIVE_REQUEST (R310): any state but STARTUP. -/
def State.requestPassive (s : State) : State := if s.red.state = .startup then s else s.enter .passive

/-- The effect of a new key (R382, R383). -/
def State.writeKey (s : State) (slot : Nat) (k : List Byte) : State :=
  { s with fab := if slot = 0 then { s.fab with key0 := k } else { s.fab with key1 := k } }

/-- Special effects of writes to host and task objects. -/
def State.writeTaskObj (s : State) (e : Entry) (v : Int) : Option State :=
  let k := e.i
  match e.desc.role with
  | .hostLaneEnable => some (s.writeHostLanes v)
  | .cyclicEnable => some (s.writeCyclicEnable k v)
  | .storeAll => some s
  | .asEnable => some (let s := s.setR (Obj.asEnable k) v; if v = 0 then s.loseGm k else s)
  | .taskEnable => some (s.writeTaskEnable k v)
  | .taskPin => some (let s := s.setR (Obj.taskPin k) v; if s.v (Obj.taskEnable k) == 1 then s.planTrigger 16 else s)
  | .intFrac => some ((s.setR (Obj.intFrac k) v).startTask k)
  | .bankSelect => some (s.writeBankSelect k v)
  | .traceControl => some (s.writeTraceControl k v)
  | .objDesc => some (s.writeObjDesc (k * 8 + e.m) v)
  | .utilCap => some ((s.setR Obj.utilCap v).planTrigger 16)
  | .engineMinScore => some ((s.setR Obj.engineMinScore v).planTrigger 16)
  | .twinPlaceEnable => some ((s.setR Obj.twinPlaceEnable v).planTrigger 16)
  | .planRequest => some (s.writePlanRequest v)
  | _ => none

/-- Special effects of writes to the objects of axes and groups. -/
def State.writeAxisObj (s : State) (e : Entry) (v : Int) : Option State :=
  let n := e.i
  match e.desc.role with
  | .axRedundMode => some (s.writeRedundMode n v)
  | .axFbSource => some (s.writeFbSource n v)
  | .axHome => some (s.writeHome n v)
  | .axFaultClear => some (s.clearFault n)
  | .agForceTotal => some ((s.writeForceTotal n v).restopGroup n)
  | .agControl => some (if v = 0 then s else s.stopAll n (v == 2))
  | .pgTarget => some (((s.setR (Obj.pgTarget n) v).setTarget n v).restop n)
  | .pgControl => some (if v = 0 then s else s.stopAxis n (v == 2))
  | _ => none

/-- Special effects of writes to per-channel objects. -/
def State.writeChanObj (s : State) (e : Entry) (v : Int) : Option State :=
  let c := chOf e.i
  let j := e.j
  match e.desc.role with
  | .cvEnable => some (s.writeSensing c j (Obj.cvEnable c j) v)
  | .sincOrder => some (s.writeSensing c j (Obj.sincOrder c j) v)
  | .decimRatio => some (s.writeSensing c j (Obj.decimRatio c j) v)
  | .cvSlotBind => some (s.writeSlotBind c j v)
  | .diagScanMask => some (s.writeScanMask c j v)
  | .cvStatusClear => some (s.clearCvStatus c j v)
  | .calRequest => some (s.requestCal c v)
  | .diagInject => some (s.injectDiag c j v)
  | .fpMode => some (s.writeFpMode c j v)
  | .fpInvert => some (s.writeInvert c j v)
  | .fpStatusClear => some (s.clearFpStatus c j v)
  | .fpPreset => some (s.preset (.port, c, j) v)
  | .cmpPosition => some (s.writeCmpPosition c j e.m v)
  | .cmpControl => some (s.writeCmpControl c j e.m v)
  | .resEnable => some (s.writeResEnable c j v)
  | .spMode => some (s.writeSpMode c j v)
  | .spStatusClear => some (s.clearSpStatus c j v)
  | .spPreset => some (s.preset (.sensor, c, j) v)
  | .bsMode => some (s.writeBsMode c j v)
  | .pwmTop => some (s.writeGrid c j (Obj.pwmTop c j) v)
  | .pwmPhase => some (s.writeGrid c j (Obj.pwmPhase c j) v)
  | _ => none

/-- Special effects of writes to the objects of the device's functions. -/
def State.writeDevObj (s : State) (cr : Carrier) (e : Entry) (v : Int) : Option State :=
  match e.desc.role with
  | .passiveRequest => some s.requestPassive
  | .siMode => some (s.writeSiMode e.i v)
  | .faultReset => some (s.writeFaultReset v)
  | .pwLock => some (s.closeUnlock cr)
  | .clClear => some (s.clearLog cr.num (leBytesInt 4 v))
  | .plRequest => some (s.writePlRequest (chOf e.i) v)
  | .pwrRequest => some (s.writePwrRequest v)
  | .domainMode => some (s.writeDomainMode e.i v)
  | .rtcSeconds => some (s.updPower fun p => { p with rtc := (v.toNat, s.now) })
  | .fabNodeAddr => some (s.writeNodeAddr v)
  | .fabLaneEnable => some (s.writeLaneEnable v)
  | .streamDesc => some ((s.rawSet e (.num v)).streamChanged (s.streamOn (e.i * 8 + e.m)) (e.i * 8 + e.m))
  | .twinPairCmd => some (s.writePairCmd v)
  | .sparePair0 => some (s.writeSparePair Obj.sparePair0 v)
  | .sparePair1 => some (s.writeSparePair Obj.sparePair1 v)
  | .lcRequest => some (match s.lcTarget v with
    | some n => s.changeLife cr.num n
    | none => s)
  | .debugPermit => some (s.writeDebugPermit v)
  | .sedTrigger => some (s.writeSedTrigger v)
  | .sedRelease => some (s.writeSedRelease v)
  | .sedTraceRate => some ((s.setR Obj.sedTraceRate v).restartSedTrace)
  | .sedTraceNode => some ((s.setR e.obj v).restartSedTrace)
  | _ => none

/-- The effect of a write of a number, RESTORE_DEFAULTS apart. -/
def State.writeNum (s : State) (cr : Carrier) (e : Entry) (v : Int) : State :=
  (((s.writeTaskObj e v).orElse fun _ => s.writeAxisObj e v).orElse fun _ =>
    (s.writeChanObj e v).orElse fun _ => s.writeDevObj cr e v).getD (s.rawSet e (.num v))

/-- An object returns to its default (R89): a command object by its value alone, any other as a write (log entry 21). -/
def State.restoreOne (s : State) (cr : Carrier) (e : Entry) : State :=
  if !e.writable || s.entryVal e == e.obj.dflt then s
  else if e.command.isSome then s.rawSet e (.num e.obj.dflt)
  else s.writeNum cr e e.obj.dflt

/-- RESTORE_DEFAULTS (R89): every object to its default, in ascending order of its key. -/
def State.restoreDefaults (s : State) (cr : Carrier) : State :=
  let keys := ((s.regs.a ++ s.regs.b ++ s.regs.c).map (·.1)).eraseDups
  let s := forEach keys s fun s k => match entryOf k with
    | some e => s.restoreOne cr e
    | none => s
  { s with strs := Trio.all [], power := { s.power with rtc := (0, s.now) } }

/-- The effect of a write of bytes. -/
def State.writeStr (s : State) (cr : Carrier) (e : Entry) (b : List Byte) : State :=
  match e.desc.role with
  | .fabAuthKey0 => s.writeKey 0 b
  | .fabAuthKey1 => s.writeKey 1 b
  | .pwEnter => s.openUnlock cr
  | .pwNew => s.newPassword cr b
  | _ => s.setStr e.obj b

/-- The bytes that an entry holds before a write, as the change log records them (R443). -/
def State.heldBytes (s : State) (e : Entry) : List Byte :=
  if e.desc.ty.isString then s.viewStr ((s.voters.head?).getD .chA) e
  else match e.desc.role with
    | .restoreDefaults => e.bytes (.num 0)
    | .sedRelease => e.bytes (.num 0)
    | _ => e.bytes (.num (s.entryVal e))

/-- The change-log entry of an RWS write (R442, R443); the unlock's idle time restarts (R439). -/
def State.logWrite (s : State) (cr : Carrier) (e : Entry) (v : Val) : State :=
  if !e.isRws || e.desc.role == .clClear then s
  else
    let secret := e.desc.role == .fabAuthKey0 || e.desc.role == .fabAuthKey1
    s.logChange (e.key / 256) (e.key % 256) cr.num (s.heldBytes e) (e.bytes v) secret

/-- An RWS write restarts the idle time of the carrier's open unlock (R439). -/
def State.touchUnlock (s : State) (cr : Carrier) (e : Entry) : State :=
  if e.isRws && (s.safe.unlocks.getD cr.num none).isSome then
    { s with safe := { s.safe with unlocks := s.safe.unlocks.put cr.num none (some s.now) } }
  else s

/-- The command of a port is applied to its group: a lapse ends (R119). -/
def State.noteCommand (s : State) (cr : Carrier) (e : Entry) : State :=
  match s.commandGroup e, cr.port? with
  | some (some g), some p => s.commandApplied g p
  | _, _ => s

/-- An accepted write takes effect (R61, R72): logged, applied in every channel, with the unlock's idle time and the lapse
of its group. -/
def State.applyWrite (s : State) (cr : Carrier) (e : Entry) (v : Val) : State :=
  let s := (s.logWrite cr e v).touchUnlock cr e
  let s := match v with
    | .num x => if e.desc.role == Role.restoreDefaults then s.restoreDefaults cr else s.writeNum cr e x
    | .bytes b => s.writeStr cr e b
  s.noteCommand cr e

-- when a write takes effect

/-- The running tasks that read an object in their iterations (R72); the inactive bank is read by none (R200), and a bank
swap waits at its own boundary (R210). -/
def State.readersOfEntry (s : State) (e : Entry) : List Nat :=
  let on := fun (l : List Nat) => l.filter s.iterates
  let own := match e.desc.role with
    | .intFrac => [e.i]
    | .intInit => [e.i]
    | .feLimit => [e.i]
    | .feTime => [e.i]
    | .feReaction => [e.i]
    | .invalidMax => [e.i]
    | .invalidReaction => [e.i]
    | .dqAngleOffset => [e.i]
    | .dqRecon => [e.i]
    | .dqSumLimit => [e.i]
    | .dqVdcSource => [e.i]
    | .dqVdcNominal => [e.i]
    | .baseLimit => (s.dqTaskOf e.i).toList
    | .boostLimit => (s.dqTaskOf e.i).toList
    | .boostHeadroom => (s.dqTaskOf e.i).toList
    | .boostSlew => (s.dqTaskOf e.i).toList
    | .loadTau => (s.dqTaskOf e.i).toList
    | .holdDelay => (s.dqTaskOf e.i).toList
    | .holdFraction => (s.dqTaskOf e.i).toList
    | .stallSpeed => (s.dqTaskOf e.i).toList
    | .stallTime => (s.dqTaskOf e.i).toList
    | .stallReaction => (s.dqTaskOf e.i).toList
    | .ocReaction => (s.dqTaskOf e.i).toList
    | .extrapHorizon => (s.dqTaskOf e.i).toList
    | .dutyMax => (s.dqOf (chOf e.i) e.j).toList
    | _ => []
  let named := s.enabledTasks.filter fun k => (upto 3).any fun i =>
    let w := s.v (Obj.taskIn k i)
    field w 28 4 == 5 && field w 8 16 == e.key / 256 && field w 0 8 == e.key % 256
  on (own ++ named).eraseDups

/-- The first period boundary of task `k` at or after `t`, and its period, in ticks (R72, R331). -/
def State.boundaryFrom (s : State) (k t : Nat) : Option (Nat × Nat) :=
  if s.isDq k then
    match s.dqSlot k with
    | some (c, b) => match (s.slot c b).valley with
      | some v =>
        let p := 2 * (s.slot c b).top
        if (s.slot c b).running && p != 0 then some (p, v + ceilDiv (t - v) p * p) else none
      | none => none
    | none => none
  else
    let p := s.vn (Obj.taskPeriod k) * us
    if p = 0 then none else some (p, ceilDiv t p * p)

/-- The first boundary at or after `t` of the slowest task of a list: the common boundary of the slowest that share a period
(R72, R81). -/
def State.slowestFrom (s : State) (ks : List Nat) (t : Nat) : Option Nat :=
  ((ks.filterMap fun k => s.boundaryFrom k t).foldl (fun (b : Option (Nat × Nat)) x => match b with
    | none => some x
    | some y => if y.1 < x.1 ∨ (y.1 = x.1 ∧ x.2 < y.2) then some x else b) none).map (·.2)

/-- The first commit instant at or after `t` (R72). -/
def commitFrom (t : Nat) : Nat := ceilDiv t 30000 * 30000

/-- The instant at which writes agreed before `t` take effect (R72): the first boundary at or after `t` of the slowest
running task that reads one of the objects, or the first commit instant. -/
def State.effectFrom (s : State) (es : List Entry) (t : Nat) : Nat :=
  (s.slowestFrom (es.flatMap s.readersOfEntry) t).getD (commitFrom t)

end Sys2Proof.Machine
end

