-- ==== Sys2Proof/Machine/Kdp.lean ====
section
/-! DEFINITION. Chapter 03: KDP. Frames (R65 to R69), agreement (R68), responses and replays (R70, R71), the reading of
objects (R61), accepted writes until they take effect (R72, R74, R116), stalls (R85) and proxying (R88). -/

namespace Sys2Proof.Machine

-- frames (R65 to R67, R69)

/-- The fields of a request. -/
structure KdpFrame where
  service : Nat
  tid : Nat
  target : Nat
  flags : Nat
  index : Nat
  sub : Nat
  detail : Nat
  data : List Byte
deriving DecidableEq, Repr, Inhabited

/-- `n` bytes at offset `i` as a number. -/
def bytesAt (l : List Byte) (i n : Nat) : Nat := ofLeBytes ((l.drop i).take n)

/-- A request that passes the frame checks of R69. -/
def parseKdp (l : List Byte) : Option KdpFrame :=
  let n := l.length
  let svc := bytesAt l 1 1
  let fl := bytesAt l 5 1
  if 20 ≤ n ∧ ofLeBytes (l.drop (n - 4)) = crc32c (l.take (n - 4)) ∧ bytesAt l 0 1 = 1 ∧ 1 ≤ svc ∧ svc ≤ 7 ∧ fl / 16 = 0 ∧
      fl % 8 = 0 ∧ bytesAt l 9 1 = 0 ∧ bytesAt l 10 2 = n - 20 ∧ n ≤ 1044 then
    some { service := svc, tid := bytesAt l 2 2, target := bytesAt l 4 1, flags := fl, index := bytesAt l 6 2
           sub := bytesAt l 8 1, detail := bytesAt l 14 2, data := (l.drop 16).take (n - 20) }
  else none

/-- The bytes of a frame (R65). -/
def kdpBytes (svc tid target flags idx sub code detail : Nat) (data : List Byte) : List Byte :=
  let l := leBytes 1 1 ++ leBytes 1 svc ++ leBytes 2 tid ++ leBytes 1 target ++ leBytes 1 flags ++ leBytes 2 idx ++
    leBytes 1 sub ++ leBytes 1 0 ++ leBytes 2 data.length ++ leBytes 2 code ++ leBytes 2 detail ++ data
  l ++ leBytes 4 (crc32c l)

/-- The service of a request. -/
def KdpReq.service (r : KdpReq) : Nat := bytesAt r.frame 1 1

/-- The object that a request names. -/
def KdpReq.index (r : KdpReq) : Nat := bytesAt r.frame 6 2

/-- The subindex that a request names. -/
def KdpReq.sub (r : KdpReq) : Nat := bytesAt r.frame 8 1

/-- The response frame of channel `c` to a request (R65 to R67, R70): the request's service, TRANSACTION_ID, TARGET_NODE and object,
RESPONSE, the channel in RESPONDER, and LAST. -/
def KdpReq.reply (r : KdpReq) (c : Ch) (code detail : Nat) (last : Bool) (data : List Byte) : List Byte :=
  kdpBytes r.service (bytesAt r.frame 2 2) (bytesAt r.frame 4 1) (1 + 2 * (c.num + 1) + 8 * b2n last) r.index r.sub code detail data

/-- TRANSACTION_ID of a request; 0 for a request of a row of the command table. -/
def KdpReq.tid (r : KdpReq) : Nat := bytesAt r.frame 2 2

/-- DETAIL of a response without abort: the segment number of a SEGMENT frame (R65, R77). -/
def KdpReq.detail (r : KdpReq) : Nat := if r.service = 5 then bytesAt r.frame 14 2 else 0

/-- LAST of the response to a written segment (R66, R77). -/
def KdpReq.last (r : KdpReq) : Bool := r.service == 5 && bit (bytesAt r.frame 5 1 : Int) 3

-- carriers

/-- Channel `c` exchanges frames on a carrier: its lane is enabled and up, its CAN port is enabled, with its bank supplied, or it
takes part in the proxy stream (R36, R70, R86, R91). -/
def State.reach (s : State) (cr : Carrier) (c : Ch) : Bool :=
  s.running c && s.power.com && s.power.state == .run && match cr with
  | .p0 => s.isBit Obj.hostLaneEnable (2 * c.num) && s.isBit Obj.hostLaneStatus (2 * c.num)
  | .p1 => s.isBit Obj.hostLaneEnable (2 * c.num + 1) && s.isBit Obj.hostLaneStatus (2 * c.num + 1)
  | .can0 => s.ioLive c && s.v (Obj.kdpCanEnable 0) == 1
  | .can1 => s.ioLive c && s.v (Obj.kdpCanEnable 1) == 1
  | .can2 => s.ioLive c && s.v (Obj.kdpCanEnable 2) == 1
  | .proxy => true

/-- The channels of a set that exchange frames on a carrier. -/
def State.reaching (s : State) (cr : Carrier) (m : Trio Bool) : Trio Bool :=
  ⟨m.a && s.reach cr .chA, m.b && s.reach cr .chB, m.c && s.reach cr .chC⟩

/-- A carrier's segment size (R77, R86). -/
def State.segSize (s : State) (cr : Carrier) : Nat :=
  match cr.can? with
  | some n => if s.v (Obj.kdpCanFormat n) = 2 then 1024 else 44
  | none => s.vn Obj.kdpSegSizeUdp

/-- A CAN FD port carries frames of at most 64 bytes (R86). -/
def State.frameFits (s : State) (cr : Carrier) (n : Nat) : Bool :=
  match cr.can? with
  | some p => s.v (Obj.kdpCanFormat p) == 2 || n ≤ 64
  | none => true

/-- A request or a frame of a carrier has been agreed: the port is not silent (R112), and the idle timers of R455 restart. -/
def State.noteHeard (s : State) (cr : Carrier) : State :=
  match cr.port? with
  | some p =>
    let s := s.updPort p.num fun x => { x with heard := s.now, silent := false }
    s.updPower fun x => { x with idleFrom := s.now }
  | none => s

/-- What a lane of a port takes (R95 to R97). -/
def State.laneTakes (s : State) (p : Port) (h : FrameHdr) : Bool :=
  let vid := s.vn (Obj.portVlanId p.num)
  h.length ≤ 1528 && h.qTags ≤ 1 && h.cbTags ≤ 1 && !h.service && !h.fragment &&
    (if vid = 0 then h.qTags == 0 || h.vid == 0 else h.qTags == 1 && h.vid == vid) &&
    (h.cbTags == 0 || s.v (Obj.cbStrip p.num) == 1)

/-- A port serves an IP version (R99). -/
def State.ipServed (s : State) (p : Port) (v6 : Bool) : Bool :=
  s.v (Obj.portIpMode p.num) == 2 || s.v (Obj.portIpMode p.num) == b2i v6

/-- A carrier takes a frame sent to its KDP port, or to its request identifier (R86, R90, R95). -/
def State.kdpTakes (s : State) (cr : Carrier) (h : FrameHdr) : Bool :=
  match cr.port?, cr.can? with
  | some p, _ => s.laneTakes p h && s.ipServed p h.v6 && h.port == s.vn Obj.kdpUdpPort
  | _, some n => h.port == s.vn (Obj.kdpCanReqId n)
  | _, _ => true

-- responses (R70, R71)

/-- The IEEE 802.1Q tag of the frames that a port sends, PCP in bits 15 to 13 and VID in bits 11 to 0; 0 = untagged (R96).
On a CAN port, the identifier on which channel A responds, B and C following it (R86). -/
def State.vlanTag (s : State) (cr : Carrier) : Nat :=
  match cr.port?, cr.can? with
  | some p, _ => if s.v (Obj.portVlanId p.num) = 0 then 0
    else s.vn (Obj.portVlanPcp p.num) * 8192 + s.vn (Obj.portVlanId p.num)
  | _, some n => s.vn (Obj.kdpCanRspBase n)
  | _, _ => 0

/-- A response leaves on every channel of the set (R70); on the proxy stream it returns to the node that asked (R88). -/
def State.sendResponse (s : State) (r : KdpReq) (who : Trio Bool) (code detail : Nat) (last : Bool) (data : List Byte)
    (tag : Nat) : State :=
  let who := s.reaching r.carrier who
  let cs := Ch.all.filter who.get
  let s := if code = 0 then s else forEach cs s fun s c => s.bumpC c Obj.kdpAbortsSent
  let frames := cs.map fun c => (c, r.reply c code detail last data)
  let s := s.send (.response r.carrier who tag r.tid code detail last data frames)
  if r.carrier = .proxy then forEach frames s fun s f => s.sendTo f.1 (s.vn Obj.kdpProxyStream) r.src f.2 else s

/-- Whether a stored response still matters: for a late copy (R70) or a replay (R71). -/
def State.keepsResp (s : State) (a : KdpResp) : Bool :=
  s.now < a.answered + s.vn Obj.kdpReplayTime * ms || s.now ≤ a.req.first + s.vn Obj.kdpCopyWindow * us

/-- A request is answered: the response leaves, with `tag` where the request has just changed its port's (R99), and it is
stored for late copies and replays. An entry of a cyclic frame gets no response. -/
def State.respond (s : State) (r : KdpReq) (code detail : Nat) (last : Bool := false) (data : List Byte := [])
    (tag : Option Nat := none) : State :=
  if r.frame.isEmpty then s
  else
    let s := s.sendResponse r r.holders code detail last data (tag.getD (s.vlanTag r.carrier))
    let a : KdpResp := { req := r, answered := s.now, code := code, detail := detail, last := last, data := data }
    { s with kdp := { s.kdp with answered := a :: s.kdp.answered.filter s.keepsResp } }

/-- The transfers of an object on a carrier are closed (R80). -/
def State.closeTransfers (s : State) (cr : Carrier) (idx sub : Nat) : State :=
  let l := s.kdp.transfers.filter fun x => !(x.carrier == cr && x.index == idx && x.sub == sub)
  { s with kdp := { s.kdp with transfers := l } }

/-- A request is answered with an abort; an abort of a SEGMENT closes its transfer (R80). -/
def State.abort (s : State) (r : KdpReq) (a : Abort) : State :=
  (if r.service = 5 then s.closeTransfers r.carrier r.index r.sub else s).respond r a.1 a.2

-- reading (R61)

/-- The value that a read returns: that of the voting majority, of the object's channel, of the owner channel, or the sum
over the channels; none without a majority. -/
def State.readNum (s : State) (e : Entry) : Option Int :=
  match e.desc.home with
  | .chan => some (s.view (chOf e.i) e)
  | .sum => some (wrapU32 (s.g .chA e.obj + s.g .chB e.obj + s.g .chC e.obj))
  | .owner => some (s.ownerVal e.i e.obj)
  | .repl =>
    match s.voters with
    | [c] => some (s.view c e)
    | l =>
      let vals := l.map fun c => s.view c e
      vals.find? fun x => 2 ≤ (vals.filter (· == x)).length

/-- The content of a DOMAIN object (R229, R445, R513). -/
def State.domainBytes (s : State) (e : Entry) : List Byte :=
  let c := chOf e.i
  let m := s.summaryOf c e.j (s.red.faulty.get c)
  match e.desc.role with
  | .traceData => s.traceBytes e.i
  | .clData => s.logData
  | .sedRing => s.ringBytes c
  | .sedTrace => s.sedTraceBytes c
  | .sumHeader => m.header c e.j
  | .sumEvents => m.evs.reverse.flatMap SedEvent.bytes
  | .sumTrace => m.recs.reverse.flatMap recBytes
  | _ => []

/-- The bytes that a read returns (R57, R61). -/
def State.readBytes (s : State) (e : Entry) : Option (List Byte) :=
  if e.desc.ty = .domain then some (s.domainBytes e)
  else if e.desc.ty.isString then
    match s.voters with
    | [c] => some (s.viewStr c e)
    | l =>
      let vals := l.map fun c => s.viewStr c e
      vals.find? fun x => 2 ≤ (vals.filter (· == x)).length
  else (s.readNum e).map fun v => e.bytes (.num v)

/-- What a read clears (R29, R133, R178, R220, R422, R473, R475, R476, R483). -/
def State.afterRead (s : State) (e : Entry) : State :=
  let c := chOf e.i
  match e.desc.role with
  | .cvResult => s.readCvResult c e.j
  | .cvSample => s.readCvResult c e.j
  | .feMax => s.setR e.obj 0
  | .maxExec => s.setR e.obj 0
  | .siDiscMax => s.setR e.obj 0
  | .refuserMap => s.setR e.obj 0
  | .channelSkewMax => s.setR e.obj 0
  | .rotationMax => s.setR e.obj 0
  | .pwrStatus => s.readPwrStatus
  | .domainLast => s.readDomainLast e.i
  | .axExtrapPos => s.readExtrap e.i
  | _ => s

-- accepted writes and their instants (R72, R74, R116)

/-- The semaphore of a semaphore write, and whether it acquires. -/
def PendWrite.sluice (w : PendWrite) : Option (Nat × Bool) :=
  match w.members with
  | [(key, .num v)] => match entryOf key with
    | some e => if e.desc.role == Role.sluiceAg then some (e.m, v == 1) else none
    | none => none
  | _ => none

/-- The write stores the configuration (R89). -/
def PendWrite.stores (w : PendWrite) : Bool := w.members.any fun p => p.1 == Obj.storeAll.key

/-- The members of a write take effect. -/
def State.applyMembers (s : State) (w : PendWrite) : State :=
  forEach w.members s fun s p => match entryOf p.1 with
    | some e => s.applyWrite w.req.carrier e p.2
    | none => s

/-- The semaphore requests of one group that are due (R116): releases first, then the acquires together. -/
def State.resolveGroup (s : State) (g : Nat) (l : List PendWrite) : State :=
  let mine := l.filterMap fun w => match w.sluice, w.req.carrier.port? with
    | some (h, acq), some p => if h = g then some (w, p, acq) else none
    | _, _ => none
  let s := forEach (mine.filter fun x => !x.2.2) s fun s x =>
    let y := s.releaseSem g x.2.1
    y.1.respond x.1.req y.2 0
  let acq := mine.filter fun x => x.2.2
  let s := if acq.isEmpty then s else s.acquireSem g (acq.map fun x => x.2.1)
  forEach acq s fun s x => s.respond x.1.req (s.acquireCode g x.2.1) 0

/-- The semaphore requests that are due at a commit instant are decided (R116). -/
def State.resolveSems (s : State) : State :=
  let l := s.kdp.writes.filter fun w => w.sluice.isSome && w.due ≤ s.now
  let s := { s with kdp := { s.kdp with writes := s.kdp.writes.filter fun w => !(w.sluice.isSome && w.due ≤ s.now) } }
  if l.isEmpty then s else forEach (upto 16) s fun s g => s.resolveGroup g l

/-- The answer to a write that has taken effect, still with the addresses that `s₀` gave its port (R99); that of STORE_ALL
leaves when every channel has finished (R73, R89). -/
def State.answerWrite (s₀ s : State) (w : PendWrite) : State :=
  if w.stores then
    { s with kdp := { s.kdp with store := some (match s.kdp.store with
        | some (l, t) => (l ++ [w.req], t)
        | none => ([w.req], s.now)) } }
  else s.respond w.req 0 w.req.detail w.req.last [] (some (s₀.vlanTag w.req.carrier))

/-- The writes that are due take effect in the order of R74, and are answered. -/
def State.applyDue (s : State) : State :=
  let l := s.dueWrites.filter fun w => !w.sluice.isSome
  let s₀ := s
  let s := { s with kdp := { s.kdp with writes := s.kdp.writes.filter fun w => w.sluice.isSome || !(w.due ≤ s.now) } }
  forEach l (forEach l s State.applyMembers) s₀.answerWrite

/-- A write waits for its instant; one that is due takes effect at once, but for a request to a semaphore, which COMMIT_INSTANT
decides with the others of its instant (R116). -/
def State.enqueue (s : State) (w : PendWrite) : State :=
  let s := { s with kdp := { s.kdp with writes := s.kdp.writes ++ [w] } }
  if w.due ≤ s.now then s.applyDue else s

-- stalls (R85)

/-- The engines in NAP that an entry of a task waits for leave NAP (R85, R454). -/
def State.wakeFor (s : State) (e : Entry) : State :=
  if e.ofTask then forEach (s.sitesOf e.i) s fun s p => s.wakeEngine p.1 p.2 else s

/-- A request waits for a sleeping domain; the wake of what its entries need begins (R85, R461). -/
def State.stall (s : State) (r : KdpReq) (es : List Entry) (w : Option (Nat × Val) := none) : State :=
  let s := { s with kdp := { s.kdp with stalled := s.kdp.stalled ++ [{ req := r, write := w }] } }
  let s := forEach es s State.wakeFor
  if s.power.io && s.power.ce then s else s.updPower fun p => { p with needed := true }

-- single writes

/-- A single accepted write's instant, `t` being the earliest: a bank swap of a running task is requested at agreement
(R210), a semaphore is decided at a commit instant (R116), anything else follows R72. -/
def State.dueOf (s : State) (e : Entry) (t : Nat) : Nat :=
  match e.desc.role with
  | .bankSelect => if s.iterates e.i then s.now else s.effectFrom [e] t
  | .sluiceAg => commitFrom t
  | _ => s.effectFrom [e] t

/-- A write request for one object (R72, R83): refused, stalled, or accepted to take effect at `t` or later. -/
def State.submit (s : State) (r : KdpReq) (e : Entry) (v : Val) (t : Nat) : State :=
  match s.writeFails (s.rawSet e v) r.carrier e v 1 with
  | some a =>
    let wrong := e.desc.role == .pwEnter && a == (0x0606, 0) && (s.enterFails r.carrier v).2
    (if wrong then s.wrongPassword else s).abort r a
  | none =>
    if s.mustWake e then s.stall r [e] (some (e.key, v))
    else s.enqueue { req := r, due := s.dueOf e t, members := [(e.key, v)] }

/-- The abort of an index and subindex at which no object is defined (checks 2 and 3 of R83). -/
def missing (idx : Nat) : Abort := if indexExists idx then (0x0602, 0) else (0x0601, 0)

-- requests that a row of the command table makes by itself

/-- The request of a row of the command table: agreed now by every channel that takes part. -/
def State.rowReq (s : State) (cr : Carrier) (svc idx sub : Nat) (data : List Byte) : KdpReq :=
  { carrier := cr, frame := kdpBytes svc 0 0 0 idx sub 0 0 data
    holders := ⟨s.takesPart .chA, s.takesPart .chB, s.takesPart .chC⟩, first := s.now, agreed := s.now }

/-- The device receives requests (R85): it is in RUN with the COM domain awake. -/
def State.receives (s : State) : Bool := s.power.state == .run && s.power.com

/-- The bytes of a value for an object that may not exist. -/
def rowBytes (idx sub : Nat) (v : Val) : List Byte :=
  match findObj idx sub, v with
  | some e, v => e.bytes v
  | none, .bytes b => b
  | none, .num _ => []

/-- An agreed write request of a row (R72, R75): writes already due take effect first; then it is checked, and it takes
effect now where now is its instant, or waits for it. -/
def State.hostWrite (s : State) (cr : Carrier) (idx sub : Nat) (v : Val) : State :=
  let s := s.applyDue
  if !s.receives then s
  else
    let s := s.noteHeard cr
    let r := s.rowReq cr 2 idx sub (rowBytes idx sub v)
    if !s.red.reachedDual then s.abort r (0x060C, 0x20)
    else match findObj idx sub with
      | none => s.abort r (missing idx)
      | some e => s.submit r e v s.now

/-- A write of a number to an object. -/
def State.hostSet (s : State) (cr : Carrier) (o : Obj) (v : Int) : State := s.hostWrite cr o.index o.sub (.num v)

/-- An agreed read request of a row (R61, R75, R83): the value is sent, and what the read clears is cleared. -/
def State.hostRead (s : State) (cr : Carrier) (o : Obj) : State :=
  if !s.receives then s
  else
    let s := s.noteHeard cr
    let r := s.rowReq cr 1 o.index o.sub []
    if !s.red.reachedDual && !earlyReadable o.index then s.abort r (0x060C, 0x20)
    else match findObj o.index o.sub with
      | none => s.abort r (missing o.index)
      | some e =>
        match firstAbort (s.readFails e) with
        | some a => s.abort r a
        | none =>
          if s.mustWake e then s.stall r [e]
          else match s.readNum e with
            | some v => (s.respond r 0 0 false (e.bytes (.num v))).afterRead e
            | none => s.abort r (0x060B, 2)

end Sys2Proof.Machine
end

