-- ==== Sys2Proof/Machine/Boundaries.lean ====
section
/-! DEFINITION. The rows at whose instants boundary writes take effect: releases, bank swaps and valleys (R19, R72, R81,
R210, R212, R232). -/

namespace Sys2Proof.Machine

/-- ITERATION_RELEASE (R19, R72, R399): writes due at the boundary, and mirrored values, take effect before the iteration that
starts there. -/
def execIterationRelease (t : Nat) (k : Fin 512) (s : State) : Res := s.run t fun s => (s.applyDue.mirrorFor k).tryRelease k

/-- BANK_SWAP (R210 to R212): the bank values of the boundary are written before the swap is made. -/
def execBankSwap (t : Nat) (k : Fin 512) (s : State) : Res := s.run t fun s => s.applyDue.makeSwap k

/-- PWM_VALLEY (R72, R232): writes due at the valley of a dq pair's slot take effect with it. -/
def execPwmValley (t : Nat) (c : Ch) (k : Fin 4) (s : State) : Res := s.run t fun s => s.applyDue.pwmValley c k

end Sys2Proof.Machine
end

