-- ==== Sys2Proof/Machine/Requests.lean ====
section
/-! DEFINITION. Chapter 03: the commands of KDP: copies and agreement (R68 to R71), the services (R76 to R82), stalls
(R85), proxying (R88) and the store (R89). -/

namespace Sys2Proof.Machine

/-- `s` with its KDP state changed by `f`. -/
def State.updKdp (s : State) (f : Kdp → Kdp) : State := { s with kdp := f s.kdp }

-- copies and agreement (R68, R70)

/-- The copies held of a frame from a carrier. -/
def State.copiesOf (s : State) (cr : Carrier) (frame : List Byte) : List KdpCopy :=
  s.kdp.copies.filter fun x => x.carrier == cr && x.frame == frame

/-- The arrival of the first copy. -/
def firstCopy (l : List KdpCopy) : Nat := l.foldl (fun m x => min m x.at_) ((l.head?.map (·.at_)).getD 0)

/-- The node from which the copies of a proxied request came (R88). -/
def firstSrc (l : List KdpCopy) : Nat := (l.head?.map (·.src)).getD 0

/-- The channels that received a copy within the window of the first (R68). -/
def State.copyHolders (s : State) (l : List KdpCopy) : Trio Bool :=
  let lim := firstCopy l + s.vn Obj.kdpCopyWindow * us
  let has := fun c => l.any fun x => x.chan == c && x.at_ ≤ lim
  ⟨has .chA, has .chB, has .chC⟩

/-- The copies of a frame are dropped. -/
def State.dropCopies (s : State) (cr : Carrier) (frame : List Byte) : State :=
  s.updKdp fun k => { k with copies := k.copies.filter fun x => !(x.carrier == cr && x.frame == frame) }

/-- The window of a frame has closed without a majority: each channel that holds a copy answers (R68), and the transfer of a
SEGMENT closes (R80). -/
def State.expireCopies (s : State) (cr : Carrier) (frame : List Byte) : State :=
  let l := s.copiesOf cr frame
  let h := s.copyHolders l
  if l.isEmpty || s.isMajority h || s.now < firstCopy l + s.vn Obj.kdpCopyWindow * us then s
  else
    let all := fun c => l.any fun x => x.chan == c
    let r : KdpReq := { carrier := cr, frame := frame, holders := h, first := firstCopy l, agreed := s.now, src := firstSrc l }
    let s := if r.service = 5 then s.closeTransfers cr r.index r.sub else s
    ((s.dropCopies cr frame).bumpC .chA Obj.kdpAgreeFailures).sendResponse r ⟨all .chA, all .chB, all .chC⟩ 0x060B 1 false [] (s.vlanTag cr)

/-- The request `r` is the one that a late copy of channel `c` belongs to (R70). -/
def State.isLate (s : State) (r : KdpReq) (cr : Carrier) (c : Ch) (frame : List Byte) : Bool :=
  r.carrier == cr && r.frame == frame && !r.holders.get c && s.now ≤ r.first + s.vn Obj.kdpCopyWindow * us

/-- Channel `c` joins the holders of a request in progress that its late copy belongs to (R70). -/
def State.joinLate (s : State) (cr : Carrier) (c : Ch) (frame : List Byte) : State :=
  let f := fun (r : KdpReq) => if s.isLate r cr c frame then { r with holders := r.holders.set c true } else r
  s.updKdp fun k => { k with
    ready := k.ready.map f, stalled := k.stalled.map fun x => { x with req := f x.req }, proxied := k.proxied.map f
    writes := k.writes.map fun w => { w with req := f w.req }
    store := k.store.map fun x => (x.1.map f, x.2) }

/-- The requests in progress. -/
def Kdp.open (k : Kdp) : List KdpReq :=
  k.ready ++ (k.stalled.map fun x => x.req) ++ k.proxied ++ (k.writes.map fun w => w.req) ++ (k.store.map (·.1)).getD []

/-- The stored answer that a repeat of a request gets (R71). -/
def State.replayOf (s : State) (cr : Carrier) (frame : List Byte) : Option KdpResp :=
  s.kdp.answered.find? fun a => a.req.carrier == cr && a.req.frame == frame &&
    decide (s.now < a.answered + s.vn Obj.kdpReplayTime * ms)

/-- A request of this frame is in progress and its window still runs (R68). -/
def State.inProgress (s : State) (cr : Carrier) (frame : List Byte) : Bool :=
  s.kdp.open.any fun r => r.carrier == cr && r.frame == frame && s.now ≤ r.first + s.vn Obj.kdpCopyWindow * us

/-- A copy that passes the frame checks arrives at channel `c` (R68, R70, R71): a late copy, a repeat of an answered request,
a copy of a request in progress, or a copy of a new one. -/
def State.takeCopy (s : State) (cr : Carrier) (c : Ch) (src : Nat) (frame : List Byte) : State :=
  let s := (s.expireCopies cr frame).send (.strap c .digest (leBytes 4 (crc32c frame)))
  match s.kdp.answered.find? fun a => s.isLate a.req cr c frame with
  | some a =>
    let s := s.updKdp fun k => { k with answered := k.answered.map fun x =>
      if x == a then { x with req := { x.req with holders := x.req.holders.set c true } } else x }
    s.sendResponse a.req ((Trio.all false).set c true) a.code a.detail a.last a.data (s.vlanTag cr)
  | none =>
    match s.replayOf cr frame with
    | some a =>
      (s.bumpC c Obj.kdpReplays).sendResponse a.req ((Trio.all false).set c true) a.code a.detail a.last a.data (s.vlanTag cr)
    | none =>
      if s.inProgress cr frame then s.joinLate cr c frame
      else if (s.copiesOf cr frame).any fun x => x.chan == c then s
      else s.updKdp fun k => { k with copies := k.copies ++ [{ carrier := cr, chan := c, frame := frame, at_ := s.now, src := src }] }

/-- KDP_REQUEST_COPY (R68, R69): a copy arrives; a frame that fails the checks is discarded and counted. -/
def execKdpRequestCopy (t : Nat) (cr : Carrier) (c : Ch) (h : FrameHdr) (frame : List Byte) (s : State) : Res :=
  s.run t fun s =>
    if !s.reach cr c || !s.kdpTakes cr h || !s.frameFits cr frame.length then s
    else match parseKdp frame with
      | none => s.bumpC c Obj.kdpFramesDiscarded
      | some _ => s.takeCopy cr c (if cr = .proxy then h.port else 0) frame

-- stalls and proxying

/-- The members of a GROUP_WRITE (R81): index, subindex, length and value bytes. -/
def groupMembersOf (l : List Byte) : List (Nat × Nat × Nat × List Byte) :=
  (upto (bytesAt l 0 2)).map fun i =>
    let o := 2 + 12 * i
    (bytesAt l o 2, bytesAt l (o + 2) 1, bytesAt l (o + 3) 1, (l.drop (o + 4)).take 8)

/-- The entries that a request names. -/
def KdpFrame.entries (f : KdpFrame) : List Entry :=
  if f.service = 6 then (groupMembersOf f.data).filterMap fun m => findObj m.1 m.2.1 else (findObj f.index f.sub).toList

/-- The request leaves on the proxy stream, or is aborted (R88). -/
def State.forwardReq (s : State) (r : KdpReq) (f : KdpFrame) : State :=
  if s.v Obj.kdpProxyEnable = 0 ∨ s.hasRoute f.target = false then s.abort r (0x0608, 0x10)
  else
    let s := forEach s.voters s fun s c => s.sendTo c (s.vn Obj.kdpProxyStream) f.target r.frame
    s.updKdp fun k => { k with proxied := k.proxied ++ [r] }

/-- The services and objects that R75 leaves open before the device first reaches DUAL. -/
def earlyRequest (f : KdpFrame) : Bool := (f.service == 1 || f.service == 3 || f.service == 5) && earlyReadable f.index

/-- An agreed request (R68, R75, R88): an abort, a request for another node, or ready for execution. -/
def State.acceptReq (s : State) (r : KdpReq) (f : KdpFrame) : State :=
  if !s.red.reachedDual && !earlyRequest f then s.abort r (0x060C, 0x20)
  else if f.target ≠ 0 ∧ f.target ≠ s.fab.addr then s.forwardReq r f
  else s.updKdp fun k => { k with ready := k.ready ++ [r] }

/-- KDP_REQUEST_AGREED (R68): channels forming a voting majority hold identical copies within the window. -/
def execKdpRequestAgreed (t : Nat) (cr : Carrier) (frame : List Byte) (s : State) : Res :=
  s.run t fun s =>
    let l := s.copiesOf cr frame
    let h := s.copyHolders l
    match parseKdp frame with
    | none => s
    | some f =>
      if l.isEmpty || !s.isMajority h || !s.receives then s
      else
        let r : KdpReq := { carrier := cr, frame := frame, holders := h, first := firstCopy l, agreed := s.now, src := firstSrc l }
        ((s.dropCopies cr frame).noteHeard cr).acceptReq r f

/-- KDP_COPY_WINDOW_EXPIRY (R68). -/
def execKdpCopyWindowExpiry (t : Nat) (cr : Carrier) (frame : List Byte) (s : State) : Res :=
  s.run t fun s => s.expireCopies cr frame

-- the services (R76 to R82)

/-- READ_EXP (R61, R76). -/
def State.serveRead (s : State) (r : KdpReq) (f : KdpFrame) : State :=
  match findObj f.index f.sub with
  | none => s.abort r (missing f.index)
  | some e =>
    let b := s.readBytes e
    let big := e.desc.ty == .domain || !f.data.isEmpty || 8 < (b.getD []).length
    match firstAbort (s.readFails e ++ failIf big 0x0603) with
    | some a => s.abort r a
    | none =>
      if s.mustWake e then s.stall r [e]
      else match b with
        | some l => (s.respond r 0 0 false l).afterRead e
        | none => s.abort r (0x060B, 2)

/-- A value of bytes for an entry: a number where it has the length of its type, else the bytes, whose length check 6
judges. -/
def valFor (e : Entry) (l : List Byte) : Val := (decodeVal e l).getD (.bytes l)

/-- WRITE_EXP (R76): a value of 1 to 8 bytes. -/
def State.serveWrite (s : State) (r : KdpReq) (f : KdpFrame) : State :=
  match findObj f.index f.sub with
  | none => s.abort r (missing f.index)
  | some e =>
    if f.data.isEmpty || 8 < f.data.length then
      s.abort r ((firstAbort (s.accessFails r.carrier e 1 ++ [(0x0603, 0)])).getD (0x0603, 0))
    else s.submit r e (valFor e f.data) (max (r.agreed + 1) s.now)

/-- The open transfers of a carrier (R80). -/
def State.transfersOf (s : State) (cr : Carrier) : List Transfer := s.kdp.transfers.filter fun x => x.carrier == cr

/-- The open transfer of an object on a carrier: the last that was initiated (DESIGN CHOICE, log entry 133). -/
def State.transferOf (s : State) (cr : Carrier) (idx sub : Nat) : Option Transfer :=
  (s.kdp.transfers.filter fun x => x.carrier == cr && x.index == idx && x.sub == sub).getLast?

/-- A transfer is closed by its last segment (R80). -/
def State.closeTransfer (s : State) (x : Transfer) : State := s.updKdp fun k => { k with transfers := k.transfers.erase x }

/-- A transfer is opened (R77). -/
def State.openTransfer (s : State) (x : Transfer) : State := s.updKdp fun k => { k with transfers := k.transfers ++ [x] }

/-- The transfer `x` goes on as `y`. -/
def State.goOn (s : State) (x y : Transfer) : State :=
  s.updKdp fun k => { k with transfers := k.transfers.map fun z => if z == x then y else z }

/-- READ_SEG_INIT (R77 to R80). -/
def State.serveReadInit (s : State) (r : KdpReq) (f : KdpFrame) : State :=
  match findObj f.index f.sub with
  | none => s.abort r (missing f.index)
  | some e =>
    let dom := e.desc.ty == .domain
    let win := bytesAt f.data 4 2
    let bad := if dom then !(f.data.length == 6 && 1 ≤ win && win ≤ 4096) else !f.data.isEmpty
    match firstAbort (s.readFails e ++ failIf bad 0x0603) with
    | some a => s.abort r a
    | none =>
      if s.mustWake e then s.stall r [e]
      else match s.readBytes e with
        | none => s.abort r (0x060B, 2)
        | some l =>
          let off := if dom then bytesAt f.data 0 4 else 0
          if dom && l.length ≤ off then s.abort r (0x0607, 0)
          else if 4 ≤ (s.transfersOf r.carrier).length then s.abort r (0x060C, 4)
          else
            let d := if dom then (l.drop off).take win else l
            let s := s.openTransfer { carrier := r.carrier, index := f.index, sub := f.sub, write := false, total := d.length
                                      next := 0, data := d, last := s.now }
            (s.respond r 0 0 false (leBytes 4 l.length)).afterRead e

/-- WRITE_SEG_INIT (R77, R80). -/
def State.serveWriteInit (s : State) (r : KdpReq) (f : KdpFrame) : State :=
  match findObj f.index f.sub with
  | none => s.abort r (missing f.index)
  | some e =>
    let total := bytesAt f.data 0 4
    let bad := !(f.data.length == 4 && 1 ≤ total && total ≤ 4096) || e.desc.ty == .domain
    match firstAbort (s.accessFails r.carrier e 1 ++ failIf bad 0x0603) with
    | some a => s.abort r a
    | none =>
      if s.mustWake e then s.stall r [e]
      else if 4 ≤ (s.transfersOf r.carrier).length then s.abort r (0x060C, 4)
      else
        let s := s.openTransfer { carrier := r.carrier, index := f.index, sub := f.sub, write := true, total := total
                                  next := 0, data := [], last := s.now }
        s.respond r 0 0

/-- SEGMENT of a read (R77, R78): the next segment of the value as it stood at the initiate. Its offset is its number times
the segment size in force now (DESIGN CHOICE, log entry 134). -/
def State.serveSegRead (s : State) (r : KdpReq) (f : KdpFrame) (x : Transfer) : State :=
  let n := s.segSize r.carrier
  if !f.data.isEmpty then s.abort r (0x0603, 0)
  else
    let last := x.total ≤ (f.detail + 1) * n
    let s := if last then s.closeTransfer x else s.goOn x { x with next := x.next + 1, last := s.now }
    s.respond r 0 f.detail last ((x.data.drop (f.detail * n)).take n)

/-- SEGMENT of a write (R77, R78): the last segment submits the whole value. -/
def State.serveSegWrite (s : State) (r : KdpReq) (f : KdpFrame) (x : Transfer) : State :=
  let n := s.segSize r.carrier
  let last := bit (f.flags : Int) 3
  let d := x.data ++ f.data
  if (!last && f.data.length != n) || x.total < d.length || (last && d.length != x.total) then s.abort r (0x0603, 0)
  else if last then
    match findObj f.index f.sub with
    | none => s.abort r (missing f.index)
    | some e => (s.closeTransfer x).submit r e (valFor e d) (max (r.agreed + 1) s.now)
  else (s.goOn x { x with next := x.next + 1, data := d, last := s.now }).respond r 0 f.detail

/-- SEGMENT (R80, R83): a number that is not the expected one, or no open transfer, aborts. -/
def State.serveSegment (s : State) (r : KdpReq) (f : KdpFrame) : State :=
  match findObj f.index f.sub, s.transferOf r.carrier f.index f.sub with
  | none, _ => s.abort r (missing f.index)
  | _, none => s.abort r (0x0603, 5)
  | some _, some x =>
    if f.detail ≠ x.next then s.abort r (0x0603, 5)
    else if x.write then s.serveSegWrite r f x
    else s.serveSegRead r f x

/-- ABORT_TRANSFER (R67, R80, R83): it carries no data. -/
def State.serveAbort (s : State) (r : KdpReq) (f : KdpFrame) : State :=
  if (findObj f.index f.sub).isNone then s.abort r (missing f.index)
  else if !f.data.isEmpty then s.abort r (0x0603, 0)
  else (s.closeTransfers r.carrier f.index f.sub).respond r 0 0

/-- The instant of a group agreed before `t`: the first boundary of the slowest running task that it affects, as a reader of a
member or as the task whose bank or bank selection it writes, or the first commit instant (R81, R212). -/
def State.groupFrom (s : State) (es : List Entry) (t : Nat) : Nat :=
  let own := es.filterMap fun e => match e.desc.role with
    | .coef => some e.i
    | .shift => some e.i
    | .outMax => some e.i
    | .outMin => some e.i
    | .bankSelect => some e.i
    | _ => none
  (s.slowestFrom (own.filter s.iterates ++ es.flatMap s.readersOfEntry) t).getD (commitFrom t)

/-- The swaps that an accepted group requests are pending until its boundary (R210, R212). -/
def State.askSwaps (s : State) (es : List (Entry × Val)) (due : Nat) : State :=
  forEach es s fun s p => match p.1.desc.role, p.2 with
    | .bankSelect, .num v => if s.iterates p.1.i then s.askSwap p.1.i v.toNat due else s
    | _, _ => s

/-- The abort of one member of a group, with the member's position (R81, R117); `before` holds the members up to and with
it. -/
def State.memberFails (s after : State) (cr : Carrier) (m : Nat × Nat × Nat × List Byte) (rws : Nat) : Option Abort :=
  match findObj m.1 m.2.1 with
  | none => some (missing m.1)
  | some e =>
    let v := if 1 ≤ m.2.2.1 ∧ m.2.2.1 ≤ 8 then valFor e (m.2.2.2.take m.2.2.1) else .bytes []
    let l := (s.writeFails after cr e v rws).toList ++
      failIf (e.desc.ty == .domain || m.2.2.1 == 0 || 8 < m.2.2.1) 0x0603 ++ failIf (e.desc.role == Role.sluiceAg) 0x0608
    firstAbort l

/-- The entries and values of a group's members. -/
def KdpFrame.groupEntries (f : KdpFrame) : List (Entry × Val) :=
  (groupMembersOf f.data).filterMap fun m => (findObj m.1 m.2.1).map fun e => (e, valFor e (m.2.2.2.take m.2.2.1))

/-- The first abort of a GROUP_WRITE (R81, R117): its form, a member named twice, or the first member that fails, with its
position. -/
def State.groupFails (s : State) (cr : Carrier) (f : KdpFrame) : Option Abort :=
  let n := bytesAt f.data 0 2
  let ms := groupMembersOf f.data
  let es := f.groupEntries
  let after := es.foldl (fun s p => s.rawSet p.1 p.2) s
  let rws := fun i => (es.take (i + 1)).foldl (fun k p => if p.1.isRws then k + 1 else k) 0
  if n = 0 ∨ 16 < n ∨ f.data.length ≠ 2 + 12 * n ∨ f.index ≠ 0 ∨ f.sub ≠ 0 then some (0x0603, 0)
  else if (ms.map fun m => (m.1, m.2.1)).eraseDups.length ≠ n then some (0x0603, 6)
  else (ms.zip (upto n)).findSome? fun x => (s.memberFails after cr x.1 (max 1 (rws x.2))).map fun a => (a.1, x.2)

/-- GROUP_WRITE (R81, R82): checked as a whole, applied together. -/
def State.serveGroup (s : State) (r : KdpReq) (f : KdpFrame) : State :=
  let es := f.groupEntries
  match s.groupFails r.carrier f with
  | some a => s.abort r a
  | none =>
    if es.any fun p => s.mustWake p.1 then s.stall r (es.map (·.1))
    else
      let due := s.groupFrom (es.map (·.1)) (max (r.agreed + 1) s.now)
      (s.askSwaps es due).enqueue { req := r, due := due, members := es.map fun p => (p.1.key, p.2) }

/-- A request ready for execution is executed (R67). -/
def State.executeReq (s : State) (r : KdpReq) (f : KdpFrame) : State :=
  match f.service with
  | 1 => s.serveRead r f
  | 2 => s.serveWrite r f
  | 3 => s.serveReadInit r f
  | 4 => s.serveWriteInit r f
  | 5 => s.serveSegment r f
  | 6 => s.serveGroup r f
  | _ => s.serveAbort r f

/-- The first request of a list from a carrier with a TRANSACTION_ID that satisfies `p`. -/
def findReq (l : List KdpReq) (cr : Carrier) (tid : Nat) (p : KdpFrame → Bool) : Option (KdpReq × KdpFrame) :=
  l.findSome? fun r => if r.carrier == cr && r.tid == tid then
    match parseKdp r.frame with
    | some f => if p f then some (r, f) else none
    | none => none
  else none

/-- The ready request that satisfies `p` is executed. -/
def State.runReady (s : State) (cr : Carrier) (tid : Nat) (p : KdpFrame → Bool) : State :=
  match findReq s.kdp.ready cr tid p with
  | some (r, f) => if s.receives then (s.updKdp fun k => { k with ready := k.ready.erase r }).executeReq r f else s
  | none => s

/-- READ_EXP (R76). -/
def execReadExp (t : Nat) (cr : Carrier) (tid : Nat) (s : State) : Res :=
  s.run t fun s => s.runReady cr tid fun f => f.service == 1

/-- WRITE_EXP (R76). -/
def execWriteExp (t : Nat) (cr : Carrier) (tid : Nat) (s : State) : Res :=
  s.run t fun s => s.runReady cr tid fun f => f.service == 2

/-- READ_SEG_INIT (R77, R79). -/
def execReadSegInit (t : Nat) (cr : Carrier) (tid : Nat) (s : State) : Res :=
  s.run t fun s => s.runReady cr tid fun f => f.service == 3

/-- WRITE_SEG_INIT (R77). -/
def execWriteSegInit (t : Nat) (cr : Carrier) (tid : Nat) (s : State) : Res :=
  s.run t fun s => s.runReady cr tid fun f => f.service == 4

/-- A SEGMENT request belongs to a write transfer. -/
def State.segWrites (s : State) (cr : Carrier) (f : KdpFrame) : Bool :=
  match s.transferOf cr f.index f.sub with
  | some x => x.write
  | none => false

/-- SEGMENT_READ (R77, R78). -/
def execSegmentRead (t : Nat) (cr : Carrier) (tid : Nat) (s : State) : Res :=
  s.run t fun s => s.runReady cr tid fun f => f.service == 5 && !s.segWrites cr f

/-- SEGMENT_WRITE (R77, R78); without an open transfer it aborts like SEGMENT_READ. -/
def execSegmentWrite (t : Nat) (cr : Carrier) (tid : Nat) (s : State) : Res :=
  s.run t fun s => s.runReady cr tid fun f => f.service == 5 && (s.segWrites cr f || (s.transferOf cr f.index f.sub).isNone)

/-- GROUP_WRITE (R81). -/
def execGroupWrite (t : Nat) (cr : Carrier) (tid : Nat) (s : State) : Res :=
  s.run t fun s => s.runReady cr tid fun f => f.service == 6

/-- ABORT_TRANSFER (R80). -/
def execAbortTransfer (t : Nat) (cr : Carrier) (tid : Nat) (s : State) : Res :=
  s.run t fun s => s.runReady cr tid fun f => f.service == 7

/-- KDP_TRANSFER_TIMEOUT (R80): no segment for KDP_TIMEOUT. -/
def execKdpTransferTimeout (t : Nat) (cr : Carrier) (index sub : Nat) (s : State) : Res :=
  s.run t fun s => s.updKdp fun k => { k with transfers := k.transfers.filter fun x =>
    !(x.carrier == cr && x.index == index && x.sub == sub && x.last + s.vn Obj.kdpTimeout * ms ≤ s.now) }

/-- The first stalled request of a carrier with a TRANSACTION_ID whose entries still wait for a domain, or no longer wait. -/
def State.stalledReq (s : State) (cr : Carrier) (tid : Nat) (waits : Bool) : Option (KdpStall × KdpFrame) :=
  s.kdp.stalled.findSome? fun x => if x.req.carrier == cr && x.req.tid == tid then
    match parseKdp x.req.frame with
    | some f => if f.entries.any s.mustWake == waits then some (x, f) else none
    | none => none
  else none

/-- A stalled request continues: with the whole value that it writes, or as it was sent (R78, R85). -/
def State.continueReq (s : State) (x : KdpStall) (f : KdpFrame) : State :=
  match x.write with
  | some (key, v) => match entryOf key with
    | some e => s.submit x.req e v (max (x.req.agreed + 1) s.now)
    | none => s
  | none => s.executeReq x.req f

/-- KDP_STALL_RESUME (R85): the domains that the request needs are ready. -/
def execKdpStallResume (t : Nat) (cr : Carrier) (tid : Nat) (s : State) : Res :=
  s.run t fun s =>
    match s.stalledReq cr tid false with
    | some (x, f) => (s.updKdp fun k => { k with stalled := k.stalled.erase x }).continueReq x f
    | none => s

/-- KDP_WAKE_TIMEOUT (R85): the domain is not ready within KDP_TIMEOUT of agreement; the wake goes on. -/
def execKdpWakeTimeout (t : Nat) (cr : Carrier) (tid : Nat) (s : State) : Res :=
  s.run t fun s =>
    match s.stalledReq cr tid true with
    | some (x, _) =>
      if x.req.agreed + s.vn Obj.kdpTimeout * ms ≤ s.now then
        (s.updKdp fun k => { k with stalled := k.stalled.erase x }).abort x.req (0x060A, 0)
      else s
    | none => s

/-- KDP_PROXY_RESPONSE (R88): the target's response leaves on the request's carrier. -/
def execKdpProxyResponse (t : Nat) (cr : Carrier) (tid code detail : Nat) (last : Bool) (data : List Byte) (s : State) : Res :=
  s.run t fun s =>
    match findReq s.kdp.proxied cr tid fun _ => true with
    | some (r, _) => (s.updKdp fun k => { k with proxied := k.proxied.erase r }).respond r code detail last data
    | none => s

/-- KDP_PROXY_TIMEOUT (R88). -/
def execKdpProxyTimeout (t : Nat) (cr : Carrier) (tid : Nat) (s : State) : Res :=
  s.run t fun s =>
    match findReq s.kdp.proxied cr tid fun _ => true with
    | some (r, _) =>
      if r.agreed + s.vn Obj.kdpTimeout * ms ≤ s.now then
        (s.updKdp fun k => { k with proxied := k.proxied.erase r }).abort r (0x0608, 0x11)
      else s
    | none => s

-- the store (R89)

/-- STORE_ALL (R89). -/
def execStoreAll (t : Nat) (cr : Carrier) (v : Int) (s : State) : Res := s.run t fun s => s.hostSet cr Obj.storeAll v

/-- The configuration is written to MRAM in every running channel (R89). -/
def State.storeImage (s : State) : State :=
  let m := s.imageNow
  forEach (Ch.all.filter s.running) s fun s c =>
    { s with su := { s.su with images := s.su.images.set c m, imageOk := s.su.imageOk.set c true } }

/-- STORE_COMPLETE (R74, R89, R511): every channel has finished, after any summary copy; the responses leave. -/
def execStoreComplete (t : Nat) (s : State) : Res :=
  s.run t fun s =>
    match s.kdp.store with
    | some (l, _) =>
      if (Ch.all.filter s.running).any fun c => (s.sed.get c).copy.isSome then s
      else forEach l (s.storeImage.updKdp fun k => { k with store := none }) fun s r => s.respond r 0 r.detail r.last
    | none => s

/-- RESTORE_DEFAULTS (R89). -/
def execRestoreDefaults (t : Nat) (cr : Carrier) (v : Int) (s : State) : Res :=
  s.run t fun s => s.hostSet cr Obj.restoreDefaults v

end Sys2Proof.Machine
end

