-- ==== Sys2Proof/Machine/Ports.lean ====
section
/-! DEFINITION. Chapter 04: host lanes, addresses, 802.1AS and cyclic frames (R91 to R114), and the two requests to a
semaphore (R116). -/

namespace Sys2Proof.Machine

-- lanes and addresses

/-- A channel's lane of a port is in use. -/
def State.laneUp (s : State) (c : Ch) (p : Port) : Bool := s.reach p.carrier c

/-- HOST_LANE_LINK_CHANGE (R91): link-up at code-group alignment, and with SGMII_AN_ENABLE only with the in-band control
word; a disabled lane has no link. A lane that is aligned when SGMII_AN_ENABLE clears waits for its next change of link (DESIGN
CHOICE, log entry 136). -/
def execHostLaneLinkChange (t : Nat) (c : Ch) (p : Port) (aligned control : Bool) (s : State) : Res :=
  s.run t fun s =>
    let n := 2 * c.num + p.num
    let up := s.receives && s.isBit Obj.hostLaneEnable n && aligned && (control || s.v Obj.sgmiiAnEnable == 0)
    s.bitR Obj.hostLaneStatus n up

/-- A string of port `p`'s record 0x1110+p as channel `c` reads it. -/
def State.portStr (s : State) (c : Ch) (p : Port) (sub : Nat) : List Byte :=
  match findObj (0x1110 + p.num) sub with
  | some e => s.viewStr c e
  | none => []

/-- A frame leaves on a lane of a port, with the port's tag (R96). -/
def State.sendLane (s : State) (c : Ch) (p : Port) (kind : Nat) (data : List Byte) : State :=
  s.send (.lane c p (s.vlanTag p.carrier) kind data)

/-- ARP_REQUEST (R98): answered for the port's IPv4 address with its MAC address. -/
def execArpRequest (t : Nat) (c : Ch) (p : Port) (h : FrameHdr) (ip : Nat) (s : State) : Res :=
  s.run t fun s =>
    if s.laneUp c p && s.laneTakes p h && s.ipServed p false && ip == s.vn (Obj.portIpv4Addr p.num) then
      s.sendLane c p 1 (s.portStr c p 1)
    else s

/-- NEIGHBOUR_SOLICITATION (R98): answered for the port's IPv6 address with its MAC address. -/
def execNeighbourSolicitation (t : Nat) (c : Ch) (p : Port) (h : FrameHdr) (ip : List Byte) (s : State) : Res :=
  s.run t fun s =>
    if s.laneUp c p && s.laneTakes p h && s.ipServed p true && ip == s.portStr c p 5 then
      s.sendLane c p 2 (s.portStr c p 1)
    else s

/-- ICMP_ECHO_REQUEST (R98): answered up to 64 data bytes. -/
def execIcmpEchoRequest (t : Nat) (c : Ch) (p : Port) (h : FrameHdr) (data : List Byte) (s : State) : Res :=
  s.run t fun s =>
    if s.laneUp c p && s.laneTakes p h && s.ipServed p h.v6 && data.length ≤ 64 then s.sendLane c p 3 data else s

-- 802.1AS

/-- AS_GRANDMASTER_LOSS (R28, R100). -/
def execAsGrandmasterLoss (t : Nat) (p : Port) (s : State) : Res := s.run t fun s => s.loseGm p.num

/-- AS_TIME_RECEIVE (R26, R100): the port's grandmaster is known by its quality and clock identity; the time of the port
in use disciplines the fabric's time master. -/
def execAsTimeReceive (t : Nat) (c : Ch) (p : Port) (quality ident : Nat) (offset : Int) (s : State) : Res :=
  let takes := fun (s : State) => s.v (Obj.asEnable p.num) == 1 && s.laneUp c p
  let hear := fun (s : State) => s.updPort p.num fun x => { x with gm := some (quality, ident) }
  s.run (max s.now t + if takes s then (hear s).asStep p.num offset else 0) fun s =>
    if takes s then
      let s := hear s
      if s.asPort == some p.num && s.isTimeMaster then s.followAs offset else s
    else s

-- cyclic command frames (R101 to R110)

/-- The entries of a map in use, as written (R103). -/
def State.mapWords (s : State) (count : Obj) (entry : Nat → Obj) : List Int :=
  (upto (s.vn count)).map fun i => s.v (entry i)

/-- The entries of a port's command map. -/
def State.cmdWords (s : State) (p : Nat) : List Int := s.mapWords (Obj.cmdMapCount p) (Obj.cmdMapEntry p)

/-- The entries of a port's status map. -/
def State.statusWords (s : State) (p : Nat) : List Int := s.mapWords (Obj.statusMapCount p) (Obj.statusMapEntry p)

/-- The payload of a map in bytes. -/
def mapSize (l : List Int) : Nat := (l.map mapBytes).foldl (· + ·) 0

/-- The bytes of a cyclic frame (R101): header, payload, CRC-32C. -/
def cyclicBytes (type counter port fl sig time : Nat) (payload : List Byte) : List Byte :=
  let l := leBytes 1 1 ++ leBytes 1 type ++ leBytes 2 counter ++ leBytes 1 port ++ leBytes 1 fl ++ leBytes 2 sig ++
    leBytes 8 time ++ payload
  l ++ leBytes 4 (crc32c l)

/-- A command frame that passes the checks of R107. -/
def State.cyclicOk (s : State) (p : Nat) (l : List Byte) : Bool :=
  let n := l.length
  decide (20 ≤ n) && ofLeBytes (l.drop (n - 4)) == crc32c (l.take (n - 4)) && bytesAt l 0 1 == 1 && bytesAt l 1 1 == 0x10 &&
    bytesAt l 4 1 == p && bytesAt l 6 2 == s.vn (Obj.cmdMapSignature p) && n == 20 + mapSize (s.cmdWords p) &&
    s.v (Obj.cyclicEnable p) == 1

/-- The copies held of a command frame. -/
def PortSt.copiesOf (x : PortSt) (frame : List Byte) : List (Ch × Nat) :=
  x.copies.filterMap fun y => if y.2.1 == frame then some (y.1, y.2.2) else none

/-- The arrival of the first copy. -/
def cycFirst (l : List (Ch × Nat)) : Nat := l.foldl (fun m x => min m x.2) ((l.head?.map (·.2)).getD 0)

/-- The end of the agreement window of a frame. -/
def State.cycEnd (s : State) (p : Nat) (l : List (Ch × Nat)) : Nat := cycFirst l + s.vn (Obj.cyclicCopyWindow p) * us

/-- The channels whose copies lie within the window. -/
def State.cycHolders (s : State) (p : Nat) (l : List (Ch × Nat)) : Trio Bool :=
  let has := fun c => l.any fun x => x.1 == c && x.2 ≤ s.cycEnd p l
  ⟨has .chA, has .chB, has .chC⟩

/-- The copies of a command frame are dropped. -/
def State.dropCyc (s : State) (p : Nat) (frame : List Byte) : State :=
  s.updPort p fun x => { x with copies := x.copies.filter fun y => y.2.1 != frame }

/-- A frame whose window has closed without a majority is dropped and counted (R107). -/
def State.expireCyc (s : State) (p : Nat) (frame : List Byte) : State :=
  let l := (s.port p).copiesOf frame
  if l.isEmpty || s.isMajority (s.cycHolders p l) || s.now < s.cycEnd p l then s
  else (s.dropCyc p frame).bumpC .chA (Obj.cycAgreeFail p)

/-- CYCLIC_COMMAND_FRAME (R106, R107): one lane delivers a copy; its channel discards and counts it, or holds it and sends
its digest to the peers. -/
def execCyclicCommandFrame (t : Nat) (c : Ch) (p : Port) (h : FrameHdr) (frame : List Byte) (s : State) : Res :=
  s.run t fun s =>
    if !s.red.reachedDual || !s.laneUp c p || !s.laneTakes p h || !s.ipServed p h.v6 ||
        h.port != s.vn (Obj.cyclicUdpPort p.num) then s
    else if !s.cyclicOk p.num frame then s.bumpC c (Obj.cycDiscarded p.num)
    else
      let s := (s.expireCyc p.num frame).send (.strap c .digest (leBytes 4 (crc32c frame)))
      if ((s.port p.num).copiesOf frame).any (fun x => x.1 == c) ||
          (s.port p.num).taken.any (fun x => x.1 == frame && s.now ≤ x.2) then s
      else s.updPort p.num fun x => { x with copies := x.copies ++ [(c, frame, s.now)] }

/-- An agreed frame is remembered until its window ends, so that its late copies belong to it (R68, R107). -/
def State.keepCyc (s : State) (p : Nat) (frame : List Byte) (until_ : Nat) : State :=
  (s.dropCyc p frame).updPort p fun x => { x with taken := (x.taken.filter fun y => s.now ≤ y.2) ++ [(frame, until_)] }

/-- The cycle of a port in ticks (R106). -/
def State.cycle (s : State) (p : Nat) : Nat := s.vn (Obj.cycleTime p) * us

/-- The first boundary at least 10 µs, 3,000 ticks, after an agreement (R108). -/
def State.cycDue (s : State) (p : Nat) : Nat := ceilDiv (s.now + 3000) (s.cycle p) * s.cycle p

/-- An agreed frame waits for its boundary; one that misses the next boundary is late (R108). -/
def State.queueCyc (s : State) (p : Nat) (frame : List Byte) : State :=
  let due := s.cycDue p
  let f : CycFrame := { counter := bytesAt frame 2 2, payload := (frame.drop 16).take (frame.length - 20)
                        agreed := s.now, due := due }
  let s := if due = ceilDiv s.now (s.cycle p) * s.cycle p then s else s.bumpC .chA (Obj.cycLate p)
  s.updPort p fun x => { x with frames := x.frames ++ [f] }

/-- CYCLIC_FRAME_AGREED (R107, R108, R112, R118): a voting majority holds the frame within the window; the port is heard
and its leases restart. -/
def execCyclicFrameAgreed (t : Nat) (p : Port) (frame : List Byte) (s : State) : Res :=
  s.run t fun s =>
    let l := (s.port p.num).copiesOf frame
    if l.isEmpty || !s.isMajority (s.cycHolders p.num l) || !s.red.reachedDual then s
    else (((s.keepCyc p.num frame (s.cycEnd p.num l)).noteHeard p.carrier).renewLeases p).queueCyc p.num frame

/-- CYCLIC_AGREE_FAIL (R107). -/
def execCyclicAgreeFail (t : Nat) (p : Port) (frame : List Byte) (s : State) : Res :=
  s.run t fun s => s.expireCyc p.num frame

/-- Counter `n` is newer than `m` (R108). -/
def counterNewer (n m : Nat) : Bool :=
  let d := (n + 65536 - m % 65536) % 65536
  1 ≤ d && d ≤ 32767

/-- The newest of the frames due at a boundary; of equal counters the one agreed later (R108). -/
def newestOf (l : List CycFrame) : Option CycFrame :=
  l.foldl (fun b x => match b with
    | none => some x
    | some y => if counterNewer x.counter y.counter || x.counter == y.counter then some x else some y) none

/-- The values of a command frame by entry, in map order: none where an entry names no object. -/
def cutPayload : List Int → List Byte → List (Option (Entry × Val))
  | [], _ => []
  | w :: r, b =>
    let n := mapBytes w
    ((findObj (mapIndex w) (mapSub w)).map fun e => (e, valFor e (b.take n))) :: cutPayload r (b.drop n)

/-- The entries of a command frame act in map order as one atomic write of the port (R109): an entry that fails a check of
R83 is denied. A request to a semaphore is decided with the others of its commit instant (R106, R116); it gets no
response. -/
def State.applyCyc (s : State) (p : Port) (payload : List Byte) : State :=
  let l := cutPayload (s.cmdWords p.num) payload
  let vals := l.filterMap id
  let after := vals.foldl (fun s x => s.rawSet x.1 x.2) s
  let good := vals.filter fun x => (s.writeFails after p.carrier x.1 x.2 0).isNone
  let s := s.bumpC .chA (Obj.cycEntriesDenied p.num) (l.length - good.length)
  forEach good s fun s x =>
    if x.1.desc.role = .sluiceAg then
      let r : KdpReq := { carrier := p.carrier, frame := [], holders := Trio.all false, first := s.now, agreed := s.now }
      { s with kdp := { s.kdp with writes := s.kdp.writes ++ [{ req := r, due := s.now, members := [(x.1.key, x.2)] }] } }
    else s.applyWrite p.carrier x.1 x.2

/-- The frames due at a boundary: the newest is applied unless it is stale, the others are overtaken (R108). -/
def State.takeCyc (s : State) (p : Port) : State :=
  let n := p.num
  let due := (s.port n).frames.filter fun f => f.due ≤ s.now
  let s := s.updPort n fun x => { x with running := false, frames := x.frames.filter fun f => !(f.due ≤ s.now) }
  match newestOf due with
  | none => s
  | some f =>
    let s := s.bumpC .chA (Obj.cycOvertaken n) (due.length - 1)
    let stale := match (s.port n).lastCounter with
      | some m => !counterNewer f.counter m
      | none => false
    if stale then s.bumpC .chA (Obj.cycStale n)
    else
      let s := (s.applyCyc p f.payload).bumpC .chA (Obj.cycApplied n)
      s.updPort n fun x => { x with running := true, lastCounter := some f.counter }

-- cyclic status frames (R111)

/-- The bytes of a status-map entry: those of the voted value, or all ones without one. -/
def State.statusEntry (s : State) (w : Int) : Option (List Byte) :=
  match findObj (mapIndex w) (mapSub w) with
  | some e => if (s.readFails e).isEmpty && !s.mustWake e then s.readBytes e else none
  | none => none

/-- The values of the status map are latched at a boundary, as one read of each. CYCLE_COUNTER is 0 in the first status frame and
counts the cycles in which values are latched (R101; DESIGN CHOICE, log entry 135). -/
def State.latchStatus (s : State) (p : Nat) : State :=
  let l := s.statusWords p
  let vals := l.map fun w => (w, s.statusEntry w)
  let data := vals.flatMap fun x => x.2.getD (List.replicate (mapBytes x.1) 255)
  let s := forEach (vals.filter fun x => x.2.isSome) s fun s x => match findObj (mapIndex x.1) (mapSub x.1) with
    | some e => s.afterRead e
    | none => s
  s.updPort p fun x => { x with cycles := (x.cycles + 1) % 65536, latched := some (s.now, data, vals.any fun x => x.2.isNone) }

/-- CYCLE_BOUNDARY (R106, R108 to R111): at a multiple of CYCLE_TIME the command frame acts, then the status values are
latched. -/
def execCycleBoundary (t : Nat) (p : Port) (s : State) : Res :=
  s.run t fun s =>
    let s := s.applyDue
    if s.cycle p.num = 0 ∨ s.now % s.cycle p.num ≠ 0 ∨ s.receives = false then s
    else
      let s := s.takeCyc p
      if s.v (Obj.cyclicEnable p.num) = 1 then s.latchStatus p.num else s

/-- The status frame of channel `c` (R101, R102, R111). -/
def State.statusFrame (s : State) (c : Ch) (p : Port) (x : Nat × List Byte × Bool) : List Byte :=
  cyclicBytes 0x11 ((s.port p.num).cycles + 65535) p.num ((c.num + 1) * 2 + b2n x.2.2 * 8) (s.vn (Obj.statusMapSignature p.num))
    x.1 x.2.1

/-- CYCLIC_STATUS_FRAME (R111): STATUS_OFFSET after the boundary, each channel whose lane is up sends the latched values. -/
def execCyclicStatusFrame (t : Nat) (p : Port) (s : State) : Res :=
  s.run t fun s =>
    match (s.port p.num).latched with
    | some x =>
      if s.now < x.1 + s.vn (Obj.statusOffset p.num) * us then s
      else
        let s := forEach (Ch.all.filter fun c => s.laneUp c p) s fun s c => s.sendLane c p 4 (s.statusFrame c p x)
        s.updPort p.num fun y => { y with latched := none }
    | none => s

-- silence (R112)

/-- A port is silent: nothing from it has been agreed for PORT_SILENT_TIME. -/
def State.silentNow (s : State) (p : Nat) : Bool := (s.port p).heard + s.vn (Obj.portSilentTime p) * ms ≤ s.now

/-- The check of one port: PORT_FAULT is set, and the fault is reported once. -/
def State.checkSilence (s : State) (p : Nat) : State :=
  if !(s.port p).silent && s.silentNow p then (s.updPort p fun x => { x with silent := true }).health clsHostPort p else s

/-- PORT_SILENT (R112): at a commit instant. -/
def execPortSilent (t : Nat) (p : Port) (s : State) : Res :=
  s.run t fun s => if isCommit s.now && s.receives then s.checkSilence p.num else s

-- the Sluice (R116)

/-- SLUICE_ACQUIRE (R116): a write of 1 to 0x2400:(g+1). -/
def execSluiceAcquire (t : Nat) (cr : Carrier) (g : Fin 16) (s : State) : Res :=
  s.run t fun s => s.hostWrite cr 0x2400 (g + 1) (.num 1)

/-- SLUICE_RELEASE (R116): a write of 0 to 0x2400:(g+1). -/
def execSluiceRelease (t : Nat) (cr : Carrier) (g : Fin 16) (s : State) : Res :=
  s.run t fun s => s.hostWrite cr 0x2400 (g + 1) (.num 0)

end Sys2Proof.Machine
end

