-- ==== Sys2Proof/Machine/HostCmds.lean ====
section
/-! DEFINITION. The rows of the command table that are one host request each: the write or the read of one object, as a
request agreed at the time of the row (R61, R68, R72). The checks of R83 and the object's own rules decide (Conditions);
the effect is that of the object (Write, and the chapter named at each row). -/

namespace Sys2Proof.Machine

/-- A write of bytes to an object by a row. -/
def State.hostBytes (s : State) (cr : Carrier) (o : Obj) (b : List Byte) : State := s.hostWrite cr o.index o.sub (.bytes b)

/-- CONFIG_WRITE (R72): a write of any object. -/
def execConfigWrite (t : Nat) (cr : Carrier) (index sub : Nat) (v : Val) (s : State) : Res :=
  s.run t fun s => s.hostWrite cr index sub v

-- 01 time

/-- CHANNEL_SKEW_MAX_READ (R29): the value is read and cleared. -/
def execChannelSkewMaxRead (t : Nat) (cr : Carrier) (s : State) : Res := s.run t fun s => s.hostRead cr Obj.channelSkewMax

/-- DEVICE_TIME_READ (R29). -/
def execDeviceTimeRead (t : Nat) (cr : Carrier) (s : State) : Res := s.run t fun s => s.hostRead cr Obj.deviceTime

-- 05 sensing

/-- CV_RESULT_READ (R133): the code, and NEW clears. -/
def execCvResultRead (t : Nat) (cr : Carrier) (c : Ch) (n : Fin 20) (s : State) : Res :=
  s.run t fun s => s.hostRead cr (Obj.cvResult c n)

/-- CV_SAMPLE_READ (R133): code and status as they stood together, and NEW clears. -/
def execCvSampleRead (t : Nat) (cr : Carrier) (c : Ch) (n : Fin 20) (s : State) : Res :=
  s.run t fun s => s.hostRead cr (Obj.cvSample c n)

/-- CV_STATUS_CLEAR (R136). -/
def execCvStatusClear (t : Nat) (cr : Carrier) (c : Ch) (n : Fin 20) (v : Int) (s : State) : Res :=
  s.run t fun s => s.hostSet cr (Obj.cvStatusClear c n) v

/-- DIAG_INJECT (R142). -/
def execDiagInject (t : Nat) (cr : Carrier) (c : Ch) (k : Fin 2) (v : Int) (s : State) : Res :=
  s.run t fun s => s.hostSet cr (Obj.diagInject c k) v

/-- CAL_REQUEST (R146). -/
def execCalRequest (t : Nat) (cr : Carrier) (c : Ch) (v : Int) (s : State) : Res :=
  s.run t fun s => s.hostSet cr (Obj.calRequest c) v

-- 06 position feedback

/-- CMP_CONTROL (R176). -/
def execCmpControl (t : Nat) (cr : Carrier) (c : Ch) (n : Fin 8) (e : Fin 16) (v : Int) (s : State) : Res :=
  s.run t fun s => s.hostSet cr (Obj.cmpControl c n e) v

/-- AX_HOME_NEXT_INDEX (R164). -/
def execAxHomeNextIndex (t : Nat) (cr : Carrier) (n : Fin 32) (s : State) : Res :=
  s.run t fun s => s.hostSet cr (Obj.axHome n) 1

/-- AX_HOME_NOW (R164). -/
def execAxHomeNow (t : Nat) (cr : Carrier) (n : Fin 32) (s : State) : Res :=
  s.run t fun s => s.hostSet cr (Obj.axHome n) 2

/-- AX_HOME_CANCEL (R164). -/
def execAxHomeCancel (t : Nat) (cr : Carrier) (n : Fin 32) (s : State) : Res :=
  s.run t fun s => s.hostSet cr (Obj.axHome n) 0

/-- FP_PRESET (R160). -/
def execFpPreset (t : Nat) (cr : Carrier) (c : Ch) (n : Fin 8) (v : Int) (s : State) : Res :=
  s.run t fun s => s.hostSet cr (Obj.fpPreset c n) v

/-- SP_PRESET (R160). -/
def execSpPreset (t : Nat) (cr : Carrier) (c : Ch) (n : Fin 6) (v : Int) (s : State) : Res :=
  s.run t fun s => s.hostSet cr (Obj.spPreset c n) v

/-- FP_STATUS_CLEAR (R182). -/
def execFpStatusClear (t : Nat) (cr : Carrier) (c : Ch) (n : Fin 8) (v : Int) (s : State) : Res :=
  s.run t fun s => s.hostSet cr (Obj.fpStatusClear c n) v

/-- SP_STATUS_CLEAR (R186). -/
def execSpStatusClear (t : Nat) (cr : Carrier) (c : Ch) (n : Fin 6) (v : Int) (s : State) : Res :=
  s.run t fun s => s.hostSet cr (Obj.spStatusClear c n) v

/-- AX_EXTRAP_POS_READ (R178). -/
def execAxExtrapPosRead (t : Nat) (cr : Carrier) (n : Fin 32) (s : State) : Res :=
  s.run t fun s => s.hostRead cr (Obj.axExtrapPos n)

-- 07 engines and traces

/-- BANK_SELECT (R210). -/
def execBankSelect (t : Nat) (cr : Carrier) (k : Fin 512) (v : Int) (s : State) : Res :=
  s.run t fun s => s.hostSet cr (Obj.bankSelect k) v

/-- AX_FAULT_CLEAR (R217). -/
def execAxFaultClear (t : Nat) (cr : Carrier) (n : Fin 32) (v : Int) (s : State) : Res :=
  s.run t fun s => s.hostSet cr (Obj.axFaultClear n) v

/-- FE_MAX_READ (R220): the value is read and cleared. -/
def execFeMaxRead (t : Nat) (cr : Carrier) (k : Fin 512) (s : State) : Res :=
  s.run t fun s => s.hostRead cr (Obj.feMax k)

/-- MAX_EXEC_READ (R220): the value is read and cleared. -/
def execMaxExecRead (t : Nat) (cr : Carrier) (k : Fin 512) (s : State) : Res :=
  s.run t fun s => s.hostRead cr (Obj.maxExec k)

/-- TRACE_ARM (R226). -/
def execTraceArm (t : Nat) (cr : Carrier) (k : Fin 512) (s : State) : Res :=
  s.run t fun s => s.hostSet cr (Obj.traceControl k) 1

/-- TRACE_STOP (R228). -/
def execTraceStop (t : Nat) (cr : Carrier) (k : Fin 512) (s : State) : Res :=
  s.run t fun s => s.hostSet cr (Obj.traceControl k) 0

/-- TRACE_HOST_TRIGGER (R226). -/
def execTraceHostTrigger (t : Nat) (cr : Carrier) (k : Fin 512) (s : State) : Res :=
  s.run t fun s => s.hostSet cr (Obj.traceControl k) 2

/-- TRACE_RELEASE (R228). -/
def execTraceRelease (t : Nat) (cr : Carrier) (k : Fin 512) (s : State) : Res :=
  s.run t fun s => s.hostSet cr (Obj.traceControl k) 3

-- 08 bridges

/-- AX_TORQUE_ENABLE_ON (R253). -/
def execAxTorqueEnableOn (t : Nat) (cr : Carrier) (n : Fin 32) (s : State) : Res :=
  s.run t fun s => s.hostSet cr (Obj.axTorqueEnable n) 1

/-- AX_TORQUE_ENABLE_OFF (R255). -/
def execAxTorqueEnableOff (t : Nat) (cr : Carrier) (n : Fin 32) (s : State) : Res :=
  s.run t fun s => s.hostSet cr (Obj.axTorqueEnable n) 0

-- 09 profiles and groups

/-- PG_TARGET (R269). -/
def execPgTarget (t : Nat) (cr : Carrier) (n : Fin 32) (v : Int) (s : State) : Res :=
  s.run t fun s => s.hostSet cr (Obj.pgTarget n) v

/-- PG_STOP (R273). -/
def execPgStop (t : Nat) (cr : Carrier) (n : Fin 32) (s : State) : Res :=
  s.run t fun s => s.hostSet cr (Obj.pgControl n) 1

/-- PG_QUICK_STOP (R273). -/
def execPgQuickStop (t : Nat) (cr : Carrier) (n : Fin 32) (s : State) : Res :=
  s.run t fun s => s.hostSet cr (Obj.pgControl n) 2

/-- AG_STOP (R278). -/
def execAgStop (t : Nat) (cr : Carrier) (g : Fin 16) (s : State) : Res :=
  s.run t fun s => s.hostSet cr (Obj.agControl g) 1

/-- AG_QUICK_STOP (R278). -/
def execAgQuickStop (t : Nat) (cr : Carrier) (g : Fin 16) (s : State) : Res :=
  s.run t fun s => s.hostSet cr (Obj.agControl g) 2

/-- AG_FORCE_TOTAL (R280). -/
def execAgForceTotal (t : Nat) (cr : Carrier) (g : Fin 16) (v : Int) (s : State) : Res :=
  s.run t fun s => s.hostSet cr (Obj.agForceTotal g) v

-- 10 redundancy

/-- PASSIVE_REQUEST (R310). -/
def execPassiveRequest (t : Nat) (cr : Carrier) (v : Int) (s : State) : Res :=
  s.run t fun s => s.hostSet cr Obj.passiveRequest v

/-- AX_REDUND_MODE (R315). -/
def execAxRedundMode (t : Nat) (cr : Carrier) (n : Fin 32) (v : Int) (s : State) : Res :=
  s.run t fun s => s.hostSet cr (Obj.axRedundMode n) v

-- 11 placement

/-- PLAN_REQUEST_REPLAN (R344). -/
def execPlanRequestReplan (t : Nat) (cr : Carrier) (s : State) : Res := s.run t fun s => s.hostSet cr Obj.planRequest 1

/-- PLAN_REQUEST_STATIC (R352). -/
def execPlanRequestStatic (t : Nat) (cr : Carrier) (s : State) : Res := s.run t fun s => s.hostSet cr Obj.planRequest 2

-- 12 fabric

/-- FAB_NODE_ADDR (R369). -/
def execFabNodeAddr (t : Nat) (cr : Carrier) (v : Int) (s : State) : Res :=
  s.run t fun s => s.hostSet cr Obj.fabNodeAddr v

/-- FAB_AUTH_KEY_WRITE (R383). -/
def execFabAuthKeyWrite (t : Nat) (cr : Carrier) (slot : Fin 2) (key : List Byte) (s : State) : Res :=
  s.run t fun s => s.hostBytes cr (if slot.val = 0 then Obj.fabAuthKey0 else Obj.fabAuthKey1) key

-- 13 twin

/-- TWIN_PAIR (R391). -/
def execTwinPair (t : Nat) (cr : Carrier) (s : State) : Res := s.run t fun s => s.hostSet cr Obj.twinPairCmd 1

/-- TWIN_UNPAIR (R393). -/
def execTwinUnpair (t : Nat) (cr : Carrier) (s : State) : Res := s.run t fun s => s.hostSet cr Obj.twinPairCmd 2

/-- TWIN_FORCED_UNPAIR (R393). -/
def execTwinForcedUnpair (t : Nat) (cr : Carrier) (s : State) : Res := s.run t fun s => s.hostSet cr Obj.twinPairCmd 3

-- 14 safety

/-- The number of a safe input: 6 times the channel's, and the pair. -/
def siNum (c : Ch) (i : Nat) : Nat := 6 * c.num + i

/-- SI_MODE (R418). -/
def execSiMode (t : Nat) (cr : Carrier) (c : Ch) (i : Fin 6) (v : Int) (s : State) : Res :=
  s.run t fun s => s.hostSet cr (Obj.siMode (siNum c i)) v

/-- SI_DISC_MAX_READ (R422): the value is read and cleared. -/
def execSiDiscMaxRead (t : Nat) (cr : Carrier) (c : Ch) (i : Fin 6) (s : State) : Res :=
  s.run t fun s => s.hostRead cr (Obj.siDiscMax (siNum c i))

/-- FAULT_RESET_WRITE (R433). -/
def execFaultResetWrite (t : Nat) (cr : Carrier) (v : Int) (s : State) : Res :=
  s.run t fun s => s.hostSet cr Obj.faultReset v

/-- PW_ENTER (R439). -/
def execPwEnter (t : Nat) (cr : Carrier) (pw : List Byte) (s : State) : Res := s.run t fun s => s.hostBytes cr Obj.pwEnter pw

/-- PW_NEW (R441). -/
def execPwNew (t : Nat) (cr : Carrier) (pw : List Byte) (s : State) : Res := s.run t fun s => s.hostBytes cr Obj.pwNew pw

/-- PW_LOCK (R439). -/
def execPwLock (t : Nat) (cr : Carrier) (v : Int) (s : State) : Res := s.run t fun s => s.hostSet cr Obj.pwLock v

/-- CL_CLEAR (R444). -/
def execClClear (t : Nat) (cr : Carrier) (v : Int) (s : State) : Res := s.run t fun s => s.hostSet cr Obj.clClear v

-- 15 power

/-- PWR_REQUEST_RETAIN (R455). -/
def execPwrRequestRetain (t : Nat) (cr : Carrier) (s : State) : Res := s.run t fun s => s.hostSet cr Obj.pwrRequest 1

/-- PWR_REQUEST_PARK (R455). -/
def execPwrRequestPark (t : Nat) (cr : Carrier) (s : State) : Res := s.run t fun s => s.hostSet cr Obj.pwrRequest 2

/-- PL_REQUEST (R470). -/
def execPlRequest (t : Nat) (cr : Carrier) (c : Ch) (v : Int) (s : State) : Res :=
  s.run t fun s => s.hostSet cr (Obj.plRequest c) v

/-- DOMAIN_MODE (R472). -/
def execDomainMode (t : Nat) (cr : Carrier) (d : Fin 6) (v : Int) (s : State) : Res :=
  s.run t fun s => s.hostSet cr (Obj.domainMode d) v

/-- REFUSER_MAP_READ (R473): the value is read and cleared. -/
def execRefuserMapRead (t : Nat) (cr : Carrier) (s : State) : Res := s.run t fun s => s.hostRead cr Obj.refuserMap

/-- PWR_STATUS_READ (R475). -/
def execPwrStatusRead (t : Nat) (cr : Carrier) (s : State) : Res := s.run t fun s => s.hostRead cr Obj.pwrStatus

/-- DOMAIN_LAST_READ (R476). -/
def execDomainLastRead (t : Nat) (cr : Carrier) (d : Fin 6) (s : State) : Res :=
  s.run t fun s => s.hostRead cr (Obj.domainLast d)

-- 16 self-test and life cycle

/-- ROTATION_MAX_READ (R495): the value is read and cleared. -/
def execRotationMaxRead (t : Nat) (cr : Carrier) (s : State) : Res := s.run t fun s => s.hostRead cr Obj.rotationMax

/-- LC_REQUEST (R489). -/
def execLcRequest (t : Nat) (cr : Carrier) (v : Int) (s : State) : Res := s.run t fun s => s.hostSet cr Obj.lcRequest v

/-- DEBUG_PERMIT (R494). -/
def execDebugPermit (t : Nat) (cr : Carrier) (v : Int) (s : State) : Res :=
  s.run t fun s => s.hostSet cr Obj.debugPermit v

-- 17 sediment record

/-- SED_TRIGGER (R505). -/
def execSedTrigger (t : Nat) (cr : Carrier) (v : Int) (s : State) : Res := s.run t fun s => s.hostSet cr Obj.sedTrigger v

/-- SED_RELEASE (R507). -/
def execSedRelease (t : Nat) (cr : Carrier) (v : Int) (s : State) : Res := s.run t fun s => s.hostSet cr Obj.sedRelease v

end Sys2Proof.Machine
end

