-- ==== Sys2Proof/Machine/Commit.lean ====
section
/-! DEFINITION. COMMIT_INSTANT (R72): what the device evaluates at every multiple of 100 µs. -/

namespace Sys2Proof.Machine

/-- The Sluice at a commit instant (R116, R118, R119): expiries, then requests, then the ends of HOLD phases. -/
def State.sluiceCommit (s : State) : State :=
  let s := forEach (upto 16) s State.expireLease
  forEach (upto 16) s.resolveSems State.endHold

/-- A device-level stream is voted: every channel in V sends its digest (R120, R266, R301). -/
def State.voteStream (s : State) (k digest : Nat) : State :=
  forEach s.voters (s.openStream k s.votesNow) fun s c => s.sendDigest c k digest 0

/-- The Sluice stream and the profile stream at a commit instant (R120, R266); no digest is sent in PASSIVE (R313). -/
def State.commitDigests (s : State) : State :=
  if s.red.state = .passive then s
  else (s.voteStream 512 (crc32c s.sluiceBytes)).voteStream 513 (crc32c s.profileBytes)

/-- What a device in RUN does at a commit instant: semaphores, writes, safe inputs, quiet window, mirrored values, debug
access, digests, port silence. -/
def State.commit (s : State) : State :=
  let s := s.sluiceCommit.applyDue.safeInputs.quietSample.applyMirror.mirrorRates.remoteRates
  let s := (forEach Ch.all s State.debugSplit).commitDigests
  forEach (upto 2) s State.checkSilence

/-- COMMIT_INSTANT (R72): the commit evaluations at a multiple of 100 µs; a write due at a period boundary takes effect at
any time from its boundary on (log entry 24). -/
def execCommitInstant (t : Nat) (s : State) : Res :=
  s.run t fun s =>
    if !isCommit s.now then s.applyDue
    else
      s.applyDue.once markCommit fun s =>
        let s := if s.receives then s.commit else s
        s.evalSleep.repairMram.plCommit

end Sys2Proof.Machine
end

