-- ==== Sys2Proof/Machine/Dispatch.lean ====
section
/-! DEFINITION. The dispatch: one arm per command. -/

namespace Sys2Proof.Machine

/-- The effect of a command on everything but the queue of waiting commands. -/
def exec (i : Instr) (s : State) : Host.Outcome State Fault Refusal :=
  match i with
  | .crossStrapFrame t rx tx cls crcOk skew payload => Sys2Proof.Machine.execCrossStrapFrame t rx tx cls crcOk skew payload s
  | .crossStrapLinkFail t l => Sys2Proof.Machine.execCrossStrapLinkFail t l s
  | .crossStrapLinkRestored t l => Sys2Proof.Machine.execCrossStrapLinkRestored t l s
  | .clockMonitorFault t c => Sys2Proof.Machine.execClockMonitorFault t c s
  | .dramFault t c addr => Sys2Proof.Machine.execDramFault t c addr s
  | .dramEccError t c block correctable => Sys2Proof.Machine.execDramEccError t c block correctable s
  | .timeSourceLock t offset rate traceable => Sys2Proof.Machine.execTimeSourceLock t offset rate traceable s
  | .timeSourceLoss t => Sys2Proof.Machine.execTimeSourceLoss t s
  | .timeSourceReturn t offset rate traceable => Sys2Proof.Machine.execTimeSourceReturn t offset rate traceable s
  | .channelSkewMaxRead t cr => Sys2Proof.Machine.execChannelSkewMaxRead t cr s
  | .deviceTimeRead t cr => Sys2Proof.Machine.execDeviceTimeRead t cr s
  | .commitInstant t => Sys2Proof.Machine.execCommitInstant t s
  | .configWrite t cr index sub v => Sys2Proof.Machine.execConfigWrite t cr index sub v s
  | .kdpRequestCopy t cr c h frame => Sys2Proof.Machine.execKdpRequestCopy t cr c h frame s
  | .kdpRequestAgreed t cr frame => Sys2Proof.Machine.execKdpRequestAgreed t cr frame s
  | .kdpCopyWindowExpiry t cr frame => Sys2Proof.Machine.execKdpCopyWindowExpiry t cr frame s
  | .readExp t cr tid => Sys2Proof.Machine.execReadExp t cr tid s
  | .writeExp t cr tid => Sys2Proof.Machine.execWriteExp t cr tid s
  | .readSegInit t cr tid => Sys2Proof.Machine.execReadSegInit t cr tid s
  | .writeSegInit t cr tid => Sys2Proof.Machine.execWriteSegInit t cr tid s
  | .segmentRead t cr tid => Sys2Proof.Machine.execSegmentRead t cr tid s
  | .segmentWrite t cr tid => Sys2Proof.Machine.execSegmentWrite t cr tid s
  | .groupWrite t cr tid => Sys2Proof.Machine.execGroupWrite t cr tid s
  | .abortTransfer t cr tid => Sys2Proof.Machine.execAbortTransfer t cr tid s
  | .kdpTransferTimeout t cr index sub => Sys2Proof.Machine.execKdpTransferTimeout t cr index sub s
  | .kdpStallResume t cr tid => Sys2Proof.Machine.execKdpStallResume t cr tid s
  | .kdpWakeTimeout t cr tid => Sys2Proof.Machine.execKdpWakeTimeout t cr tid s
  | .kdpProxyResponse t cr tid code detail last data => Sys2Proof.Machine.execKdpProxyResponse t cr tid code detail last data s
  | .kdpProxyTimeout t cr tid => Sys2Proof.Machine.execKdpProxyTimeout t cr tid s
  | .storeAll t cr v => Sys2Proof.Machine.execStoreAll t cr v s
  | .storeComplete t => Sys2Proof.Machine.execStoreComplete t s
  | .restoreDefaults t cr v => Sys2Proof.Machine.execRestoreDefaults t cr v s
  | .hostLaneLinkChange t c p aligned control => Sys2Proof.Machine.execHostLaneLinkChange t c p aligned control s
  | .arpRequest t c p h ip => Sys2Proof.Machine.execArpRequest t c p h ip s
  | .neighbourSolicitation t c p h ip => Sys2Proof.Machine.execNeighbourSolicitation t c p h ip s
  | .icmpEchoRequest t c p h data => Sys2Proof.Machine.execIcmpEchoRequest t c p h data s
  | .asGrandmasterLoss t p => Sys2Proof.Machine.execAsGrandmasterLoss t p s
  | .asTimeReceive t c p quality ident offset => Sys2Proof.Machine.execAsTimeReceive t c p quality ident offset s
  | .cyclicCommandFrame t c p h frame => Sys2Proof.Machine.execCyclicCommandFrame t c p h frame s
  | .cyclicFrameAgreed t p frame => Sys2Proof.Machine.execCyclicFrameAgreed t p frame s
  | .cyclicAgreeFail t p frame => Sys2Proof.Machine.execCyclicAgreeFail t p frame s
  | .cycleBoundary t p => Sys2Proof.Machine.execCycleBoundary t p s
  | .cyclicStatusFrame t p => Sys2Proof.Machine.execCyclicStatusFrame t p s
  | .portSilent t p => Sys2Proof.Machine.execPortSilent t p s
  | .sluiceAcquire t cr g => Sys2Proof.Machine.execSluiceAcquire t cr g s
  | .sluiceRelease t cr g => Sys2Proof.Machine.execSluiceRelease t cr g s
  | .leaseExpiry t g => Sys2Proof.Machine.execLeaseExpiry t g s
  | .holdTimeExpiry t g => Sys2Proof.Machine.execHoldTimeExpiry t g s
  | .converterResult t c n nv => Sys2Proof.Machine.execConverterResult t c n nv s
  | .loopSample t c n nv ovrg => Sys2Proof.Machine.execLoopSample t c n nv ovrg s
  | .overrangeOnset t c n positive => Sys2Proof.Machine.execOverrangeOnset t c n positive s
  | .overrangeClear t c n => Sys2Proof.Machine.execOverrangeClear t c n s
  | .settlingEnd t c n => Sys2Proof.Machine.execSettlingEnd t c n s
  | .referenceBufferFault t c m outside => Sys2Proof.Machine.execReferenceBufferFault t c m outside s
  | .cvResultRead t cr c n => Sys2Proof.Machine.execCvResultRead t cr c n s
  | .cvSampleRead t cr c n => Sys2Proof.Machine.execCvSampleRead t cr c n s
  | .cvStatusClear t cr c n v => Sys2Proof.Machine.execCvStatusClear t cr c n v s
  | .diagScanStep t c k x => Sys2Proof.Machine.execDiagScanStep t c k x s
  | .diagInject t cr c k v => Sys2Proof.Machine.execDiagInject t cr c k v s
  | .injectedConversionDone t c k x => Sys2Proof.Machine.execInjectedConversionDone t c k x s
  | .calRequest t cr c v => Sys2Proof.Machine.execCalRequest t cr c v s
  | .calibrationStart t c n => Sys2Proof.Machine.execCalibrationStart t c n s
  | .calibrationDone t c n offset gain bufferOk => Sys2Proof.Machine.execCalibrationDone t c n offset gain bufferOk s
  | .calWaitTimeout t c n => Sys2Proof.Machine.execCalWaitTimeout t c n s
  | .fpEdgeAccepted t c n a b z => Sys2Proof.Machine.execFpEdgeAccepted t c n a b z s
  | .comparePulseEnd t c n => Sys2Proof.Machine.execComparePulseEnd t c n s
  | .cmpControl t cr c n e v => Sys2Proof.Machine.execCmpControl t cr c n e v s
  | .axHomeNextIndex t cr n => Sys2Proof.Machine.execAxHomeNextIndex t cr n s
  | .axHomeNow t cr n => Sys2Proof.Machine.execAxHomeNow t cr n s
  | .axHomeCancel t cr n => Sys2Proof.Machine.execAxHomeCancel t cr n s
  | .fpPreset t cr c n v => Sys2Proof.Machine.execFpPreset t cr c n v s
  | .spPreset t cr c n v => Sys2Proof.Machine.execSpPreset t cr c n v s
  | .fpStatusClear t cr c n v => Sys2Proof.Machine.execFpStatusClear t cr c n v s
  | .spStatusClear t cr c n v => Sys2Proof.Machine.execSpStatusClear t cr c n v s
  | .sentFrame t c n f => Sys2Proof.Machine.execSentFrame t c n f s
  | .psi5SyncRequest t c n => Sys2Proof.Machine.execPsi5SyncRequest t c n s
  | .psi5Frame t c n startBit rate bits => Sys2Proof.Machine.execPsi5Frame t c n startBit rate bits s
  | .sourceLost t c n => Sys2Proof.Machine.execSourceLost t c n s
  | .resolverSample t c k x y ox oy => Sys2Proof.Machine.execResolverSample t c k x y ox oy s
  | .axisLatch t n => Sys2Proof.Machine.execAxisLatch t n s
  | .axExtrapPosRead t cr n => Sys2Proof.Machine.execAxExtrapPosRead t cr n s
  | .iterationRelease t k => Sys2Proof.Machine.execIterationRelease t k s
  | .taskIteration t c k errs => Sys2Proof.Machine.execTaskIteration t c k errs s
  | .inputLost t c k => Sys2Proof.Machine.execInputLost t c k s
  | .feFault t c k => Sys2Proof.Machine.execFeFault t c k s
  | .bankSelect t cr k v => Sys2Proof.Machine.execBankSelect t cr k v s
  | .bankSwap t k => Sys2Proof.Machine.execBankSwap t k s
  | .axFaultClear t cr n v => Sys2Proof.Machine.execAxFaultClear t cr n v s
  | .feMaxRead t cr k => Sys2Proof.Machine.execFeMaxRead t cr k s
  | .maxExecRead t cr k => Sys2Proof.Machine.execMaxExecRead t cr k s
  | .traceArm t cr k => Sys2Proof.Machine.execTraceArm t cr k s
  | .traceStop t cr k => Sys2Proof.Machine.execTraceStop t cr k s
  | .traceHostTrigger t cr k => Sys2Proof.Machine.execTraceHostTrigger t cr k s
  | .traceRelease t cr k => Sys2Proof.Machine.execTraceRelease t cr k s
  | .traceCrossTrigger t k src => Sys2Proof.Machine.execTraceCrossTrigger t k src s
  | .traceAbort t k cause => Sys2Proof.Machine.execTraceAbort t k cause s
  | .pwmValley t c k => Sys2Proof.Machine.execPwmValley t c k s
  | .pwmPeak t c k => Sys2Proof.Machine.execPwmPeak t c k s
  | .pwmCounterStart t c k => Sys2Proof.Machine.execPwmCounterStart t c k s
  | .pwmGridChange t c k => Sys2Proof.Machine.execPwmGridChange t c k s
  | .dqIteration t c k errs => Sys2Proof.Machine.execDqIteration t c k errs s
  | .stallTimeout t n => Sys2Proof.Machine.execStallTimeout t n s
  | .overcurrentTrip t c k => Sys2Proof.Machine.execOvercurrentTrip t c k s
  | .axTorqueEnableOn t cr n => Sys2Proof.Machine.execAxTorqueEnableOn t cr n s
  | .axTorqueEnableOff t cr n => Sys2Proof.Machine.execAxTorqueEnableOff t cr n s
  | .enRise t c k => Sys2Proof.Machine.execEnRise t c k s
  | .enFall t c k => Sys2Proof.Machine.execEnFall t c k s
  | .armChange t c k => Sys2Proof.Machine.execArmChange t c k s
  | .armrbQualified t c k => Sys2Proof.Machine.execArmrbQualified t c k s
  | .gspiTransfer t c p rx => Sys2Proof.Machine.execGspiTransfer t c p rx s
  | .gdInitCheck t c k => Sys2Proof.Machine.execGdInitCheck t c k s
  | .gdInitRetry t c k => Sys2Proof.Machine.execGdInitRetry t c k s
  | .gdPollRound t c k => Sys2Proof.Machine.execGdPollRound t c k s
  | .profileTick t => Sys2Proof.Machine.execProfileTick t s
  | .pgTarget t cr n v => Sys2Proof.Machine.execPgTarget t cr n v s
  | .standstillReached t n => Sys2Proof.Machine.execStandstillReached t n s
  | .pgStop t cr n => Sys2Proof.Machine.execPgStop t cr n s
  | .pgQuickStop t cr n => Sys2Proof.Machine.execPgQuickStop t cr n s
  | .agStop t cr g => Sys2Proof.Machine.execAgStop t cr g s
  | .agQuickStop t cr g => Sys2Proof.Machine.execAgQuickStop t cr g s
  | .agForceTotal t cr g v => Sys2Proof.Machine.execAgForceTotal t cr g v s
  | .memberLoss t g remote => Sys2Proof.Machine.execMemberLoss t g remote s
  | .memberRegain t g => Sys2Proof.Machine.execMemberRegain t g s
  | .remoteMoveStart t g => Sys2Proof.Machine.execRemoteMoveStart t g s
  | .moveDescription t g d => Sys2Proof.Machine.execMoveDescription t g d s
  | .moveConfirmation t g => Sys2Proof.Machine.execMoveConfirmation t g s
  | .checkpoint t k => Sys2Proof.Machine.execCheckpoint t k s
  | .digestFrame t rx tx k f => Sys2Proof.Machine.execDigestFrame t rx tx k f s
  | .vote t k => Sys2Proof.Machine.execVote t k s
  | .voteResult t rx tx k m => Sys2Proof.Machine.execVoteResult t rx tx k m s
  | .reseedCopy t c k => Sys2Proof.Machine.execReseedCopy t c k s
  | .arbitrationConfirm t cands => Sys2Proof.Machine.execArbitrationConfirm t cands s
  | .arbitrationTimeout t => Sys2Proof.Machine.execArbitrationTimeout t s
  | .twinSupervisionReport t k misses => Sys2Proof.Machine.execTwinSupervisionReport t k misses s
  | .ssBoundExpiry t => Sys2Proof.Machine.execSsBoundExpiry t s
  | .passiveRequest t cr v => Sys2Proof.Machine.execPassiveRequest t cr v s
  | .axRedundMode t cr n v => Sys2Proof.Machine.execAxRedundMode t cr n v s
  | .debugAccessOpen t c => Sys2Proof.Machine.execDebugAccessOpen t c s
  | .engineHalt t c e => Sys2Proof.Machine.execEngineHalt t c e s
  | .comparatorInjection t flagged => Sys2Proof.Machine.execComparatorInjection t flagged s
  | .injectionRepeat t flagged => Sys2Proof.Machine.execInjectionRepeat t flagged s
  | .planInstant t => Sys2Proof.Machine.execPlanInstant t s
  | .snapshotVote t flip => Sys2Proof.Machine.execSnapshotVote t flip s
  | .planComputed t flip => Sys2Proof.Machine.execPlanComputed t flip s
  | .planVote t => Sys2Proof.Machine.execPlanVote t s
  | .planRetry t => Sys2Proof.Machine.execPlanRetry t s
  | .planRequestReplan t cr => Sys2Proof.Machine.execPlanRequestReplan t cr s
  | .planRequestStatic t cr => Sys2Proof.Machine.execPlanRequestStatic t cr s
  | .scoreReport t => Sys2Proof.Machine.execScoreReport t s
  | .scoreDecay t => Sys2Proof.Machine.execScoreDecay t s
  | .healthAgeReached t => Sys2Proof.Machine.execHealthAgeReached t s
  | .sliceRequest t c e => Sys2Proof.Machine.execSliceRequest t c e s
  | .sliceAbort t c e => Sys2Proof.Machine.execSliceAbort t c e s
  | .fabricLaneAlignmentLoss t c l => Sys2Proof.Machine.execFabricLaneAlignmentLoss t c l s
  | .fabricLaneAligned t c l at0 at35 at6 => Sys2Proof.Machine.execFabricLaneAligned t c l at0 at35 at6 s
  | .helloSend t c l => Sys2Proof.Machine.execHelloSend t c l s
  | .helloReceive t c l h => Sys2Proof.Machine.execHelloReceive t c l h s
  | .helloTimeout t c l => Sys2Proof.Machine.execHelloTimeout t c l s
  | .addressConflictEnd t => Sys2Proof.Machine.execAddressConflictEnd t s
  | .fabricFrameReceive t c l frame good => Sys2Proof.Machine.execFabricFrameReceive t c l frame good s
  | .laneSuspendEnd t c l => Sys2Proof.Machine.execLaneSuspendEnd t c l s
  | .lsaOriginate t c => Sys2Proof.Machine.execLsaOriginate t c s
  | .lsaReceive t c l lsa head tag => Sys2Proof.Machine.execLsaReceive t c l lsa head tag s
  | .lsaExpiry t c node => Sys2Proof.Machine.execLsaExpiry t c node s
  | .pathDegradedTimeout t c x => Sys2Proof.Machine.execPathDegradedTimeout t c x s
  | .fabricStateExchange t => Sys2Proof.Machine.execFabricStateExchange t s
  | .fabNodeAddr t cr v => Sys2Proof.Machine.execFabNodeAddr t cr v s
  | .streamSend t x dest payload => Sys2Proof.Machine.execStreamSend t x dest payload s
  | .dataFrameAccept t c => Sys2Proof.Machine.execDataFrameAccept t c s
  | .payloadAgreed t x src seq => Sys2Proof.Machine.execPayloadAgreed t x src seq s
  | .fabricAgreeFail t x src seq => Sys2Proof.Machine.execFabricAgreeFail t x src seq s
  | .messageContinuationTimeout t c x src => Sys2Proof.Machine.execMessageContinuationTimeout t c x src s
  | .fabAuthKeyWrite t cr slot key => Sys2Proof.Machine.execFabAuthKeyWrite t cr slot key s
  | .timeSyncSend t => Sys2Proof.Machine.execTimeSyncSend t s
  | .timeSyncReceive t c l master offset correction => Sys2Proof.Machine.execTimeSyncReceive t c l master offset correction s
  | .pdelayReq t c l received => Sys2Proof.Machine.execPdelayReq t c l received s
  | .pdelayResp t c l delay => Sys2Proof.Machine.execPdelayResp t c l delay s
  | .timeMasterChange t => Sys2Proof.Machine.execTimeMasterChange t s
  | .fabricDiscoveryEnd t => Sys2Proof.Machine.execFabricDiscoveryEnd t s
  | .twinPair t cr => Sys2Proof.Machine.execTwinPair t cr s
  | .pairingRequestSend t => Sys2Proof.Machine.execPairingRequestSend t s
  | .pairingRequestReceive t r => Sys2Proof.Machine.execPairingRequestReceive t r s
  | .pairingLapse t => Sys2Proof.Machine.execPairingLapse t s
  | .twinUnpair t cr => Sys2Proof.Machine.execTwinUnpair t cr s
  | .unpairRequestReceive t => Sys2Proof.Machine.execUnpairRequestReceive t s
  | .twinForcedUnpair t cr => Sys2Proof.Machine.execTwinForcedUnpair t cr s
  | .heartbeatSend t => Sys2Proof.Machine.execHeartbeatSend t s
  | .heartbeatReceive t c src payload => Sys2Proof.Machine.execHeartbeatReceive t c src payload s
  | .heartbeatCheck t c => Sys2Proof.Machine.execHeartbeatCheck t c s
  | .twinLossReport t => Sys2Proof.Machine.execTwinLossReport t s
  | .twinHandshakeEnd t => Sys2Proof.Machine.execTwinHandshakeEnd t s
  | .eligible t => Sys2Proof.Machine.execEligible t s
  | .quietWindowMet t => Sys2Proof.Machine.execQuietWindowMet t s
  | .handbackAt t => Sys2Proof.Machine.execHandbackAt t s
  | .mirrorReceive t entries => Sys2Proof.Machine.execMirrorReceive t entries s
  | .healthReportSend t => Sys2Proof.Machine.execHealthReportSend t s
  | .healthReportReceive t r => Sys2Proof.Machine.execHealthReportReceive t r s
  | .healthReportTimeout t => Sys2Proof.Machine.execHealthReportTimeout t s
  | .spareTakeover t => Sys2Proof.Machine.execSpareTakeover t s
  | .safeInputSample t c j a b => Sys2Proof.Machine.execSafeInputSample t c j a b s
  | .discrepancy t c j => Sys2Proof.Machine.execDiscrepancy t c j s
  | .siMode t cr c j v => Sys2Proof.Machine.execSiMode t cr c j v s
  | .siDiscMaxRead t cr c j => Sys2Proof.Machine.execSiDiscMaxRead t cr c j s
  | .offPulseStart t c j => Sys2Proof.Machine.execOffPulseStart t c j s
  | .offPulseEnd t c j readback => Sys2Proof.Machine.execOffPulseEnd t c j readback s
  | .readbackMismatch t c j => Sys2Proof.Machine.execReadbackMismatch t c j s
  | .offPulseRetest t c j readback => Sys2Proof.Machine.execOffPulseRetest t c j readback s
  | .permitUntested t c j => Sys2Proof.Machine.execPermitUntested t c j s
  | .frstPulse t c rise initial => Sys2Proof.Machine.execFrstPulse t c rise initial s
  | .pinReset t => Sys2Proof.Machine.execPinReset t s
  | .faultResetWrite t cr v => Sys2Proof.Machine.execFaultResetWrite t cr v s
  | .resetStuck t pin => Sys2Proof.Machine.execResetStuck t pin s
  | .pwEnter t cr pw => Sys2Proof.Machine.execPwEnter t cr pw s
  | .pwNew t cr pw => Sys2Proof.Machine.execPwNew t cr pw s
  | .pwLock t cr v => Sys2Proof.Machine.execPwLock t cr v s
  | .unlockIdleExpiry t cr => Sys2Proof.Machine.execUnlockIdleExpiry t cr s
  | .lockoutEnd t => Sys2Proof.Machine.execLockoutEnd t s
  | .clClear t cr v => Sys2Proof.Machine.execClClear t cr v s
  | .supplyFault t c rail mv since => Sys2Proof.Machine.execSupplyFault t c rail mv since s
  | .napEntry t c e => Sys2Proof.Machine.execNapEntry t c e s
  | .napWake t c e => Sys2Proof.Machine.execNapWake t c e s
  | .retainIdleExpiry t => Sys2Proof.Machine.execRetainIdleExpiry t s
  | .parkIdleExpiry t => Sys2Proof.Machine.execParkIdleExpiry t s
  | .pwrRequestRetain t cr => Sys2Proof.Machine.execPwrRequestRetain t cr s
  | .pwrRequestPark t cr => Sys2Proof.Machine.execPwrRequestPark t cr s
  | .sleepReevaluation t => Sys2Proof.Machine.execSleepReevaluation t s
  | .sleepEntry t => Sys2Proof.Machine.execSleepEntry t s
  | .wakeEvent t c code => Sys2Proof.Machine.execWakeEvent t c code s
  | .comUp t => Sys2Proof.Machine.execComUp t s
  | .domainWake t => Sys2Proof.Machine.execDomainWake t s
  | .scrubPass t c corrected lost => Sys2Proof.Machine.execScrubPass t c corrected lost s
  | .mramRefreshBlock t c r => Sys2Proof.Machine.execMramRefreshBlock t c r s
  | .plRequest t cr c v => Sys2Proof.Machine.execPlRequest t cr c v s
  | .vddcSettled t c => Sys2Proof.Machine.execVddcSettled t c s
  | .plVoltTimeout t c => Sys2Proof.Machine.execPlVoltTimeout t c s
  | .domainMode t cr d v => Sys2Proof.Machine.execDomainMode t cr d v s
  | .refuserMapRead t cr => Sys2Proof.Machine.execRefuserMapRead t cr s
  | .pwrStatusRead t cr => Sys2Proof.Machine.execPwrStatusRead t cr s
  | .domainLastRead t cr d => Sys2Proof.Machine.execDomainLastRead t cr d s
  | .powerUpBist t c engines common memories repairs duration => Sys2Proof.Machine.execPowerUpBist t c engines common memories repairs duration s
  | .rotationStart t c => Sys2Proof.Machine.execRotationStart t c s
  | .slice t c pass => Sys2Proof.Machine.execSlice t c pass s
  | .rotationLate t c => Sys2Proof.Machine.execRotationLate t c s
  | .rotationMaxRead t cr => Sys2Proof.Machine.execRotationMaxRead t cr s
  | .lcRequest t cr v => Sys2Proof.Machine.execLcRequest t cr v s
  | .jtagScanOpen t c => Sys2Proof.Machine.execJtagScanOpen t c s
  | .debugPermit t cr v => Sys2Proof.Machine.execDebugPermit t cr v s
  | .sedimentTrigger t c cause => Sys2Proof.Machine.execSedimentTrigger t c cause s
  | .pfailAssert t c => Sys2Proof.Machine.execPfailAssert t c s
  | .sedTrigger t cr v => Sys2Proof.Machine.execSedTrigger t cr v s
  | .sedRelease t cr v => Sys2Proof.Machine.execSedRelease t cr v s
  | .summaryBlockWrite t c => Sys2Proof.Machine.execSummaryBlockWrite t c s
  | .summaryComplete t c => Sys2Proof.Machine.execSummaryComplete t c s
  | .suppressionWindowEnd t => Sys2Proof.Machine.execSuppressionWindowEnd t s
  | .commonAreaUpdate t => Sys2Proof.Machine.execCommonAreaUpdate t s
  | .sedimentTraceSample t c => Sys2Proof.Machine.execSedimentTraceSample t c s
  | .dramReady t => Sys2Proof.Machine.execDramReady t s
  | .porstRelease t c straps imageOk badBlocks => Sys2Proof.Machine.execPorstRelease t c straps imageOk badBlocks s
  | .pllLock t c => Sys2Proof.Machine.execPllLock t c s
  | .porstNAssert t c => Sys2Proof.Machine.execPorstNAssert t c s
  | .meetWaitLimit t => Sys2Proof.Machine.execMeetWaitLimit t s
  | .startupExit t => Sys2Proof.Machine.execStartupExit t s
  | .startupDeadline t => Sys2Proof.Machine.execStartupDeadline t s

end Sys2Proof.Machine
end

