-- ==== Sys2Proof/Accept.lean ====
section
/-! DEFINITION. When a request of the host, made by a row of the command table, is taken and acts at the time of the row
(R61, R72, R75, R83, R85). -/

namespace Sys2Proof.Machine

/-- The state in which a request of a row at time `t` over `cr` is judged: time has moved on, and the carrier is heard. -/
def State.heard (s : State) (t : Nat) (cr : Carrier) : State := (s.upTo t).noteHeard cr

/-- No accepted write is due but requests to semaphores, which COMMIT_INSTANT decides (R72, R116). -/
def State.noneDue (s : State) : Bool := s.kdp.writes.all fun w => w.sluice.isSome || !(w.due ≤ s.now)

/-- A write of `v` to `o` over `cr` is taken at `t` and acts there (R72, R83): the device receives requests and has reached
DUAL, no earlier write is due, every check passes, no domain must wake, and `t` is the write's instant. -/
def State.writes (s : State) (t : Nat) (cr : Carrier) (o : Obj) (v : Val) : Bool :=
  (s.upTo t).noneDue && s.receives && s.red.reachedDual &&
    match findObj o.index o.sub with
    | some e =>
      let u := s.heard t cr
      (u.writeFails (u.rawSet e v) cr e v 1).isNone && !u.mustWake e && u.dueOf e u.now == u.now
    | none => false

/-- A write of `v` to the object of an entry over `cr` passes every check at `t`, and no domain must wake for it (R72, R83,
R85). -/
def State.accepts (s : State) (t : Nat) (cr : Carrier) (e : Entry) (v : Val) : Bool :=
  let u := s.heard t cr
  s.receives && s.red.reachedDual && (u.writeFails (u.rawSet e v) cr e v 1).isNone && !u.mustWake e

/-- A write of a number. -/
def State.sets (s : State) (t : Nat) (cr : Carrier) (o : Obj) (v : Int) : Bool := s.writes t cr o (.num v)

/-- A read of `o` over `cr` is taken at `t` and returns `v` (R61, R83). -/
def State.reads (s : State) (t : Nat) (cr : Carrier) (o : Obj) (v : Int) : Bool :=
  s.receives && (s.red.reachedDual || earlyReadable o.index) &&
    match findObj o.index o.sub with
    | some e =>
      let u := s.heard t cr
      (firstAbort (u.readFails e)).isNone && !u.mustWake e && u.readNum e == some v
    | none => false

/-- The state has sent a response without abort to a row of the command table on a carrier (R66, R70). -/
def State.acks (s : State) (cr : Carrier) : Prop := ∃ who tag frames, Out.response cr who tag 0 0 0 false [] frames ∈ s.sent

/-- The state has sent the value `v` of an object in a response to a row of the command table on a carrier (R61, R66). -/
def State.tells (s : State) (cr : Carrier) (o : Obj) (v : Int) : Prop :=
  ∃ who tag frames, Out.response cr who tag 0 0 0 false (rowBytes o.index o.sub (.num v)) frames ∈ s.sent

/-- The state has sent a response with a TRANSACTION_ID, code and detail on a carrier (R65, R66). -/
def State.answers (s : State) (cr : Carrier) (tid code detail : Nat) : Prop :=
  ∃ who tag last data frames, Out.response cr who tag tid code detail last data frames ∈ s.sent

/-- The state has sent a response to the request `r` with a code, detail, LAST and data (R65, R66). -/
def State.gives (s : State) (r : KdpReq) (code detail : Nat) (last : Bool) (data : List Byte) : Prop :=
  ∃ who tag frames, Out.response r.carrier who tag r.tid code detail last data frames ∈ s.sent

/-- The code that the register takes from a filter output (R125, R137): while the detector reports an overrange, and beyond
the code range, the clamp of the excursion's sign. -/
def State.takenCode (s : State) (c : Ch) (n : Nat) (code : Int) : Int :=
  let x := s.conv c n
  if beyond code || (x.ovr && x.det) then (if (if x.ovr then x.ovrPos else decide (0 < code)) then 32767 else -32768) else code

/-- A write of the entry has no effect but on the object itself: no rule gives its role another. -/
def Entry.plain (e : Entry) : Bool :=
  !([Role.hostLaneEnable, .cyclicEnable, .storeAll, .asEnable, .taskEnable, .taskPin, .intFrac, .bankSelect, .traceControl,
    .objDesc, .utilCap, .engineMinScore, .twinPlaceEnable, .planRequest, .axRedundMode, .axFbSource, .axHome, .axFaultClear,
    .agForceTotal, .agControl, .pgTarget, .pgControl].contains e.desc.role ||
  [Role.cvEnable, .sincOrder, .decimRatio, .cvSlotBind, .diagScanMask, .cvStatusClear, .calRequest, .diagInject, .fpMode, .fpInvert, .fpStatusClear,
    .fpPreset, .cmpPosition, .cmpControl, .resEnable, .spMode, .spStatusClear, .spPreset, .bsMode, .pwmTop,
    .pwmPhase].contains e.desc.role ||
  [Role.passiveRequest, .siMode, .faultReset, .pwLock, .clClear, .plRequest, .pwrRequest, .domainMode, .rtcSeconds,
    .fabNodeAddr, .fabLaneEnable, .streamDesc, .twinPairCmd, .sparePair0, .sparePair1, .lcRequest, .debugPermit, .sedTrigger, .sedRelease,
    .sedTraceRate, .sedTraceNode, .restoreDefaults, .sluiceAg, .pwEnter, .pwNew].contains e.desc.role)

/-- A write of a number sets the object, whatever else it does. -/
def Entry.holds (e : Entry) : Bool :=
  e.plain ||
  [Role.hostLaneEnable, .cyclicEnable, .asEnable, .taskEnable, .taskPin, .intFrac, .bankSelect, .utilCap, .engineMinScore,
    .twinPlaceEnable, .axRedundMode, .axFbSource, .pgTarget].contains e.desc.role ||
  [Role.cvEnable, .sincOrder, .decimRatio, .cvSlotBind, .diagScanMask, .fpMode, .fpInvert, .cmpPosition, .resEnable, .spMode,
    .bsMode, .pwmTop, .pwmPhase].contains e.desc.role ||
  [Role.siMode, .plRequest, .domainMode, .fabNodeAddr, .fabLaneEnable, .sparePair0, .sparePair1, .debugPermit, .sedTraceRate,
    .sedTraceNode].contains e.desc.role

end Sys2Proof.Machine
end

