-- ==== Sys2Proof/Machine/Pins.lean ====
section
/-! DEFINITION. The levels of the output balls of a channel, read off the state (R36, R40, R165, R169, R172, R174, R234 to
R236, R258, R259, R424). -/

namespace Sys2Proof.Machine

/-- What stands on an output ball. -/
inductive Level where
  | low
  | high
  /-- an input, with the weak pull-down of a feedback port in reset -/
  | pulledDown
  /-- an input -/
  | input
  /-- floating, or high impedance -/
  | floating
  /-- a differential transmitter that is idle -/
  | idle
  /-- the bits of frames: their times within a frame are left out (log entry 138) -/
  | frames
deriving DecidableEq, Repr, Inhabited

/-- A driven level. -/
def Level.ofBool (b : Bool) : Level := if b then .high else .low

/-- The outputs of a channel (R35, R36). -/
inductive OutPin where
  /-- gate signal of phase U (0), V (1) or W (2) of slot `k`: high side or low side -/
  | pwm (k : Fin 4) (x : Fin 3) (hi : Bool)
  | en (k : Fin 4)
  | arm (k : Fin 4)
  /-- FPn_A (0), FPn_B (1), FPn_Z (2) -/
  | fp (n : Fin 8) (i : Fin 3)
  | cmp (n : Fin 8)
  | sp (n : Fin 6)
  | canTx (n : Fin 3)
  | sck (p : Fin 2)
  | sdo (p : Fin 2)
  | cs (p : Fin 2)
  | tdo
  | hostLane (l : Fin 2)
  | fabricLane (l : Fin 4)
deriving DecidableEq, Repr, Inhabited

/-- The level of an output in reset (R36). -/
def OutPin.inReset : OutPin → Level
  | .fp _ _ => .pulledDown
  | .sp _ => .input
  | .canTx _ => .high
  | .cs _ => .high
  | .tdo => .floating
  | .hostLane _ => .idle
  | .fabricLane _ => .idle
  | _ => .low

/-- The start-up step that enables an output (R517): the lanes and CAN ports with step 1, ARM with step 9, EN with step 10,
the others with step 8. -/
def OutPin.step : OutPin → Nat
  | .en _ => 10
  | .arm _ => 9
  | .canTx _ => 1
  | .tdo => 0
  | .hostLane _ => 1
  | .fabricLane _ => 1
  | _ => 8

/-- The domain of an output runs and its bank has its supply (R36). -/
def State.outLive (s : State) (c : Ch) : OutPin → Bool
  | .hostLane _ => s.power.com && !bit (s.safe.rails.get c : Int) 3
  | .fabricLane _ => s.power.com && !bit (s.safe.rails.get c : Int) 3
  | _ => s.ioLive c

-- PWM

/-- The high side of phase `x` of a slot is demanded at tick `u` (R234); `u` lies in the present period or in the one before,
whose descending half ends at the valley. -/
def Slot.highDemand (p : Slot) (x : Nat) (u : Nat) : Bool :=
  let cmp (l : Trio Nat) := if x = 0 then l.a else if x = 1 then l.b else l.c
  match p.valley with
  | some v => if v ≤ u then decide (cmp p.cmp < p.count u) else decide (cmp p.cmpPrev < v - u)
  | none => false

/-- An output follows its own demand after DEAD_TIME ticks without a break, and ends with it (R234). -/
def Slot.gate (p : Slot) (x : Nat) (hi : Bool) (dead u : Nat) : Bool :=
  (upto (dead + 1)).all fun i => p.highDemand x (u - i) == hi

/-- A PWM output at tick `u` (R234, R236): low while EN is low; PWM_POLARITY inverts it at the ball. -/
def State.pwmOut (s : State) (c : Ch) (k x : Nat) (hi : Bool) (u : Nat) : Bool :=
  ((s.slot c k).en && (s.slot c k).gate x hi (s.gn c (Obj.deadTime c k)) u) !=
    s.isBitC c (Obj.pwmPolarity c k) (if hi then 0 else 1)

-- permits

/-- A permit output is high: it is demanded, and no off-pulse runs (R253, R254, R424). -/
def State.permitOut (s : State) (c : Ch) (j : Nat) : Bool := s.demanded c j && (s.test c j).pulse.isNone

-- feedback and sensor ports

/-- STEP at tick `u` (R165): a high pulse of STEP_WIDTH from each step's rising edge. -/
def State.stepOut (s : State) (c : Ch) (n u : Nat) : Bool :=
  let p := s.fport c n
  (p.lastStep.toList ++ p.steps).any fun e => decide (e ≤ u ∧ u < e + 2 * s.gn c (Obj.stepWidth c n))

/-- The excitation of tracker `k` at tick `u` (R172): a square wave that rises first at the tracker's first edge. -/
def State.excOut (s : State) (c : Ch) (k u : Nat) : Bool :=
  let e := (s.tracker c k).exc
  decide (e ≤ u) && (u - e) * s.gn c (Obj.resExcFreq c k) * 2 / sec % 2 == 0

/-- The CMP pin at tick `u` (R172, R174, R175): the excitation of the tracker that has taken the port, else the pulse. -/
def State.cmpOut (s : State) (c : Ch) (n u : Nat) : Bool :=
  match (upto 3).find? fun k => s.g c (Obj.resEnable c k) == 1 && s.g c (Obj.resExcPort c k) == n with
  | some k => s.excOut c k u
  | none => match (s.fport c n).pulse with
    | some (r, f) => decide (r ≤ u ∧ u < f)
    | none => false

/-- FPn_A and FPn_B of an output-mode port (R165); every other one is an input. -/
def State.fpOut (s : State) (c : Ch) (n i u : Nat) : Level :=
  if s.g c (Obj.fpMode c n) = 4 ∧ i = 0 then .ofBool (s.stepOut c n u)
  else if s.g c (Obj.fpMode c n) = 4 ∧ i = 1 then .ofBool (s.fport c n).dirUp
  else .input

/-- SPn at tick `u` (R169): high for 2 µs from a sync request, else an input. -/
def State.spOut (s : State) (c : Ch) (n u : Nat) : Level :=
  match (s.sport c n).syncAt with
  | some e => if e ≤ u ∧ u < e + 2 * us then .high else .input
  | none => .input

-- gate-driver SPI

/-- The SCK period of a port in ticks (R259). -/
def State.sckPeriod (s : State) (c : Ch) (p : Nat) : Nat := 4 * s.gn c (Obj.gspiDiv c p)

/-- The bits of the last transfer of a port, in the order sent: the word of the higher slot first, most significant bit first
(R258). -/
def Gspi.bits (x : Gspi) : List Bool :=
  (x.words.reverse.map fun (w : Nat) => (upto 16).reverse.map fun i => bit (w : Int) i).flatten

/-- The number of SCK edges of the running transfer that have passed at tick `u` (R259): the first comes one SCK period after
CS falls, and CS rises one period after the last bit; none outside a transfer. -/
def State.sckEdges (s : State) (c : Ch) (p u : Nat) : Option Nat :=
  let x := s.spi c p
  let n := x.bits.length
  let d := s.sckPeriod c p
  match x.last with
  | some b =>
    if 0 < n ∧ b ≤ u ∧ u < b + (n + 2) * d then
      some (if u < b + d then 0 else min (2 * n) ((u - (b + d)) * 2 / d + 1))
    else none
  | none => none

/-- CS, SCK and SDO of a port at tick `u` (R36, R259): GSPI_MODE bit 1 is the rest level of SCK, and with bit 0 the bits
change at the leading edges. -/
def State.csOut (s : State) (c : Ch) (p u : Nat) : Bool := (s.sckEdges c p u).isNone

/-- SCK at tick `u`. -/
def State.sckOut (s : State) (c : Ch) (p u : Nat) : Bool :=
  s.g c (Obj.gspiEnable c p) == 1 &&
    ((s.sckEdges c p u).getD 0 % 2 == 1) != s.isBitC c (Obj.gspiMode c p) 1

/-- SDO at tick `u`. -/
def State.sdoOut (s : State) (c : Ch) (p u : Nat) : Bool :=
  match s.sckEdges c p u with
  | some e => (s.spi c p).bits.getD (if s.isBitC c (Obj.gspiMode c p) 0 then (e - 1) / 2 else e / 2) false
  | none => false

-- all outputs

/-- The level that an enabled output of a running channel has at tick `u`. -/
def State.driven (s : State) (c : Ch) (u : Nat) : OutPin → Level
  | .pwm k x hi => .ofBool (s.pwmOut c k x hi u)
  | .en k => .ofBool (s.permitOut c k)
  | .arm k => .ofBool (s.permitOut c (4 + k))
  | .fp n i => s.fpOut c n i u
  | .cmp n => .ofBool (s.cmpOut c n u)
  | .sp n => s.spOut c n u
  | .canTx _ => .frames
  | .sck p => .ofBool (s.sckOut c p u)
  | .sdo p => .ofBool (s.sdoOut c p u)
  | .cs p => .ofBool (s.csOut c p u)
  | .tdo => if s.life.scanOpen.get c || s.red.debugOpen.get c then .frames else .floating
  | .hostLane l => if s.isBit Obj.hostLaneEnable (2 * c.num + l) then .frames else .idle
  | .fabricLane l => if s.isBit Obj.fabLaneEnable (4 * c.num + l) then .frames else .idle

/-- The level on an output ball of channel `c` now (R36): floating with its domain off or its bank without supply, its reset
state until the start-up step that enables it, and in NAP as before, because NAP stops no unit that drives a ball. TDO follows the
life-cycle state in reset too (R493). -/
def State.pinLevel (s : State) (c : Ch) (p : OutPin) : Level :=
  if !s.outLive c p then .floating
  else if p != .tdo && (!s.arch.alive.get c || s.vn (Obj.suStep c) < p.step) then p.inReset
  else s.driven c s.now p

end Sys2Proof.Machine
end

