-- ==== Sys2Proof/Safety.lean ====
section
/-! DEFINITION. What counts as a safe state: the permits of R253 to R256, the PASSIVE state of R310 and R313, and device
time (R25). -/

namespace Sys2Proof.Machine

/-- EN of a slot is high only while the conditions of R253, its second apart, hold (R255). -/
def State.EnSafe (s : State) : Prop := ∀ c k, (s.slot c k).en = true → s.enHolds c k = true

/-- ARM of an output is high only while the conditions of R254 hold, or while the permit latch holds it (R256). -/
def State.ArmSafe (s : State) : Prop := ∀ y k, (s.arm y k).out = true → (s.arm y k).held = true ∨ s.armHolds y k = true

/-- In PASSIVE every EN and ARM is low (R313). -/
def State.PassiveLow (s : State) : Prop :=
  s.red.state = .passive → ∀ c k, (s.slot c k).en = false ∧ (s.arm c k).out = false

/-- A safe state. -/
def State.Safe (s : State) : Prop := s.EnSafe ∧ s.ArmSafe ∧ s.PassiveLow

end Sys2Proof.Machine
end

