-- ==== Sys2Proof/WellFormed.lean ====
section
/-! DEFINITION. Well-formed commands: the operands that can come from outside under the rule named at each command. Ranges
that an operand's type already gives are not repeated; a value that the device itself judges (a value written, a frame's
content) may be anything. -/

namespace Sys2Proof

/-- The operands of a command lie within what the spec lets arrive. -/
def Instr.wf : Instr → Bool
  | .crossStrapFrame _ rx tx _ _ _ _ => rx != tx  -- R11
  | .crossStrapLinkFail _ _ => true
  | .crossStrapLinkRestored _ _ => true
  | .clockMonitorFault _ _ => true
  | .dramFault _ _ _ => true
  | .dramEccError _ _ _ _ => true
  | .timeSourceLock _ _ _ _ => true
  | .timeSourceLoss _ => true
  | .timeSourceReturn _ _ _ _ => true
  | .channelSkewMaxRead _ _ => true
  | .deviceTimeRead _ _ => true
  | .commitInstant _ => true
  | .configWrite _ _ index sub _ => index < 0x10000 && sub < 0x100  -- R56
  | .kdpRequestCopy _ _ _ h frame => h.vid < 4096 && h.port < 0x10000 && frame.length ≤ 1528  -- R95
  | .kdpRequestAgreed _ _ frame => frame.length ≤ 1528  -- R95
  | .kdpCopyWindowExpiry _ _ frame => frame.length ≤ 1528  -- R95
  | .readExp _ _ tid => tid < 0x10000  -- R65
  | .writeExp _ _ tid => tid < 0x10000  -- R65
  | .readSegInit _ _ tid => tid < 0x10000  -- R65
  | .writeSegInit _ _ tid => tid < 0x10000  -- R65
  | .segmentRead _ _ tid => tid < 0x10000  -- R65
  | .segmentWrite _ _ tid => tid < 0x10000  -- R65
  | .groupWrite _ _ tid => tid < 0x10000  -- R65
  | .abortTransfer _ _ tid => tid < 0x10000  -- R65
  | .kdpTransferTimeout _ _ index sub => index < 0x10000 && sub < 0x100  -- R56
  | .kdpStallResume _ _ tid => tid < 0x10000  -- R65
  | .kdpWakeTimeout _ _ tid => tid < 0x10000  -- R65
  | .kdpProxyResponse _ _ tid code detail _ _ => tid < 0x10000 && code < 0x10000 && detail < 0x10000  -- R65
  | .kdpProxyTimeout _ _ tid => tid < 0x10000  -- R65
  | .storeAll _ _ _ => true
  | .storeComplete _ => true
  | .restoreDefaults _ _ _ => true
  | .hostLaneLinkChange _ _ _ _ _ => true
  | .arpRequest _ _ _ _ ip => ip < 2 ^ 32  -- R98
  | .neighbourSolicitation _ _ _ _ ip => ip.length == 16  -- R98
  | .icmpEchoRequest _ _ _ _ _ => true
  | .asGrandmasterLoss _ _ => true
  | .asTimeReceive _ _ _ _ ident _ => ident < 2 ^ 64  -- R100
  | .cyclicCommandFrame _ _ _ h frame => h.vid < 4096 && h.port < 0x10000 && frame.length ≤ 1528  -- R95
  | .cyclicFrameAgreed _ _ frame => frame.length ≤ 1528  -- R95
  | .cyclicAgreeFail _ _ frame => frame.length ≤ 1528  -- R95
  | .cycleBoundary _ _ => true
  | .cyclicStatusFrame _ _ => true
  | .portSilent _ _ => true
  | .sluiceAcquire _ _ _ => true
  | .sluiceRelease _ _ _ => true
  | .leaseExpiry _ _ => true
  | .holdTimeExpiry _ _ => true
  | .converterResult _ _ _ _ => true
  | .loopSample _ _ _ _ _ => true
  | .overrangeOnset _ _ _ _ => true
  | .overrangeClear _ _ _ => true
  | .settlingEnd _ _ _ => true
  | .referenceBufferFault _ _ _ _ => true
  | .cvResultRead _ _ _ _ => true
  | .cvSampleRead _ _ _ _ => true
  | .cvStatusClear _ _ _ _ _ => true
  | .diagScanStep _ _ _ _ => true
  | .diagInject _ _ _ _ _ => true
  | .injectedConversionDone _ _ _ _ => true
  | .calRequest _ _ _ _ => true
  | .calibrationStart _ _ _ => true
  | .calibrationDone _ _ _ _ _ _ => true
  | .calWaitTimeout _ _ _ => true
  | .fpEdgeAccepted _ _ _ a b z => 1 ≤ a.samples && 1 ≤ b.samples && 1 ≤ z.samples  -- R155
  | .comparePulseEnd _ _ _ => true
  | .cmpControl _ _ _ _ _ _ => true
  | .axHomeNextIndex _ _ _ => true
  | .axHomeNow _ _ _ => true
  | .axHomeCancel _ _ _ => true
  | .fpPreset _ _ _ _ _ => true
  | .spPreset _ _ _ _ _ => true
  | .fpStatusClear _ _ _ _ _ => true
  | .spStatusClear _ _ _ _ _ => true
  | .sentFrame _ _ _ _ => true
  | .psi5SyncRequest _ _ _ => true
  | .psi5Frame _ _ _ _ _ _ => true
  | .sourceLost _ _ _ => true
  | .resolverSample _ _ _ _ _ _ _ => true
  | .axisLatch _ _ => true
  | .axExtrapPosRead _ _ _ => true
  | .iterationRelease _ _ => true
  | .taskIteration _ _ _ _ => true
  | .inputLost _ _ _ => true
  | .feFault _ _ _ => true
  | .bankSelect _ _ _ _ => true
  | .bankSwap _ _ => true
  | .axFaultClear _ _ _ _ => true
  | .feMaxRead _ _ _ => true
  | .maxExecRead _ _ _ => true
  | .traceArm _ _ _ => true
  | .traceStop _ _ _ => true
  | .traceHostTrigger _ _ _ => true
  | .traceRelease _ _ _ => true
  | .traceCrossTrigger _ k src => k != src  -- R227
  | .traceAbort _ _ cause => 1 ≤ cause && cause ≤ 5  -- R231
  | .pwmValley _ _ _ => true
  | .pwmPeak _ _ _ => true
  | .pwmCounterStart _ _ _ => true
  | .pwmGridChange _ _ _ => true
  | .dqIteration _ _ _ _ => true
  | .stallTimeout _ _ => true
  | .overcurrentTrip _ _ _ => true
  | .axTorqueEnableOn _ _ _ => true
  | .axTorqueEnableOff _ _ _ => true
  | .enRise _ _ _ => true
  | .enFall _ _ _ => true
  | .armChange _ _ _ => true
  | .armrbQualified _ _ _ => true
  | .gspiTransfer _ _ _ rx => rx < 2 ^ 32  -- R258
  | .gdInitCheck _ _ _ => true
  | .gdInitRetry _ _ _ => true
  | .gdPollRound _ _ _ => true
  | .profileTick _ => true
  | .pgTarget _ _ _ _ => true
  | .standstillReached _ _ => true
  | .pgStop _ _ _ => true
  | .pgQuickStop _ _ _ => true
  | .agStop _ _ _ => true
  | .agQuickStop _ _ _ => true
  | .agForceTotal _ _ _ _ => true
  | .memberLoss _ _ remote => remote < 256  -- R282
  | .memberRegain _ _ => true
  | .remoteMoveStart _ _ => true
  | .moveDescription _ _ d => d.axes.length == d.s.length && d.s.length == d.d.length  -- R285
  | .moveConfirmation _ _ => true
  | .checkpoint _ _ => true
  | .digestFrame _ rx tx _ f => rx != tx && f.seq < 0x10000 && f.digest < 2 ^ 32 && f.armrb < 256 && f.flags < 256  -- R301
  | .vote _ _ => true
  | .voteResult _ rx tx _ _ => rx != tx  -- R302
  | .reseedCopy _ _ _ => true
  | .arbitrationConfirm _ _ => true
  | .arbitrationTimeout _ => true
  | .twinSupervisionReport _ _ misses => misses ≤ 8  -- R312
  | .ssBoundExpiry _ => true
  | .passiveRequest _ _ _ => true
  | .axRedundMode _ _ _ _ => true
  | .debugAccessOpen _ _ => true
  | .engineHalt _ _ _ => true
  | .comparatorInjection _ _ => true
  | .injectionRepeat _ _ => true
  | .planInstant _ => true
  | .snapshotVote _ _ => true
  | .planComputed _ _ => true
  | .planVote _ => true
  | .planRetry _ => true
  | .planRequestReplan _ _ => true
  | .planRequestStatic _ _ => true
  | .scoreReport _ => true
  | .scoreDecay _ => true
  | .healthAgeReached _ => true
  | .sliceRequest _ _ _ => true
  | .sliceAbort _ _ _ => true
  | .fabricLaneAlignmentLoss _ _ _ => true
  | .fabricLaneAligned _ _ _ _ _ _ => true
  | .helloSend _ _ _ => true
  | .helloReceive _ _ _ _ => true
  | .helloTimeout _ _ _ => true
  | .addressConflictEnd _ => true
  | .fabricFrameReceive _ _ _ _ _ => true
  | .laneSuspendEnd _ _ _ => true
  | .lsaOriginate _ _ => true
  | .lsaReceive _ _ _ _ head _ => head.length == 14  -- R362
  | .lsaExpiry _ _ _ => true
  | .pathDegradedTimeout _ _ _ => true
  | .fabricStateExchange _ => true
  | .fabNodeAddr _ _ _ => true
  | .streamSend _ _ _ payload => payload.length ≤ 2048  -- R380
  | .dataFrameAccept _ _ => true
  | .payloadAgreed _ _ _ _ => true
  | .fabricAgreeFail _ _ _ _ => true
  | .messageContinuationTimeout _ _ _ _ => true
  | .fabAuthKeyWrite _ _ _ _ => true
  | .timeSyncSend _ => true
  | .timeSyncReceive _ _ _ _ _ _ => true
  | .pdelayReq _ _ _ _ => true
  | .pdelayResp _ _ _ _ => true
  | .timeMasterChange _ => true
  | .fabricDiscoveryEnd _ => true
  | .twinPair _ _ => true
  | .pairingRequestSend _ => true
  | .pairingRequestReceive _ r => r.random.length == 16  -- R391
  | .pairingLapse _ => true
  | .twinUnpair _ _ => true
  | .unpairRequestReceive _ => true
  | .twinForcedUnpair _ _ => true
  | .heartbeatSend _ => true
  | .heartbeatReceive _ _ _ _ => true
  | .heartbeatCheck _ _ => true
  | .twinLossReport _ => true
  | .twinHandshakeEnd _ => true
  | .eligible _ => true
  | .quietWindowMet _ => true
  | .handbackAt _ => true
  | .mirrorReceive _ _ => true
  | .healthReportSend _ => true
  | .healthReportReceive _ _ => true
  | .healthReportTimeout _ => true
  | .spareTakeover _ => true
  | .safeInputSample _ _ _ _ _ => true
  | .discrepancy _ _ _ => true
  | .siMode _ _ _ _ _ => true
  | .siDiscMaxRead _ _ _ _ => true
  | .offPulseStart _ _ _ => true
  | .offPulseEnd _ _ _ _ => true
  | .readbackMismatch _ _ _ => true
  | .offPulseRetest _ _ _ _ => true
  | .permitUntested _ _ _ => true
  | .frstPulse _ _ _ _ => true
  | .pinReset _ => true
  | .faultResetWrite _ _ _ => true
  | .resetStuck _ _ => true
  | .pwEnter _ _ _ => true
  | .pwNew _ _ _ => true
  | .pwLock _ _ _ => true
  | .unlockIdleExpiry _ _ => true
  | .lockoutEnd _ => true
  | .clClear _ _ _ => true
  | .supplyFault _ _ _ _ _ => true
  | .napEntry _ _ _ => true
  | .napWake _ _ _ => true
  | .retainIdleExpiry _ => true
  | .parkIdleExpiry _ => true
  | .pwrRequestRetain _ _ => true
  | .pwrRequestPark _ _ => true
  | .sleepReevaluation _ => true
  | .sleepEntry _ => true
  | .wakeEvent _ _ _ => true
  | .comUp _ => true
  | .domainWake _ => true
  | .scrubPass _ _ _ _ => true
  | .mramRefreshBlock _ _ _ => true
  | .plRequest _ _ _ _ => true
  | .vddcSettled _ _ => true
  | .plVoltTimeout _ _ => true
  | .domainMode _ _ _ _ => true
  | .refuserMapRead _ _ => true
  | .pwrStatusRead _ _ => true
  | .domainLastRead _ _ _ => true
  | .powerUpBist _ _ engines _ memories _ _ => engines < 0x10000 && memories < 0x40000  -- R477
  | .rotationStart _ _ => true
  | .slice _ _ _ => true
  | .rotationLate _ _ => true
  | .rotationMaxRead _ _ => true
  | .lcRequest _ _ _ => true
  | .jtagScanOpen _ _ => true
  | .debugPermit _ _ _ => true
  | .sedimentTrigger _ _ _ => true
  | .pfailAssert _ _ => true
  | .sedTrigger _ _ _ => true
  | .sedRelease _ _ _ => true
  | .summaryBlockWrite _ _ => true
  | .summaryComplete _ _ => true
  | .suppressionWindowEnd _ => true
  | .commonAreaUpdate _ => true
  | .sedimentTraceSample _ _ => true
  | .dramReady _ => true
  | .porstRelease _ _ straps _ _ => straps < 256  -- R44
  | .pllLock _ _ => true
  | .porstNAssert _ _ => true
  | .meetWaitLimit _ => true
  | .startupExit _ => true
  | .startupDeadline _ => true

end Sys2Proof
end

