-- ==== Sys2Proof/Certificates/Slice0/Obligations.lean ====
section
/-! DEFINITION. The statements about the model. -/

open Sys2Proof Sys2Proof.Machine

/-- A step takes the command at the front of the queue and runs it with the queue's rest. The queue is the form of the model. On an empty queue the block idles: the model's choice of log entry 11. -/
def Obligations.StepRunsTheFrontCommand : Prop :=
  (∀ (c : Instr) (s : State), step { s with pending := c :: s.pending } = exec c s) ∧
  (∀ s : State, s.pending = [] → step s = .next s)

/-- Every command answers a next state. Device time does not run backwards (R25), but at a power-on (R29), and a command leaves the queue alone. -/
def Obligations.EveryCommandAnswers : Prop :=
  ∀ (c : Instr) (s : State), ∃ s', exec c s = .next s' ∧ s'.pending = s.pending ∧
    (s.now ≤ s'.now ∨ ∃ t d straps ok bad, c = .porstRelease t d straps ok bad)

/-- PASSIVE ends only at power-on (R310): no command but PORST_RELEASE leaves it. -/
def Obligations.PassiveIsLeftOnlyAtPowerOn : Prop :=
  ∀ (i : Instr) (s s' : State), s.red.state = .passive → exec i s = .next s' →
    s'.red.state = .passive ∨ ∃ t c straps ok bad, i = .porstRelease t c straps ok bad

/-- Every step keeps the permits safe (R253 to R256, R313). -/
def Obligations.SafeStateIsKept : Prop :=
  ∀ s s' : State, s.Safe → step s = .next s' → s'.Safe

/-- The state after reset is safe. What reset leaves: defaults, STARTUP, nothing waiting, outputs low. Values that the spec does not give are those of log entry 8. -/
def Obligations.ResetIsSafeAndAtDefaults : Prop :=
  (State.reset.Safe) ∧
  (State.reset.now = 0 ∧ State.reset.red.state = .startup ∧ (∀ c o, State.reset.g c o = o.dflt) ∧
    (∀ o, State.reset.v o = o.dflt) ∧ State.reset.red.faulty = Trio.all false ∧ State.reset.red.inV = Trio.all false ∧
    (∀ c k, (State.reset.slot c k).en = false ∧ (State.reset.arm c k).out = false) ∧
    State.reset.kdp.writes = [] ∧ State.reset.pending = [])

/-- R25, R28, R30: one step forward at the first lock, HOLDOVER at a loss, no step at a return. R12: a frame whose CRC fails is discarded and counted; R11: waiting frames arrive in the order of their classes; R27: a time-alignment frame carries the skew. -/
def Obligations.TimeSourcesAndCrossStrapFrames : Prop :=
  ((∀ (t : Nat) (d r : Int) (tr : Bool) (s : State),
    ∃ s', exec (.timeSourceLock t d r tr) s = .next s' ∧ field (s'.v Obj.timeStatus) 0 2 = (if tr then 2 else 1) ∧
      s'.isBit Obj.timeStatus 3 = false ∧ s'.v Obj.timeRateAdj = clamp (-200000) 200000 r) ∧
  (∀ (t : Nat) (d r : Int) (tr : Bool) (s : State), field (s.v Obj.timeStatus) 0 2 = 0 → s.isBit Obj.timeStatus 2 = false →
    0 < d → ∃ s', exec (.timeSourceLock t d r tr) s = .next s' ∧ s'.isBit Obj.timeStatus 2 = true ∧
      ∀ c, s'.baseOf c = (((s.upTo t).now : Int) + (s.upTo t).offsetOf c + d).toNat) ∧
  (∀ (t : Nat) (d r : Int) (tr : Bool) (s : State),
    field (s.v Obj.timeStatus) 0 2 ≠ 0 ∨ s.isBit Obj.timeStatus 2 = true ∨ d ≤ 0 →
    ∃ s', exec (.timeSourceLock t d r tr) s = .next s' ∧ ∀ c, s'.baseOf c = (s.upTo t).baseOf c) ∧
  (∀ (t : Nat) (s : State), field (s.v Obj.timeStatus) 0 2 ≠ 0 →
    ∃ s', exec (.timeSourceLoss t) s = .next s' ∧ s'.isBit Obj.timeStatus 3 = true ∧
      s'.v Obj.timeRateAdj = s.v Obj.timeRateAdj ∧ ∀ c, s'.baseOf c = (s.upTo t).baseOf c) ∧
  (∀ (t : Nat) (d r : Int) (tr : Bool) (s : State), s.isBit Obj.timeStatus 3 = true →
    ∃ s', exec (.timeSourceReturn t d r tr) s = .next s' ∧ s'.isBit Obj.timeStatus 3 = false ∧
      s'.v Obj.timeRateAdj = clamp (-200000) 200000 r ∧ ∀ c, s'.baseOf c = (s.upTo t).baseOf c)) ∧
  ((∀ (t : Nat) (rx tx : Ch) (cls : StrapClass) (skew : Int) (p : List Byte) (s : State), s.arch.alive.get rx = true → rx ≠ tx →
    s.strapPath rx tx = true → (s.upTo t).settleStraps.strapWaits rx tx cls = false →
    ∃ s', exec (.crossStrapFrame t rx tx cls false skew p) s = .next s' ∧
      s'.arch.linkErr.get rx = s.arch.linkErr.get rx + 1 ∧ s'.arch.strapIn = s.arch.strapIn) ∧
  (∀ (t : Nat) (rx tx : Ch) (cls : StrapClass) (skew : Int) (p : List Byte) (s : State), s.arch.alive.get rx = true → rx ≠ tx →
    s.strapPath rx tx = true → (s.upTo t).settleStraps.strapWaits rx tx cls = false → cls ≠ .time →
    ∃ s', exec (.crossStrapFrame t rx tx cls true skew p) s = .next s' ∧
      s'.arch.strapIn = (rx, tx, cls, p) :: s.arch.strapIn ∧ s'.arch.linkErr = s.arch.linkErr) ∧
  (∀ (t : Nat) (rx tx : Ch) (skew : Int) (p : List Byte) (s : State), s.arch.alive.get rx = true → rx ≠ tx →
    s.strapPath rx tx = true → (s.upTo t).settleStraps.strapWaits rx tx .time = false →
    ∃ s', exec (.crossStrapFrame t rx tx .time true skew p) s = .next s' ∧
      s'.arch.skew.get rx = s.arch.skew.get tx + skew ∧ s'.baseOf rx = (s.upTo t).baseOf rx ∧
      s'.arch.strapIn = s.arch.strapIn ∧ min 65535 (skew.natAbs : Int) ≤ s'.v Obj.channelSkewMax) ∧
  (∀ (t : Nat) (rx tx : Ch) (cls : StrapClass) (ok : Bool) (skew : Int) (p : List Byte) (m : StrapMsg) (s : State),
    s.arch.alive.get rx = true → rx ≠ tx → s.strapPath rx tx = true →
    (s.upTo t).settleStraps.strapNext rx tx cls = some m →
    ∃ s', exec (.crossStrapFrame t rx tx cls ok skew p) s = .next s' ∧
      (if ok then s'.arch.queue = (s.upTo t).settleStraps.arch.queue.erase m ∧ s'.arch.linkErr = s.arch.linkErr ∧
          (∀ k o v, m.body = .output k o v → s'.dobj rx o = v) ∧
          (∀ n, m.body = .trip n → (s'.axis n).ocTripped.get rx = true)
        else s'.arch.linkErr.get rx = s.arch.linkErr.get rx + 1 ∧
          s'.arch.queue = (s.upTo t).settleStraps.arch.queue.map fun x => if x == m then { x with due := none } else x)))

/-- R14, R24: link faults and clock faults. A channel without any direct link is declared faulty. R17, R512: DRAM faults and ECC errors. -/
def Obligations.LinksClocksAndDramFail : Prop :=
  ((∀ (t : Nat) (l : Link) (s : State), s.linkDown l = false →
    ∃ s', exec (.crossStrapLinkFail t l) s = .next s' ∧ s'.linkDown l = true ∧
      (∀ c, c ∈ (s.setLink l true).cutOff → s'.red.faulty.get c = true) ∧
      ((s.setLink l true).cutOff = [] → s'.red.faulty = s.red.faulty ∧ s'.red.state = s.red.state)) ∧
  (∀ (t : Nat) (l : Link) (s : State), s.linkDown l = true →
    ∃ s', exec (.crossStrapLinkRestored t l) s = .next s' ∧ s'.linkDown l = false ∧ s'.red.faulty = s.red.faulty) ∧
  (∀ (t : Nat) (c : Ch) (s : State), s.arch.alive.get c = true →
    ∃ s', exec (.clockMonitorFault t c) s = .next s' ∧ s'.red.faulty.get c = true)) ∧
  ((∀ (t : Nat) (c : Ch) (a : Nat) (s : State), (s.sed.get c).dramFault = false →
    ∃ s', exec (.dramFault t c a) s = .next s' ∧ (s'.sed.get c).dramFault = true ∧
      (∀ d, d ≠ c → (s'.sed.get d).dramFault = (s.sed.get d).dramFault) ∧
      (∀ k, (s.trace k).chan = some c → (s.trace k).state = 1 ∨ (s.trace k).state = 2 →
        (s'.trace k).state = 4 ∧ (s'.trace k).cause = 4)) ∧
  (∀ (t : Nat) (c : Ch) (b : Nat) (s : State),
    ∃ s', exec (.dramEccError t c b true) s = .next s' ∧ (s'.sed.get c).corrected = (s.sed.get c).corrected + 1 ∧
      (s'.sed.get c).invalid = (s.sed.get c).invalid) ∧
  (∀ (t : Nat) (c : Ch) (b : Nat) (s : State),
    ∃ s', exec (.dramEccError t c b false) s = .next s' ∧ (s'.sed.get c).corrected = (s.sed.get c).corrected ∧
      b ∈ (s'.sed.get c).invalid))

/-- What follows a command at once (R176, R253 to R256, R270, R278) leaves everything but generators, groups with AG_LEAD, feedback ports, compare controls, permits and what is sent as the command's own effect `u` left it. -/
def Obligations.WhatFollowsACommandIsBounded : Prop :=
  ∀ (s u : State) (t : Nat),
    (s.after t u).now = max s.now t ∧
    (∀ (c : Ch) (o : Obj), (o.key / 4096 ≠ 0x483 ∧ o.key / 4096 ≠ 0x493 ∧ o.key / 4096 ≠ 0x4A3) ∧
      ¬(o.key / 4096 = 0x382 ∧ o.key % 256 = 5) → (s.after t u).g c o = u.g c o) ∧
    ((s.after t u).tasks = u.tasks ∧ (s.after t u).axes = u.axes ∧ (s.after t u).traces = u.traces ∧
      (s.after t u).convs = u.convs ∧ (s.after t u).sports = u.sports ∧ (s.after t u).sems = u.sems ∧
      (s.after t u).ports = u.ports ∧ (s.after t u).kdp = u.kdp ∧ (s.after t u).fab = u.fab ∧ (s.after t u).twin = u.twin ∧
      (s.after t u).safe = u.safe ∧ (s.after t u).power = u.power ∧ (s.after t u).life = u.life ∧ (s.after t u).sed = u.sed ∧
      (s.after t u).place = u.place ∧ (s.after t u).red.inV = u.red.inV ∧ (s.after t u).red.faulty = u.red.faulty) ∧
    (∀ (c : Ch) (k : Nat), (u.slot c k).en = false → ((s.after t u).slot c k).en = false) ∧
    (∀ (c : Ch) (k : Nat), (u.arm c k).out = false → ((s.after t u).arm c k).out = false)

/-- The reads that clear (R29, R133, R220, R422, R473, R475, R476, R483) and those that do not (R29, R178). `u` is the state as the read leaves it. -/
def Obligations.ReadsReturnTheValue : Prop :=
  (∀ (t : Nat) (cr : Carrier) (v : Int) (s : State), s.reads t cr Obj.channelSkewMax v = true →
    ∃ u, exec (.channelSkewMaxRead t cr) s = .next (s.after t u) ∧ u.tells cr Obj.channelSkewMax v ∧
      ∀ c, u.g c Obj.channelSkewMax = 0) ∧
  (∀ (t : Nat) (cr : Carrier) (v : Int) (s : State), s.reads t cr Obj.deviceTime v = true →
    ∃ u, exec (.deviceTimeRead t cr) s = .next (s.after t u) ∧ u.tells cr Obj.deviceTime v ∧
      ∀ (c : Ch) (o : Obj), o.key ≠ Obj.fabNoRoute.key ∧ o.key ≠ Obj.fabRateDrops.key ∧ o.key ≠ Obj.kdpAbortsSent.key →
        u.g c o = s.g c o) ∧
  (∀ (t : Nat) (cr : Carrier) (k : Fin 512) (v : Int) (s : State), s.reads t cr (Obj.feMax k) v = true →
    ∃ u, exec (.feMaxRead t cr k) s = .next (s.after t u) ∧ u.tells cr (Obj.feMax k) v ∧
      ∀ c, u.g c (Obj.feMax k) = 0) ∧
  (∀ (t : Nat) (cr : Carrier) (k : Fin 512) (v : Int) (s : State), s.reads t cr (Obj.maxExec k) v = true →
    ∃ u, exec (.maxExecRead t cr k) s = .next (s.after t u) ∧ u.tells cr (Obj.maxExec k) v ∧
      ∀ c, u.g c (Obj.maxExec k) = 0) ∧
  (∀ (t : Nat) (cr : Carrier) (c : Ch) (i : Fin 6) (v : Int) (s : State), s.reads t cr (Obj.siDiscMax (siNum c i)) v = true →
    ∃ u, exec (.siDiscMaxRead t cr c i) s = .next (s.after t u) ∧ u.tells cr (Obj.siDiscMax (siNum c i)) v ∧
      ∀ d, u.g d (Obj.siDiscMax (siNum c i)) = 0) ∧
  (∀ (t : Nat) (cr : Carrier) (v : Int) (s : State), s.reads t cr Obj.refuserMap v = true →
    ∃ u, exec (.refuserMapRead t cr) s = .next (s.after t u) ∧ u.tells cr Obj.refuserMap v ∧
      ∀ c, u.g c Obj.refuserMap = 0) ∧
  (∀ (t : Nat) (cr : Carrier) (v : Int) (s : State), s.reads t cr Obj.rotationMax v = true →
    ∃ u, exec (.rotationMaxRead t cr) s = .next (s.after t u) ∧ u.tells cr Obj.rotationMax v ∧
      ∀ c, u.g c Obj.rotationMax = 0) ∧
  (∀ (t : Nat) (cr : Carrier) (c : Ch) (n : Fin 20) (v : Int) (s : State), s.reads t cr (Obj.cvResult c n) v = true →
    ∃ u, exec (.cvResultRead t cr c n) s = .next (s.after t u) ∧ u.tells cr (Obj.cvResult c n) v ∧
      u.isBitC c (Obj.cvStatus c n) cvNew = false) ∧
  (∀ (t : Nat) (cr : Carrier) (c : Ch) (n : Fin 20) (v : Int) (s : State), s.reads t cr (Obj.cvSample c n) v = true →
    ∃ u, exec (.cvSampleRead t cr c n) s = .next (s.after t u) ∧ u.tells cr (Obj.cvSample c n) v ∧
      u.isBitC c (Obj.cvStatus c n) cvNew = false) ∧
  (∀ (t : Nat) (cr : Carrier) (v : Int) (s : State), s.reads t cr Obj.pwrStatus v = true →
    ∃ u, exec (.pwrStatusRead t cr) s = .next (s.after t u) ∧ u.tells cr Obj.pwrStatus v ∧
      u.power.retainLoss = false ∧ u.power.pfailSlept = false) ∧
  (∀ (t : Nat) (cr : Carrier) (d : Fin 6) (v : Int) (s : State), s.reads t cr (Obj.domainLast d) v = true →
    ∃ u, exec (.domainLastRead t cr d) s = .next (s.after t u) ∧ u.tells cr (Obj.domainLast d) v ∧
      u.power.domDeepest.getD d 0 = 0) ∧
  (∀ (t : Nat) (cr : Carrier) (n : Fin 32) (v : Int) (s : State), s.reads t cr (Obj.axExtrapPos n) v = true →
    ∃ u, exec (.axExtrapPosRead t cr n) s = .next (s.after t u) ∧ u.tells cr (Obj.axExtrapPos n) v ∧
      u.isBit (Obj.axFbStatus n) afStale = ((s.heard t cr).extrapAt n (s.heard t cr).now).stale ∧
      u.isBit (Obj.axFbStatus n) afValid = ((s.heard t cr).extrapAt n (s.heard t cr).now).valid)

/-- R136, R142, R146: writes to the objects of the converters. `u` is the state as the write leaves it. -/
def Obligations.SensingWritesAct : Prop :=
  (∀ (t : Nat) (cr : Carrier) (c : Ch) (n : Fin 20) (v : Int) (s : State), s.sets t cr (Obj.cvStatusClear c n) v = true →
    ∃ u, exec (.cvStatusClear t cr c n v) s = .next (s.after t u) ∧ u.acks cr ∧
      (bit v 2 = true → u.isBitC c (Obj.cvStatus c n) cvOvrn = false) ∧
      (bit v 3 = true → (s.conv c n).ovr = false → u.isBitC c (Obj.cvStatus c n) cvOvrg = false)) ∧
  (∀ (t : Nat) (cr : Carrier) (c : Ch) (k : Fin 2) (v : Int) (s : State), s.sets t cr (Obj.diagInject c k) v = true →
    ∃ u, exec (.diagInject t cr c k v) s = .next (s.after t u) ∧ u.acks cr ∧
      (u.diag c k).inj = some v.toNat ∧ u.g c (Obj.diagInjState c k) = 1) ∧
  (∀ (t : Nat) (cr : Carrier) (c : Ch) (v : Int) (s : State), s.sets t cr (Obj.calRequest c) v = true →
    ∃ u, exec (.calRequest t cr c v) s = .next (s.after t u) ∧ u.acks cr ∧
      (∀ n : Fin 20, bit v n = true → s.cvOn c n = true → u.isBitC c (Obj.calPending c) n = true) ∧
      ∀ n : Fin 20, bit v n = false → u.isBitC c (Obj.calPending c) n = s.isBitC c (Obj.calPending c) n)

/-- R160, R164, R176, R182, R186: writes to the objects of feedback. `u` is the state as the write leaves it. -/
def Obligations.FeedbackWritesAct : Prop :=
  (∀ (t : Nat) (cr : Carrier) (c : Ch) (n : Fin 8) (e : Fin 16) (v : Int) (s : State),
    s.sets t cr (Obj.cmpControl c n e) v = true →
    ∃ u, exec (.cmpControl t cr c n e v) s = .next (s.after t u) ∧ u.acks cr ∧
      ∀ i, i < 3 → u.isBitC c (Obj.cmpControl c n e) i = bit v i) ∧
  (∀ (t : Nat) (cr : Carrier) (n : Fin 32) (s : State), s.sets t cr (Obj.axHome n) 1 = true →
    ∃ u, exec (.axHomeNextIndex t cr n) s = .next (s.after t u) ∧ u.acks cr ∧ u.isBit (Obj.axFbStatus n) afArmed = true) ∧
  (∀ (t : Nat) (cr : Carrier) (n : Fin 32) (s : State), s.sets t cr (Obj.axHome n) 0 = true →
    ∃ u, exec (.axHomeCancel t cr n) s = .next (s.after t u) ∧ u.acks cr ∧ u.isBit (Obj.axFbStatus n) afArmed = false) ∧
  (∀ (t : Nat) (cr : Carrier) (n : Fin 32) (x : Src) (s : State), s.sets t cr (Obj.axHome n) 2 = true →
    s.sourceOf n = some x →
    ∃ u, exec (.axHomeNow t cr n) s = .next (s.after t u) ∧ u.acks cr ∧ u.g x.2.1 x.pos = s.v (Obj.axHomeValue n) ∧
      u.isBit (Obj.axFbStatus n) afHomed = true ∧ u.isBit (Obj.axFbStatus n) afArmed = false) ∧
  (∀ (t : Nat) (cr : Carrier) (c : Ch) (n : Fin 8) (v : Int) (s : State), s.sets t cr (Obj.fpPreset c n) v = true →
    ∃ u, exec (.fpPreset t cr c n v) s = .next (s.after t u) ∧ u.acks cr ∧ u.g c (Obj.fpPos c n) = v ∧
      u.g c (Obj.fpRaw c n) = v) ∧
  (∀ (t : Nat) (cr : Carrier) (c : Ch) (n : Fin 6) (v : Int) (s : State), s.sets t cr (Obj.spPreset c n) v = true →
    ∃ u, exec (.spPreset t cr c n v) s = .next (s.after t u) ∧ u.acks cr ∧ u.g c (Obj.spPos c n) = v ∧
      u.g c (Obj.spRaw c n) = v) ∧
  (∀ (t : Nat) (cr : Carrier) (c : Ch) (n : Fin 8) (v : Int) (s : State), s.sets t cr (Obj.fpStatusClear c n) v = true →
    ∃ u, exec (.fpStatusClear t cr c n v) s = .next (s.after t u) ∧ u.acks cr ∧
      (bit v 3 = true → u.isBitC c (Obj.fpStatus c n) fbFormat = false) ∧
      (bit v 5 = true → u.isBitC c (Obj.fpStatus c n) fbMismatch = false)) ∧
  (∀ (t : Nat) (cr : Carrier) (c : Ch) (n : Fin 6) (v : Int) (s : State), s.sets t cr (Obj.spStatusClear c n) v = true →
    ∃ u, exec (.spStatusClear t cr c n v) s = .next (s.after t u) ∧ u.acks cr ∧
      (bit v 3 = true → u.isBitC c (Obj.spStatus c n) fbFormat = false))

/-- R210, R217, R226, R228: writes to the objects of tasks and traces. `u` is the state as the write leaves it. -/
def Obligations.TaskAndTraceWritesAct : Prop :=
  (∀ (t : Nat) (cr : Carrier) (k : Fin 512) (v : Int) (s : State), s.sets t cr (Obj.bankSelect k) v = true →
    ∃ u, exec (.bankSelect t cr k v) s = .next (s.after t u) ∧ u.acks cr ∧
      (s.v (Obj.taskEnable k) ≠ 1 → (u.task k).swap = none ∧ ∀ c, (u.taskSt c k).bank = v.toNat) ∧
      (s.v (Obj.taskEnable k) = 1 → v.toNat = s.bankOf k → (u.task k).swap = none) ∧
      (s.v (Obj.taskEnable k) = 1 → v.toNat ≠ s.bankOf k → ∃ a, a ≤ max s.now t ∧ (u.task k).swap = some (v.toNat, a))) ∧
  (∀ (t : Nat) (cr : Carrier) (n : Fin 32) (v : Int) (s : State), s.sets t cr (Obj.axFaultClear n) v = true →
    ∃ u, exec (.axFaultClear t cr n v) s = .next (s.after t u) ∧ u.acks cr ∧
      (u.axis n).causes = ((s.axis n).causes.filter fun p => (s.heard t cr).causeHolds n p.1) ∧
      (u.axis n).ocTripped = Trio.all false ∧
      (((s.axis n).causes.all fun p => !(s.heard t cr).causeHolds n p.1) = true → u.v (Obj.axReaction n) = 0)) ∧
  (∀ (t : Nat) (cr : Carrier) (k : Fin 512) (c : Ch) (s : State), s.sets t cr (Obj.traceControl k) 1 = true →
    s.ownerCh k = some c →
    ∃ u, exec (.traceArm t cr k) s = .next (s.after t u) ∧ u.acks cr ∧ (u.trace k).state = 1 ∧ (u.trace k).chan = some c ∧
      u.v (Obj.traceChannel k) = c.num) ∧
  (∀ (t : Nat) (cr : Carrier) (k : Fin 512) (s : State), s.sets t cr (Obj.traceControl k) 0 = true →
    (s.trace k).state = 1 ∨ (s.trace k).state = 2 →
    ∃ u, exec (.traceStop t cr k) s = .next (s.after t u) ∧ u.acks cr ∧ (u.trace k).state = 4 ∧ (u.trace k).cause = 1) ∧
  (∀ (t : Nat) (cr : Carrier) (k : Fin 512) (s : State), s.sets t cr (Obj.traceControl k) 2 = true → (s.trace k).state = 1 →
    ∃ u, exec (.traceHostTrigger t cr k) s = .next (s.after t u) ∧ u.acks cr ∧ (u.trace k).fire = true ∧
      (u.trace k).state = 1) ∧
  (∀ (t : Nat) (cr : Carrier) (k : Fin 512) (s : State), s.sets t cr (Obj.traceControl k) 3 = true →
    ∃ u, exec (.traceRelease t cr k) s = .next (s.after t u) ∧ u.acks cr ∧ (u.trace k).state = 0 ∧
      u.v (Obj.traceChannel k) = 255)

/-- R253, R269, R273, R278, R280: commands to axes and groups. `u` is the state as the write leaves it; what follows every command at once may then begin tracking (R270). R278: a stop of a group reaches its running move. `u` is the state as the write leaves it. -/
def Obligations.AxisAndGroupCommandsAct : Prop :=
  ((∀ (t : Nat) (cr : Carrier) (n : Fin 32) (s : State), s.sets t cr (Obj.axTorqueEnable n) 1 = true →
    ∃ u, exec (.axTorqueEnableOn t cr n) s = .next (s.after t u) ∧ u.acks cr ∧ ∀ c, u.g c (Obj.axTorqueEnable n) = 1) ∧
  (∀ (t : Nat) (cr : Carrier) (n : Fin 32) (s : State), s.sets t cr (Obj.axTorqueEnable n) 0 = true →
    ∃ u, exec (.axTorqueEnableOff t cr n) s = .next (s.after t u) ∧ u.acks cr ∧ ∀ c, u.g c (Obj.axTorqueEnable n) = 0) ∧
  (∀ (t : Nat) (cr : Carrier) (n : Fin 32) (v : Int) (g m : Nat) (s : State), s.sets t cr (Obj.pgTarget n) v = true →
    s.groupOf n = some (g, m) → s.v (Obj.agMode g) = 0 ∨ s.v (Obj.agMode g) = 3 →
    (∀ q, (s.gen n).stopReq ≠ some (max s.now t, q)) →
    ∃ u, exec (.pgTarget t cr n v) s = .next (s.after t u) ∧ u.acks cr ∧ (∀ c, u.g c (Obj.pgTarget n) = v) ∧
      ((s.gen n).mode = .standstill → v ≠ (s.gen n).tgt → u.gen n = (s.gen n).start v) ∧
      ((s.gen n).mode = .moving → v ≠ (s.gen n).tgt → (u.gen n).pend = some v) ∧
      ((s.gen n).mode = .moving → v = (s.gen n).tgt → (u.gen n).pend = none)) ∧
  (∀ (t : Nat) (cr : Carrier) (n : Fin 32) (v : Int) (g m : Nat) (s : State), s.sets t cr (Obj.pgTarget n) v = true →
    s.groupOf n = some (g, m) → s.v (Obj.agMode g) = 1 → (∀ q, (s.group g).stopReq ≠ some (max s.now t, q)) →
    ∃ u, exec (.pgTarget t cr n v) s = .next (s.after t u) ∧ u.acks cr ∧ (∀ c, u.g c (Obj.pgTarget n) = v) ∧
      (u.group g).pend.getD m none = (if v = (s.gen n).tgt then none else some v)) ∧
  (∀ (t : Nat) (cr : Carrier) (n : Fin 32) (s : State), s.sets t cr (Obj.pgControl n) 1 = true → s.jointGroup n = none →
    ∃ u, exec (.pgStop t cr n) s = .next (s.after t u) ∧ u.acks cr ∧ (u.gen n).mode = ((s.gen n).stop false).mode ∧
      (u.gen n).pend = none ∧ (u.gen n).inGroup = false) ∧
  (∀ (t : Nat) (cr : Carrier) (n : Fin 32) (s : State), s.sets t cr (Obj.pgControl n) 2 = true → s.jointGroup n = none →
    ∃ u, exec (.pgQuickStop t cr n) s = .next (s.after t u) ∧ u.acks cr ∧ (u.gen n).mode = ((s.gen n).stop true).mode ∧
      (u.gen n).pend = none ∧ (u.gen n).inGroup = false) ∧
  (∀ (t : Nat) (cr : Carrier) (n : Fin 32) (g : Nat) (s : State), s.sets t cr (Obj.pgControl n) 1 = true →
    s.jointGroup n = some g →
    ∃ u, exec (.pgStop t cr n) s = .next (s.after t u) ∧ u.acks cr ∧ (u.group g).pend = [] ∧ (u.group g).pendTotal = none) ∧
  (∀ (t : Nat) (cr : Carrier) (n : Fin 32) (g : Nat) (s : State), s.sets t cr (Obj.pgControl n) 2 = true →
    s.jointGroup n = some g →
    ∃ u, exec (.pgQuickStop t cr n) s = .next (s.after t u) ∧ u.acks cr ∧ (u.group g).pend = [] ∧
      (u.group g).pendTotal = none) ∧
  (∀ (t : Nat) (cr : Carrier) (g : Fin 16) (s : State), s.sets t cr (Obj.agControl g) 1 = true →
    s.v (Obj.agMode g) ≠ 0 →
    ∃ u, exec (.agStop t cr g) s = .next (s.after t u) ∧ u.acks cr ∧ (u.group g).pend = [] ∧ (u.group g).pendTotal = none ∧
      ((s.group g).move = none → (u.group g).move = none)) ∧
  (∀ (t : Nat) (cr : Carrier) (g : Fin 16) (s : State), s.sets t cr (Obj.agControl g) 2 = true →
    s.v (Obj.agMode g) ≠ 0 →
    ∃ u, exec (.agQuickStop t cr g) s = .next (s.after t u) ∧ u.acks cr ∧ (u.group g).pend = [] ∧
      (u.group g).pendTotal = none ∧ ((s.group g).move = none → (u.group g).move = none)) ∧
  (∀ (t : Nat) (cr : Carrier) (g : Fin 16) (m : Nat) (s : State), s.sets t cr (Obj.agControl g) 1 = true →
    s.v (Obj.agMode g) = 0 → m ∈ s.members g → s.isRemote g m = false → (s.group g).move = none →
    (∀ j ∈ s.members g, s.isRemote g j = false → s.groupOf (s.memberAxis g j) = some (g.val, j)) →
    ∃ u, exec (.agStop t cr g) s = .next (s.after t u) ∧ u.acks cr ∧ (u.gen (s.memberAxis g m)).pend = none ∧
      ((s.gen (s.memberAxis g m)).mode = .moving → (u.gen (s.memberAxis g m)).mode = .stopping false)) ∧
  (∀ (t : Nat) (cr : Carrier) (g : Fin 16) (m : Nat) (s : State), s.sets t cr (Obj.agControl g) 2 = true →
    s.v (Obj.agMode g) = 0 → m ∈ s.members g → s.isRemote g m = false → (s.group g).move = none →
    (∀ j ∈ s.members g, s.isRemote g j = false → s.groupOf (s.memberAxis g j) = some (g.val, j)) →
    ∃ u, exec (.agQuickStop t cr g) s = .next (s.after t u) ∧ u.acks cr ∧ (u.gen (s.memberAxis g m)).pend = none ∧
      ((s.gen (s.memberAxis g m)).mode = .moving → (u.gen (s.memberAxis g m)).mode = .stopping true)) ∧
  (∀ (t : Nat) (cr : Carrier) (g : Fin 16) (v : Int) (s : State), s.sets t cr (Obj.agForceTotal g) v = true →
    (∀ q, (s.group g).stopReq ≠ some (max s.now t, q)) →
    ∃ u, exec (.agForceTotal t cr g v) s = .next (s.after t u) ∧ u.acks cr ∧ ∀ c, u.g c (Obj.agForceTotal g) = v)) ∧
  (∀ (t : Nat) (cr : Carrier) (g : Fin 16) (m : GMove) (s : State), (s.group g).move = some m → s.v (Obj.agMode g) ≠ 0 →
    (s.sets t cr (Obj.agControl g) 1 = true →
      ∃ u, exec (.agStop t cr g) s = .next (s.after t u) ∧
        ((u.group g).move.bind fun x => x.stops.head?.map (·.quick)) = some ((m.stops.head?.map (·.quick)).getD false)) ∧
    (s.sets t cr (Obj.agControl g) 2 = true →
      ∃ u, exec (.agQuickStop t cr g) s = .next (s.after t u) ∧
        ((u.group g).move.bind fun x => x.stops.head?.map (·.quick)) = some true))

/-- R310, R315, R337, R352: commands to the redundancy management and the placement. `u` is the state as the write leaves it. -/
def Obligations.RedundancyAndPlanningWritesAct : Prop :=
  (∀ (t : Nat) (cr : Carrier) (v : Int) (s : State), s.sets t cr Obj.passiveRequest v = true →
    s.red.state ≠ .startup → s.red.state ≠ .passive →
    ∃ u, exec (.passiveRequest t cr v) s = .next (s.after t u) ∧ u.acks cr ∧ u.red.state = .passive ∧
      (∀ c, u.red.inV.get c = false) ∧ u.red.entry = max s.now t) ∧
  (∀ (t : Nat) (cr : Carrier) (n : Fin 32) (v : Int) (s : State), s.sets t cr (Obj.axRedundMode n) v = true →
    ∃ u, exec (.axRedundMode t cr n v) s = .next (s.after t u) ∧ u.acks cr ∧ (∀ c, u.g c (Obj.axRedundMode n) = v) ∧
      (s.tasksOf n = [] → (u.axis n).split = (v == 1)) ∧
      (s.tasksOf n ≠ [] → (s.axis n).split ≠ (v == 1) → (u.axis n).handover = (if v = 1 then 1 else 2) ∧
        (u.axis n).split = (s.axis n).split)) ∧
  (∀ (t : Nat) (cr : Carrier) (s : State), s.sets t cr Obj.planRequest 1 = true →
    s.place.placed = true → s.place.aged = true → s.place.run = none → s.red.state ≠ .passive →
    ∃ u x, exec (.planRequestReplan t cr) s = .next (s.after t u) ∧ u.acks cr ∧ u.place.trig = some x ∧
      x.2.testBit 3 = true ∧ u.place.plan = s.place.plan) ∧
  (∀ (t : Nat) (cr : Carrier) (s : State), s.sets t cr Obj.planRequest 2 = true →
    ∃ u, exec (.planRequestStatic t cr) s = .next (s.after t u) ∧ u.acks cr ∧ u.place.static = true ∧
      u.place.plan = s.place.plan)

/-- R369, R382, R391, R393: commands to the fabric and the twin. `u` is the state as the write leaves it. -/
def Obligations.FabricAndTwinWritesAct : Prop :=
  (∀ (t : Nat) (cr : Carrier) (v : Int) (s : State), s.sets t cr Obj.fabNodeAddr v = true →
    ∃ u, exec (.fabNodeAddr t cr v) s = .next (s.after t u) ∧ u.acks cr ∧ (∀ c, u.g c Obj.fabNodeAddr = v) ∧
      (s.fab.strapVoted = true → s.nidSource ≠ 0 → u.fab.addr = v.toNat ∧ ∀ c, u.g c Obj.fabAddrInUse = (v.toNat : Int))) ∧
  (∀ (t : Nat) (cr : Carrier) (key : List Byte) (s : State), s.writes t cr Obj.fabAuthKey0 (.bytes key) = true →
    ∃ u, exec (.fabAuthKeyWrite t cr 0 key) s = .next (s.after t u) ∧ u.acks cr ∧ u.fab.key0 = key ∧
      u.fab.key1 = s.fab.key1) ∧
  (∀ (t : Nat) (cr : Carrier) (key : List Byte) (s : State), s.writes t cr Obj.fabAuthKey1 (.bytes key) = true →
    ∃ u, exec (.fabAuthKeyWrite t cr 1 key) s = .next (s.after t u) ∧ u.acks cr ∧ u.fab.key1 = key ∧
      u.fab.key0 = s.fab.key0) ∧
  (∀ (t : Nat) (cr : Carrier) (s : State), s.sets t cr Obj.twinPairCmd 1 = true →
    ∃ u, exec (.twinPair t cr) s = .next (s.after t u) ∧ u.acks cr ∧ (∀ c, u.g c Obj.twinState = 1) ∧
      u.twin.request.map (·.1) = some (max s.now t) ∧ u.twin.paired = s.twin.paired) ∧
  (∀ (t : Nat) (cr : Carrier) (s : State), s.sets t cr Obj.twinPairCmd 2 = true → s.twin.unpairPeer = none →
    ∃ u, exec (.twinUnpair t cr) s = .next (s.after t u) ∧ u.acks cr ∧ u.twin.unpairOwn = some (max s.now t) ∧
      u.twin.paired = s.twin.paired) ∧
  (∀ (t y : Nat) (cr : Carrier) (s : State), s.sets t cr Obj.twinPairCmd 2 = true → s.twin.unpairPeer = some y →
    s.twin.paired = true → max s.now t ≤ y + 10 * sec → y ≤ max s.now t + 10 * sec →
    ∃ u, exec (.twinUnpair t cr) s = .next (s.after t u) ∧ u.acks cr ∧ u.twin.paired = false ∧ u.twin.key = [] ∧
      (∀ c, u.g c Obj.twinState = 0)) ∧
  (∀ (t : Nat) (cr : Carrier) (s : State), s.sets t cr Obj.twinPairCmd 3 = true →
    ∃ u, exec (.twinForcedUnpair t cr) s = .next (s.after t u) ∧ u.acks cr ∧ u.twin.paired = false ∧ u.twin.key = [] ∧
      u.twin.forced = true ∧ (∀ c, u.g c Obj.twinState = 0))

/-- R418, R433, R439, R441, R444: commands to the safety functions. `u` is the state as the write leaves it. -/
def Obligations.SafetyWritesAct : Prop :=
  (∀ (t : Nat) (cr : Carrier) (c : Ch) (i : Fin 6) (v : Int) (s : State), s.sets t cr (Obj.siMode (siNum c i)) v = true →
    ∃ u, exec (.siMode t cr c i v) s = .next (s.after t u) ∧ u.acks cr ∧ (∀ d, u.g d (Obj.siMode (siNum c i)) = v) ∧
      (v = 0 → (u.pair c i).start = none)) ∧
  (∀ (t : Nat) (cr : Carrier) (s : State), s.sets t cr Obj.faultReset 1 = true → s.v Obj.faultReset = 0 →
    ∃ u, exec (.faultResetWrite t cr 1) s = .next (s.after t u) ∧ u.acks cr ∧ u.safe.objHigh = some (max s.now t) ∧
      ∀ c, u.g c Obj.resetCount = s.g c Obj.resetCount) ∧
  (∀ (t x : Nat) (cr : Carrier) (s : State), s.sets t cr Obj.faultReset 0 = true → s.v Obj.faultReset = 1 →
    s.safe.objHigh = some x → max s.now t ≤ x + 5 * sec → s.isBit Obj.resetStatus 1 = false →
    ∃ u, exec (.faultResetWrite t cr 0) s = .next (s.after t u) ∧ u.acks cr ∧ u.safe.objHigh = none ∧
      u.v Obj.resetCount = s.v Obj.resetCount + 1 ∧ ∀ c, u.g c (Obj.opFaultMap c) = 0) ∧
  (∀ (t : Nat) (cr : Carrier) (pw : List Byte) (s : State), s.writes t cr Obj.pwEnter (.bytes pw) = true →
    ∃ u, exec (.pwEnter t cr pw) s = .next (s.after t u) ∧ u.acks cr ∧
      u.safe.unlocks.getD cr.num none = some (max s.now t) ∧ ∀ c, u.g c Obj.pwFailCount = 0) ∧
  (∀ (t : Nat) (cr : Carrier) (pw : List Byte) (s : State), s.writes t cr Obj.pwNew (.bytes pw) = true →
    ∃ u, exec (.pwNew t cr pw) s = .next (s.after t u) ∧ u.acks cr ∧ u.safe.pwHash = pwHashOf pw ∧
      ∀ k, k ≠ cr.num → u.safe.unlocks.getD k none = none) ∧
  (∀ (t : Nat) (cr : Carrier) (v : Int) (s : State), s.sets t cr Obj.pwLock v = true →
    ∃ u, exec (.pwLock t cr v) s = .next (s.after t u) ∧ u.acks cr ∧ u.safe.unlocks.getD cr.num none = none) ∧
  (∀ (t : Nat) (cr : Carrier) (v : Int) (s : State), s.sets t cr Obj.clClear v = true →
    ∃ u, exec (.clClear t cr v) s = .next (s.after t u) ∧ u.acks cr ∧
      u.safe.log.map (fun x => (x.index, x.sub, x.carrier)) = [(0x7800, 7, cr.num)] ∧
      (∀ c, u.g c Obj.clCount = 1) ∧ ∀ c, u.g c Obj.clBaseChain = s.v Obj.clLastChain)

/-- R455, R466, R470, R472, R489, R494, R505, R507: commands to power, life cycle and the record. `u` is the state as the write leaves it. -/
def Obligations.PowerAndLifeWritesAct : Prop :=
  (∀ (t : Nat) (cr : Carrier) (s : State), s.sets t cr Obj.pwrRequest 1 = true →
    ∃ u, exec (.pwrRequestRetain t cr) s = .next (s.after t u) ∧ u.acks cr ∧
      ((s.power.entering.isSome || s.power.waking) = true → u.power.queued = some (.retain, false)) ∧
      (s.power.entering = none → s.power.waking = false → isCommit (max s.now t) = true → u.power.request = none ∧
        (s.refusers = [] → u.power.entering = some .retain ∧ u.power.sleptAt = max s.now t))) ∧
  (∀ (t : Nat) (cr : Carrier) (s : State), s.sets t cr Obj.pwrRequest 2 = true →
    ∃ u, exec (.pwrRequestPark t cr) s = .next (s.after t u) ∧ u.acks cr ∧
      ((s.power.entering.isSome || s.power.waking) = true → u.power.queued = some (.park, false)) ∧
      (s.power.entering = none → s.power.waking = false → isCommit (max s.now t) = true → u.power.request = none ∧
        (s.refusers = [] → u.power.entering = some .park ∧ u.power.sleptAt = max s.now t))) ∧
  (∀ (t : Nat) (cr : Carrier) (c : Ch) (v : Int) (s : State), s.sets t cr (Obj.plRequest c) v = true →
    s.plReady c = false →
    ∃ u, exec (.plRequest t cr c v) s = .next (s.after t u) ∧ u.acks cr ∧ (∀ d, u.g d (Obj.plRequest c) = v) ∧
      u.isBit (Obj.plStatus c) 4 = false ∧ u.isBit (Obj.plStatus c) 5 = false ∧ u.power.plWait.get c = some v.toNat) ∧
  (∀ (t : Nat) (cr : Carrier) (d : Fin 6) (v : Int) (s : State), s.sets t cr (Obj.domainMode d) v = true →
    ∃ u, exec (.domainMode t cr d v) s = .next (s.after t u) ∧ u.acks cr ∧ ∀ c, u.g c (Obj.domainMode d) = v) ∧
  (∀ (t n : Nat) (cr : Carrier) (v : Int) (s : State), s.sets t cr Obj.lcRequest v = true → s.lcTarget v = some n →
    ∃ u, exec (.lcRequest t cr v) s = .next (s.after t u) ∧ u.acks cr ∧ u.life.state = n ∧ u.safe.unlocks = [] ∧
      ∀ c, u.g c Obj.lcState = (n : Int)) ∧
  (∀ (t : Nat) (cr : Carrier) (s : State), s.sets t cr Obj.debugPermit 0 = true →
    ∃ u, exec (.debugPermit t cr 0) s = .next (s.after t u) ∧ u.acks cr ∧ (∀ c, u.g c Obj.debugPermit = 0) ∧
      ∀ c, u.red.debugOpen.get c = false) ∧
  (∀ (t : Nat) (cr : Carrier) (v : Int) (s : State), s.sets t cr Obj.sedTrigger v = true →
    ∃ u, exec (.sedTrigger t cr v) s = .next (s.after t u) ∧ u.acks cr ∧
      ∀ c, bit v c.num = true → s.arch.alive.get c = true → (u.sed.get c).frozen = true) ∧
  (∀ (t : Nat) (cr : Carrier) (v : Int) (s : State), s.sets t cr Obj.sedRelease v = true →
    ∃ u, exec (.sedRelease t cr v) s = .next (s.after t u) ∧ u.acks cr ∧
      ∀ c, bit v c.num = true → (u.sed.get c).frozen = false ∧ ((s.sed.get c).frozen = true → (u.sed.get c).trace = []))

/-- R61, R62, R72, R89: a write that is accepted is held by every channel, or by the channel of a per-channel object. `u` is the state as the command leaves it. -/
def Obligations.AcceptedWritesAreHeld : Prop :=
  (∀ (t : Nat) (cr : Carrier) (o : Obj) (e : Entry) (v : Val) (s : State), s.writes t cr o v = true →
    findObj o.index o.sub = some e → e.key = o.key → e.desc.role ≠ .sluiceAg → o.key ≠ Obj.storeAll.key →
    ∃ u, exec (.configWrite t cr o.index o.sub v) s = .next (s.after t u) ∧ u.acks cr) ∧
  (∀ (t : Nat) (cr : Carrier) (o : Obj) (e : Entry) (v : Int) (s : State), s.sets t cr o v = true →
    findObj o.index o.sub = some e → e.key = o.key → e.obj = o → e.holds = true →
    ∃ u, exec (.configWrite t cr o.index o.sub (.num v)) s = .next (s.after t u) ∧ u.acks cr ∧
      (e.desc.home ≠ .chan → u.v o = v) ∧ (e.desc.home = .chan → u.g (chOf e.i) o = v)) ∧
  (∀ (t : Nat) (cr : Carrier) (o : Obj) (e : Entry) (v : Int) (s : State), s.sets t cr o v = true →
    findObj o.index o.sub = some e → e.key = o.key → e.obj = o → e.plain = true →
    ∃ u, exec (.configWrite t cr o.index o.sub (.num v)) s = .next (s.after t u) ∧ u.acks cr ∧
      (∀ (c : Ch) (p : Obj), p.key ≠ o.key →
        (cr = .proxy → p.key ≠ Obj.fabNoRoute.key ∧ p.key ≠ Obj.fabRateDrops.key) →
        (e.isRws = true → p.key ≠ Obj.clNextSeq.key ∧ p.key ≠ Obj.clLastChain.key ∧ p.key ≠ Obj.clCount.key ∧
          p.key ≠ Obj.clOverwritten.key ∧ p.key ≠ Obj.clBaseChain.key) → u.g c p = s.g c p) ∧
      u.tasks = s.tasks ∧ u.axes = s.axes ∧ u.red = s.red ∧ (e.command = none → u.sems = s.sems) ∧
      (e.isRws = false → u.safe = s.safe)) ∧
  (∀ (t : Nat) (cr : Carrier) (o : Obj) (e : Entry) (v : Int) (s : State), s.sets t cr o v = true →
    findObj o.index o.sub = some e → e.key = o.key → e.obj = o →
    (e.desc.role = .objDesc → o = Obj.objDesc (e.i * 8 + e.m) →
      ∃ u, exec (.configWrite t cr o.index o.sub (.num v)) s = .next (s.after t u) ∧ u.v o = withField v 1 3 0) ∧
    (e.desc.role = .streamDesc → e.desc.home ≠ .chan →
      ∃ u, exec (.configWrite t cr o.index o.sub (.num v)) s = .next (s.after t u) ∧
        u.v o = withField (withField v 7 29 0) 1 1 0)) ∧
  (∀ (t : Nat) (cr : Carrier) (o : Obj) (e : Entry) (b : List Byte) (s : State), s.writes t cr o (.bytes b) = true →
    findObj o.index o.sub = some e → e.key = o.key → e.obj = o →
    ¬([Role.fabAuthKey0, .fabAuthKey1, .pwEnter, .pwNew].contains e.desc.role) → o.key ≠ Obj.storeAll.key →
    e.desc.role ≠ .sluiceAg →
    ∃ u, exec (.configWrite t cr o.index o.sub (.bytes b)) s = .next (s.after t u) ∧ u.acks cr ∧ ∀ c, u.str c o = b) ∧
  (∀ (t : Nat) (cr : Carrier) (o : Obj) (e : Entry) (v : Val) (s : State), s.accepts t cr e v = true →
    (s.upTo t).noneDue = true → findObj o.index o.sub = some e → e.key = o.key →
    (max s.now t < (s.heard t cr).dueOf e (max s.now t) ∨ (e.desc.role = .sluiceAg ∧ ∃ x, v = .num x)) →
    ∃ u r, exec (.configWrite t cr o.index o.sub v) s = .next (s.after t u) ∧ r.carrier = cr ∧
      u.kdp.writes = s.kdp.writes ++ [{ req := r, due := (s.heard t cr).dueOf e (max s.now t), members := [(o.key, v)] }] ∧
      u.sent = s.sent ∧ u.regs = s.regs) ∧
  (∀ (t : Nat) (cr : Carrier) (v : Int) (s : State),
    exec (.configWrite t cr Obj.storeAll.index Obj.storeAll.sub (.num v)) s = exec (.storeAll t cr v) s) ∧
  (∀ (t : Nat) (cr : Carrier) (v : Int) (s : State), s.sets t cr Obj.storeAll v = true →
    ∃ u r, exec (.storeAll t cr v) s = .next (s.after t u) ∧ r.carrier = cr ∧ u.sent = s.sent ∧
      u.kdp.store = some (match s.kdp.store with
        | some (l, x) => (l ++ [r], x)
        | none => ([r], max s.now t))) ∧
  (∀ (t x : Nat) (l : List KdpReq) (s : State), s.kdp.store = some (l, x) →
    (∀ c, s.running c = true → (s.sed.get c).copy = none) →
    ∃ u, exec (.storeComplete t) s = .next (s.after t u) ∧ u.kdp.store = none ∧
      (∀ r ∈ l, r.frame.isEmpty = false →
        ∃ who tag frames, Out.response r.carrier who tag r.tid 0 r.detail r.last [] frames ∈ u.sent) ∧
      ∀ c, s.running c = true → u.su.images.get c = (s.upTo t).imageNow ∧ u.su.imageOk.get c = true) ∧
  (∀ (t : Nat) (cr : Carrier) (v : Int) (s : State), s.sets t cr Obj.restoreDefaults v = true →
    ∃ u, exec (.restoreDefaults t cr v) s = .next (s.after t u) ∧ u.acks cr ∧ ∀ c, u.strs.get c = [])

/-- R68, R69, R70: from copies to an agreed request. `u` is the state as the command leaves it. -/
def Obligations.CopiesBecomeARequest : Prop :=
  (∀ (t : Nat) (cr : Carrier) (c : Ch) (h : FrameHdr) (frame : List Byte) (s : State),
    s.reach cr c = true → s.kdpTakes cr h = true → s.frameFits cr frame.length = true →
    (parseKdp frame = none →
      ∃ u, exec (.kdpRequestCopy t cr c h frame) s = .next (s.after t u) ∧ u.kdp = s.kdp ∧
        u.g c Obj.kdpFramesDiscarded = wrapU32 (s.g c Obj.kdpFramesDiscarded + 1)) ∧
    ((parseKdp frame).isSome = true → s.copiesOf cr frame = [] →
      (∀ a, s.kdp.answered.find? (fun a => (s.upTo t).isLate a.req cr c frame) = some a →
        ∃ u, exec (.kdpRequestCopy t cr c h frame) s = .next (s.after t u) ∧ u.kdp.copies = s.kdp.copies ∧
          u.gives a.req a.code a.detail a.last a.data) ∧
      (s.kdp.answered.find? (fun a => (s.upTo t).isLate a.req cr c frame) = none →
        (∀ a, (s.upTo t).replayOf cr frame = some a →
          ∃ u, exec (.kdpRequestCopy t cr c h frame) s = .next (s.after t u) ∧ u.kdp = s.kdp ∧
            u.gives a.req a.code a.detail a.last a.data ∧ u.g c Obj.kdpReplays = wrapU32 (s.g c Obj.kdpReplays + 1)) ∧
        ((s.upTo t).replayOf cr frame = none → (s.upTo t).inProgress cr frame = false →
          ∃ u, exec (.kdpRequestCopy t cr c h frame) s = .next (s.after t u) ∧ u.regs = s.regs ∧
            u.kdp = { s.kdp with copies := s.kdp.copies ++
              [{ carrier := cr, chan := c, frame := frame, at_ := max s.now t, src := if cr = .proxy then h.port else 0 }] } ∧
            u.sent = .strap c .digest (leBytes 4 (crc32c frame)) :: s.sent)))) ∧
  (∀ (t : Nat) (cr : Carrier) (frame : List Byte) (f : KdpFrame) (s : State),
    parseKdp frame = some f → s.copiesOf cr frame ≠ [] → s.isMajority (s.copyHolders (s.copiesOf cr frame)) = true →
    s.receives = true → ∃ r : KdpReq, r.carrier = cr ∧ r.frame = frame ∧ r.agreed = max s.now t ∧
      r.holders = s.copyHolders (s.copiesOf cr frame) ∧ r.first = firstCopy (s.copiesOf cr frame) ∧
      (s.red.reachedDual = false → earlyRequest f = false →
        ∃ u, exec (.kdpRequestAgreed t cr frame) s = .next (s.after t u) ∧ u.copiesOf cr frame = [] ∧
          u.kdp.ready = s.kdp.ready ∧ u.gives r 0x060C 0x20 false []) ∧
      (s.red.reachedDual = true ∨ earlyRequest f = true →
        (f.target = 0 ∨ f.target = s.fab.addr →
          ∃ u, exec (.kdpRequestAgreed t cr frame) s = .next (s.after t u) ∧ u.kdp.ready = s.kdp.ready ++ [r] ∧
            u.copiesOf cr frame = [] ∧ u.regs = s.regs ∧ u.sent = s.sent) ∧
        (f.target ≠ 0 → f.target ≠ s.fab.addr →
          (s.v Obj.kdpProxyEnable = 0 ∨ (s.upTo t).hasRoute f.target = false →
            ∃ u, exec (.kdpRequestAgreed t cr frame) s = .next (s.after t u) ∧ u.copiesOf cr frame = [] ∧
              u.gives r 0x0608 0x10 false []) ∧
          (s.v Obj.kdpProxyEnable ≠ 0 → (s.upTo t).hasRoute f.target = true →
            ∃ u, exec (.kdpRequestAgreed t cr frame) s = .next (s.after t u) ∧ u.copiesOf cr frame = [] ∧
              u.kdp.proxied = s.kdp.proxied ++ [r] ∧ u.kdp.ready = s.kdp.ready)))) ∧
  (∀ (t : Nat) (cr : Carrier) (frame : List Byte) (s : State),
    s.copiesOf cr frame ≠ [] → s.isMajority (s.copyHolders (s.copiesOf cr frame)) = false →
    firstCopy (s.copiesOf cr frame) + s.vn Obj.kdpCopyWindow * us ≤ max s.now t →
    ∃ u, exec (.kdpCopyWindowExpiry t cr frame) s = .next (s.after t u) ∧ u.copiesOf cr frame = [] ∧
      u.g .chA Obj.kdpAgreeFailures = wrapU32 (s.g .chA Obj.kdpAgreeFailures + 1) ∧
      u.answers cr (bytesAt frame 2 2) 0x060B 1)

/-- R76, R83: expedited services. `u` is the state as the command leaves it. -/
def Obligations.ExpeditedServicesAct : Prop :=
  ∀ (t : Nat) (cr : Carrier) (tid : Nat) (r : KdpReq) (f : KdpFrame) (s : State), s.receives = true →
    (findReq s.kdp.ready cr tid (fun f => f.service == 1) = some (r, f) →
      (findObj f.index f.sub = none →
        ∃ u, exec (.readExp t cr tid) s = .next (s.after t u) ∧ u.kdp.ready = s.kdp.ready.erase r ∧
          u.gives r (missing f.index).1 (missing f.index).2 false []) ∧
      ∀ e, findObj f.index f.sub = some e →
        (∀ l, firstAbort ((s.upTo t).readFails e) = none → f.data = [] → e.desc.ty ≠ .domain → (s.upTo t).mustWake e = false →
          (s.upTo t).readBytes e = some l → l.length ≤ 8 →
          ∃ u, exec (.readExp t cr tid) s = .next (s.after t u) ∧ u.kdp.ready = s.kdp.ready.erase r ∧ u.gives r 0 0 false l ∧
            u.kdp.writes = s.kdp.writes) ∧
        (∀ l, (s.upTo t).readBytes e = some l →
          ∀ a, firstAbort ((s.upTo t).readFails e ++ failIf (e.desc.ty == .domain || !f.data.isEmpty || 8 < l.length) 0x0603) = some a →
          ∃ u, exec (.readExp t cr tid) s = .next (s.after t u) ∧ u.kdp.ready = s.kdp.ready.erase r ∧
            u.gives r a.1 a.2 false []) ∧
        (firstAbort ((s.upTo t).readFails e) = none → f.data = [] → e.desc.ty ≠ .domain → (s.upTo t).readBytes e = none →
          (s.upTo t).mustWake e = false →
          ∃ u, exec (.readExp t cr tid) s = .next (s.after t u) ∧ u.kdp.ready = s.kdp.ready.erase r ∧
            u.gives r 0x060B 2 false []) ∧
        (∀ l, firstAbort ((s.upTo t).readFails e) = none → f.data = [] → e.desc.ty ≠ .domain → (s.upTo t).readBytes e = some l →
          l.length ≤ 8 → (s.upTo t).mustWake e = true →
          ∃ u, exec (.readExp t cr tid) s = .next (s.after t u) ∧ u.kdp.ready = s.kdp.ready.erase r ∧ u.sent = s.sent ∧
            u.kdp.stalled = s.kdp.stalled ++ [{ req := r }])) ∧
    (findReq s.kdp.ready cr tid (fun f => f.service == 2) = some (r, f) →
      (findObj f.index f.sub = none →
        ∃ u, exec (.writeExp t cr tid) s = .next (s.after t u) ∧ u.kdp.ready = s.kdp.ready.erase r ∧
          u.gives r (missing f.index).1 (missing f.index).2 false []) ∧
      ∀ e, findObj f.index f.sub = some e →
        (f.data = [] ∨ 8 < f.data.length →
          ∃ a, firstAbort ((s.upTo t).accessFails cr e 1 ++ [(0x0603, 0)]) = some a ∧
            ∃ u, exec (.writeExp t cr tid) s = .next (s.after t u) ∧ u.kdp.ready = s.kdp.ready.erase r ∧
              u.gives r a.1 a.2 false [] ∧ u.kdp.writes = s.kdp.writes) ∧
        (f.data ≠ [] → f.data.length ≤ 8 →
          ((s.upTo t).writeFails ((s.upTo t).rawSet e (valFor e f.data)) cr e (valFor e f.data) 1 = none →
            ((s.upTo t).mustWake e = true →
              ∃ u, exec (.writeExp t cr tid) s = .next (s.after t u) ∧ u.kdp.ready = s.kdp.ready.erase r ∧ u.sent = s.sent ∧
                u.kdp.writes = s.kdp.writes ∧
                u.kdp.stalled = s.kdp.stalled ++ [{ req := r, write := some (e.key, valFor e f.data) }]) ∧
            ((s.upTo t).mustWake e = false → max s.now t < (s.upTo t).dueOf e (max (r.agreed + 1) (max s.now t)) →
              ∃ u, exec (.writeExp t cr tid) s = .next (s.after t u) ∧ u.kdp.ready = s.kdp.ready.erase r ∧ u.regs = s.regs ∧
                u.sent = s.sent ∧ u.kdp.writes = s.kdp.writes ++
                  [{ req := r, due := (s.upTo t).dueOf e (max (r.agreed + 1) (max s.now t)), members := [(e.key, valFor e f.data)] }]) ∧
            ((s.upTo t).mustWake e = false → (s.upTo t).dueOf e (max (r.agreed + 1) (max s.now t)) ≤ max s.now t →
              e.desc.role ≠ .sluiceAg → e.desc.role ≠ .storeAll →
              ∃ u, exec (.writeExp t cr tid) s = .next (s.after t u) ∧ u.gives r 0 0 false [])) ∧
          (∀ a, (s.upTo t).writeFails ((s.upTo t).rawSet e (valFor e f.data)) cr e (valFor e f.data) 1 = some a →
            ∃ u, exec (.writeExp t cr tid) s = .next (s.after t u) ∧ u.kdp.ready = s.kdp.ready.erase r ∧
              u.gives r a.1 a.2 false [] ∧ u.kdp.writes = s.kdp.writes ∧
              (cr ≠ .proxy → e.desc.role ≠ .pwEnter → ∀ c o, o.key ≠ Obj.kdpAbortsSent.key → u.g c o = s.g c o))))

/-- R77 to R80: segmented transfers. `u` is the state as the command leaves it. -/
def Obligations.SegmentedTransfersAct : Prop :=
  (∀ (t : Nat) (cr : Carrier) (tid : Nat) (r : KdpReq) (f : KdpFrame) (e : Entry) (s : State), s.receives = true →
    findObj f.index f.sub = some e →
    (findReq s.kdp.ready cr tid (fun f => f.service == 3) = some (r, f) →
      (∀ a, firstAbort ((s.upTo t).readFails e ++ failIf (if e.desc.ty = .domain then
            !(f.data.length == 6 && 1 ≤ bytesAt f.data 4 2 && bytesAt f.data 4 2 ≤ 4096) else !f.data.isEmpty) 0x0603) = some a →
        ∃ u, exec (.readSegInit t cr tid) s = .next (s.after t u) ∧ u.gives r a.1 a.2 false [] ∧
          u.kdp.transfers = s.kdp.transfers) ∧
      (firstAbort ((s.upTo t).readFails e) = none →
        (if e.desc.ty = .domain then f.data.length = 6 ∧ 1 ≤ bytesAt f.data 4 2 ∧ bytesAt f.data 4 2 ≤ 4096 else f.data = []) →
        ((s.upTo t).mustWake e = true →
          ∃ u, exec (.readSegInit t cr tid) s = .next (s.after t u) ∧ u.sent = s.sent ∧
            u.kdp.stalled = s.kdp.stalled ++ [{ req := r }]) ∧
        ((s.upTo t).mustWake e = false →
          ((s.upTo t).readBytes e = none →
            ∃ u, exec (.readSegInit t cr tid) s = .next (s.after t u) ∧ u.gives r 0x060B 2 false []) ∧
          ∀ l, (s.upTo t).readBytes e = some l →
            (e.desc.ty = .domain → l.length ≤ bytesAt f.data 0 4 →
              ∃ u, exec (.readSegInit t cr tid) s = .next (s.after t u) ∧ u.gives r 0x0607 0 false []) ∧
            ((e.desc.ty = .domain → bytesAt f.data 0 4 < l.length) →
              (4 ≤ (s.transfersOf cr).length →
                ∃ u, exec (.readSegInit t cr tid) s = .next (s.after t u) ∧ u.gives r 0x060C 4 false []) ∧
              ((s.transfersOf cr).length < 4 →
                ∃ u, exec (.readSegInit t cr tid) s = .next (s.after t u) ∧ u.gives r 0 0 false (leBytes 4 l.length) ∧
                  ∃ x, u.kdp.transfers = s.kdp.transfers ++ [x] ∧ u.transferOf cr f.index f.sub = some x ∧ x.write = false ∧
                    x.next = 0 ∧ x.total = x.data.length ∧
                    x.data = (if e.desc.ty = .domain then (l.drop (bytesAt f.data 0 4)).take (bytesAt f.data 4 2) else l)))))) ∧
    (findReq s.kdp.ready cr tid (fun f => f.service == 4) = some (r, f) →
      (∀ a, firstAbort ((s.upTo t).accessFails cr e 1 ++
          failIf (!(f.data.length == 4 && 1 ≤ bytesAt f.data 0 4 && bytesAt f.data 0 4 ≤ 4096) || e.desc.ty == .domain) 0x0603) = some a →
        ∃ u, exec (.writeSegInit t cr tid) s = .next (s.after t u) ∧ u.gives r a.1 a.2 false [] ∧
          u.kdp.transfers = s.kdp.transfers) ∧
      (firstAbort ((s.upTo t).accessFails cr e 1) = none → e.desc.ty ≠ .domain →
        f.data.length = 4 → 1 ≤ bytesAt f.data 0 4 → bytesAt f.data 0 4 ≤ 4096 →
        ((s.upTo t).mustWake e = true →
          ∃ u, exec (.writeSegInit t cr tid) s = .next (s.after t u) ∧ u.sent = s.sent ∧
            u.kdp.stalled = s.kdp.stalled ++ [{ req := r }]) ∧
        ((s.upTo t).mustWake e = false → 4 ≤ (s.transfersOf cr).length →
          ∃ u, exec (.writeSegInit t cr tid) s = .next (s.after t u) ∧ u.gives r 0x060C 4 false []) ∧
        ((s.upTo t).mustWake e = false → (s.transfersOf cr).length < 4 →
          ∃ u, exec (.writeSegInit t cr tid) s = .next (s.after t u) ∧ u.gives r 0 0 false [] ∧ u.kdp.writes = s.kdp.writes ∧
            ∃ x, u.kdp.transfers = s.kdp.transfers ++ [x] ∧ u.transferOf cr f.index f.sub = some x ∧ x.write = true ∧
              x.data = [] ∧ x.total = bytesAt f.data 0 4 ∧ x.next = 0)))) ∧
  (∀ (t : Nat) (cr : Carrier) (tid : Nat) (r : KdpReq) (f : KdpFrame) (e : Entry) (x : Transfer) (s : State),
    s.receives = true → findReq s.kdp.ready cr tid (fun f => f.service == 5 && !s.segWrites cr f) = some (r, f) →
    findObj f.index f.sub = some e → s.transferOf cr f.index f.sub = some x →
    (f.detail = x.next → f.data = [] →
      ((f.detail + 1) * s.segSize cr < x.total →
        ∃ u, exec (.segmentRead t cr tid) s = .next (s.after t u) ∧
          (u.transferOf cr f.index f.sub).map (·.next) = some (x.next + 1) ∧
          u.gives r 0 f.detail false ((x.data.drop (f.detail * s.segSize cr)).take (s.segSize cr))) ∧
      (x.total ≤ (f.detail + 1) * s.segSize cr →
        ∃ u, exec (.segmentRead t cr tid) s = .next (s.after t u) ∧ u.kdp.transfers = s.kdp.transfers.erase x ∧
          u.gives r 0 f.detail true ((x.data.drop (f.detail * s.segSize cr)).take (s.segSize cr)))) ∧
    (f.detail = x.next → f.data ≠ [] →
      ∃ u, exec (.segmentRead t cr tid) s = .next (s.after t u) ∧ u.transferOf cr f.index f.sub = none ∧
        u.gives r 0x0603 0 false []) ∧
    (f.detail ≠ x.next →
      ∃ u, exec (.segmentRead t cr tid) s = .next (s.after t u) ∧ u.transferOf cr f.index f.sub = none ∧
        u.gives r 0x0603 5 false [])) ∧
  (∀ (t : Nat) (cr : Carrier) (tid : Nat) (r : KdpReq) (f : KdpFrame) (e : Entry) (s : State), s.receives = true →
    findReq s.kdp.ready cr tid (fun f => f.service == 5 && (s.segWrites cr f || (s.transferOf cr f.index f.sub).isNone))
      = some (r, f) → findObj f.index f.sub = some e →
    (∀ x, s.transferOf cr f.index f.sub = some x → f.detail = x.next →
      (bit (f.flags : Int) 3 = false → f.data.length = s.segSize cr → (x.data ++ f.data).length ≤ x.total →
        ∃ u, exec (.segmentWrite t cr tid) s = .next (s.after t u) ∧ u.gives r 0 f.detail false [] ∧
          (u.transferOf cr f.index f.sub).map (fun y => (y.next, y.data)) = some (x.next + 1, x.data ++ f.data) ∧
          u.kdp.writes = s.kdp.writes) ∧
      ((bit (f.flags : Int) 3 = false ∧ f.data.length ≠ s.segSize cr) ∨ x.total < (x.data ++ f.data).length ∨
          (bit (f.flags : Int) 3 = true ∧ (x.data ++ f.data).length ≠ x.total) →
        ∃ u, exec (.segmentWrite t cr tid) s = .next (s.after t u) ∧ u.gives r 0x0603 0 false [] ∧
          u.transferOf cr f.index f.sub = none ∧ u.kdp.writes = s.kdp.writes) ∧
      (bit (f.flags : Int) 3 = true → (x.data ++ f.data).length = x.total →
        (∀ a, (s.upTo t).writeFails ((s.upTo t).rawSet e (valFor e (x.data ++ f.data))) cr e (valFor e (x.data ++ f.data)) 1 = some a →
          ∃ u, exec (.segmentWrite t cr tid) s = .next (s.after t u) ∧ u.gives r a.1 a.2 false [] ∧
            u.transferOf cr f.index f.sub = none ∧ u.kdp.writes = s.kdp.writes) ∧
        ((s.upTo t).writeFails ((s.upTo t).rawSet e (valFor e (x.data ++ f.data))) cr e (valFor e (x.data ++ f.data)) 1 = none →
          ((s.upTo t).mustWake e = true →
            ∃ u, exec (.segmentWrite t cr tid) s = .next (s.after t u) ∧ u.kdp.transfers = s.kdp.transfers.erase x ∧
              u.sent = s.sent ∧ u.kdp.stalled = s.kdp.stalled ++ [{ req := r, write := some (e.key, valFor e (x.data ++ f.data)) }]) ∧
          ((s.upTo t).mustWake e = false → max s.now t < (s.upTo t).dueOf e (max (r.agreed + 1) (max s.now t)) →
            ∃ u, exec (.segmentWrite t cr tid) s = .next (s.after t u) ∧ u.kdp.transfers = s.kdp.transfers.erase x ∧
              u.sent = s.sent ∧ u.regs = s.regs ∧ u.kdp.writes = s.kdp.writes ++
                [{ req := r, due := (s.upTo t).dueOf e (max (r.agreed + 1) (max s.now t))
                   members := [(e.key, valFor e (x.data ++ f.data))] }]) ∧
          ((s.upTo t).mustWake e = false → (s.upTo t).dueOf e (max (r.agreed + 1) (max s.now t)) ≤ max s.now t →
            e.desc.role ≠ .sluiceAg → e.desc.role ≠ .storeAll →
            ∃ u, exec (.segmentWrite t cr tid) s = .next (s.after t u) ∧ u.gives r 0 f.detail true [])))) ∧
    ((∀ x, s.transferOf cr f.index f.sub = some x → f.detail ≠ x.next) →
      ∃ u, exec (.segmentWrite t cr tid) s = .next (s.after t u) ∧ u.transferOf cr f.index f.sub = none ∧
        u.gives r 0x0603 5 false [])) ∧
  (∀ (t : Nat) (cr : Carrier) (tid : Nat) (r : KdpReq) (f : KdpFrame) (e : Entry) (s : State), s.receives = true →
    findReq s.kdp.ready cr tid (fun f => f.service == 7) = some (r, f) → findObj f.index f.sub = some e →
    (f.data = [] →
      ∃ u, exec (.abortTransfer t cr tid) s = .next (s.after t u) ∧ u.transferOf cr f.index f.sub = none ∧
        u.gives r 0 0 false [] ∧ (cr ≠ .proxy → u.regs = s.regs)) ∧
    (f.data ≠ [] →
      ∃ u, exec (.abortTransfer t cr tid) s = .next (s.after t u) ∧ u.gives r 0x0603 0 false [])) ∧
  (∀ (t : Nat) (cr : Carrier) (tid n : Nat) (r : KdpReq) (f : KdpFrame) (i : Instr) (s : State), s.receives = true →
    findObj f.index f.sub = none →
    ((n, i) ∈ [(3, Instr.readSegInit t cr tid), (4, Instr.writeSegInit t cr tid), (7, Instr.abortTransfer t cr tid)] →
      findReq s.kdp.ready cr tid (fun f => f.service == n) = some (r, f) →
      ∃ u, exec i s = .next (s.after t u) ∧ u.gives r (missing f.index).1 (missing f.index).2 false []) ∧
    (findReq s.kdp.ready cr tid (fun f => f.service == 5 && !s.segWrites cr f) = some (r, f) →
      ∃ u, exec (.segmentRead t cr tid) s = .next (s.after t u) ∧ u.gives r (missing f.index).1 (missing f.index).2 false []) ∧
    (findReq s.kdp.ready cr tid (fun f => f.service == 5 && (s.segWrites cr f || (s.transferOf cr f.index f.sub).isNone))
        = some (r, f) →
      ∃ u, exec (.segmentWrite t cr tid) s = .next (s.after t u) ∧
        u.gives r (missing f.index).1 (missing f.index).2 false [])) ∧
  (∀ (t : Nat) (cr : Carrier) (i j : Nat) (s : State),
    (∀ x, s.transferOf cr i j = some x → x.last + s.vn Obj.kdpTimeout * ms ≤ max s.now t) →
    (∀ x y, x ∈ s.kdp.transfers → y ∈ s.kdp.transfers → x.carrier = cr → y.carrier = cr → x.index = i → y.index = i →
      x.sub = j → y.sub = j → x = y) →
    ∃ u, exec (.kdpTransferTimeout t cr i j) s = .next (s.after t u) ∧ u.transferOf cr i j = none ∧ u.regs = s.regs ∧
      u.sent = s.sent)

/-- R72, R81, R82: groups and commit instants. `u` is the state as the command leaves it. -/
def Obligations.GroupWritesAndCommitInstants : Prop :=
  (∀ (t : Nat) (cr : Carrier) (tid : Nat) (r : KdpReq) (f : KdpFrame) (s : State), s.receives = true →
    findReq s.kdp.ready cr tid (fun f => f.service == 6) = some (r, f) →
    (bytesAt f.data 0 2 = 0 ∨ 16 < bytesAt f.data 0 2 ∨ f.data.length ≠ 2 + 12 * bytesAt f.data 0 2 →
      ∃ u, exec (.groupWrite t cr tid) s = .next (s.after t u) ∧ u.gives r 0x0603 0 false [] ∧
        u.kdp.writes = s.kdp.writes ∧ u.kdp.ready = s.kdp.ready.erase r) ∧
    (∀ a, (s.upTo t).groupFails cr f = some a →
      ∃ u, exec (.groupWrite t cr tid) s = .next (s.after t u) ∧ u.gives r a.1 a.2 false [] ∧
        u.kdp.writes = s.kdp.writes ∧ u.kdp.ready = s.kdp.ready.erase r ∧
        (cr ≠ .proxy → ∀ c o, o.key ≠ Obj.kdpAbortsSent.key → u.g c o = s.g c o)) ∧
    ((s.upTo t).groupFails cr f = none → (∃ p ∈ f.groupEntries, (s.upTo t).mustWake p.1 = true) →
      ∃ u, exec (.groupWrite t cr tid) s = .next (s.after t u) ∧ u.sent = s.sent ∧ u.kdp.writes = s.kdp.writes ∧
        u.kdp.stalled = s.kdp.stalled ++ [{ req := r }]) ∧
    ((s.upTo t).groupFails cr f = none → (∀ p ∈ f.groupEntries, (s.upTo t).mustWake p.1 = false) →
      ∀ due, due = (s.upTo t).groupFrom (f.groupEntries.map (·.1)) (max (r.agreed + 1) (max s.now t)) →
      (max s.now t < due →
        ∃ u, exec (.groupWrite t cr tid) s = .next (s.after t u) ∧ u.regs = s.regs ∧ u.sent = s.sent ∧
          u.kdp.ready = s.kdp.ready.erase r ∧ u.kdp.writes = s.kdp.writes ++
            [{ req := r, due := due, members := f.groupEntries.map fun p => (p.1.key, p.2) }]) ∧
      (due ≤ max s.now t → (∀ p ∈ f.groupEntries, p.1.desc.role ≠ .storeAll) →
        ∃ u, exec (.groupWrite t cr tid) s = .next (s.after t u) ∧ u.gives r 0 0 false []))) ∧
  (∀ (t : Nat) (s : State), s.receives = true → isCommit (max s.now t) = true →
    s.marks.getD markCommit 0 ≠ max s.now t + 1 →
    ∃ u, exec (.commitInstant t) s = .next (s.after t u) ∧ (∀ w ∈ u.kdp.writes, max s.now t < w.due) ∧
      u.marks.getD markCommit 0 = max s.now t + 1) ∧
  (∀ (t : Nat) (w : PendWrite) (s : State), w ∈ s.kdp.writes → w.due ≤ max s.now t → w.sluice = none → w.stores = false →
    w.req.frame.isEmpty = false →
    ∃ u, exec (.commitInstant t) s = .next (s.after t u) ∧ u.gives w.req 0 w.req.detail w.req.last [] ∧ w ∉ u.kdp.writes) ∧
  (∀ (t : Nat) (r : KdpReq) (due : Nat) (e : Entry) (v : Int) (s : State),
    s.kdp.writes = [{ req := r, due := due, members := [(e.key, .num v)] }] → entryOf e.key = some e → e.plain = true →
    due ≤ max s.now t → isCommit (max s.now t) = false →
    ∃ u, exec (.commitInstant t) s = .next (s.after t u) ∧ u.kdp.writes = [] ∧
      (e.desc.home ≠ .chan → u.v e.obj = v) ∧ (e.desc.home = .chan → u.g (chOf e.i) e.obj = v)) ∧
  (∀ (t : Nat) (s : State), isCommit (max s.now t) = false → (∀ w ∈ s.kdp.writes, max s.now t < w.due) →
    exec (.commitInstant t) s = .next (s.after t (s.upTo t)))

/-- R85, R88: the ends of stalled and of forwarded requests. `u` is the state as the command leaves it. -/
def Obligations.StalledAndProxiedRequestsEnd : Prop :=
  (∀ (t : Nat) (cr : Carrier) (tid : Nat) (x : KdpStall) (f : KdpFrame) (s : State),
    (s.upTo t).stalledReq cr tid false = some (x, f) →
    (∀ (e : Entry) (l : List Byte), x.write = none → f.service = 1 → findObj f.index f.sub = some e →
      firstAbort ((s.upTo t).readFails e) = none → f.data = [] → e.desc.ty ≠ .domain →
      (s.upTo t).readBytes e = some l → l.length ≤ 8 →
      ∃ u, exec (.kdpStallResume t cr tid) s = .next (s.after t u) ∧ u.kdp.stalled = s.kdp.stalled.erase x ∧
        u.gives x.req 0 0 false l) ∧
    (x.write = none → ∃ u, exec (.kdpStallResume t cr tid) s = .next (s.after t u) ∧
      u = ((s.upTo t).updKdp fun k => { k with stalled := k.stalled.erase x }).executeReq x.req f) ∧
    (∀ (e : Entry) (v : Val), x.write = some (e.key, v) → entryOf e.key = some e → x.req.carrier = cr → (s.upTo t).mustWake e = false →
      (∀ a, (s.upTo t).writeFails ((s.upTo t).rawSet e v) cr e v 1 = some a →
        ∃ u, exec (.kdpStallResume t cr tid) s = .next (s.after t u) ∧ u.kdp.stalled = s.kdp.stalled.erase x ∧
          u.gives x.req a.1 a.2 false [] ∧ u.kdp.writes = s.kdp.writes) ∧
      ((s.upTo t).writeFails ((s.upTo t).rawSet e v) cr e v 1 = none →
        max s.now t < (s.upTo t).dueOf e (max (x.req.agreed + 1) (max s.now t)) →
        ∃ u, exec (.kdpStallResume t cr tid) s = .next (s.after t u) ∧ u.kdp.stalled = s.kdp.stalled.erase x ∧
          u.sent = s.sent ∧ u.kdp.writes = s.kdp.writes ++
            [{ req := x.req, due := (s.upTo t).dueOf e (max (x.req.agreed + 1) (max s.now t)), members := [(e.key, v)] }]))) ∧
  (∀ (t : Nat) (cr : Carrier) (tid : Nat) (x : KdpStall) (f : KdpFrame) (s : State),
    (s.upTo t).stalledReq cr tid true = some (x, f) → x.req.agreed + s.vn Obj.kdpTimeout * ms ≤ max s.now t →
    ∃ u, exec (.kdpWakeTimeout t cr tid) s = .next (s.after t u) ∧ u.kdp.stalled = s.kdp.stalled.erase x ∧
      u.gives x.req 0x060A 0 false [] ∧ u.power = s.power) ∧
  (∀ (t : Nat) (cr : Carrier) (tid code detail : Nat) (last : Bool) (data : List Byte) (r : KdpReq) (f : KdpFrame) (s : State),
    findReq s.kdp.proxied cr tid (fun _ => true) = some (r, f) →
    ∃ u, exec (.kdpProxyResponse t cr tid code detail last data) s = .next (s.after t u) ∧
      u.kdp.proxied = s.kdp.proxied.erase r ∧ u.gives r code detail last data) ∧
  (∀ (t : Nat) (cr : Carrier) (tid : Nat) (r : KdpReq) (f : KdpFrame) (s : State),
    findReq s.kdp.proxied cr tid (fun _ => true) = some (r, f) → r.agreed + s.vn Obj.kdpTimeout * ms ≤ max s.now t →
    ∃ u, exec (.kdpProxyTimeout t cr tid) s = .next (s.after t u) ∧ u.kdp.proxied = s.kdp.proxied.erase r ∧
      u.gives r 0x0608 0x11 false [])

/-- R91, R98, R99: the lanes of the host ports. `u` is the state as the command leaves it. R26, R28, R100: 802.1AS on the host ports. `u` is the state as the command leaves it. -/
def Obligations.HostLanesAndGrandmasters : Prop :=
  ((∀ (t : Nat) (c : Ch) (p : Port) (aligned control : Bool) (s : State),
    ∃ u, exec (.hostLaneLinkChange t c p aligned control) s = .next (s.after t u) ∧
      u.isBit Obj.hostLaneStatus (2 * c.num + p.num) = (s.receives && s.isBit Obj.hostLaneEnable (2 * c.num + p.num) &&
        aligned && (control || s.v Obj.sgmiiAnEnable == 0)) ∧
      (∀ i, i ≠ 2 * c.num + p.num → u.isBit Obj.hostLaneStatus i = s.isBit Obj.hostLaneStatus i) ∧
      (∀ d o, o.key ≠ Obj.hostLaneStatus.key → u.g d o = s.g d o) ∧ u.sent = s.sent) ∧
  (∀ (t : Nat) (c : Ch) (p : Port) (h : FrameHdr) (ip : Nat) (s : State),
    s.laneUp c p = true → s.laneTakes p h = true → s.ipServed p false = true →
    (ip = s.vn (Obj.portIpv4Addr p.num) → exec (.arpRequest t c p h ip) s =
      .next (s.after t ((s.upTo t).send (.lane c p (s.vlanTag p.carrier) 1 (s.portStr c p 1))))) ∧
    (ip ≠ s.vn (Obj.portIpv4Addr p.num) → exec (.arpRequest t c p h ip) s = .next (s.after t (s.upTo t)))) ∧
  (∀ (t : Nat) (c : Ch) (p : Port) (h : FrameHdr) (ip : List Byte) (s : State),
    s.laneUp c p = true → s.laneTakes p h = true → s.ipServed p true = true →
    (ip = s.portStr c p 5 → exec (.neighbourSolicitation t c p h ip) s =
      .next (s.after t ((s.upTo t).send (.lane c p (s.vlanTag p.carrier) 2 (s.portStr c p 1))))) ∧
    (ip ≠ s.portStr c p 5 → exec (.neighbourSolicitation t c p h ip) s = .next (s.after t (s.upTo t)))) ∧
  (∀ (t : Nat) (c : Ch) (p : Port) (h : FrameHdr) (data : List Byte) (s : State),
    s.laneUp c p = true → s.laneTakes p h = true → s.ipServed p h.v6 = true →
    (data.length ≤ 64 → exec (.icmpEchoRequest t c p h data) s =
      .next (s.after t ((s.upTo t).send (.lane c p (s.vlanTag p.carrier) 3 data)))) ∧
    (64 < data.length → exec (.icmpEchoRequest t c p h data) s = .next (s.after t (s.upTo t))))) ∧
  ((∀ (t : Nat) (c : Ch) (p : Port) (q i : Nat) (x : Int) (s h : State),
    h = s.updPort p.num (fun y => { y with gm := some (q, i) }) →
    (s.v (Obj.asEnable p.num) = 1 → s.laneUp c p = true →
      (s.isTimeMaster = false ∨ h.asPort ≠ some p.num →
        ∃ u, exec (.asTimeReceive t c p q i x) s = .next (s.after t u) ∧ (u.port p.num).gm = some (q, i) ∧
          u.regs = s.regs ∧ u.fab = s.fab ∧ u.sent = s.sent ∧ ∀ k, k ≠ p.num → u.port k = s.port k) ∧
      (s.isTimeMaster = true → h.asPort = some p.num →
        ∃ u, exec (.asTimeReceive t c p q i x) s = .next (s.after (max s.now t + h.lockStep x) u) ∧
          (u.port p.num).gm = some (q, i) ∧ u.v Obj.timeOffset = clamp (-2147483648) 2147483647 x ∧
          field (u.v Obj.timeStatus) 0 2 = 2 ∧ u.isBit Obj.timeStatus 3 = false ∧
          u.isBit Obj.timeStatus 5 = (h.lockStep x != 0 || decide (x.natAbs ≤ 300)))) ∧
    (s.v (Obj.asEnable p.num) ≠ 1 ∨ s.laneUp c p = false →
      exec (.asTimeReceive t c p q i x) s = .next (s.after t (s.upTo t)))) ∧
  (∀ (t : Nat) (p : Port) (s h : State), h = s.updPort p.num (fun y => { y with gm := none }) →
    ∃ u, exec (.asGrandmasterLoss t p) s = .next (s.after t u) ∧ (u.port p.num).gm = none ∧ u.sent = s.sent ∧
      (∀ k, k ≠ p.num → u.port k = s.port k) ∧
      (s.isTimeMaster = false ∨ s.asPort ≠ some p.num ∨ h.asPort ≠ none → u.regs = s.regs ∧ u.fab = s.fab) ∧
      (s.isTimeMaster = true → s.asPort = some p.num → h.asPort = none →
        u.isBit Obj.timeStatus 5 = false ∧
        (field (s.v Obj.timeStatus) 0 2 ≠ 0 → u.isBit Obj.timeStatus 3 = true))))

/-- R106 to R108, R112: the agreement on cyclic frames. `u` is the state as the command leaves it. -/
def Obligations.CyclicFramesAreAgreed : Prop :=
  (∀ (t : Nat) (c : Ch) (p : Port) (h : FrameHdr) (frame : List Byte) (s : State), s.red.reachedDual = true →
    s.laneUp c p = true → s.laneTakes p h = true → s.ipServed p h.v6 = true → h.port = s.vn (Obj.cyclicUdpPort p.num) →
    (s.cyclicOk p.num frame = false →
      ∃ u, exec (.cyclicCommandFrame t c p h frame) s = .next (s.after t u) ∧ u.ports = s.ports ∧ u.sent = s.sent ∧
        u.g c (Obj.cycDiscarded p.num) = wrapU32 (s.g c (Obj.cycDiscarded p.num) + 1)) ∧
    (s.cyclicOk p.num frame = true →
      ((∀ x ∈ (s.port p.num).copiesOf frame, x.1 ≠ c ∧ max s.now t < s.cycEnd p.num ((s.port p.num).copiesOf frame)) →
        (∀ x ∈ (s.port p.num).taken, x.1 = frame → x.2 < max s.now t) →
        ∃ u, exec (.cyclicCommandFrame t c p h frame) s = .next (s.after t u) ∧ u.regs = s.regs ∧
          (u.port p.num).copies = (s.port p.num).copies ++ [(c, frame, max s.now t)] ∧
          u.sent = .strap c .digest (leBytes 4 (crc32c frame)) :: s.sent) ∧
      ((∃ x ∈ (s.port p.num).copiesOf frame, x.1 = c) → max s.now t < s.cycEnd p.num ((s.port p.num).copiesOf frame) →
        ∃ u, exec (.cyclicCommandFrame t c p h frame) s = .next (s.after t u) ∧ u.ports = s.ports ∧ u.regs = s.regs) ∧
      ((s.port p.num).copiesOf frame = [] → (∃ x ∈ (s.port p.num).taken, x.1 = frame ∧ max s.now t ≤ x.2) →
        ∃ u, exec (.cyclicCommandFrame t c p h frame) s = .next (s.after t u) ∧ u.ports = s.ports ∧ u.regs = s.regs))) ∧
  (∀ (t : Nat) (p : Port) (frame : List Byte) (s : State), s.red.reachedDual = true → s.cycle p.num ≠ 0 →
    (s.port p.num).copiesOf frame ≠ [] →
    s.isMajority (s.cycHolders p.num ((s.port p.num).copiesOf frame)) = true →
    ∃ u x, exec (.cyclicFrameAgreed t p frame) s = .next (s.after t u) ∧ (u.port p.num).frames = (s.port p.num).frames ++ [x] ∧
      x.counter = bytesAt frame 2 2 ∧ x.agreed = max s.now t ∧ max s.now t + 3000 ≤ x.due ∧
      x.due < max s.now t + 3000 + s.cycle p.num ∧ x.due % s.cycle p.num = 0 ∧
      (u.port p.num).copiesOf frame = [] ∧ (u.port p.num).heard = max s.now t ∧ (u.port p.num).silent = false ∧
      (∀ g, g < 16 → (s.sem g).holder = some p → (u.sem g).restart = max s.now t) ∧
      (x.due = ceilDiv (max s.now t) (s.cycle p.num) * s.cycle p.num → u.regs = s.regs) ∧
      (x.due ≠ ceilDiv (max s.now t) (s.cycle p.num) * s.cycle p.num →
        u.g .chA (Obj.cycLate p.num) = wrapU32 (s.g .chA (Obj.cycLate p.num) + 1))) ∧
  (∀ (t : Nat) (p : Port) (frame : List Byte) (s : State), (s.port p.num).copiesOf frame ≠ [] →
    s.isMajority (s.cycHolders p.num ((s.port p.num).copiesOf frame)) = false →
    s.cycEnd p.num ((s.port p.num).copiesOf frame) ≤ max s.now t →
    ∃ u, exec (.cyclicAgreeFail t p frame) s = .next (s.after t u) ∧ (u.port p.num).copiesOf frame = [] ∧
      u.g .chA (Obj.cycAgreeFail p.num) = wrapU32 (s.g .chA (Obj.cycAgreeFail p.num) + 1) ∧
      (u.port p.num).frames = (s.port p.num).frames)

/-- R106, R108, R111, R112: the cycle of a port. `u` is the state as the command leaves it. -/
def Obligations.CycleBoundariesAndSilence : Prop :=
  (∀ (t : Nat) (p : Port) (s : State), (s.upTo t).noneDue = true → s.receives = true → s.cycle p.num ≠ 0 →
    max s.now t % s.cycle p.num = 0 →
    ∃ u, exec (.cycleBoundary t p) s = .next (s.after t u) ∧
      ((s.port p.num).frames.filter (fun f => f.due ≤ max s.now t) = [] →
        (u.port p.num).running = false ∧ (u.port p.num).lastCounter = (s.port p.num).lastCounter ∧
        (u.port p.num).frames = (s.port p.num).frames) ∧
      (∀ x, newestOf ((s.port p.num).frames.filter fun f => f.due ≤ max s.now t) = some x →
        ((s.port p.num).lastCounter = none ∨ (∃ m, (s.port p.num).lastCounter = some m ∧ counterNewer x.counter m = true) →
          (u.port p.num).running = true ∧ (u.port p.num).lastCounter = some x.counter ∧
          (s.cmdWords p.num = [] → u.g .chA (Obj.cycApplied p.num) = wrapU32 (s.g .chA (Obj.cycApplied p.num) + 1) ∧
            (u.port p.num).frames = (s.port p.num).frames.filter fun f => !(f.due ≤ max s.now t)) ∧
          (∀ w e v, s.cmdWords p.num = [w] → cutPayload [w] x.payload = [some (e, .num v)] → e.plain = true →
            (s.upTo t).writeFails ((s.upTo t).rawSet e (.num v)) p.carrier e (.num v) 0 = none →
            (e.desc.home ≠ .chan → u.v e.obj = v) ∧ (e.desc.home = .chan → u.g (chOf e.i) e.obj = v)) ∧
          (∀ w e v a, s.cmdWords p.num = [w] → cutPayload [w] x.payload = [some (e, v)] →
            (s.upTo t).writeFails ((s.upTo t).rawSet e v) p.carrier e v 0 = some a →
            u.g .chA (Obj.cycEntriesDenied p.num) = wrapU32 (s.g .chA (Obj.cycEntriesDenied p.num) + 1))) ∧
        (∀ m, (s.port p.num).lastCounter = some m → counterNewer x.counter m = false →
          (u.port p.num).running = false ∧ (u.port p.num).lastCounter = some m ∧
          u.g .chA (Obj.cycStale p.num) = wrapU32 (s.g .chA (Obj.cycStale p.num) + 1))) ∧
      (u.v (Obj.cyclicEnable p.num) = 1 → (u.port p.num).latched.map (·.1) = some (max s.now t))) ∧
  (∀ (t : Nat) (p : Port) (s : State), (s.upTo t).noneDue = true → max s.now t % s.cycle p.num ≠ 0 →
    ∃ u, exec (.cycleBoundary t p) s = .next (s.after t u) ∧ u.ports = s.ports ∧ u.regs = s.regs) ∧
  (∀ (t : Nat) (p : Port) (x : Nat × List Byte × Bool) (s : State), (s.port p.num).latched = some x →
    x.1 + s.vn (Obj.statusOffset p.num) * us ≤ max s.now t →
    ∃ u, exec (.cyclicStatusFrame t p) s = .next (s.after t u) ∧ (u.port p.num).latched = none ∧ u.regs = s.regs ∧
      ∀ c, s.laneUp c p = true → Out.lane c p (s.vlanTag p.carrier) 4 (s.statusFrame c p x) ∈ u.sent) ∧
  (∀ (t : Nat) (p : Port) (s : State), isCommit (max s.now t) = true → s.receives = true →
    (s.port p.num).heard + s.vn (Obj.portSilentTime p.num) * ms ≤ max s.now t →
    ∃ u, exec (.portSilent t p) s = .next (s.after t u) ∧ (u.port p.num).silent = true ∧ u.regs = s.regs ∧
      ((s.port p.num).silent = true → u.sent = s.sent) ∧
      ((s.port p.num).silent = false → u.sent = .health clsHostPort p.num :: s.sent))

/-- R116, R118, R119: the Sluice. `u` is the state as the command leaves it. -/
def Obligations.SluiceSemaphores : Prop :=
  (∀ (t : Nat) (cr : Carrier) (g : Fin 16) (e : Entry) (v : Int) (i : Instr) (s : State),
    (v, i) ∈ [((1 : Int), Instr.sluiceAcquire t cr g), (0, .sluiceRelease t cr g)] →
    (s.upTo t).noneDue = true → findObj 0x2400 (g + 1) = some e →
    (s.accepts t cr e (.num v) = true →
      ∃ u r, exec i s = .next (s.after t u) ∧ r.carrier = cr ∧ r.frame.isEmpty = false ∧ u.sent = s.sent ∧ u.sems = s.sems ∧
        u.kdp.writes = s.kdp.writes ++ [{ req := r, due := commitFrom (max s.now t), members := [((Obj.sluiceAg g).key, .num v)] }]) ∧
    (∀ a, s.receives = true → s.red.reachedDual = true →
      (s.heard t cr).writeFails ((s.heard t cr).rawSet e (.num v)) cr e (.num v) 1 = some a →
      ∃ u, exec i s = .next (s.after t u) ∧ u.kdp.writes = s.kdp.writes ∧ u.answers cr 0 a.1 a.2)) ∧
  (∀ (t : Nat) (g : Fin 16) (l : List (KdpReq × Nat × Int)) (s : State), isCommit (max s.now t) = true →
    s.marks.getD markCommit 0 ≠ max s.now t + 1 → s.receives = true →
    s.kdp.writes = (l.map fun x => { req := x.1, due := x.2.1, members := [((Obj.sluiceAg g).key, .num x.2.2)] }) →
    (∀ x ∈ l, x.2.1 ≤ max s.now t ∧ x.1.frame.isEmpty = false) →
    (∀ r p, l.map (fun x => (x.1, x.2.2)) = [(r, 1)] → r.carrier.port? = some p →
      ((s.sem g).holder = none →
        ∃ u, exec (.commitInstant t) s = .next (s.after t u) ∧ (u.sem g).holder = some p ∧ (u.sem g).restart = max s.now t ∧
          u.gives r 0 0 false [] ∧ u.kdp.writes = []) ∧
      ((s.sem g).holder = some p →
        ∃ u, exec (.commitInstant t) s = .next (s.after t u) ∧ (u.sem g).holder = some p ∧ (u.sem g).restart = max s.now t ∧
          u.gives r 0 0 false []) ∧
      (∀ q, (s.sem g).holder = some q → q ≠ p → max s.now t < (s.sem g).restart + s.vn (Obj.leaseTime g) * ms →
        ∃ u, exec (.commitInstant t) s = .next (s.after t u) ∧ (u.sem g).holder = some q ∧ u.gives r 0x0608 0 false [])) ∧
    (∀ r p, l.map (fun x => (x.1, x.2.2)) = [(r, 0)] → r.carrier.port? = some p →
      ((s.sem g).holder = some p → max s.now t < (s.sem g).restart + s.vn (Obj.leaseTime g) * ms → s.v (Obj.holdTime g) ≠ 0 →
        0 ≤ s.v (Obj.holdTime g) →
        ∃ u, exec (.commitInstant t) s = .next (s.after t u) ∧ (u.sem g).holder = none ∧ (u.sem g).lapse = 1 ∧
          u.gives r 0 0 false [] ∧ u.kdp.writes = []) ∧
      ((s.sem g).holder ≠ some p →
        ∃ u, exec (.commitInstant t) s = .next (s.after t u) ∧ u.gives r 0x0609 0 false [])) ∧
    (∀ r₀ r₁, l.map (fun x => (x.1, x.2.2)) = [(r₀, 1), (r₁, 1)] → r₀.carrier = .p0 → r₁.carrier = .p1 →
      (s.sem g).holder = none →
      ∃ u, exec (.commitInstant t) s = .next (s.after t u) ∧ (u.sem g).holder = some (s.fairPort g) ∧
        u.isBit Obj.sluiceFair g = !s.isBit Obj.sluiceFair g ∧
        u.gives (if s.fairPort g = .p0 then r₀ else r₁) 0 0 false [] ∧
        u.gives (if s.fairPort g = .p0 then r₁ else r₀) 0x0608 0 false [])) ∧
  (∀ (t : Nat) (g : Fin 16) (s : State), isCommit (max s.now t) = true →
    ((s.upTo t).leaseOver g = true →
      ∃ u, exec (.leaseExpiry t g) s = .next (s.after t u) ∧ (u.sem g).holder = none ∧
        (u.sem g).lapse = (if (s.upTo t).agreedV (Obj.holdTime g) = 0 then 2 else 1) ∧
        u.v (Obj.leaseExpiries g) = wrapU32 (s.v (Obj.leaseExpiries g) + 1)) ∧
    ((s.upTo t).leaseOver g = false → exec (.leaseExpiry t g) s = .next (s.after t (s.upTo t))) ∧
    ((s.sem g).holder ≠ none → (∀ w ∈ s.kdp.writes, max s.now t < w.due) →
      (s.upTo t).leaseOver g = decide ((s.sem g).restart + s.vn (Obj.leaseTime g) * ms ≤ max s.now t))) ∧
  (∀ (t : Nat) (g : Fin 16) (s : State), isCommit (max s.now t) = true → (s.sem g).lapse = 1 →
    (∀ w ∈ s.kdp.writes, max s.now t < w.due) → (s.sem g).lapseAt + s.vn (Obj.holdTime g) * ms ≤ max s.now t →
    ∃ u, exec (.holdTimeExpiry t g) s = .next (s.after t u) ∧ (u.sem g).lapse = 2 ∧ (u.sem g).holder = (s.sem g).holder)

/-- R125, R129, R133, R137, R144: results. `u` is the state as the command leaves it. -/
def Obligations.ResultsEnterTheRegister : Prop :=
  (∀ (t : Nat) (c : Ch) (n : Fin 20) (nv : Int) (s : State), n.val < 18 → s.cvOn c n = true → s.arch.alive.get c = true →
    (s.upTo t).gridAt c n (max s.now t) = true →
    ((s.upTo t).tooEarly c n (max s.now t - s.cvWindow c n) = false →
      ((s.conv c n).cal = .idle ∨ ∃ b, (s.conv c n).cal = .ended b ∧ b ≤ max s.now t - s.cvWindow c n) →
      ∃ u, exec (.converterResult t c n nv) s = .next (s.after t u) ∧
        u.g c (Obj.cvResult c n) = s.takenCode c n (s.filterCode c n nv) ∧
        u.isBitC c (Obj.cvStatus c n) cvValid = true ∧ u.isBitC c (Obj.cvStatus c n) cvNew = true ∧
        u.isBitC c (Obj.cvStatus c n) cvInj = false ∧ u.g c (Obj.cvLastTime c n) = (max s.now t : Nat) ∧
        u.isBitC c (Obj.cvStatus c n) cvOvrn =
          (s.isBitC c (Obj.cvStatus c n) cvNew || s.isBitC c (Obj.cvStatus c n) cvOvrn) ∧
        (u.conv c n).cal = .idle ∧ (u.conv c n).last = max s.now t ∧ (u.conv c n).filt = beyond (s.filterCode c n nv) ∧
        (∀ d o, d ≠ c → u.g d o = s.g d o) ∧
        ((s.conv c n).cal ≠ .idle → u.isBitC c (Obj.cvStatus c n) cvCal = false)) ∧
    ((s.conv c n).cal ≠ .idle → (∀ b, (s.conv c n).cal = .ended b → max s.now t - s.cvWindow c n < b) →
      ∃ u, exec (.converterResult t c n nv) s = .next (s.after t u) ∧ u.regs = s.regs ∧ (u.conv c n).last = max s.now t ∧
        (u.conv c n).cal = (s.conv c n).cal) ∧
    ((s.conv c n).cal = .idle → (s.upTo t).tooEarly c n (max s.now t - s.cvWindow c n) = true →
      ∃ u, exec (.converterResult t c n nv) s = .next (s.after t u) ∧ u.regs = s.regs ∧ (u.conv c n).last = max s.now t)) ∧
  (∀ (t : Nat) (c : Ch) (n : Fin 20) (nv : Int) (s : State),
    18 ≤ n.val ∨ s.cvOn c n = false ∨ s.arch.alive.get c = false ∨ (s.upTo t).gridAt c n (max s.now t) = false →
    exec (.converterResult t c n nv) s = .next (s.after t (s.upTo t))) ∧
  (∀ (t : Nat) (c : Ch) (n : Fin 20) (nv : Int) (ovrg : Bool) (s : State), n.val < 18 → s.cvOn c n = true →
    s.loopDue c n (max s.now t) = true → 0 ≤ s.g c (Obj.cvStatus c n) →
    ∃ u y, exec (.loopSample t c n nv ovrg) s = .next (s.after t u) ∧ (u.conv c n).sample = some y ∧
      y.code = u.g c (Obj.cvResult c n) ∧ y.time = max s.now t ∧ (u.conv c n).samplePrev = (s.conv c n).sample ∧
      (u.conv c n).loopAt = s.loopValley c n ∧
      ((s.conv c n).cal = .idle → (s.upTo t).tooEarly c n (max s.now t - s.cvWindow c n) = false →
        u.g c (Obj.cvResult c n) = s.takenCode c n (s.filterCode c n nv) ∧
        bit (y.status : Int) cvOvrg = (ovrg || beyond (s.filterCode c n nv)) ∧ bit (y.status : Int) cvValid = true) ∧
      ((s.conv c n).cal ≠ .idle → (∀ b, (s.conv c n).cal = .ended b → max s.now t - s.cvWindow c n < b) →
        u.g c (Obj.cvResult c n) = s.g c (Obj.cvResult c n) ∧
        bit (y.status : Int) cvCal = s.isBitC c (Obj.cvStatus c n) cvCal)) ∧
  (∀ (t : Nat) (c : Ch) (n : Fin 20) (nv : Int) (ovrg : Bool) (s : State),
    18 ≤ n.val ∨ s.cvOn c n = false ∨ s.loopDue c n (max s.now t) = false →
    exec (.loopSample t c n nv ovrg) s = .next (s.after t (s.upTo t)))

/-- R137 to R139: over-range, settling and group faults. `u` is the state as the command leaves it. R141, R142: the diagnostic converters. `u` is the state as the command leaves it. -/
def Obligations.OverrangeSettlingAndDiagnostics : Prop :=
  ((∀ (t : Nat) (c : Ch) (n : Fin 20) (pos : Bool) (s : State), s.cvOn c n = true →
    ∃ u, exec (.overrangeOnset t c n pos) s = .next (s.after t u) ∧ (u.conv c n).ovr = true ∧ (u.conv c n).det = true ∧
      (∀ k, k ≠ n.val → u.conv c k = s.conv c k) ∧
      ((s.conv c n).ovr = false → (u.conv c n).ovrPos = pos ∧ u.isBitC c (Obj.cvStatus c n) cvOvrg = true ∧
        u.g c (Obj.grpOverrangeCount c (n.val / 4)) = wrapU32 (s.g c (Obj.grpOverrangeCount c (n.val / 4)) + 1)) ∧
      ((s.conv c n).ovr = true → u.regs = s.regs ∧ (u.conv c n).ovrPos = (s.conv c n).ovrPos)) ∧
  (∀ (t : Nat) (c : Ch) (n : Fin 20) (s : State),
    ((s.conv c n).det = true → (s.conv c n).ovr = true → (s.conv c n).filt = false →
      ∃ u, exec (.overrangeClear t c n) s = .next (s.after t u) ∧ (u.conv c n).ovr = false ∧ (u.conv c n).det = false ∧
        ∀ i, i / 4 = n.val / 4 → u.isBitC c (Obj.cvStatus c i) cvSettling = true ∧
          (u.conv c i).settleEnd = max s.now t + s.cvWindow c i + 2 * us) ∧
    ((s.conv c n).det = true → (s.conv c n).filt = true →
      ∃ u, exec (.overrangeClear t c n) s = .next (s.after t u) ∧ (u.conv c n).ovr = (s.conv c n).ovr ∧
        (u.conv c n).det = false ∧ u.regs = s.regs) ∧
    ((s.conv c n).det = false → exec (.overrangeClear t c n) s = .next (s.after t (s.upTo t)))) ∧
  (∀ (t : Nat) (c : Ch) (n : Fin 20) (s : State),
    ((s.conv c n).settleEnd ≤ max s.now t → s.ovrPresent c (n.val / 4) = false →
      ∃ u, exec (.settlingEnd t c n) s = .next (s.after t u) ∧ u.isBitC c (Obj.cvStatus c n) cvSettling = false ∧
        (∀ d o, o.key ≠ (Obj.cvStatus c n).key → u.g d o = s.g d o) ∧ u.convs = s.convs) ∧
    (max s.now t < (s.conv c n).settleEnd ∨ s.ovrPresent c (n.val / 4) = true →
      exec (.settlingEnd t c n) s = .next (s.after t (s.upTo t)))) ∧
  (∀ (t : Nat) (c : Ch) (m : Fin 5) (b : Nat) (s : State),
    (b + 20 * us < max s.now t →
      ∃ u, exec (.referenceBufferFault t c m (some b)) s = .next (s.after t u) ∧ (u.grp c m).bufOut = true ∧
        (u.grp c m).grpf = true ∧ (∀ i, i / 4 = m.val → u.isBitC c (Obj.cvStatus c i) cvGrpf = true) ∧
        Out.health clsGroup (8 * c.num + m.val) ∈ u.sent) ∧
    (max s.now t ≤ b + 20 * us →
      ∃ u, exec (.referenceBufferFault t c m (some b)) s = .next (s.after t u) ∧ (u.grp c m).bufOut = true ∧
        (u.grp c m).grpf = (s.grp c m).grpf ∧ u.regs = s.regs ∧ u.sent = s.sent) ∧
    ∃ u, exec (.referenceBufferFault t c m none) s = .next (s.after t u) ∧ (u.grp c m).bufOut = false ∧
      (u.grp c m).grpf = (s.grp c m).grpf ∧ u.regs = s.regs ∧ u.sent = s.sent)) ∧
  ((∀ (t : Nat) (c : Ch) (k : Fin 2) (x : Int) (i : Nat) (s : State),
    nextSource (s.g c (Obj.diagScanMask c k)) (s.diag c k).src = some i → s.cvOn c (18 + k.val) = true →
    s.arch.alive.get c = true → (s.diag c k).inj = none → (s.upTo t).scanned c k = true →
    ((s.conv c (18 + k.val)).cal = .idle →
      ∃ u, exec (.diagScanStep t c k x) s = .next (s.after t u) ∧
        u.g c (Obj.cvResult c (18 + k.val)) = s.takenCode c (18 + k.val) (s.filterCode c (18 + k.val) (sourceNv i x)) ∧
        u.g c (Obj.diagSrcCode c k i) = s.takenCode c (18 + k.val) (s.filterCode c (18 + k.val) (sourceNv i x)) ∧
        u.isBitC c (Obj.cvStatus c (18 + k.val)) cvInj = false ∧ u.isBitC c (Obj.cvStatus c (18 + k.val)) cvNew = true ∧
        (u.diag c k).src = (nextSource (s.g c (Obj.diagScanMask c k)) (i + 1)).getD i ∧ (u.diag c k).since = max s.now t) ∧
    ((s.conv c (18 + k.val)).cal ≠ .idle → (∀ b, (s.conv c (18 + k.val)).cal ≠ .ended b) →
      ∃ u, exec (.diagScanStep t c k x) s = .next (s.after t u) ∧ u.regs = s.regs ∧ (u.diag c k).since = max s.now t)) ∧
  (∀ (t : Nat) (c : Ch) (k : Fin 2) (x : Int) (s : State),
    nextSource (s.g c (Obj.diagScanMask c k)) (s.diag c k).src = none ∨ (s.diag c k).inj ≠ none ∨ s.cvOn c (18 + k.val) = false ∨
      (s.upTo t).scanned c k = false →
    exec (.diagScanStep t c k x) s = .next (s.after t (s.upTo t))) ∧
  (∀ (t : Nat) (c : Ch) (k : Fin 2) (x : Int) (i : Nat) (s : State), (s.diag c k).inj = some i → s.cvOn c (18 + k.val) = true →
    (∀ b q, (s.conv c (18 + k.val)).cal ≠ .running b q) → (s.upTo t).scanned c k = true →
    ∃ u, exec (.injectedConversionDone t c k x) s = .next (s.after t u) ∧
      u.g c (Obj.cvResult c (18 + k.val)) = s.takenCode c (18 + k.val) (s.filterCode c (18 + k.val) (sourceNv i x)) ∧
      u.g c (Obj.diagInjCode c k) = s.takenCode c (18 + k.val) (s.filterCode c (18 + k.val) (sourceNv i x)) ∧
      u.isBitC c (Obj.cvStatus c (18 + k.val)) cvInj = true ∧ u.g c (Obj.diagInjState c k) = 2 ∧ (u.diag c k).inj = none ∧
      (u.diag c k).src = (s.diag c k).src) ∧
  (∀ (t : Nat) (c : Ch) (k : Fin 2) (x : Int) (s : State),
    (s.diag c k).inj = none ∨ (∃ b q, (s.conv c (18 + k.val)).cal = .running b q) ∨ s.cvOn c (18 + k.val) = false ∨
      (s.upTo t).scanned c k = false →
    exec (.injectedConversionDone t c k x) s = .next (s.after t (s.upTo t))))

/-- R143 to R147: calibration. `u` is the state as the command leaves it. -/
def Obligations.CalibrationRuns : Prop :=
  (∀ (t : Nat) (c : Ch) (n : Fin 20) (s : State), s.calTurn c n = true →
    (s.cvOn c n = true → (n.val < 18 ∨ (s.diag c (n.val - 18)).inj = none) →
      (s.grpBusy c n = false →
        (∀ b, (s.conv c n).cal = .waiting b → ∃ u, exec (.calibrationStart t c n) s = .next (s.after t u) ∧
          (u.conv c n).cal = .running (max s.now t) false ∧ u.regs = s.regs) ∧
        ((s.conv c n).cal = .startup → ∃ u, exec (.calibrationStart t c n) s = .next (s.after t u) ∧
          (u.conv c n).cal = .running (max s.now t) true ∧ u.regs = s.regs)) ∧
      (s.grpBusy c n = true →
        ((s.conv c n).cal = .waiting none → ∃ u, exec (.calibrationStart t c n) s = .next (s.after t u) ∧
          (u.conv c n).cal = .waiting (some (max s.now t)) ∧ u.regs = s.regs) ∧
        (∀ b, (s.conv c n).cal = .waiting (some b) →
          exec (.calibrationStart t c n) s = .next (s.after t (s.upTo t))))) ∧
    (s.cvOn c n = false ∨ ((n.val < 18 ∨ (s.diag c (n.val - 18)).inj = none) ∧ s.grpBusy c n = true ∧ (s.conv c n).cal = .startup) →
      ∃ u, exec (.calibrationStart t c n) s = .next (s.after t u) ∧ (u.conv c n).cal = .idle ∧
        u.isBitC c (Obj.cvStatus c n) cvCal = false ∧ bit (u.g c (Obj.calPending c)) n = false ∧
        bit (u.g c (Obj.calSkipMap c)) n = true) ∧
    (s.cvOn c n = true → 18 ≤ n.val → (s.diag c (n.val - 18)).inj ≠ none →
      exec (.calibrationStart t c n) s = .next (s.after t (s.upTo t)))) ∧
  (∀ (t : Nat) (c : Ch) (n : Fin 20) (s : State), s.calTurn c n = false →
    exec (.calibrationStart t c n) s = .next (s.after t (s.upTo t))) ∧
  (∀ (t : Nat) (c : Ch) (n : Fin 20) (x y : Int) (ok : Bool) (b : Nat) (q : Bool) (s : State), (s.conv c n).cal = .running b q →
    (b + 40 * us ≤ max s.now t → calPasses x y = true →
      ∃ u, exec (.calibrationDone t c n x y ok) s = .next (s.after t u) ∧ u.g c (Obj.calOffset c n) = x ∧
        u.g c (Obj.calGain c n) = y ∧ bit (u.g c (Obj.calFailMap c)) n = false ∧ bit (u.g c (Obj.calPending c)) n = false ∧
        bit (u.g c (Obj.calSkipMap c)) n = false ∧ u.g c (Obj.calLastTime c) = (max s.now t : Nat) ∧
        (u.grp c (n.val / 4)).bufOut = !ok ∧ (u.conv c n).cal = .ended (max s.now t) ∧
        (ok = true → (s.grp c (n.val / 4)).grpf = true → (withBit ((s.grp c (n.val / 4)).calOk : Int) (n.val % 4) true).toNat = 15 →
          (u.grp c (n.val / 4)).grpf = false)) ∧
    (b + 40 * us ≤ max s.now t → calPasses x y = false →
      ∃ u, exec (.calibrationDone t c n x y ok) s = .next (s.after t u) ∧
        u.g c (Obj.calOffset c n) = s.g c (Obj.calOffset c n) ∧ u.g c (Obj.calGain c n) = s.g c (Obj.calGain c n) ∧
        bit (u.g c (Obj.calFailMap c)) n = true ∧ bit (u.g c (Obj.calPending c)) n = false ∧
        (u.grp c (n.val / 4)).grpf = true ∧ (u.conv c n).cal = .ended (max s.now t)) ∧
    (max s.now t < b + 40 * us → exec (.calibrationDone t c n x y ok) s = .next (s.after t (s.upTo t)))) ∧
  (∀ (t : Nat) (c : Ch) (n : Fin 20) (s : State),
    (∀ b, (s.conv c n).cal = .waiting (some b) → b + 100 * ms < max s.now t → s.grpBusy c n = true →
      ∃ u, exec (.calWaitTimeout t c n) s = .next (s.after t u) ∧ (u.conv c n).cal = .idle ∧
        u.isBitC c (Obj.cvStatus c n) cvCal = false ∧ bit (u.g c (Obj.calPending c)) n = false ∧
        bit (u.g c (Obj.calSkipMap c)) n = true) ∧
    (∀ b, (s.conv c n).cal = .waiting (some b) → max s.now t ≤ b + 100 * ms ∨ s.grpBusy c n = false →
      exec (.calWaitTimeout t c n) s = .next (s.after t (s.upTo t))))

/-- R155 to R162, R175: the inputs of a feedback port. `u` is the state as the command leaves it. -/
def Obligations.EdgesMoveTheCounters : Prop :=
  (∀ (t : Nat) (c : Ch) (n : Fin 8) (a b z : PinSample) (qa qb qz : Pin) (m : Int) (s : State), s.counts c = true →
    m = s.g c (Obj.fpMode c n) →
    qa = (s.fport c n).pinA.sample a (bit (s.g c (Obj.fpInvert c n)) 0) (s.gn c (Obj.fpFilter c n)) (max s.now t) →
    qb = (s.fport c n).pinB.sample b (bit (s.g c (Obj.fpInvert c n)) 1) (s.gn c (Obj.fpFilter c n)) (max s.now t) →
    qz = (s.fport c n).pinZ.sample z (bit (s.g c (Obj.fpInvert c n)) 2) (s.gn c (Obj.fpFilter c n)) (max s.now t) →
    ∀ (a₀ b₀ z₀ : Bool), a₀ = (s.fport c n).pinA.before qa (s.fport c n).from_ →
    b₀ = (s.fport c n).pinB.before qb (s.fport c n).from_ → z₀ = (s.fport c n).pinZ.before qz (s.fport c n).from_ →
    ∃ u, exec (.fpEdgeAccepted t c n a b z) s = .next (s.after t u) ∧
      (u.fport c n).pinA = qa ∧ (u.fport c n).pinB = qb ∧ (u.fport c n).pinZ = qz ∧
      (m < 1 ∨ 3 < m → u.regs = s.regs) ∧
      (1 ≤ m → m ≤ 3 → isIndex (s.g c (Obj.fpIndexMode c n)) a₀ b₀ z₀ qa.level qb.level qz.level = false →
        (edgeCount m a₀ b₀ qa.level qb.level = some 0 → u.regs = s.regs) ∧
        (∀ d, edgeCount m a₀ b₀ qa.level qb.level = some d → d ≠ 0 →
          u.g c (Obj.fpRaw c n) = signed32 (s.g c (Obj.fpRaw c n) + d) ∧
          u.g c (Obj.fpPos c n) = posAfter (signed32 (s.g c (Obj.fpRaw c n) + d)) (s.g c (Obj.fpPos c n)) ∧
          ∀ e o, e ≠ c → u.g e o = s.g e o) ∧
        (edgeCount m a₀ b₀ qa.level qb.level = none →
          u.g c (Obj.fpRaw c n) = s.g c (Obj.fpRaw c n) ∧ u.g c (Obj.fpPos c n) = s.g c (Obj.fpPos c n) ∧
          u.isBitC c (Obj.fpStatus c n) fbFormat = true ∧
          u.g c (Obj.fpQuadErrCount c n) = wrapU32 (s.g c (Obj.fpQuadErrCount c n) + 1))) ∧
      (1 ≤ m → m ≤ 3 → edgeCount m a₀ b₀ qa.level qb.level = some 0 →
        isIndex (s.g c (Obj.fpIndexMode c n)) a₀ b₀ z₀ qa.level qb.level qz.level = true →
        (s.axisOfSrc (.port, c, n) = none ∨
            (∃ x, s.axisOfSrc (.port, c, n) = some x ∧ s.isBit (Obj.axFbStatus x) afArmed = false) →
          u.g c (Obj.indexRaw c n) = s.g c (Obj.fpRaw c n) ∧ u.g c (Obj.indexTime c n) = (max s.now t : Nat) ∧
          u.g c (Obj.fpRaw c n) = s.g c (Obj.fpRaw c n) ∧ u.isBitC c (Obj.fpStatus c n) fbIndexSeen = true ∧
          (s.isBitC c (Obj.fpStatus c n) fbIndexSeen = false → (u.fport c n).ref = (s.fport c n).raw64) ∧
          (s.isBitC c (Obj.fpStatus c n) fbIndexSeen = true → ∀ off,
            off = indexOff (s.fport c n).raw64 (s.fport c n).ref (s.g c (Obj.fpCountsPerRev c n)) →
            ((off.natAbs : Int) ≤ s.g c (Obj.fpIndexTol c n) →
              u.g c (Obj.fpIndexMismatchCount c n) = s.g c (Obj.fpIndexMismatchCount c n)) ∧
            (s.g c (Obj.fpIndexTol c n) < off.natAbs →
              u.isBitC c (Obj.fpStatus c n) fbMismatch = true ∧ u.g c (Obj.indexOffset c n) = off ∧
              u.g c (Obj.fpIndexMismatchCount c n) = wrapU32 (s.g c (Obj.fpIndexMismatchCount c n) + 1) ∧
              ((s.fport c n).lastOff = some off → u.isBitC c (Obj.fpStatus c n) fbSuspect = true)))) ∧
        (∀ x, s.axisOfSrc (.port, c, n) = some x → s.isBit (Obj.axFbStatus x) afArmed = true →
          u.g c (Obj.fpPos c n) = s.v (Obj.axHomeValue x) ∧ u.g c (Obj.fpRaw c n) = s.v (Obj.axHomeValue x) ∧
          u.isBit (Obj.axFbStatus x) afHomed = true ∧ u.isBit (Obj.axFbStatus x) afArmed = false ∧
          u.g c (Obj.indexTime c n) = (max s.now t : Nat)))) ∧
  (∀ (t : Nat) (c : Ch) (n : Fin 8) (a b z : PinSample) (s : State), s.counts c = false →
    exec (.fpEdgeAccepted t c n a b z) s = .next (s.after t (s.upTo t))) ∧
  (∀ (p : Pin) (x : PinSample) (inv : Bool) (filter t : Nat),
    (filter < x.samples → (p.sample x inv filter t).level = (x.level != inv) ∧ (p.sample x inv filter t).known = true) ∧
    (x.samples ≤ filter → (p.sample x inv filter t).level = p.level ∧ (p.sample x inv filter t).known = p.known)) ∧
  (∀ (t b e : Nat) (c : Ch) (n : Fin 8) (s : State), (s.fport c n).pulse = some (b, e) →
    (e ≤ max s.now t → ∃ u, exec (.comparePulseEnd t c n) s = .next (s.after t u) ∧ (u.fport c n).pulse = none ∧
      u.regs = s.regs) ∧
    (max s.now t < e → exec (.comparePulseEnd t c n) s = .next (s.after t (s.upTo t))))

/-- R159: RAW follows every count exactly, and POS with one count of hysteresis. -/
def Obligations.PositionFollowsRaw : Prop :=
  (∀ (s : State) (x : Src) (raw : Int),
    (s.moveRaw x raw).g x.2.1 x.raw = raw ∧
    (0 < signed32 (raw - s.g x.2.1 x.pos) → (s.moveRaw x raw).g x.2.1 x.pos = raw) ∧
    (signed32 (raw - s.g x.2.1 x.pos) < -1 → (s.moveRaw x raw).g x.2.1 x.pos = signed32 (raw + 1)) ∧
    (signed32 (raw - s.g x.2.1 x.pos) = 0 ∨ signed32 (raw - s.g x.2.1 x.pos) = -1 →
      (s.moveRaw x raw).g x.2.1 x.pos = s.g x.2.1 x.pos) ∧
    (0 < signed32 (raw - s.g x.2.1 x.pos) → signed32 ((s.moveRaw x raw).g x.2.1 x.pos - raw) = 0) ∧
    (signed32 (raw - s.g x.2.1 x.pos) < 0 → signed32 ((s.moveRaw x raw).g x.2.1 x.pos - raw) = 1) ∧
    (signed32 ((s.moveRaw x raw).g x.2.1 x.pos - raw) = 0 ∨ signed32 ((s.moveRaw x raw).g x.2.1 x.pos - raw) = 1)) ∧
  (∀ (s : State) (c : Ch) (n : Nat) (d : Int), n < 16 →
    (s.count1 c n d).g c (Obj.fpRaw c n) = signed32 (s.g c (Obj.fpRaw c n) + d) ∧
    ∀ i, i ≠ fbDir → (s.count1 c n d).isBitC c (Obj.fpStatus c n) i = s.isBitC c (Obj.fpStatus c n) i) ∧
  signed32 (0x7FFFFFFF + 1) = -0x80000000 ∧ signed32 (-0x80000000 - 1) = 0x7FFFFFFF

/-- R168 to R171: sensor ports. `u` is the state as the command leaves it. R173: the resolver trackers; the angle after an unflagged pair is free (log entry 7). `u` is the state as the command leaves it. -/
def Obligations.SensorPortsAndResolversAct : Prop :=
  ((∀ (t : Nat) (c : Ch) (n : Fin 6) (f : SentFrame) (r : Nat) (s : State), s.counts c = true →
    (s.g c (Obj.spMode c n) = 1 ∧ r = 4096 ∨ s.g c (Obj.spMode c n) = 2 ∧ r = 65536) →
    (s.sentOk c n f = true →
      ∃ u, exec (.sentFrame t c n f) s = .next (s.after t u) ∧ u.g c (Obj.spValue c n) = (sentValue f % 65536 : Nat) ∧
        u.g c (Obj.spLastTime c n) = (max s.now t - s.gn c (Obj.spAge c n) * us : Nat) ∧
        u.g c (Obj.spStatusNibble c n) = ((sentNibbles f).headD 0 : Nat) ∧
        u.isBitC c (Obj.spStatus c n) fbActive = true ∧ (u.sport c n).errs = 0 ∧ (u.sport c n).goods = (s.sport c n).goods + 1 ∧
        (s.isBitC c (Obj.spStatus c n) fbLost = true → (s.sport c n).goods < 2 →
          u.isBitC c (Obj.spStatus c n) fbLost = true ∧ u.g c (Obj.spRaw c n) = s.g c (Obj.spRaw c n) ∧
          u.g c (Obj.spPos c n) = s.g c (Obj.spPos c n)) ∧
        (s.isBitC c (Obj.spStatus c n) fbLost = false ∨ 2 ≤ (s.sport c n).goods →
          u.isBitC c (Obj.spStatus c n) fbLost = false ∧ (u.sport c n).prev = some (sentValue f) ∧
          ((s.sport c n).prev = none → u.g c (Obj.spRaw c n) = (sentValue f : Nat) ∧ u.g c (Obj.spPos c n) = (sentValue f : Nat)) ∧
          (∀ p, (s.sport c n).prev = some p → u.g c (Obj.spRaw c n) =
            signed32 (s.g c (Obj.spRaw c n) + readStep r (sentValue f : Nat) p)))) ∧
    (s.sentOk c n f = false →
      ∃ u, exec (.sentFrame t c n f) s = .next (s.after t u) ∧ u.isBitC c (Obj.spStatus c n) fbFormat = true ∧
        u.g c (Obj.spErrCount c n) = wrapU32 (s.g c (Obj.spErrCount c n) + 1) ∧ (u.sport c n).errs = (s.sport c n).errs + 1 ∧
        (u.sport c n).goods = 0 ∧
        u.g c (Obj.spRaw c n) = s.g c (Obj.spRaw c n) ∧ u.g c (Obj.spPos c n) = s.g c (Obj.spPos c n) ∧
        (2 ≤ (s.sport c n).errs → u.isBitC c (Obj.spStatus c n) fbLost = true))) ∧
  (∀ (t : Nat) (c : Ch) (n : Fin 6) (f : SentFrame) (s : State), s.counts c = false ∨
    (s.g c (Obj.spMode c n) ≠ 1 ∧ s.g c (Obj.spMode c n) ≠ 2) →
    exec (.sentFrame t c n f) s = .next (s.after t (s.upTo t))) ∧
  (∀ (t : Nat) (c : Ch) (n : Fin 6) (s : State), s.counts c = true → s.g c (Obj.spMode c n) = 3 →
    s.gn c (Obj.psi5SyncPeriod c n) ≠ 0 →
    (max s.now t % (s.gn c (Obj.psi5SyncPeriod c n) * us) = 0 →
      ∃ u, exec (.psi5SyncRequest t c n) s = .next (s.after t u) ∧ (u.sport c n).syncAt = some (max s.now t) ∧
        (u.sport c n).waits = true ∧ u.regs = s.regs) ∧
    (max s.now t % (s.gn c (Obj.psi5SyncPeriod c n) * us) ≠ 0 →
      exec (.psi5SyncRequest t c n) s = .next (s.after t (s.upTo t)))) ∧
  (∀ (t : Nat) (c : Ch) (n : Fin 6) (b : Nat) (rate : Fin 2) (bits : List Bool) (sy m : Nat) (s : State), s.counts c = true →
    s.g c (Obj.spMode c n) = 3 → (s.sport c n).syncAt = some sy → m = s.gn c (Obj.psi5Bits c n) →
    ((s.sport c n).waits = true → sy + s.gn c (Obj.psi5SlotStart c n) * us ≤ b →
      b ≤ sy + s.gn c (Obj.psi5SlotStart c n) * us + 20 * us →
      (s.gn c (Obj.psi5Rate c n) = rate.val → bits.drop m = psi5Check (s.g c (Obj.psi5Check c n) == 1) (bits.take m) →
        ∃ u, exec (.psi5Frame t c n b rate bits) s = .next (s.after t u) ∧ (u.sport c n).waits = false ∧ (u.sport c n).errs = 0 ∧
          u.isBitC c (Obj.spStatus c n) fbActive = true ∧ u.g c (Obj.spValue c n) = (bitsValue (bits.take m) % 65536 : Nat) ∧
          u.g c (Obj.spLastTime c n) = (sy - s.gn c (Obj.spAge c n) * us : Nat) ∧
          (s.isBitC c (Obj.spStatus c n) fbLost = false → (s.sport c n).prev = none →
            u.g c (Obj.spRaw c n) = (bitsValue (bits.take m) : Nat)) ∧
          (∀ p, s.isBitC c (Obj.spStatus c n) fbLost = false → (s.sport c n).prev = some p →
            u.g c (Obj.spRaw c n) = signed32 (s.g c (Obj.spRaw c n) + readStep (2 ^ m : Nat) (bitsValue (bits.take m) : Nat) p))) ∧
      (s.gn c (Obj.psi5Rate c n) ≠ rate.val ∨ bits.drop m ≠ psi5Check (s.g c (Obj.psi5Check c n) == 1) (bits.take m) →
        ∃ u, exec (.psi5Frame t c n b rate bits) s = .next (s.after t u) ∧ (u.sport c n).waits = false ∧
          u.isBitC c (Obj.spStatus c n) fbFormat = true ∧ (u.sport c n).errs = (s.sport c n).errs + 1)) ∧
    ((s.sport c n).waits = false ∨ b < sy + s.gn c (Obj.psi5SlotStart c n) * us ∨
        sy + s.gn c (Obj.psi5SlotStart c n) * us + 20 * us < b →
      exec (.psi5Frame t c n b rate bits) s = .next (s.after t (s.upTo t)))) ∧
  (∀ (t : Nat) (c : Ch) (n : Fin 6) (s : State), s.counts c = true → s.g c (Obj.spMode c n) ≠ 0 →
    ((s.sport c n).lastGood + s.gn c (Obj.spTimeout c n) * us ≤ max s.now t →
      ∃ u, exec (.sourceLost t c n) s = .next (s.after t u) ∧ u.isBitC c (Obj.spStatus c n) fbLost = true ∧
        (u.sport c n).goods = 0 ∧ u.g c (Obj.spPos c n) = s.g c (Obj.spPos c n)) ∧
    (max s.now t < (s.sport c n).lastGood + s.gn c (Obj.spTimeout c n) * us →
      exec (.sourceLost t c n) s = .next (s.after t (s.upTo t))))) ∧
  ((∀ (t v : Nat) (c : Ch) (k : Fin 3) (sin cos : Int) (ovS ovC : Bool) (p q : State × LoopSample) (bad : Bool) (s : State),
    s.counts c = true → s.g c (Obj.resEnable c k) = 1 → (s.upTo t).resDue c k = some v →
    p = (s.upTo t).resConvert c (12 + 2 * k) sin ovS → q = p.1.resConvert c (13 + 2 * k) cos ovC →
    bad = (sampleFlagged p.2 || sampleFlagged q.2) →
    ∃ u, exec (.resolverSample t c k sin cos ovS ovC) s = .next (s.after t u) ∧
      u.g c (Obj.resAngle c k) = ((u.tracker c k).angle : Nat) ∧ (u.tracker c k).angle < 65536 ∧ (u.tracker c k).readAt = v ∧
      (bad = true →
        (u.tracker c k).angle = ((((s.tracker c k).angle : Int) + (s.tracker c k).speed) % 65536).toNat ∧
        (u.tracker c k).flagged = (s.tracker c k).flagged + 1 ∧ u.isBitC c (Obj.resStatus c k) fbFormat = true ∧
        (2 ≤ (s.tracker c k).flagged → u.isBitC c (Obj.resStatus c k) fbLost = true)) ∧
      (bad = false → (u.tracker c k).flagged = 0 ∧ ((s.tracker c k).prev = none →
        u.g c (Obj.resRaw c k) = ((u.tracker c k).angle : Nat) ∧ u.g c (Obj.resPos c k) = ((u.tracker c k).angle : Nat))) ∧
      (bad = true → (s.tracker c k).prev = none → (u.tracker c k).prev = none ∧
        u.g c (Obj.resRaw c k) = s.g c (Obj.resRaw c k) ∧ u.g c (Obj.resPos c k) = s.g c (Obj.resPos c k)) ∧
      (bad = false ∨ (s.tracker c k).prev ≠ none → (u.tracker c k).prev = some (u.tracker c k).angle ∧
        u.isBitC c (Obj.resStatus c k) fbActive = true) ∧
      (∀ w, (s.tracker c k).prev = some w → u.g c (Obj.resRaw c k) =
        signed32 (s.g c (Obj.resRaw c k) + readStep 65536 ((u.tracker c k).angle : Nat) w))) ∧
  (∀ (t : Nat) (c : Ch) (k : Fin 3) (sin cos : Int) (ovS ovC : Bool) (s : State),
    (s.upTo t).resDue c k = none ∨ s.counts c = false ∨ s.g c (Obj.resEnable c k) ≠ 1 →
    exec (.resolverSample t c k sin cos ovS ovC) s = .next (s.after t (s.upTo t))))

/-- R177, R179: the latches of an axis. `u` is the state as the command leaves it. -/
def Obligations.LatchesKeepTheHistory : Prop :=
  ∀ (t : Nat) (n : Fin 32) (x : Src) (w s : State), s.sourceOf n = some x → s.srcActive x = true → s.counts x.2.1 = true →
    w = (s.upTo t).settleSteps →
    ((s.upTo t).latchDue n = true → s.marks.getD (markLatch n) 0 ≠ max s.now t + 1 →
      ∃ u, exec (.axisLatch t n) s = .next (s.after t u) ∧
        (w.g x.2.1 x.pos ≠ s.g x.2.1 (Obj.latchPos n) ∨ (s.axis n).latchCleared = true →
          u.g x.2.1 (Obj.latchPos n) = w.g x.2.1 x.pos ∧ u.g x.2.1 (Obj.latchPrevPos n) = s.g x.2.1 (Obj.latchPos n) ∧
          u.g x.2.1 (Obj.latchPrevTime n) = s.g x.2.1 (Obj.latchTime n) ∧
          u.g x.2.1 (Obj.latchTime n) = ((s.upTo t).posTime x : Nat) ∧
          u.g x.2.1 (Obj.latchCount n) = wrapU32 (s.g x.2.1 (Obj.latchCount n) + 1) ∧
          u.isBit (Obj.axFbStatus n) afStale = false ∧ (u.axis n).latchCleared = false ∧
          (∀ d ∈ x.2.1.peers, s.arch.alive.get d = false ∨ s.strapPath d x.2.1 = false →
            u.g d (Obj.latchPos n) = w.g x.2.1 x.pos ∧ u.g d (Obj.latchCount n) = u.g x.2.1 (Obj.latchCount n)) ∧
          (∀ d ∈ x.2.1.peers, s.arch.alive.get d = true → s.strapPath d x.2.1 = true →
            ∃ m ∈ u.arch.queue, m.src = x.2.1 ∧ m.dst = d ∧ m.body = .latch n (u.g x.2.1 (Obj.latchPos n))
              (u.g x.2.1 (Obj.latchTime n)) (u.g x.2.1 (Obj.latchPrevPos n)) (u.g x.2.1 (Obj.latchPrevTime n))
              (u.g x.2.1 (Obj.latchCount n)))) ∧
        (w.g x.2.1 x.pos = s.g x.2.1 (Obj.latchPos n) → (s.axis n).latchCleared = false → u.regs = w.regs)) ∧
    ((s.upTo t).latchDue n = false → exec (.axisLatch t n) s = .next (s.after t (s.upTo t)))

/-- R19, R292, R305: the release of an iteration. `u` is the state as the command leaves it. -/
def Obligations.IterationsAreReleasedOncePerPeriod : Prop :=
  ∀ (t : Nat) (k : Fin 512) (w s : State), w = (((s.upTo t).applyDue.mirrorFor k).settleStraps) →
    (∀ v, w.periodStart k (max s.now t) = some v → w.iterates k = true → (∀ c, w.runsIn k c = true → w.holdsInputs k v c = true) →
      (w.task k).lastStart ≠ some v → max s.now t < w.checkpointOf k v →
      ∃ u, exec (.iterationRelease t k) s = .next (s.after t u) ∧ (u.task k).lastStart = some v ∧
        (u.task k).relAt = max s.now t ∧ (∀ c, (u.task k).fin.get c = none) ∧ (w.isDq k = false → u.regs = w.regs) ∧
        (∀ c, ((u.task k).rel.get c).map (·.start) =
          (if w.runsIn k c = true ∧ (w.stream k).reseed.get c = false then some v else none)) ∧
        ∀ c, w.runsIn k c = true → bit ((u.power.nap.get c : Nat) : Int) ((w.task k).engines.get c) = false) ∧
    (w.periodStart k (max s.now t) = none ∨ w.iterates k = false ∨
        (∃ v, w.periodStart k (max s.now t) = some v ∧ ((w.task k).lastStart = some v ∨ w.checkpointOf k v ≤ max s.now t ∨
          ∃ c, w.runsIn k c = true ∧ w.holdsInputs k v c = false)) →
      exec (.iterationRelease t k) s = .next (s.after t w))

/-- R191, R209, R295 to R298: an iteration of a task that is no dq pair. `u` is the state as the command leaves it. -/
def Obligations.IterationsRun : Prop :=
  (∀ (t : Nat) (c : Ch) (k : Fin 512) (x : Inputs) (s : State), s.isDq k = false → (s.task k).rel.get c = some x →
    s.iterates k = true ∨ s.finishing k = true → s.runsIn k c = true → (s.upTo t).mayEnd c k = true →
    (∃ u d, exec (.taskIteration t c k []) s = .next (s.after t u) ∧ (u.task k).rel.get c = none ∧
      (u.task k).fin.get c = some d ∧ d.start = x.start ∧ d.fault = false ∧
      u.g c (Obj.iterations k) = wrapU32 (s.g c (Obj.iterations k) + 1) ∧
      (x.valid = true → s.v (Obj.outMin k (s.taskSt c k).bank) ≤ s.v (Obj.outMax k (s.taskSt c k).bank) →
        (∀ o ∈ d.outs, s.v (Obj.outMin k (s.taskSt c k).bank) ≤ o ∧ o ≤ s.v (Obj.outMax k (s.taskSt c k).bank)) ∧
        (u.taskSt c k).hold = false ∧ (u.taskSt c k).heldRun = 0 ∧ (u.taskSt c k).first = false) ∧
      (x.valid = false → d.outs = [(s.taskSt c k).uLast] ∧ (u.taskSt c k).hold = true ∧
        (u.taskSt c k).heldRun = (s.taskSt c k).heldRun + 1 ∧ (u.taskSt c k).first = (s.taskSt c k).first ∧
        u.g c (Obj.holdCount k) = wrapU32 (s.g c (Obj.holdCount k) + 1))) ∧
    (∀ errs, eddyFault (s.iterOf c k x).2.points.reverse errs = true →
      ∃ u, exec (.taskIteration t c k errs) s = .next (s.after t u) ∧ (u.task k).rel.get c = none ∧
        (∀ d, (u.task k).fin.get c = some d → d.fault = true) ∧
        bit (u.red.engineFault.get c : Int) ((s.task k).engines.get c) = true)) ∧
  (∀ (t : Nat) (c : Ch) (k : Fin 512) (errs : List Int) (s : State),
    s.isDq k = true ∨ (s.task k).rel.get c = none ∨ (s.iterates k = false ∧ s.finishing k = false) ∨ s.runsIn k c = false ∨
      (s.upTo t).mayEnd c k = false →
    exec (.taskIteration t c k errs) s = .next (s.after t (s.upTo t))) ∧
  (∀ (l : List Point) (i : Nat) (errs : List Int), i < l.length → errs.getD i 0 % 4093 ≠ 0 → eddyFault l errs = true)

/-- R207: the rate limiter (task type 6): COEF0 is RISE and COEF1 is FALL. -/
def Obligations.RateLimiterFollowsItsInput : Prop :=
  (∀ (f : LoopCfg) (st : TaskSt) (x : Int) (b : Pass), st.first = false → 0 ≤ (f.k 0).c → 0 ≤ (f.k 1).c →
    signed32 x = x → signed32 st.x = st.x →
    (rateLimiter f st x b).1.outs =
      [clamp f.lo f.hi (if st.x ≤ x then min x (st.x + (f.k 0).c) else max x (st.x - (f.k 1).c))] ∧
    (rateLimiter f st x b).1.st.x =
      clamp f.lo f.hi (if st.x ≤ x then min x (st.x + (f.k 0).c) else max x (st.x - (f.k 1).c)) ∧
    ((f.k 0).c = 0 → st.x ≤ x → (rateLimiter f st x b).1.outs = [clamp f.lo f.hi st.x]) ∧
    ((f.k 1).c = 0 → x ≤ st.x → (rateLimiter f st x b).1.outs = [clamp f.lo f.hi st.x])) ∧
  (∀ (cr : Carrier) (k : Fin 512) (bank i : Fin 2) (v : Int) (e : Entry) (s : State), s.taskTy k = 6 →
    findObj (Obj.coef k bank i).index (Obj.coef k bank i).sub = some e → -2147483648 ≤ v → v < 0 →
    firstAbort (s.accessFails cr e 1) = none → s.writeFails (s.rawSet e (.num v)) cr e (.num v) 1 = some (0x0607, 0))

/-- R209, R241, R243: an iteration of a dq pair. `u` is the state as the command leaves it. -/
def Obligations.CurrentLoopsRun : Prop :=
  (∀ (t b : Nat) (c d : Ch) (k : Fin 512) (x : Inputs) (s : State), s.isDq k = true → s.dqSlot k = some (d, b) →
    (s.task k).rel.get c = some x → s.iterates k = true ∨ s.finishing k = true → s.runsIn k c = true →
    (s.upTo t).mayEnd c k = true →
    (∃ u f p q r, exec (.dqIteration t c k []) s = .next (s.after t u) ∧ (u.task k).rel.get c = none ∧
      (u.task k).fin.get c = some f ∧ f.start = x.start ∧ f.fault = false ∧ f.outs = [p, q, r] ∧
      u.g c (Obj.iterations k) = wrapU32 (s.g c (Obj.iterations k) + 1) ∧
      (s.inputsValid k x = true → 16384 ≤ s.g d (Obj.dutyMax d b) →
        (∀ o ∈ f.outs, 32768 - s.g d (Obj.dutyMax d b) ≤ o ∧ o ≤ s.g d (Obj.dutyMax d b)) ∧ (u.taskSt c k).hold = false) ∧
      (s.inputsValid k x = false → f.outs = [(s.taskSt c k).duty.a, (s.taskSt c k).duty.b, (s.taskSt c k).duty.c] ∧
        (u.taskSt c k).hold = true ∧ u.g c (Obj.holdCount k) = wrapU32 (s.g c (Obj.holdCount k) + 1)) ∧
      (s.ungated c k = true → c = d → s.red.state ≠ .startup → s.red.state ≠ .passive →
        (u.slot d b).staged = some ⟨p, q, r⟩)) ∧
    (∀ errs, eddyFault (s.iterOf c k x).2.points.reverse errs = true →
      ∃ u, exec (.dqIteration t c k errs) s = .next (s.after t u) ∧ (u.task k).rel.get c = none ∧
        (∀ f, (u.task k).fin.get c = some f → f.fault = true) ∧
        bit (u.red.engineFault.get c : Int) ((s.task k).engines.get c) = true)) ∧
  (∀ (t : Nat) (c : Ch) (k : Fin 512) (errs : List Int) (s : State),
    s.isDq k = false ∨ (s.task k).rel.get c = none ∨ (s.iterates k = false ∧ s.finishing k = false) ∨ s.runsIn k c = false ∨
      (s.upTo t).mayEnd c k = false →
    exec (.dqIteration t c k errs) s = .next (s.after t (s.upTo t)))

/-- R209, R210, R214: supervision and bank swaps. `u` is the state as the command leaves it. R222, R226, R227: cross-triggers and aborts of traces. `u` is the state as the command leaves it. -/
def Obligations.SupervisionBankSwapsAndTraces : Prop :=
  ((∀ (t : Nat) (c : Ch) (k : Fin 512) (s : State),
    (s.lostAfter k (s.taskSt c k) = true →
      ∃ u, exec (.inputLost t c k) s = .next (s.after t u) ∧ (u.taskSt c k).lost = true ∧
        (∀ n, s.taskAxis k = some n → u.isBit (Obj.axFaultCause n) 1 = true ∧
          u.vn (Obj.axReaction n) = max (s.vn (Obj.axReaction n)) (s.vn (Obj.invalidReaction k))) ∧
        (s.taskAxis k = none → u.regs = s.regs)) ∧
    (s.lostAfter k (s.taskSt c k) = false → exec (.inputLost t c k) s = .next (s.after t (s.upTo t))) ∧
    ((s.lostAfter k (s.taskSt c k) = true ↔ (s.taskSt c k).hold = true ∧ s.vn (Obj.invalidMax k) ≤ (s.taskSt c k).heldRun)) ∧
    (s.feAfter k (s.taskSt c k) = true →
      ∃ u, exec (.feFault t c k) s = .next (s.after t u) ∧ (u.taskSt c k).feFault = true ∧
        (∀ n, s.taskAxis k = some n → u.isBit (Obj.axFaultCause n) 0 = true ∧
          u.vn (Obj.axReaction n) = max (s.vn (Obj.axReaction n)) (s.vn (Obj.feReaction k))) ∧
        (s.taskAxis k = none → u.regs = s.regs)) ∧
    (s.feAfter k (s.taskSt c k) = false → exec (.feFault t c k) s = .next (s.after t (s.upTo t))) ∧
    ((s.feAfter k (s.taskSt c k) = true ↔ s.v (Obj.feLimit k) ≠ 0 ∧
      ∃ b, (s.taskSt c k).feStart = some b ∧ b + s.vn (Obj.feTime k) * 30000 ≤ (s.taskSt c k).start))) ∧
  (∀ (t b a : Nat) (k : Fin 512) (s : State), (s.upTo t).noneDue = true →
    ((s.task k).swap = some (b, a) → a ≤ max s.now t → s.atBoundary k (max s.now t) = true →
      ∃ u, exec (.bankSwap t k) s = .next (s.after t u) ∧ (u.task k).swap = none ∧ (∀ c, (u.taskSt c k).bank = b) ∧
        ∀ c, s.siteIn k c = true → u.g c (Obj.swapCount k) = wrapU32 (s.g c (Obj.swapCount k) + 1)) ∧
    ((s.task k).swap = none ∨ s.atBoundary k (max s.now t) = false →
      ∃ u, exec (.bankSwap t k) s = .next (s.after t u) ∧ u.tasks = s.tasks ∧ u.regs = s.regs)) ∧
  (∀ (t : Nat) (k : Fin 512) (r : KdpReq) (due : Nat) (e : Entry) (v : Int) (s : State),
    s.kdp.writes = [{ req := r, due := due, members := [(e.key, .num v)] }] → entryOf e.key = some e → e.plain = true →
    due ≤ max s.now t → (s.task k).swap = none →
    ∃ u, exec (.bankSwap t k) s = .next (s.after t u) ∧ u.kdp.writes = [] ∧
      (e.desc.home ≠ .chan → u.v e.obj = v) ∧ (e.desc.home = .chan → u.g (chOf e.i) e.obj = v))) ∧
  ((∀ (t : Nat) (k j : Fin 512) (s : State), (s.trace k).state = 1 → s.v (Obj.traceTrigSrc k) = 6 →
    s.vn (Obj.traceTrigNode k) = j.val →
    ((s.trace j).state = 2 ∨ (s.trace j).state = 3 →
      ∃ u, exec (.traceCrossTrigger t k j) s = .next (s.after t u) ∧
        (u.trace k).cross = some (s.vn (Obj.traceTrigTime j)) ∧ (u.trace k).state = 1 ∧ u.regs = s.regs ∧
        (∀ i, i ≠ k.val → u.trace i = s.trace i) ∧
        (∀ c, (s.trace j).chan = some c → (s.trace k).chan = some c → u.sent = s.sent) ∧
        (∀ c, (s.trace j).chan = some c → (s.trace k).chan ≠ some c → ∃ b, u.sent = .strap c .placement b :: s.sent)) ∧
    ((s.trace j).state ≠ 2 → (s.trace j).state ≠ 3 →
      exec (.traceCrossTrigger t k j) s = .next (s.after t (s.upTo t)))) ∧
  (∀ (t : Nat) (k : Fin 512) (c : Ch) (s : State), (s.trace k).chan = some c →
    ((s.trace k).state = 1 ∨ (s.trace k).state = 2 → s.siteIn k c = false →
      ∃ u, exec (.traceAbort t k 2) s = .next (s.after t u) ∧ (u.trace k).state = 4 ∧ (u.trace k).cause = 2 ∧
        (u.trace k).recs = (s.trace k).recs ∧ u.regs = s.regs) ∧
    ((s.trace k).state = 1 ∨ (s.trace k).state = 2 → s.power.state ≠ .run ∨ s.arch.alive.get c = false →
      ∃ u, exec (.traceAbort t k 5) s = .next (s.after t u) ∧ (u.trace k).state = 4 ∧ (u.trace k).cause = 5 ∧
        (u.trace k).recs = (s.trace k).recs ∧ u.regs = s.regs) ∧
    (∀ m, (s.trace k).state = 1 ∨ (s.trace k).state = 2 → (s.task k).move = some m → s.fifthTrace k c (m.engines.get c) = true →
      ∃ u, exec (.traceAbort t k 3) s = .next (s.after t u) ∧ (u.trace k).state = 4 ∧ (u.trace k).cause = 3 ∧
        (u.trace k).recs = (s.trace k).recs ∧ u.regs = s.regs) ∧
    (s.siteIn k c = true → exec (.traceAbort t k 2) s = .next (s.after t (s.upTo t))) ∧
    (s.power.state = .run → s.arch.alive.get c = true → exec (.traceAbort t k 5) s = .next (s.after t (s.upTo t)))) ∧
  (∀ (t cause : Nat) (k : Fin 512) (s : State), (s.trace k).chan = none ∨ (cause ≠ 2 ∧ cause ≠ 3 ∧ cause ≠ 5) →
    exec (.traceAbort t k cause) s = .next (s.after t (s.upTo t))))

/-- R232 to R236: the PWM counters. `u` is the state as the command leaves it. -/
def Obligations.CountersRunOnTheirGrid : Prop :=
  (∀ (t : Nat) (c : Ch) (k : Fin 4) (s : State),
    (s.g c (Obj.bsMode c k) = 1 → (s.slot c k).running = false → (s.slot c k).regrid (max s.now t) = true →
      s.arch.alive.get c = true → s.power.io = true →
      onGrid (s.gn c (Obj.pwmTop c k)) (s.gn c (Obj.pwmPhase c k)) (max s.now t) = true →
      ∃ u, exec (.pwmCounterStart t c k) s = .next (s.after t u) ∧ (u.slot c k).running = true ∧
        (u.slot c k).top = s.gn c (Obj.pwmTop c k) ∧ (u.slot c k).phase = s.gn c (Obj.pwmPhase c k) ∧
        (u.slot c k).cmp = (s.upTo t).comparesOf c k (s.gn c (Obj.pwmTop c k)) ∧
        (s.red.state ≠ .startup → (u.slot c k).en = (s.slot c k).en ∧ u.regs = s.regs)) ∧
    (s.g c (Obj.bsMode c k) ≠ 1 ∨ (s.slot c k).running = true ∨ (s.slot c k).regrid (max s.now t) = false ∨
        s.arch.alive.get c = false ∨ s.power.io = false ∨
        onGrid (s.gn c (Obj.pwmTop c k)) (s.gn c (Obj.pwmPhase c k)) (max s.now t) = false →
      exec (.pwmCounterStart t c k) s = .next (s.after t (s.upTo t)))) ∧
  (∀ (t : Nat) (c : Ch) (k : Fin 4) (s : State), (s.upTo t).noneDue = true →
    ((s.slot c k).isValley (max s.now t) = true → (s.slot c k).regrid (max s.now t) = false →
      s.g c (Obj.bsMode c k) = 1 →
      ∃ u, exec (.pwmValley t c k) s = .next (s.after t u) ∧ (u.slot c k).valley = some (max s.now t) ∧
        u.g c (Obj.valleyTime c k) = (max s.now t : Nat) ∧ (u.slot c k).staged = none ∧
        (u.slot c k).cmp = u.comparesOf c k (s.slot c k).top ∧
        (∀ d, (s.slot c k).staged = some d → u.g c (Obj.dutyU c k) = d.a ∧ u.g c (Obj.dutyV c k) = d.b ∧
          u.g c (Obj.dutyW c k) = d.c ∧ u.g c (Obj.repeatCount c k) = s.g c (Obj.repeatCount c k)) ∧
        ((s.slot c k).staged = none → u.g c (Obj.dutyU c k) = s.g c (Obj.dutyU c k) ∧
          u.g c (Obj.dutyV c k) = s.g c (Obj.dutyV c k) ∧ u.g c (Obj.dutyW c k) = s.g c (Obj.dutyW c k) ∧
          ((s.slot c k).owedNext = false → u.g c (Obj.repeatCount c k) = s.g c (Obj.repeatCount c k)) ∧
          ((s.slot c k).owedNext = true →
            u.g c (Obj.repeatCount c k) = wrapU32 (s.g c (Obj.repeatCount c k) + 1)))) ∧
    ((s.slot c k).isValley (max s.now t) = true → (s.slot c k).regrid (max s.now t) = false →
      s.g c (Obj.bsMode c k) ≠ 1 →
      ∃ u, exec (.pwmValley t c k) s = .next (s.after t u) ∧ (u.slot c k).running = false ∧ (u.slot c k).en = false ∧
        u.regs = s.regs) ∧
    ((s.slot c k).isValley (max s.now t) = false ∨ (s.slot c k).regrid (max s.now t) = true →
      exec (.pwmValley t c k) s = .next (s.after t (s.upTo t)))) ∧
  (∀ (t : Nat) (c : Ch) (k : Fin 4) (s : State),
    ((s.slot c k).isPeak (max s.now t) = false → exec (.pwmPeak t c k) s = .next (s.after t (s.upTo t))) ∧
    ((s.slot c k).isPeak (max s.now t) = true →
      ∃ u, exec (.pwmPeak t c k) s = .next (s.after t u) ∧ u.regs = s.regs ∧
        (∀ a, (s.slot c k).adj = some a → u.slot c k = s.slot c k) ∧
        ((s.slot c k).adj = none → (u.slot c k).adj = some (-(sgn (s.slot c k).realign)) ∧
          ((s.slot c k).realign = 0 → (u.slot c k).realign = 0) ∧
          ((s.slot c k).realign ≠ 0 → (u.slot c k).realign.natAbs + 1 = (s.slot c k).realign.natAbs)))) ∧
  (∀ (t : Nat) (c : Ch) (k : Fin 4) (s : State),
    ((s.slot c k).regrid (max s.now t) = true → (s.slot c k).isValley (max s.now t) = true →
      ∃ u, exec (.pwmGridChange t c k) s = .next (s.after t u) ∧ (u.slot c k).top = s.gn c (Obj.pwmTop c k) ∧
        (u.slot c k).phase = s.gn c (Obj.pwmPhase c k) ∧ (u.slot c k).startFrom = none ∧ (u.slot c k).aligned = false ∧
        u.regs = s.regs ∧ (∀ n : Fin 20, s.g c (Obj.cvSlotBind c n) = k.val → (u.conv c n).gap = true)) ∧
    ((s.slot c k).regrid (max s.now t) = false ∨ (s.slot c k).isValley (max s.now t) = false →
      exec (.pwmGridChange t c k) s = .next (s.after t (s.upTo t)))) ∧
  (∀ (x : Slot) (v : Nat), x.running = true → x.valley = some v → x.count v = 0 ∧ x.count (v + x.top) = x.top) ∧
  (∀ top : Nat, compareOf top 0 = top ∧ compareOf top 32768 = 0) ∧
  (∀ (c : Ch) (k : Fin 4) (x u : Nat) (hi : Bool) (s : State), (s.slot c k).en = false →
    s.pwmOut c k x hi u = s.isBitC c (Obj.pwmPolarity c k) (if hi then 0 else 1)) ∧
  (∀ (c : Ch) (k : Fin 4) (x u : Nat) (s : State), s.g c (Obj.pwmPolarity c k) = 0 →
    s.pwmOut c k x true u = false ∨ s.pwmOut c k x false u = false)

/-- R250, R253 to R256: the permits. `s'` is the state after the command with all that follows at once. -/
def Obligations.PermitsRiseAndFall : Prop :=
  (∀ (t : Nat) (c : Ch) (k : Fin 4) (s : State),
    ((s.upTo t).enMayRise c k = true →
      ∃ s', exec (.enRise t c k) s = .next s' ∧ (s'.slot c k).en = true ∧ (s'.slot c k).enrb = true ∧ s'.now = max s.now t) ∧
    ((s.upTo t).enMayRise c k = false → exec (.enRise t c k) s = .next (s.after t (s.upTo t))) ∧
    ((s.slot c k).en = true → ((s.upTo t).enHolds c k = false ∨
        ((s.upTo t).enAsked c k = false ∧ (s.slot c k).valley = some (max s.now t))) →
      ∃ s', exec (.enFall t c k) s = .next s' ∧ (s'.slot c k).en = false ∧ (s'.slot c k).enrb = false)) ∧
  (∀ (t : Nat) (c : Ch) (k : Fin 4) (s : State),
    ((s.upTo t).armMayRise c k = true →
      ∃ s', exec (.armChange t c k) s = .next s' ∧ (s'.arm c k).out = true ∧ (s'.arm c k).rb = true ∧
        (s'.arm c k).rbHigh = some (max s.now t)) ∧
    ((s.arm c k).out = true → (s.arm c k).held = false → (s.upTo t).armHolds c k = false →
      ∃ s', exec (.armChange t c k) s = .next s' ∧ (s'.arm c k).out = false ∧ (s'.arm c k).qualified = false) ∧
    (∀ b, (s.arm c k).rbHigh = some b →
      (b + 10 * us ≤ max s.now t → (s.arm c k).rb = true → s.ioLive c = true →
        ∃ u, exec (.armrbQualified t c k) s = .next (s.after t u) ∧ (u.arm c k).qualified = true ∧ u.slots = s.slots) ∧
      (max s.now t < b + 10 * us ∨ (s.arm c k).rb = false ∨ s.ioLive c = false →
        exec (.armrbQualified t c k) s = .next (s.after t (s.upTo t))))) ∧
  (∀ (t n : Nat) (c : Ch) (k : Fin 4) (s : State), s.axisOf c k = some n → s.vn (Obj.ocReaction n) = 3 →
    s.phaseOver c k = true →
    ∃ s', exec (.overcurrentTrip t c k) s = .next s' ∧ (s'.axis n).ocTripped.get c = true ∧ (s'.slot c k).en = false) ∧
  (∀ (t : Nat) (c : Ch) (k : Fin 4) (s : State),
    (s.axisOf c k = none ∨ s.phaseOver c k = false ∨ ∃ n, s.axisOf c k = some n ∧ s.vn (Obj.ocReaction n) ≠ 3) →
    exec (.overcurrentTrip t c k) s = .next (s.after t (s.upTo t))) ∧
  (∀ (t : Nat) (c : Ch) (k : Fin 4) (s : State), (s.slot c k).en = false ∨
      ((s.upTo t).enHolds c k = true ∧ ((s.upTo t).enAsked c k = true ∨ (s.slot c k).valley ≠ some (max s.now t))) →
    exec (.enFall t c k) s = .next (s.after t (s.upTo t)))

/-- R249, R259 to R261, R263: gate drivers and the stall timer. `u` is the state as the command leaves it. -/
def Obligations.GateDriversAreServed : Prop :=
  (∀ (t rx : Nat) (c : Ch) (p : Fin 2) (s : State),
    (s.g c (Obj.gspiEnable c p) = 1 → s.arch.alive.get c = true → s.ioLive c = true → (s.upTo t).spiDue c p = true →
      (s.g c (Obj.gspiChain c p) ≠ 2 → ∀ (k : Nat), k = 2 * p.val →
        ∃ u, exec (.gspiTransfer t c p rx) s = .next (s.after t u) ∧ (u.spi c p).last = some (max s.now t) ∧
          ((s.driver c k).queue = [] → u.sent.head? = some (.spi c p [s.gn c (Obj.gdNopWord c p)]) ∧
            (u.driver c k).wait = none) ∧
          (∀ w r, (s.driver c k).queue = w :: r → u.sent.head? = some (.spi c p [w.word]) ∧
            (u.driver c k).queue = r ∧ (u.driver c k).wait = some w) ∧
          ((s.driver c k).wait = none → u.regs = s.regs) ∧
          (∀ w, (s.driver c k).wait = some w → w.init = true → u.regs = s.regs ∧
            (u.driver c k).bad = ((s.driver c k).bad || mismatch (rx % 65536) w.mask w.want)) ∧
          (∀ w, (s.driver c k).wait = some w → w.init = false →
            (mismatch (rx % 65536) w.mask w.want = true → u.isBitC c (Obj.gdStatus c k) gdPollFault = true ∧
              u.g c (Obj.gdLastRx c k) = (rx % 65536 : Nat) ∧
              u.g c (Obj.gdFaultCount c k) = wrapU32 (s.g c (Obj.gdFaultCount c k) + 1) ∧
              (u.driver c k).pollBad = !w.last ∧
              (∀ n, s.axisOf c k = some n → s.vn (Obj.gdFaultAction c k) ≤ u.reaction n)) ∧
            (mismatch (rx % 65536) w.mask w.want = false →
              u.g c (Obj.gdFaultCount c k) = s.g c (Obj.gdFaultCount c k) ∧
              (w.last = true → (s.driver c k).pollBad = false → u.isBitC c (Obj.gdStatus c k) gdPollFault = false)))) ∧
      (s.g c (Obj.gspiChain c p) = 2 → (s.driver c (2 * p.val)).wait = none → (s.driver c (2 * p.val + 1)).wait = none →
        ∃ u, exec (.gspiTransfer t c p rx) s = .next (s.after t u) ∧ (u.spi c p).last = some (max s.now t) ∧ u.regs = s.regs ∧
          ∃ a b, u.sent = .spi c p [a, b] :: s.sent ∧
            (a = (((s.driver c (2 * p.val)).queue.map (·.word)).head?.getD (s.gn c (Obj.gdNopWord c p)))) ∧
            (b = (((s.driver c (2 * p.val + 1)).queue.map (·.word)).head?.getD (s.gn c (Obj.gdNopWord c p)))) ∧
            (u.driver c (2 * p.val)).queue = (s.driver c (2 * p.val)).queue.tail ∧
            (u.driver c (2 * p.val + 1)).queue = (s.driver c (2 * p.val + 1)).queue.tail)) ∧
    (s.g c (Obj.gspiEnable c p) ≠ 1 ∨ s.arch.alive.get c = false ∨ s.ioLive c = false ∨ (s.upTo t).spiDue c p = false →
      exec (.gspiTransfer t c p rx) s = .next (s.after t (s.upTo t)))) ∧
  (∀ (t : Nat) (c : Ch) (k : Fin 4) (s : State),
    ((s.driver c k).initRunning = true → ((s.driver c k).queue.any (·.init)) = false →
      ((s.driver c k).wait.all fun w => !w.init) = true →
      ∃ u, exec (.gdInitCheck t c k) s = .next (s.after t u) ∧ u.isBitC c (Obj.gdStatus c k) gdInitOk = !(s.driver c k).bad ∧
        u.isBitC c (Obj.gdStatus c k) gdInitFail = (s.driver c k).bad ∧ (u.driver c k).initRunning = false ∧
        (u.driver c k).pollAt = max s.now t ∧
        (u.driver c k).retryAt = if (s.driver c k).bad then some (max s.now t + 100 * ms) else none) ∧
    ((s.driver c k).initRunning = false ∨ ((s.driver c k).queue.any (·.init)) = true ∨
        ((s.driver c k).wait.any fun w => w.init) = true →
      exec (.gdInitCheck t c k) s = .next (s.after t (s.upTo t)))) ∧
  (∀ (t b : Nat) (c : Ch) (k : Fin 4) (s : State),
    ((s.driver c k).retryAt = some b → b ≤ max s.now t → ∃ u, exec (.gdInitRetry t c k) s = .next (s.after t u) ∧
      (s.gn c (Obj.gdInitCount c k) = 0 → u.isBitC c (Obj.gdStatus c k) gdInitOk = true ∧ (u.driver c k).retryAt = none) ∧
      (s.gn c (Obj.gdInitCount c k) ≠ 0 → (u.driver c k).initRunning = true ∧ (u.driver c k).bad = false ∧
        (u.driver c k).retryAt = none ∧ (u.driver c k).queue.length = s.gn c (Obj.gdInitCount c k) +
          ((s.driver c k).queue.filter fun e => !e.init).length)) ∧
    ((s.driver c k).retryAt = some b → max s.now t < b →
      exec (.gdInitRetry t c k) s = .next (s.after t (s.upTo t))) ∧
    ((s.driver c k).retryAt = none → exec (.gdInitRetry t c k) s = .next (s.after t (s.upTo t)))) ∧
  (∀ (t : Nat) (c : Ch) (k : Fin 4) (s : State),
    (s.isBitC c (Obj.gdStatus c k) gdInitOk = true →
      (s.driver c k).pollAt + s.gn c (Obj.gdPollPeriod c (k / 2)) * us ≤ max s.now t →
      ∃ u, exec (.gdPollRound t c k) s = .next (s.after t u) ∧ (u.driver c k).pollAt = max s.now t ∧
        (((s.driver c k).queue.any fun e => !e.init) = true → u.isBitC c (Obj.gdStatus c k) gdPollLate = true ∧
          (u.driver c k).queue = (s.driver c k).queue) ∧
        (((s.driver c k).queue.any fun e => !e.init) = false → u.isBitC c (Obj.gdStatus c k) gdPollLate = false ∧
          (u.driver c k).queue.length = (s.driver c k).queue.length + s.gn c (Obj.gdPollCount c k))) ∧
    (s.isBitC c (Obj.gdStatus c k) gdInitOk = false ∨
        max s.now t < (s.driver c k).pollAt + s.gn c (Obj.gdPollPeriod c (k / 2)) * us →
      exec (.gdPollRound t c k) s = .next (s.after t (s.upTo t)))) ∧
  (∀ (t k e : Nat) (n : Fin 32) (s : State), s.dqTaskOf n = some k →
    (s.taskSt ((s.ownerCh k).getD .chA) k).lim.stall = some e →
    (s.vn (Obj.stallTime n) * ms ≤ e →
      ∃ u, exec (.stallTimeout t n) s = .next (s.after t u) ∧ u.isBit (Obj.axFaultCause n) 2 = true ∧
        u.vn (Obj.axReaction n) = max (s.vn (Obj.axReaction n)) (s.vn (Obj.stallReaction n))) ∧
    (e < s.vn (Obj.stallTime n) * ms → exec (.stallTimeout t n) s = .next (s.after t (s.upTo t)))) ∧
  (∀ (t : Nat) (n : Fin 32) (s : State), (s.dqTaskOf n = none ∨
      ∃ k, s.dqTaskOf n = some k ∧ (s.taskSt ((s.ownerCh k).getD .chA) k).lim.stall = none) →
    exec (.stallTimeout t n) s = .next (s.after t (s.upTo t)))

/-- R267, R273: one tick of a move and of a stop. -/
def Obligations.MovesNeverPassTheirTargets : Prop :=
  (∀ (d tgt pa vx vm acc dec : Int), d = 1 ∨ d = -1 → 0 < acc → 0 < dec → 0 ≤ d * vx → 0 ≤ vm →
    0 < d * signed64 (tgt * 2 ^ 32 - pa) → d * signed64 (tgt * 2 ^ 32 - pa) < 2 ^ 63 →
    ∃ a, 0 < a ∧ a ≤ d * signed64 (tgt * 2 ^ 32 - pa) ∧
      ((moveTick d tgt pa vx vm acc dec).done = true ↔ a = d * signed64 (tgt * 2 ^ 32 - pa)) ∧
      ((moveTick d tgt pa vx vm acc dec).done = true →
        (moveTick d tgt pa vx vm acc dec).pa = signed64 (tgt * 2 ^ 32) ∧ (moveTick d tgt pa vx vm acc dec).vx = 0) ∧
      ((moveTick d tgt pa vx vm acc dec).done = false →
        (moveTick d tgt pa vx vm acc dec).pa = signed64 (pa + d * a) ∧ (moveTick d tgt pa vx vm acc dec).vx = d * a ∧
        a ≤ max (max vm (d * vx)) dec ∧ a ≤ max (d * vx + acc) dec)) ∧
  (∀ (d pa vx dec : Int), d = 1 ∨ d = -1 → 0 < dec → 0 ≤ d * vx →
    0 ≤ d * (stopTick d pa vx dec).vx ∧ d * (stopTick d pa vx dec).vx ≤ d * vx ∧
    d * vx - dec ≤ d * (stopTick d pa vx dec).vx ∧ (stopTick d pa vx dec).pa = signed64 (pa + (stopTick d pa vx dec).vx) ∧
    ((stopTick d pa vx dec).done = true ↔ (stopTick d pa vx dec).vx = 0))

/-- R265, R267, R272: the profile tick. `u` is the state as the command leaves it. -/
def Obligations.GeneratorsAdvanceAtTheTick : Prop :=
  (∀ (t : Nat) (s : State), isTick (max s.now t) = true → s.power.ce = true → s.marks.getD markTick 0 ≠ max s.now t + 1 →
    (∀ g, (s.group g).move = none ∧ (s.group g).pend = [] ∧ (s.group g).pendTotal = none) → s.rolesRun = true →
    (∀ (c : Ch) (n : Fin 8), s.g c (Obj.fpMode c n) ≠ 4) →
    ∃ u, exec (.profileTick t) s = .next (s.after t u) ∧ ∀ n : Fin 32,
      ((s.gen n).mode = .standstill → (s.gen n).pend = none →
        (u.gen n).mode = .standstill ∧ (u.gen n).pa = (s.gen n).pa ∧ (u.gen n).tgt = (s.gen n).tgt) ∧
      ((s.gen n).tracks = true → s.mustTrack n = false →
        (u.gen n).mode = .settling ∧ (u.gen n).since = max s.now t ∧ (u.gen n).pa = (s.gen n).pa) ∧
      ((s.gen n).mode = .moving → (s.gen n).inGroup = false →
        ∀ p, p = moveTick (s.gen n).dir (s.gen n).tgt (s.gen n).pa (s.gen n).vx (s.v (Obj.pgVmax n) * 2 ^ 16)
          (s.v (Obj.pgAcc n)) (s.v (Obj.pgDec n)) →
        (u.gen n).pa = p.pa ∧ (u.gen n).vx = p.vx ∧ (u.gen n).tgt = (s.gen n).tgt ∧
        (p.done = false → (u.gen n).mode = .moving) ∧
        (p.done = true → (u.gen n).mode = .settling ∧ (u.gen n).since = max s.now t)) ∧
      (∀ v, (s.gen n).mode = .standstill → (s.gen n).pend = some v → (s.gen n).since < max s.now t →
        (s.gen n).inGroup = false → s.jointGroup n = none → v ≠ (s.gen n).tgt →
        ∀ p, p = moveTick ((s.gen n).dirTo v) v (s.gen n).pa (s.gen n).vx (s.v (Obj.pgVmax n) * 2 ^ 16)
          (s.v (Obj.pgAcc n)) (s.v (Obj.pgDec n)) →
        (u.gen n).pa = p.pa ∧ (u.gen n).vx = p.vx ∧ (u.gen n).tgt = v ∧ (u.gen n).pend = none) ∧
      (∀ q, (s.gen n).mode = .stopping q → (s.gen n).inGroup = false →
        ∀ p, p = stopTick (s.gen n).dir (s.gen n).pa (s.gen n).vx
          (s.v (if q then Obj.pgQsDec n else Obj.pgDec n)) →
        (p.done = false → (u.gen n).pa = p.pa ∧ (u.gen n).vx = p.vx ∧ (u.gen n).mode = .stopping q) ∧
        (p.done = true → (u.gen n).pa = nearest (s.gen n).dir p.pa * 2 ^ 32 ∧ (u.gen n).vx = 0 ∧
          (u.gen n).tgt = nearest (s.gen n).dir p.pa ∧ (u.gen n).mode = .settling))) ∧
  (∀ (t : Nat) (g : Fin 16) (x : GMove) (p : PathStep) (s : State), isTick (max s.now t) = true → s.power.ce = true →
    s.marks.getD markTick 0 ≠ max s.now t + 1 → (s.group g).move = some x → x.start ≤ max s.now t →
    s.moveDist g x ≠ [] → p = (s.upTo t).leadTick g x → (∀ m ∈ s.localIn g, (s.gen (s.memberAxis g m)).moves = true) →
    (∀ k, k ≠ g.val → (s.group k).move = none ∧ (s.group k).pend = [] ∧ (s.group k).pendTotal = none) →
    (∀ (c : Ch) (n : Fin 8), s.g c (Obj.fpMode c n) ≠ 4) →
    ∃ u, exec (.profileTick t) s = .next (s.after t u) ∧
      (p.done = true → (u.group g).move = none ∧ u.v (Obj.agLead g) = 255) ∧
      (p.done = false → (u.group g).move = some { x with pa := p.pa, vx := p.vx } ∧
        ∀ m ∈ s.localIn g, (u.gen (s.memberAxis g m)).pa =
          GMove.paOf { x with pa := p.pa, vx := p.vx } m (signed64 (p.pa - x.ls * 2 ^ 32)) ∨
          ∃ k ∈ s.localIn g, k ≠ m ∧ s.memberAxis g k = s.memberAxis g m)) ∧
  (∀ (t : Nat) (s : State), isTick (max s.now t) = false ∨ s.power.ce = false ∨
      s.marks.getD markTick 0 = max s.now t + 1 →
    exec (.profileTick t) s = .next (s.after t (s.upTo t))) ∧
  (∀ (t : Nat) (n : Fin 32) (s : State),
    ((s.gen n).since + s.vn (Obj.ssTime n) * ms ≤ max s.now t →
      ∃ u, exec (.standstillReached t n) s = .next (s.after t u) ∧ (u.gen n).pa = (s.gen n).pa ∧ u.regs = s.regs ∧
        ((s.gen n).mode = .settling → (u.gen n).mode = .standstill ∧ (u.gen n).since = max s.now t) ∧
        ((s.gen n).mode = .tracking false → (u.gen n).mode = .tracking true) ∧
        ((s.gen n).moves = true ∨ (s.gen n).still = true → u.gen n = s.gen n) ∧
        ∀ k, k ≠ n.val → u.gen k = s.gen k) ∧
    (max s.now t < (s.gen n).since + s.vn (Obj.ssTime n) * ms →
      exec (.standstillReached t n) s = .next (s.after t (s.upTo t))))

/-- R281: the allocation of a total force. R282, R284, R285: groups with lost and with remote members. `u` is the state as the command leaves it. -/
def Obligations.AllocationsAndGroupMembers : Prop :=
  (∀ (tot : Int) (all : List Nat) (lost : Nat → Bool) (sh w fmax : Nat → Int), all.Nodup → (∀ m, 0 ≤ sh m) →
    (∀ m, 0 ≤ w m) → (∀ m, 0 ≤ fmax m) → 0 ≤ tot →
    (sumBy (allocate tot all lost sh w fmax).f (fun q => q.2) + (allocate tot all lost sh w fmax).deficit = tot) ∧
    (∀ q ∈ (allocate tot all lost sh w fmax).f, q.2 ≤ fmax q.1) ∧
    ((∀ m ∈ all, lost m = true) → (allocate tot all lost sh w fmax).f = [] ∧ (allocate tot all lost sh w fmax).deficit = tot)) ∧
  ((∀ (t r : Nat) (g : Fin 16) (v : State) (s : State),
    v = s.updGroup g (fun x => { x with remoteLost := r % 256 }) →
    (isCommit (max s.now t) = true → s.v (Obj.agMode g) = 1 ∨ s.v (Obj.agMode g) = 2 →
      ∃ u, exec (.memberLoss t g r) s = .next (s.after t u) ∧ (u.group g).remoteLost = r % 256 ∧
        (∀ m, m < 8 → ((u.memberLost g m = true) ↔ (s.memberLost g m = true ∨ v.lostNow g m = true))) ∧
        (s.v (Obj.agMode g) = 1 → u.gens = s.gens ∧ u.regs = s.regs) ∧
        (s.v (Obj.agMode g) = 2 → (u.group g).lost ≠ (s.group g).lost →
          u.v (Obj.agReallocCount g) = wrapU32 (s.v (Obj.agReallocCount g) + 1) ∧
          u.v (Obj.agForceDeficit g) = clamp (-2147483648) 2147483647
            ((v.updGroup g fun x => { x with lost := (u.group g).lost }).allocGroup g (s.group g).total).deficit)) ∧
    (isCommit (max s.now t) = false ∨ (s.v (Obj.agMode g) ≠ 1 ∧ s.v (Obj.agMode g) ≠ 2) →
      exec (.memberLoss t g r) s = .next (s.after t (s.upTo t)))) ∧
  (∀ (t new : Nat) (g : Fin 16) (s : State), new = slotMap (fun m => s.memberLost g m && s.lostNow g m) →
    (isCommit (max s.now t) = true → s.groupBusy g = false → (s.group g).lost ≠ new →
      ∃ u, exec (.memberRegain t g) s = .next (s.after t u) ∧ (u.group g).lost = new ∧
        (s.v (Obj.agMode g) ≠ 2 → u.regs = s.regs ∧
          (∀ m ∈ s.members g, s.isRemote g m = false → s.memberLost g m = true → bit (new : Int) m = false →
            (s.updGroup g fun x => { x with lost := new }).mustTrack (s.memberAxis g m) = false →
            (u.gen (s.memberAxis g m)).mode = .settling ∧ (u.gen (s.memberAxis g m)).since = max s.now t) ∧
          (∀ n, (∀ m ∈ s.members g, s.isRemote g m = false → s.memberLost g m = true → s.memberAxis g m ≠ n) →
            u.gen n = s.gen n))) ∧
    (isCommit (max s.now t) = false ∨ s.groupBusy g = true ∨ (s.group g).lost = new →
      exec (.memberRegain t g) s = .next (s.after t (s.upTo t)))) ∧
  (∀ (t : Nat) (g : Fin 16) (m : GMove) (s : State), (s.group g).move = some m →
    (isTick (max s.now t) = true → m.start = max s.now t → s.hasRemote g = true →
      ∃ u, exec (.remoteMoveStart t g) s = .next (s.after t u) ∧ (u.group g).unconfirmed = !m.confirmed ∧
        (u.group g).move = some m ∧ u.regs = s.regs) ∧
    (isTick (max s.now t) = false ∨ m.start ≠ max s.now t ∨ s.hasRemote g = false →
      exec (.remoteMoveStart t g) s = .next (s.after t (s.upTo t))) ∧
    (max s.now t ≤ m.start →
      ∃ u, exec (.moveConfirmation t g) s = .next (s.after t u) ∧ (u.group g).move = some { m with confirmed := true } ∧
        u.gens = s.gens ∧ u.regs = s.regs) ∧
    (m.start < max s.now t →
      ∃ u, exec (.moveConfirmation t g) s = .next (s.after t u) ∧ u.group g = s.group g ∧ u.gens = s.gens ∧
        u.regs = s.regs)) ∧
  (∀ (t : Nat) (g : Fin 16) (s : State), (s.group g).move = none →
    exec (.remoteMoveStart t g) s = .next (s.after t (s.upTo t))) ∧
  (∀ (t : Nat) (g : Fin 16) (d : MoveDesc) (s : State),
    (∀ m, s.v (Obj.agMode g) = 3 → s.twinThere = true → m ∈ s.members g → s.isRemote g m = false →
      (slotNamed d (s.memberAxis g m)).isSome = true →
      (d.stop ≠ 0 →
        ∃ u, exec (.moveDescription t g d) s = .next (s.after t u) ∧ u.sent = .confirm d.group d.start :: s.sent ∧
          ((u.group g).move.map (·.stops)) = (s.group g).move.map (fun x => ⟨false, d.start, some d.stop⟩ :: x.stops) ∧
          u.gens = s.gens ∧ u.regs = s.regs) ∧
      (d.stop = 0 →
        ∃ u, exec (.moveDescription t g d) s = .next (s.after t u) ∧ u.sent = .confirm d.group d.start :: s.sent ∧
          ((s.gen (s.memberAxis g m)).tracks = false → d.d.getD d.lead 0 ≠ 0 →
            (∃ y, (u.group g).move = some y ∧ y.pa = d.s.getD d.lead 0 * 2 ^ 32 ∧ y.vx = d.vx ∧ y.ld = d.d.getD d.lead 0 ∧
              y.start = d.start ∧ y.given = some (d.vm, d.acc, d.dec) ∧ y.stops = []) ∧
            (u.gen (s.memberAxis g m)).mode = .moving ∧ (u.gen (s.memberAxis g m)).inGroup = true ∧
            (u.gen (s.memberAxis g m)).pend = none) ∧
          (d.d.getD d.lead 0 = 0 → u.groups = s.groups ∧ u.gens = s.gens))) ∧
    (s.v (Obj.agMode g) ≠ 3 ∨ s.twinThere = false ∨
        (∀ m ∈ s.members g, s.isRemote g m = true ∨ slotNamed d (s.memberAxis g m) = none) →
      exec (.moveDescription t g d) s = .next (s.after t (s.upTo t)))))

/-- R22, R294, R301: the checkpoint, and the digest frames. `u` is the state as the command leaves it. -/
def Obligations.CheckpointsOpenTheVote : Prop :=
  (∀ (t v : Nat) (k : Fin 512) (s : State), (s.upTo t).ckStart k = some v → s.onTwin k = false →
    (s.iterates k = true ∧ (s.task k).lastStart.isSome = true ∨ s.finishing k = true ∧ (s.task k).lastStart = some v) →
    (s.stream k).ck ≠ some (max s.now t) →
    (∀ n, s.taskAxis k = some n → (s.axis n).handover = 0) → s.takesPart (chOf (s.task k).owner) = true →
    (∀ m ∈ s.arch.queue, m.arrived (max s.now t) = true → m.body.isCopy k = false) →
    ∃ u, exec (.checkpoint t k) s = .next (s.after t u) ∧ (u.stream k).ck = some (max s.now t) ∧
      (u.stream k).seq = (s.stream k).seq + 1 ∧ (∀ c, (u.stream k).vote.get c = none) ∧ (u.stream k).complete = false ∧
      (u.stream k).voting = (s.votesNow && (!s.isSplit k && (s.computes k).any s.voters.contains)) ∧
      (∀ c ∈ s.computes k, ∀ lost sends : Bool,
        lost = (bit (s.red.engineFault.get c : Int) ((s.task k).engines.get c) ||
          bit (s.red.halted.get c : Int) ((s.task k).engines.get c)) →
        sends = (!s.isSplit k && (s.computes k).any s.voters.contains) →
        (∀ d, (s.task k).fin.get c = some d → d.start = v → d.fault = false → lost = false →
          (u.task k).out.get c = d.outs ∧ u.g c (Obj.deadlineMisses k) = s.g c (Obj.deadlineMisses k) ∧
          (sends = true → ∃ f, ((u.stream k).held.get c).get c = some f ∧ f.digest = d.digest ∧ f.flags = 0 ∧
            f.seq = ((s.stream k).seq + 1) % 65536)) ∧
        ((s.task k).fin.get c = none → (s.stream k).skip.get c = false → lost = false →
          (u.task k).out.get c = (s.task k).out.get c ∧
          u.g c (Obj.deadlineMisses k) = wrapU32 (s.g c (Obj.deadlineMisses k) + 1)) ∧
        (lost = true → (u.stream k).exempt.get c = true ∧ (u.task k).out.get c = (s.task k).out.get c ∧
          u.g c (Obj.deadlineMisses k) = s.g c (Obj.deadlineMisses k) ∧
          (sends = true → ∃ f, ((u.stream k).held.get c).get c = some f ∧ f.flags = 1)) ∧
        ((s.task k).fin.get c = none → (s.stream k).skip.get c = true → lost = false →
          (u.stream k).exempt.get c = true ∧ u.g c (Obj.deadlineMisses k) = s.g c (Obj.deadlineMisses k) ∧
          (sends = true → ∃ f, ((u.stream k).held.get c).get c = some f ∧ f.flags = 2)))) ∧
  (∀ (t : Nat) (k : Fin 512) (s : State),
    (∀ v m, (s.upTo t).ckStart k = some v → s.onTwin k = true → (s.task k).move = some m → m.owner < 3 →
      (m.copied = false → ∃ u, exec (.checkpoint t k) s = .next (s.after t u) ∧
        (u.task k).move = some { m with copied := true } ∧ u.regs = s.regs) ∧
      (m.copied = true → ∃ u, exec (.checkpoint t k) s = .next (s.after t u) ∧ (u.task k).owner = m.owner ∧
        (u.task k).computed = m.computed ∧ (u.task k).engines = m.engines ∧
        u.v (Obj.taskMoves k) = wrapU32 (s.v (Obj.taskMoves k) + 1))) ∧
    ((s.upTo t).ckStart k = none ∨ (s.onTwin k = true ∧ (s.task k).move = none) ∨
        (s.onTwin k = false ∧ s.iterates k = false ∧ s.finishing k = false) ∨
        (s.onTwin k = false ∧ (s.stream k).ck = some (max s.now t)) →
      exec (.checkpoint t k) s = .next (s.after t (s.upTo t)))) ∧
  (∀ (t : Nat) (rx tx : Ch) (k : Fin 514) (f : DigFrame) (s : State),
    (rx ≠ tx → s.arch.alive.get rx = true → s.strapPath rx tx = true →
      ∃ u, exec (.digestFrame t rx tx k f) s = .next (s.after t u) ∧ u.regs = s.regs ∧
        (rx = tx.next → ∀ b < 4, (u.arm tx b).reported = bit (f.armrb : Int) b) ∧
        (rx ≠ tx.next → u.arms = s.arms) ∧
        (∀ ck, (s.stream k).ck = some ck → ((u.stream k).held.get rx).get tx =
          (if s.takesPart rx = true ∧ max s.now t ≤ ck + 300 ∧ f.seq = (s.stream k).seq % 65536 then some f
            else ((s.stream k).held.get rx).get tx))) ∧
    (rx = tx ∨ s.arch.alive.get rx = false ∨ s.strapPath rx tx = false →
      exec (.digestFrame t rx tx k f) s = .next (s.after t (s.upTo t))))

/-- R302, R303, R305: votes and reseeding. `u` is the state as the command leaves it. -/
def Obligations.VotesFindTheMajority : Prop :=
  (∀ (t : Nat) (k : Fin 514) (s : State),
    (∀ ck, (s.stream k).ck = some ck → (s.stream k).voting = true → ck + 300 ≤ max s.now t →
      s.votesNow = true → (s.stream k).vote = Trio.all none → ∃ u, exec (.vote t k) s = .next (s.after t u) ∧
      ∀ c, s.takesPart c = true → ∃ m, (u.stream k).vote.get c = some m ∧
        (∀ d, m.get d = true → s.takesPart d = true ∧ s.heldDigest k c d ≠ none) ∧
        (∀ d e, m.get d = true → m.get e = true → s.heldDigest k c d = s.heldDigest k c e) ∧
        (∀ d e, d ≠ e → s.takesPart d = true → s.takesPart e = true → s.heldDigest k c d ≠ none →
          s.heldDigest k c d = s.heldDigest k c e → m.get d = true ∧ m.get e = true) ∧
        (∀ d, m.get d = true → s.red.state = .startup ∨ ∃ e, e ≠ d ∧ m.get e = true)) ∧
    ((s.stream k).ck = none ∨ (s.stream k).voting = false ∨ (∃ ck, (s.stream k).ck = some ck ∧ max s.now t < ck + 300) ∨
        s.votesNow = false ∨ (s.stream k).vote ≠ Trio.all none →
      exec (.vote t k) s = .next (s.after t (s.upTo t)))) ∧
  (∀ (t ck : Nat) (rx tx : Ch) (k : Fin 514) (m : Trio Bool) (s : State), (s.stream k).ck = some ck →
    (rx ≠ tx → s.takesPart rx = true → s.takesPart tx = true → ((s.stream k).vote.get rx).isSome = true →
      (s.stream k).complete = false → s.strapPath rx tx = true → s.votesNow = true →
      max s.now t ≤ ck + 600 → ∃ u, exec (.voteResult t rx tx k m) s = .next (s.after t u) ∧
      ((u.stream k).got.get rx).get tx = some m ∧
      (∀ d, d ≠ rx → d ≠ tx → s.takesPart d = true → ((s.stream k).got.get rx).get d = some m →
        (u.stream k).vote.get rx = some m)) ∧
    (rx = tx ∨ s.takesPart rx = false ∨ s.takesPart tx = false ∨ (s.stream k).vote.get rx = none ∨
        (s.stream k).complete = true ∨ s.strapPath rx tx = false ∨ s.votesNow = false ∨ ck + 600 < max s.now t →
      exec (.voteResult t rx tx k m) s = .next (s.after t (s.upTo t)))) ∧
  (∀ (t : Nat) (rx tx : Ch) (k : Fin 514) (m : Trio Bool) (s : State), (s.stream k).ck = none →
    exec (.voteResult t rx tx k m) s = .next (s.after t (s.upTo t))) ∧
  (∀ (t : Nat) (c : Ch) (k : Fin 512) (s : State),
    (∀ m st outs, s.copyFor c k = some m → m.body = .copy k st outs →
      ∃ u, exec (.reseedCopy t c k) s = .next (s.after t u) ∧
        (u.task k).st.get c = st ∧ (u.task k).out.get c = outs ∧ (u.stream k).reseed.get c = false ∧
        (∀ d, d ≠ c → (u.task k).st.get d = (s.task k).st.get d) ∧ u.regs = s.regs ∧
        (∀ o v, outs = [v] → s.vn (Obj.taskOut k) = o → o < 2048 → u.dobj c o = v)) ∧
    (s.copyFor c k = none → s.red.state = .single →
      ∃ u, exec (.reseedCopy t c k) s = .next (s.after t u) ∧ (u.stream k).reseed.get c = false ∧ u.tasks = s.tasks) ∧
    (s.copyFor c k = none → s.red.state ≠ .single → exec (.reseedCopy t c k) s = .next (s.after t (s.upTo t))))

/-- R310 to R312, R319: how arbitration, SINGLE-SUPERVISED and debug access act. `u` is the state as the command leaves it. -/
def Obligations.ArbitrationEndsInOneOrPassive : Prop :=
  (∀ (t : Nat) (a : Arb) (conf : Trio Bool) (s : State), s.red.arb = some a →
    (∀ c, s.red.state = .dual → max s.now t ≤ a.start + 1500000 → s.twinThere = true →
      Ch.all.find? (fun d => a.cands.get d && conf.get d) = some c →
      ∃ u, exec (.arbitrationConfirm t conf) s = .next (s.after t u) ∧ u.red.state = .single ∧ u.red.survivor = some c ∧
        u.red.inV = (Trio.all false).set c true ∧ u.red.arb = none ∧ u.v (Obj.chState c) = 5 ∧ u.red.faulty.get c = false ∧
        (∀ d, d ≠ c → a.cands.get d = true → u.red.faulty.get d = true ∧ u.v (Obj.chState d) = 2)) ∧
    (a.start + 1500000 < max s.now t ∨ s.twinThere = false ∨
        Ch.all.find? (fun d => a.cands.get d && conf.get d) = none →
      exec (.arbitrationConfirm t conf) s = .next (s.after t (s.upTo t)))) ∧
  (∀ (t : Nat) (conf : Trio Bool) (s : State), s.red.arb = none →
    exec (.arbitrationConfirm t conf) s = .next (s.after t (s.upTo t)) ∧
      exec (.arbitrationTimeout t) s = .next (s.after t (s.upTo t))) ∧
  (∀ (t : Nat) (a : Arb) (s : State), s.red.arb = some a →
    (a.start + 1500000 ≤ max s.now t →
      ∃ u, exec (.arbitrationTimeout t) s = .next (s.after t u) ∧ u.red.state = .passive) ∧
    (max s.now t < a.start + 1500000 → exec (.arbitrationTimeout t) s = .next (s.after t (s.upTo t)))) ∧
  (∀ (t n : Nat) (k : Fin 512) (s : State),
    (s.red.state = .single → s.v (Obj.taskEnable k) = 1 → s.safetyRated k = true → 3 ≤ n →
      ∃ u, exec (.twinSupervisionReport t k n) s = .next (s.after t u) ∧ u.red.state = .passive) ∧
    (s.red.state ≠ .single ∨ s.v (Obj.taskEnable k) ≠ 1 ∨ s.safetyRated k = false ∨ n < 3 →
      exec (.twinSupervisionReport t k n) s = .next (s.after t (s.upTo t)))) ∧
  (∀ (t : Nat) (s : State),
    (s.red.state = .single → s.red.entry + s.vn Obj.ssBound * 300000000 ≤ max s.now t →
      ∃ u, exec (.ssBoundExpiry t) s = .next (s.after t u) ∧ u.red.state = .passive) ∧
    (s.red.state ≠ .single ∨ max s.now t < s.red.entry + s.vn Obj.ssBound * 300000000 →
      exec (.ssBoundExpiry t) s = .next (s.after t (s.upTo t)))) ∧
  (∀ (t : Nat) (c : Ch) (s : State),
    (s.life.state = 2 → s.v Obj.debugPermit = 1 → s.arch.alive.get c = true → isCommit (max s.now t) = true →
      s.red.inDebug.get c = false → s.red.faulty.get c = false → s.red.state ≠ .passive → s.red.arb = none →
      ∃ u, exec (.debugAccessOpen t c) s = .next (s.after t u) ∧ u.red.debugOpen.get c = true ∧ u.red.inDebug.get c = true ∧
        u.red.inV.get c = false ∧ u.v (Obj.chState c) = 3 ∧ (s.red.state = .nominal → u.red.state = .dual)) ∧
    (s.life.state = 2 → s.v Obj.debugPermit = 1 → s.arch.alive.get c = true → isCommit (max s.now t) = false →
      ∃ u, exec (.debugAccessOpen t c) s = .next (s.after t u) ∧ u.red.debugOpen.get c = true ∧
        u.red.inDebug = s.red.inDebug ∧ u.red.inV = s.red.inV ∧ u.regs = s.regs) ∧
    (s.life.state ≠ 2 ∨ s.v Obj.debugPermit ≠ 1 ∨ s.arch.alive.get c = false →
      exec (.debugAccessOpen t c) s = .next (s.after t (s.upTo t)))) ∧
  (∀ (t : Nat) (c : Ch) (e : Fin 16) (s : State),
    (s.red.debugOpen.get c = true → s.red.inDebug.get c = true →
      ∃ u, exec (.engineHalt t c e) s = .next (s.after t u) ∧ bit (u.red.halted.get c : Int) e = true ∧ u.regs = s.regs) ∧
    (s.red.debugOpen.get c = false ∨ s.red.inDebug.get c = false →
      exec (.engineHalt t c e) s = .next (s.after t (s.upTo t))))

/-- R343, R344, R346: the course of a replan. `u` is the state as the command leaves it. -/
def Obligations.ReplansAreVotedAndAdopted : Prop :=
  (∀ (t b c : Nat) (s : State), s.place.trig = some (b, c) →
    (s.place.run = none → max s.now t % 3000 = 0 → b ≤ max s.now t → s.red.state ≠ .passive →
      ∃ u, exec (.planInstant t) s = .next (s.after t u) ∧ u.place.run = some (c, max s.now t) ∧ u.place.trig = none ∧
        u.place.snapVoted = false ∧ u.place.snap = some ((s.upTo t).planFor c).1 ∧ u.place.computed = none ∧
        u.place.plan = s.place.plan ∧ u.tasks = s.tasks) ∧
    (s.place.run ≠ none ∨ max s.now t % 3000 ≠ 0 ∨ max s.now t < b ∨ s.red.state = .passive →
      exec (.planInstant t) s = .next (s.after t (s.upTo t)))) ∧
  (∀ (t : Nat) (s : State), s.place.trig = none → exec (.planInstant t) s = .next (s.after t (s.upTo t))) ∧
  (∀ (t : Nat) (flip : Trio Nat) (s : State),
    (s.place.run.isSome = true → s.place.snapVoted = false →
      ∃ u, exec (.snapshotVote t flip) s = .next (s.after t u) ∧ u.place.snapVoted = true ∧ u.place.snap = s.place.snap ∧
        u.place.plan = s.place.plan ∧
        u.place.flips = (if s.isMajority (s.agreeing flip) = true then Trio.all 0 else flip)) ∧
    (s.place.run = none ∨ s.place.snapVoted = true → exec (.snapshotVote t flip) s = .next (s.after t (s.upTo t)))) ∧
  (∀ (t : Nat) (flip : Trio Nat) (s : State),
    (s.place.run.isSome = true → s.place.snapVoted = true → s.place.computed = none →
      ∃ u, exec (.planComputed t flip) s = .next (s.after t u) ∧ u.place.computed = s.place.snap ∧
        u.place.plan = s.place.plan ∧ ∀ c, u.place.flips.get c = s.place.flips.get c + flip.get c) ∧
    (s.place.run = none ∨ s.place.snapVoted = false ∨ s.place.computed ≠ none →
      exec (.planComputed t flip) s = .next (s.after t (s.upTo t)))) ∧
  (∀ (t i c : Nat) (p : Plan) (s : State), s.place.run = some (c, i) → s.place.computed = some p →
    (s.isMajority (s.agreeing s.place.flips) = true → ∃ u, exec (.planVote t) s = .next (s.after t u) ∧ u.place.plan = p ∧
      u.place.run = none ∧ u.v Obj.planCount = wrapU32 (s.v Obj.planCount + 1) ∧ u.v Obj.planLastTime = (max s.now t : Nat) ∧
      u.v Obj.planLastCause = (c : Int) ∧ u.v Obj.planDigest = (planCrc p : Int) ∧
      u.v Obj.planVoteMismatch =
        (if (s.voters.all fun d => s.place.flips.get d == 0) = true then s.v Obj.planVoteMismatch
          else wrapU32 (s.v Obj.planVoteMismatch + 1))) ∧
    (s.isMajority (s.agreeing s.place.flips) = false → ∃ u, exec (.planVote t) s = .next (s.after t u) ∧
      u.place.plan = s.place.plan ∧ u.place.run = none ∧ u.place.retryAt = some (max s.now t + 300000, c) ∧
      u.v Obj.planNoMajority = wrapU32 (s.v Obj.planNoMajority + 1) ∧ u.v Obj.planCount = s.v Obj.planCount)) ∧
  (∀ (t : Nat) (s : State), s.place.run = none ∨ s.place.computed = none →
    exec (.planVote t) s = .next (s.after t (s.upTo t))) ∧
  (∀ (t b c : Nat) (s : State), s.place.retryAt = some (b, c) →
    (b ≤ max s.now t → ∃ u, exec (.planRetry t) s = .next (s.after t u) ∧ u.place.retryAt = none ∧
      (s.place.trig = none → u.place.trig = some (max s.now t, c)) ∧
      (∀ a d, s.place.trig = some (a, d) → u.place.trig = some (a, c ||| d))) ∧
    (max s.now t < b → exec (.planRetry t) s = .next (s.after t (s.upTo t)))) ∧
  (∀ (t : Nat) (s : State), s.place.retryAt = none → exec (.planRetry t) s = .next (s.after t (s.upTo t)))

/-- R338, R340, R352, R353, R485: scores and turns. `u` is the state as the command leaves it. -/
def Obligations.ScoresAndSliceTurns : Prop :=
  (∀ (t : Nat) (s : State),
    (max s.now t % 300000 = 0 → s.marks.getD markScore 0 ≠ max s.now t + 1 → ∃ u, exec (.scoreReport t) s = .next (s.after t u) ∧
      ∀ c, (∀ e < 16, u.v (Obj.engineScore c e) = s.engineScore c e) ∧ u.v (Obj.channelScore c) = s.channelScore c) ∧
    (max s.now t % 300000 ≠ 0 ∨ s.marks.getD markScore 0 = max s.now t + 1 → exec (.scoreReport t) s = .next (s.after t (s.upTo t))) ∧
    (max s.now t % 30000000 = 0 → s.marks.getD markDecay 0 ≠ max s.now t + 1 → (∀ c, Tbl.sorted (s.place.pens.get c) = true) →
      ∃ u, exec (.scoreDecay t) s = .next (s.after t u) ∧
        ∀ c e, (u.pen c e).decaying = (s.pen c e).decaying - 1 ∧ (u.pen c e).permanent = (s.pen c e).permanent) ∧
    (max s.now t % 30000000 ≠ 0 ∨ s.marks.getD markDecay 0 = max s.now t + 1 → exec (.scoreDecay t) s = .next (s.after t (s.upTo t)))) ∧
  (∀ (t b : Nat) (s : State), s.place.ageFrom = some b →
    (s.place.aged = false → b + 300000000 ≤ max s.now t → s.red.state ≠ .passive → s.place.placed = true → s.place.run = none →
      s.place.trig = none → ∃ u, exec (.healthAgeReached t) s = .next (s.after t u) ∧ u.place.aged = true ∧
        u.place.held = 0 ∧
        u.place.trig = (if s.v Obj.planAdapt = 1 then some (max s.now t, s.place.held ||| 32)
          else if s.place.held = 0 then none else some (max s.now t, s.place.held))) ∧
    (s.place.aged = true ∨ max s.now t < b + 300000000 →
      exec (.healthAgeReached t) s = .next (s.after t (s.upTo t)))) ∧
  (∀ (t : Nat) (s : State), s.place.ageFrom = none → exec (.healthAgeReached t) s = .next (s.after t (s.upTo t))) ∧
  (∀ (t : Nat) (c : Ch) (e : Fin 16) (s : State), (s.life.rot.get c).start = none ∨ (s.life.rot.get c).turn ≠ none ∨
      (s.life.rot.get c).next ≠ e.val ∨ s.turnsRun c = false →
    exec (.sliceRequest t c e) s = .next (s.after t (s.upTo t))) ∧
  (∀ (t : Nat) (c : Ch) (e : Fin 16) (s : State), (s.life.rot.get c).start.isSome = true → (s.life.rot.get c).turn = none →
    (s.life.rot.get c).next = e.val → s.turnsRun c = true →
    (s.refusesSlice c e = true → ∃ u, exec (.sliceRequest t c e) s = .next (s.after t u) ∧
      u.g c Obj.sliceRefusals = wrapU32 (s.g c Obj.sliceRefusals + 1) ∧ (u.life.rot.get c).turn = none ∧
      u.tasks = s.tasks) ∧
    (s.refusesSlice c e = false → (∀ k ∈ s.tasksOn c e, (s.place.plan.fbEngine.get c).getD k 255 ≠ e.val) →
      ∃ u, exec (.sliceRequest t c e) s = .next (s.after t u) ∧
        (u.life.rot.get c).turn.map (·.engine) = some e.val ∧ u.inTest c e = true ∧
        ∀ k ∈ s.tasksOn c e, ∃ m, (u.task k).move = some m ∧ m.owner = (s.task k).owner ∧
          m.engines.get c = (s.place.plan.fbEngine.get c).getD k 255)) ∧
  (∀ (t : Nat) (c : Ch) (e : Fin 16) (s : State),
    (∀ r, s.neededInTest c e = true → (s.life.rot.get c).turn = some r → ∃ u, exec (.sliceAbort t c e) s = .next (s.after t u) ∧
      (u.life.rot.get c).turn = none ∧ u.g c Obj.sliceAborts = wrapU32 (s.g c Obj.sliceAborts + 1) ∧
      u.v (Obj.sliceNext c r.engine) = ((r.first + r.runs) % 32 : Nat) ∧ ∀ f, u.inTest c f = false) ∧
    (s.neededInTest c e = false → exec (.sliceAbort t c e) s = .next (s.after t (s.upTo t))))

/-- R360 to R375, R537: the lanes of a channel, and what arrives on them. `u` is the state as the command leaves it. -/
def Obligations.FabricLanesKeepTheirStates : Prop :=
  (∀ (t : Nat) (c : Ch) (l : Fin 4) (a0 a35 a6 : Bool) (s : State),
    (s.fabAlive c = true → s.laneOn c l = true → (s.fabLane c l).st = 1 →
      (∀ d, (s.fabLane c l).tries [a0, a35, a6] = some d → ∃ u, exec (.fabricLaneAligned t c l a0 a35 a6) s = .next (s.after t u) ∧
        (u.fabLane c l).st = (if s.mayNeighbour = true then 2 else 6) ∧ (u.fabLane c l).deemph = some d) ∧
      ((s.fabLane c l).tries [a0, a35, a6] = none →
        exec (.fabricLaneAligned t c l a0 a35 a6) s = .next (s.after t (s.upTo t)))) ∧
    (s.fabAlive c = false ∨ s.laneOn c l = false ∨ (s.fabLane c l).st ≠ 1 →
      exec (.fabricLaneAligned t c l a0 a35 a6) s = .next (s.after t (s.upTo t))) ∧
    ((s.fabLane c l).deemph = none → a0 = true → (s.fabLane c l).tries [a0, a35, a6] = some 0) ∧
    ((s.fabLane c l).deemph = none → a0 = false → a35 = true → (s.fabLane c l).tries [a0, a35, a6] = some 1) ∧
    ((s.fabLane c l).st ≠ 0 → ∃ u, exec (.fabricLaneAlignmentLoss t c l) s = .next (s.after t u) ∧ (u.fabLane c l).st = 1 ∧
      u.regs = s.regs) ∧
    ((s.fabLane c l).st = 0 → exec (.fabricLaneAlignmentLoss t c l) s = .next (s.after t (s.upTo t))) ∧
    (s.fabAlive c = true → s.laneOn c l = true → (s.upTo t).since (s.fabLane c l).helloAt 297000 = true →
      ∃ u b, exec (.helloSend t c l) s = .next (s.after t u) ∧ Out.fabLane c l 2 b ∈ u.sent ∧
        (u.fabLane c l).helloAt = some (max s.now t) ∧ (u.fabLane c l).st = (s.fabLane c l).st ∧ u.regs = s.regs) ∧
    (s.fabAlive c = false ∨ s.laneOn c l = false ∨ (s.upTo t).since (s.fabLane c l).helloAt 297000 = false →
      exec (.helloSend t c l) s = .next (s.after t (s.upTo t)))) ∧
  (∀ (t : Nat) (c : Ch) (l : Fin 4) (h : Hello) (s : State),
    (s.fabAlive c = true → 2 ≤ (s.fabLane c l).st →
      ∃ u, exec (.helloReceive t c l h) s = .next (s.after t u) ∧
        (h.position % 4 = c.num → h.uid ≠ Config.deviceUid → h.address ≠ s.fab.addr →
          (u.fabLane c l).lastHello = max s.now t ∧ (u.fabLane c l).peerUid = h.uid ∧ (u.fabLane c l).peerAddr = h.address ∧
          ((s.fabLane c l).st = 2 → h.lastHeard = Config.deviceUid → (u.fabLane c l).st = 3) ∧
          ((s.fabLane c l).st = 2 → h.lastHeard ≠ Config.deviceUid → (u.fabLane c l).st = 2) ∧
          ((s.fabLane c l).st = 3 → (u.fabLane c l).st = 3)) ∧
        ((s.fabLane c l).st = 5 → h.address ≠ s.fab.addr → (u.fabLane c l).st = 5) ∧
        ((s.fabLane c l).st ≠ 5 → h.position % 4 ≠ c.num ∨ h.uid = Config.deviceUid →
          (u.fabLane c l).st = 4 ∧ u.fab.conflict = s.fab.conflict) ∧
        (h.position % 4 = c.num → h.uid ≠ Config.deviceUid → u.fab.conflict =
          (decide (h.address ≠ 0 ∧ h.address = s.fab.addr ∧ h.uid < Config.deviceUid) || s.fab.conflict))) ∧
    (s.fabAlive c = false ∨ (s.fabLane c l).st < 2 → exec (.helloReceive t c l h) s = .next (s.after t (s.upTo t)))) ∧
  (∀ (t : Nat) (c : Ch) (l : Fin 4) (s : State),
    ((s.fabLane c l).st = 3 → (s.fabLane c l).lastHello + 900000 ≤ max s.now t →
      ∃ u, exec (.helloTimeout t c l) s = .next (s.after t u) ∧ (u.fabLane c l).st = (if s.mayNeighbour = true then 2 else 6) ∧
        (u.plane c).lsaDue = true) ∧
    ((s.fabLane c l).st ≠ 3 ∨ max s.now t < (s.fabLane c l).lastHello + 900000 →
      exec (.helloTimeout t c l) s = .next (s.after t (s.upTo t))) ∧
    ((s.fabLane c l).st = 5 → (s.fabLane c l).suspendAt + 300000000 ≤ max s.now t →
      ∃ u, exec (.laneSuspendEnd t c l) s = .next (s.after t u) ∧
        (u.fabLane c l).st = (if s.mayNeighbour = true then 2 else 6)) ∧
    ((s.fabLane c l).st ≠ 5 ∨ max s.now t < (s.fabLane c l).suspendAt + 300000000 →
      exec (.laneSuspendEnd t c l) s = .next (s.after t (s.upTo t))) ∧
    (s.fab.conflict = true → s.fab.conflictSeen + 30000000 ≤ max s.now t →
      ∃ u, exec (.addressConflictEnd t) s = .next (s.after t u) ∧ u.fab.conflict = false) ∧
    (s.fab.conflict = false ∨ max s.now t < s.fab.conflictSeen + 30000000 →
      exec (.addressConflictEnd t) s = .next (s.after t (s.upTo t)))) ∧
  (∀ (t : Nat) (c : Ch) (l : Fin 4) (w : List Byte) (g : Bool) (s : State),
    (∀ f, s.fabAlive c = true → s.laneState c l = 3 → parseFab w = some f → f.type = 1 →
      (g = true → fcsOk w f = false → ∃ u, exec (.fabricFrameReceive t c l w g) s = .next (s.after t u) ∧
        u.v (Obj.laneCrcErrors c l) = wrapU32 (s.v (Obj.laneCrcErrors c l) + 1) ∧ (u.plane c).inbox = (s.plane c).inbox) ∧
      (g = false → f.dest = s.fab.addr → exec (.fabricFrameReceive t c l w g) s = .next (s.after t (s.upTo t))) ∧
      (g = false ∨ fcsOk w f = true → f.dest ≠ s.fab.addr →
        ∃ u, exec (.fabricFrameReceive t c l w g) s = .next (s.after t u) ∧ u.fab = s.fab ∧
          (f.ttl ≤ 1 → u.g c Obj.fabTtlDrops = wrapU32 (s.g c Obj.fabTtlDrops + 1) ∧ u.sent = s.sent) ∧
          (1 < f.ttl → s.forwardLane c f = none → u.g c Obj.fabNoRoute = wrapU32 (s.g c Obj.fabNoRoute + 1) ∧ u.sent = s.sent) ∧
          ∀ k, 1 < f.ttl → s.forwardLane c f = some k → u.g c Obj.fabFramesFwd = wrapU32 (s.g c Obj.fabFramesFwd + 1) ∧
            u.sent = Out.fabLane c k (if g = true then 1 else 0x81) (FabFrame.bytes { f with ttl := f.ttl - 1 }) :: s.sent) ∧
      (g = true → fcsOk w f = true → f.dest = s.fab.addr →
        ∃ u, exec (.fabricFrameReceive t c l w g) s = .next (s.after t u) ∧
          (u.plane c).inbox = (s.plane c).inbox ++ [w] ∧ u.sent = s.sent ∧ u.regs = s.regs)) ∧
    (s.fabAlive c = false ∨ s.laneState c l < 2 ∨ parseFab w = none →
      exec (.fabricFrameReceive t c l w g) s = .next (s.after t (s.upTo t)))) ∧
  (∀ (t : Nat) (c : Ch) (s : State),
    (s.routes = true → s.fabAlive c = true → (s.plane c).lsaDue = true ∨ (s.upTo t).since (s.plane c).lsaAt 30000000 = true →
      ∃ u, exec (.lsaOriginate t c) s = .next (s.after t u) ∧ (u.plane c).lsaSeq = ((s.plane c).lsaSeq + 1) % 4294967296 ∧
        (u.plane c).lsaDue = false ∧ (u.plane c).lsaAt = some (max s.now t) ∧ u.regs = s.regs ∧
        ∀ l ∈ s.neighbours c, ∃ b, Out.fabLane c l 3 b ∈ u.sent) ∧
    (s.routes = false ∨ s.fabAlive c = false ∨
        ((s.plane c).lsaDue = false ∧ (s.upTo t).since (s.plane c).lsaAt 30000000 = false) →
      exec (.lsaOriginate t c) s = .next (s.after t (s.upTo t)))) ∧
  (∀ (t : Nat) (c : Ch) (l : Fin 4) (a : Lsa) (hd : List Byte) (tag : Option (List Byte)) (s : State),
    (s.fabAlive c = true → s.laneState c l = 3 → s.lsaTagOk a hd tag = false →
      ∃ u, exec (.lsaReceive t c l a hd tag) s = .next (s.after t u) ∧
        u.g c Obj.fabAuthFails = wrapU32 (s.g c Obj.fabAuthFails + 1) ∧ u.fab = s.fab) ∧
    (s.fabAlive c = true → s.laneState c l = 3 → s.lsaTagOk a hd tag = true → a.uid ≠ Config.deviceUid →
      (s.routes = true → a.node ≠ s.fab.addr → (s.plane c).isNew a = true →
        ∃ u, exec (.lsaReceive t c l a hd tag) s = .next (s.after t u) ∧
          (u.plane c).lsas.head? = some ⟨a, max s.now t⟩ ∧
          ∀ k ∈ s.neighbours c, k ≠ l.val → ∃ b, Out.fabLane c k 3 b ∈ u.sent) ∧
      (a.node = s.fab.addr → a.node ≠ 0 → a.uid < Config.deviceUid →
        ∃ u, exec (.lsaReceive t c l a hd tag) s = .next (s.after t u) ∧ u.fab.conflict = true ∧
          (u.plane c).lsas = (s.plane c).lsas) ∧
      (a.node ≠ s.fab.addr → s.routes = false ∨ (s.plane c).isNew a = false →
        exec (.lsaReceive t c l a hd tag) s = .next (s.after t (s.upTo t)))) ∧
    (s.fabAlive c = false ∨ s.laneState c l ≠ 3 ∨ (s.lsaTagOk a hd tag = true ∧ a.uid = Config.deviceUid) →
      exec (.lsaReceive t c l a hd tag) s = .next (s.after t (s.upTo t)))) ∧
  (∀ (t : Nat) (c : Ch) (n : Fin 255) (s : State), ∃ u, exec (.lsaExpiry t c n) s = .next (s.after t u) ∧
    ∀ h, h ∈ (u.plane c).lsas ↔ h ∈ (s.plane c).lsas ∧ ¬(h.lsa.node = n.val ∧ h.at_ + 105000000 ≤ max s.now t)) ∧
  (∀ (t : Nat) (c : Ch) (n : Fin 4096) (s : State),
    (∀ b, (n.val, b) ∈ (s.plane c).degraded → b + 3000000 < max s.now t →
      ∃ u, exec (.pathDegradedTimeout t c n) s = .next (s.after t u) ∧
        u.sent = Out.health clsFabric (0xA200 + n.val / 8) :: s.sent) ∧
    ((∀ b, (n.val, b) ∈ (s.plane c).degraded → max s.now t ≤ b + 3000000) →
      exec (.pathDegradedTimeout t c n) s = .next (s.after t (s.upTo t))))

/-- R370 to R385: messages and time on the fabric. `u` is the state as the command leaves it. -/
def Obligations.FabricCarriesMessagesAndTime : Prop :=
  (∀ (t : Nat) (n : Fin 4096) (d : Fin 255) (p : List Byte) (s : State),
    (p.length ≤ 2048 → s.routes = true → s.streamOn n = true →
      ∃ u, exec (.streamSend t n d p) s = .next (s.after t u) ∧ ∀ c, s.takesPart c = true → s.fabAlive c = true →
        (u.plane c).seqs.getD n 0 = ((s.plane c).seqs.getD n 0 + (if p.length ≤ 1024 then 1 else 2)) % 65536 ∧
        (s.streamRate n = 0 → ∀ x ∈ s.firstLanes c n (if s.streamDest n = 0 then d else s.streamDest n),
          ∃ b, Out.fabLane c x.1 1 b ∈ u.sent) ∧
        (p.length ≤ 1024 → s.firstLanes c n (if s.streamDest n = 0 then d else s.streamDest n) = [] →
          u.g c Obj.fabNoRoute = wrapU32 (s.g c Obj.fabNoRoute + 1))) ∧
    (2048 < p.length ∨ s.routes = false ∨ s.streamOn n = false →
      exec (.streamSend t n d p) s = .next (s.after t (s.upTo t)))) ∧
  (∀ (t : Nat) (c : Ch) (s : State),
    (∀ w r, (s.plane c).inbox = w :: r →
      ∃ u, exec (.dataFrameAccept t c) s = .next (s.after t u) ∧ (u.plane c).inbox = r ∧
        (parseFab w = none ∨ s.routes = false → u.regs = s.regs ∧ u.fab.delivered = s.fab.delivered) ∧
        ∀ f, parseFab w = some f → s.routes = true →
          (s.streamOn f.stream = false ∨ (s.streamSrc f.stream ≠ 0 ∧ s.streamSrc f.stream ≠ f.src) →
            u.fab.delivered = s.fab.delivered ∧ u.g c Obj.fabStreamReject = wrapU32 (s.g c Obj.fabStreamReject + 1)) ∧
          (s.streamOn f.stream = true → s.streamSrc f.stream = 0 ∨ s.streamSrc f.stream = f.src →
            (s.tagOk f = false → u.fab.delivered = s.fab.delivered ∧
              u.g c Obj.fabAuthFails = wrapU32 (s.g c Obj.fabAuthFails + 1)) ∧
            (s.tagOk f = true → s.streamRedundant f.stream = false →
              s.streamAuth f.stream = false → s.streamAgree f.stream = false → bit f.flags 7 = false → (s.plane c).parts = [] →
              u.fab.delivered = ((Trio.all false).set c true, f.src, f.stream, f.payload) :: s.fab.delivered))) ∧
    ((s.plane c).inbox = [] → exec (.dataFrameAccept t c) s = .next (s.after t (s.upTo t)))) ∧
  (∀ (p : Plane) (src n q t t' : Nat), ((p.eliminate src n q t).1.eliminate src n q t').2.1 = false) ∧
  (∀ (t : Nat) (n : Fin 4096) (src : Fin 255) (q : Nat) (s : State),
    (∀ m, s.agreeMsg n src q = some m →
      (∀ d, s.agreed m = some d → max s.now t ≤ m.first + s.vn Obj.fabAgreeWindow * 300 →
        ∃ u, exec (.payloadAgreed t n src q) s = .next (s.after t u) ∧ m ∉ u.fab.agree ∧
          u.fab.delivered = (⟨s.takesPart .chA, s.takesPart .chB, s.takesPart .chC⟩, m.src, m.stream, d) :: s.fab.delivered) ∧
      (s.agreed m = none ∨ m.first + s.vn Obj.fabAgreeWindow * 300 < max s.now t →
        exec (.payloadAgreed t n src q) s = .next (s.after t (s.upTo t))) ∧
      (s.agreed m = none → m.first + s.vn Obj.fabAgreeWindow * 300 ≤ max s.now t →
        ∃ u, exec (.fabricAgreeFail t n src q) s = .next (s.after t u) ∧ m ∉ u.fab.agree ∧
          u.fab.delivered = s.fab.delivered ∧ u.g .chA Obj.fabAgreeFail = wrapU32 (s.g .chA Obj.fabAgreeFail + 1)) ∧
      (s.agreed m ≠ none ∨ max s.now t < m.first + s.vn Obj.fabAgreeWindow * 300 →
        exec (.fabricAgreeFail t n src q) s = .next (s.after t (s.upTo t)))) ∧
    (s.agreeMsg n src q = none → exec (.payloadAgreed t n src q) s = .next (s.after t (s.upTo t)) ∧
      exec (.fabricAgreeFail t n src q) s = .next (s.after t (s.upTo t)))) ∧
  (∀ (t : Nat) (c : Ch) (n : Fin 4096) (src : Fin 255) (s : State),
    ∃ u, exec (.messageContinuationTimeout t c n src) s = .next (s.after t u) ∧
      ∀ x, x ∈ (u.plane c).parts ↔ x ∈ (s.plane c).parts ∧ ¬(x.stream = n.val ∧ x.src = src.val ∧ x.at_ + 30000 ≤ max s.now t)) ∧
  (∀ (t m : Nat) (s : State), s.voters ≠ [] → (∀ c, s.takesPart c = true → s.masterOf c = m) →
    (∃ u, exec (.timeMasterChange t) s = .next (s.after t u) ∧ u.fab.master = m) ∧
    (s.fab.discoveryAt = none → (s.upTo t).since s.fab.exchAt 300000 = true →
      ∃ u, exec (.fabricStateExchange t) s = .next (s.after t u) ∧ u.fab.master = m)) ∧
  (∀ (t : Nat) (s : State),
    ((s.upTo t).since s.fab.exchAt 300000 = true →
      ∃ u, exec (.fabricStateExchange t) s = .next (s.after t u) ∧ u.fab.exchAt = some (max s.now t) ∧
        ∀ c, s.takesPart c = true → Out.strap c .placement (s.fabState c) ∈ u.sent) ∧
    ((s.upTo t).since s.fab.exchAt 300000 = false →
      exec (.fabricStateExchange t) s = .next (s.after t (s.upTo t))) ∧
    (s.isTimeMaster = true → s.routes = true → (s.upTo t).since s.fab.syncAt 300000 = true →
      ∃ u, exec (.timeSyncSend t) s = .next (s.after t u) ∧ u.fab.syncAt = some (max s.now t) ∧ u.regs = s.regs ∧
        ∀ c, s.takesPart c = true → ∀ l ∈ s.neighbours c, ∃ b, Out.fabLane c l 4 b ∈ u.sent) ∧
    (s.isTimeMaster = false ∨ s.routes = false ∨ (s.upTo t).since s.fab.syncAt 300000 = false →
      exec (.timeSyncSend t) s = .next (s.after t (s.upTo t)))) ∧
  (∀ (t m k b : Nat) (c : Ch) (l : Fin 4) (d : Int) (s : State), b = max s.now t + s.syncStep c l m d →
    (s.takesSync c l m = true → ∃ u, exec (.timeSyncReceive t c l m d k) s = .next (s.after b u) ∧
      (∀ j ∈ s.downstream c, ∃ x, Out.fabLane c j 4 x ∈ u.sent) ∧
      (s.follows c = true → (u.plane c).lastSync = some b ∧ u.fab.holdTime = false ∧ u.isBit Obj.timeStatus 3 = false ∧
        u.v Obj.timeOffset = clamp (-2147483648) 2147483647 d) ∧
      (s.follows c = false → u.regs = s.regs ∧ (u.plane c).lastSync = (s.plane c).lastSync)) ∧
    (s.takesSync c l m = false → exec (.timeSyncReceive t c l m d k) s = .next (s.after t (s.upTo t)))) ∧
  (∀ (t d : Nat) (c : Ch) (l : Fin 4) (s : State),
    (s.fabAlive c = true → s.laneState c l = 3 →
      (∃ u b, exec (.pdelayReq t c l true) s = .next (s.after t u) ∧ u.fab = s.fab ∧ u.sent = Out.fabLane c l 6 b :: s.sent) ∧
      ((s.upTo t).since (s.fabLane c l).pdelayAt 30000000 = true →
        ∃ u b, exec (.pdelayReq t c l false) s = .next (s.after t u) ∧ (u.fabLane c l).pdelayAt = some (max s.now t) ∧
          u.sent = Out.fabLane c l 5 b :: s.sent) ∧
      ((s.upTo t).since (s.fabLane c l).pdelayAt 30000000 = false →
        exec (.pdelayReq t c l false) s = .next (s.after t (s.upTo t))) ∧
      ∃ u, exec (.pdelayResp t c l d) s = .next (s.after t u) ∧ u.v (Obj.laneDelay c l) = (min 65535 d : Nat)) ∧
    (s.fabAlive c = false ∨ s.laneState c l ≠ 3 →
      (∀ r, exec (.pdelayReq t c l r) s = .next (s.after t (s.upTo t))) ∧
        exec (.pdelayResp t c l d) s = .next (s.after t (s.upTo t)))) ∧
  (∀ (t : Nat) (s : State),
    (s.su.injDone = true → s.su.discovered = false → (s.upTo t).discoveryOver = true →
      ∃ u, exec (.fabricDiscoveryEnd t) s = .next (s.after t u) ∧ u.su.discovered = true ∧ u.fab.strapVoted = true) ∧
    (s.su.injDone = false ∨ s.su.discovered = true ∨ (s.upTo t).discoveryOver = false →
      exec (.fabricDiscoveryEnd t) s = .next (s.after t (s.upTo t))))

/-- R391 to R403: pairing, heartbeats and roles. `u` is the state as the command leaves it. -/
def Obligations.PairingAndHeartbeats : Prop :=
  (∀ (t b : Nat) (l : List Byte) (s : State), s.twin.request = some (b, l) →
    (s.vn Obj.twinState = 1 → (s.upTo t).since s.twin.pairSent 3000000 = true →
      ∃ u, exec (.pairingRequestSend t) s = .next (s.after t u) ∧ u.twin.pairSent = some (max s.now t) ∧
        ∀ c, s.takesPart c = true → Out.fabric c 0x0FF8 (s.pairBytes l) ∈ u.sent) ∧
    (s.vn Obj.twinState ≠ 1 ∨ (s.upTo t).since s.twin.pairSent 3000000 = false →
      exec (.pairingRequestSend t) s = .next (s.after t (s.upTo t))) ∧
    (∀ r : PairReq,
      (s.vn Obj.twinState = 1 → max s.now t ≤ b + 3000000000 →
        (∀ k, s.pairCause r = some k → ∃ u, exec (.pairingRequestReceive t r) s = .next (s.after t u) ∧
          u.v Obj.twinState = 0 ∧ u.v Obj.twinPairResult = (k : Int) ∧ u.twin.request = none ∧ u.twin.paired = s.twin.paired) ∧
        (s.pairCause r = none → s.allStill = true → ∃ u, exec (.pairingRequestReceive t r) s = .next (s.after t u) ∧
          u.v Obj.twinState = 2 ∧ u.v Obj.twinPairResult = 1 ∧ u.v Obj.twinEpoch = 1 ∧ u.twin.paired = true ∧
          u.twin.key = pairingKey Config.deviceUid (s.vn Obj.twinPeerUid) l r.random) ∧
        (s.pairCause r = none → s.allStill = false → ∃ u, exec (.pairingRequestReceive t r) s = .next (s.after t u) ∧
          u.v Obj.twinState = 0 ∧ u.v Obj.twinPairResult = 6)) ∧
      (s.vn Obj.twinState ≠ 1 ∨ b + 3000000000 < max s.now t →
        exec (.pairingRequestReceive t r) s = .next (s.after t (s.upTo t)))) ∧
    (s.vn Obj.twinState = 1 → s.allStill = false → ∃ u, exec (.pairingLapse t) s = .next (s.after t u) ∧ u.v Obj.twinState = 0 ∧
      u.v Obj.twinPairResult = 6 ∧ u.twin.request = none) ∧
    (s.vn Obj.twinState = 1 → s.allStill = true → b + 3000000000 ≤ max s.now t →
      ∃ u, exec (.pairingLapse t) s = .next (s.after t u) ∧
        u.v Obj.twinState = 0 ∧ u.v Obj.twinPairResult = 2 ∧ u.twin.request = none) ∧
    (s.vn Obj.twinState ≠ 1 ∨ (s.allStill = true ∧ max s.now t < b + 3000000000) →
      exec (.pairingLapse t) s = .next (s.after t (s.upTo t)))) ∧
  (∀ (t : Nat) (r : PairReq) (s : State), s.twin.request = none →
    exec (.pairingRequestSend t) s = .next (s.after t (s.upTo t)) ∧
      exec (.pairingRequestReceive t r) s = .next (s.after t (s.upTo t)) ∧
        exec (.pairingLapse t) s = .next (s.after t (s.upTo t))) ∧
  (∀ (t : Nat) (s : State),
    (∀ x, s.twin.paired = true → s.twin.unpairOwn = some x → x ≤ max s.now t + 3000000000 → max s.now t ≤ x + 3000000000 →
      ∃ u, exec (.unpairRequestReceive t) s = .next (s.after t u) ∧ u.twin.paired = false ∧ u.twin.key = [] ∧
        u.vn Obj.twinState = 0 ∧ u.v Obj.twinPairResult = 8) ∧
    (s.twin.paired = true →
      s.twin.unpairOwn = none ∨ (∃ x, s.twin.unpairOwn = some x ∧
        (max s.now t + 3000000000 < x ∨ x + 3000000000 < max s.now t)) →
      ∃ u, exec (.unpairRequestReceive t) s = .next (s.after t u) ∧ u.twin.paired = true ∧
        u.twin.unpairPeer = some (max s.now t) ∧ u.regs = s.regs) ∧
    (s.twin.paired = false → exec (.unpairRequestReceive t) s = .next (s.after t (s.upTo t)))) ∧
  (∀ (t : Nat) (s : State),
    (s.beats = true → max s.now t % 15000 = 0 → s.marks.getD markBeat 0 ≠ max s.now t + 1 →
      ∃ u, exec (.heartbeatSend t) s = .next (s.after t u) ∧ u.regs = s.regs ∧
        (s.twin.paired = true → ∀ (c : Ch) (h : List Byte), s.running c = true →
          h = (s.upTo t).withdraw.hbHead (s.vn Obj.twinPeerAddr) →
          Out.fabric c 0x0D00 (h ++ (hmac s.twin.key h).take 8) ∈ u.sent) ∧
        (s.isSpare = true → ∀ c : Ch, s.running c = true → ∃ h, Out.fabric c 0x0D08 h ∈ u.sent)) ∧
    (s.beats = false ∨ max s.now t % 15000 ≠ 0 ∨ s.marks.getD markBeat 0 = max s.now t + 1 →
      exec (.heartbeatSend t) s = .next (s.after t (s.upTo t)))) ∧
  (∀ (t : Nat) (c : Ch) (n : Fin 255) (p : List Byte) (b : Beat) (s : State), parseBeat p (max s.now t) n = b →
    (s.beats = true → s.running c = true → s.acceptsBeat n p = false →
      ∃ u, exec (.heartbeatReceive t c n p) s = .next (s.after t u) ∧ u.twin = s.twin ∧
        u.g c Obj.twinHbRejects = wrapU32 (s.g c Obj.twinHbRejects + 1)) ∧
    (s.beats = true → s.running c = true → s.acceptsBeat n p = true → (s.upTo t).settleHandback = s.upTo t →
      s.isSpare = false → bit b.flags 6 = false → b.redund ≠ 4 →
      ∃ u, exec (.heartbeatReceive t c n p) s = .next (s.after t u) ∧ u.twin.accepted.get c = true ∧ u.twin.lost = false ∧
        (s.vn Obj.twinState = 3 → newer b.epoch (s.vn Obj.twinEpoch) = true → s.red.state ≠ .single →
          u.v Obj.twinState = 5 ∧ u.v Obj.twinEpoch = (b.epoch : Int)) ∧
        (s.vn Obj.twinState = 3 → b.epoch = s.vn Obj.twinEpoch → bit b.flags 0 = true →
          u.v Obj.twinState = (if s.v Obj.twinPreferred = 0 then 5 else s.v Obj.twinState)) ∧
        (s.vn Obj.twinState = 3 → newer (s.vn Obj.twinEpoch) b.epoch = true → newer b.epoch (s.vn Obj.twinEpoch) = false →
          bit b.flags 0 = true →
          u.v Obj.twinState = s.v Obj.twinState ∧ u.v Obj.twinEpoch = s.v Obj.twinEpoch ∧
          u.g c Obj.twinStaleClaims = wrapU32 (s.g c Obj.twinStaleClaims + 1))) ∧
    (s.beats = false ∨ s.running c = false → exec (.heartbeatReceive t c n p) s = .next (s.after t (s.upTo t)))) ∧
  (∀ (t : Nat) (c : Ch) (s : State),
    (s.beats = true → s.running c = true → max s.now t % 15000 = 7500 →
      s.marks.getD (markBeatCheck c) 0 ≠ max s.now t + 1 → ∃ u, exec (.heartbeatCheck t c) s = .next (s.after t u) ∧
        u.twin.accepted.get c = false ∧ u.twin.epochOk.get c = true ∧
        (s.twin.accepted.get c = true → u.twin.misses.get c = 0 ∧ u.twin.reported.get c = false ∧ u.regs = s.regs) ∧
        (s.twin.accepted.get c = false → u.twin.misses.get c = s.twin.misses.get c + 1 ∧
          u.g c Obj.twinHbMisses = wrapU32 (s.g c Obj.twinHbMisses + 1) ∧
          (3 ≤ u.twin.misses.get c → u.twin.reported.get c = true))) ∧
    (s.beats = false ∨ s.running c = false ∨ max s.now t % 15000 ≠ 7500 ∨
        s.marks.getD (markBeatCheck c) 0 = max s.now t + 1 →
      exec (.heartbeatCheck t c) s = .next (s.after t (s.upTo t)))) ∧
  (∀ (t : Nat) (s : State),
    (s.beats = true → s.twin.lost = false → s.isMajority s.twin.reported = true →
      ∃ u, exec (.twinLossReport t) s = .next (s.after t u) ∧ u.twin.lost = true ∧
        u.twin.lostAt = max s.now t ∧ (s.vn Obj.twinState = 4 → s.soundState = true → s.red.arb = none → u.v Obj.twinState = 3 ∧
          u.v Obj.twinEpoch = (s.nextEpoch : Int) ∧ u.g .chA Obj.twinTakeovers = wrapU32 (s.g .chA Obj.twinTakeovers + 1)) ∧
        (s.red.arb.isSome = true ∨ s.red.state = .single → u.red.state = .passive)) ∧
    (s.beats = false ∨ s.twin.lost = true ∨ s.isMajority s.twin.reported = false →
      exec (.twinLossReport t) s = .next (s.after t (s.upTo t)))) ∧
  (∀ (t : Nat) (s : State),
    ((s.upTo t).handshakeOver = true → ∃ u, exec (.twinHandshakeEnd t) s = .next (s.after t u) ∧ u.twin.handshake = none ∧
      (s.red.state ≠ .startup →
        (s.twin.beat = none → u.v Obj.twinState = 3 ∧ u.v Obj.twinEpoch = (s.nextEpoch : Int)) ∧
        (∀ b, s.twin.beat = some b → bit b.flags 0 = true → u.v Obj.twinState = 4 ∧ u.vn Obj.twinEpoch = b.epoch) ∧
        (∀ b, s.twin.beat = some b → bit b.flags 0 = false →
          u.v Obj.twinState = (if s.v Obj.twinPreferred = 1 then 3 else 4)))) ∧
    ((s.upTo t).handshakeOver = false → exec (.twinHandshakeEnd t) s = .next (s.after t (s.upTo t))))

/-- R399, R406 to R413: eligibility, handback, the mirror, reports and the spare. `u` is the state as the command leaves it. -/
def Obligations.ControlChangesHands : Prop :=
  (∀ (t : Nat) (s : State),
    (∀ b, s.twin.since = some b → (∀ m, s.twin.lastMiss = some m → m ≤ b) → s.eligNow = true →
      b + s.vn Obj.twinEligibleTime * 300000 ≤ max s.now t → ∃ u, exec (.eligible t) s = .next (s.after t u) ∧
      u.twin.eligible = true ∧ u.v Obj.twinState = (if s.vn Obj.twinState = 5 then 4 else s.v Obj.twinState)) ∧
    (s.twin.since = none ∨ s.eligNow = false ∨
        (∃ b, s.twin.since = some b ∧ (max s.now t < b + s.vn Obj.twinEligibleTime * 300000 ∨
          ∃ m, s.twin.lastMiss = some m ∧ b < m)) →
      exec (.eligible t) s = .next (s.after t (s.upTo t)))) ∧
  (∀ (t : Nat) (s : State),
    (s.vn Obj.twinState = 4 → s.v Obj.twinPreferred = 1 → s.twin.eligible = true →
      s.twin.handback = none → s.twinThere = true ∨ s.twin.spareHolds = true → (s.upTo t).quiet = true →
      ∃ u h, exec (.quietWindowMet t) s = .next (s.after t u) ∧ u.twin.handback = some h ∧
        u.twin.acked = false ∧ (max s.now t / 15000 + 1) * 15000 + 60000 ≤ h ∧ u.regs = s.regs) ∧
    (s.vn Obj.twinState ≠ 4 ∨ s.v Obj.twinPreferred ≠ 1 ∨ s.twin.eligible = false ∨ s.twin.handback ≠ none ∨
        (s.twinThere = false ∧ s.twin.spareHolds = false) ∨ (s.upTo t).quiet = false →
      exec (.quietWindowMet t) s = .next (s.after t (s.upTo t)))) ∧
  (∀ (t : Nat) (s : State),
    (s.red.state = .nominal ∨ s.red.state = .dual →
      (∀ h, s.twin.handback = some h → h ≤ max s.now t →
        ∃ u, exec (.handbackAt t) s = .next (s.after t u) ∧ u.twin.handback = none ∧
          (s.twin.acked = true → u.v Obj.twinState = 3 ∧ u.v Obj.twinEpoch = (s.nextEpoch : Int) ∧
            u.g .chA Obj.twinFailbacks = wrapU32 (s.g .chA Obj.twinFailbacks + 1)) ∧
          (s.twin.acked = false → u.regs = s.regs)) ∧
      (∀ h, s.twin.handback = some h → max s.now t < h → exec (.handbackAt t) s = .next (s.after t (s.upTo t)))) ∧
    (∀ h, s.twin.handback = none → s.twin.peerHandback = some h →
      (h.at_ ≤ max s.now t →
        ∃ u, exec (.handbackAt t) s = .next (s.after t u) ∧ u.v Obj.twinState = (if s.vn Obj.twinState = 9 then 8 else 4) ∧
          u.v Obj.twinEpoch = (s.nextEpoch : Int) ∧ u.twin.peerHandback = none) ∧
      (max s.now t < h.at_ → exec (.handbackAt t) s = .next (s.after t (s.upTo t)))) ∧
    (s.twin.handback ≠ none → s.red.state ≠ .nominal → s.red.state ≠ .dual →
      ∃ u, exec (.handbackAt t) s = .next (s.after t u) ∧ u.twin.handback = none ∧ u.twin.acked = false) ∧
    (s.twin.handback = none → s.twin.peerHandback = none → exec (.handbackAt t) s = .next (s.after t (s.upTo t)))) ∧
  (∀ (t o : Nat) (v : Int) (s : State),
    (s.beats = true → o < 2048 → s.isMirrored o = true → s.dictRef o = 0 →
      ∃ u, exec (.mirrorReceive t [(o, v)]) s = .next (s.after t u) ∧ u.objs = s.objs ∧ u.regs = s.regs ∧
        (s.claims = true → u.twin = s.twin) ∧
        (s.claims = false → s.vn Obj.twinState ≠ 0 → s.vn Obj.twinState ≠ 1 →
          u.twin.mirror.getD o none = some (v, max s.now t))) ∧
    (∀ b, s.twin.mirror = [(o, some (v, b))] → s.claims = false → s.entryRead o = false → s.dictRef o = 0 →
      s.applyMirror.twin.mirror = [] ∧ ∀ c, s.applyMirror.dobj c o = v)) ∧
  (∀ (t : Nat) (l : List (Nat × Int)) (s : State), s.beats = false ∨ (∀ p ∈ l, 2048 ≤ p.1 ∨ s.isMirrored p.1 = false) →
    exec (.mirrorReceive t l) s = .next (s.after t (s.upTo t))) ∧
  (∀ (t : Nat) (s : State),
    ((s.upTo t).since s.twin.reportAt 3000000 = true → ∃ u, exec (.healthReportSend t) s = .next (s.after t u) ∧
      u.v (Obj.hrUid 0) = (Config.deviceUid : Int) ∧ u.v (Obj.hrRedundState 0) = s.red.state.num ∧
      u.v (Obj.hrDeviceScore 0) = (s.upTo t).deviceScore ∧ u.v (Obj.hrEpoch 0) = (s.vn Obj.twinEpoch : Int) ∧
      u.v (Obj.hrFaultSummary 0) = ((s.upTo t).faultSummary : Int) ∧ u.v (Obj.hrTime 0) = (max s.now t : Nat) ∧
      u.twin.reportAt = some (max s.now t) ∧
      (s.twin.paired = true → ∀ c, s.takesPart c = true → Out.fabric c 0x0D02 (reportBytes (s.upTo t).ownReport) ∈ u.sent)) ∧
    ((s.upTo t).since s.twin.reportAt 3000000 = false → exec (.healthReportSend t) s = .next (s.after t (s.upTo t)))) ∧
  (∀ (t : Nat) (r : Report) (s : State),
    (s.twin.paired = true → r.uid = s.vn Obj.twinPeerUid → ∃ u, exec (.healthReportReceive t r) s = .next (s.after t u) ∧
      u.v (Obj.hrUid 1) = (r.uid : Int) ∧ u.v (Obj.hrEpoch 1) = (r.epoch : Int) ∧ u.v (Obj.hrTime 1) = (r.time : Int) ∧
      u.twin.lastReport = some (max s.now t) ∧ (s.vn Obj.twinState ≠ 3 → u.twin.degraded = s.twin.degraded) ∧
      (s.vn Obj.twinState = 3 → u.twin.degraded =
        decide (s.twin.lastReport ≠ none ∧ s.twin.lastFails < r.sliceFails ∨ ¬(r.redund = 1 ∨ r.redund = 2) ∨ r.score < 128 ∨
          3000 < r.sliceAge))) ∧
    (s.twin.paired = false ∨ r.uid ≠ s.vn Obj.twinPeerUid →
      exec (.healthReportReceive t r) s = .next (s.after t (s.upTo t)))) ∧
  (∀ (t : Nat) (s : State),
    (s.vn Obj.twinState = 3 → max s.twin.changedAt (s.twin.lastReport.getD 0) + 15000000 ≤ max s.now t →
      ∃ u, exec (.healthReportTimeout t) s = .next (s.after t u) ∧ u.twin.degraded = true ∧ u.regs = s.regs) ∧
    (s.vn Obj.twinState ≠ 3 ∨ max s.now t < max s.twin.changedAt (s.twin.lastReport.getD 0) + 15000000 →
      exec (.healthReportTimeout t) s = .next (s.after t (s.upTo t)))) ∧
  (∀ (t : Nat) (s : State),
    (s.isSpare = true → s.vn Obj.twinState = 8 → s.twin.lost = true → s.soundState = true →
      s.twin.lostAt + s.vn Obj.spareDelay * 300000 ≤ max s.now t → ∃ u, exec (.spareTakeover t) s = .next (s.after t u) ∧
      u.v Obj.twinState = 9 ∧ u.v Obj.twinEpoch = (s.nextEpoch : Int)) ∧
    (s.isSpare = false ∨ s.vn Obj.twinState ≠ 8 ∨ s.twin.lost = false ∨ s.soundState = false ∨
        max s.now t < s.twin.lostAt + s.vn Obj.spareDelay * 300000 →
      exec (.spareTakeover t) s = .next (s.after t (s.upTo t))))

/-- R417 to R419, R432 to R440, R448. `u` is the state as the command leaves it. -/
def Obligations.SafeInputsResetsAndUnlocks : Prop :=
  (∀ (t : Nat) (c : Ch) (i : Fin 6) (a b : Bool) (s : State),
    (max s.now t % 3000 = 0 → s.pairSampled c i = true → s.marks.getD (markPair c i) 0 ≠ max s.now t + 1 →
      ∃ u, exec (.safeInputSample t c i a b) s = .next (s.after t u) ∧
      (u.pair c i).runA = runOf (s.pair c i).runA a ∧ (u.pair c i).runB = runOf (s.pair c i).runB b ∧
      (u.pair c i).inA = acceptRun (s.pair c i).inA (runOf (s.pair c i).runA a) (s.vn (Obj.siFilter (pairNum c i))) ∧
      (u.pair c i).inB = acceptRun (s.pair c i).inB (runOf (s.pair c i).runB b) (s.vn (Obj.siFilter (pairNum c i))) ∧
      (u.pair c i).value = (u.pairAgrees c i == some true && (u.pair c i).inA == some true && !(u.pair c i).discrepancy &&
        !(u.pair c i).lost) ∧
      ∀ x, u.pairAgrees c i = some false → (s.pair c i).start = some x →
        x + s.vn (Obj.siDiscTime (pairNum c i)) * 30000 < max s.now t → (u.pair c i).discrepancy = true) ∧
    (max s.now t % 3000 ≠ 0 ∨ s.pairSampled c i = false ∨ s.marks.getD (markPair c i) 0 = max s.now t + 1 →
      exec (.safeInputSample t c i a b) s = .next (s.after t (s.upTo t)))) ∧
  (∀ (t : Nat) (c : Ch) (i : Fin 6) (s : State),
    (∀ x, (s.pair c i).start = some x → s.pairAgrees c i = some false →
      x + s.vn (Obj.siDiscTime (pairNum c i)) * 30000 < max s.now t → ∃ u,
        exec (.discrepancy t c i) s = .next (s.after t u) ∧ (u.pair c i).discrepancy = true ∧ (u.pair c i).value = false) ∧
    ((s.pair c i).start = none ∨ s.pairAgrees c i ≠ some false ∨
        (∃ x, (s.pair c i).start = some x ∧ max s.now t ≤ x + s.vn (Obj.siDiscTime (pairNum c i)) * 30000) →
      exec (.discrepancy t c i) s = .next (s.after t (s.upTo t)))) ∧
  (∀ (t r : Nat) (c : Ch) (i : Bool) (s : State),
    (max s.now t % 3000 = 0 → (s.upTo t).frstHigh c r = true → r + 9000 ≤ max s.now t →
      ∃ u, exec (.frstPulse t c r i) s = .next (s.after t u) ∧ (u.safe.frst.get c).lastFall = some (max s.now t) ∧
        (u.safe.frst.get c).stuck = false ∧
        ((s.safe.frst.get c).stuck = true → u.v Obj.resetRejects = s.v Obj.resetRejects ∧
          (u.safe.frst.get c).qualified = (s.safe.frst.get c).qualified) ∧
        ((s.safe.frst.get c).stuck = false → (i = true ∨ s.frstFirst c r = true → u.regs = s.regs ∧
          (u.safe.frst.get c).qualified = (s.safe.frst.get c).qualified) ∧
        (i = false → s.frstFirst c r = false →
          (max s.now t < r + 306000 ∨ r + 1500006000 < max s.now t →
            u.v Obj.resetRejects = wrapU32 (s.v Obj.resetRejects + 1) ∧
            (u.safe.frst.get c).qualified = (s.safe.frst.get c).qualified) ∧
          (r + 306000 ≤ max s.now t → max s.now t ≤ r + 1500006000 →
            (u.safe.frst.get c).qualified = some (max s.now t) ∧ u.regs = s.regs)))) ∧
    (max s.now t % 3000 ≠ 0 ∨ (s.upTo t).frstHigh c r = false ∨ max s.now t < r + 9000 →
      exec (.frstPulse t c r i) s = .next (s.after t (s.upTo t)))) ∧
  (∀ (t : Nat) (s : State),
    (∀ l, isCommit (max s.now t) = true → s.agreedPulse = some l → ∃ u, exec (.pinReset t) s = .next (s.after t u) ∧
      u.v Obj.resetCount = wrapU32 (s.v Obj.resetCount + 1) ∧ u.v Obj.lastResetTime = (max s.now t : Nat) ∧
      (∀ c, u.v (Obj.opFaultMap c) = 0 ∧ (u.safe.frst.get c).qualified = none) ∧
      (u.isBit Obj.resetStatus 2 = true ↔ ∃ c, s.takesPart c = true ∧ c ∉ l)) ∧
    (isCommit (max s.now t) = true → s.agreedPulse = none → ∃ u, exec (.pinReset t) s = .next (s.after t u) ∧
      (∀ c, (u.safe.frst.get c).qualified = (s.safe.frst.get c).qualified.filter fun x => max s.now t ≤ x + 3000000) ∧
      u.v Obj.resetCount = s.v Obj.resetCount ∧ u.safe.pairs = s.safe.pairs) ∧
    (isCommit (max s.now t) = false → exec (.pinReset t) s = .next (s.after t (s.upTo t)))) ∧
  (∀ (t r : Nat) (c : Ch) (s : State),
    ((s.upTo t).frstHigh c r = true → r + 1500006000 < max s.now t → (s.safe.frst.get c).stuck = false →
      ∃ u, exec (.resetStuck t (some (c, r))) s = .next (s.after t u) ∧ (u.safe.frst.get c).stuck = true ∧
        (u.safe.frst.get c).qualified = none ∧
        u.isBit Obj.resetStatus 0 = true ∧ u.v Obj.resetRejects = wrapU32 (s.v Obj.resetRejects + 1)) ∧
    ((s.upTo t).frstHigh c r = false ∨ max s.now t ≤ r + 1500006000 ∨ (s.safe.frst.get c).stuck = true →
      exec (.resetStuck t (some (c, r))) s = .next (s.after t (s.upTo t))) ∧
    (∀ b, s.safe.objHigh = some b → s.isBit Obj.resetStatus 1 = false → b + 1500000000 < max s.now t →
      ∃ u, exec (.resetStuck t none) s = .next (s.after t u) ∧
        u.isBit Obj.resetStatus 1 = true ∧ u.v Obj.resetRejects = wrapU32 (s.v Obj.resetRejects + 1)) ∧
    (s.safe.objHigh = none ∨ s.isBit Obj.resetStatus 1 = true ∨
        (∃ b, s.safe.objHigh = some b ∧ max s.now t ≤ b + 1500000000) →
      exec (.resetStuck t none) s = .next (s.after t (s.upTo t)))) ∧
  (∀ (t : Nat) (cr : Carrier) (s : State),
    (∀ b, s.safe.unlocks.getD cr.num none = some b → b + s.vn Obj.unlockIdle * 300000000 ≤ max s.now t →
      ∃ u, exec (.unlockIdleExpiry t cr) s = .next (s.after t u) ∧ u.safe.unlocks.getD cr.num none = none) ∧
    (s.safe.unlocks.getD cr.num none = none ∨ (∃ b, s.safe.unlocks.getD cr.num none = some b ∧
        max s.now t < b + s.vn Obj.unlockIdle * 300000000) →
      exec (.unlockIdleExpiry t cr) s = .next (s.after t (s.upTo t)))) ∧
  (∀ (t : Nat) (s : State),
    (∀ e, s.safe.lockEnd = some e → e ≤ max s.now t →
      ∃ u, exec (.lockoutEnd t) s = .next (s.after t u) ∧ u.safe.lockEnd = none) ∧
    (s.safe.lockEnd = none ∨ (∃ e, s.safe.lockEnd = some e ∧ max s.now t < e) →
      exec (.lockoutEnd t) s = .next (s.after t (s.upTo t)))) ∧
  (∀ (t : Nat) (c : Ch) (r : Fin 5) (mv x : Nat) (s : State),
    (s.arch.alive.get c = true → s.railOk c r mv = false → x + 600 < max s.now t →
      ∃ u, exec (.supplyFault t c r mv x) s = .next (s.after t u) ∧ u.red.faulty.get c = true ∧
      u.isBit (Obj.chFaultCause c) cfSupply = true ∧ u.safe.supply.get c = true ∧ bit (u.safe.rails.get c : Int) r = true) ∧
    (s.arch.alive.get c = true → s.railOk c r mv = true →
      ∃ u, exec (.supplyFault t c r mv x) s = .next (s.after t u) ∧ u.red = s.red ∧ u.regs = s.regs ∧
        u.safe.supply = s.safe.supply ∧ bit (u.safe.rails.get c : Int) r = false) ∧
    (s.arch.alive.get c = false ∨ (s.railOk c r mv = false ∧ max s.now t ≤ x + 600) →
      exec (.supplyFault t c r mv x) s = .next (s.after t (s.upTo t))))

/-- R424 to R429: the tests of the permit outputs. `u` is the state as the command leaves it. -/
def Obligations.OffPulseTestsLatchFaults : Prop :=
  (∀ (t : Nat) (c : Ch) (j : Fin 8) (s : State),
    (max s.now t % 15000000 = (8 * c.num + j.val) * 625000 → s.mayPulse c j = true →
      ∃ u, exec (.offPulseStart t c j) s = .next (s.after t u) ∧ (u.test c j).pulse = some (max s.now t) ∧ u.regs = s.regs) ∧
    (max s.now t % 15000000 ≠ (8 * c.num + j.val) * 625000 ∨ s.mayPulse c j = false →
      exec (.offPulseStart t c j) s = .next (s.after t (s.upTo t)))) ∧
  (∀ (t : Nat) (c : Ch) (j : Fin 8) (r : Bool) (s : State),
    (∀ b, (s.test c j).pulse = some b → b + s.vn Obj.opWidth ≤ max s.now t →
      ∃ u, exec (.offPulseEnd t c j r) s = .next (s.after t u) ∧
      (u.test c j).pulse = none ∧
      (r = false → (u.test c j).lastPass = max s.now t ∧ u.isBit (Obj.opUntestedMap c) j = false ∧
        ((s.test c j).fail = none ∨ (∃ d, (s.test c j).fail = some (true, d) ∧ d ≤ b) → (u.test c j).fail = none)) ∧
      (r = true → (s.test c j).fail = none → (u.test c j).fail = some (true, max s.now t + 300000) ∧ u.regs = s.regs) ∧
      (∀ k d, (s.test c j).fail = some (k, d) → k = false ∨ b < d →
        (u.test c j).fail = some (k, d) ∧ (r = true → u.regs = s.regs)) ∧
      (∀ d, r = true → (s.test c j).fail = some (true, d) → d ≤ b → u.isBit (Obj.opFaultMap c) j = true ∧
        u.v (Obj.opFails c) = wrapU32 (s.v (Obj.opFails c) + 1) ∧ u.v (Obj.opLastFail c) = (max s.now t : Nat) ∧
        (u.test c j).fail = none)) ∧
    ((s.test c j).pulse = none ∨ (∃ b, (s.test c j).pulse = some b ∧ max s.now t < b + s.vn Obj.opWidth) →
      exec (.offPulseEnd t c j r) s = .next (s.after t (s.upTo t)))) ∧
  (∀ (t : Nat) (c : Ch) (j : Fin 8) (s : State),
    ((s.test c j).pulse = none → s.permitFault c j = false → s.arch.started.get c = true → s.ioLive c = true →
      (s.test c j).changed + 600 ≤ max s.now t → ∃ u, exec (.readbackMismatch t c j) s = .next (s.after t u) ∧
      (u.test c j).fail = some ((s.test c j).fail.getD (false, max s.now t + 300000)) ∧ u.regs = s.regs ∧
      (j.val < 4 → (u.slot c j).enrb = !s.demanded c j) ∧ (4 ≤ j.val → (u.arm c (j - 4)).rb = !s.demanded c j)) ∧
    ((s.test c j).pulse.isSome = true ∨ s.permitFault c j = true ∨ s.arch.started.get c = false ∨ s.ioLive c = false ∨
        max s.now t < (s.test c j).changed + 600 →
      exec (.readbackMismatch t c j) s = .next (s.after t (s.upTo t)))) ∧
  (∀ (t : Nat) (c : Ch) (j : Fin 8) (r : Bool) (s : State),
    (∀ k d, (s.test c j).fail = some (k, d) → (s.test c j).pulse = none → d ≤ max s.now t →
      (k = true → s.demanded c j = true →
        (s.mayPulse c j = true → ∃ u, exec (.offPulseRetest t c j r) s = .next (s.after t u) ∧
          (u.test c j).pulse = some (max s.now t) ∧ (u.test c j).fail = some (k, d)) ∧
        (s.mayPulse c j = false → exec (.offPulseRetest t c j r) s = .next (s.after t (s.upTo t)))) ∧
      (k = false ∨ s.demanded c j = false → d + 300 ≤ max s.now t → (s.test c j).changed + 600 ≤ max s.now t →
        s.arch.started.get c = true → s.ioLive c = true →
        ∃ u, exec (.offPulseRetest t c j r) s = .next (s.after t u) ∧ (u.test c j).fail = none ∧
          (r = s.demanded c j → u.regs = s.regs) ∧ (r ≠ s.demanded c j → u.isBit (Obj.opFaultMap c) j = true ∧
            u.v (Obj.opFails c) = wrapU32 (s.v (Obj.opFails c) + 1))) ∧
      (k = false ∨ s.demanded c j = false → max s.now t < d + 300 ∨ max s.now t < (s.test c j).changed + 600 ∨
          s.arch.started.get c = false ∨ s.ioLive c = false →
        exec (.offPulseRetest t c j r) s = .next (s.after t (s.upTo t)))) ∧
    ((∃ k d, (s.test c j).fail = some (k, d) ∧ (max s.now t < d ∨ (s.test c j).pulse.isSome = true)) ∨
        ((s.test c j).fail = none ∧ ((s.test c j).after = none ∨ s.mayPulse c j = false)) →
      exec (.offPulseRetest t c j r) s = .next (s.after t (s.upTo t))) ∧
    (∀ x, (s.test c j).fail = none → (s.test c j).after = some x → s.mayPulse c j = true →
      ∃ u, exec (.offPulseRetest t c j r) s = .next (s.after t u) ∧ (u.test c j).pulse = some (max s.now t) ∧
        (u.test c j).after = none)) ∧
  (∀ (t : Nat) (c : Ch) (j : Fin 8) (s : State),
    (s.demanded c j = true → s.isBit (Obj.opUntestedMap c) j = false → (s.test c j).lastPass + 30000000 ≤ max s.now t →
      ∃ u, exec (.permitUntested t c j) s = .next (s.after t u) ∧
        u.isBit (Obj.opUntestedMap c) j = true ∧ u.sent = Out.health 8 (0x7048 + c.num) :: s.sent) ∧
    (s.demanded c j = false ∨ s.isBit (Obj.opUntestedMap c) j = true ∨ max s.now t < (s.test c j).lastPass + 30000000 →
      exec (.permitUntested t c j) s = .next (s.after t (s.upTo t))))

/-- R454 to R461: the power states. `u` is the state as the command leaves it. -/
def Obligations.PowerStatesChange : Prop :=
  (∀ (t : Nat) (c : Ch) (e : Fin 16) (s : State),
    (s.isBit Obj.sleepEnable 0 = true → s.power.ce = true → s.arch.started.get c = true →
      bit (s.power.nap.get c : Int) e = false → s.inTest c e = false → s.engineIdle c e = true →
      (s.power.used.get c).getD e 0 + s.vn Obj.napIdle * 300 ≤ max s.now t →
        ∃ u, exec (.napEntry t c e) s = .next (s.after t u) ∧ bit (u.power.nap.get c : Int) e = true ∧ u.regs = s.regs) ∧
    (s.isBit Obj.sleepEnable 0 = false ∨ s.power.ce = false ∨ s.arch.started.get c = false ∨
        bit (s.power.nap.get c : Int) e = true ∨ s.inTest c e = true ∨ s.engineIdle c e = false ∨
        max s.now t < (s.power.used.get c).getD e 0 + s.vn Obj.napIdle * 300 →
      exec (.napEntry t c e) s = .next (s.after t (s.upTo t))) ∧
    (s.napCause c e = true →
      ∃ u, exec (.napWake t c e) s = .next (s.after t u) ∧ bit (u.power.nap.get c : Int) e = false ∧ u.regs = s.regs) ∧
    (s.napCause c e = false → exec (.napWake t c e) s = .next (s.after t (s.upTo t)))) ∧
  (∀ (t : Nat) (s : State),
    (s.power.state = .run → s.red.state ≠ .startup → (s.upTo t).idleFor .retain = true → s.power.againRetain = none →
      (s.power.entering ≠ none ∨ s.power.waking = true → ∃ u, exec (.retainIdleExpiry t) s = .next (s.after t u) ∧
        u.power.queued = some (.retain, true) ∧ u.power.request = s.power.request) ∧
      (s.power.entering = none → s.power.waking = false →
        (isCommit (max s.now t) = false → ∃ u, exec (.retainIdleExpiry t) s = .next (s.after t u) ∧
          u.power.request = some (.retain, true) ∧ u.power.entering = none) ∧
        (isCommit (max s.now t) = true → (s.upTo t).refusers = [] → ∃ u, exec (.retainIdleExpiry t) s = .next (s.after t u) ∧
          u.power.entering = some .retain ∧ u.power.sleptAt = max s.now t) ∧
        (∀ x l, isCommit (max s.now t) = true → (s.upTo t).refusers = x :: l →
          ∃ u, exec (.retainIdleExpiry t) s = .next (s.after t u) ∧ u.power.entering = none ∧
            u.v Obj.refusalCount = wrapU32 (s.v Obj.refusalCount + 1) ∧ u.v Obj.lastRefuser = (x : Int) ∧
            u.power.againRetain = some (max s.now t + 3000000)))) ∧
    (s.power.state ≠ .run ∨ s.red.state = .startup ∨ (s.upTo t).idleFor .retain = false ∨ s.power.againRetain ≠ none →
      exec (.retainIdleExpiry t) s = .next (s.after t (s.upTo t))) ∧
    (s.power.state ≠ .park → s.red.state ≠ .startup → (s.upTo t).idleFor .park = true → s.power.againPark = none →
      s.power.request = none →
      (s.power.entering ≠ none ∨ s.power.waking = true → ∃ u, exec (.parkIdleExpiry t) s = .next (s.after t u) ∧
        u.power.queued = some (.park, true) ∧ u.power.request = none) ∧
      (s.power.entering = none → s.power.waking = false →
        (s.power.state = .retain ∨ isCommit (max s.now t) = false → ∃ u, exec (.parkIdleExpiry t) s = .next (s.after t u) ∧
          u.power.request = some (.park, true) ∧ u.power.entering = none ∧ (s.power.state = .retain → u.power.com = true)) ∧
        (s.power.state = .run → isCommit (max s.now t) = true → (s.upTo t).refusers = [] →
          ∃ u, exec (.parkIdleExpiry t) s = .next (s.after t u) ∧ u.power.entering = some .park) ∧
        (∀ x l, s.power.state = .run → isCommit (max s.now t) = true → (s.upTo t).refusers = x :: l →
          ∃ u, exec (.parkIdleExpiry t) s = .next (s.after t u) ∧ u.power.entering = none ∧
            u.v Obj.refusalCount = wrapU32 (s.v Obj.refusalCount + 1) ∧ u.power.againPark = some (max s.now t + 3000000)))) ∧
    (s.power.state = .park ∨ s.red.state = .startup ∨ (s.upTo t).idleFor .park = false ∨ s.power.againPark ≠ none ∨
        s.power.request ≠ none → exec (.parkIdleExpiry t) s = .next (s.after t (s.upTo t)))) ∧
  (∀ (t : Nat) (s : State),
    (isCommit (max s.now t) = true → s.power.entering = none → s.power.waking = false → (s.upTo t).refusers = [] →
      (∀ p, s.power.request = some p → s.power.sliceWait = none → s.maySleep p.1 = true →
        ∃ u, exec (.sleepReevaluation t) s = .next (s.after t u) ∧ u.power.entering = some p.1 ∧ u.power.request = none) ∧
      (∀ p, s.power.sliceWait = some p → s.turnRuns = false → p.2 = false ∨ (s.upTo t).idleFor p.1 = true →
        s.maySleep p.1 = true →
        ∃ u, exec (.sleepReevaluation t) s = .next (s.after t u) ∧ u.power.entering = some p.1 ∧ u.power.sliceWait = none) ∧
      (∀ b, s.power.request = none → s.power.sliceWait = none → s.power.againPark = none → s.power.state = .run →
        s.power.againRetain = some b → b ≤ max s.now t → (s.upTo t).idleFor .retain = true →
        ∃ u, exec (.sleepReevaluation t) s = .next (s.after t u) ∧ u.power.entering = some .retain)) ∧
    (∀ b, isCommit (max s.now t) = true → s.power.request = none → s.power.sliceWait = none → s.power.againPark = none →
      s.power.againRetain = some b → (s.upTo t).idleFor .retain = false →
      ∃ u, exec (.sleepReevaluation t) s = .next (s.after t u) ∧ u.power.againRetain = none ∧
        u.power.entering = s.power.entering ∧ u.regs = s.regs) ∧
    (isCommit (max s.now t) = false ∨ (s.power.request = none ∧ s.power.sliceWait = none ∧ s.power.againPark = none ∧
        s.power.againRetain = none) → exec (.sleepReevaluation t) s = .next (s.after t (s.upTo t)))) ∧
  (∀ (t : Nat) (s : State),
    (∀ p, s.power.entering = some p → p ≠ .run → ∃ u, exec (.sleepEntry t) s = .next (s.after t u) ∧
      u.power.state = p ∧ u.power.entering = none ∧ u.power.ce = false ∧ u.power.io = false ∧
      (s.power.queued = none → u.power.com = false) ∧
      (s.power.state = .run → u.v Obj.hostLaneStatus = 0 ∧ ∀ k c, (u.task k).rel.get c = none ∧ (u.task k).fin.get c = none)) ∧
    (s.power.entering = none → exec (.sleepEntry t) s = .next (s.after t (s.upTo t)))) ∧
  (∀ (t : Nat) (c : Ch) (k : Fin 9) (s : State),
    (s.arch.alive.get c = true → s.power.woken.get c = false → (s.upTo t).wakes c k = true →
      s.power.state ≠ .run ∨ s.power.entering ≠ none →
      ∃ u, exec (.wakeEvent t c k) s = .next (s.after t u) ∧ u.g c Obj.wakeCause = (k.val : Int) ∧ u.power.entering = none ∧
        u.power.queued = none ∧ (s.power.state ≠ .run → u.power.waking = true ∧ u.power.woken.get c = true)) ∧
    (s.arch.alive.get c = false ∨ s.power.woken.get c = true ∨ (s.upTo t).wakes c k = false ∨
        (s.power.state = .run ∧ s.power.entering = none) → exec (.wakeEvent t c k) s = .next (s.after t (s.upTo t)))) ∧
  (∀ (t : Nat) (s : State),
    (s.power.waking = true → (∀ c, s.takesPart c = true → s.power.woken.get c = true ∧ s.arch.alive.get c = true) →
      ∃ u, exec (.comUp t) s = .next (s.after t u) ∧ u.power.state = .run ∧ u.power.com = true ∧ u.power.waking = false ∧
        u.v Obj.wakeCount = wrapU32 (s.v Obj.wakeCount + 1) ∧ u.v Obj.lastWakeTime = (max s.now t : Nat) ∧
        u.isBit Obj.timeStatus 3 = true) ∧
    (s.power.waking = false ∨ (∃ c, s.takesPart c = true ∧ (s.power.woken.get c = false ∨ s.arch.alive.get c = false)) →
      exec (.comUp t) s = .next (s.after t (s.upTo t))) ∧
    (s.power.state = .run → s.power.com = true → s.power.io = false → s.domainsNeeded = true →
      ∃ u, exec (.domainWake t) s = .next (s.after t u) ∧ u.power.ce = true ∧ u.power.io = true ∧ u.power.nap = Trio.all 0) ∧
    (s.power.state ≠ .run ∨ s.power.com = false ∨ s.power.io = true ∨ s.domainsNeeded = false →
      exec (.domainWake t) s = .next (s.after t (s.upTo t))))

/-- R462 to R493: retention, levels, self-test and scan. `u` is the state as the command leaves it. -/
def Obligations.RetentionLevelsAndSelfTest : Prop :=
  (∀ (t n : Nat) (c : Ch) (l : List RetainBlock) (s : State),
    (s.power.state ≠ .run → s.arch.alive.get c = true → s.power.scrubAt.get c + 3000000000 ≤ max s.now t →
      ∃ u, exec (.scrubPass t c n l) s = .next (s.after t u) ∧ u.power.scrubAt.get c = max s.now t ∧
      u.g c Obj.scrubCorrected = wrapU32 (s.g c Obj.scrubCorrected + n) ∧
      u.g c Obj.scrubUncorrectable = wrapU32 (s.g c Obj.scrubUncorrectable + l.length) ∧
      (.feedback ∈ l → u.power.retainLoss = true ∧ u.power.lossFb.get c = true) ∧
      (.trims ∈ l → u.power.retainLoss = true ∧ u.power.lossTrim.get c = true) ∧
      (∀ e, .engine e ∈ l → s.power.state = .retain →
        u.power.retainLoss = true ∧ bit (u.power.lossEngine.get c : Int) (e % 16) = true)) ∧
    (s.power.state = .run ∨ s.arch.alive.get c = false ∨ max s.now t < s.power.scrubAt.get c + 3000000000 →
      exec (.scrubPass t c n l) s = .next (s.after t (s.upTo t)))) ∧
  (∀ (t : Nat) (c : Ch) (r : BlockRead) (s : State),
    (s.arch.alive.get c = true → s.power.mramAt.get c + s.mramInterval c ≤ max s.now t →
      ∃ u, exec (.mramRefreshBlock t c r) s = .next (s.after t u) ∧
      u.power.mramPtr.get c = (if s.power.mramPtr.get c = 2047 then 0 else s.power.mramPtr.get c + 1) ∧
      u.power.mramAt.get c = max s.now t ∧ (r = .good → u.regs = s.regs) ∧
      (r = .weak → u.g c Obj.mramRewritten = wrapU32 (s.g c Obj.mramRewritten + 1)) ∧
      (r = .lostShared → u.g c Obj.mramUncorrectable = wrapU32 (s.g c Obj.mramUncorrectable + 1) ∧
        u.power.repairs.get c = s.power.repairs.get c + 1) ∧
      (∀ k, r = .lostSummary k → u.g c Obj.mramUncorrectable = wrapU32 (s.g c Obj.mramUncorrectable + 1) ∧
        u.isBit (Obj.sedSumValid c) (k % 8) = false)) ∧
    (s.arch.alive.get c = false ∨ max s.now t < s.power.mramAt.get c + s.mramInterval c →
      exec (.mramRefreshBlock t c r) s = .next (s.after t (s.upTo t)))) ∧
  (∀ (t : Nat) (c : Ch) (x : PlChange) (s : State), s.power.changes.get c = some x →
    (x.phase = 0 → ∃ u, exec (.vddcSettled t c) s = .next (s.after t u) ∧ u.isBit (Obj.plStatus c) 2 = false ∧
      u.power.changes.get c = some { x with phase := 2, start := max s.now t }) ∧
    (3 ≤ x.phase → ∃ u, exec (.vddcSettled t c) s = .next (s.after t u) ∧ u.isBit (Obj.plStatus c) 3 = false ∧
      u.power.changes.get c = none) ∧
    (x.phase = 1 ∨ x.phase = 2 → exec (.vddcSettled t c) s = .next (s.after t (s.upTo t))) ∧
    (x.start + s.vn Obj.plVoltTimeout * 300000 ≤ max s.now t →
      (x.phase = 0 → ∃ u, exec (.plVoltTimeout t c) s = .next (s.after t u) ∧ u.isBit (Obj.plStatus c) 4 = true ∧
        (s.power.plWait.get c = none → u.power.changes.get c = none ∧
          u.v (Obj.plVddcMv c) = (plVolt (s.vn (Obj.plNow c)) : Int))) ∧
      (x.phase = 3 → ∃ u, exec (.plVoltTimeout t c) s = .next (s.after t u) ∧ u.regs = s.regs ∧
        u.power.changes.get c = some { x with phase := 4 })) ∧
    (max s.now t < x.start + s.vn Obj.plVoltTimeout * 300000 ∨ (x.phase ≠ 0 ∧ x.phase ≠ 3) →
      exec (.plVoltTimeout t c) s = .next (s.after t (s.upTo t)))) ∧
  (∀ (t : Nat) (c : Ch) (s : State), s.power.changes.get c = none →
    exec (.vddcSettled t c) s = .next (s.after t (s.upTo t)) ∧ exec (.plVoltTimeout t c) s = .next (s.after t (s.upTo t))) ∧
  (∀ (t l m r d : Nat) (c : Ch) (k ok : Bool) (s : State),
    ok = (s.starting c && s.vn (Obj.suStep c) == 1 && (s.upTo t).bistEnded c (k || l % 65536 != 0) d) →
    (ok = true → ∃ u, exec (.powerUpBist t c l k m r d) s = .next (s.after t u) ∧
      u.v (Obj.lbistFailMap c) = (l % 65536 + 65536 * b2n k : Nat) ∧ u.v (Obj.mbistFailMap c) = (m % 262144 : Nat) ∧
      u.v (Obj.mbistRepairs c) = ((s.vn (Obj.mbistRepairs c) + r) % 65536 : Nat) ∧
      u.v (Obj.bistDuration c) = (min 65535 d : Nat) ∧
      (∀ e < 16, bit (l : Int) e = true ∨ bit (m : Int) e = true → bit (u.red.engineFault.get c : Int) e = true) ∧
      (k = false → m % 262144 < 65536 → u.v (Obj.suStep c) = 3 ∧ u.su.arrived.get c = some (max s.now t)) ∧
      (k = true ∨ 65536 ≤ m % 262144 → u.red.faulty.get c = true ∧ u.v (Obj.suFailStep c) = 3)) ∧
    (ok = false → exec (.powerUpBist t c l k m r d) s = .next (s.after t (s.upTo t)))) ∧
  (∀ (t : Nat) (c : Ch) (s : State),
    ((s.life.rot.get c).start = none → s.turnsRun c = true → max s.now t % 300000000 = 0 →
      (∀ e : Fin 16, bit (s.red.engineFault.get c : Int) e = false → (∀ d < e.val, bit (s.red.engineFault.get c : Int) d = true) →
        ∃ u, exec (.rotationStart t c) s = .next (s.after t u) ∧ (u.life.rot.get c).start = some (max s.now t) ∧
          (u.life.rot.get c).next = e.val ∧ (u.life.rot.get c).turn = none ∧ u.regs = s.regs) ∧
      ((∀ e < 16, bit (s.red.engineFault.get c : Int) e = true) →
        ∃ u, exec (.rotationStart t c) s = .next (s.after t u) ∧ (u.life.rot.get c).start = none ∧
          u.g c Obj.sliceRotations = wrapU32 (s.g c Obj.sliceRotations + 1))) ∧
    ((s.life.rot.get c).start ≠ none ∨ s.turnsRun c = false ∨ max s.now t % 300000000 ≠ 0 →
      exec (.rotationStart t c) s = .next (s.after t (s.upTo t))) ∧
    (∀ b, (s.life.rot.get c).start = some b → b + 300000000 ≤ max s.now t →
      ∃ u, exec (.rotationLate t c) s = .next (s.after t u) ∧ (u.life.rot.get c).late = true ∧ u.regs = s.regs) ∧
    ((s.life.rot.get c).start = none ∨ (∃ b, (s.life.rot.get c).start = some b ∧ max s.now t < b + 300000000) →
      exec (.rotationLate t c) s = .next (s.after t (s.upTo t)))) ∧
  (∀ (t : Nat) (c : Ch) (p : Bool) (s : State),
    (∀ x b, (s.life.rot.get c).turn = some x → x.emptyAt = some b → x.returning = false → s.arch.alive.get c = true →
      (s.upTo t).sliceEnded c x b = true →
      (x.runs < 31 → ∃ u, exec (.slice t c true) s = .next (s.after t u) ∧
        (u.life.rot.get c).turn = some { x with runs := x.runs + 1 } ∧
        (u.life.rot.get c).lastSlice.getD x.engine 0 = max s.now t) ∧
      (31 ≤ x.runs → ∃ u, exec (.slice t c true) s = .next (s.after t u) ∧ u.place.testing.get c = none) ∧
      ∃ u, exec (.slice t c false) s = .next (s.after t u) ∧ (u.life.rot.get c).turn = none ∧
        bit (u.red.engineFault.get c : Int) x.engine = true ∧ u.g c Obj.sliceFails = wrapU32 (s.g c Obj.sliceFails + 1)) ∧
    ((s.life.rot.get c).turn = none ∨ s.arch.alive.get c = false ∨
        (∃ x, (s.life.rot.get c).turn = some x ∧ (x.emptyAt = none ∨ x.returning = true ∨
          ∃ b, x.emptyAt = some b ∧ (s.upTo t).sliceEnded c x b = false)) →
      exec (.slice t c p) s = .next (s.after t (s.upTo t)))) ∧
  (∀ (t : Nat) (c : Ch) (s : State),
    (s.arch.alive.get c = true → s.life.scanOpen.get c = false → s.permitsLow c = true →
      s.life.state = 1 ∨ (s.life.state = 4 ∧ s.life.eraseDone.get c = true) →
      ∃ u, exec (.jtagScanOpen t c) s = .next (s.after t u) ∧ u.life.scanOpen.get c = true ∧ u.arch.alive.get c = false ∧
        u.arch.started.get c = false) ∧
    (s.arch.alive.get c = false ∨ s.life.scanOpen.get c = true ∨ s.permitsLow c = false ∨
        (s.life.state ≠ 1 ∧ (s.life.state ≠ 4 ∨ s.life.eraseDone.get c = false)) →
      exec (.jtagScanOpen t c) s = .next (s.after t (s.upTo t))))

/-- R497 to R512: the sediment record. `u` is the state as the command leaves it. -/
def Obligations.SedimentKeepsItsRecord : Prop :=
  (∀ (t : Nat) (c : Ch) (k : Fin 5) (s : State),
    (s.arch.alive.get c = true → k.val ≠ 0 → (s.upTo t).triggered c k = false →
      ∃ u, exec (.sedimentTrigger t c k) s = .next (s.after t u) ∧ (u.sed.get c).frozen = true ∧
      ((s.sed.get c).frozen = false → u.v (Obj.sedFreezeTime c) = (max s.now t : Nat) ∧ u.v (Obj.sedFreezeCause c) = (k.val : Int)) ∧
      ((s.sed.get c).frozen = true → u.v (Obj.sedFreezeTime c) = s.v (Obj.sedFreezeTime c)) ∧
      ((s.upTo t).stepOf c < 2 → (u.sed.get c).copy = (s.sed.get c).copy ∧ (u.sed.get c).slots = (s.sed.get c).slots) ∧
      (∀ x, 2 ≤ (s.upTo t).stepOf c → (s.sed.get c).copy = some x →
        (k.val = 3 → (u.sed.get c).copy = some { x with last := true } ∧ (u.sed.get c).merged = none) ∧
        (k.val ≠ 3 → (u.sed.get c).copy = some x ∧ (u.sed.get c).merged =
          if x.last then (s.sed.get c).merged else some ((s.upTo t).trigNow k))) ∧
      (∀ j, 2 ≤ (s.upTo t).stepOf c → (s.sed.get c).copy = none → (s.sed.get c).pickSlot (s.vn (Obj.sedSumLock c)) = some j →
        (u.sed.get c).copy = some ⟨j, k.val, false, 0⟩ ∧ (u.sed.get c).sumSeq = (s.sed.get c).sumSeq + 1) ∧
      (2 ≤ (s.upTo t).stepOf c → (s.sed.get c).copy = none → (s.sed.get c).pickSlot (s.vn (Obj.sedSumLock c)) = none →
        u.v (Obj.sedSumDropped c) = wrapU32 (s.v (Obj.sedSumDropped c) + 1))) ∧
    (s.arch.alive.get c = false ∨ k.val = 0 ∨ (s.upTo t).triggered c k = true →
      exec (.sedimentTrigger t c k) s = .next (s.after t (s.upTo t)))) ∧
  (∀ (t : Nat) (c : Ch) (s : State),
    (s.arch.alive.get c = true → s.power.state ≠ .run →
      ∃ u, exec (.pfailAssert t c) s = .next (s.after t u) ∧ u.power.pfailSlept = true ∧ u.sed = s.sed ∧ u.regs = s.regs) ∧
    (s.arch.alive.get c = true → s.power.state = .run →
      ∃ u, exec (.pfailAssert t c) s = .next (s.after t u) ∧ u.power.entering = none ∧ (u.sed.get c).frozen = true ∧
        ((s.sed.get c).frozen = false → u.v (Obj.sedFreezeCause c) = 3) ∧
        ((s.sed.get c).copy.isSome = true → 2 ≤ (s.upTo t).stepOf c → (u.sed.get c).merged = none)) ∧
    (s.arch.alive.get c = false → exec (.pfailAssert t c) s = .next (s.after t (s.upTo t)))) ∧
  (∀ (t : Nat) (c : Ch) (s : State),
    (∀ x, s.arch.alive.get c = true → (s.sed.get c).copy = some x →
      (x.next ≤ ((s.sed.get c).slots.getD x.slot {}).blocks →
        (∃ u, exec (.summaryBlockWrite t c) s = .next (s.after t u) ∧ (u.sed.get c).copy = some { x with next := x.next + 1 } ∧
          ((u.sed.get c).slots.getD x.slot {}).written = x.next + 1 ∧ ((u.sed.get c).slots.getD x.slot {}).headerOk = true ∧
          u.regs = s.regs) ∧
        exec (.summaryComplete t c) s = .next (s.after t (s.upTo t))) ∧
      (((s.sed.get c).slots.getD x.slot {}).blocks < x.next →
        exec (.summaryBlockWrite t c) s = .next (s.after t (s.upTo t)) ∧
        ∃ u, exec (.summaryComplete t c) s = .next (s.after t u) ∧ u.v (Obj.sedSumNewest c) = (x.slot : Int) ∧
          (u.sed.get c).merged = none ∧
          ((s.sed.get c).merged = none → (u.sed.get c).copy = none ∧ ((u.sed.get c).slots.getD x.slot {}).flags % 2 = 1 ∧
            u.isBit (Obj.sedSumValid c) x.slot = true) ∧
          (∀ g, (s.sed.get c).merged = some g → (u.sed.get c).copy = none ∨ ∃ j, (u.sed.get c).copy = some ⟨j, g.cause, false, 0⟩))) ∧
    (s.arch.alive.get c = false ∨ (s.sed.get c).copy = none →
      exec (.summaryBlockWrite t c) s = .next (s.after t (s.upTo t)) ∧
      exec (.summaryComplete t c) s = .next (s.after t (s.upTo t)))) ∧
  (∀ (t : Nat) (s : State),
    (max s.now t % 300000 = 0 → ∃ u, exec (.suppressionWindowEnd t) s = .next (s.after t u) ∧
      (∀ c, (u.sed.get c).wins = (s.sed.get c).wins.filter fun w => !(w.win < winOf (max s.now t))) ∧
      ∀ c w, (s.sed.get c).wins = [w] → w.win < winOf (max s.now t) → w.dropped ≠ 0 →
        u.v (Obj.sedSuppressed c) = wrapU32 (s.v (Obj.sedSuppressed c) + w.dropped)) ∧
    (max s.now t % 300000 ≠ 0 → exec (.suppressionWindowEnd t) s = .next (s.after t (s.upTo t)))) ∧
  (∀ (t : Nat) (s : State),
    (max s.now t % 300000 = 0 → s.power.state = .run → s.marks.getD markCommon 0 ≠ max s.now t + 1 →
      ∃ u, exec (.commonAreaUpdate t) s = .next (s.after t u) ∧ u.regs = s.regs ∧ ∀ c,
        (s.arch.alive.get c = true → (s.sed.get c).dramReady = true → (s.sed.get c).dramFault = false →
          (u.sed.get c).common = some ⟨max s.now t, s.sedRecord c, (s.sed.get c).slots⟩) ∧
        (s.arch.alive.get c = false ∨ (s.sed.get c).dramReady = false ∨ (s.sed.get c).dramFault = true →
          u.sed.get c = s.sed.get c)) ∧
    (max s.now t % 300000 ≠ 0 ∨ s.power.state ≠ .run ∨ s.marks.getD markCommon 0 = max s.now t + 1 →
      exec (.commonAreaUpdate t) s = .next (s.after t (s.upTo t)))) ∧
  (∀ (t per : Nat) (c : Ch) (s : State), per = 300000000 / s.vn Obj.sedTraceRate →
    (s.arch.started.get c = true → (s.sed.get c).recording = true → s.power.state = .run → per ≠ 0 → max s.now t % per = 0 →
      s.marks.getD (markSedTrace c) 0 ≠ max s.now t + 1 → ∃ u, exec (.sedimentTraceSample t c) s = .next (s.after t u) ∧
      (u.sed.get c).trace = ((max s.now t, s.traceNodes.map ((s.upTo t).nodeValue c)) :: (s.sed.get c).trace).take
        (traceCap s.traceNodes.length) ∧ u.regs = s.regs) ∧
    (s.arch.started.get c = false ∨ (s.sed.get c).recording = false ∨ s.power.state ≠ .run ∨ per = 0 ∨ max s.now t % per ≠ 0 ∨
        s.marks.getD (markSedTrace c) 0 = max s.now t + 1 →
      exec (.sedimentTraceSample t c) s = .next (s.after t (s.upTo t)))) ∧
  (∀ (t : Nat) (s : State), ∃ u, exec (.dramReady t) s = .next (s.after t u) ∧ u.regs = s.regs ∧
    ∀ c,
      (s.arch.alive.get c = true → (s.sed.get c).dramReady = false → (s.sed.get c).dramFault = false →
        (u.sed.get c).dramReady = true ∧ (u.sed.get c).ring =
          (if (s.sed.get c).frozen then (s.sed.get c).ring else (s.sed.get c).shadow ++ (s.sed.get c).ring)) ∧
      (s.arch.alive.get c = false ∨ (s.sed.get c).dramReady = true ∨ (s.sed.get c).dramFault = true → u.sed.get c = s.sed.get c))

/-- R310, R321, R517 to R520: start-up. `u` is the state as the command leaves it. -/
def Obligations.StartUpRunsItsSteps : Prop :=
  (∀ (t w : Nat) (c : Ch) (ok : Bool) (l : List (Nat × Nat)) (s : State),
    (s.arch.alive.get c = false →
      ∃ u : State, exec (.porstRelease t c w ok l) s = .next { u.follow with pending := s.pending } ∧
        u.now = (if s.isOff then 0 else max s.now t) ∧
        u.arch.alive.get c = true ∧ u.v (Obj.suStep c) = 0 ∧ u.v (Obj.suFailStep c) = 0 ∧
        u.su.straps.get c = some (w % 256) ∧ u.su.released.get c = some u.now ∧
        u.red.state = (if s.isOff then .startup else s.red.state)) ∧
    (s.arch.alive.get c = true → exec (.porstRelease t c w ok l) s = .next { (s.upTo t).follow with pending := s.pending })) ∧
  (∀ (t : Nat) (c : Ch) (s : State),
    (∀ b, s.su.released.get c = some b → s.arch.alive.get c = true → s.arch.started.get c = false →
      s.red.faulty.get c = false → s.vn (Obj.suFailStep c) = 0 →
      (max s.now t ≤ b + 150000 → ∃ u : State, exec (.pllLock t c) s = .next (s.after t u) ∧ u.arch.started.get c = true ∧
        u.v (Obj.suStep c) = 1 ∧ u.su.step1.get c = some (max s.now t)) ∧
      (b + 150000 < max s.now t → ∃ u : State, exec (.pllLock t c) s = .next (s.after t u) ∧ u.red.faulty.get c = true ∧
        u.v (Obj.suFailStep c) = 1 ∧ u.arch.started.get c = false)) ∧
    (s.su.released.get c = none ∨ s.arch.alive.get c = false ∨ s.arch.started.get c = true ∨ s.red.faulty.get c = true ∨
        s.vn (Obj.suFailStep c) ≠ 0 → exec (.pllLock t c) s = .next (s.after t (s.upTo t))) ∧
    (s.arch.alive.get c = true → ∃ u : State, exec (.porstNAssert t c) s = .next (s.after t u) ∧ u.arch.alive.get c = false ∧
      u.arch.started.get c = false) ∧
    (s.arch.alive.get c = false → exec (.porstNAssert t c) s = .next (s.after t (s.upTo t)))) ∧
  (∀ (t : Nat) (f : Trio Nat) (s : State),
    (s.meets4 = true → s.su.injDone = false → s.vn Obj.injAttempts = 0 →
      ((∀ c ∈ s.atStep4, f.get c % 64 = 63) → ∃ u : State, exec (.comparatorInjection t f) s = .next (s.after t u) ∧
        u.su.injDone = true ∧ u.v Obj.injAttempts = 1 ∧ u.fab.discoveryAt = some (max s.now t) ∧
        ∀ c ∈ s.atStep4, u.v (Obj.suStep c) = 4) ∧
      (∀ c ∈ s.atStep4, f.get c % 64 ≠ 63 → ∃ u : State, exec (.comparatorInjection t f) s = .next (s.after t u) ∧
        u.su.injDone = false ∧ u.v Obj.injAttempts = 1 ∧ u.red.injRetry = some (max s.now t + 3000000))) ∧
    (s.meets4 = false ∨ s.su.injDone = true ∨ s.vn Obj.injAttempts ≠ 0 →
      exec (.comparatorInjection t f) s = .next (s.after t (s.upTo t))) ∧
    (∀ b, s.red.injRetry = some b → s.su.injDone = false → b ≤ max s.now t →
      ((∀ c ∈ s.atStep4, f.get c % 64 = 63) → ∃ u : State, exec (.injectionRepeat t f) s = .next (s.after t u) ∧
        u.su.injDone = true ∧ u.v Obj.injAttempts = (min 2 (s.vn Obj.injAttempts + 1) : Nat) ∧
        ∀ c ∈ s.atStep4, u.v (Obj.suStep c) = 4) ∧
      (∀ c ∈ s.atStep4, 1 ≤ s.vn Obj.injAttempts → f.get c % 64 ≠ 63 → ∃ u : State,
        exec (.injectionRepeat t f) s = .next (s.after t u) ∧
        u.su.stopped = true ∧ u.su.injDone = false ∧ u.v (Obj.suFailStep c) = 4)) ∧
    (s.red.injRetry = none ∨ s.su.injDone = true ∨ (∃ b, s.red.injRetry = some b ∧ max s.now t < b) →
      exec (.injectionRepeat t f) s = .next (s.after t (s.upTo t)))) ∧
  (∀ (t : Nat) (s : State),
    (∀ x y c m, s.atStep4 = [x, y] → c ≠ x → c ≠ y → m = max ((s.su.arrived.get x).getD 0) ((s.su.arrived.get y).getD 0) →
      (s.red.faulty.get c = false → s.su.injDone = false → m + 18000000 ≤ max s.now t →
        ∃ u : State, exec (.meetWaitLimit t) s = .next (s.after t u) ∧ u.red.faulty.get c = true ∧
          u.isBit Obj.suStatus 6 = true) ∧
      (s.red.faulty.get c = true ∨ s.su.injDone = true ∨ max s.now t < m + 18000000 →
        exec (.meetWaitLimit t) s = .next (s.after t (s.upTo t)))) ∧
    (s.atStep4.length ≠ 2 → exec (.meetWaitLimit t) s = .next (s.after t (s.upTo t)))) ∧
  (∀ (t : Nat) (s e : State), e = (s.upTo t).endSeeding →
    (∀ c, s.red.state = .startup → s.vn (Obj.suStep c) = 7 → s.red.faulty.get c = false → s.dqVoted = true →
      (s.upTo t).seeded c = true → e.v (Obj.suStep c) = 8 ∧ e.v (Obj.suReadyTime c) = (max s.now t : Nat)) ∧
    (isCommit (max s.now t) = true → s.su.left = false →
      (e.ended8 = [.chA, .chB, .chC] → ∃ u : State, exec (.startupExit t) s = .next (s.after t u) ∧
        u.red.state = .nominal ∧ u.red.inV = Trio.all true ∧ u.red.reachedDual = true ∧ u.place.ageFrom = some (max s.now t) ∧
        (s.life.state = 1 ∨ s.life.state = 2 ∨ s.life.state = 3 → ∀ c, u.v (Obj.suStep c) = 10)) ∧
      (∀ x y c, e.ended8 = [x, y] → c ≠ x → c ≠ y →
        (s.red.faulty.get c = true →
          ∃ u : State, exec (.startupExit t) s = .next (s.after t u) ∧ u.red.state = .dual ∧
            u.red.inV = (Trio.all true).set c false ∧ u.su.left = true) ∧
        (s.red.faulty.get c = false → min ((s.su.step1.get x).getD 0) ((s.su.step1.get y).getD 0) + 45000000 ≤ max s.now t →
          ∃ u : State, exec (.startupDeadline t) s = .next (s.after t u) ∧ u.red.faulty.get c = true ∧
            u.red.state = .dual ∧ u.red.inV = (Trio.all true).set c false ∧ u.isBit Obj.suStatus 4 = true))) ∧
    (isCommit (max s.now t) = false ∨ s.su.left = true ∨ e.ended8.length < 2 ∨
        (∃ x y c, e.ended8 = [x, y] ∧ c ≠ x ∧ c ≠ y ∧ s.red.faulty.get c = false) →
      exec (.startupExit t) s = .next (s.after t e)) ∧
    (isCommit (max s.now t) = false ∨ s.su.left = true ∨ e.ended8.length ≠ 2 ∨
        (∃ x y c, e.ended8 = [x, y] ∧ c ≠ x ∧ c ≠ y ∧ (s.red.faulty.get c = true ∨
          max s.now t < min ((s.su.step1.get x).getD 0) ((s.su.step1.get y).getD 0) + 45000000)) →
      exec (.startupDeadline t) s = .next (s.after t e)))
end

