-- ==== Sys2Proof/Laws/Bits.lean ====
section
/-! SUPPORT. Bits and fields after a bit or a field has been set. -/

namespace Sys2Proof.Machine

theorem bit_eq (v : Int) (n : Nat) : bit v n = decide ((v / 2 ^ n) % 2 = 1) := by
  unfold bit
  by_cases h : (v / 2 ^ n) % 2 = 1 <;> simp [h]

/-- A bit that has been set reads as it was set. -/
@[simp] theorem bit_withBit_self (v : Int) (n : Nat) (b : Bool) : bit (withBit v n b) n = b := by
  have hp : (2 : Int) ^ n ≠ 0 := by positivity
  unfold withBit
  split
  · assumption
  · next h =>
    cases b
    · have h1 : (v / 2 ^ n) % 2 = 1 := by simpa [bit_eq] using h
      have h2 : (v - 2 ^ n) / 2 ^ n = v / 2 ^ n - 1 := by
        rw [Int.sub_ediv_of_dvd _ (dvd_refl _), Int.ediv_self hp]
      simp only [Bool.false_eq_true, if_false, bit_eq, h2]
      simp; omega
    · have h1 : ¬(v / 2 ^ n) % 2 = 1 := by simpa [bit_eq] using h
      have h2 : (v + 2 ^ n) / 2 ^ n = v / 2 ^ n + 1 := by
        rw [Int.add_ediv_of_dvd_right (dvd_refl _), Int.ediv_self hp]
      simp only [if_true, bit_eq, h2]
      simp; omega

/-- A bit above or below the one that has been set stays. -/
theorem bit_withBit_ne (v : Int) {n m : Nat} (b : Bool) (hm : m ≠ n) : bit (withBit v n b) m = bit v m := by
  have hp : ∀ k : Nat, (0 : Int) < 2 ^ k := fun k => by positivity
  have key : ∀ w : Int, bit w n = false → bit (w + 2 ^ n) m = bit w m := by
    intro w hw
    have hw' : ¬(w / 2 ^ n) % 2 = 1 := by simpa [bit_eq] using hw
    rcases Nat.lt_or_gt_of_ne hm with h | h
    · obtain ⟨k, rfl⟩ : ∃ k, n = m + (k + 1) := ⟨n - m - 1, by omega⟩
      have h2 : (w + 2 ^ (m + (k + 1))) / 2 ^ m = w / 2 ^ m + 2 ^ k * 2 := by
        rw [pow_add, Int.add_mul_ediv_left _ _ (ne_of_gt (hp m)), pow_succ]
      rw [bit_eq, bit_eq, h2, Int.add_mul_emod_self_right]
    · obtain ⟨k, rfl⟩ : ∃ k, m = n + (k + 1) := ⟨m - n - 1, by omega⟩
      have h2 : (w + 2 ^ n) / 2 ^ (n + (k + 1)) = w / 2 ^ (n + (k + 1)) := by
        rw [pow_add, ← Int.ediv_ediv_of_nonneg (le_of_lt (hp n)), ← Int.ediv_ediv_of_nonneg (le_of_lt (hp n)),
          Int.add_ediv_of_dvd_right (dvd_refl _), Int.ediv_self (ne_of_gt (hp n))]
        rw [pow_succ', ← Int.ediv_ediv_of_nonneg (by norm_num), ← Int.ediv_ediv_of_nonneg (by norm_num)]
        congr 1; omega
      rw [bit_eq, bit_eq, h2]
  unfold withBit
  split
  · rfl
  · next h =>
    cases b
    · have h1 : bit (v - 2 ^ n) n = false := by
        have h1 : (v / 2 ^ n) % 2 = 1 := by simpa [bit_eq] using h
        have h2 : (v - 2 ^ n) / 2 ^ n = v / 2 ^ n - 1 := by
          rw [Int.sub_ediv_of_dvd _ (dvd_refl _), Int.ediv_self (ne_of_gt (hp n))]
        rw [bit_eq, h2]; simp; omega
      have := key (v - 2 ^ n) h1
      simpa using this.symm
    · exact key v (by simpa using h)

/-- A field that has been written reads as it was written. -/
@[simp] theorem field_withField_self (v : Int) (lo w x : Nat) : field (withField v lo w x) lo w = x % 2 ^ w := by
  have hp : ∀ k : Nat, (0 : Int) < 2 ^ k := fun k => by positivity
  unfold withField field
  have h0 : (0 : Int) ≤ v / 2 ^ lo % 2 ^ w := Int.emod_nonneg _ (ne_of_gt (hp w))
  rw [Int.toNat_of_nonneg h0]
  have h1 : v - v / 2 ^ lo % 2 ^ w * 2 ^ lo + ((x % 2 ^ w : Nat) : Int) * 2 ^ lo =
      v + (((x % 2 ^ w : Nat) : Int) - v / 2 ^ lo % 2 ^ w) * 2 ^ lo := by ring
  rw [h1, Int.add_mul_ediv_right _ _ (ne_of_gt (hp lo))]
  have h2 : (v / 2 ^ lo + (((x % 2 ^ w : Nat) : Int) - v / 2 ^ lo % 2 ^ w)) % 2 ^ w = ((x % 2 ^ w : Nat) : Int) := by
    have h3 := Int.mul_ediv_add_emod (v / 2 ^ lo) (2 ^ w)
    have h4 : v / 2 ^ lo + (((x % 2 ^ w : Nat) : Int) - v / 2 ^ lo % 2 ^ w) =
        ((x % 2 ^ w : Nat) : Int) + 2 ^ w * (v / 2 ^ lo / 2 ^ w) := by linarith
    rw [h4, Int.add_mul_emod_self_left]
    have h5 : ((x % 2 ^ w : Nat) : Int) < 2 ^ w := by
      have := Nat.mod_lt x (show 0 < 2 ^ w by positivity)
      exact_mod_cast this
    exact Int.emod_eq_of_lt (by positivity) h5
  rw [h2, Int.toNat_natCast]

/-- A written field leaves the bits above it. -/
theorem bit_withField_above (v : Int) {lo w m : Nat} (x : Nat) (hm : lo + w ≤ m) :
    bit (withField v lo w x) m = bit v m := by
  have hp : ∀ k : Nat, (0 : Int) < 2 ^ k := fun k => by positivity
  obtain ⟨k, rfl⟩ : ∃ k, m = lo + w + k := ⟨m - (lo + w), by omega⟩
  have h0 : (0 : Int) ≤ v / 2 ^ lo % 2 ^ w := Int.emod_nonneg _ (ne_of_gt (hp w))
  have hd : withField v lo w x / 2 ^ lo / 2 ^ w = v / 2 ^ lo / 2 ^ w := by
    unfold withField field
    rw [Int.toNat_of_nonneg h0]
    have h1 : v - v / 2 ^ lo % 2 ^ w * 2 ^ lo + ((x % 2 ^ w : Nat) : Int) * 2 ^ lo =
        v + (((x % 2 ^ w : Nat) : Int) - v / 2 ^ lo % 2 ^ w) * 2 ^ lo := by ring
    rw [h1, Int.add_mul_ediv_right _ _ (ne_of_gt (hp lo))]
    have h3 := Int.mul_ediv_add_emod (v / 2 ^ lo) (2 ^ w)
    have h4 : v / 2 ^ lo + (((x % 2 ^ w : Nat) : Int) - v / 2 ^ lo % 2 ^ w) =
        ((x % 2 ^ w : Nat) : Int) + v / 2 ^ lo / 2 ^ w * 2 ^ w := by linarith
    have h5 : ((x % 2 ^ w : Nat) : Int) < 2 ^ w := by
      have := Nat.mod_lt x (show 0 < 2 ^ w by positivity)
      exact_mod_cast this
    rw [h4, Int.add_mul_ediv_right _ _ (ne_of_gt (hp w)), Int.ediv_eq_zero_of_lt (by positivity) h5, zero_add]
  have hs : ∀ y : Int, y / 2 ^ (lo + w + k) = y / 2 ^ lo / 2 ^ w / 2 ^ k := fun y => by
    rw [pow_add, pow_add, ← Int.ediv_ediv_of_nonneg (by positivity), ← Int.ediv_ediv_of_nonneg (le_of_lt (hp lo))]
  rw [bit_eq, bit_eq, hs, hs, hd]

/-- A written field leaves the bits below it. -/
theorem bit_withField_below (v : Int) {lo w m : Nat} (x : Nat) (hm : m < lo) : bit (withField v lo w x) m = bit v m := by
  have hp : ∀ k : Nat, (0 : Int) < 2 ^ k := fun k => by positivity
  obtain ⟨k, rfl⟩ : ∃ k, lo = m + (k + 1) := ⟨lo - m - 1, by omega⟩
  unfold withField
  generalize (field v (m + (k + 1)) w : Int) = a
  generalize ((x % 2 ^ w : Nat) : Int) = b
  have h : v - a * 2 ^ (m + (k + 1)) + b * 2 ^ (m + (k + 1)) = v + (b - a) * 2 ^ k * 2 * 2 ^ m := by
    rw [pow_add, pow_succ]; ring
  rw [bit_eq, bit_eq, h, Int.add_mul_ediv_right _ _ (ne_of_gt (hp m)), Int.add_mul_emod_self_right]

/-- A bit that is set leaves the fields below it. -/
theorem field_withBit_above (v : Int) {lo w n : Nat} (b : Bool) (hn : lo + w ≤ n) : field (withBit v n b) lo w = field v lo w := by
  have hp : ∀ k : Nat, (0 : Int) < 2 ^ k := fun k => by positivity
  obtain ⟨k, rfl⟩ : ∃ k, n = lo + w + k := ⟨n - (lo + w), by omega⟩
  have key : ∀ e : Int, field (v + e * 2 ^ (lo + w + k)) lo w = field v lo w := by
    intro e
    unfold field
    rw [show v + e * 2 ^ (lo + w + k) = v + e * 2 ^ k * 2 ^ w * 2 ^ lo by rw [pow_add, pow_add]; ring,
      Int.add_mul_ediv_right _ _ (ne_of_gt (hp lo)), Int.add_mul_emod_self_right]
  unfold withBit
  repeat' split
  · rfl
  · simpa using key 1
  · simpa [sub_eq_add_neg] using key (-1)

end Sys2Proof.Machine
end

