-- ==== Sys2Proof/Laws/Entries.lean ====
section
/-! SUPPORT. The dictionary entries of the objects that rows of the command table write or read. -/

namespace Sys2Proof.Machine

/-- The object has an entry with this role, these instance numbers, access and home. -/
def Obj.isEntry (o : Obj) (r : Role) (i j m : Nat) (a : Acc) (h : Home) : Bool :=
  match findObj o.index o.sub with
  | some e => e.desc.role == r && e.i == i && e.j == j && e.m == m && e.obj == o && e.desc.acc == a && e.desc.home == h
  | none => false

/-- What `isEntry` says. -/
theorem Obj.isEntry_elim {o : Obj} {r : Role} {i j m : Nat} {a : Acc} {h : Home} (hx : o.isEntry r i j m a h = true) :
    ∃ e, findObj o.index o.sub = some e ∧ e.desc.role = r ∧ e.i = i ∧ e.j = j ∧ e.m = m ∧ e.obj = o ∧ e.key = o.key ∧
      e.desc.acc = a ∧ e.desc.home = h := by
  unfold Obj.isEntry at hx
  split at hx
  · next e he =>
    simp only [Bool.and_eq_true, beq_iff_eq] at hx
    obtain ⟨⟨⟨⟨⟨⟨h1, h2⟩, h3⟩, h4⟩, h5⟩, h6⟩, h7⟩ := hx
    exact ⟨e, he, h1, h2, h3, h4, h5, by rw [← h5]; rfl, h6, h7⟩
  · simp at hx

theorem entries_0 :
    (∀ n : Fin 512, (Obj.bankSelect n).isEntry .bankSelect n 0 0 .rw .repl = true) ∧
    (Obj.sedRelease.isEntry .sedRelease 0 0 0 .rws .repl = true) := by
  decide +kernel
theorem entry_bankSelect : ∀ n : Fin 512, (Obj.bankSelect n).isEntry .bankSelect n 0 0 .rw .repl = true := entries_0.1
theorem entry_sedRelease : Obj.sedRelease.isEntry .sedRelease 0 0 0 .rws .repl = true := entries_0.2
theorem entries_1 :
    (∀ n : Fin 512, (Obj.feMax n).isEntry .feMax n 0 0 .ro .owner = true) ∧
    (Obj.storeAll.isEntry .storeAll 0 0 0 .wo .repl = true) := by
  decide +kernel
theorem entry_feMax : ∀ n : Fin 512, (Obj.feMax n).isEntry .feMax n 0 0 .ro .owner = true := entries_1.1
theorem entry_storeAll : Obj.storeAll.isEntry .storeAll 0 0 0 .wo .repl = true := entries_1.2
theorem entries_2 :
    (∀ n : Fin 512, (Obj.maxExec n).isEntry .maxExec n 0 0 .ro .owner = true) ∧
    (Obj.restoreDefaults.isEntry .restoreDefaults 0 0 0 .rws .repl = true) := by
  decide +kernel
theorem entry_maxExec : ∀ n : Fin 512, (Obj.maxExec n).isEntry .maxExec n 0 0 .ro .owner = true := entries_2.1
theorem entry_restoreDefaults : Obj.restoreDefaults.isEntry .restoreDefaults 0 0 0 .rws .repl = true := entries_2.2
theorem entries_3 :
    (∀ n : Fin 512, (Obj.traceControl n).isEntry .traceControl n 0 0 .rw .repl = true) := by
  decide +kernel
theorem entry_traceControl : ∀ n : Fin 512, (Obj.traceControl n).isEntry .traceControl n 0 0 .rw .repl = true := entries_3
theorem entries_4 :
    (∀ n : Fin 8, ∀ e : Fin 16, (Obj.cmpControl .chA n e).isEntry .cmpControl (Ch.num .chA) n e .rw .chan = true) ∧
    (∀ n : Fin 8, ∀ e : Fin 16, (Obj.cmpControl .chB n e).isEntry .cmpControl (Ch.num .chB) n e .rw .chan = true) ∧
    (∀ n : Fin 8, ∀ e : Fin 16, (Obj.cmpControl .chC n e).isEntry .cmpControl (Ch.num .chC) n e .rw .chan = true) ∧
    (∀ n : Fin 8, (Obj.fpPreset .chA n).isEntry .fpPreset (Ch.num .chA) n 0 .wo .chan = true) ∧
    (∀ n : Fin 8, (Obj.fpPreset .chB n).isEntry .fpPreset (Ch.num .chB) n 0 .wo .chan = true) ∧
    (∀ n : Fin 8, (Obj.fpPreset .chC n).isEntry .fpPreset (Ch.num .chC) n 0 .wo .chan = true) ∧
    (∀ n : Fin 8, (Obj.fpStatusClear .chA n).isEntry .fpStatusClear (Ch.num .chA) n 0 .wo .chan = true) ∧
    (∀ n : Fin 8, (Obj.fpStatusClear .chB n).isEntry .fpStatusClear (Ch.num .chB) n 0 .wo .chan = true) ∧
    (∀ n : Fin 8, (Obj.fpStatusClear .chC n).isEntry .fpStatusClear (Ch.num .chC) n 0 .wo .chan = true) ∧
    (∀ n : Fin 18, (Obj.siMode n).isEntry .siMode n 0 0 .rws .repl = true) ∧
    (∀ n : Fin 16, (Obj.agControl n).isEntry .agControl n 0 0 .rw .repl = true) ∧
    (∀ n : Fin 16, (Obj.agForceTotal n).isEntry .agForceTotal n 0 0 .rw .repl = true) ∧
    ((Obj.calRequest .chA).isEntry .calRequest (Ch.num .chA) 0 0 .wo .chan = true) ∧
    ((Obj.calRequest .chB).isEntry .calRequest (Ch.num .chB) 0 0 .wo .chan = true) ∧
    ((Obj.calRequest .chC).isEntry .calRequest (Ch.num .chC) 0 0 .wo .chan = true) ∧
    ((Obj.plRequest .chA).isEntry .plRequest (Ch.num .chA) 0 0 .rw .repl = true) ∧
    ((Obj.plRequest .chB).isEntry .plRequest (Ch.num .chB) 0 0 .rw .repl = true) ∧
    ((Obj.plRequest .chC).isEntry .plRequest (Ch.num .chC) 0 0 .rw .repl = true) ∧
    (Obj.passiveRequest.isEntry .passiveRequest 0 0 0 .wo .repl = true) ∧
    (Obj.fabNodeAddr.isEntry .fabNodeAddr 0 0 0 .rws .repl = true) ∧
    (Obj.fabAuthKey1.isEntry .fabAuthKey1 0 0 0 .wo .repl = true) ∧
    (Obj.faultReset.isEntry .faultReset 0 0 0 .rw .repl = true) ∧
    (Obj.pwNew.isEntry .pwNew 0 0 0 .wo .repl = true) ∧
    (Obj.clClear.isEntry .clClear 0 0 0 .rws .repl = true) ∧
    (Obj.refuserMap.isEntry .refuserMap 0 0 0 .ro .repl = true) ∧
    (Obj.rotationMax.isEntry .rotationMax 0 0 0 .ro .repl = true) ∧
    (Obj.debugPermit.isEntry .debugPermit 0 0 0 .rws .repl = true) := by
  decide +kernel
theorem entry_cmpControl (c : Ch) : ∀ n : Fin 8, ∀ e : Fin 16, (Obj.cmpControl c n e).isEntry .cmpControl c.num n e .rw .chan = true := by
  cases c
  · exact entries_4.1
  · exact entries_4.2.1
  · exact entries_4.2.2.1
theorem entry_fpPreset (c : Ch) : ∀ n : Fin 8, (Obj.fpPreset c n).isEntry .fpPreset c.num n 0 .wo .chan = true := by
  cases c
  · exact entries_4.2.2.2.1
  · exact entries_4.2.2.2.2.1
  · exact entries_4.2.2.2.2.2.1
theorem entry_fpStatusClear (c : Ch) : ∀ n : Fin 8, (Obj.fpStatusClear c n).isEntry .fpStatusClear c.num n 0 .wo .chan = true := by
  cases c
  · exact entries_4.2.2.2.2.2.2.1
  · exact entries_4.2.2.2.2.2.2.2.1
  · exact entries_4.2.2.2.2.2.2.2.2.1
theorem entry_siMode : ∀ n : Fin 18, (Obj.siMode n).isEntry .siMode n 0 0 .rws .repl = true := entries_4.2.2.2.2.2.2.2.2.2.1
theorem entry_agControl : ∀ n : Fin 16, (Obj.agControl n).isEntry .agControl n 0 0 .rw .repl = true := entries_4.2.2.2.2.2.2.2.2.2.2.1
theorem entry_agForceTotal : ∀ n : Fin 16, (Obj.agForceTotal n).isEntry .agForceTotal n 0 0 .rw .repl = true := entries_4.2.2.2.2.2.2.2.2.2.2.2.1
theorem entry_calRequest (c : Ch) : (Obj.calRequest c).isEntry .calRequest c.num 0 0 .wo .chan = true := by
  cases c
  · exact entries_4.2.2.2.2.2.2.2.2.2.2.2.2.1
  · exact entries_4.2.2.2.2.2.2.2.2.2.2.2.2.2.1
  · exact entries_4.2.2.2.2.2.2.2.2.2.2.2.2.2.2.1
theorem entry_plRequest (c : Ch) : (Obj.plRequest c).isEntry .plRequest c.num 0 0 .rw .repl = true := by
  cases c
  · exact entries_4.2.2.2.2.2.2.2.2.2.2.2.2.2.2.2.1
  · exact entries_4.2.2.2.2.2.2.2.2.2.2.2.2.2.2.2.2.1
  · exact entries_4.2.2.2.2.2.2.2.2.2.2.2.2.2.2.2.2.2.1
theorem entry_passiveRequest : Obj.passiveRequest.isEntry .passiveRequest 0 0 0 .wo .repl = true := entries_4.2.2.2.2.2.2.2.2.2.2.2.2.2.2.2.2.2.2.1
theorem entry_fabNodeAddr : Obj.fabNodeAddr.isEntry .fabNodeAddr 0 0 0 .rws .repl = true := entries_4.2.2.2.2.2.2.2.2.2.2.2.2.2.2.2.2.2.2.2.1
theorem entry_fabAuthKey1 : Obj.fabAuthKey1.isEntry .fabAuthKey1 0 0 0 .wo .repl = true := entries_4.2.2.2.2.2.2.2.2.2.2.2.2.2.2.2.2.2.2.2.2.1
theorem entry_faultReset : Obj.faultReset.isEntry .faultReset 0 0 0 .rw .repl = true := entries_4.2.2.2.2.2.2.2.2.2.2.2.2.2.2.2.2.2.2.2.2.2.1
theorem entry_pwNew : Obj.pwNew.isEntry .pwNew 0 0 0 .wo .repl = true := entries_4.2.2.2.2.2.2.2.2.2.2.2.2.2.2.2.2.2.2.2.2.2.2.1
theorem entry_clClear : Obj.clClear.isEntry .clClear 0 0 0 .rws .repl = true := entries_4.2.2.2.2.2.2.2.2.2.2.2.2.2.2.2.2.2.2.2.2.2.2.2.1
theorem entry_refuserMap : Obj.refuserMap.isEntry .refuserMap 0 0 0 .ro .repl = true := entries_4.2.2.2.2.2.2.2.2.2.2.2.2.2.2.2.2.2.2.2.2.2.2.2.2.1
theorem entry_rotationMax : Obj.rotationMax.isEntry .rotationMax 0 0 0 .ro .repl = true := entries_4.2.2.2.2.2.2.2.2.2.2.2.2.2.2.2.2.2.2.2.2.2.2.2.2.2.1
theorem entry_debugPermit : Obj.debugPermit.isEntry .debugPermit 0 0 0 .rws .repl = true := entries_4.2.2.2.2.2.2.2.2.2.2.2.2.2.2.2.2.2.2.2.2.2.2.2.2.2.2
theorem entries_5 :
    (∀ n : Fin 20, (Obj.cvResult .chA n).isEntry .cvResult (Ch.num .chA) n 0 .ro .chan = true) ∧
    (∀ n : Fin 20, (Obj.cvResult .chB n).isEntry .cvResult (Ch.num .chB) n 0 .ro .chan = true) ∧
    (∀ n : Fin 20, (Obj.cvResult .chC n).isEntry .cvResult (Ch.num .chC) n 0 .ro .chan = true) ∧
    (∀ n : Fin 20, (Obj.cvSample .chA n).isEntry .cvSample (Ch.num .chA) n 0 .ro .chan = true) ∧
    (∀ n : Fin 20, (Obj.cvSample .chB n).isEntry .cvSample (Ch.num .chB) n 0 .ro .chan = true) ∧
    (∀ n : Fin 20, (Obj.cvSample .chC n).isEntry .cvSample (Ch.num .chC) n 0 .ro .chan = true) ∧
    (∀ n : Fin 20, (Obj.cvStatusClear .chA n).isEntry .cvStatusClear (Ch.num .chA) n 0 .wo .chan = true) ∧
    (∀ n : Fin 20, (Obj.cvStatusClear .chB n).isEntry .cvStatusClear (Ch.num .chB) n 0 .wo .chan = true) ∧
    (∀ n : Fin 20, (Obj.cvStatusClear .chC n).isEntry .cvStatusClear (Ch.num .chC) n 0 .wo .chan = true) ∧
    (∀ n : Fin 32, (Obj.axHome n).isEntry .axHome n 0 0 .rw .repl = true) ∧
    (∀ n : Fin 32, (Obj.axExtrapPos n).isEntry .axExtrapPos n 0 0 .ro .repl = true) ∧
    (∀ n : Fin 32, (Obj.axFaultClear n).isEntry .axFaultClear n 0 0 .rw .repl = true) ∧
    (∀ n : Fin 32, (Obj.axTorqueEnable n).isEntry .axTorqueEnable n 0 0 .rw .repl = true) ∧
    (∀ n : Fin 32, (Obj.pgTarget n).isEntry .pgTarget n 0 0 .rw .repl = true) ∧
    (∀ n : Fin 32, (Obj.pgControl n).isEntry .pgControl n 0 0 .rw .repl = true) ∧
    (∀ n : Fin 32, (Obj.axRedundMode n).isEntry .axRedundMode n 0 0 .rws .repl = true) ∧
    (∀ n : Fin 6, (Obj.spPreset .chA n).isEntry .spPreset (Ch.num .chA) n 0 .wo .chan = true) ∧
    (∀ n : Fin 6, (Obj.spPreset .chB n).isEntry .spPreset (Ch.num .chB) n 0 .wo .chan = true) ∧
    (∀ n : Fin 6, (Obj.spPreset .chC n).isEntry .spPreset (Ch.num .chC) n 0 .wo .chan = true) ∧
    (∀ n : Fin 6, (Obj.spStatusClear .chA n).isEntry .spStatusClear (Ch.num .chA) n 0 .wo .chan = true) ∧
    (∀ n : Fin 6, (Obj.spStatusClear .chB n).isEntry .spStatusClear (Ch.num .chB) n 0 .wo .chan = true) ∧
    (∀ n : Fin 6, (Obj.spStatusClear .chC n).isEntry .spStatusClear (Ch.num .chC) n 0 .wo .chan = true) ∧
    (∀ n : Fin 18, (Obj.siDiscMax n).isEntry .siDiscMax n 0 0 .ro .repl = true) ∧
    (∀ n : Fin 2, (Obj.diagInject .chA n).isEntry .diagInject (Ch.num .chA) n 0 .wo .chan = true) ∧
    (∀ n : Fin 2, (Obj.diagInject .chB n).isEntry .diagInject (Ch.num .chB) n 0 .wo .chan = true) ∧
    (∀ n : Fin 2, (Obj.diagInject .chC n).isEntry .diagInject (Ch.num .chC) n 0 .wo .chan = true) ∧
    (∀ n : Fin 6, (Obj.domainMode n).isEntry .domainMode n 0 0 .rw .repl = true) ∧
    (∀ n : Fin 6, (Obj.domainLast n).isEntry .domainLast n 0 0 .ro .repl = true) ∧
    (Obj.channelSkewMax.isEntry .channelSkewMax 0 0 0 .ro .repl = true) ∧
    (Obj.deviceTime.isEntry .deviceTime 0 0 0 .ro .repl = true) ∧
    (Obj.planRequest.isEntry .planRequest 0 0 0 .wo .repl = true) ∧
    (Obj.fabAuthKey0.isEntry .fabAuthKey0 0 0 0 .wo .repl = true) ∧
    (Obj.twinPairCmd.isEntry .twinPairCmd 0 0 0 .wo .repl = true) ∧
    (Obj.pwEnter.isEntry .pwEnter 0 0 0 .wo .repl = true) ∧
    (Obj.pwLock.isEntry .pwLock 0 0 0 .wo .repl = true) ∧
    (Obj.pwrRequest.isEntry .pwrRequest 0 0 0 .wo .repl = true) ∧
    (Obj.pwrStatus.isEntry .pwrStatus 0 0 0 .ro .repl = true) ∧
    (Obj.lcRequest.isEntry .lcRequest 0 0 0 .wo .repl = true) ∧
    (Obj.sedTrigger.isEntry .sedTrigger 0 0 0 .wo .repl = true) := by
  decide +kernel
theorem entry_cvResult (c : Ch) : ∀ n : Fin 20, (Obj.cvResult c n).isEntry .cvResult c.num n 0 .ro .chan = true := by
  cases c
  · exact entries_5.1
  · exact entries_5.2.1
  · exact entries_5.2.2.1
theorem entry_cvSample (c : Ch) : ∀ n : Fin 20, (Obj.cvSample c n).isEntry .cvSample c.num n 0 .ro .chan = true := by
  cases c
  · exact entries_5.2.2.2.1
  · exact entries_5.2.2.2.2.1
  · exact entries_5.2.2.2.2.2.1
theorem entry_cvStatusClear (c : Ch) : ∀ n : Fin 20, (Obj.cvStatusClear c n).isEntry .cvStatusClear c.num n 0 .wo .chan = true := by
  cases c
  · exact entries_5.2.2.2.2.2.2.1
  · exact entries_5.2.2.2.2.2.2.2.1
  · exact entries_5.2.2.2.2.2.2.2.2.1
theorem entry_axHome : ∀ n : Fin 32, (Obj.axHome n).isEntry .axHome n 0 0 .rw .repl = true := entries_5.2.2.2.2.2.2.2.2.2.1
theorem entry_axExtrapPos : ∀ n : Fin 32, (Obj.axExtrapPos n).isEntry .axExtrapPos n 0 0 .ro .repl = true := entries_5.2.2.2.2.2.2.2.2.2.2.1
theorem entry_axFaultClear : ∀ n : Fin 32, (Obj.axFaultClear n).isEntry .axFaultClear n 0 0 .rw .repl = true := entries_5.2.2.2.2.2.2.2.2.2.2.2.1
theorem entry_axTorqueEnable : ∀ n : Fin 32, (Obj.axTorqueEnable n).isEntry .axTorqueEnable n 0 0 .rw .repl = true := entries_5.2.2.2.2.2.2.2.2.2.2.2.2.1
theorem entry_pgTarget : ∀ n : Fin 32, (Obj.pgTarget n).isEntry .pgTarget n 0 0 .rw .repl = true := entries_5.2.2.2.2.2.2.2.2.2.2.2.2.2.1
theorem entry_pgControl : ∀ n : Fin 32, (Obj.pgControl n).isEntry .pgControl n 0 0 .rw .repl = true := entries_5.2.2.2.2.2.2.2.2.2.2.2.2.2.2.1
theorem entry_axRedundMode : ∀ n : Fin 32, (Obj.axRedundMode n).isEntry .axRedundMode n 0 0 .rws .repl = true := entries_5.2.2.2.2.2.2.2.2.2.2.2.2.2.2.2.1
theorem entry_spPreset (c : Ch) : ∀ n : Fin 6, (Obj.spPreset c n).isEntry .spPreset c.num n 0 .wo .chan = true := by
  cases c
  · exact entries_5.2.2.2.2.2.2.2.2.2.2.2.2.2.2.2.2.1
  · exact entries_5.2.2.2.2.2.2.2.2.2.2.2.2.2.2.2.2.2.1
  · exact entries_5.2.2.2.2.2.2.2.2.2.2.2.2.2.2.2.2.2.2.1
theorem entry_spStatusClear (c : Ch) : ∀ n : Fin 6, (Obj.spStatusClear c n).isEntry .spStatusClear c.num n 0 .wo .chan = true := by
  cases c
  · exact entries_5.2.2.2.2.2.2.2.2.2.2.2.2.2.2.2.2.2.2.2.1
  · exact entries_5.2.2.2.2.2.2.2.2.2.2.2.2.2.2.2.2.2.2.2.2.1
  · exact entries_5.2.2.2.2.2.2.2.2.2.2.2.2.2.2.2.2.2.2.2.2.2.1
theorem entry_siDiscMax : ∀ n : Fin 18, (Obj.siDiscMax n).isEntry .siDiscMax n 0 0 .ro .repl = true := entries_5.2.2.2.2.2.2.2.2.2.2.2.2.2.2.2.2.2.2.2.2.2.2.1
theorem entry_diagInject (c : Ch) : ∀ n : Fin 2, (Obj.diagInject c n).isEntry .diagInject c.num n 0 .wo .chan = true := by
  cases c
  · exact entries_5.2.2.2.2.2.2.2.2.2.2.2.2.2.2.2.2.2.2.2.2.2.2.2.1
  · exact entries_5.2.2.2.2.2.2.2.2.2.2.2.2.2.2.2.2.2.2.2.2.2.2.2.2.1
  · exact entries_5.2.2.2.2.2.2.2.2.2.2.2.2.2.2.2.2.2.2.2.2.2.2.2.2.2.1
theorem entry_domainMode : ∀ n : Fin 6, (Obj.domainMode n).isEntry .domainMode n 0 0 .rw .repl = true := entries_5.2.2.2.2.2.2.2.2.2.2.2.2.2.2.2.2.2.2.2.2.2.2.2.2.2.2.1
theorem entry_domainLast : ∀ n : Fin 6, (Obj.domainLast n).isEntry .domainLast n 0 0 .ro .repl = true := entries_5.2.2.2.2.2.2.2.2.2.2.2.2.2.2.2.2.2.2.2.2.2.2.2.2.2.2.2.1
theorem entry_channelSkewMax : Obj.channelSkewMax.isEntry .channelSkewMax 0 0 0 .ro .repl = true := entries_5.2.2.2.2.2.2.2.2.2.2.2.2.2.2.2.2.2.2.2.2.2.2.2.2.2.2.2.2.1
theorem entry_deviceTime : Obj.deviceTime.isEntry .deviceTime 0 0 0 .ro .repl = true := entries_5.2.2.2.2.2.2.2.2.2.2.2.2.2.2.2.2.2.2.2.2.2.2.2.2.2.2.2.2.2.1
theorem entry_planRequest : Obj.planRequest.isEntry .planRequest 0 0 0 .wo .repl = true := entries_5.2.2.2.2.2.2.2.2.2.2.2.2.2.2.2.2.2.2.2.2.2.2.2.2.2.2.2.2.2.2.1
theorem entry_fabAuthKey0 : Obj.fabAuthKey0.isEntry .fabAuthKey0 0 0 0 .wo .repl = true := entries_5.2.2.2.2.2.2.2.2.2.2.2.2.2.2.2.2.2.2.2.2.2.2.2.2.2.2.2.2.2.2.2.1
theorem entry_twinPairCmd : Obj.twinPairCmd.isEntry .twinPairCmd 0 0 0 .wo .repl = true := entries_5.2.2.2.2.2.2.2.2.2.2.2.2.2.2.2.2.2.2.2.2.2.2.2.2.2.2.2.2.2.2.2.2.1
theorem entry_pwEnter : Obj.pwEnter.isEntry .pwEnter 0 0 0 .wo .repl = true := entries_5.2.2.2.2.2.2.2.2.2.2.2.2.2.2.2.2.2.2.2.2.2.2.2.2.2.2.2.2.2.2.2.2.2.1
theorem entry_pwLock : Obj.pwLock.isEntry .pwLock 0 0 0 .wo .repl = true := entries_5.2.2.2.2.2.2.2.2.2.2.2.2.2.2.2.2.2.2.2.2.2.2.2.2.2.2.2.2.2.2.2.2.2.2.1
theorem entry_pwrRequest : Obj.pwrRequest.isEntry .pwrRequest 0 0 0 .wo .repl = true := entries_5.2.2.2.2.2.2.2.2.2.2.2.2.2.2.2.2.2.2.2.2.2.2.2.2.2.2.2.2.2.2.2.2.2.2.2.1
theorem entry_pwrStatus : Obj.pwrStatus.isEntry .pwrStatus 0 0 0 .ro .repl = true := entries_5.2.2.2.2.2.2.2.2.2.2.2.2.2.2.2.2.2.2.2.2.2.2.2.2.2.2.2.2.2.2.2.2.2.2.2.2.1
theorem entry_lcRequest : Obj.lcRequest.isEntry .lcRequest 0 0 0 .wo .repl = true := entries_5.2.2.2.2.2.2.2.2.2.2.2.2.2.2.2.2.2.2.2.2.2.2.2.2.2.2.2.2.2.2.2.2.2.2.2.2.2.1
theorem entry_sedTrigger : Obj.sedTrigger.isEntry .sedTrigger 0 0 0 .wo .repl = true := entries_5.2.2.2.2.2.2.2.2.2.2.2.2.2.2.2.2.2.2.2.2.2.2.2.2.2.2.2.2.2.2.2.2.2.2.2.2.2.2

end Sys2Proof.Machine
end

