-- ==== Sys2Proof/Laws/Run.lean ====
section
/-! SUPPORT. What every command has in common: it answers a next state, in the frame of `State.run`. -/

namespace Sys2Proof.Machine

/-- Every command answers a next state of the form of `run`, or it is PORST_RELEASE, of the form of `runPowerOn`. -/
theorem exec_run (i : Instr) (s : State) :
    (∃ t f, exec i s = s.run t f) ∨
      ∃ t c p ok l f, i = .porstRelease t c p ok l ∧ exec i s = s.runPowerOn t f := by
  cases i
  all_goals delta exec
  all_goals dsimp only
  case porstRelease => delta execPorstRelease; exact .inr ⟨_, _, _, _, _, _, rfl, rfl⟩
  all_goals exact .inl ⟨_, _, rfl⟩

end Sys2Proof.Machine
end

