-- ==== Sys2Proof/Laws/State.lean ====
section
/-! SUPPORT. Each named update of the state leaves every field alone but its own. -/

namespace Sys2Proof.Machine

-- setC

@[simp] theorem State.setC_now (s : State) (c : Ch) (o : Obj) (v : Int) : (s.setC c o v).now = s.now := rfl
@[simp] theorem State.setC_strs (s : State) (c : Ch) (o : Obj) (v : Int) : (s.setC c o v).strs = s.strs := rfl
@[simp] theorem State.setC_arch (s : State) (c : Ch) (o : Obj) (v : Int) : (s.setC c o v).arch = s.arch := rfl
@[simp] theorem State.setC_kdp (s : State) (c : Ch) (o : Obj) (v : Int) : (s.setC c o v).kdp = s.kdp := rfl
@[simp] theorem State.setC_ports (s : State) (c : Ch) (o : Obj) (v : Int) : (s.setC c o v).ports = s.ports := rfl
@[simp] theorem State.setC_sems (s : State) (c : Ch) (o : Obj) (v : Int) : (s.setC c o v).sems = s.sems := rfl
@[simp] theorem State.setC_convs (s : State) (c : Ch) (o : Obj) (v : Int) : (s.setC c o v).convs = s.convs := rfl
@[simp] theorem State.setC_grps (s : State) (c : Ch) (o : Obj) (v : Int) : (s.setC c o v).grps = s.grps := rfl
@[simp] theorem State.setC_diags (s : State) (c : Ch) (o : Obj) (v : Int) : (s.setC c o v).diags = s.diags := rfl
@[simp] theorem State.setC_fports (s : State) (c : Ch) (o : Obj) (v : Int) : (s.setC c o v).fports = s.fports := rfl
@[simp] theorem State.setC_sports (s : State) (c : Ch) (o : Obj) (v : Int) : (s.setC c o v).sports = s.sports := rfl
@[simp] theorem State.setC_trackers (s : State) (c : Ch) (o : Obj) (v : Int) : (s.setC c o v).trackers = s.trackers := rfl
@[simp] theorem State.setC_axes (s : State) (c : Ch) (o : Obj) (v : Int) : (s.setC c o v).axes = s.axes := rfl
@[simp] theorem State.setC_gens (s : State) (c : Ch) (o : Obj) (v : Int) : (s.setC c o v).gens = s.gens := rfl
@[simp] theorem State.setC_groups (s : State) (c : Ch) (o : Obj) (v : Int) : (s.setC c o v).groups = s.groups := rfl
@[simp] theorem State.setC_tasks (s : State) (c : Ch) (o : Obj) (v : Int) : (s.setC c o v).tasks = s.tasks := rfl
@[simp] theorem State.setC_traces (s : State) (c : Ch) (o : Obj) (v : Int) : (s.setC c o v).traces = s.traces := rfl
@[simp] theorem State.setC_slots (s : State) (c : Ch) (o : Obj) (v : Int) : (s.setC c o v).slots = s.slots := rfl
@[simp] theorem State.setC_arms (s : State) (c : Ch) (o : Obj) (v : Int) : (s.setC c o v).arms = s.arms := rfl
@[simp] theorem State.setC_tests (s : State) (c : Ch) (o : Obj) (v : Int) : (s.setC c o v).tests = s.tests := rfl
@[simp] theorem State.setC_drivers (s : State) (c : Ch) (o : Obj) (v : Int) : (s.setC c o v).drivers = s.drivers := rfl
@[simp] theorem State.setC_spis (s : State) (c : Ch) (o : Obj) (v : Int) : (s.setC c o v).spis = s.spis := rfl
@[simp] theorem State.setC_objs (s : State) (c : Ch) (o : Obj) (v : Int) : (s.setC c o v).objs = s.objs := rfl
@[simp] theorem State.setC_red (s : State) (c : Ch) (o : Obj) (v : Int) : (s.setC c o v).red = s.red := rfl
@[simp] theorem State.setC_sed (s : State) (c : Ch) (o : Obj) (v : Int) : (s.setC c o v).sed = s.sed := rfl
@[simp] theorem State.setC_place (s : State) (c : Ch) (o : Obj) (v : Int) : (s.setC c o v).place = s.place := rfl
@[simp] theorem State.setC_fab (s : State) (c : Ch) (o : Obj) (v : Int) : (s.setC c o v).fab = s.fab := rfl
@[simp] theorem State.setC_twin (s : State) (c : Ch) (o : Obj) (v : Int) : (s.setC c o v).twin = s.twin := rfl
@[simp] theorem State.setC_safe (s : State) (c : Ch) (o : Obj) (v : Int) : (s.setC c o v).safe = s.safe := rfl
@[simp] theorem State.setC_power (s : State) (c : Ch) (o : Obj) (v : Int) : (s.setC c o v).power = s.power := rfl
@[simp] theorem State.setC_life (s : State) (c : Ch) (o : Obj) (v : Int) : (s.setC c o v).life = s.life := rfl
@[simp] theorem State.setC_su (s : State) (c : Ch) (o : Obj) (v : Int) : (s.setC c o v).su = s.su := rfl
@[simp] theorem State.setC_marks (s : State) (c : Ch) (o : Obj) (v : Int) : (s.setC c o v).marks = s.marks := rfl
@[simp] theorem State.setC_used (s : State) (c : Ch) (o : Obj) (v : Int) : (s.setC c o v).used = s.used := rfl
@[simp] theorem State.setC_sent (s : State) (c : Ch) (o : Obj) (v : Int) : (s.setC c o v).sent = s.sent := rfl
@[simp] theorem State.setC_pending (s : State) (c : Ch) (o : Obj) (v : Int) : (s.setC c o v).pending = s.pending := rfl

-- setR

@[simp] theorem State.setR_now (s : State) (o : Obj) (v : Int) : (s.setR o v).now = s.now := rfl
@[simp] theorem State.setR_strs (s : State) (o : Obj) (v : Int) : (s.setR o v).strs = s.strs := rfl
@[simp] theorem State.setR_arch (s : State) (o : Obj) (v : Int) : (s.setR o v).arch = s.arch := rfl
@[simp] theorem State.setR_kdp (s : State) (o : Obj) (v : Int) : (s.setR o v).kdp = s.kdp := rfl
@[simp] theorem State.setR_ports (s : State) (o : Obj) (v : Int) : (s.setR o v).ports = s.ports := rfl
@[simp] theorem State.setR_sems (s : State) (o : Obj) (v : Int) : (s.setR o v).sems = s.sems := rfl
@[simp] theorem State.setR_convs (s : State) (o : Obj) (v : Int) : (s.setR o v).convs = s.convs := rfl
@[simp] theorem State.setR_grps (s : State) (o : Obj) (v : Int) : (s.setR o v).grps = s.grps := rfl
@[simp] theorem State.setR_diags (s : State) (o : Obj) (v : Int) : (s.setR o v).diags = s.diags := rfl
@[simp] theorem State.setR_fports (s : State) (o : Obj) (v : Int) : (s.setR o v).fports = s.fports := rfl
@[simp] theorem State.setR_sports (s : State) (o : Obj) (v : Int) : (s.setR o v).sports = s.sports := rfl
@[simp] theorem State.setR_trackers (s : State) (o : Obj) (v : Int) : (s.setR o v).trackers = s.trackers := rfl
@[simp] theorem State.setR_axes (s : State) (o : Obj) (v : Int) : (s.setR o v).axes = s.axes := rfl
@[simp] theorem State.setR_gens (s : State) (o : Obj) (v : Int) : (s.setR o v).gens = s.gens := rfl
@[simp] theorem State.setR_groups (s : State) (o : Obj) (v : Int) : (s.setR o v).groups = s.groups := rfl
@[simp] theorem State.setR_tasks (s : State) (o : Obj) (v : Int) : (s.setR o v).tasks = s.tasks := rfl
@[simp] theorem State.setR_traces (s : State) (o : Obj) (v : Int) : (s.setR o v).traces = s.traces := rfl
@[simp] theorem State.setR_slots (s : State) (o : Obj) (v : Int) : (s.setR o v).slots = s.slots := rfl
@[simp] theorem State.setR_arms (s : State) (o : Obj) (v : Int) : (s.setR o v).arms = s.arms := rfl
@[simp] theorem State.setR_tests (s : State) (o : Obj) (v : Int) : (s.setR o v).tests = s.tests := rfl
@[simp] theorem State.setR_drivers (s : State) (o : Obj) (v : Int) : (s.setR o v).drivers = s.drivers := rfl
@[simp] theorem State.setR_spis (s : State) (o : Obj) (v : Int) : (s.setR o v).spis = s.spis := rfl
@[simp] theorem State.setR_objs (s : State) (o : Obj) (v : Int) : (s.setR o v).objs = s.objs := rfl
@[simp] theorem State.setR_red (s : State) (o : Obj) (v : Int) : (s.setR o v).red = s.red := rfl
@[simp] theorem State.setR_sed (s : State) (o : Obj) (v : Int) : (s.setR o v).sed = s.sed := rfl
@[simp] theorem State.setR_place (s : State) (o : Obj) (v : Int) : (s.setR o v).place = s.place := rfl
@[simp] theorem State.setR_fab (s : State) (o : Obj) (v : Int) : (s.setR o v).fab = s.fab := rfl
@[simp] theorem State.setR_twin (s : State) (o : Obj) (v : Int) : (s.setR o v).twin = s.twin := rfl
@[simp] theorem State.setR_safe (s : State) (o : Obj) (v : Int) : (s.setR o v).safe = s.safe := rfl
@[simp] theorem State.setR_power (s : State) (o : Obj) (v : Int) : (s.setR o v).power = s.power := rfl
@[simp] theorem State.setR_life (s : State) (o : Obj) (v : Int) : (s.setR o v).life = s.life := rfl
@[simp] theorem State.setR_su (s : State) (o : Obj) (v : Int) : (s.setR o v).su = s.su := rfl
@[simp] theorem State.setR_marks (s : State) (o : Obj) (v : Int) : (s.setR o v).marks = s.marks := rfl
@[simp] theorem State.setR_used (s : State) (o : Obj) (v : Int) : (s.setR o v).used = s.used := rfl
@[simp] theorem State.setR_sent (s : State) (o : Obj) (v : Int) : (s.setR o v).sent = s.sent := rfl
@[simp] theorem State.setR_pending (s : State) (o : Obj) (v : Int) : (s.setR o v).pending = s.pending := rfl

-- bumpC

@[simp] theorem State.bumpC_now (s : State) (c : Ch) (o : Obj) (n : Nat) : (s.bumpC c o n).now = s.now := rfl
@[simp] theorem State.bumpC_strs (s : State) (c : Ch) (o : Obj) (n : Nat) : (s.bumpC c o n).strs = s.strs := rfl
@[simp] theorem State.bumpC_arch (s : State) (c : Ch) (o : Obj) (n : Nat) : (s.bumpC c o n).arch = s.arch := rfl
@[simp] theorem State.bumpC_kdp (s : State) (c : Ch) (o : Obj) (n : Nat) : (s.bumpC c o n).kdp = s.kdp := rfl
@[simp] theorem State.bumpC_ports (s : State) (c : Ch) (o : Obj) (n : Nat) : (s.bumpC c o n).ports = s.ports := rfl
@[simp] theorem State.bumpC_sems (s : State) (c : Ch) (o : Obj) (n : Nat) : (s.bumpC c o n).sems = s.sems := rfl
@[simp] theorem State.bumpC_convs (s : State) (c : Ch) (o : Obj) (n : Nat) : (s.bumpC c o n).convs = s.convs := rfl
@[simp] theorem State.bumpC_grps (s : State) (c : Ch) (o : Obj) (n : Nat) : (s.bumpC c o n).grps = s.grps := rfl
@[simp] theorem State.bumpC_diags (s : State) (c : Ch) (o : Obj) (n : Nat) : (s.bumpC c o n).diags = s.diags := rfl
@[simp] theorem State.bumpC_fports (s : State) (c : Ch) (o : Obj) (n : Nat) : (s.bumpC c o n).fports = s.fports := rfl
@[simp] theorem State.bumpC_sports (s : State) (c : Ch) (o : Obj) (n : Nat) : (s.bumpC c o n).sports = s.sports := rfl
@[simp] theorem State.bumpC_trackers (s : State) (c : Ch) (o : Obj) (n : Nat) : (s.bumpC c o n).trackers = s.trackers := rfl
@[simp] theorem State.bumpC_axes (s : State) (c : Ch) (o : Obj) (n : Nat) : (s.bumpC c o n).axes = s.axes := rfl
@[simp] theorem State.bumpC_gens (s : State) (c : Ch) (o : Obj) (n : Nat) : (s.bumpC c o n).gens = s.gens := rfl
@[simp] theorem State.bumpC_groups (s : State) (c : Ch) (o : Obj) (n : Nat) : (s.bumpC c o n).groups = s.groups := rfl
@[simp] theorem State.bumpC_tasks (s : State) (c : Ch) (o : Obj) (n : Nat) : (s.bumpC c o n).tasks = s.tasks := rfl
@[simp] theorem State.bumpC_traces (s : State) (c : Ch) (o : Obj) (n : Nat) : (s.bumpC c o n).traces = s.traces := rfl
@[simp] theorem State.bumpC_slots (s : State) (c : Ch) (o : Obj) (n : Nat) : (s.bumpC c o n).slots = s.slots := rfl
@[simp] theorem State.bumpC_arms (s : State) (c : Ch) (o : Obj) (n : Nat) : (s.bumpC c o n).arms = s.arms := rfl
@[simp] theorem State.bumpC_tests (s : State) (c : Ch) (o : Obj) (n : Nat) : (s.bumpC c o n).tests = s.tests := rfl
@[simp] theorem State.bumpC_drivers (s : State) (c : Ch) (o : Obj) (n : Nat) : (s.bumpC c o n).drivers = s.drivers := rfl
@[simp] theorem State.bumpC_spis (s : State) (c : Ch) (o : Obj) (n : Nat) : (s.bumpC c o n).spis = s.spis := rfl
@[simp] theorem State.bumpC_objs (s : State) (c : Ch) (o : Obj) (n : Nat) : (s.bumpC c o n).objs = s.objs := rfl
@[simp] theorem State.bumpC_red (s : State) (c : Ch) (o : Obj) (n : Nat) : (s.bumpC c o n).red = s.red := rfl
@[simp] theorem State.bumpC_sed (s : State) (c : Ch) (o : Obj) (n : Nat) : (s.bumpC c o n).sed = s.sed := rfl
@[simp] theorem State.bumpC_place (s : State) (c : Ch) (o : Obj) (n : Nat) : (s.bumpC c o n).place = s.place := rfl
@[simp] theorem State.bumpC_fab (s : State) (c : Ch) (o : Obj) (n : Nat) : (s.bumpC c o n).fab = s.fab := rfl
@[simp] theorem State.bumpC_twin (s : State) (c : Ch) (o : Obj) (n : Nat) : (s.bumpC c o n).twin = s.twin := rfl
@[simp] theorem State.bumpC_safe (s : State) (c : Ch) (o : Obj) (n : Nat) : (s.bumpC c o n).safe = s.safe := rfl
@[simp] theorem State.bumpC_power (s : State) (c : Ch) (o : Obj) (n : Nat) : (s.bumpC c o n).power = s.power := rfl
@[simp] theorem State.bumpC_life (s : State) (c : Ch) (o : Obj) (n : Nat) : (s.bumpC c o n).life = s.life := rfl
@[simp] theorem State.bumpC_su (s : State) (c : Ch) (o : Obj) (n : Nat) : (s.bumpC c o n).su = s.su := rfl
@[simp] theorem State.bumpC_marks (s : State) (c : Ch) (o : Obj) (n : Nat) : (s.bumpC c o n).marks = s.marks := rfl
@[simp] theorem State.bumpC_used (s : State) (c : Ch) (o : Obj) (n : Nat) : (s.bumpC c o n).used = s.used := rfl
@[simp] theorem State.bumpC_sent (s : State) (c : Ch) (o : Obj) (n : Nat) : (s.bumpC c o n).sent = s.sent := rfl
@[simp] theorem State.bumpC_pending (s : State) (c : Ch) (o : Obj) (n : Nat) : (s.bumpC c o n).pending = s.pending := rfl

-- bumpR

@[simp] theorem State.bumpR_now (s : State) (o : Obj) (n : Nat) : (s.bumpR o n).now = s.now := rfl
@[simp] theorem State.bumpR_strs (s : State) (o : Obj) (n : Nat) : (s.bumpR o n).strs = s.strs := rfl
@[simp] theorem State.bumpR_arch (s : State) (o : Obj) (n : Nat) : (s.bumpR o n).arch = s.arch := rfl
@[simp] theorem State.bumpR_kdp (s : State) (o : Obj) (n : Nat) : (s.bumpR o n).kdp = s.kdp := rfl
@[simp] theorem State.bumpR_ports (s : State) (o : Obj) (n : Nat) : (s.bumpR o n).ports = s.ports := rfl
@[simp] theorem State.bumpR_sems (s : State) (o : Obj) (n : Nat) : (s.bumpR o n).sems = s.sems := rfl
@[simp] theorem State.bumpR_convs (s : State) (o : Obj) (n : Nat) : (s.bumpR o n).convs = s.convs := rfl
@[simp] theorem State.bumpR_grps (s : State) (o : Obj) (n : Nat) : (s.bumpR o n).grps = s.grps := rfl
@[simp] theorem State.bumpR_diags (s : State) (o : Obj) (n : Nat) : (s.bumpR o n).diags = s.diags := rfl
@[simp] theorem State.bumpR_fports (s : State) (o : Obj) (n : Nat) : (s.bumpR o n).fports = s.fports := rfl
@[simp] theorem State.bumpR_sports (s : State) (o : Obj) (n : Nat) : (s.bumpR o n).sports = s.sports := rfl
@[simp] theorem State.bumpR_trackers (s : State) (o : Obj) (n : Nat) : (s.bumpR o n).trackers = s.trackers := rfl
@[simp] theorem State.bumpR_axes (s : State) (o : Obj) (n : Nat) : (s.bumpR o n).axes = s.axes := rfl
@[simp] theorem State.bumpR_gens (s : State) (o : Obj) (n : Nat) : (s.bumpR o n).gens = s.gens := rfl
@[simp] theorem State.bumpR_groups (s : State) (o : Obj) (n : Nat) : (s.bumpR o n).groups = s.groups := rfl
@[simp] theorem State.bumpR_tasks (s : State) (o : Obj) (n : Nat) : (s.bumpR o n).tasks = s.tasks := rfl
@[simp] theorem State.bumpR_traces (s : State) (o : Obj) (n : Nat) : (s.bumpR o n).traces = s.traces := rfl
@[simp] theorem State.bumpR_slots (s : State) (o : Obj) (n : Nat) : (s.bumpR o n).slots = s.slots := rfl
@[simp] theorem State.bumpR_arms (s : State) (o : Obj) (n : Nat) : (s.bumpR o n).arms = s.arms := rfl
@[simp] theorem State.bumpR_tests (s : State) (o : Obj) (n : Nat) : (s.bumpR o n).tests = s.tests := rfl
@[simp] theorem State.bumpR_drivers (s : State) (o : Obj) (n : Nat) : (s.bumpR o n).drivers = s.drivers := rfl
@[simp] theorem State.bumpR_spis (s : State) (o : Obj) (n : Nat) : (s.bumpR o n).spis = s.spis := rfl
@[simp] theorem State.bumpR_objs (s : State) (o : Obj) (n : Nat) : (s.bumpR o n).objs = s.objs := rfl
@[simp] theorem State.bumpR_red (s : State) (o : Obj) (n : Nat) : (s.bumpR o n).red = s.red := rfl
@[simp] theorem State.bumpR_sed (s : State) (o : Obj) (n : Nat) : (s.bumpR o n).sed = s.sed := rfl
@[simp] theorem State.bumpR_place (s : State) (o : Obj) (n : Nat) : (s.bumpR o n).place = s.place := rfl
@[simp] theorem State.bumpR_fab (s : State) (o : Obj) (n : Nat) : (s.bumpR o n).fab = s.fab := rfl
@[simp] theorem State.bumpR_twin (s : State) (o : Obj) (n : Nat) : (s.bumpR o n).twin = s.twin := rfl
@[simp] theorem State.bumpR_safe (s : State) (o : Obj) (n : Nat) : (s.bumpR o n).safe = s.safe := rfl
@[simp] theorem State.bumpR_power (s : State) (o : Obj) (n : Nat) : (s.bumpR o n).power = s.power := rfl
@[simp] theorem State.bumpR_life (s : State) (o : Obj) (n : Nat) : (s.bumpR o n).life = s.life := rfl
@[simp] theorem State.bumpR_su (s : State) (o : Obj) (n : Nat) : (s.bumpR o n).su = s.su := rfl
@[simp] theorem State.bumpR_marks (s : State) (o : Obj) (n : Nat) : (s.bumpR o n).marks = s.marks := rfl
@[simp] theorem State.bumpR_used (s : State) (o : Obj) (n : Nat) : (s.bumpR o n).used = s.used := rfl
@[simp] theorem State.bumpR_sent (s : State) (o : Obj) (n : Nat) : (s.bumpR o n).sent = s.sent := rfl
@[simp] theorem State.bumpR_pending (s : State) (o : Obj) (n : Nat) : (s.bumpR o n).pending = s.pending := rfl

-- bitC

@[simp] theorem State.bitC_now (s : State) (c : Ch) (o : Obj) (n : Nat) (b : Bool) : (s.bitC c o n b).now = s.now := rfl
@[simp] theorem State.bitC_strs (s : State) (c : Ch) (o : Obj) (n : Nat) (b : Bool) : (s.bitC c o n b).strs = s.strs := rfl
@[simp] theorem State.bitC_arch (s : State) (c : Ch) (o : Obj) (n : Nat) (b : Bool) : (s.bitC c o n b).arch = s.arch := rfl
@[simp] theorem State.bitC_kdp (s : State) (c : Ch) (o : Obj) (n : Nat) (b : Bool) : (s.bitC c o n b).kdp = s.kdp := rfl
@[simp] theorem State.bitC_ports (s : State) (c : Ch) (o : Obj) (n : Nat) (b : Bool) : (s.bitC c o n b).ports = s.ports := rfl
@[simp] theorem State.bitC_sems (s : State) (c : Ch) (o : Obj) (n : Nat) (b : Bool) : (s.bitC c o n b).sems = s.sems := rfl
@[simp] theorem State.bitC_convs (s : State) (c : Ch) (o : Obj) (n : Nat) (b : Bool) : (s.bitC c o n b).convs = s.convs := rfl
@[simp] theorem State.bitC_grps (s : State) (c : Ch) (o : Obj) (n : Nat) (b : Bool) : (s.bitC c o n b).grps = s.grps := rfl
@[simp] theorem State.bitC_diags (s : State) (c : Ch) (o : Obj) (n : Nat) (b : Bool) : (s.bitC c o n b).diags = s.diags := rfl
@[simp] theorem State.bitC_fports (s : State) (c : Ch) (o : Obj) (n : Nat) (b : Bool) : (s.bitC c o n b).fports = s.fports := rfl
@[simp] theorem State.bitC_sports (s : State) (c : Ch) (o : Obj) (n : Nat) (b : Bool) : (s.bitC c o n b).sports = s.sports := rfl
@[simp] theorem State.bitC_trackers (s : State) (c : Ch) (o : Obj) (n : Nat) (b : Bool) : (s.bitC c o n b).trackers = s.trackers := rfl
@[simp] theorem State.bitC_axes (s : State) (c : Ch) (o : Obj) (n : Nat) (b : Bool) : (s.bitC c o n b).axes = s.axes := rfl
@[simp] theorem State.bitC_gens (s : State) (c : Ch) (o : Obj) (n : Nat) (b : Bool) : (s.bitC c o n b).gens = s.gens := rfl
@[simp] theorem State.bitC_groups (s : State) (c : Ch) (o : Obj) (n : Nat) (b : Bool) : (s.bitC c o n b).groups = s.groups := rfl
@[simp] theorem State.bitC_tasks (s : State) (c : Ch) (o : Obj) (n : Nat) (b : Bool) : (s.bitC c o n b).tasks = s.tasks := rfl
@[simp] theorem State.bitC_traces (s : State) (c : Ch) (o : Obj) (n : Nat) (b : Bool) : (s.bitC c o n b).traces = s.traces := rfl
@[simp] theorem State.bitC_slots (s : State) (c : Ch) (o : Obj) (n : Nat) (b : Bool) : (s.bitC c o n b).slots = s.slots := rfl
@[simp] theorem State.bitC_arms (s : State) (c : Ch) (o : Obj) (n : Nat) (b : Bool) : (s.bitC c o n b).arms = s.arms := rfl
@[simp] theorem State.bitC_tests (s : State) (c : Ch) (o : Obj) (n : Nat) (b : Bool) : (s.bitC c o n b).tests = s.tests := rfl
@[simp] theorem State.bitC_drivers (s : State) (c : Ch) (o : Obj) (n : Nat) (b : Bool) : (s.bitC c o n b).drivers = s.drivers := rfl
@[simp] theorem State.bitC_spis (s : State) (c : Ch) (o : Obj) (n : Nat) (b : Bool) : (s.bitC c o n b).spis = s.spis := rfl
@[simp] theorem State.bitC_objs (s : State) (c : Ch) (o : Obj) (n : Nat) (b : Bool) : (s.bitC c o n b).objs = s.objs := rfl
@[simp] theorem State.bitC_red (s : State) (c : Ch) (o : Obj) (n : Nat) (b : Bool) : (s.bitC c o n b).red = s.red := rfl
@[simp] theorem State.bitC_sed (s : State) (c : Ch) (o : Obj) (n : Nat) (b : Bool) : (s.bitC c o n b).sed = s.sed := rfl
@[simp] theorem State.bitC_place (s : State) (c : Ch) (o : Obj) (n : Nat) (b : Bool) : (s.bitC c o n b).place = s.place := rfl
@[simp] theorem State.bitC_fab (s : State) (c : Ch) (o : Obj) (n : Nat) (b : Bool) : (s.bitC c o n b).fab = s.fab := rfl
@[simp] theorem State.bitC_twin (s : State) (c : Ch) (o : Obj) (n : Nat) (b : Bool) : (s.bitC c o n b).twin = s.twin := rfl
@[simp] theorem State.bitC_safe (s : State) (c : Ch) (o : Obj) (n : Nat) (b : Bool) : (s.bitC c o n b).safe = s.safe := rfl
@[simp] theorem State.bitC_power (s : State) (c : Ch) (o : Obj) (n : Nat) (b : Bool) : (s.bitC c o n b).power = s.power := rfl
@[simp] theorem State.bitC_life (s : State) (c : Ch) (o : Obj) (n : Nat) (b : Bool) : (s.bitC c o n b).life = s.life := rfl
@[simp] theorem State.bitC_su (s : State) (c : Ch) (o : Obj) (n : Nat) (b : Bool) : (s.bitC c o n b).su = s.su := rfl
@[simp] theorem State.bitC_marks (s : State) (c : Ch) (o : Obj) (n : Nat) (b : Bool) : (s.bitC c o n b).marks = s.marks := rfl
@[simp] theorem State.bitC_used (s : State) (c : Ch) (o : Obj) (n : Nat) (b : Bool) : (s.bitC c o n b).used = s.used := rfl
@[simp] theorem State.bitC_sent (s : State) (c : Ch) (o : Obj) (n : Nat) (b : Bool) : (s.bitC c o n b).sent = s.sent := rfl
@[simp] theorem State.bitC_pending (s : State) (c : Ch) (o : Obj) (n : Nat) (b : Bool) : (s.bitC c o n b).pending = s.pending := rfl

-- bitR

@[simp] theorem State.bitR_now (s : State) (o : Obj) (n : Nat) (b : Bool) : (s.bitR o n b).now = s.now := rfl
@[simp] theorem State.bitR_strs (s : State) (o : Obj) (n : Nat) (b : Bool) : (s.bitR o n b).strs = s.strs := rfl
@[simp] theorem State.bitR_arch (s : State) (o : Obj) (n : Nat) (b : Bool) : (s.bitR o n b).arch = s.arch := rfl
@[simp] theorem State.bitR_kdp (s : State) (o : Obj) (n : Nat) (b : Bool) : (s.bitR o n b).kdp = s.kdp := rfl
@[simp] theorem State.bitR_ports (s : State) (o : Obj) (n : Nat) (b : Bool) : (s.bitR o n b).ports = s.ports := rfl
@[simp] theorem State.bitR_sems (s : State) (o : Obj) (n : Nat) (b : Bool) : (s.bitR o n b).sems = s.sems := rfl
@[simp] theorem State.bitR_convs (s : State) (o : Obj) (n : Nat) (b : Bool) : (s.bitR o n b).convs = s.convs := rfl
@[simp] theorem State.bitR_grps (s : State) (o : Obj) (n : Nat) (b : Bool) : (s.bitR o n b).grps = s.grps := rfl
@[simp] theorem State.bitR_diags (s : State) (o : Obj) (n : Nat) (b : Bool) : (s.bitR o n b).diags = s.diags := rfl
@[simp] theorem State.bitR_fports (s : State) (o : Obj) (n : Nat) (b : Bool) : (s.bitR o n b).fports = s.fports := rfl
@[simp] theorem State.bitR_sports (s : State) (o : Obj) (n : Nat) (b : Bool) : (s.bitR o n b).sports = s.sports := rfl
@[simp] theorem State.bitR_trackers (s : State) (o : Obj) (n : Nat) (b : Bool) : (s.bitR o n b).trackers = s.trackers := rfl
@[simp] theorem State.bitR_axes (s : State) (o : Obj) (n : Nat) (b : Bool) : (s.bitR o n b).axes = s.axes := rfl
@[simp] theorem State.bitR_gens (s : State) (o : Obj) (n : Nat) (b : Bool) : (s.bitR o n b).gens = s.gens := rfl
@[simp] theorem State.bitR_groups (s : State) (o : Obj) (n : Nat) (b : Bool) : (s.bitR o n b).groups = s.groups := rfl
@[simp] theorem State.bitR_tasks (s : State) (o : Obj) (n : Nat) (b : Bool) : (s.bitR o n b).tasks = s.tasks := rfl
@[simp] theorem State.bitR_traces (s : State) (o : Obj) (n : Nat) (b : Bool) : (s.bitR o n b).traces = s.traces := rfl
@[simp] theorem State.bitR_slots (s : State) (o : Obj) (n : Nat) (b : Bool) : (s.bitR o n b).slots = s.slots := rfl
@[simp] theorem State.bitR_arms (s : State) (o : Obj) (n : Nat) (b : Bool) : (s.bitR o n b).arms = s.arms := rfl
@[simp] theorem State.bitR_tests (s : State) (o : Obj) (n : Nat) (b : Bool) : (s.bitR o n b).tests = s.tests := rfl
@[simp] theorem State.bitR_drivers (s : State) (o : Obj) (n : Nat) (b : Bool) : (s.bitR o n b).drivers = s.drivers := rfl
@[simp] theorem State.bitR_spis (s : State) (o : Obj) (n : Nat) (b : Bool) : (s.bitR o n b).spis = s.spis := rfl
@[simp] theorem State.bitR_objs (s : State) (o : Obj) (n : Nat) (b : Bool) : (s.bitR o n b).objs = s.objs := rfl
@[simp] theorem State.bitR_red (s : State) (o : Obj) (n : Nat) (b : Bool) : (s.bitR o n b).red = s.red := rfl
@[simp] theorem State.bitR_sed (s : State) (o : Obj) (n : Nat) (b : Bool) : (s.bitR o n b).sed = s.sed := rfl
@[simp] theorem State.bitR_place (s : State) (o : Obj) (n : Nat) (b : Bool) : (s.bitR o n b).place = s.place := rfl
@[simp] theorem State.bitR_fab (s : State) (o : Obj) (n : Nat) (b : Bool) : (s.bitR o n b).fab = s.fab := rfl
@[simp] theorem State.bitR_twin (s : State) (o : Obj) (n : Nat) (b : Bool) : (s.bitR o n b).twin = s.twin := rfl
@[simp] theorem State.bitR_safe (s : State) (o : Obj) (n : Nat) (b : Bool) : (s.bitR o n b).safe = s.safe := rfl
@[simp] theorem State.bitR_power (s : State) (o : Obj) (n : Nat) (b : Bool) : (s.bitR o n b).power = s.power := rfl
@[simp] theorem State.bitR_life (s : State) (o : Obj) (n : Nat) (b : Bool) : (s.bitR o n b).life = s.life := rfl
@[simp] theorem State.bitR_su (s : State) (o : Obj) (n : Nat) (b : Bool) : (s.bitR o n b).su = s.su := rfl
@[simp] theorem State.bitR_marks (s : State) (o : Obj) (n : Nat) (b : Bool) : (s.bitR o n b).marks = s.marks := rfl
@[simp] theorem State.bitR_used (s : State) (o : Obj) (n : Nat) (b : Bool) : (s.bitR o n b).used = s.used := rfl
@[simp] theorem State.bitR_sent (s : State) (o : Obj) (n : Nat) (b : Bool) : (s.bitR o n b).sent = s.sent := rfl
@[simp] theorem State.bitR_pending (s : State) (o : Obj) (n : Nat) (b : Bool) : (s.bitR o n b).pending = s.pending := rfl

-- setStr

@[simp] theorem State.setStr_now (s : State) (o : Obj) (v : List Byte) : (s.setStr o v).now = s.now := rfl
@[simp] theorem State.setStr_regs (s : State) (o : Obj) (v : List Byte) : (s.setStr o v).regs = s.regs := rfl
@[simp] theorem State.setStr_arch (s : State) (o : Obj) (v : List Byte) : (s.setStr o v).arch = s.arch := rfl
@[simp] theorem State.setStr_kdp (s : State) (o : Obj) (v : List Byte) : (s.setStr o v).kdp = s.kdp := rfl
@[simp] theorem State.setStr_ports (s : State) (o : Obj) (v : List Byte) : (s.setStr o v).ports = s.ports := rfl
@[simp] theorem State.setStr_sems (s : State) (o : Obj) (v : List Byte) : (s.setStr o v).sems = s.sems := rfl
@[simp] theorem State.setStr_convs (s : State) (o : Obj) (v : List Byte) : (s.setStr o v).convs = s.convs := rfl
@[simp] theorem State.setStr_grps (s : State) (o : Obj) (v : List Byte) : (s.setStr o v).grps = s.grps := rfl
@[simp] theorem State.setStr_diags (s : State) (o : Obj) (v : List Byte) : (s.setStr o v).diags = s.diags := rfl
@[simp] theorem State.setStr_fports (s : State) (o : Obj) (v : List Byte) : (s.setStr o v).fports = s.fports := rfl
@[simp] theorem State.setStr_sports (s : State) (o : Obj) (v : List Byte) : (s.setStr o v).sports = s.sports := rfl
@[simp] theorem State.setStr_trackers (s : State) (o : Obj) (v : List Byte) : (s.setStr o v).trackers = s.trackers := rfl
@[simp] theorem State.setStr_axes (s : State) (o : Obj) (v : List Byte) : (s.setStr o v).axes = s.axes := rfl
@[simp] theorem State.setStr_gens (s : State) (o : Obj) (v : List Byte) : (s.setStr o v).gens = s.gens := rfl
@[simp] theorem State.setStr_groups (s : State) (o : Obj) (v : List Byte) : (s.setStr o v).groups = s.groups := rfl
@[simp] theorem State.setStr_tasks (s : State) (o : Obj) (v : List Byte) : (s.setStr o v).tasks = s.tasks := rfl
@[simp] theorem State.setStr_traces (s : State) (o : Obj) (v : List Byte) : (s.setStr o v).traces = s.traces := rfl
@[simp] theorem State.setStr_slots (s : State) (o : Obj) (v : List Byte) : (s.setStr o v).slots = s.slots := rfl
@[simp] theorem State.setStr_arms (s : State) (o : Obj) (v : List Byte) : (s.setStr o v).arms = s.arms := rfl
@[simp] theorem State.setStr_tests (s : State) (o : Obj) (v : List Byte) : (s.setStr o v).tests = s.tests := rfl
@[simp] theorem State.setStr_drivers (s : State) (o : Obj) (v : List Byte) : (s.setStr o v).drivers = s.drivers := rfl
@[simp] theorem State.setStr_spis (s : State) (o : Obj) (v : List Byte) : (s.setStr o v).spis = s.spis := rfl
@[simp] theorem State.setStr_objs (s : State) (o : Obj) (v : List Byte) : (s.setStr o v).objs = s.objs := rfl
@[simp] theorem State.setStr_red (s : State) (o : Obj) (v : List Byte) : (s.setStr o v).red = s.red := rfl
@[simp] theorem State.setStr_sed (s : State) (o : Obj) (v : List Byte) : (s.setStr o v).sed = s.sed := rfl
@[simp] theorem State.setStr_place (s : State) (o : Obj) (v : List Byte) : (s.setStr o v).place = s.place := rfl
@[simp] theorem State.setStr_fab (s : State) (o : Obj) (v : List Byte) : (s.setStr o v).fab = s.fab := rfl
@[simp] theorem State.setStr_twin (s : State) (o : Obj) (v : List Byte) : (s.setStr o v).twin = s.twin := rfl
@[simp] theorem State.setStr_safe (s : State) (o : Obj) (v : List Byte) : (s.setStr o v).safe = s.safe := rfl
@[simp] theorem State.setStr_power (s : State) (o : Obj) (v : List Byte) : (s.setStr o v).power = s.power := rfl
@[simp] theorem State.setStr_life (s : State) (o : Obj) (v : List Byte) : (s.setStr o v).life = s.life := rfl
@[simp] theorem State.setStr_su (s : State) (o : Obj) (v : List Byte) : (s.setStr o v).su = s.su := rfl
@[simp] theorem State.setStr_marks (s : State) (o : Obj) (v : List Byte) : (s.setStr o v).marks = s.marks := rfl
@[simp] theorem State.setStr_used (s : State) (o : Obj) (v : List Byte) : (s.setStr o v).used = s.used := rfl
@[simp] theorem State.setStr_sent (s : State) (o : Obj) (v : List Byte) : (s.setStr o v).sent = s.sent := rfl
@[simp] theorem State.setStr_pending (s : State) (o : Obj) (v : List Byte) : (s.setStr o v).pending = s.pending := rfl

-- setDobj

@[simp] theorem State.setDobj_now (s : State) (c : Ch) (o : Nat) (v : Int) : (s.setDobj c o v).now = s.now := rfl
@[simp] theorem State.setDobj_regs (s : State) (c : Ch) (o : Nat) (v : Int) : (s.setDobj c o v).regs = s.regs := rfl
@[simp] theorem State.setDobj_strs (s : State) (c : Ch) (o : Nat) (v : Int) : (s.setDobj c o v).strs = s.strs := rfl
@[simp] theorem State.setDobj_arch (s : State) (c : Ch) (o : Nat) (v : Int) : (s.setDobj c o v).arch = s.arch := rfl
@[simp] theorem State.setDobj_kdp (s : State) (c : Ch) (o : Nat) (v : Int) : (s.setDobj c o v).kdp = s.kdp := rfl
@[simp] theorem State.setDobj_ports (s : State) (c : Ch) (o : Nat) (v : Int) : (s.setDobj c o v).ports = s.ports := rfl
@[simp] theorem State.setDobj_sems (s : State) (c : Ch) (o : Nat) (v : Int) : (s.setDobj c o v).sems = s.sems := rfl
@[simp] theorem State.setDobj_convs (s : State) (c : Ch) (o : Nat) (v : Int) : (s.setDobj c o v).convs = s.convs := rfl
@[simp] theorem State.setDobj_grps (s : State) (c : Ch) (o : Nat) (v : Int) : (s.setDobj c o v).grps = s.grps := rfl
@[simp] theorem State.setDobj_diags (s : State) (c : Ch) (o : Nat) (v : Int) : (s.setDobj c o v).diags = s.diags := rfl
@[simp] theorem State.setDobj_fports (s : State) (c : Ch) (o : Nat) (v : Int) : (s.setDobj c o v).fports = s.fports := rfl
@[simp] theorem State.setDobj_sports (s : State) (c : Ch) (o : Nat) (v : Int) : (s.setDobj c o v).sports = s.sports := rfl
@[simp] theorem State.setDobj_trackers (s : State) (c : Ch) (o : Nat) (v : Int) : (s.setDobj c o v).trackers = s.trackers := rfl
@[simp] theorem State.setDobj_axes (s : State) (c : Ch) (o : Nat) (v : Int) : (s.setDobj c o v).axes = s.axes := rfl
@[simp] theorem State.setDobj_gens (s : State) (c : Ch) (o : Nat) (v : Int) : (s.setDobj c o v).gens = s.gens := rfl
@[simp] theorem State.setDobj_groups (s : State) (c : Ch) (o : Nat) (v : Int) : (s.setDobj c o v).groups = s.groups := rfl
@[simp] theorem State.setDobj_tasks (s : State) (c : Ch) (o : Nat) (v : Int) : (s.setDobj c o v).tasks = s.tasks := rfl
@[simp] theorem State.setDobj_traces (s : State) (c : Ch) (o : Nat) (v : Int) : (s.setDobj c o v).traces = s.traces := rfl
@[simp] theorem State.setDobj_slots (s : State) (c : Ch) (o : Nat) (v : Int) : (s.setDobj c o v).slots = s.slots := rfl
@[simp] theorem State.setDobj_arms (s : State) (c : Ch) (o : Nat) (v : Int) : (s.setDobj c o v).arms = s.arms := rfl
@[simp] theorem State.setDobj_tests (s : State) (c : Ch) (o : Nat) (v : Int) : (s.setDobj c o v).tests = s.tests := rfl
@[simp] theorem State.setDobj_drivers (s : State) (c : Ch) (o : Nat) (v : Int) : (s.setDobj c o v).drivers = s.drivers := rfl
@[simp] theorem State.setDobj_spis (s : State) (c : Ch) (o : Nat) (v : Int) : (s.setDobj c o v).spis = s.spis := rfl
@[simp] theorem State.setDobj_red (s : State) (c : Ch) (o : Nat) (v : Int) : (s.setDobj c o v).red = s.red := rfl
@[simp] theorem State.setDobj_sed (s : State) (c : Ch) (o : Nat) (v : Int) : (s.setDobj c o v).sed = s.sed := rfl
@[simp] theorem State.setDobj_place (s : State) (c : Ch) (o : Nat) (v : Int) : (s.setDobj c o v).place = s.place := rfl
@[simp] theorem State.setDobj_fab (s : State) (c : Ch) (o : Nat) (v : Int) : (s.setDobj c o v).fab = s.fab := rfl
@[simp] theorem State.setDobj_twin (s : State) (c : Ch) (o : Nat) (v : Int) : (s.setDobj c o v).twin = s.twin := rfl
@[simp] theorem State.setDobj_safe (s : State) (c : Ch) (o : Nat) (v : Int) : (s.setDobj c o v).safe = s.safe := rfl
@[simp] theorem State.setDobj_power (s : State) (c : Ch) (o : Nat) (v : Int) : (s.setDobj c o v).power = s.power := rfl
@[simp] theorem State.setDobj_life (s : State) (c : Ch) (o : Nat) (v : Int) : (s.setDobj c o v).life = s.life := rfl
@[simp] theorem State.setDobj_su (s : State) (c : Ch) (o : Nat) (v : Int) : (s.setDobj c o v).su = s.su := rfl
@[simp] theorem State.setDobj_marks (s : State) (c : Ch) (o : Nat) (v : Int) : (s.setDobj c o v).marks = s.marks := rfl
@[simp] theorem State.setDobj_used (s : State) (c : Ch) (o : Nat) (v : Int) : (s.setDobj c o v).used = s.used := rfl
@[simp] theorem State.setDobj_sent (s : State) (c : Ch) (o : Nat) (v : Int) : (s.setDobj c o v).sent = s.sent := rfl
@[simp] theorem State.setDobj_pending (s : State) (c : Ch) (o : Nat) (v : Int) : (s.setDobj c o v).pending = s.pending := rfl

-- send

@[simp] theorem State.send_now (s : State) (o : Out) : (s.send o).now = s.now := rfl
@[simp] theorem State.send_regs (s : State) (o : Out) : (s.send o).regs = s.regs := rfl
@[simp] theorem State.send_strs (s : State) (o : Out) : (s.send o).strs = s.strs := rfl
@[simp] theorem State.send_arch (s : State) (o : Out) : (s.send o).arch = s.arch := rfl
@[simp] theorem State.send_kdp (s : State) (o : Out) : (s.send o).kdp = s.kdp := rfl
@[simp] theorem State.send_ports (s : State) (o : Out) : (s.send o).ports = s.ports := rfl
@[simp] theorem State.send_sems (s : State) (o : Out) : (s.send o).sems = s.sems := rfl
@[simp] theorem State.send_convs (s : State) (o : Out) : (s.send o).convs = s.convs := rfl
@[simp] theorem State.send_grps (s : State) (o : Out) : (s.send o).grps = s.grps := rfl
@[simp] theorem State.send_diags (s : State) (o : Out) : (s.send o).diags = s.diags := rfl
@[simp] theorem State.send_fports (s : State) (o : Out) : (s.send o).fports = s.fports := rfl
@[simp] theorem State.send_sports (s : State) (o : Out) : (s.send o).sports = s.sports := rfl
@[simp] theorem State.send_trackers (s : State) (o : Out) : (s.send o).trackers = s.trackers := rfl
@[simp] theorem State.send_axes (s : State) (o : Out) : (s.send o).axes = s.axes := rfl
@[simp] theorem State.send_gens (s : State) (o : Out) : (s.send o).gens = s.gens := rfl
@[simp] theorem State.send_groups (s : State) (o : Out) : (s.send o).groups = s.groups := rfl
@[simp] theorem State.send_tasks (s : State) (o : Out) : (s.send o).tasks = s.tasks := rfl
@[simp] theorem State.send_traces (s : State) (o : Out) : (s.send o).traces = s.traces := rfl
@[simp] theorem State.send_slots (s : State) (o : Out) : (s.send o).slots = s.slots := rfl
@[simp] theorem State.send_arms (s : State) (o : Out) : (s.send o).arms = s.arms := rfl
@[simp] theorem State.send_tests (s : State) (o : Out) : (s.send o).tests = s.tests := rfl
@[simp] theorem State.send_drivers (s : State) (o : Out) : (s.send o).drivers = s.drivers := rfl
@[simp] theorem State.send_spis (s : State) (o : Out) : (s.send o).spis = s.spis := rfl
@[simp] theorem State.send_objs (s : State) (o : Out) : (s.send o).objs = s.objs := rfl
@[simp] theorem State.send_red (s : State) (o : Out) : (s.send o).red = s.red := rfl
@[simp] theorem State.send_sed (s : State) (o : Out) : (s.send o).sed = s.sed := rfl
@[simp] theorem State.send_place (s : State) (o : Out) : (s.send o).place = s.place := rfl
@[simp] theorem State.send_fab (s : State) (o : Out) : (s.send o).fab = s.fab := rfl
@[simp] theorem State.send_twin (s : State) (o : Out) : (s.send o).twin = s.twin := rfl
@[simp] theorem State.send_safe (s : State) (o : Out) : (s.send o).safe = s.safe := rfl
@[simp] theorem State.send_power (s : State) (o : Out) : (s.send o).power = s.power := rfl
@[simp] theorem State.send_life (s : State) (o : Out) : (s.send o).life = s.life := rfl
@[simp] theorem State.send_su (s : State) (o : Out) : (s.send o).su = s.su := rfl
@[simp] theorem State.send_marks (s : State) (o : Out) : (s.send o).marks = s.marks := rfl
@[simp] theorem State.send_used (s : State) (o : Out) : (s.send o).used = s.used := rfl
@[simp] theorem State.send_pending (s : State) (o : Out) : (s.send o).pending = s.pending := rfl

-- useFree

@[simp] theorem State.useFree_now (s : State) : (s.useFree).now = s.now := rfl
@[simp] theorem State.useFree_regs (s : State) : (s.useFree).regs = s.regs := rfl
@[simp] theorem State.useFree_strs (s : State) : (s.useFree).strs = s.strs := rfl
@[simp] theorem State.useFree_arch (s : State) : (s.useFree).arch = s.arch := rfl
@[simp] theorem State.useFree_kdp (s : State) : (s.useFree).kdp = s.kdp := rfl
@[simp] theorem State.useFree_ports (s : State) : (s.useFree).ports = s.ports := rfl
@[simp] theorem State.useFree_sems (s : State) : (s.useFree).sems = s.sems := rfl
@[simp] theorem State.useFree_convs (s : State) : (s.useFree).convs = s.convs := rfl
@[simp] theorem State.useFree_grps (s : State) : (s.useFree).grps = s.grps := rfl
@[simp] theorem State.useFree_diags (s : State) : (s.useFree).diags = s.diags := rfl
@[simp] theorem State.useFree_fports (s : State) : (s.useFree).fports = s.fports := rfl
@[simp] theorem State.useFree_sports (s : State) : (s.useFree).sports = s.sports := rfl
@[simp] theorem State.useFree_trackers (s : State) : (s.useFree).trackers = s.trackers := rfl
@[simp] theorem State.useFree_axes (s : State) : (s.useFree).axes = s.axes := rfl
@[simp] theorem State.useFree_gens (s : State) : (s.useFree).gens = s.gens := rfl
@[simp] theorem State.useFree_groups (s : State) : (s.useFree).groups = s.groups := rfl
@[simp] theorem State.useFree_tasks (s : State) : (s.useFree).tasks = s.tasks := rfl
@[simp] theorem State.useFree_traces (s : State) : (s.useFree).traces = s.traces := rfl
@[simp] theorem State.useFree_slots (s : State) : (s.useFree).slots = s.slots := rfl
@[simp] theorem State.useFree_arms (s : State) : (s.useFree).arms = s.arms := rfl
@[simp] theorem State.useFree_tests (s : State) : (s.useFree).tests = s.tests := rfl
@[simp] theorem State.useFree_drivers (s : State) : (s.useFree).drivers = s.drivers := rfl
@[simp] theorem State.useFree_spis (s : State) : (s.useFree).spis = s.spis := rfl
@[simp] theorem State.useFree_objs (s : State) : (s.useFree).objs = s.objs := rfl
@[simp] theorem State.useFree_red (s : State) : (s.useFree).red = s.red := rfl
@[simp] theorem State.useFree_sed (s : State) : (s.useFree).sed = s.sed := rfl
@[simp] theorem State.useFree_place (s : State) : (s.useFree).place = s.place := rfl
@[simp] theorem State.useFree_fab (s : State) : (s.useFree).fab = s.fab := rfl
@[simp] theorem State.useFree_twin (s : State) : (s.useFree).twin = s.twin := rfl
@[simp] theorem State.useFree_safe (s : State) : (s.useFree).safe = s.safe := rfl
@[simp] theorem State.useFree_power (s : State) : (s.useFree).power = s.power := rfl
@[simp] theorem State.useFree_life (s : State) : (s.useFree).life = s.life := rfl
@[simp] theorem State.useFree_su (s : State) : (s.useFree).su = s.su := rfl
@[simp] theorem State.useFree_marks (s : State) : (s.useFree).marks = s.marks := rfl
@[simp] theorem State.useFree_sent (s : State) : (s.useFree).sent = s.sent := rfl
@[simp] theorem State.useFree_pending (s : State) : (s.useFree).pending = s.pending := rfl

-- upTo

@[simp] theorem State.upTo_regs (s : State) (t : Nat) : (s.upTo t).regs = s.regs := rfl
@[simp] theorem State.upTo_strs (s : State) (t : Nat) : (s.upTo t).strs = s.strs := rfl
@[simp] theorem State.upTo_arch (s : State) (t : Nat) : (s.upTo t).arch = s.arch := rfl
@[simp] theorem State.upTo_kdp (s : State) (t : Nat) : (s.upTo t).kdp = s.kdp := rfl
@[simp] theorem State.upTo_ports (s : State) (t : Nat) : (s.upTo t).ports = s.ports := rfl
@[simp] theorem State.upTo_sems (s : State) (t : Nat) : (s.upTo t).sems = s.sems := rfl
@[simp] theorem State.upTo_convs (s : State) (t : Nat) : (s.upTo t).convs = s.convs := rfl
@[simp] theorem State.upTo_grps (s : State) (t : Nat) : (s.upTo t).grps = s.grps := rfl
@[simp] theorem State.upTo_diags (s : State) (t : Nat) : (s.upTo t).diags = s.diags := rfl
@[simp] theorem State.upTo_fports (s : State) (t : Nat) : (s.upTo t).fports = s.fports := rfl
@[simp] theorem State.upTo_sports (s : State) (t : Nat) : (s.upTo t).sports = s.sports := rfl
@[simp] theorem State.upTo_trackers (s : State) (t : Nat) : (s.upTo t).trackers = s.trackers := rfl
@[simp] theorem State.upTo_axes (s : State) (t : Nat) : (s.upTo t).axes = s.axes := rfl
@[simp] theorem State.upTo_gens (s : State) (t : Nat) : (s.upTo t).gens = s.gens := rfl
@[simp] theorem State.upTo_groups (s : State) (t : Nat) : (s.upTo t).groups = s.groups := rfl
@[simp] theorem State.upTo_tasks (s : State) (t : Nat) : (s.upTo t).tasks = s.tasks := rfl
@[simp] theorem State.upTo_traces (s : State) (t : Nat) : (s.upTo t).traces = s.traces := rfl
@[simp] theorem State.upTo_slots (s : State) (t : Nat) : (s.upTo t).slots = s.slots := rfl
@[simp] theorem State.upTo_arms (s : State) (t : Nat) : (s.upTo t).arms = s.arms := rfl
@[simp] theorem State.upTo_tests (s : State) (t : Nat) : (s.upTo t).tests = s.tests := rfl
@[simp] theorem State.upTo_drivers (s : State) (t : Nat) : (s.upTo t).drivers = s.drivers := rfl
@[simp] theorem State.upTo_spis (s : State) (t : Nat) : (s.upTo t).spis = s.spis := rfl
@[simp] theorem State.upTo_objs (s : State) (t : Nat) : (s.upTo t).objs = s.objs := rfl
@[simp] theorem State.upTo_red (s : State) (t : Nat) : (s.upTo t).red = s.red := rfl
@[simp] theorem State.upTo_sed (s : State) (t : Nat) : (s.upTo t).sed = s.sed := rfl
@[simp] theorem State.upTo_place (s : State) (t : Nat) : (s.upTo t).place = s.place := rfl
@[simp] theorem State.upTo_fab (s : State) (t : Nat) : (s.upTo t).fab = s.fab := rfl
@[simp] theorem State.upTo_twin (s : State) (t : Nat) : (s.upTo t).twin = s.twin := rfl
@[simp] theorem State.upTo_safe (s : State) (t : Nat) : (s.upTo t).safe = s.safe := rfl
@[simp] theorem State.upTo_power (s : State) (t : Nat) : (s.upTo t).power = s.power := rfl
@[simp] theorem State.upTo_life (s : State) (t : Nat) : (s.upTo t).life = s.life := rfl
@[simp] theorem State.upTo_su (s : State) (t : Nat) : (s.upTo t).su = s.su := rfl
@[simp] theorem State.upTo_marks (s : State) (t : Nat) : (s.upTo t).marks = s.marks := rfl
@[simp] theorem State.upTo_used (s : State) (t : Nat) : (s.upTo t).used = s.used := rfl
@[simp] theorem State.upTo_sent (s : State) (t : Nat) : (s.upTo t).sent = s.sent := rfl
@[simp] theorem State.upTo_pending (s : State) (t : Nat) : (s.upTo t).pending = s.pending := rfl

-- updSed

@[simp] theorem State.updSed_now (s : State) (c : Ch) (f : Sed → Sed) : (s.updSed c f).now = s.now := rfl
@[simp] theorem State.updSed_regs (s : State) (c : Ch) (f : Sed → Sed) : (s.updSed c f).regs = s.regs := rfl
@[simp] theorem State.updSed_strs (s : State) (c : Ch) (f : Sed → Sed) : (s.updSed c f).strs = s.strs := rfl
@[simp] theorem State.updSed_arch (s : State) (c : Ch) (f : Sed → Sed) : (s.updSed c f).arch = s.arch := rfl
@[simp] theorem State.updSed_kdp (s : State) (c : Ch) (f : Sed → Sed) : (s.updSed c f).kdp = s.kdp := rfl
@[simp] theorem State.updSed_ports (s : State) (c : Ch) (f : Sed → Sed) : (s.updSed c f).ports = s.ports := rfl
@[simp] theorem State.updSed_sems (s : State) (c : Ch) (f : Sed → Sed) : (s.updSed c f).sems = s.sems := rfl
@[simp] theorem State.updSed_convs (s : State) (c : Ch) (f : Sed → Sed) : (s.updSed c f).convs = s.convs := rfl
@[simp] theorem State.updSed_grps (s : State) (c : Ch) (f : Sed → Sed) : (s.updSed c f).grps = s.grps := rfl
@[simp] theorem State.updSed_diags (s : State) (c : Ch) (f : Sed → Sed) : (s.updSed c f).diags = s.diags := rfl
@[simp] theorem State.updSed_fports (s : State) (c : Ch) (f : Sed → Sed) : (s.updSed c f).fports = s.fports := rfl
@[simp] theorem State.updSed_sports (s : State) (c : Ch) (f : Sed → Sed) : (s.updSed c f).sports = s.sports := rfl
@[simp] theorem State.updSed_trackers (s : State) (c : Ch) (f : Sed → Sed) : (s.updSed c f).trackers = s.trackers := rfl
@[simp] theorem State.updSed_axes (s : State) (c : Ch) (f : Sed → Sed) : (s.updSed c f).axes = s.axes := rfl
@[simp] theorem State.updSed_gens (s : State) (c : Ch) (f : Sed → Sed) : (s.updSed c f).gens = s.gens := rfl
@[simp] theorem State.updSed_groups (s : State) (c : Ch) (f : Sed → Sed) : (s.updSed c f).groups = s.groups := rfl
@[simp] theorem State.updSed_tasks (s : State) (c : Ch) (f : Sed → Sed) : (s.updSed c f).tasks = s.tasks := rfl
@[simp] theorem State.updSed_traces (s : State) (c : Ch) (f : Sed → Sed) : (s.updSed c f).traces = s.traces := rfl
@[simp] theorem State.updSed_slots (s : State) (c : Ch) (f : Sed → Sed) : (s.updSed c f).slots = s.slots := rfl
@[simp] theorem State.updSed_arms (s : State) (c : Ch) (f : Sed → Sed) : (s.updSed c f).arms = s.arms := rfl
@[simp] theorem State.updSed_tests (s : State) (c : Ch) (f : Sed → Sed) : (s.updSed c f).tests = s.tests := rfl
@[simp] theorem State.updSed_drivers (s : State) (c : Ch) (f : Sed → Sed) : (s.updSed c f).drivers = s.drivers := rfl
@[simp] theorem State.updSed_spis (s : State) (c : Ch) (f : Sed → Sed) : (s.updSed c f).spis = s.spis := rfl
@[simp] theorem State.updSed_objs (s : State) (c : Ch) (f : Sed → Sed) : (s.updSed c f).objs = s.objs := rfl
@[simp] theorem State.updSed_red (s : State) (c : Ch) (f : Sed → Sed) : (s.updSed c f).red = s.red := rfl
@[simp] theorem State.updSed_place (s : State) (c : Ch) (f : Sed → Sed) : (s.updSed c f).place = s.place := rfl
@[simp] theorem State.updSed_fab (s : State) (c : Ch) (f : Sed → Sed) : (s.updSed c f).fab = s.fab := rfl
@[simp] theorem State.updSed_twin (s : State) (c : Ch) (f : Sed → Sed) : (s.updSed c f).twin = s.twin := rfl
@[simp] theorem State.updSed_safe (s : State) (c : Ch) (f : Sed → Sed) : (s.updSed c f).safe = s.safe := rfl
@[simp] theorem State.updSed_power (s : State) (c : Ch) (f : Sed → Sed) : (s.updSed c f).power = s.power := rfl
@[simp] theorem State.updSed_life (s : State) (c : Ch) (f : Sed → Sed) : (s.updSed c f).life = s.life := rfl
@[simp] theorem State.updSed_su (s : State) (c : Ch) (f : Sed → Sed) : (s.updSed c f).su = s.su := rfl
@[simp] theorem State.updSed_marks (s : State) (c : Ch) (f : Sed → Sed) : (s.updSed c f).marks = s.marks := rfl
@[simp] theorem State.updSed_used (s : State) (c : Ch) (f : Sed → Sed) : (s.updSed c f).used = s.used := rfl
@[simp] theorem State.updSed_sent (s : State) (c : Ch) (f : Sed → Sed) : (s.updSed c f).sent = s.sent := rfl
@[simp] theorem State.updSed_pending (s : State) (c : Ch) (f : Sed → Sed) : (s.updSed c f).pending = s.pending := rfl

-- updStream

@[simp] theorem State.updStream_now (s : State) (k : Nat) (f : Stream → Stream) : (s.updStream k f).now = s.now := rfl
@[simp] theorem State.updStream_regs (s : State) (k : Nat) (f : Stream → Stream) : (s.updStream k f).regs = s.regs := rfl
@[simp] theorem State.updStream_strs (s : State) (k : Nat) (f : Stream → Stream) : (s.updStream k f).strs = s.strs := rfl
@[simp] theorem State.updStream_arch (s : State) (k : Nat) (f : Stream → Stream) : (s.updStream k f).arch = s.arch := rfl
@[simp] theorem State.updStream_kdp (s : State) (k : Nat) (f : Stream → Stream) : (s.updStream k f).kdp = s.kdp := rfl
@[simp] theorem State.updStream_ports (s : State) (k : Nat) (f : Stream → Stream) : (s.updStream k f).ports = s.ports := rfl
@[simp] theorem State.updStream_sems (s : State) (k : Nat) (f : Stream → Stream) : (s.updStream k f).sems = s.sems := rfl
@[simp] theorem State.updStream_convs (s : State) (k : Nat) (f : Stream → Stream) : (s.updStream k f).convs = s.convs := rfl
@[simp] theorem State.updStream_grps (s : State) (k : Nat) (f : Stream → Stream) : (s.updStream k f).grps = s.grps := rfl
@[simp] theorem State.updStream_diags (s : State) (k : Nat) (f : Stream → Stream) : (s.updStream k f).diags = s.diags := rfl
@[simp] theorem State.updStream_fports (s : State) (k : Nat) (f : Stream → Stream) : (s.updStream k f).fports = s.fports := rfl
@[simp] theorem State.updStream_sports (s : State) (k : Nat) (f : Stream → Stream) : (s.updStream k f).sports = s.sports := rfl
@[simp] theorem State.updStream_trackers (s : State) (k : Nat) (f : Stream → Stream) : (s.updStream k f).trackers = s.trackers := rfl
@[simp] theorem State.updStream_axes (s : State) (k : Nat) (f : Stream → Stream) : (s.updStream k f).axes = s.axes := rfl
@[simp] theorem State.updStream_gens (s : State) (k : Nat) (f : Stream → Stream) : (s.updStream k f).gens = s.gens := rfl
@[simp] theorem State.updStream_groups (s : State) (k : Nat) (f : Stream → Stream) : (s.updStream k f).groups = s.groups := rfl
@[simp] theorem State.updStream_tasks (s : State) (k : Nat) (f : Stream → Stream) : (s.updStream k f).tasks = s.tasks := rfl
@[simp] theorem State.updStream_traces (s : State) (k : Nat) (f : Stream → Stream) : (s.updStream k f).traces = s.traces := rfl
@[simp] theorem State.updStream_slots (s : State) (k : Nat) (f : Stream → Stream) : (s.updStream k f).slots = s.slots := rfl
@[simp] theorem State.updStream_arms (s : State) (k : Nat) (f : Stream → Stream) : (s.updStream k f).arms = s.arms := rfl
@[simp] theorem State.updStream_tests (s : State) (k : Nat) (f : Stream → Stream) : (s.updStream k f).tests = s.tests := rfl
@[simp] theorem State.updStream_drivers (s : State) (k : Nat) (f : Stream → Stream) : (s.updStream k f).drivers = s.drivers := rfl
@[simp] theorem State.updStream_spis (s : State) (k : Nat) (f : Stream → Stream) : (s.updStream k f).spis = s.spis := rfl
@[simp] theorem State.updStream_objs (s : State) (k : Nat) (f : Stream → Stream) : (s.updStream k f).objs = s.objs := rfl
@[simp] theorem State.updStream_sed (s : State) (k : Nat) (f : Stream → Stream) : (s.updStream k f).sed = s.sed := rfl
@[simp] theorem State.updStream_place (s : State) (k : Nat) (f : Stream → Stream) : (s.updStream k f).place = s.place := rfl
@[simp] theorem State.updStream_fab (s : State) (k : Nat) (f : Stream → Stream) : (s.updStream k f).fab = s.fab := rfl
@[simp] theorem State.updStream_twin (s : State) (k : Nat) (f : Stream → Stream) : (s.updStream k f).twin = s.twin := rfl
@[simp] theorem State.updStream_safe (s : State) (k : Nat) (f : Stream → Stream) : (s.updStream k f).safe = s.safe := rfl
@[simp] theorem State.updStream_power (s : State) (k : Nat) (f : Stream → Stream) : (s.updStream k f).power = s.power := rfl
@[simp] theorem State.updStream_life (s : State) (k : Nat) (f : Stream → Stream) : (s.updStream k f).life = s.life := rfl
@[simp] theorem State.updStream_su (s : State) (k : Nat) (f : Stream → Stream) : (s.updStream k f).su = s.su := rfl
@[simp] theorem State.updStream_marks (s : State) (k : Nat) (f : Stream → Stream) : (s.updStream k f).marks = s.marks := rfl
@[simp] theorem State.updStream_used (s : State) (k : Nat) (f : Stream → Stream) : (s.updStream k f).used = s.used := rfl
@[simp] theorem State.updStream_sent (s : State) (k : Nat) (f : Stream → Stream) : (s.updStream k f).sent = s.sent := rfl
@[simp] theorem State.updStream_pending (s : State) (k : Nat) (f : Stream → Stream) : (s.updStream k f).pending = s.pending := rfl

-- updConv

@[simp] theorem State.updConv_now (s : State) (c : Ch) (n : Nat) (f : Conv → Conv) : (s.updConv c n f).now = s.now := rfl
@[simp] theorem State.updConv_regs (s : State) (c : Ch) (n : Nat) (f : Conv → Conv) : (s.updConv c n f).regs = s.regs := rfl
@[simp] theorem State.updConv_strs (s : State) (c : Ch) (n : Nat) (f : Conv → Conv) : (s.updConv c n f).strs = s.strs := rfl
@[simp] theorem State.updConv_arch (s : State) (c : Ch) (n : Nat) (f : Conv → Conv) : (s.updConv c n f).arch = s.arch := rfl
@[simp] theorem State.updConv_kdp (s : State) (c : Ch) (n : Nat) (f : Conv → Conv) : (s.updConv c n f).kdp = s.kdp := rfl
@[simp] theorem State.updConv_ports (s : State) (c : Ch) (n : Nat) (f : Conv → Conv) : (s.updConv c n f).ports = s.ports := rfl
@[simp] theorem State.updConv_sems (s : State) (c : Ch) (n : Nat) (f : Conv → Conv) : (s.updConv c n f).sems = s.sems := rfl
@[simp] theorem State.updConv_grps (s : State) (c : Ch) (n : Nat) (f : Conv → Conv) : (s.updConv c n f).grps = s.grps := rfl
@[simp] theorem State.updConv_diags (s : State) (c : Ch) (n : Nat) (f : Conv → Conv) : (s.updConv c n f).diags = s.diags := rfl
@[simp] theorem State.updConv_fports (s : State) (c : Ch) (n : Nat) (f : Conv → Conv) : (s.updConv c n f).fports = s.fports := rfl
@[simp] theorem State.updConv_sports (s : State) (c : Ch) (n : Nat) (f : Conv → Conv) : (s.updConv c n f).sports = s.sports := rfl
@[simp] theorem State.updConv_trackers (s : State) (c : Ch) (n : Nat) (f : Conv → Conv) : (s.updConv c n f).trackers = s.trackers := rfl
@[simp] theorem State.updConv_axes (s : State) (c : Ch) (n : Nat) (f : Conv → Conv) : (s.updConv c n f).axes = s.axes := rfl
@[simp] theorem State.updConv_gens (s : State) (c : Ch) (n : Nat) (f : Conv → Conv) : (s.updConv c n f).gens = s.gens := rfl
@[simp] theorem State.updConv_groups (s : State) (c : Ch) (n : Nat) (f : Conv → Conv) : (s.updConv c n f).groups = s.groups := rfl
@[simp] theorem State.updConv_tasks (s : State) (c : Ch) (n : Nat) (f : Conv → Conv) : (s.updConv c n f).tasks = s.tasks := rfl
@[simp] theorem State.updConv_traces (s : State) (c : Ch) (n : Nat) (f : Conv → Conv) : (s.updConv c n f).traces = s.traces := rfl
@[simp] theorem State.updConv_slots (s : State) (c : Ch) (n : Nat) (f : Conv → Conv) : (s.updConv c n f).slots = s.slots := rfl
@[simp] theorem State.updConv_arms (s : State) (c : Ch) (n : Nat) (f : Conv → Conv) : (s.updConv c n f).arms = s.arms := rfl
@[simp] theorem State.updConv_tests (s : State) (c : Ch) (n : Nat) (f : Conv → Conv) : (s.updConv c n f).tests = s.tests := rfl
@[simp] theorem State.updConv_drivers (s : State) (c : Ch) (n : Nat) (f : Conv → Conv) : (s.updConv c n f).drivers = s.drivers := rfl
@[simp] theorem State.updConv_spis (s : State) (c : Ch) (n : Nat) (f : Conv → Conv) : (s.updConv c n f).spis = s.spis := rfl
@[simp] theorem State.updConv_objs (s : State) (c : Ch) (n : Nat) (f : Conv → Conv) : (s.updConv c n f).objs = s.objs := rfl
@[simp] theorem State.updConv_red (s : State) (c : Ch) (n : Nat) (f : Conv → Conv) : (s.updConv c n f).red = s.red := rfl
@[simp] theorem State.updConv_sed (s : State) (c : Ch) (n : Nat) (f : Conv → Conv) : (s.updConv c n f).sed = s.sed := rfl
@[simp] theorem State.updConv_place (s : State) (c : Ch) (n : Nat) (f : Conv → Conv) : (s.updConv c n f).place = s.place := rfl
@[simp] theorem State.updConv_fab (s : State) (c : Ch) (n : Nat) (f : Conv → Conv) : (s.updConv c n f).fab = s.fab := rfl
@[simp] theorem State.updConv_twin (s : State) (c : Ch) (n : Nat) (f : Conv → Conv) : (s.updConv c n f).twin = s.twin := rfl
@[simp] theorem State.updConv_safe (s : State) (c : Ch) (n : Nat) (f : Conv → Conv) : (s.updConv c n f).safe = s.safe := rfl
@[simp] theorem State.updConv_power (s : State) (c : Ch) (n : Nat) (f : Conv → Conv) : (s.updConv c n f).power = s.power := rfl
@[simp] theorem State.updConv_life (s : State) (c : Ch) (n : Nat) (f : Conv → Conv) : (s.updConv c n f).life = s.life := rfl
@[simp] theorem State.updConv_su (s : State) (c : Ch) (n : Nat) (f : Conv → Conv) : (s.updConv c n f).su = s.su := rfl
@[simp] theorem State.updConv_marks (s : State) (c : Ch) (n : Nat) (f : Conv → Conv) : (s.updConv c n f).marks = s.marks := rfl
@[simp] theorem State.updConv_used (s : State) (c : Ch) (n : Nat) (f : Conv → Conv) : (s.updConv c n f).used = s.used := rfl
@[simp] theorem State.updConv_sent (s : State) (c : Ch) (n : Nat) (f : Conv → Conv) : (s.updConv c n f).sent = s.sent := rfl
@[simp] theorem State.updConv_pending (s : State) (c : Ch) (n : Nat) (f : Conv → Conv) : (s.updConv c n f).pending = s.pending := rfl

-- updGrp

@[simp] theorem State.updGrp_now (s : State) (c : Ch) (n : Nat) (f : Grp → Grp) : (s.updGrp c n f).now = s.now := rfl
@[simp] theorem State.updGrp_regs (s : State) (c : Ch) (n : Nat) (f : Grp → Grp) : (s.updGrp c n f).regs = s.regs := rfl
@[simp] theorem State.updGrp_strs (s : State) (c : Ch) (n : Nat) (f : Grp → Grp) : (s.updGrp c n f).strs = s.strs := rfl
@[simp] theorem State.updGrp_arch (s : State) (c : Ch) (n : Nat) (f : Grp → Grp) : (s.updGrp c n f).arch = s.arch := rfl
@[simp] theorem State.updGrp_kdp (s : State) (c : Ch) (n : Nat) (f : Grp → Grp) : (s.updGrp c n f).kdp = s.kdp := rfl
@[simp] theorem State.updGrp_ports (s : State) (c : Ch) (n : Nat) (f : Grp → Grp) : (s.updGrp c n f).ports = s.ports := rfl
@[simp] theorem State.updGrp_sems (s : State) (c : Ch) (n : Nat) (f : Grp → Grp) : (s.updGrp c n f).sems = s.sems := rfl
@[simp] theorem State.updGrp_convs (s : State) (c : Ch) (n : Nat) (f : Grp → Grp) : (s.updGrp c n f).convs = s.convs := rfl
@[simp] theorem State.updGrp_diags (s : State) (c : Ch) (n : Nat) (f : Grp → Grp) : (s.updGrp c n f).diags = s.diags := rfl
@[simp] theorem State.updGrp_fports (s : State) (c : Ch) (n : Nat) (f : Grp → Grp) : (s.updGrp c n f).fports = s.fports := rfl
@[simp] theorem State.updGrp_sports (s : State) (c : Ch) (n : Nat) (f : Grp → Grp) : (s.updGrp c n f).sports = s.sports := rfl
@[simp] theorem State.updGrp_trackers (s : State) (c : Ch) (n : Nat) (f : Grp → Grp) : (s.updGrp c n f).trackers = s.trackers := rfl
@[simp] theorem State.updGrp_axes (s : State) (c : Ch) (n : Nat) (f : Grp → Grp) : (s.updGrp c n f).axes = s.axes := rfl
@[simp] theorem State.updGrp_gens (s : State) (c : Ch) (n : Nat) (f : Grp → Grp) : (s.updGrp c n f).gens = s.gens := rfl
@[simp] theorem State.updGrp_groups (s : State) (c : Ch) (n : Nat) (f : Grp → Grp) : (s.updGrp c n f).groups = s.groups := rfl
@[simp] theorem State.updGrp_tasks (s : State) (c : Ch) (n : Nat) (f : Grp → Grp) : (s.updGrp c n f).tasks = s.tasks := rfl
@[simp] theorem State.updGrp_traces (s : State) (c : Ch) (n : Nat) (f : Grp → Grp) : (s.updGrp c n f).traces = s.traces := rfl
@[simp] theorem State.updGrp_slots (s : State) (c : Ch) (n : Nat) (f : Grp → Grp) : (s.updGrp c n f).slots = s.slots := rfl
@[simp] theorem State.updGrp_arms (s : State) (c : Ch) (n : Nat) (f : Grp → Grp) : (s.updGrp c n f).arms = s.arms := rfl
@[simp] theorem State.updGrp_tests (s : State) (c : Ch) (n : Nat) (f : Grp → Grp) : (s.updGrp c n f).tests = s.tests := rfl
@[simp] theorem State.updGrp_drivers (s : State) (c : Ch) (n : Nat) (f : Grp → Grp) : (s.updGrp c n f).drivers = s.drivers := rfl
@[simp] theorem State.updGrp_spis (s : State) (c : Ch) (n : Nat) (f : Grp → Grp) : (s.updGrp c n f).spis = s.spis := rfl
@[simp] theorem State.updGrp_objs (s : State) (c : Ch) (n : Nat) (f : Grp → Grp) : (s.updGrp c n f).objs = s.objs := rfl
@[simp] theorem State.updGrp_red (s : State) (c : Ch) (n : Nat) (f : Grp → Grp) : (s.updGrp c n f).red = s.red := rfl
@[simp] theorem State.updGrp_sed (s : State) (c : Ch) (n : Nat) (f : Grp → Grp) : (s.updGrp c n f).sed = s.sed := rfl
@[simp] theorem State.updGrp_place (s : State) (c : Ch) (n : Nat) (f : Grp → Grp) : (s.updGrp c n f).place = s.place := rfl
@[simp] theorem State.updGrp_fab (s : State) (c : Ch) (n : Nat) (f : Grp → Grp) : (s.updGrp c n f).fab = s.fab := rfl
@[simp] theorem State.updGrp_twin (s : State) (c : Ch) (n : Nat) (f : Grp → Grp) : (s.updGrp c n f).twin = s.twin := rfl
@[simp] theorem State.updGrp_safe (s : State) (c : Ch) (n : Nat) (f : Grp → Grp) : (s.updGrp c n f).safe = s.safe := rfl
@[simp] theorem State.updGrp_power (s : State) (c : Ch) (n : Nat) (f : Grp → Grp) : (s.updGrp c n f).power = s.power := rfl
@[simp] theorem State.updGrp_life (s : State) (c : Ch) (n : Nat) (f : Grp → Grp) : (s.updGrp c n f).life = s.life := rfl
@[simp] theorem State.updGrp_su (s : State) (c : Ch) (n : Nat) (f : Grp → Grp) : (s.updGrp c n f).su = s.su := rfl
@[simp] theorem State.updGrp_marks (s : State) (c : Ch) (n : Nat) (f : Grp → Grp) : (s.updGrp c n f).marks = s.marks := rfl
@[simp] theorem State.updGrp_used (s : State) (c : Ch) (n : Nat) (f : Grp → Grp) : (s.updGrp c n f).used = s.used := rfl
@[simp] theorem State.updGrp_sent (s : State) (c : Ch) (n : Nat) (f : Grp → Grp) : (s.updGrp c n f).sent = s.sent := rfl
@[simp] theorem State.updGrp_pending (s : State) (c : Ch) (n : Nat) (f : Grp → Grp) : (s.updGrp c n f).pending = s.pending := rfl

-- updDiag

@[simp] theorem State.updDiag_now (s : State) (c : Ch) (n : Nat) (f : Diag → Diag) : (s.updDiag c n f).now = s.now := rfl
@[simp] theorem State.updDiag_regs (s : State) (c : Ch) (n : Nat) (f : Diag → Diag) : (s.updDiag c n f).regs = s.regs := rfl
@[simp] theorem State.updDiag_strs (s : State) (c : Ch) (n : Nat) (f : Diag → Diag) : (s.updDiag c n f).strs = s.strs := rfl
@[simp] theorem State.updDiag_arch (s : State) (c : Ch) (n : Nat) (f : Diag → Diag) : (s.updDiag c n f).arch = s.arch := rfl
@[simp] theorem State.updDiag_kdp (s : State) (c : Ch) (n : Nat) (f : Diag → Diag) : (s.updDiag c n f).kdp = s.kdp := rfl
@[simp] theorem State.updDiag_ports (s : State) (c : Ch) (n : Nat) (f : Diag → Diag) : (s.updDiag c n f).ports = s.ports := rfl
@[simp] theorem State.updDiag_sems (s : State) (c : Ch) (n : Nat) (f : Diag → Diag) : (s.updDiag c n f).sems = s.sems := rfl
@[simp] theorem State.updDiag_convs (s : State) (c : Ch) (n : Nat) (f : Diag → Diag) : (s.updDiag c n f).convs = s.convs := rfl
@[simp] theorem State.updDiag_grps (s : State) (c : Ch) (n : Nat) (f : Diag → Diag) : (s.updDiag c n f).grps = s.grps := rfl
@[simp] theorem State.updDiag_fports (s : State) (c : Ch) (n : Nat) (f : Diag → Diag) : (s.updDiag c n f).fports = s.fports := rfl
@[simp] theorem State.updDiag_sports (s : State) (c : Ch) (n : Nat) (f : Diag → Diag) : (s.updDiag c n f).sports = s.sports := rfl
@[simp] theorem State.updDiag_trackers (s : State) (c : Ch) (n : Nat) (f : Diag → Diag) : (s.updDiag c n f).trackers = s.trackers := rfl
@[simp] theorem State.updDiag_axes (s : State) (c : Ch) (n : Nat) (f : Diag → Diag) : (s.updDiag c n f).axes = s.axes := rfl
@[simp] theorem State.updDiag_gens (s : State) (c : Ch) (n : Nat) (f : Diag → Diag) : (s.updDiag c n f).gens = s.gens := rfl
@[simp] theorem State.updDiag_groups (s : State) (c : Ch) (n : Nat) (f : Diag → Diag) : (s.updDiag c n f).groups = s.groups := rfl
@[simp] theorem State.updDiag_tasks (s : State) (c : Ch) (n : Nat) (f : Diag → Diag) : (s.updDiag c n f).tasks = s.tasks := rfl
@[simp] theorem State.updDiag_traces (s : State) (c : Ch) (n : Nat) (f : Diag → Diag) : (s.updDiag c n f).traces = s.traces := rfl
@[simp] theorem State.updDiag_slots (s : State) (c : Ch) (n : Nat) (f : Diag → Diag) : (s.updDiag c n f).slots = s.slots := rfl
@[simp] theorem State.updDiag_arms (s : State) (c : Ch) (n : Nat) (f : Diag → Diag) : (s.updDiag c n f).arms = s.arms := rfl
@[simp] theorem State.updDiag_tests (s : State) (c : Ch) (n : Nat) (f : Diag → Diag) : (s.updDiag c n f).tests = s.tests := rfl
@[simp] theorem State.updDiag_drivers (s : State) (c : Ch) (n : Nat) (f : Diag → Diag) : (s.updDiag c n f).drivers = s.drivers := rfl
@[simp] theorem State.updDiag_spis (s : State) (c : Ch) (n : Nat) (f : Diag → Diag) : (s.updDiag c n f).spis = s.spis := rfl
@[simp] theorem State.updDiag_objs (s : State) (c : Ch) (n : Nat) (f : Diag → Diag) : (s.updDiag c n f).objs = s.objs := rfl
@[simp] theorem State.updDiag_red (s : State) (c : Ch) (n : Nat) (f : Diag → Diag) : (s.updDiag c n f).red = s.red := rfl
@[simp] theorem State.updDiag_sed (s : State) (c : Ch) (n : Nat) (f : Diag → Diag) : (s.updDiag c n f).sed = s.sed := rfl
@[simp] theorem State.updDiag_place (s : State) (c : Ch) (n : Nat) (f : Diag → Diag) : (s.updDiag c n f).place = s.place := rfl
@[simp] theorem State.updDiag_fab (s : State) (c : Ch) (n : Nat) (f : Diag → Diag) : (s.updDiag c n f).fab = s.fab := rfl
@[simp] theorem State.updDiag_twin (s : State) (c : Ch) (n : Nat) (f : Diag → Diag) : (s.updDiag c n f).twin = s.twin := rfl
@[simp] theorem State.updDiag_safe (s : State) (c : Ch) (n : Nat) (f : Diag → Diag) : (s.updDiag c n f).safe = s.safe := rfl
@[simp] theorem State.updDiag_power (s : State) (c : Ch) (n : Nat) (f : Diag → Diag) : (s.updDiag c n f).power = s.power := rfl
@[simp] theorem State.updDiag_life (s : State) (c : Ch) (n : Nat) (f : Diag → Diag) : (s.updDiag c n f).life = s.life := rfl
@[simp] theorem State.updDiag_su (s : State) (c : Ch) (n : Nat) (f : Diag → Diag) : (s.updDiag c n f).su = s.su := rfl
@[simp] theorem State.updDiag_marks (s : State) (c : Ch) (n : Nat) (f : Diag → Diag) : (s.updDiag c n f).marks = s.marks := rfl
@[simp] theorem State.updDiag_used (s : State) (c : Ch) (n : Nat) (f : Diag → Diag) : (s.updDiag c n f).used = s.used := rfl
@[simp] theorem State.updDiag_sent (s : State) (c : Ch) (n : Nat) (f : Diag → Diag) : (s.updDiag c n f).sent = s.sent := rfl
@[simp] theorem State.updDiag_pending (s : State) (c : Ch) (n : Nat) (f : Diag → Diag) : (s.updDiag c n f).pending = s.pending := rfl

-- updFport

@[simp] theorem State.updFport_now (s : State) (c : Ch) (n : Nat) (f : Fport → Fport) : (s.updFport c n f).now = s.now := rfl
@[simp] theorem State.updFport_regs (s : State) (c : Ch) (n : Nat) (f : Fport → Fport) : (s.updFport c n f).regs = s.regs := rfl
@[simp] theorem State.updFport_strs (s : State) (c : Ch) (n : Nat) (f : Fport → Fport) : (s.updFport c n f).strs = s.strs := rfl
@[simp] theorem State.updFport_arch (s : State) (c : Ch) (n : Nat) (f : Fport → Fport) : (s.updFport c n f).arch = s.arch := rfl
@[simp] theorem State.updFport_kdp (s : State) (c : Ch) (n : Nat) (f : Fport → Fport) : (s.updFport c n f).kdp = s.kdp := rfl
@[simp] theorem State.updFport_ports (s : State) (c : Ch) (n : Nat) (f : Fport → Fport) : (s.updFport c n f).ports = s.ports := rfl
@[simp] theorem State.updFport_sems (s : State) (c : Ch) (n : Nat) (f : Fport → Fport) : (s.updFport c n f).sems = s.sems := rfl
@[simp] theorem State.updFport_convs (s : State) (c : Ch) (n : Nat) (f : Fport → Fport) : (s.updFport c n f).convs = s.convs := rfl
@[simp] theorem State.updFport_grps (s : State) (c : Ch) (n : Nat) (f : Fport → Fport) : (s.updFport c n f).grps = s.grps := rfl
@[simp] theorem State.updFport_diags (s : State) (c : Ch) (n : Nat) (f : Fport → Fport) : (s.updFport c n f).diags = s.diags := rfl
@[simp] theorem State.updFport_sports (s : State) (c : Ch) (n : Nat) (f : Fport → Fport) : (s.updFport c n f).sports = s.sports := rfl
@[simp] theorem State.updFport_trackers (s : State) (c : Ch) (n : Nat) (f : Fport → Fport) : (s.updFport c n f).trackers = s.trackers := rfl
@[simp] theorem State.updFport_axes (s : State) (c : Ch) (n : Nat) (f : Fport → Fport) : (s.updFport c n f).axes = s.axes := rfl
@[simp] theorem State.updFport_gens (s : State) (c : Ch) (n : Nat) (f : Fport → Fport) : (s.updFport c n f).gens = s.gens := rfl
@[simp] theorem State.updFport_groups (s : State) (c : Ch) (n : Nat) (f : Fport → Fport) : (s.updFport c n f).groups = s.groups := rfl
@[simp] theorem State.updFport_tasks (s : State) (c : Ch) (n : Nat) (f : Fport → Fport) : (s.updFport c n f).tasks = s.tasks := rfl
@[simp] theorem State.updFport_traces (s : State) (c : Ch) (n : Nat) (f : Fport → Fport) : (s.updFport c n f).traces = s.traces := rfl
@[simp] theorem State.updFport_slots (s : State) (c : Ch) (n : Nat) (f : Fport → Fport) : (s.updFport c n f).slots = s.slots := rfl
@[simp] theorem State.updFport_arms (s : State) (c : Ch) (n : Nat) (f : Fport → Fport) : (s.updFport c n f).arms = s.arms := rfl
@[simp] theorem State.updFport_tests (s : State) (c : Ch) (n : Nat) (f : Fport → Fport) : (s.updFport c n f).tests = s.tests := rfl
@[simp] theorem State.updFport_drivers (s : State) (c : Ch) (n : Nat) (f : Fport → Fport) : (s.updFport c n f).drivers = s.drivers := rfl
@[simp] theorem State.updFport_spis (s : State) (c : Ch) (n : Nat) (f : Fport → Fport) : (s.updFport c n f).spis = s.spis := rfl
@[simp] theorem State.updFport_objs (s : State) (c : Ch) (n : Nat) (f : Fport → Fport) : (s.updFport c n f).objs = s.objs := rfl
@[simp] theorem State.updFport_red (s : State) (c : Ch) (n : Nat) (f : Fport → Fport) : (s.updFport c n f).red = s.red := rfl
@[simp] theorem State.updFport_sed (s : State) (c : Ch) (n : Nat) (f : Fport → Fport) : (s.updFport c n f).sed = s.sed := rfl
@[simp] theorem State.updFport_place (s : State) (c : Ch) (n : Nat) (f : Fport → Fport) : (s.updFport c n f).place = s.place := rfl
@[simp] theorem State.updFport_fab (s : State) (c : Ch) (n : Nat) (f : Fport → Fport) : (s.updFport c n f).fab = s.fab := rfl
@[simp] theorem State.updFport_twin (s : State) (c : Ch) (n : Nat) (f : Fport → Fport) : (s.updFport c n f).twin = s.twin := rfl
@[simp] theorem State.updFport_safe (s : State) (c : Ch) (n : Nat) (f : Fport → Fport) : (s.updFport c n f).safe = s.safe := rfl
@[simp] theorem State.updFport_power (s : State) (c : Ch) (n : Nat) (f : Fport → Fport) : (s.updFport c n f).power = s.power := rfl
@[simp] theorem State.updFport_life (s : State) (c : Ch) (n : Nat) (f : Fport → Fport) : (s.updFport c n f).life = s.life := rfl
@[simp] theorem State.updFport_su (s : State) (c : Ch) (n : Nat) (f : Fport → Fport) : (s.updFport c n f).su = s.su := rfl
@[simp] theorem State.updFport_marks (s : State) (c : Ch) (n : Nat) (f : Fport → Fport) : (s.updFport c n f).marks = s.marks := rfl
@[simp] theorem State.updFport_used (s : State) (c : Ch) (n : Nat) (f : Fport → Fport) : (s.updFport c n f).used = s.used := rfl
@[simp] theorem State.updFport_sent (s : State) (c : Ch) (n : Nat) (f : Fport → Fport) : (s.updFport c n f).sent = s.sent := rfl
@[simp] theorem State.updFport_pending (s : State) (c : Ch) (n : Nat) (f : Fport → Fport) : (s.updFport c n f).pending = s.pending := rfl

-- updSport

@[simp] theorem State.updSport_now (s : State) (c : Ch) (n : Nat) (f : Sport → Sport) : (s.updSport c n f).now = s.now := rfl
@[simp] theorem State.updSport_regs (s : State) (c : Ch) (n : Nat) (f : Sport → Sport) : (s.updSport c n f).regs = s.regs := rfl
@[simp] theorem State.updSport_strs (s : State) (c : Ch) (n : Nat) (f : Sport → Sport) : (s.updSport c n f).strs = s.strs := rfl
@[simp] theorem State.updSport_arch (s : State) (c : Ch) (n : Nat) (f : Sport → Sport) : (s.updSport c n f).arch = s.arch := rfl
@[simp] theorem State.updSport_kdp (s : State) (c : Ch) (n : Nat) (f : Sport → Sport) : (s.updSport c n f).kdp = s.kdp := rfl
@[simp] theorem State.updSport_ports (s : State) (c : Ch) (n : Nat) (f : Sport → Sport) : (s.updSport c n f).ports = s.ports := rfl
@[simp] theorem State.updSport_sems (s : State) (c : Ch) (n : Nat) (f : Sport → Sport) : (s.updSport c n f).sems = s.sems := rfl
@[simp] theorem State.updSport_convs (s : State) (c : Ch) (n : Nat) (f : Sport → Sport) : (s.updSport c n f).convs = s.convs := rfl
@[simp] theorem State.updSport_grps (s : State) (c : Ch) (n : Nat) (f : Sport → Sport) : (s.updSport c n f).grps = s.grps := rfl
@[simp] theorem State.updSport_diags (s : State) (c : Ch) (n : Nat) (f : Sport → Sport) : (s.updSport c n f).diags = s.diags := rfl
@[simp] theorem State.updSport_fports (s : State) (c : Ch) (n : Nat) (f : Sport → Sport) : (s.updSport c n f).fports = s.fports := rfl
@[simp] theorem State.updSport_trackers (s : State) (c : Ch) (n : Nat) (f : Sport → Sport) : (s.updSport c n f).trackers = s.trackers := rfl
@[simp] theorem State.updSport_axes (s : State) (c : Ch) (n : Nat) (f : Sport → Sport) : (s.updSport c n f).axes = s.axes := rfl
@[simp] theorem State.updSport_gens (s : State) (c : Ch) (n : Nat) (f : Sport → Sport) : (s.updSport c n f).gens = s.gens := rfl
@[simp] theorem State.updSport_groups (s : State) (c : Ch) (n : Nat) (f : Sport → Sport) : (s.updSport c n f).groups = s.groups := rfl
@[simp] theorem State.updSport_tasks (s : State) (c : Ch) (n : Nat) (f : Sport → Sport) : (s.updSport c n f).tasks = s.tasks := rfl
@[simp] theorem State.updSport_traces (s : State) (c : Ch) (n : Nat) (f : Sport → Sport) : (s.updSport c n f).traces = s.traces := rfl
@[simp] theorem State.updSport_slots (s : State) (c : Ch) (n : Nat) (f : Sport → Sport) : (s.updSport c n f).slots = s.slots := rfl
@[simp] theorem State.updSport_arms (s : State) (c : Ch) (n : Nat) (f : Sport → Sport) : (s.updSport c n f).arms = s.arms := rfl
@[simp] theorem State.updSport_tests (s : State) (c : Ch) (n : Nat) (f : Sport → Sport) : (s.updSport c n f).tests = s.tests := rfl
@[simp] theorem State.updSport_drivers (s : State) (c : Ch) (n : Nat) (f : Sport → Sport) : (s.updSport c n f).drivers = s.drivers := rfl
@[simp] theorem State.updSport_spis (s : State) (c : Ch) (n : Nat) (f : Sport → Sport) : (s.updSport c n f).spis = s.spis := rfl
@[simp] theorem State.updSport_objs (s : State) (c : Ch) (n : Nat) (f : Sport → Sport) : (s.updSport c n f).objs = s.objs := rfl
@[simp] theorem State.updSport_red (s : State) (c : Ch) (n : Nat) (f : Sport → Sport) : (s.updSport c n f).red = s.red := rfl
@[simp] theorem State.updSport_sed (s : State) (c : Ch) (n : Nat) (f : Sport → Sport) : (s.updSport c n f).sed = s.sed := rfl
@[simp] theorem State.updSport_place (s : State) (c : Ch) (n : Nat) (f : Sport → Sport) : (s.updSport c n f).place = s.place := rfl
@[simp] theorem State.updSport_fab (s : State) (c : Ch) (n : Nat) (f : Sport → Sport) : (s.updSport c n f).fab = s.fab := rfl
@[simp] theorem State.updSport_twin (s : State) (c : Ch) (n : Nat) (f : Sport → Sport) : (s.updSport c n f).twin = s.twin := rfl
@[simp] theorem State.updSport_safe (s : State) (c : Ch) (n : Nat) (f : Sport → Sport) : (s.updSport c n f).safe = s.safe := rfl
@[simp] theorem State.updSport_power (s : State) (c : Ch) (n : Nat) (f : Sport → Sport) : (s.updSport c n f).power = s.power := rfl
@[simp] theorem State.updSport_life (s : State) (c : Ch) (n : Nat) (f : Sport → Sport) : (s.updSport c n f).life = s.life := rfl
@[simp] theorem State.updSport_su (s : State) (c : Ch) (n : Nat) (f : Sport → Sport) : (s.updSport c n f).su = s.su := rfl
@[simp] theorem State.updSport_marks (s : State) (c : Ch) (n : Nat) (f : Sport → Sport) : (s.updSport c n f).marks = s.marks := rfl
@[simp] theorem State.updSport_used (s : State) (c : Ch) (n : Nat) (f : Sport → Sport) : (s.updSport c n f).used = s.used := rfl
@[simp] theorem State.updSport_sent (s : State) (c : Ch) (n : Nat) (f : Sport → Sport) : (s.updSport c n f).sent = s.sent := rfl
@[simp] theorem State.updSport_pending (s : State) (c : Ch) (n : Nat) (f : Sport → Sport) : (s.updSport c n f).pending = s.pending := rfl

-- updTracker

@[simp] theorem State.updTracker_now (s : State) (c : Ch) (n : Nat) (f : Tracker → Tracker) : (s.updTracker c n f).now = s.now := rfl
@[simp] theorem State.updTracker_regs (s : State) (c : Ch) (n : Nat) (f : Tracker → Tracker) : (s.updTracker c n f).regs = s.regs := rfl
@[simp] theorem State.updTracker_strs (s : State) (c : Ch) (n : Nat) (f : Tracker → Tracker) : (s.updTracker c n f).strs = s.strs := rfl
@[simp] theorem State.updTracker_arch (s : State) (c : Ch) (n : Nat) (f : Tracker → Tracker) : (s.updTracker c n f).arch = s.arch := rfl
@[simp] theorem State.updTracker_kdp (s : State) (c : Ch) (n : Nat) (f : Tracker → Tracker) : (s.updTracker c n f).kdp = s.kdp := rfl
@[simp] theorem State.updTracker_ports (s : State) (c : Ch) (n : Nat) (f : Tracker → Tracker) : (s.updTracker c n f).ports = s.ports := rfl
@[simp] theorem State.updTracker_sems (s : State) (c : Ch) (n : Nat) (f : Tracker → Tracker) : (s.updTracker c n f).sems = s.sems := rfl
@[simp] theorem State.updTracker_convs (s : State) (c : Ch) (n : Nat) (f : Tracker → Tracker) : (s.updTracker c n f).convs = s.convs := rfl
@[simp] theorem State.updTracker_grps (s : State) (c : Ch) (n : Nat) (f : Tracker → Tracker) : (s.updTracker c n f).grps = s.grps := rfl
@[simp] theorem State.updTracker_diags (s : State) (c : Ch) (n : Nat) (f : Tracker → Tracker) : (s.updTracker c n f).diags = s.diags := rfl
@[simp] theorem State.updTracker_fports (s : State) (c : Ch) (n : Nat) (f : Tracker → Tracker) : (s.updTracker c n f).fports = s.fports := rfl
@[simp] theorem State.updTracker_sports (s : State) (c : Ch) (n : Nat) (f : Tracker → Tracker) : (s.updTracker c n f).sports = s.sports := rfl
@[simp] theorem State.updTracker_axes (s : State) (c : Ch) (n : Nat) (f : Tracker → Tracker) : (s.updTracker c n f).axes = s.axes := rfl
@[simp] theorem State.updTracker_gens (s : State) (c : Ch) (n : Nat) (f : Tracker → Tracker) : (s.updTracker c n f).gens = s.gens := rfl
@[simp] theorem State.updTracker_groups (s : State) (c : Ch) (n : Nat) (f : Tracker → Tracker) : (s.updTracker c n f).groups = s.groups := rfl
@[simp] theorem State.updTracker_tasks (s : State) (c : Ch) (n : Nat) (f : Tracker → Tracker) : (s.updTracker c n f).tasks = s.tasks := rfl
@[simp] theorem State.updTracker_traces (s : State) (c : Ch) (n : Nat) (f : Tracker → Tracker) : (s.updTracker c n f).traces = s.traces := rfl
@[simp] theorem State.updTracker_slots (s : State) (c : Ch) (n : Nat) (f : Tracker → Tracker) : (s.updTracker c n f).slots = s.slots := rfl
@[simp] theorem State.updTracker_arms (s : State) (c : Ch) (n : Nat) (f : Tracker → Tracker) : (s.updTracker c n f).arms = s.arms := rfl
@[simp] theorem State.updTracker_tests (s : State) (c : Ch) (n : Nat) (f : Tracker → Tracker) : (s.updTracker c n f).tests = s.tests := rfl
@[simp] theorem State.updTracker_drivers (s : State) (c : Ch) (n : Nat) (f : Tracker → Tracker) : (s.updTracker c n f).drivers = s.drivers := rfl
@[simp] theorem State.updTracker_spis (s : State) (c : Ch) (n : Nat) (f : Tracker → Tracker) : (s.updTracker c n f).spis = s.spis := rfl
@[simp] theorem State.updTracker_objs (s : State) (c : Ch) (n : Nat) (f : Tracker → Tracker) : (s.updTracker c n f).objs = s.objs := rfl
@[simp] theorem State.updTracker_red (s : State) (c : Ch) (n : Nat) (f : Tracker → Tracker) : (s.updTracker c n f).red = s.red := rfl
@[simp] theorem State.updTracker_sed (s : State) (c : Ch) (n : Nat) (f : Tracker → Tracker) : (s.updTracker c n f).sed = s.sed := rfl
@[simp] theorem State.updTracker_place (s : State) (c : Ch) (n : Nat) (f : Tracker → Tracker) : (s.updTracker c n f).place = s.place := rfl
@[simp] theorem State.updTracker_fab (s : State) (c : Ch) (n : Nat) (f : Tracker → Tracker) : (s.updTracker c n f).fab = s.fab := rfl
@[simp] theorem State.updTracker_twin (s : State) (c : Ch) (n : Nat) (f : Tracker → Tracker) : (s.updTracker c n f).twin = s.twin := rfl
@[simp] theorem State.updTracker_safe (s : State) (c : Ch) (n : Nat) (f : Tracker → Tracker) : (s.updTracker c n f).safe = s.safe := rfl
@[simp] theorem State.updTracker_power (s : State) (c : Ch) (n : Nat) (f : Tracker → Tracker) : (s.updTracker c n f).power = s.power := rfl
@[simp] theorem State.updTracker_life (s : State) (c : Ch) (n : Nat) (f : Tracker → Tracker) : (s.updTracker c n f).life = s.life := rfl
@[simp] theorem State.updTracker_su (s : State) (c : Ch) (n : Nat) (f : Tracker → Tracker) : (s.updTracker c n f).su = s.su := rfl
@[simp] theorem State.updTracker_marks (s : State) (c : Ch) (n : Nat) (f : Tracker → Tracker) : (s.updTracker c n f).marks = s.marks := rfl
@[simp] theorem State.updTracker_used (s : State) (c : Ch) (n : Nat) (f : Tracker → Tracker) : (s.updTracker c n f).used = s.used := rfl
@[simp] theorem State.updTracker_sent (s : State) (c : Ch) (n : Nat) (f : Tracker → Tracker) : (s.updTracker c n f).sent = s.sent := rfl
@[simp] theorem State.updTracker_pending (s : State) (c : Ch) (n : Nat) (f : Tracker → Tracker) : (s.updTracker c n f).pending = s.pending := rfl

-- updSlot

@[simp] theorem State.updSlot_now (s : State) (c : Ch) (n : Nat) (f : Slot → Slot) : (s.updSlot c n f).now = s.now := rfl
@[simp] theorem State.updSlot_regs (s : State) (c : Ch) (n : Nat) (f : Slot → Slot) : (s.updSlot c n f).regs = s.regs := rfl
@[simp] theorem State.updSlot_strs (s : State) (c : Ch) (n : Nat) (f : Slot → Slot) : (s.updSlot c n f).strs = s.strs := rfl
@[simp] theorem State.updSlot_arch (s : State) (c : Ch) (n : Nat) (f : Slot → Slot) : (s.updSlot c n f).arch = s.arch := rfl
@[simp] theorem State.updSlot_kdp (s : State) (c : Ch) (n : Nat) (f : Slot → Slot) : (s.updSlot c n f).kdp = s.kdp := rfl
@[simp] theorem State.updSlot_ports (s : State) (c : Ch) (n : Nat) (f : Slot → Slot) : (s.updSlot c n f).ports = s.ports := rfl
@[simp] theorem State.updSlot_sems (s : State) (c : Ch) (n : Nat) (f : Slot → Slot) : (s.updSlot c n f).sems = s.sems := rfl
@[simp] theorem State.updSlot_convs (s : State) (c : Ch) (n : Nat) (f : Slot → Slot) : (s.updSlot c n f).convs = s.convs := rfl
@[simp] theorem State.updSlot_grps (s : State) (c : Ch) (n : Nat) (f : Slot → Slot) : (s.updSlot c n f).grps = s.grps := rfl
@[simp] theorem State.updSlot_diags (s : State) (c : Ch) (n : Nat) (f : Slot → Slot) : (s.updSlot c n f).diags = s.diags := rfl
@[simp] theorem State.updSlot_fports (s : State) (c : Ch) (n : Nat) (f : Slot → Slot) : (s.updSlot c n f).fports = s.fports := rfl
@[simp] theorem State.updSlot_sports (s : State) (c : Ch) (n : Nat) (f : Slot → Slot) : (s.updSlot c n f).sports = s.sports := rfl
@[simp] theorem State.updSlot_trackers (s : State) (c : Ch) (n : Nat) (f : Slot → Slot) : (s.updSlot c n f).trackers = s.trackers := rfl
@[simp] theorem State.updSlot_axes (s : State) (c : Ch) (n : Nat) (f : Slot → Slot) : (s.updSlot c n f).axes = s.axes := rfl
@[simp] theorem State.updSlot_gens (s : State) (c : Ch) (n : Nat) (f : Slot → Slot) : (s.updSlot c n f).gens = s.gens := rfl
@[simp] theorem State.updSlot_groups (s : State) (c : Ch) (n : Nat) (f : Slot → Slot) : (s.updSlot c n f).groups = s.groups := rfl
@[simp] theorem State.updSlot_tasks (s : State) (c : Ch) (n : Nat) (f : Slot → Slot) : (s.updSlot c n f).tasks = s.tasks := rfl
@[simp] theorem State.updSlot_traces (s : State) (c : Ch) (n : Nat) (f : Slot → Slot) : (s.updSlot c n f).traces = s.traces := rfl
@[simp] theorem State.updSlot_arms (s : State) (c : Ch) (n : Nat) (f : Slot → Slot) : (s.updSlot c n f).arms = s.arms := rfl
@[simp] theorem State.updSlot_tests (s : State) (c : Ch) (n : Nat) (f : Slot → Slot) : (s.updSlot c n f).tests = s.tests := rfl
@[simp] theorem State.updSlot_drivers (s : State) (c : Ch) (n : Nat) (f : Slot → Slot) : (s.updSlot c n f).drivers = s.drivers := rfl
@[simp] theorem State.updSlot_spis (s : State) (c : Ch) (n : Nat) (f : Slot → Slot) : (s.updSlot c n f).spis = s.spis := rfl
@[simp] theorem State.updSlot_objs (s : State) (c : Ch) (n : Nat) (f : Slot → Slot) : (s.updSlot c n f).objs = s.objs := rfl
@[simp] theorem State.updSlot_red (s : State) (c : Ch) (n : Nat) (f : Slot → Slot) : (s.updSlot c n f).red = s.red := rfl
@[simp] theorem State.updSlot_sed (s : State) (c : Ch) (n : Nat) (f : Slot → Slot) : (s.updSlot c n f).sed = s.sed := rfl
@[simp] theorem State.updSlot_place (s : State) (c : Ch) (n : Nat) (f : Slot → Slot) : (s.updSlot c n f).place = s.place := rfl
@[simp] theorem State.updSlot_fab (s : State) (c : Ch) (n : Nat) (f : Slot → Slot) : (s.updSlot c n f).fab = s.fab := rfl
@[simp] theorem State.updSlot_twin (s : State) (c : Ch) (n : Nat) (f : Slot → Slot) : (s.updSlot c n f).twin = s.twin := rfl
@[simp] theorem State.updSlot_safe (s : State) (c : Ch) (n : Nat) (f : Slot → Slot) : (s.updSlot c n f).safe = s.safe := rfl
@[simp] theorem State.updSlot_power (s : State) (c : Ch) (n : Nat) (f : Slot → Slot) : (s.updSlot c n f).power = s.power := rfl
@[simp] theorem State.updSlot_life (s : State) (c : Ch) (n : Nat) (f : Slot → Slot) : (s.updSlot c n f).life = s.life := rfl
@[simp] theorem State.updSlot_su (s : State) (c : Ch) (n : Nat) (f : Slot → Slot) : (s.updSlot c n f).su = s.su := rfl
@[simp] theorem State.updSlot_marks (s : State) (c : Ch) (n : Nat) (f : Slot → Slot) : (s.updSlot c n f).marks = s.marks := rfl
@[simp] theorem State.updSlot_used (s : State) (c : Ch) (n : Nat) (f : Slot → Slot) : (s.updSlot c n f).used = s.used := rfl
@[simp] theorem State.updSlot_sent (s : State) (c : Ch) (n : Nat) (f : Slot → Slot) : (s.updSlot c n f).sent = s.sent := rfl
@[simp] theorem State.updSlot_pending (s : State) (c : Ch) (n : Nat) (f : Slot → Slot) : (s.updSlot c n f).pending = s.pending := rfl

-- updArm

@[simp] theorem State.updArm_now (s : State) (c : Ch) (n : Nat) (f : Arm → Arm) : (s.updArm c n f).now = s.now := rfl
@[simp] theorem State.updArm_regs (s : State) (c : Ch) (n : Nat) (f : Arm → Arm) : (s.updArm c n f).regs = s.regs := rfl
@[simp] theorem State.updArm_strs (s : State) (c : Ch) (n : Nat) (f : Arm → Arm) : (s.updArm c n f).strs = s.strs := rfl
@[simp] theorem State.updArm_arch (s : State) (c : Ch) (n : Nat) (f : Arm → Arm) : (s.updArm c n f).arch = s.arch := rfl
@[simp] theorem State.updArm_kdp (s : State) (c : Ch) (n : Nat) (f : Arm → Arm) : (s.updArm c n f).kdp = s.kdp := rfl
@[simp] theorem State.updArm_ports (s : State) (c : Ch) (n : Nat) (f : Arm → Arm) : (s.updArm c n f).ports = s.ports := rfl
@[simp] theorem State.updArm_sems (s : State) (c : Ch) (n : Nat) (f : Arm → Arm) : (s.updArm c n f).sems = s.sems := rfl
@[simp] theorem State.updArm_convs (s : State) (c : Ch) (n : Nat) (f : Arm → Arm) : (s.updArm c n f).convs = s.convs := rfl
@[simp] theorem State.updArm_grps (s : State) (c : Ch) (n : Nat) (f : Arm → Arm) : (s.updArm c n f).grps = s.grps := rfl
@[simp] theorem State.updArm_diags (s : State) (c : Ch) (n : Nat) (f : Arm → Arm) : (s.updArm c n f).diags = s.diags := rfl
@[simp] theorem State.updArm_fports (s : State) (c : Ch) (n : Nat) (f : Arm → Arm) : (s.updArm c n f).fports = s.fports := rfl
@[simp] theorem State.updArm_sports (s : State) (c : Ch) (n : Nat) (f : Arm → Arm) : (s.updArm c n f).sports = s.sports := rfl
@[simp] theorem State.updArm_trackers (s : State) (c : Ch) (n : Nat) (f : Arm → Arm) : (s.updArm c n f).trackers = s.trackers := rfl
@[simp] theorem State.updArm_axes (s : State) (c : Ch) (n : Nat) (f : Arm → Arm) : (s.updArm c n f).axes = s.axes := rfl
@[simp] theorem State.updArm_gens (s : State) (c : Ch) (n : Nat) (f : Arm → Arm) : (s.updArm c n f).gens = s.gens := rfl
@[simp] theorem State.updArm_groups (s : State) (c : Ch) (n : Nat) (f : Arm → Arm) : (s.updArm c n f).groups = s.groups := rfl
@[simp] theorem State.updArm_tasks (s : State) (c : Ch) (n : Nat) (f : Arm → Arm) : (s.updArm c n f).tasks = s.tasks := rfl
@[simp] theorem State.updArm_traces (s : State) (c : Ch) (n : Nat) (f : Arm → Arm) : (s.updArm c n f).traces = s.traces := rfl
@[simp] theorem State.updArm_slots (s : State) (c : Ch) (n : Nat) (f : Arm → Arm) : (s.updArm c n f).slots = s.slots := rfl
@[simp] theorem State.updArm_tests (s : State) (c : Ch) (n : Nat) (f : Arm → Arm) : (s.updArm c n f).tests = s.tests := rfl
@[simp] theorem State.updArm_drivers (s : State) (c : Ch) (n : Nat) (f : Arm → Arm) : (s.updArm c n f).drivers = s.drivers := rfl
@[simp] theorem State.updArm_spis (s : State) (c : Ch) (n : Nat) (f : Arm → Arm) : (s.updArm c n f).spis = s.spis := rfl
@[simp] theorem State.updArm_objs (s : State) (c : Ch) (n : Nat) (f : Arm → Arm) : (s.updArm c n f).objs = s.objs := rfl
@[simp] theorem State.updArm_red (s : State) (c : Ch) (n : Nat) (f : Arm → Arm) : (s.updArm c n f).red = s.red := rfl
@[simp] theorem State.updArm_sed (s : State) (c : Ch) (n : Nat) (f : Arm → Arm) : (s.updArm c n f).sed = s.sed := rfl
@[simp] theorem State.updArm_place (s : State) (c : Ch) (n : Nat) (f : Arm → Arm) : (s.updArm c n f).place = s.place := rfl
@[simp] theorem State.updArm_fab (s : State) (c : Ch) (n : Nat) (f : Arm → Arm) : (s.updArm c n f).fab = s.fab := rfl
@[simp] theorem State.updArm_twin (s : State) (c : Ch) (n : Nat) (f : Arm → Arm) : (s.updArm c n f).twin = s.twin := rfl
@[simp] theorem State.updArm_safe (s : State) (c : Ch) (n : Nat) (f : Arm → Arm) : (s.updArm c n f).safe = s.safe := rfl
@[simp] theorem State.updArm_power (s : State) (c : Ch) (n : Nat) (f : Arm → Arm) : (s.updArm c n f).power = s.power := rfl
@[simp] theorem State.updArm_life (s : State) (c : Ch) (n : Nat) (f : Arm → Arm) : (s.updArm c n f).life = s.life := rfl
@[simp] theorem State.updArm_su (s : State) (c : Ch) (n : Nat) (f : Arm → Arm) : (s.updArm c n f).su = s.su := rfl
@[simp] theorem State.updArm_marks (s : State) (c : Ch) (n : Nat) (f : Arm → Arm) : (s.updArm c n f).marks = s.marks := rfl
@[simp] theorem State.updArm_used (s : State) (c : Ch) (n : Nat) (f : Arm → Arm) : (s.updArm c n f).used = s.used := rfl
@[simp] theorem State.updArm_sent (s : State) (c : Ch) (n : Nat) (f : Arm → Arm) : (s.updArm c n f).sent = s.sent := rfl
@[simp] theorem State.updArm_pending (s : State) (c : Ch) (n : Nat) (f : Arm → Arm) : (s.updArm c n f).pending = s.pending := rfl

-- updTest

@[simp] theorem State.updTest_now (s : State) (c : Ch) (n : Nat) (f : PermitTest → PermitTest) : (s.updTest c n f).now = s.now := rfl
@[simp] theorem State.updTest_regs (s : State) (c : Ch) (n : Nat) (f : PermitTest → PermitTest) : (s.updTest c n f).regs = s.regs := rfl
@[simp] theorem State.updTest_strs (s : State) (c : Ch) (n : Nat) (f : PermitTest → PermitTest) : (s.updTest c n f).strs = s.strs := rfl
@[simp] theorem State.updTest_arch (s : State) (c : Ch) (n : Nat) (f : PermitTest → PermitTest) : (s.updTest c n f).arch = s.arch := rfl
@[simp] theorem State.updTest_kdp (s : State) (c : Ch) (n : Nat) (f : PermitTest → PermitTest) : (s.updTest c n f).kdp = s.kdp := rfl
@[simp] theorem State.updTest_ports (s : State) (c : Ch) (n : Nat) (f : PermitTest → PermitTest) : (s.updTest c n f).ports = s.ports := rfl
@[simp] theorem State.updTest_sems (s : State) (c : Ch) (n : Nat) (f : PermitTest → PermitTest) : (s.updTest c n f).sems = s.sems := rfl
@[simp] theorem State.updTest_convs (s : State) (c : Ch) (n : Nat) (f : PermitTest → PermitTest) : (s.updTest c n f).convs = s.convs := rfl
@[simp] theorem State.updTest_grps (s : State) (c : Ch) (n : Nat) (f : PermitTest → PermitTest) : (s.updTest c n f).grps = s.grps := rfl
@[simp] theorem State.updTest_diags (s : State) (c : Ch) (n : Nat) (f : PermitTest → PermitTest) : (s.updTest c n f).diags = s.diags := rfl
@[simp] theorem State.updTest_fports (s : State) (c : Ch) (n : Nat) (f : PermitTest → PermitTest) : (s.updTest c n f).fports = s.fports := rfl
@[simp] theorem State.updTest_sports (s : State) (c : Ch) (n : Nat) (f : PermitTest → PermitTest) : (s.updTest c n f).sports = s.sports := rfl
@[simp] theorem State.updTest_trackers (s : State) (c : Ch) (n : Nat) (f : PermitTest → PermitTest) : (s.updTest c n f).trackers = s.trackers := rfl
@[simp] theorem State.updTest_axes (s : State) (c : Ch) (n : Nat) (f : PermitTest → PermitTest) : (s.updTest c n f).axes = s.axes := rfl
@[simp] theorem State.updTest_gens (s : State) (c : Ch) (n : Nat) (f : PermitTest → PermitTest) : (s.updTest c n f).gens = s.gens := rfl
@[simp] theorem State.updTest_groups (s : State) (c : Ch) (n : Nat) (f : PermitTest → PermitTest) : (s.updTest c n f).groups = s.groups := rfl
@[simp] theorem State.updTest_tasks (s : State) (c : Ch) (n : Nat) (f : PermitTest → PermitTest) : (s.updTest c n f).tasks = s.tasks := rfl
@[simp] theorem State.updTest_traces (s : State) (c : Ch) (n : Nat) (f : PermitTest → PermitTest) : (s.updTest c n f).traces = s.traces := rfl
@[simp] theorem State.updTest_slots (s : State) (c : Ch) (n : Nat) (f : PermitTest → PermitTest) : (s.updTest c n f).slots = s.slots := rfl
@[simp] theorem State.updTest_arms (s : State) (c : Ch) (n : Nat) (f : PermitTest → PermitTest) : (s.updTest c n f).arms = s.arms := rfl
@[simp] theorem State.updTest_drivers (s : State) (c : Ch) (n : Nat) (f : PermitTest → PermitTest) : (s.updTest c n f).drivers = s.drivers := rfl
@[simp] theorem State.updTest_spis (s : State) (c : Ch) (n : Nat) (f : PermitTest → PermitTest) : (s.updTest c n f).spis = s.spis := rfl
@[simp] theorem State.updTest_objs (s : State) (c : Ch) (n : Nat) (f : PermitTest → PermitTest) : (s.updTest c n f).objs = s.objs := rfl
@[simp] theorem State.updTest_red (s : State) (c : Ch) (n : Nat) (f : PermitTest → PermitTest) : (s.updTest c n f).red = s.red := rfl
@[simp] theorem State.updTest_sed (s : State) (c : Ch) (n : Nat) (f : PermitTest → PermitTest) : (s.updTest c n f).sed = s.sed := rfl
@[simp] theorem State.updTest_place (s : State) (c : Ch) (n : Nat) (f : PermitTest → PermitTest) : (s.updTest c n f).place = s.place := rfl
@[simp] theorem State.updTest_fab (s : State) (c : Ch) (n : Nat) (f : PermitTest → PermitTest) : (s.updTest c n f).fab = s.fab := rfl
@[simp] theorem State.updTest_twin (s : State) (c : Ch) (n : Nat) (f : PermitTest → PermitTest) : (s.updTest c n f).twin = s.twin := rfl
@[simp] theorem State.updTest_safe (s : State) (c : Ch) (n : Nat) (f : PermitTest → PermitTest) : (s.updTest c n f).safe = s.safe := rfl
@[simp] theorem State.updTest_power (s : State) (c : Ch) (n : Nat) (f : PermitTest → PermitTest) : (s.updTest c n f).power = s.power := rfl
@[simp] theorem State.updTest_life (s : State) (c : Ch) (n : Nat) (f : PermitTest → PermitTest) : (s.updTest c n f).life = s.life := rfl
@[simp] theorem State.updTest_su (s : State) (c : Ch) (n : Nat) (f : PermitTest → PermitTest) : (s.updTest c n f).su = s.su := rfl
@[simp] theorem State.updTest_marks (s : State) (c : Ch) (n : Nat) (f : PermitTest → PermitTest) : (s.updTest c n f).marks = s.marks := rfl
@[simp] theorem State.updTest_used (s : State) (c : Ch) (n : Nat) (f : PermitTest → PermitTest) : (s.updTest c n f).used = s.used := rfl
@[simp] theorem State.updTest_sent (s : State) (c : Ch) (n : Nat) (f : PermitTest → PermitTest) : (s.updTest c n f).sent = s.sent := rfl
@[simp] theorem State.updTest_pending (s : State) (c : Ch) (n : Nat) (f : PermitTest → PermitTest) : (s.updTest c n f).pending = s.pending := rfl

-- updDriver

@[simp] theorem State.updDriver_now (s : State) (c : Ch) (n : Nat) (f : Driver → Driver) : (s.updDriver c n f).now = s.now := rfl
@[simp] theorem State.updDriver_regs (s : State) (c : Ch) (n : Nat) (f : Driver → Driver) : (s.updDriver c n f).regs = s.regs := rfl
@[simp] theorem State.updDriver_strs (s : State) (c : Ch) (n : Nat) (f : Driver → Driver) : (s.updDriver c n f).strs = s.strs := rfl
@[simp] theorem State.updDriver_arch (s : State) (c : Ch) (n : Nat) (f : Driver → Driver) : (s.updDriver c n f).arch = s.arch := rfl
@[simp] theorem State.updDriver_kdp (s : State) (c : Ch) (n : Nat) (f : Driver → Driver) : (s.updDriver c n f).kdp = s.kdp := rfl
@[simp] theorem State.updDriver_ports (s : State) (c : Ch) (n : Nat) (f : Driver → Driver) : (s.updDriver c n f).ports = s.ports := rfl
@[simp] theorem State.updDriver_sems (s : State) (c : Ch) (n : Nat) (f : Driver → Driver) : (s.updDriver c n f).sems = s.sems := rfl
@[simp] theorem State.updDriver_convs (s : State) (c : Ch) (n : Nat) (f : Driver → Driver) : (s.updDriver c n f).convs = s.convs := rfl
@[simp] theorem State.updDriver_grps (s : State) (c : Ch) (n : Nat) (f : Driver → Driver) : (s.updDriver c n f).grps = s.grps := rfl
@[simp] theorem State.updDriver_diags (s : State) (c : Ch) (n : Nat) (f : Driver → Driver) : (s.updDriver c n f).diags = s.diags := rfl
@[simp] theorem State.updDriver_fports (s : State) (c : Ch) (n : Nat) (f : Driver → Driver) : (s.updDriver c n f).fports = s.fports := rfl
@[simp] theorem State.updDriver_sports (s : State) (c : Ch) (n : Nat) (f : Driver → Driver) : (s.updDriver c n f).sports = s.sports := rfl
@[simp] theorem State.updDriver_trackers (s : State) (c : Ch) (n : Nat) (f : Driver → Driver) : (s.updDriver c n f).trackers = s.trackers := rfl
@[simp] theorem State.updDriver_axes (s : State) (c : Ch) (n : Nat) (f : Driver → Driver) : (s.updDriver c n f).axes = s.axes := rfl
@[simp] theorem State.updDriver_gens (s : State) (c : Ch) (n : Nat) (f : Driver → Driver) : (s.updDriver c n f).gens = s.gens := rfl
@[simp] theorem State.updDriver_groups (s : State) (c : Ch) (n : Nat) (f : Driver → Driver) : (s.updDriver c n f).groups = s.groups := rfl
@[simp] theorem State.updDriver_tasks (s : State) (c : Ch) (n : Nat) (f : Driver → Driver) : (s.updDriver c n f).tasks = s.tasks := rfl
@[simp] theorem State.updDriver_traces (s : State) (c : Ch) (n : Nat) (f : Driver → Driver) : (s.updDriver c n f).traces = s.traces := rfl
@[simp] theorem State.updDriver_slots (s : State) (c : Ch) (n : Nat) (f : Driver → Driver) : (s.updDriver c n f).slots = s.slots := rfl
@[simp] theorem State.updDriver_arms (s : State) (c : Ch) (n : Nat) (f : Driver → Driver) : (s.updDriver c n f).arms = s.arms := rfl
@[simp] theorem State.updDriver_tests (s : State) (c : Ch) (n : Nat) (f : Driver → Driver) : (s.updDriver c n f).tests = s.tests := rfl
@[simp] theorem State.updDriver_spis (s : State) (c : Ch) (n : Nat) (f : Driver → Driver) : (s.updDriver c n f).spis = s.spis := rfl
@[simp] theorem State.updDriver_objs (s : State) (c : Ch) (n : Nat) (f : Driver → Driver) : (s.updDriver c n f).objs = s.objs := rfl
@[simp] theorem State.updDriver_red (s : State) (c : Ch) (n : Nat) (f : Driver → Driver) : (s.updDriver c n f).red = s.red := rfl
@[simp] theorem State.updDriver_sed (s : State) (c : Ch) (n : Nat) (f : Driver → Driver) : (s.updDriver c n f).sed = s.sed := rfl
@[simp] theorem State.updDriver_place (s : State) (c : Ch) (n : Nat) (f : Driver → Driver) : (s.updDriver c n f).place = s.place := rfl
@[simp] theorem State.updDriver_fab (s : State) (c : Ch) (n : Nat) (f : Driver → Driver) : (s.updDriver c n f).fab = s.fab := rfl
@[simp] theorem State.updDriver_twin (s : State) (c : Ch) (n : Nat) (f : Driver → Driver) : (s.updDriver c n f).twin = s.twin := rfl
@[simp] theorem State.updDriver_safe (s : State) (c : Ch) (n : Nat) (f : Driver → Driver) : (s.updDriver c n f).safe = s.safe := rfl
@[simp] theorem State.updDriver_power (s : State) (c : Ch) (n : Nat) (f : Driver → Driver) : (s.updDriver c n f).power = s.power := rfl
@[simp] theorem State.updDriver_life (s : State) (c : Ch) (n : Nat) (f : Driver → Driver) : (s.updDriver c n f).life = s.life := rfl
@[simp] theorem State.updDriver_su (s : State) (c : Ch) (n : Nat) (f : Driver → Driver) : (s.updDriver c n f).su = s.su := rfl
@[simp] theorem State.updDriver_marks (s : State) (c : Ch) (n : Nat) (f : Driver → Driver) : (s.updDriver c n f).marks = s.marks := rfl
@[simp] theorem State.updDriver_used (s : State) (c : Ch) (n : Nat) (f : Driver → Driver) : (s.updDriver c n f).used = s.used := rfl
@[simp] theorem State.updDriver_sent (s : State) (c : Ch) (n : Nat) (f : Driver → Driver) : (s.updDriver c n f).sent = s.sent := rfl
@[simp] theorem State.updDriver_pending (s : State) (c : Ch) (n : Nat) (f : Driver → Driver) : (s.updDriver c n f).pending = s.pending := rfl

-- updSpi

@[simp] theorem State.updSpi_now (s : State) (c : Ch) (n : Nat) (f : Gspi → Gspi) : (s.updSpi c n f).now = s.now := rfl
@[simp] theorem State.updSpi_regs (s : State) (c : Ch) (n : Nat) (f : Gspi → Gspi) : (s.updSpi c n f).regs = s.regs := rfl
@[simp] theorem State.updSpi_strs (s : State) (c : Ch) (n : Nat) (f : Gspi → Gspi) : (s.updSpi c n f).strs = s.strs := rfl
@[simp] theorem State.updSpi_arch (s : State) (c : Ch) (n : Nat) (f : Gspi → Gspi) : (s.updSpi c n f).arch = s.arch := rfl
@[simp] theorem State.updSpi_kdp (s : State) (c : Ch) (n : Nat) (f : Gspi → Gspi) : (s.updSpi c n f).kdp = s.kdp := rfl
@[simp] theorem State.updSpi_ports (s : State) (c : Ch) (n : Nat) (f : Gspi → Gspi) : (s.updSpi c n f).ports = s.ports := rfl
@[simp] theorem State.updSpi_sems (s : State) (c : Ch) (n : Nat) (f : Gspi → Gspi) : (s.updSpi c n f).sems = s.sems := rfl
@[simp] theorem State.updSpi_convs (s : State) (c : Ch) (n : Nat) (f : Gspi → Gspi) : (s.updSpi c n f).convs = s.convs := rfl
@[simp] theorem State.updSpi_grps (s : State) (c : Ch) (n : Nat) (f : Gspi → Gspi) : (s.updSpi c n f).grps = s.grps := rfl
@[simp] theorem State.updSpi_diags (s : State) (c : Ch) (n : Nat) (f : Gspi → Gspi) : (s.updSpi c n f).diags = s.diags := rfl
@[simp] theorem State.updSpi_fports (s : State) (c : Ch) (n : Nat) (f : Gspi → Gspi) : (s.updSpi c n f).fports = s.fports := rfl
@[simp] theorem State.updSpi_sports (s : State) (c : Ch) (n : Nat) (f : Gspi → Gspi) : (s.updSpi c n f).sports = s.sports := rfl
@[simp] theorem State.updSpi_trackers (s : State) (c : Ch) (n : Nat) (f : Gspi → Gspi) : (s.updSpi c n f).trackers = s.trackers := rfl
@[simp] theorem State.updSpi_axes (s : State) (c : Ch) (n : Nat) (f : Gspi → Gspi) : (s.updSpi c n f).axes = s.axes := rfl
@[simp] theorem State.updSpi_gens (s : State) (c : Ch) (n : Nat) (f : Gspi → Gspi) : (s.updSpi c n f).gens = s.gens := rfl
@[simp] theorem State.updSpi_groups (s : State) (c : Ch) (n : Nat) (f : Gspi → Gspi) : (s.updSpi c n f).groups = s.groups := rfl
@[simp] theorem State.updSpi_tasks (s : State) (c : Ch) (n : Nat) (f : Gspi → Gspi) : (s.updSpi c n f).tasks = s.tasks := rfl
@[simp] theorem State.updSpi_traces (s : State) (c : Ch) (n : Nat) (f : Gspi → Gspi) : (s.updSpi c n f).traces = s.traces := rfl
@[simp] theorem State.updSpi_slots (s : State) (c : Ch) (n : Nat) (f : Gspi → Gspi) : (s.updSpi c n f).slots = s.slots := rfl
@[simp] theorem State.updSpi_arms (s : State) (c : Ch) (n : Nat) (f : Gspi → Gspi) : (s.updSpi c n f).arms = s.arms := rfl
@[simp] theorem State.updSpi_tests (s : State) (c : Ch) (n : Nat) (f : Gspi → Gspi) : (s.updSpi c n f).tests = s.tests := rfl
@[simp] theorem State.updSpi_drivers (s : State) (c : Ch) (n : Nat) (f : Gspi → Gspi) : (s.updSpi c n f).drivers = s.drivers := rfl
@[simp] theorem State.updSpi_objs (s : State) (c : Ch) (n : Nat) (f : Gspi → Gspi) : (s.updSpi c n f).objs = s.objs := rfl
@[simp] theorem State.updSpi_red (s : State) (c : Ch) (n : Nat) (f : Gspi → Gspi) : (s.updSpi c n f).red = s.red := rfl
@[simp] theorem State.updSpi_sed (s : State) (c : Ch) (n : Nat) (f : Gspi → Gspi) : (s.updSpi c n f).sed = s.sed := rfl
@[simp] theorem State.updSpi_place (s : State) (c : Ch) (n : Nat) (f : Gspi → Gspi) : (s.updSpi c n f).place = s.place := rfl
@[simp] theorem State.updSpi_fab (s : State) (c : Ch) (n : Nat) (f : Gspi → Gspi) : (s.updSpi c n f).fab = s.fab := rfl
@[simp] theorem State.updSpi_twin (s : State) (c : Ch) (n : Nat) (f : Gspi → Gspi) : (s.updSpi c n f).twin = s.twin := rfl
@[simp] theorem State.updSpi_safe (s : State) (c : Ch) (n : Nat) (f : Gspi → Gspi) : (s.updSpi c n f).safe = s.safe := rfl
@[simp] theorem State.updSpi_power (s : State) (c : Ch) (n : Nat) (f : Gspi → Gspi) : (s.updSpi c n f).power = s.power := rfl
@[simp] theorem State.updSpi_life (s : State) (c : Ch) (n : Nat) (f : Gspi → Gspi) : (s.updSpi c n f).life = s.life := rfl
@[simp] theorem State.updSpi_su (s : State) (c : Ch) (n : Nat) (f : Gspi → Gspi) : (s.updSpi c n f).su = s.su := rfl
@[simp] theorem State.updSpi_marks (s : State) (c : Ch) (n : Nat) (f : Gspi → Gspi) : (s.updSpi c n f).marks = s.marks := rfl
@[simp] theorem State.updSpi_used (s : State) (c : Ch) (n : Nat) (f : Gspi → Gspi) : (s.updSpi c n f).used = s.used := rfl
@[simp] theorem State.updSpi_sent (s : State) (c : Ch) (n : Nat) (f : Gspi → Gspi) : (s.updSpi c n f).sent = s.sent := rfl
@[simp] theorem State.updSpi_pending (s : State) (c : Ch) (n : Nat) (f : Gspi → Gspi) : (s.updSpi c n f).pending = s.pending := rfl

-- updPort

@[simp] theorem State.updPort_now (s : State) (n : Nat) (f : PortSt → PortSt) : (s.updPort n f).now = s.now := rfl
@[simp] theorem State.updPort_regs (s : State) (n : Nat) (f : PortSt → PortSt) : (s.updPort n f).regs = s.regs := rfl
@[simp] theorem State.updPort_strs (s : State) (n : Nat) (f : PortSt → PortSt) : (s.updPort n f).strs = s.strs := rfl
@[simp] theorem State.updPort_arch (s : State) (n : Nat) (f : PortSt → PortSt) : (s.updPort n f).arch = s.arch := rfl
@[simp] theorem State.updPort_kdp (s : State) (n : Nat) (f : PortSt → PortSt) : (s.updPort n f).kdp = s.kdp := rfl
@[simp] theorem State.updPort_sems (s : State) (n : Nat) (f : PortSt → PortSt) : (s.updPort n f).sems = s.sems := rfl
@[simp] theorem State.updPort_convs (s : State) (n : Nat) (f : PortSt → PortSt) : (s.updPort n f).convs = s.convs := rfl
@[simp] theorem State.updPort_grps (s : State) (n : Nat) (f : PortSt → PortSt) : (s.updPort n f).grps = s.grps := rfl
@[simp] theorem State.updPort_diags (s : State) (n : Nat) (f : PortSt → PortSt) : (s.updPort n f).diags = s.diags := rfl
@[simp] theorem State.updPort_fports (s : State) (n : Nat) (f : PortSt → PortSt) : (s.updPort n f).fports = s.fports := rfl
@[simp] theorem State.updPort_sports (s : State) (n : Nat) (f : PortSt → PortSt) : (s.updPort n f).sports = s.sports := rfl
@[simp] theorem State.updPort_trackers (s : State) (n : Nat) (f : PortSt → PortSt) : (s.updPort n f).trackers = s.trackers := rfl
@[simp] theorem State.updPort_axes (s : State) (n : Nat) (f : PortSt → PortSt) : (s.updPort n f).axes = s.axes := rfl
@[simp] theorem State.updPort_gens (s : State) (n : Nat) (f : PortSt → PortSt) : (s.updPort n f).gens = s.gens := rfl
@[simp] theorem State.updPort_groups (s : State) (n : Nat) (f : PortSt → PortSt) : (s.updPort n f).groups = s.groups := rfl
@[simp] theorem State.updPort_tasks (s : State) (n : Nat) (f : PortSt → PortSt) : (s.updPort n f).tasks = s.tasks := rfl
@[simp] theorem State.updPort_traces (s : State) (n : Nat) (f : PortSt → PortSt) : (s.updPort n f).traces = s.traces := rfl
@[simp] theorem State.updPort_slots (s : State) (n : Nat) (f : PortSt → PortSt) : (s.updPort n f).slots = s.slots := rfl
@[simp] theorem State.updPort_arms (s : State) (n : Nat) (f : PortSt → PortSt) : (s.updPort n f).arms = s.arms := rfl
@[simp] theorem State.updPort_tests (s : State) (n : Nat) (f : PortSt → PortSt) : (s.updPort n f).tests = s.tests := rfl
@[simp] theorem State.updPort_drivers (s : State) (n : Nat) (f : PortSt → PortSt) : (s.updPort n f).drivers = s.drivers := rfl
@[simp] theorem State.updPort_spis (s : State) (n : Nat) (f : PortSt → PortSt) : (s.updPort n f).spis = s.spis := rfl
@[simp] theorem State.updPort_objs (s : State) (n : Nat) (f : PortSt → PortSt) : (s.updPort n f).objs = s.objs := rfl
@[simp] theorem State.updPort_red (s : State) (n : Nat) (f : PortSt → PortSt) : (s.updPort n f).red = s.red := rfl
@[simp] theorem State.updPort_sed (s : State) (n : Nat) (f : PortSt → PortSt) : (s.updPort n f).sed = s.sed := rfl
@[simp] theorem State.updPort_place (s : State) (n : Nat) (f : PortSt → PortSt) : (s.updPort n f).place = s.place := rfl
@[simp] theorem State.updPort_fab (s : State) (n : Nat) (f : PortSt → PortSt) : (s.updPort n f).fab = s.fab := rfl
@[simp] theorem State.updPort_twin (s : State) (n : Nat) (f : PortSt → PortSt) : (s.updPort n f).twin = s.twin := rfl
@[simp] theorem State.updPort_safe (s : State) (n : Nat) (f : PortSt → PortSt) : (s.updPort n f).safe = s.safe := rfl
@[simp] theorem State.updPort_power (s : State) (n : Nat) (f : PortSt → PortSt) : (s.updPort n f).power = s.power := rfl
@[simp] theorem State.updPort_life (s : State) (n : Nat) (f : PortSt → PortSt) : (s.updPort n f).life = s.life := rfl
@[simp] theorem State.updPort_su (s : State) (n : Nat) (f : PortSt → PortSt) : (s.updPort n f).su = s.su := rfl
@[simp] theorem State.updPort_marks (s : State) (n : Nat) (f : PortSt → PortSt) : (s.updPort n f).marks = s.marks := rfl
@[simp] theorem State.updPort_used (s : State) (n : Nat) (f : PortSt → PortSt) : (s.updPort n f).used = s.used := rfl
@[simp] theorem State.updPort_sent (s : State) (n : Nat) (f : PortSt → PortSt) : (s.updPort n f).sent = s.sent := rfl
@[simp] theorem State.updPort_pending (s : State) (n : Nat) (f : PortSt → PortSt) : (s.updPort n f).pending = s.pending := rfl

-- updSem

@[simp] theorem State.updSem_now (s : State) (n : Nat) (f : Sem → Sem) : (s.updSem n f).now = s.now := rfl
@[simp] theorem State.updSem_regs (s : State) (n : Nat) (f : Sem → Sem) : (s.updSem n f).regs = s.regs := rfl
@[simp] theorem State.updSem_strs (s : State) (n : Nat) (f : Sem → Sem) : (s.updSem n f).strs = s.strs := rfl
@[simp] theorem State.updSem_arch (s : State) (n : Nat) (f : Sem → Sem) : (s.updSem n f).arch = s.arch := rfl
@[simp] theorem State.updSem_kdp (s : State) (n : Nat) (f : Sem → Sem) : (s.updSem n f).kdp = s.kdp := rfl
@[simp] theorem State.updSem_ports (s : State) (n : Nat) (f : Sem → Sem) : (s.updSem n f).ports = s.ports := rfl
@[simp] theorem State.updSem_convs (s : State) (n : Nat) (f : Sem → Sem) : (s.updSem n f).convs = s.convs := rfl
@[simp] theorem State.updSem_grps (s : State) (n : Nat) (f : Sem → Sem) : (s.updSem n f).grps = s.grps := rfl
@[simp] theorem State.updSem_diags (s : State) (n : Nat) (f : Sem → Sem) : (s.updSem n f).diags = s.diags := rfl
@[simp] theorem State.updSem_fports (s : State) (n : Nat) (f : Sem → Sem) : (s.updSem n f).fports = s.fports := rfl
@[simp] theorem State.updSem_sports (s : State) (n : Nat) (f : Sem → Sem) : (s.updSem n f).sports = s.sports := rfl
@[simp] theorem State.updSem_trackers (s : State) (n : Nat) (f : Sem → Sem) : (s.updSem n f).trackers = s.trackers := rfl
@[simp] theorem State.updSem_axes (s : State) (n : Nat) (f : Sem → Sem) : (s.updSem n f).axes = s.axes := rfl
@[simp] theorem State.updSem_gens (s : State) (n : Nat) (f : Sem → Sem) : (s.updSem n f).gens = s.gens := rfl
@[simp] theorem State.updSem_groups (s : State) (n : Nat) (f : Sem → Sem) : (s.updSem n f).groups = s.groups := rfl
@[simp] theorem State.updSem_tasks (s : State) (n : Nat) (f : Sem → Sem) : (s.updSem n f).tasks = s.tasks := rfl
@[simp] theorem State.updSem_traces (s : State) (n : Nat) (f : Sem → Sem) : (s.updSem n f).traces = s.traces := rfl
@[simp] theorem State.updSem_slots (s : State) (n : Nat) (f : Sem → Sem) : (s.updSem n f).slots = s.slots := rfl
@[simp] theorem State.updSem_arms (s : State) (n : Nat) (f : Sem → Sem) : (s.updSem n f).arms = s.arms := rfl
@[simp] theorem State.updSem_tests (s : State) (n : Nat) (f : Sem → Sem) : (s.updSem n f).tests = s.tests := rfl
@[simp] theorem State.updSem_drivers (s : State) (n : Nat) (f : Sem → Sem) : (s.updSem n f).drivers = s.drivers := rfl
@[simp] theorem State.updSem_spis (s : State) (n : Nat) (f : Sem → Sem) : (s.updSem n f).spis = s.spis := rfl
@[simp] theorem State.updSem_objs (s : State) (n : Nat) (f : Sem → Sem) : (s.updSem n f).objs = s.objs := rfl
@[simp] theorem State.updSem_red (s : State) (n : Nat) (f : Sem → Sem) : (s.updSem n f).red = s.red := rfl
@[simp] theorem State.updSem_sed (s : State) (n : Nat) (f : Sem → Sem) : (s.updSem n f).sed = s.sed := rfl
@[simp] theorem State.updSem_place (s : State) (n : Nat) (f : Sem → Sem) : (s.updSem n f).place = s.place := rfl
@[simp] theorem State.updSem_fab (s : State) (n : Nat) (f : Sem → Sem) : (s.updSem n f).fab = s.fab := rfl
@[simp] theorem State.updSem_twin (s : State) (n : Nat) (f : Sem → Sem) : (s.updSem n f).twin = s.twin := rfl
@[simp] theorem State.updSem_safe (s : State) (n : Nat) (f : Sem → Sem) : (s.updSem n f).safe = s.safe := rfl
@[simp] theorem State.updSem_power (s : State) (n : Nat) (f : Sem → Sem) : (s.updSem n f).power = s.power := rfl
@[simp] theorem State.updSem_life (s : State) (n : Nat) (f : Sem → Sem) : (s.updSem n f).life = s.life := rfl
@[simp] theorem State.updSem_su (s : State) (n : Nat) (f : Sem → Sem) : (s.updSem n f).su = s.su := rfl
@[simp] theorem State.updSem_marks (s : State) (n : Nat) (f : Sem → Sem) : (s.updSem n f).marks = s.marks := rfl
@[simp] theorem State.updSem_used (s : State) (n : Nat) (f : Sem → Sem) : (s.updSem n f).used = s.used := rfl
@[simp] theorem State.updSem_sent (s : State) (n : Nat) (f : Sem → Sem) : (s.updSem n f).sent = s.sent := rfl
@[simp] theorem State.updSem_pending (s : State) (n : Nat) (f : Sem → Sem) : (s.updSem n f).pending = s.pending := rfl

-- updAxis

@[simp] theorem State.updAxis_now (s : State) (n : Nat) (f : AxisSt → AxisSt) : (s.updAxis n f).now = s.now := rfl
@[simp] theorem State.updAxis_regs (s : State) (n : Nat) (f : AxisSt → AxisSt) : (s.updAxis n f).regs = s.regs := rfl
@[simp] theorem State.updAxis_strs (s : State) (n : Nat) (f : AxisSt → AxisSt) : (s.updAxis n f).strs = s.strs := rfl
@[simp] theorem State.updAxis_arch (s : State) (n : Nat) (f : AxisSt → AxisSt) : (s.updAxis n f).arch = s.arch := rfl
@[simp] theorem State.updAxis_kdp (s : State) (n : Nat) (f : AxisSt → AxisSt) : (s.updAxis n f).kdp = s.kdp := rfl
@[simp] theorem State.updAxis_ports (s : State) (n : Nat) (f : AxisSt → AxisSt) : (s.updAxis n f).ports = s.ports := rfl
@[simp] theorem State.updAxis_sems (s : State) (n : Nat) (f : AxisSt → AxisSt) : (s.updAxis n f).sems = s.sems := rfl
@[simp] theorem State.updAxis_convs (s : State) (n : Nat) (f : AxisSt → AxisSt) : (s.updAxis n f).convs = s.convs := rfl
@[simp] theorem State.updAxis_grps (s : State) (n : Nat) (f : AxisSt → AxisSt) : (s.updAxis n f).grps = s.grps := rfl
@[simp] theorem State.updAxis_diags (s : State) (n : Nat) (f : AxisSt → AxisSt) : (s.updAxis n f).diags = s.diags := rfl
@[simp] theorem State.updAxis_fports (s : State) (n : Nat) (f : AxisSt → AxisSt) : (s.updAxis n f).fports = s.fports := rfl
@[simp] theorem State.updAxis_sports (s : State) (n : Nat) (f : AxisSt → AxisSt) : (s.updAxis n f).sports = s.sports := rfl
@[simp] theorem State.updAxis_trackers (s : State) (n : Nat) (f : AxisSt → AxisSt) : (s.updAxis n f).trackers = s.trackers := rfl
@[simp] theorem State.updAxis_gens (s : State) (n : Nat) (f : AxisSt → AxisSt) : (s.updAxis n f).gens = s.gens := rfl
@[simp] theorem State.updAxis_groups (s : State) (n : Nat) (f : AxisSt → AxisSt) : (s.updAxis n f).groups = s.groups := rfl
@[simp] theorem State.updAxis_tasks (s : State) (n : Nat) (f : AxisSt → AxisSt) : (s.updAxis n f).tasks = s.tasks := rfl
@[simp] theorem State.updAxis_traces (s : State) (n : Nat) (f : AxisSt → AxisSt) : (s.updAxis n f).traces = s.traces := rfl
@[simp] theorem State.updAxis_slots (s : State) (n : Nat) (f : AxisSt → AxisSt) : (s.updAxis n f).slots = s.slots := rfl
@[simp] theorem State.updAxis_arms (s : State) (n : Nat) (f : AxisSt → AxisSt) : (s.updAxis n f).arms = s.arms := rfl
@[simp] theorem State.updAxis_tests (s : State) (n : Nat) (f : AxisSt → AxisSt) : (s.updAxis n f).tests = s.tests := rfl
@[simp] theorem State.updAxis_drivers (s : State) (n : Nat) (f : AxisSt → AxisSt) : (s.updAxis n f).drivers = s.drivers := rfl
@[simp] theorem State.updAxis_spis (s : State) (n : Nat) (f : AxisSt → AxisSt) : (s.updAxis n f).spis = s.spis := rfl
@[simp] theorem State.updAxis_objs (s : State) (n : Nat) (f : AxisSt → AxisSt) : (s.updAxis n f).objs = s.objs := rfl
@[simp] theorem State.updAxis_red (s : State) (n : Nat) (f : AxisSt → AxisSt) : (s.updAxis n f).red = s.red := rfl
@[simp] theorem State.updAxis_sed (s : State) (n : Nat) (f : AxisSt → AxisSt) : (s.updAxis n f).sed = s.sed := rfl
@[simp] theorem State.updAxis_place (s : State) (n : Nat) (f : AxisSt → AxisSt) : (s.updAxis n f).place = s.place := rfl
@[simp] theorem State.updAxis_fab (s : State) (n : Nat) (f : AxisSt → AxisSt) : (s.updAxis n f).fab = s.fab := rfl
@[simp] theorem State.updAxis_twin (s : State) (n : Nat) (f : AxisSt → AxisSt) : (s.updAxis n f).twin = s.twin := rfl
@[simp] theorem State.updAxis_safe (s : State) (n : Nat) (f : AxisSt → AxisSt) : (s.updAxis n f).safe = s.safe := rfl
@[simp] theorem State.updAxis_power (s : State) (n : Nat) (f : AxisSt → AxisSt) : (s.updAxis n f).power = s.power := rfl
@[simp] theorem State.updAxis_life (s : State) (n : Nat) (f : AxisSt → AxisSt) : (s.updAxis n f).life = s.life := rfl
@[simp] theorem State.updAxis_su (s : State) (n : Nat) (f : AxisSt → AxisSt) : (s.updAxis n f).su = s.su := rfl
@[simp] theorem State.updAxis_marks (s : State) (n : Nat) (f : AxisSt → AxisSt) : (s.updAxis n f).marks = s.marks := rfl
@[simp] theorem State.updAxis_used (s : State) (n : Nat) (f : AxisSt → AxisSt) : (s.updAxis n f).used = s.used := rfl
@[simp] theorem State.updAxis_sent (s : State) (n : Nat) (f : AxisSt → AxisSt) : (s.updAxis n f).sent = s.sent := rfl
@[simp] theorem State.updAxis_pending (s : State) (n : Nat) (f : AxisSt → AxisSt) : (s.updAxis n f).pending = s.pending := rfl

-- updGen

@[simp] theorem State.updGen_now (s : State) (n : Nat) (f : Gen → Gen) : (s.updGen n f).now = s.now := rfl
@[simp] theorem State.updGen_regs (s : State) (n : Nat) (f : Gen → Gen) : (s.updGen n f).regs = s.regs := rfl
@[simp] theorem State.updGen_strs (s : State) (n : Nat) (f : Gen → Gen) : (s.updGen n f).strs = s.strs := rfl
@[simp] theorem State.updGen_arch (s : State) (n : Nat) (f : Gen → Gen) : (s.updGen n f).arch = s.arch := rfl
@[simp] theorem State.updGen_kdp (s : State) (n : Nat) (f : Gen → Gen) : (s.updGen n f).kdp = s.kdp := rfl
@[simp] theorem State.updGen_ports (s : State) (n : Nat) (f : Gen → Gen) : (s.updGen n f).ports = s.ports := rfl
@[simp] theorem State.updGen_sems (s : State) (n : Nat) (f : Gen → Gen) : (s.updGen n f).sems = s.sems := rfl
@[simp] theorem State.updGen_convs (s : State) (n : Nat) (f : Gen → Gen) : (s.updGen n f).convs = s.convs := rfl
@[simp] theorem State.updGen_grps (s : State) (n : Nat) (f : Gen → Gen) : (s.updGen n f).grps = s.grps := rfl
@[simp] theorem State.updGen_diags (s : State) (n : Nat) (f : Gen → Gen) : (s.updGen n f).diags = s.diags := rfl
@[simp] theorem State.updGen_fports (s : State) (n : Nat) (f : Gen → Gen) : (s.updGen n f).fports = s.fports := rfl
@[simp] theorem State.updGen_sports (s : State) (n : Nat) (f : Gen → Gen) : (s.updGen n f).sports = s.sports := rfl
@[simp] theorem State.updGen_trackers (s : State) (n : Nat) (f : Gen → Gen) : (s.updGen n f).trackers = s.trackers := rfl
@[simp] theorem State.updGen_axes (s : State) (n : Nat) (f : Gen → Gen) : (s.updGen n f).axes = s.axes := rfl
@[simp] theorem State.updGen_groups (s : State) (n : Nat) (f : Gen → Gen) : (s.updGen n f).groups = s.groups := rfl
@[simp] theorem State.updGen_tasks (s : State) (n : Nat) (f : Gen → Gen) : (s.updGen n f).tasks = s.tasks := rfl
@[simp] theorem State.updGen_traces (s : State) (n : Nat) (f : Gen → Gen) : (s.updGen n f).traces = s.traces := rfl
@[simp] theorem State.updGen_slots (s : State) (n : Nat) (f : Gen → Gen) : (s.updGen n f).slots = s.slots := rfl
@[simp] theorem State.updGen_arms (s : State) (n : Nat) (f : Gen → Gen) : (s.updGen n f).arms = s.arms := rfl
@[simp] theorem State.updGen_tests (s : State) (n : Nat) (f : Gen → Gen) : (s.updGen n f).tests = s.tests := rfl
@[simp] theorem State.updGen_drivers (s : State) (n : Nat) (f : Gen → Gen) : (s.updGen n f).drivers = s.drivers := rfl
@[simp] theorem State.updGen_spis (s : State) (n : Nat) (f : Gen → Gen) : (s.updGen n f).spis = s.spis := rfl
@[simp] theorem State.updGen_objs (s : State) (n : Nat) (f : Gen → Gen) : (s.updGen n f).objs = s.objs := rfl
@[simp] theorem State.updGen_red (s : State) (n : Nat) (f : Gen → Gen) : (s.updGen n f).red = s.red := rfl
@[simp] theorem State.updGen_sed (s : State) (n : Nat) (f : Gen → Gen) : (s.updGen n f).sed = s.sed := rfl
@[simp] theorem State.updGen_place (s : State) (n : Nat) (f : Gen → Gen) : (s.updGen n f).place = s.place := rfl
@[simp] theorem State.updGen_fab (s : State) (n : Nat) (f : Gen → Gen) : (s.updGen n f).fab = s.fab := rfl
@[simp] theorem State.updGen_twin (s : State) (n : Nat) (f : Gen → Gen) : (s.updGen n f).twin = s.twin := rfl
@[simp] theorem State.updGen_safe (s : State) (n : Nat) (f : Gen → Gen) : (s.updGen n f).safe = s.safe := rfl
@[simp] theorem State.updGen_power (s : State) (n : Nat) (f : Gen → Gen) : (s.updGen n f).power = s.power := rfl
@[simp] theorem State.updGen_life (s : State) (n : Nat) (f : Gen → Gen) : (s.updGen n f).life = s.life := rfl
@[simp] theorem State.updGen_su (s : State) (n : Nat) (f : Gen → Gen) : (s.updGen n f).su = s.su := rfl
@[simp] theorem State.updGen_marks (s : State) (n : Nat) (f : Gen → Gen) : (s.updGen n f).marks = s.marks := rfl
@[simp] theorem State.updGen_used (s : State) (n : Nat) (f : Gen → Gen) : (s.updGen n f).used = s.used := rfl
@[simp] theorem State.updGen_sent (s : State) (n : Nat) (f : Gen → Gen) : (s.updGen n f).sent = s.sent := rfl
@[simp] theorem State.updGen_pending (s : State) (n : Nat) (f : Gen → Gen) : (s.updGen n f).pending = s.pending := rfl

-- updGroup

@[simp] theorem State.updGroup_now (s : State) (n : Nat) (f : Group → Group) : (s.updGroup n f).now = s.now := rfl
@[simp] theorem State.updGroup_regs (s : State) (n : Nat) (f : Group → Group) : (s.updGroup n f).regs = s.regs := rfl
@[simp] theorem State.updGroup_strs (s : State) (n : Nat) (f : Group → Group) : (s.updGroup n f).strs = s.strs := rfl
@[simp] theorem State.updGroup_arch (s : State) (n : Nat) (f : Group → Group) : (s.updGroup n f).arch = s.arch := rfl
@[simp] theorem State.updGroup_kdp (s : State) (n : Nat) (f : Group → Group) : (s.updGroup n f).kdp = s.kdp := rfl
@[simp] theorem State.updGroup_ports (s : State) (n : Nat) (f : Group → Group) : (s.updGroup n f).ports = s.ports := rfl
@[simp] theorem State.updGroup_sems (s : State) (n : Nat) (f : Group → Group) : (s.updGroup n f).sems = s.sems := rfl
@[simp] theorem State.updGroup_convs (s : State) (n : Nat) (f : Group → Group) : (s.updGroup n f).convs = s.convs := rfl
@[simp] theorem State.updGroup_grps (s : State) (n : Nat) (f : Group → Group) : (s.updGroup n f).grps = s.grps := rfl
@[simp] theorem State.updGroup_diags (s : State) (n : Nat) (f : Group → Group) : (s.updGroup n f).diags = s.diags := rfl
@[simp] theorem State.updGroup_fports (s : State) (n : Nat) (f : Group → Group) : (s.updGroup n f).fports = s.fports := rfl
@[simp] theorem State.updGroup_sports (s : State) (n : Nat) (f : Group → Group) : (s.updGroup n f).sports = s.sports := rfl
@[simp] theorem State.updGroup_trackers (s : State) (n : Nat) (f : Group → Group) : (s.updGroup n f).trackers = s.trackers := rfl
@[simp] theorem State.updGroup_axes (s : State) (n : Nat) (f : Group → Group) : (s.updGroup n f).axes = s.axes := rfl
@[simp] theorem State.updGroup_gens (s : State) (n : Nat) (f : Group → Group) : (s.updGroup n f).gens = s.gens := rfl
@[simp] theorem State.updGroup_tasks (s : State) (n : Nat) (f : Group → Group) : (s.updGroup n f).tasks = s.tasks := rfl
@[simp] theorem State.updGroup_traces (s : State) (n : Nat) (f : Group → Group) : (s.updGroup n f).traces = s.traces := rfl
@[simp] theorem State.updGroup_slots (s : State) (n : Nat) (f : Group → Group) : (s.updGroup n f).slots = s.slots := rfl
@[simp] theorem State.updGroup_arms (s : State) (n : Nat) (f : Group → Group) : (s.updGroup n f).arms = s.arms := rfl
@[simp] theorem State.updGroup_tests (s : State) (n : Nat) (f : Group → Group) : (s.updGroup n f).tests = s.tests := rfl
@[simp] theorem State.updGroup_drivers (s : State) (n : Nat) (f : Group → Group) : (s.updGroup n f).drivers = s.drivers := rfl
@[simp] theorem State.updGroup_spis (s : State) (n : Nat) (f : Group → Group) : (s.updGroup n f).spis = s.spis := rfl
@[simp] theorem State.updGroup_objs (s : State) (n : Nat) (f : Group → Group) : (s.updGroup n f).objs = s.objs := rfl
@[simp] theorem State.updGroup_red (s : State) (n : Nat) (f : Group → Group) : (s.updGroup n f).red = s.red := rfl
@[simp] theorem State.updGroup_sed (s : State) (n : Nat) (f : Group → Group) : (s.updGroup n f).sed = s.sed := rfl
@[simp] theorem State.updGroup_place (s : State) (n : Nat) (f : Group → Group) : (s.updGroup n f).place = s.place := rfl
@[simp] theorem State.updGroup_fab (s : State) (n : Nat) (f : Group → Group) : (s.updGroup n f).fab = s.fab := rfl
@[simp] theorem State.updGroup_twin (s : State) (n : Nat) (f : Group → Group) : (s.updGroup n f).twin = s.twin := rfl
@[simp] theorem State.updGroup_safe (s : State) (n : Nat) (f : Group → Group) : (s.updGroup n f).safe = s.safe := rfl
@[simp] theorem State.updGroup_power (s : State) (n : Nat) (f : Group → Group) : (s.updGroup n f).power = s.power := rfl
@[simp] theorem State.updGroup_life (s : State) (n : Nat) (f : Group → Group) : (s.updGroup n f).life = s.life := rfl
@[simp] theorem State.updGroup_su (s : State) (n : Nat) (f : Group → Group) : (s.updGroup n f).su = s.su := rfl
@[simp] theorem State.updGroup_marks (s : State) (n : Nat) (f : Group → Group) : (s.updGroup n f).marks = s.marks := rfl
@[simp] theorem State.updGroup_used (s : State) (n : Nat) (f : Group → Group) : (s.updGroup n f).used = s.used := rfl
@[simp] theorem State.updGroup_sent (s : State) (n : Nat) (f : Group → Group) : (s.updGroup n f).sent = s.sent := rfl
@[simp] theorem State.updGroup_pending (s : State) (n : Nat) (f : Group → Group) : (s.updGroup n f).pending = s.pending := rfl

-- updTask

@[simp] theorem State.updTask_now (s : State) (n : Nat) (f : TaskRec → TaskRec) : (s.updTask n f).now = s.now := rfl
@[simp] theorem State.updTask_regs (s : State) (n : Nat) (f : TaskRec → TaskRec) : (s.updTask n f).regs = s.regs := rfl
@[simp] theorem State.updTask_strs (s : State) (n : Nat) (f : TaskRec → TaskRec) : (s.updTask n f).strs = s.strs := rfl
@[simp] theorem State.updTask_arch (s : State) (n : Nat) (f : TaskRec → TaskRec) : (s.updTask n f).arch = s.arch := rfl
@[simp] theorem State.updTask_kdp (s : State) (n : Nat) (f : TaskRec → TaskRec) : (s.updTask n f).kdp = s.kdp := rfl
@[simp] theorem State.updTask_ports (s : State) (n : Nat) (f : TaskRec → TaskRec) : (s.updTask n f).ports = s.ports := rfl
@[simp] theorem State.updTask_sems (s : State) (n : Nat) (f : TaskRec → TaskRec) : (s.updTask n f).sems = s.sems := rfl
@[simp] theorem State.updTask_convs (s : State) (n : Nat) (f : TaskRec → TaskRec) : (s.updTask n f).convs = s.convs := rfl
@[simp] theorem State.updTask_grps (s : State) (n : Nat) (f : TaskRec → TaskRec) : (s.updTask n f).grps = s.grps := rfl
@[simp] theorem State.updTask_diags (s : State) (n : Nat) (f : TaskRec → TaskRec) : (s.updTask n f).diags = s.diags := rfl
@[simp] theorem State.updTask_fports (s : State) (n : Nat) (f : TaskRec → TaskRec) : (s.updTask n f).fports = s.fports := rfl
@[simp] theorem State.updTask_sports (s : State) (n : Nat) (f : TaskRec → TaskRec) : (s.updTask n f).sports = s.sports := rfl
@[simp] theorem State.updTask_trackers (s : State) (n : Nat) (f : TaskRec → TaskRec) : (s.updTask n f).trackers = s.trackers := rfl
@[simp] theorem State.updTask_axes (s : State) (n : Nat) (f : TaskRec → TaskRec) : (s.updTask n f).axes = s.axes := rfl
@[simp] theorem State.updTask_gens (s : State) (n : Nat) (f : TaskRec → TaskRec) : (s.updTask n f).gens = s.gens := rfl
@[simp] theorem State.updTask_groups (s : State) (n : Nat) (f : TaskRec → TaskRec) : (s.updTask n f).groups = s.groups := rfl
@[simp] theorem State.updTask_traces (s : State) (n : Nat) (f : TaskRec → TaskRec) : (s.updTask n f).traces = s.traces := rfl
@[simp] theorem State.updTask_slots (s : State) (n : Nat) (f : TaskRec → TaskRec) : (s.updTask n f).slots = s.slots := rfl
@[simp] theorem State.updTask_arms (s : State) (n : Nat) (f : TaskRec → TaskRec) : (s.updTask n f).arms = s.arms := rfl
@[simp] theorem State.updTask_tests (s : State) (n : Nat) (f : TaskRec → TaskRec) : (s.updTask n f).tests = s.tests := rfl
@[simp] theorem State.updTask_drivers (s : State) (n : Nat) (f : TaskRec → TaskRec) : (s.updTask n f).drivers = s.drivers := rfl
@[simp] theorem State.updTask_spis (s : State) (n : Nat) (f : TaskRec → TaskRec) : (s.updTask n f).spis = s.spis := rfl
@[simp] theorem State.updTask_objs (s : State) (n : Nat) (f : TaskRec → TaskRec) : (s.updTask n f).objs = s.objs := rfl
@[simp] theorem State.updTask_red (s : State) (n : Nat) (f : TaskRec → TaskRec) : (s.updTask n f).red = s.red := rfl
@[simp] theorem State.updTask_sed (s : State) (n : Nat) (f : TaskRec → TaskRec) : (s.updTask n f).sed = s.sed := rfl
@[simp] theorem State.updTask_place (s : State) (n : Nat) (f : TaskRec → TaskRec) : (s.updTask n f).place = s.place := rfl
@[simp] theorem State.updTask_fab (s : State) (n : Nat) (f : TaskRec → TaskRec) : (s.updTask n f).fab = s.fab := rfl
@[simp] theorem State.updTask_twin (s : State) (n : Nat) (f : TaskRec → TaskRec) : (s.updTask n f).twin = s.twin := rfl
@[simp] theorem State.updTask_safe (s : State) (n : Nat) (f : TaskRec → TaskRec) : (s.updTask n f).safe = s.safe := rfl
@[simp] theorem State.updTask_power (s : State) (n : Nat) (f : TaskRec → TaskRec) : (s.updTask n f).power = s.power := rfl
@[simp] theorem State.updTask_life (s : State) (n : Nat) (f : TaskRec → TaskRec) : (s.updTask n f).life = s.life := rfl
@[simp] theorem State.updTask_su (s : State) (n : Nat) (f : TaskRec → TaskRec) : (s.updTask n f).su = s.su := rfl
@[simp] theorem State.updTask_marks (s : State) (n : Nat) (f : TaskRec → TaskRec) : (s.updTask n f).marks = s.marks := rfl
@[simp] theorem State.updTask_used (s : State) (n : Nat) (f : TaskRec → TaskRec) : (s.updTask n f).used = s.used := rfl
@[simp] theorem State.updTask_sent (s : State) (n : Nat) (f : TaskRec → TaskRec) : (s.updTask n f).sent = s.sent := rfl
@[simp] theorem State.updTask_pending (s : State) (n : Nat) (f : TaskRec → TaskRec) : (s.updTask n f).pending = s.pending := rfl

-- updTrace

@[simp] theorem State.updTrace_now (s : State) (n : Nat) (f : TraceRec → TraceRec) : (s.updTrace n f).now = s.now := rfl
@[simp] theorem State.updTrace_regs (s : State) (n : Nat) (f : TraceRec → TraceRec) : (s.updTrace n f).regs = s.regs := rfl
@[simp] theorem State.updTrace_strs (s : State) (n : Nat) (f : TraceRec → TraceRec) : (s.updTrace n f).strs = s.strs := rfl
@[simp] theorem State.updTrace_arch (s : State) (n : Nat) (f : TraceRec → TraceRec) : (s.updTrace n f).arch = s.arch := rfl
@[simp] theorem State.updTrace_kdp (s : State) (n : Nat) (f : TraceRec → TraceRec) : (s.updTrace n f).kdp = s.kdp := rfl
@[simp] theorem State.updTrace_ports (s : State) (n : Nat) (f : TraceRec → TraceRec) : (s.updTrace n f).ports = s.ports := rfl
@[simp] theorem State.updTrace_sems (s : State) (n : Nat) (f : TraceRec → TraceRec) : (s.updTrace n f).sems = s.sems := rfl
@[simp] theorem State.updTrace_convs (s : State) (n : Nat) (f : TraceRec → TraceRec) : (s.updTrace n f).convs = s.convs := rfl
@[simp] theorem State.updTrace_grps (s : State) (n : Nat) (f : TraceRec → TraceRec) : (s.updTrace n f).grps = s.grps := rfl
@[simp] theorem State.updTrace_diags (s : State) (n : Nat) (f : TraceRec → TraceRec) : (s.updTrace n f).diags = s.diags := rfl
@[simp] theorem State.updTrace_fports (s : State) (n : Nat) (f : TraceRec → TraceRec) : (s.updTrace n f).fports = s.fports := rfl
@[simp] theorem State.updTrace_sports (s : State) (n : Nat) (f : TraceRec → TraceRec) : (s.updTrace n f).sports = s.sports := rfl
@[simp] theorem State.updTrace_trackers (s : State) (n : Nat) (f : TraceRec → TraceRec) : (s.updTrace n f).trackers = s.trackers := rfl
@[simp] theorem State.updTrace_axes (s : State) (n : Nat) (f : TraceRec → TraceRec) : (s.updTrace n f).axes = s.axes := rfl
@[simp] theorem State.updTrace_gens (s : State) (n : Nat) (f : TraceRec → TraceRec) : (s.updTrace n f).gens = s.gens := rfl
@[simp] theorem State.updTrace_groups (s : State) (n : Nat) (f : TraceRec → TraceRec) : (s.updTrace n f).groups = s.groups := rfl
@[simp] theorem State.updTrace_tasks (s : State) (n : Nat) (f : TraceRec → TraceRec) : (s.updTrace n f).tasks = s.tasks := rfl
@[simp] theorem State.updTrace_slots (s : State) (n : Nat) (f : TraceRec → TraceRec) : (s.updTrace n f).slots = s.slots := rfl
@[simp] theorem State.updTrace_arms (s : State) (n : Nat) (f : TraceRec → TraceRec) : (s.updTrace n f).arms = s.arms := rfl
@[simp] theorem State.updTrace_tests (s : State) (n : Nat) (f : TraceRec → TraceRec) : (s.updTrace n f).tests = s.tests := rfl
@[simp] theorem State.updTrace_drivers (s : State) (n : Nat) (f : TraceRec → TraceRec) : (s.updTrace n f).drivers = s.drivers := rfl
@[simp] theorem State.updTrace_spis (s : State) (n : Nat) (f : TraceRec → TraceRec) : (s.updTrace n f).spis = s.spis := rfl
@[simp] theorem State.updTrace_objs (s : State) (n : Nat) (f : TraceRec → TraceRec) : (s.updTrace n f).objs = s.objs := rfl
@[simp] theorem State.updTrace_red (s : State) (n : Nat) (f : TraceRec → TraceRec) : (s.updTrace n f).red = s.red := rfl
@[simp] theorem State.updTrace_sed (s : State) (n : Nat) (f : TraceRec → TraceRec) : (s.updTrace n f).sed = s.sed := rfl
@[simp] theorem State.updTrace_place (s : State) (n : Nat) (f : TraceRec → TraceRec) : (s.updTrace n f).place = s.place := rfl
@[simp] theorem State.updTrace_fab (s : State) (n : Nat) (f : TraceRec → TraceRec) : (s.updTrace n f).fab = s.fab := rfl
@[simp] theorem State.updTrace_twin (s : State) (n : Nat) (f : TraceRec → TraceRec) : (s.updTrace n f).twin = s.twin := rfl
@[simp] theorem State.updTrace_safe (s : State) (n : Nat) (f : TraceRec → TraceRec) : (s.updTrace n f).safe = s.safe := rfl
@[simp] theorem State.updTrace_power (s : State) (n : Nat) (f : TraceRec → TraceRec) : (s.updTrace n f).power = s.power := rfl
@[simp] theorem State.updTrace_life (s : State) (n : Nat) (f : TraceRec → TraceRec) : (s.updTrace n f).life = s.life := rfl
@[simp] theorem State.updTrace_su (s : State) (n : Nat) (f : TraceRec → TraceRec) : (s.updTrace n f).su = s.su := rfl
@[simp] theorem State.updTrace_marks (s : State) (n : Nat) (f : TraceRec → TraceRec) : (s.updTrace n f).marks = s.marks := rfl
@[simp] theorem State.updTrace_used (s : State) (n : Nat) (f : TraceRec → TraceRec) : (s.updTrace n f).used = s.used := rfl
@[simp] theorem State.updTrace_sent (s : State) (n : Nat) (f : TraceRec → TraceRec) : (s.updTrace n f).sent = s.sent := rfl
@[simp] theorem State.updTrace_pending (s : State) (n : Nat) (f : TraceRec → TraceRec) : (s.updTrace n f).pending = s.pending := rfl

end Sys2Proof.Machine
end

