-- ==== Sys2Proof/Laws/Tables.lean ====
section
/-! SUPPORT. Reading after writing: tables, dictionary copies and the units. -/

namespace Sys2Proof.Machine

variable {α : Type}

-- tables

theorem Tbl.getD_erase_self (t : Tbl α) (k : Nat) (d : α) : (t.erase k).getD k d = d := by
  induction t with
  | nil => rfl
  | cons e r ih =>
    obtain ⟨k', v⟩ := e
    by_cases h : k' = k
    · subst h; simpa [Tbl.erase] using ih
    · have : (k' != k) = true := by simpa using h
      simp only [Tbl.erase, List.filter_cons, this, if_true, Tbl.getD, h, if_false]
      exact ih

theorem Tbl.getD_erase_ne (t : Tbl α) {k j : Nat} (d : α) (h : j ≠ k) : (t.erase k).getD j d = t.getD j d := by
  induction t with
  | nil => rfl
  | cons e r ih =>
    obtain ⟨k', v⟩ := e
    by_cases hk : k' = k
    · subst hk
      have hj : k' ≠ j := fun x => h x.symm
      simp only [Tbl.erase, List.filter_cons, bne_self_eq_false, Bool.false_eq_true, if_false, Tbl.getD, hj]
      exact ih
    · have : (k' != k) = true := by simpa using hk
      simp only [Tbl.erase, List.filter_cons, this, if_true, Tbl.getD]
      split
      · rfl
      · exact ih

theorem Tbl.getD_place_self (t : Tbl α) (k : Nat) (v d : α) (h : ∀ e ∈ t, e.1 ≠ k) : (t.place k v).getD k d = v := by
  induction t with
  | nil => simp [Tbl.place, Tbl.getD]
  | cons e r ih =>
    obtain ⟨k', w⟩ := e
    have hk : k' ≠ k := h (k', w) (by simp)
    simp only [Tbl.place]
    split
    · simp [Tbl.getD]
    · simp only [Tbl.getD, hk, if_false]
      exact ih fun e he => h e (by simp [he])

theorem Tbl.getD_place_ne (t : Tbl α) {k j : Nat} (v d : α) (h : j ≠ k) : (t.place k v).getD j d = t.getD j d := by
  have hk : k ≠ j := fun x => h x.symm
  induction t with
  | nil => simp [Tbl.place, Tbl.getD, hk]
  | cons e r ih =>
    obtain ⟨k', w⟩ := e
    simp only [Tbl.place]
    split
    · simp [Tbl.getD, hk]
    · simp only [Tbl.getD]
      split
      · rfl
      · exact ih

theorem Tbl.all_place (p : Nat × α → Bool) (t : Tbl α) (k : Nat) (v : α) :
    (t.place k v).all p = (p (k, v) && t.all p) := by
  induction t with
  | nil => simp [Tbl.place]
  | cons e r ih =>
    obtain ⟨k', w⟩ := e
    simp only [Tbl.place]
    split
    · simp
    · simp only [List.all_cons, ih]
      cases p (k', w) <;> cases p (k, v) <;> rfl

theorem Tbl.sorted_filter (q : Nat × α → Bool) (t : Tbl α) (h : Tbl.sorted t = true) : Tbl.sorted (t.filter q) = true := by
  induction t with
  | nil => rfl
  | cons e r ih =>
    obtain ⟨k, v⟩ := e
    simp only [Tbl.sorted, Bool.and_eq_true, List.all_eq_true] at h
    simp only [List.filter_cons]
    split
    · simp only [Tbl.sorted, Bool.and_eq_true, List.all_eq_true]
      exact ⟨fun e he => h.1 e (List.mem_filter.1 he).1, ih h.2⟩
    · exact ih h.2

theorem Tbl.sorted_place (t : Tbl α) (k : Nat) (v : α) (h : Tbl.sorted t = true) (hk : ∀ e ∈ t, e.1 ≠ k) :
    Tbl.sorted (t.place k v) = true := by
  induction t with
  | nil => rfl
  | cons e r ih =>
    obtain ⟨k', w⟩ := e
    have hs := h
    simp only [Tbl.sorted, Bool.and_eq_true, List.all_eq_true, decide_eq_true_eq] at h
    have hne : k' ≠ k := hk (k', w) (by simp)
    simp only [Tbl.place]
    split
    · next hlt =>
      simp only [Tbl.sorted, Bool.and_eq_true, List.all_eq_true, decide_eq_true_eq, List.mem_cons]
      refine ⟨fun e he => ?_, h.1, h.2⟩
      rcases he with rfl | he
      · exact hlt
      · exact Nat.lt_trans hlt (h.1 e he)
    · next hge =>
      simp only [Tbl.sorted, Bool.and_eq_true]
      refine ⟨?_, ih h.2 fun e he => hk e (by simp [he])⟩
      rw [Tbl.all_place]
      simp only [Bool.and_eq_true, decide_eq_true_eq, List.all_eq_true]
      exact ⟨by omega, h.1⟩

variable [DecidableEq α]

/-- A value written is read back, with the default it was written with. -/
@[simp] theorem Tbl.getD_put_self (t : Tbl α) (k : Nat) (d v : α) : (t.put k d v).getD k d = v := by
  unfold Tbl.put
  split
  · next h => subst h; exact Tbl.getD_erase_self t k v
  · refine Tbl.getD_place_self _ _ _ _ fun e he => ?_
    simp only [Tbl.erase, List.mem_filter] at he
    simpa using he.2

/-- A write leaves every other key alone. -/
theorem Tbl.getD_put_ne (t : Tbl α) {k j : Nat} (d v d' : α) (h : j ≠ k) : (t.put k d v).getD j d' = t.getD j d' := by
  unfold Tbl.put
  split
  · exact Tbl.getD_erase_ne t d' h
  · rw [Tbl.getD_place_ne _ _ _ h, Tbl.getD_erase_ne t d' h]

@[simp] theorem Tbl.getD_modify_self (t : Tbl α) (k : Nat) (d : α) (f : α → α) :
    (t.modify k d f).getD k d = f (t.getD k d) := Tbl.getD_put_self ..

theorem Tbl.getD_modify_ne (t : Tbl α) {k j : Nat} (d d' : α) (f : α → α) (h : j ≠ k) :
    (t.modify k d f).getD j d' = t.getD j d' := Tbl.getD_put_ne _ _ _ _ h

-- the canonical form

/-- A write keeps the canonical form. -/
theorem Tbl.wf_put (t : Tbl α) (d : Nat → α) (k : Nat) (v : α) (h : t.wf d = true) : (t.put k (d k) v).wf d = true := by
  simp only [Tbl.wf, Bool.and_eq_true, List.all_eq_true] at h ⊢
  have hs := Tbl.sorted_filter (fun e => e.1 != k) t h.1
  have hk : ∀ e ∈ t.erase k, e.1 ≠ k := fun e he => by
    simp only [Tbl.erase, List.mem_filter] at he
    simpa using he.2
  have hd : ∀ e ∈ t.erase k, (e.2 != d e.1) = true := fun e he => h.2 e (List.mem_filter.1 he).1
  unfold Tbl.put
  split
  · exact ⟨hs, hd⟩
  · next hv =>
    refine ⟨Tbl.sorted_place _ _ _ hs hk, ?_⟩
    have ha := Tbl.all_place (fun e => e.2 != d e.1) (t.erase k) k v
    have hall : ((t.erase k).place k v).all (fun e => e.2 != d e.1) = true := by
      rw [ha, Bool.and_eq_true, List.all_eq_true]
      exact ⟨by simpa using hv, hd⟩
    exact List.all_eq_true.1 hall

/-- Changing a value keeps the canonical form. -/
theorem Tbl.wf_modify (t : Tbl α) (d : Nat → α) (k : Nat) (f : α → α) (h : t.wf d = true) :
    (t.modify k (d k) f).wf d = true := Tbl.wf_put t d k _ h

-- channels

@[simp] theorem Trio.get_upd_self {β : Type} (t : Trio β) (c : Ch) (f : β → β) : (t.upd c f).get c = f (t.get c) := by
  cases c <;> rfl

theorem Trio.get_upd_ne {β : Type} (t : Trio β) {c d : Ch} (f : β → β) (h : d ≠ c) : (t.upd c f).get d = t.get d := by
  cases c <;> cases d <;> first | rfl | exact absurd rfl h

-- dictionary copies

@[simp] theorem State.g_setC_self (s : State) (c : Ch) (o : Obj) (v : Int) : (s.setC c o v).g c o = v := by
  simp [State.g, State.setC]

/-- A write to one object leaves the copies of every object with another key alone. -/
theorem State.g_setC_key (s : State) (c d : Ch) {o p : Obj} (v : Int) (h : p.key ≠ o.key) :
    (s.setC c o v).g d p = s.g d p := by
  simp only [State.g, State.setC]
  by_cases hc : d = c
  · subst hc; simp [Tbl.getD_put_ne _ _ _ _ h]
  · simp [Trio.get_upd_ne _ _ hc]

/-- A write to one channel's copy leaves the other channels' copies alone. -/
theorem State.g_setC_chan (s : State) {c d : Ch} (o p : Obj) (v : Int) (h : d ≠ c) : (s.setC c o v).g d p = s.g d p := by
  simp [State.g, State.setC, Trio.get_upd_ne _ _ h]

@[simp] theorem State.g_setR_self (s : State) (c : Ch) (o : Obj) (v : Int) : (s.setR o v).g c o = v := by
  simp [State.g, State.setR]

theorem State.g_setR_key (s : State) (d : Ch) {o p : Obj} (v : Int) (h : p.key ≠ o.key) :
    (s.setR o v).g d p = s.g d p := by
  simp [State.g, State.setR, Tbl.getD_put_ne _ _ _ _ h]

@[simp] theorem State.v_setR_self (s : State) (o : Obj) (v : Int) : (s.setR o v).v o = v := by
  simp [State.v, maj3]

theorem State.v_setR_key (s : State) {o p : Obj} (v : Int) (h : p.key ≠ o.key) : (s.setR o v).v p = s.v p := by
  simp [State.v, State.g_setR_key _ _ _ h]

theorem State.v_setC_key (s : State) (c : Ch) {o p : Obj} (v : Int) (h : p.key ≠ o.key) : (s.setC c o v).v p = s.v p := by
  simp [State.v, State.g_setC_key _ _ _ _ h]

/-- What reads the same registers reads the same copies. -/
theorem State.g_congr {s s' : State} (h : s'.regs = s.regs) (c : Ch) (o : Obj) : s'.g c o = s.g c o := by
  simp [State.g, h]

theorem State.v_congr {s s' : State} (h : s'.regs = s.regs) (o : Obj) : s'.v o = s.v o := by
  simp [State.v, State.g_congr h]

-- the units

@[simp] theorem State.conv_updConv_self (s : State) (c : Ch) (n : Nat) (f : Conv → Conv) :
    (s.updConv c n f).conv c n = f (s.conv c n) := by
  simp [State.conv, State.updConv]

@[simp] theorem State.grp_updGrp_self (s : State) (c : Ch) (n : Nat) (f : Grp → Grp) :
    (s.updGrp c n f).grp c n = f (s.grp c n) := by
  simp [State.grp, State.updGrp]

@[simp] theorem State.diag_updDiag_self (s : State) (c : Ch) (n : Nat) (f : Diag → Diag) :
    (s.updDiag c n f).diag c n = f (s.diag c n) := by
  simp [State.diag, State.updDiag]

@[simp] theorem State.fport_updFport_self (s : State) (c : Ch) (n : Nat) (f : Fport → Fport) :
    (s.updFport c n f).fport c n = f (s.fport c n) := by
  simp [State.fport, State.updFport]

@[simp] theorem State.sport_updSport_self (s : State) (c : Ch) (n : Nat) (f : Sport → Sport) :
    (s.updSport c n f).sport c n = f (s.sport c n) := by
  simp [State.sport, State.updSport]

@[simp] theorem State.tracker_updTracker_self (s : State) (c : Ch) (n : Nat) (f : Tracker → Tracker) :
    (s.updTracker c n f).tracker c n = f (s.tracker c n) := by
  simp [State.tracker, State.updTracker]

@[simp] theorem State.slot_updSlot_self (s : State) (c : Ch) (n : Nat) (f : Slot → Slot) :
    (s.updSlot c n f).slot c n = f (s.slot c n) := by
  simp [State.slot, State.updSlot]

@[simp] theorem State.arm_updArm_self (s : State) (c : Ch) (n : Nat) (f : Arm → Arm) :
    (s.updArm c n f).arm c n = f (s.arm c n) := by
  simp [State.arm, State.updArm]

@[simp] theorem State.test_updTest_self (s : State) (c : Ch) (n : Nat) (f : PermitTest → PermitTest) :
    (s.updTest c n f).test c n = f (s.test c n) := by
  simp [State.test, State.updTest]

@[simp] theorem State.driver_updDriver_self (s : State) (c : Ch) (n : Nat) (f : Driver → Driver) :
    (s.updDriver c n f).driver c n = f (s.driver c n) := by
  simp [State.driver, State.updDriver]

@[simp] theorem State.spi_updSpi_self (s : State) (c : Ch) (n : Nat) (f : Gspi → Gspi) :
    (s.updSpi c n f).spi c n = f (s.spi c n) := by
  simp [State.spi, State.updSpi]

@[simp] theorem State.port_updPort_self (s : State) (n : Nat) (f : PortSt → PortSt) :
    (s.updPort n f).port n = f (s.port n) := by
  simp [State.port, State.updPort]

theorem State.port_updPort_ne (s : State) {n m : Nat} (f : PortSt → PortSt) (h : m ≠ n) :
    (s.updPort n f).port m = s.port m := by
  simp [State.port, State.updPort, Tbl.getD_modify_ne _ _ _ _ h]

@[simp] theorem State.sem_updSem_self (s : State) (n : Nat) (f : Sem → Sem) :
    (s.updSem n f).sem n = f (s.sem n) := by
  simp [State.sem, State.updSem]

theorem State.sem_updSem_ne (s : State) {n m : Nat} (f : Sem → Sem) (h : m ≠ n) :
    (s.updSem n f).sem m = s.sem m := by
  simp [State.sem, State.updSem, Tbl.getD_modify_ne _ _ _ _ h]

@[simp] theorem State.axis_updAxis_self (s : State) (n : Nat) (f : AxisSt → AxisSt) :
    (s.updAxis n f).axis n = f (s.axis n) := by
  simp [State.axis, State.updAxis]

theorem State.axis_updAxis_ne (s : State) {n m : Nat} (f : AxisSt → AxisSt) (h : m ≠ n) :
    (s.updAxis n f).axis m = s.axis m := by
  simp [State.axis, State.updAxis, Tbl.getD_modify_ne _ _ _ _ h]

@[simp] theorem State.gen_updGen_self (s : State) (n : Nat) (f : Gen → Gen) :
    (s.updGen n f).gen n = f (s.gen n) := by
  simp [State.gen, State.updGen]

theorem State.gen_updGen_ne (s : State) {n m : Nat} (f : Gen → Gen) (h : m ≠ n) :
    (s.updGen n f).gen m = s.gen m := by
  simp [State.gen, State.updGen, Tbl.getD_modify_ne _ _ _ _ h]

@[simp] theorem State.group_updGroup_self (s : State) (n : Nat) (f : Group → Group) :
    (s.updGroup n f).group n = f (s.group n) := by
  simp [State.group, State.updGroup]

theorem State.group_updGroup_ne (s : State) {n m : Nat} (f : Group → Group) (h : m ≠ n) :
    (s.updGroup n f).group m = s.group m := by
  simp [State.group, State.updGroup, Tbl.getD_modify_ne _ _ _ _ h]

@[simp] theorem State.task_updTask_self (s : State) (n : Nat) (f : TaskRec → TaskRec) :
    (s.updTask n f).task n = f (s.task n) := by
  simp [State.task, State.updTask]

theorem State.task_updTask_ne (s : State) {n m : Nat} (f : TaskRec → TaskRec) (h : m ≠ n) :
    (s.updTask n f).task m = s.task m := by
  simp [State.task, State.updTask, Tbl.getD_modify_ne _ _ _ _ h]

@[simp] theorem State.trace_updTrace_self (s : State) (n : Nat) (f : TraceRec → TraceRec) :
    (s.updTrace n f).trace n = f (s.trace n) := by
  simp [State.trace, State.updTrace]

theorem State.trace_updTrace_ne (s : State) {n m : Nat} (f : TraceRec → TraceRec) (h : m ≠ n) :
    (s.updTrace n f).trace m = s.trace m := by
  simp [State.trace, State.updTrace, Tbl.getD_modify_ne _ _ _ _ h]

end Sys2Proof.Machine
end

