-- ==== Sys2Proof/Laws/Follow.lean ====
section
/-! SUPPORT. What follows every command: `State.follow` changes generators, groups, feedback ports with their compare
controls, AG_LEAD, permits with their test states, and what has been sent, and nothing else. -/

namespace Sys2Proof.Machine

/-- The fields that `State.follow` leaves alone are the same in two states. -/
structure State.Same (s s' : State) : Prop where
  now : s'.now = s.now
  strs : s'.strs = s.strs
  arch : s'.arch = s.arch
  kdp : s'.kdp = s.kdp
  ports : s'.ports = s.ports
  sems : s'.sems = s.sems
  convs : s'.convs = s.convs
  grps : s'.grps = s.grps
  diags : s'.diags = s.diags
  sports : s'.sports = s.sports
  trackers : s'.trackers = s.trackers
  axes : s'.axes = s.axes
  tasks : s'.tasks = s.tasks
  traces : s'.traces = s.traces
  drivers : s'.drivers = s.drivers
  spis : s'.spis = s.spis
  objs : s'.objs = s.objs
  red : s'.red = s.red
  sed : s'.sed = s.sed
  place : s'.place = s.place
  fab : s'.fab = s.fab
  twin : s'.twin = s.twin
  safe : s'.safe = s.safe
  power : s'.power = s.power
  life : s'.life = s.life
  su : s'.su = s.su
  used : s'.used = s.used
  marks : s'.marks = s.marks
  pending : s'.pending = s.pending

theorem State.Same.rfl {s : State} : s.Same s := by constructor <;> exact Eq.refl _

theorem State.Same.trans {s t u : State} (h : s.Same t) (k : t.Same u) : s.Same u := by
  constructor
  · exact k.now.trans h.now
  · exact k.strs.trans h.strs
  · exact k.arch.trans h.arch
  · exact k.kdp.trans h.kdp
  · exact k.ports.trans h.ports
  · exact k.sems.trans h.sems
  · exact k.convs.trans h.convs
  · exact k.grps.trans h.grps
  · exact k.diags.trans h.diags
  · exact k.sports.trans h.sports
  · exact k.trackers.trans h.trackers
  · exact k.axes.trans h.axes
  · exact k.tasks.trans h.tasks
  · exact k.traces.trans h.traces
  · exact k.drivers.trans h.drivers
  · exact k.spis.trans h.spis
  · exact k.objs.trans h.objs
  · exact k.red.trans h.red
  · exact k.sed.trans h.sed
  · exact k.place.trans h.place
  · exact k.fab.trans h.fab
  · exact k.twin.trans h.twin
  · exact k.safe.trans h.safe
  · exact k.power.trans h.power
  · exact k.life.trans h.life
  · exact k.su.trans h.su
  · exact k.used.trans h.used
  · exact k.marks.trans h.marks
  · exact k.pending.trans h.pending

/-- What each step of a loop keeps, the loop keeps. -/
theorem forEach_keeps {α : Type} (P : State → State → Prop) (hr : ∀ s, P s s) (ht : ∀ s t u, P s t → P t u → P s u)
    (f : State → α → State) (hf : ∀ s x, P s (f s x)) (l : List α) (s : State) : P s (forEach l s f) := by
  unfold forEach
  induction l generalizing s with
  | nil => exact hr s
  | cons x l ih => exact ht _ _ _ (hf s x) (ih (f s x))

theorem State.Same.forEach {α : Type} (f : State → α → State) (hf : ∀ s x, State.Same s (f s x)) (l : List α)
    (s : State) : s.Same (Sys2Proof.Machine.forEach l s f) :=
  forEach_keeps State.Same (fun _ => .rfl) (fun _ _ _ => .trans) f hf l s

/-- A reading of the state that updates of generators, groups, replicated objects and sent frames leave alone. -/
structure Apart {β : Type} (p : State → β) : Prop where
  gen : ∀ s n f, p (State.updGen s n f) = p s
  group : ∀ s n f, p (State.updGroup s n f) = p s
  reg : ∀ s o v, p (State.setR s o v) = p s
  sent : ∀ s o, p (State.send s o) = p s

/-- What each step of a loop keeps of the state, the loop keeps. -/
theorem forEach_same {α β : Type} {p : State → β} {f : State → α → State} (hf : ∀ s x, p (f s x) = p s) (l : List α)
    (s : State) : p (forEach l s f) = p s :=
  forEach_keeps (fun s t => p t = p s) (fun _ => Eq.refl _) (fun _ _ _ h k => k.trans h) f hf l s

variable {β : Type} {p : State → β}

theorem Apart.describe (h : Apart p) (s : State) (g : Nat) (m : GMove) (at_ : Nat) (b : Option GStop) :
    p (s.describe g m at_ b) = p s := by
  unfold State.describe
  split
  · exact h.sent ..
  · exact Eq.refl _

theorem Apart.stopGroup (h : Apart p) (s : State) (g : Nat) (q : Bool) : p (s.stopGroup g q) = p s := by
  unfold State.stopGroup
  have hl : ∀ (l : List Nat) (u : State), p (Sys2Proof.Machine.forEach l u fun s m =>
      if s.isRemote g m then s else s.updGen (s.memberAxis g m) fun x => { x with pend := none }) = p u := fun l u =>
    forEach_same (fun s m => by
      split
      · exact Eq.refl _
      · exact h.gen ..) l u
  dsimp only
  repeat' split
  all_goals simp only [h.describe, h.group, hl]

theorem Apart.endGroup (h : Apart p) (s : State) (g : Nat) : p (s.endGroup g) = p s := by
  unfold State.endGroup
  rw [h.reg, h.group]

theorem Apart.releadGroup (h : Apart p) (s : State) (g : Nat) : p (s.releadGroup g) = p s := by
  unfold State.releadGroup
  dsimp only
  repeat' split
  all_goals first
    | exact Eq.refl _
    | simp only [h.reg, h.group]
    | (rw [h.endGroup]
       refine forEach_same (fun s m => ?_) _ _
       exact h.gen ..)

theorem Apart.beginTrack (h : Apart p) (s : State) (n : Nat) : p (s.beginTrack n) = p s := by
  unfold State.beginTrack
  dsimp only
  repeat' split
  all_goals simp only [h.stopGroup, h.releadGroup, h.group, h.gen]

/-- Generators that begin to track change generators, groups, AG_LEAD and what has been sent (R270, R278). -/
theorem Apart.beginTracking (h : Apart p) (s : State) : p s.beginTracking = p s := by
  unfold State.beginTracking
  refine forEach_same (fun s n => ?_) _ _
  split
  · exact h.beginTrack ..
  · exact Eq.refl _

theorem State.Same.beginTracking (s : State) : s.Same s.beginTracking := by
  constructor <;> exact Apart.beginTracking ⟨fun _ _ _ => Eq.refl _, fun _ _ _ => Eq.refl _, fun _ _ _ => Eq.refl _, fun _ _ => Eq.refl _⟩ s

theorem State.Same.updFport (s : State) (c : Ch) (n : Nat) (f : Fport → Fport) : s.Same (s.updFport c n f) := by
  constructor <;> exact Eq.refl _

theorem State.Same.bitC (s : State) (c : Ch) (o : Obj) (n : Nat) (b : Bool) : s.Same (s.bitC c o n b) := by
  constructor <;> exact Eq.refl _

theorem State.Same.armEntries (s : State) (c : Ch) (n : Nat) (d : Option Int) : s.Same (s.armEntries c n d) := by
  unfold State.armEntries
  dsimp only
  have h : ∀ l : List (Nat × Int), s.Same (Sys2Proof.Machine.forEach l s fun s p =>
      s.bitC c (Obj.cmpControl c n p.1) 3 false) := fun l => .forEach _ (fun s p => .bitC ..) l s
  exact (h _).trans (.updFport ..)

theorem State.Same.syncBehind (s : State) : s.Same s.syncBehind := by
  unfold State.syncBehind
  refine .forEach _ (fun s n => ?_) _ _
  repeat' split
  all_goals first | exact .rfl | exact .armEntries ..

theorem State.Same.dropPermits (s : State) : s.Same s.dropPermits := by constructor <;> exact Eq.refl _

theorem State.Same.follow (s : State) : s.Same s.follow :=
  ((State.Same.beginTracking s).trans (.syncBehind _)).trans (.dropPermits _)

-- registers: only the compare controls and AG_LEAD change

/-- Neither an object of a compare list (R174 to R176) nor the AG_LEAD of a group (R277). -/
def Obj.offFollow (o : Obj) : Prop :=
  (o.key / 4096 ≠ 0x483 ∧ o.key / 4096 ≠ 0x493 ∧ o.key / 4096 ≠ 0x4A3) ∧ ¬(o.key / 4096 = 0x382 ∧ o.key % 256 = 5)

/-- The copies of every object outside the compare lists and AG_LEAD are the same in two states. -/
def State.SameRegs (s s' : State) : Prop := ∀ c o, Obj.offFollow o → s'.g c o = s.g c o

theorem State.SameRegs.of_eq {s s' : State} (h : s'.regs = s.regs) : s.SameRegs s' := fun c o _ => State.g_congr h c o

theorem State.SameRegs.forEach {α : Type} (f : State → α → State) (hf : ∀ s x, State.SameRegs s (f s x)) (l : List α)
    (s : State) : s.SameRegs (Sys2Proof.Machine.forEach l s f) :=
  forEach_keeps State.SameRegs (fun _ _ _ _ => Eq.refl _) (fun _ _ _ h k c o ho => (k c o ho).trans (h c o ho)) f hf l s

theorem State.SameRegs.trans {s t u : State} (h : s.SameRegs t) (k : t.SameRegs u) : s.SameRegs u :=
  fun c o ho => (k c o ho).trans (h c o ho)

theorem State.describe_regs (s : State) (g : Nat) (m : GMove) (at_ : Nat) (b : Option GStop) :
    (s.describe g m at_ b).regs = s.regs := by
  unfold State.describe
  split <;> exact Eq.refl _

theorem State.stopGroup_regs (s : State) (g : Nat) (q : Bool) : (s.stopGroup g q).regs = s.regs := by
  unfold State.stopGroup
  dsimp only
  have h : ∀ (l : List Nat) (u : State), (Sys2Proof.Machine.forEach l u fun s m =>
      if s.isRemote g m then s else s.updGen (s.memberAxis g m) fun x => { x with pend := none }).regs = u.regs := fun l u =>
    forEach_keeps (fun s t : State => t.regs = s.regs) (fun _ => Eq.refl _) (fun _ _ _ h k => k.trans h) _
      (fun s m => by split <;> exact Eq.refl _) l u
  repeat' split
  all_goals first | exact h _ _ | exact (State.describe_regs ..).trans (h _ _)

/-- The group that a local axis belongs to is one of the 16. -/
theorem State.groupOf_lt (s : State) (n : Nat) {g m : Nat} (h : s.groupOf n = some (g, m)) : g < 16 := by
  unfold State.groupOf at h
  obtain ⟨a, ha, hb⟩ := List.exists_of_findSome?_eq_some h
  simp only [Option.map_eq_some_iff, Prod.mk.injEq] at hb
  obtain ⟨_, _, rfl, _⟩ := hb
  simpa [upto] using ha

theorem State.SameRegs.lead (s : State) {g : Nat} (hg : g < 16) (v : Int) : s.SameRegs (s.setR (Obj.agLead g) v) := by
  intro c o ho
  refine State.g_setR_key _ _ _ ?_
  have := ho.2
  simp only [Obj.agLead] at *
  omega

theorem State.SameRegs.endGroup (s : State) {g : Nat} (hg : g < 16) : s.SameRegs (s.endGroup g) :=
  (State.SameRegs.of_eq (Eq.refl _)).trans (.lead _ hg _)

theorem State.SameRegs.releadGroup (s : State) {g : Nat} (hg : g < 16) : s.SameRegs (s.releadGroup g) := by
  unfold State.releadGroup
  dsimp only
  repeat' split
  all_goals first
    | exact .of_eq (Eq.refl _)
    | exact (State.SameRegs.of_eq (Eq.refl _)).trans (.lead _ hg _)
    | (refine State.SameRegs.trans ?_ (.endGroup _ hg)
       refine State.SameRegs.forEach _ (fun s m => ?_) _ _
       exact .of_eq (Eq.refl _))

theorem State.SameRegs.beginTrack (s : State) (n : Nat) : s.SameRegs (s.beginTrack n) := by
  unfold State.beginTrack
  dsimp only
  generalize (if s.isForceAxis n then (s.axis n).forceLatch else s.v (Obj.latchPos n)) = ref
  have h : s.SameRegs (s.updGen n fun x => x.track s.now ref) := .of_eq (Eq.refl _)
  generalize (s.updGen n fun x => x.track s.now ref) = u at h
  split
  · next g m hu =>
    have hg := State.groupOf_lt u n hu
    have h2 : s.SameRegs (u.updGroup g fun x => { x with pend := x.pend.erase m }) := h.trans (.of_eq (Eq.refl _))
    generalize (u.updGroup g fun x => { x with pend := x.pend.erase m }) = w at h2
    repeat' split
    all_goals first
      | exact h2
      | exact h2.trans (.releadGroup _ hg)
      | exact (h2.trans (.releadGroup _ hg)).trans (.of_eq (State.stopGroup_regs ..))
  · exact h

theorem State.SameRegs.beginTracking (s : State) : s.SameRegs s.beginTracking := by
  unfold State.beginTracking
  refine .forEach _ (fun s n => ?_) _ _
  split
  · exact .beginTrack s n
  · exact .of_eq (Eq.refl _)

theorem Obj.offFollow.ne {o : Obj} (h : o.offFollow) (c : Ch) {n e : Nat} (hn : n < 16) (he : e < 16) :
    o.key ≠ (Obj.cmpControl c n e).key := by
  obtain ⟨⟨h1, h2, h3⟩, -⟩ := h
  cases c <;> simp only [Obj.cmpControl, Ch.num] <;> omega

theorem State.sourceOf_lt (s : State) (n : Nat) {k : SourceKind} {c : Ch} {p : Nat} (h : s.sourceOf n = some (k, c, p)) :
    p < 16 := by
  have hf : field (s.v (Obj.axFbSource n)) 0 4 < 16 := by unfold field; omega
  unfold State.sourceOf srcOfWord at h
  dsimp only at h
  split at h <;> simp at h
  all_goals omega

theorem State.SameRegs.bitC (s : State) (c : Ch) {n e : Nat} (hn : n < 16) (he : e < 16) (b : Bool) :
    s.SameRegs (s.bitC c (Obj.cmpControl c n e) 3 b) := fun _ _ ho => State.g_setC_key _ _ _ _ (ho.ne c hn he)

theorem State.SameRegs.armEntries (s : State) (c : Ch) (n : Nat) (hn : n < 16) (d : Option Int) :
    s.SameRegs (s.armEntries c n d) := by
  unfold State.armEntries
  have key : ∀ (l : List (Nat × Int)) (s : State), (∀ p ∈ l, p.1 < 16) →
      s.SameRegs (Sys2Proof.Machine.forEach l s fun s p => s.bitC c (Obj.cmpControl c n p.1) 3 false) := by
    intro l
    unfold Sys2Proof.Machine.forEach
    induction l with
    | nil => exact fun s _ => .of_eq (Eq.refl _)
    | cons p l ih =>
      intro s h
      have h1 := State.SameRegs.bitC s c hn (h p (List.mem_cons_self ..)) false
      have h2 := ih (s.bitC c (Obj.cmpControl c n p.1) 3 false) fun q hq => h q (List.mem_cons_of_mem _ hq)
      exact h1.trans h2
  dsimp only
  refine (key _ s fun p hp => ?_).trans (t := Sys2Proof.Machine.forEach _ s _) (.of_eq (Eq.refl _))
  simp only [List.mem_filter, Bool.and_eq_true, decide_eq_true_eq] at hp
  exact hp.2.1

theorem State.SameRegs.syncBehind (s : State) : s.SameRegs s.syncBehind := by
  unfold State.syncBehind
  refine .forEach _ (fun s n => ?_) _ _
  split
  · next c p h =>
    have hp := State.sourceOf_lt s n h
    repeat' split
    all_goals first | exact .of_eq (Eq.refl _) | exact .armEntries _ _ _ hp _
  · exact .of_eq (Eq.refl _)

theorem State.dropPermits_regs (s : State) : s.dropPermits.regs = s.regs := rfl

theorem State.SameRegs.follow (s : State) : s.SameRegs s.follow := by
  have h1 : s.SameRegs s.beginTracking := .beginTracking s
  have h2 : s.SameRegs s.beginTracking.syncBehind := h1.trans (.syncBehind _)
  unfold State.follow
  generalize s.beginTracking.syncBehind = u at h2
  exact h2.trans (.of_eq (State.dropPermits_regs u))

-- the frame of a command

variable (s s' : State) (t : Nat)

@[simp] theorem State.after_now : (s.after t s').now = max s.now t := by
  unfold State.after; generalize (s.latchPassive s').follow = u; rfl
@[simp] theorem State.after_pending : (s.after t s').pending = s.pending := by
  unfold State.after; generalize (s.latchPassive s').follow = u; rfl
@[simp] theorem State.after_strs : (s.after t s').strs = s'.strs := by
  have h := (State.Same.follow (s.latchPassive s')).strs
  unfold State.after; generalize (s.latchPassive s').follow = u at h; exact h
@[simp] theorem State.after_arch : (s.after t s').arch = s'.arch := by
  have h := (State.Same.follow (s.latchPassive s')).arch
  unfold State.after; generalize (s.latchPassive s').follow = u at h; exact h
@[simp] theorem State.after_kdp : (s.after t s').kdp = s'.kdp := by
  have h := (State.Same.follow (s.latchPassive s')).kdp
  unfold State.after; generalize (s.latchPassive s').follow = u at h; exact h
@[simp] theorem State.after_ports : (s.after t s').ports = s'.ports := by
  have h := (State.Same.follow (s.latchPassive s')).ports
  unfold State.after; generalize (s.latchPassive s').follow = u at h; exact h
@[simp] theorem State.after_sems : (s.after t s').sems = s'.sems := by
  have h := (State.Same.follow (s.latchPassive s')).sems
  unfold State.after; generalize (s.latchPassive s').follow = u at h; exact h
@[simp] theorem State.after_convs : (s.after t s').convs = s'.convs := by
  have h := (State.Same.follow (s.latchPassive s')).convs
  unfold State.after; generalize (s.latchPassive s').follow = u at h; exact h
@[simp] theorem State.after_grps : (s.after t s').grps = s'.grps := by
  have h := (State.Same.follow (s.latchPassive s')).grps
  unfold State.after; generalize (s.latchPassive s').follow = u at h; exact h
@[simp] theorem State.after_diags : (s.after t s').diags = s'.diags := by
  have h := (State.Same.follow (s.latchPassive s')).diags
  unfold State.after; generalize (s.latchPassive s').follow = u at h; exact h
@[simp] theorem State.after_sports : (s.after t s').sports = s'.sports := by
  have h := (State.Same.follow (s.latchPassive s')).sports
  unfold State.after; generalize (s.latchPassive s').follow = u at h; exact h
@[simp] theorem State.after_trackers : (s.after t s').trackers = s'.trackers := by
  have h := (State.Same.follow (s.latchPassive s')).trackers
  unfold State.after; generalize (s.latchPassive s').follow = u at h; exact h
@[simp] theorem State.after_axes : (s.after t s').axes = s'.axes := by
  have h := (State.Same.follow (s.latchPassive s')).axes
  unfold State.after; generalize (s.latchPassive s').follow = u at h; exact h
@[simp] theorem State.after_tasks : (s.after t s').tasks = s'.tasks := by
  have h := (State.Same.follow (s.latchPassive s')).tasks
  unfold State.after; generalize (s.latchPassive s').follow = u at h; exact h
@[simp] theorem State.after_traces : (s.after t s').traces = s'.traces := by
  have h := (State.Same.follow (s.latchPassive s')).traces
  unfold State.after; generalize (s.latchPassive s').follow = u at h; exact h
@[simp] theorem State.after_drivers : (s.after t s').drivers = s'.drivers := by
  have h := (State.Same.follow (s.latchPassive s')).drivers
  unfold State.after; generalize (s.latchPassive s').follow = u at h; exact h
@[simp] theorem State.after_spis : (s.after t s').spis = s'.spis := by
  have h := (State.Same.follow (s.latchPassive s')).spis
  unfold State.after; generalize (s.latchPassive s').follow = u at h; exact h
@[simp] theorem State.after_objs : (s.after t s').objs = s'.objs := by
  have h := (State.Same.follow (s.latchPassive s')).objs
  unfold State.after; generalize (s.latchPassive s').follow = u at h; exact h
@[simp] theorem State.after_sed : (s.after t s').sed = s'.sed := by
  have h := (State.Same.follow (s.latchPassive s')).sed
  unfold State.after; generalize (s.latchPassive s').follow = u at h; exact h
@[simp] theorem State.after_place : (s.after t s').place = s'.place := by
  have h := (State.Same.follow (s.latchPassive s')).place
  unfold State.after; generalize (s.latchPassive s').follow = u at h; exact h
@[simp] theorem State.after_fab : (s.after t s').fab = s'.fab := by
  have h := (State.Same.follow (s.latchPassive s')).fab
  unfold State.after; generalize (s.latchPassive s').follow = u at h; exact h
@[simp] theorem State.after_twin : (s.after t s').twin = s'.twin := by
  have h := (State.Same.follow (s.latchPassive s')).twin
  unfold State.after; generalize (s.latchPassive s').follow = u at h; exact h
@[simp] theorem State.after_safe : (s.after t s').safe = s'.safe := by
  have h := (State.Same.follow (s.latchPassive s')).safe
  unfold State.after; generalize (s.latchPassive s').follow = u at h; exact h
@[simp] theorem State.after_power : (s.after t s').power = s'.power := by
  have h := (State.Same.follow (s.latchPassive s')).power
  unfold State.after; generalize (s.latchPassive s').follow = u at h; exact h
@[simp] theorem State.after_life : (s.after t s').life = s'.life := by
  have h := (State.Same.follow (s.latchPassive s')).life
  unfold State.after; generalize (s.latchPassive s').follow = u at h; exact h
@[simp] theorem State.after_su : (s.after t s').su = s'.su := by
  have h := (State.Same.follow (s.latchPassive s')).su
  unfold State.after; generalize (s.latchPassive s').follow = u at h; exact h
@[simp] theorem State.after_marks : (s.after t s').marks = s'.marks := by
  have h := (State.Same.follow (s.latchPassive s')).marks
  unfold State.after; generalize (s.latchPassive s').follow = u at h; exact h
@[simp] theorem State.after_used : (s.after t s').used = s'.used := by
  have h := (State.Same.follow (s.latchPassive s')).used
  unfold State.after; generalize (s.latchPassive s').follow = u at h; exact h

theorem State.after_red : (s.after t s').red =
    { s'.red with state := if s.red.state = .passive then .passive else s'.red.state } := by
  have h := (State.Same.follow (s.latchPassive s')).red
  unfold State.after; generalize (s.latchPassive s').follow = u at h; exact h

/-- Outside PASSIVE a command's effect decides the redundancy state. -/
theorem State.after_red_of (h : s.red.state ≠ .passive) : (s.after t s').red = s'.red := by
  rw [State.after_red, if_neg h]

@[simp] theorem State.after_inV : (s.after t s').red.inV = s'.red.inV := by rw [State.after_red]
@[simp] theorem State.after_faulty : (s.after t s').red.faulty = s'.red.faulty := by rw [State.after_red]
@[simp] theorem State.after_streams : (s.after t s').red.streams = s'.red.streams := by rw [State.after_red]

/-- A copy outside the compare lists and AG_LEAD is as the effect left it. -/
theorem State.after_g (c : Ch) {o : Obj} (h : o.offFollow) : (s.after t s').g c o = s'.g c o := by
  have h1 := State.SameRegs.follow (s.latchPassive s') c o h
  unfold State.after
  generalize (s.latchPassive s').follow = u at h1
  exact h1

theorem State.after_v {o : Obj} (h : o.offFollow) : (s.after t s').v o = s'.v o := by
  simp [State.v, State.after_g _ _ _ _ h]

end Sys2Proof.Machine
end

