-- ==== Sys2Proof/Laws/Frames.lean ====
section
/-! SUPPORT. What recording, plan triggers and the redundancy states leave alone. -/

namespace Sys2Proof.Machine

/-- What each step of a loop keeps of the state, the loop keeps. -/
theorem forEach_eq {α β : Type} (p : State → β) (f : State → α → State) (hf : ∀ s x, p (f s x) = p s) (l : List α)
    (s : State) : p (forEach l s f) = p s := by
  unfold forEach
  induction l generalizing s with
  | nil => rfl
  | cons x l ih => rw [List.foldl_cons, ih, hf]

theorem forEach_send {α β : Type} (p : State → β) (hp : ∀ s o, p (State.send s o) = p s) (g : α → Out) (l : List α)
    (s : State) : p (forEach l s fun s x => s.send (g x)) = p s := forEach_eq p _ (fun _ _ => hp _ _) l s

variable (s : State)

-- logC

@[simp] theorem State.logC_now (c : Ch) (a b : Nat) (l : List Byte) : (s.logC c a b l).now = s.now := by
  unfold State.logC; (try dsimp only); repeat' split
  all_goals rfl
@[simp] theorem State.logC_arch (c : Ch) (a b : Nat) (l : List Byte) : (s.logC c a b l).arch = s.arch := by
  unfold State.logC; (try dsimp only); repeat' split
  all_goals rfl
@[simp] theorem State.logC_kdp (c : Ch) (a b : Nat) (l : List Byte) : (s.logC c a b l).kdp = s.kdp := by
  unfold State.logC; (try dsimp only); repeat' split
  all_goals rfl
@[simp] theorem State.logC_ports (c : Ch) (a b : Nat) (l : List Byte) : (s.logC c a b l).ports = s.ports := by
  unfold State.logC; (try dsimp only); repeat' split
  all_goals rfl
@[simp] theorem State.logC_sems (c : Ch) (a b : Nat) (l : List Byte) : (s.logC c a b l).sems = s.sems := by
  unfold State.logC; (try dsimp only); repeat' split
  all_goals rfl
@[simp] theorem State.logC_convs (c : Ch) (a b : Nat) (l : List Byte) : (s.logC c a b l).convs = s.convs := by
  unfold State.logC; (try dsimp only); repeat' split
  all_goals rfl
@[simp] theorem State.logC_fports (c : Ch) (a b : Nat) (l : List Byte) : (s.logC c a b l).fports = s.fports := by
  unfold State.logC; (try dsimp only); repeat' split
  all_goals rfl
@[simp] theorem State.logC_sports (c : Ch) (a b : Nat) (l : List Byte) : (s.logC c a b l).sports = s.sports := by
  unfold State.logC; (try dsimp only); repeat' split
  all_goals rfl
@[simp] theorem State.logC_axes (c : Ch) (a b : Nat) (l : List Byte) : (s.logC c a b l).axes = s.axes := by
  unfold State.logC; (try dsimp only); repeat' split
  all_goals rfl
@[simp] theorem State.logC_gens (c : Ch) (a b : Nat) (l : List Byte) : (s.logC c a b l).gens = s.gens := by
  unfold State.logC; (try dsimp only); repeat' split
  all_goals rfl
@[simp] theorem State.logC_groups (c : Ch) (a b : Nat) (l : List Byte) : (s.logC c a b l).groups = s.groups := by
  unfold State.logC; (try dsimp only); repeat' split
  all_goals rfl
@[simp] theorem State.logC_tasks (c : Ch) (a b : Nat) (l : List Byte) : (s.logC c a b l).tasks = s.tasks := by
  unfold State.logC; (try dsimp only); repeat' split
  all_goals rfl
@[simp] theorem State.logC_traces (c : Ch) (a b : Nat) (l : List Byte) : (s.logC c a b l).traces = s.traces := by
  unfold State.logC; (try dsimp only); repeat' split
  all_goals rfl
@[simp] theorem State.logC_slots (c : Ch) (a b : Nat) (l : List Byte) : (s.logC c a b l).slots = s.slots := by
  unfold State.logC; (try dsimp only); repeat' split
  all_goals rfl
@[simp] theorem State.logC_arms (c : Ch) (a b : Nat) (l : List Byte) : (s.logC c a b l).arms = s.arms := by
  unfold State.logC; (try dsimp only); repeat' split
  all_goals rfl
@[simp] theorem State.logC_tests (c : Ch) (a b : Nat) (l : List Byte) : (s.logC c a b l).tests = s.tests := by
  unfold State.logC; (try dsimp only); repeat' split
  all_goals rfl
@[simp] theorem State.logC_red (c : Ch) (a b : Nat) (l : List Byte) : (s.logC c a b l).red = s.red := by
  unfold State.logC; (try dsimp only); repeat' split
  all_goals rfl
@[simp] theorem State.logC_place (c : Ch) (a b : Nat) (l : List Byte) : (s.logC c a b l).place = s.place := by
  unfold State.logC; (try dsimp only); repeat' split
  all_goals rfl
@[simp] theorem State.logC_fab (c : Ch) (a b : Nat) (l : List Byte) : (s.logC c a b l).fab = s.fab := by
  unfold State.logC; (try dsimp only); repeat' split
  all_goals rfl
@[simp] theorem State.logC_twin (c : Ch) (a b : Nat) (l : List Byte) : (s.logC c a b l).twin = s.twin := by
  unfold State.logC; (try dsimp only); repeat' split
  all_goals rfl
@[simp] theorem State.logC_safe (c : Ch) (a b : Nat) (l : List Byte) : (s.logC c a b l).safe = s.safe := by
  unfold State.logC; (try dsimp only); repeat' split
  all_goals rfl
@[simp] theorem State.logC_power (c : Ch) (a b : Nat) (l : List Byte) : (s.logC c a b l).power = s.power := by
  unfold State.logC; (try dsimp only); repeat' split
  all_goals rfl
@[simp] theorem State.logC_life (c : Ch) (a b : Nat) (l : List Byte) : (s.logC c a b l).life = s.life := by
  unfold State.logC; (try dsimp only); repeat' split
  all_goals rfl
@[simp] theorem State.logC_su (c : Ch) (a b : Nat) (l : List Byte) : (s.logC c a b l).su = s.su := by
  unfold State.logC; (try dsimp only); repeat' split
  all_goals rfl
@[simp] theorem State.logC_marks (c : Ch) (a b : Nat) (l : List Byte) : (s.logC c a b l).marks = s.marks := by
  unfold State.logC; (try dsimp only); repeat' split
  all_goals rfl
@[simp] theorem State.logC_sent (c : Ch) (a b : Nat) (l : List Byte) : (s.logC c a b l).sent = s.sent := by
  unfold State.logC; (try dsimp only); repeat' split
  all_goals rfl
@[simp] theorem State.logC_pending (c : Ch) (a b : Nat) (l : List Byte) : (s.logC c a b l).pending = s.pending := by
  unfold State.logC; (try dsimp only); repeat' split
  all_goals rfl

-- logDev

@[simp] theorem State.logDev_now (a b : Nat) (l : List Byte) : (s.logDev a b l).now = s.now := by
  unfold State.logDev; exact forEach_eq (fun s => s.now) _ (fun _ _ => by simp) _ _
@[simp] theorem State.logDev_arch (a b : Nat) (l : List Byte) : (s.logDev a b l).arch = s.arch := by
  unfold State.logDev; exact forEach_eq (fun s => s.arch) _ (fun _ _ => by simp) _ _
@[simp] theorem State.logDev_kdp (a b : Nat) (l : List Byte) : (s.logDev a b l).kdp = s.kdp := by
  unfold State.logDev; exact forEach_eq (fun s => s.kdp) _ (fun _ _ => by simp) _ _
@[simp] theorem State.logDev_ports (a b : Nat) (l : List Byte) : (s.logDev a b l).ports = s.ports := by
  unfold State.logDev; exact forEach_eq (fun s => s.ports) _ (fun _ _ => by simp) _ _
@[simp] theorem State.logDev_sems (a b : Nat) (l : List Byte) : (s.logDev a b l).sems = s.sems := by
  unfold State.logDev; exact forEach_eq (fun s => s.sems) _ (fun _ _ => by simp) _ _
@[simp] theorem State.logDev_convs (a b : Nat) (l : List Byte) : (s.logDev a b l).convs = s.convs := by
  unfold State.logDev; exact forEach_eq (fun s => s.convs) _ (fun _ _ => by simp) _ _
@[simp] theorem State.logDev_fports (a b : Nat) (l : List Byte) : (s.logDev a b l).fports = s.fports := by
  unfold State.logDev; exact forEach_eq (fun s => s.fports) _ (fun _ _ => by simp) _ _
@[simp] theorem State.logDev_sports (a b : Nat) (l : List Byte) : (s.logDev a b l).sports = s.sports := by
  unfold State.logDev; exact forEach_eq (fun s => s.sports) _ (fun _ _ => by simp) _ _
@[simp] theorem State.logDev_axes (a b : Nat) (l : List Byte) : (s.logDev a b l).axes = s.axes := by
  unfold State.logDev; exact forEach_eq (fun s => s.axes) _ (fun _ _ => by simp) _ _
@[simp] theorem State.logDev_gens (a b : Nat) (l : List Byte) : (s.logDev a b l).gens = s.gens := by
  unfold State.logDev; exact forEach_eq (fun s => s.gens) _ (fun _ _ => by simp) _ _
@[simp] theorem State.logDev_groups (a b : Nat) (l : List Byte) : (s.logDev a b l).groups = s.groups := by
  unfold State.logDev; exact forEach_eq (fun s => s.groups) _ (fun _ _ => by simp) _ _
@[simp] theorem State.logDev_tasks (a b : Nat) (l : List Byte) : (s.logDev a b l).tasks = s.tasks := by
  unfold State.logDev; exact forEach_eq (fun s => s.tasks) _ (fun _ _ => by simp) _ _
@[simp] theorem State.logDev_traces (a b : Nat) (l : List Byte) : (s.logDev a b l).traces = s.traces := by
  unfold State.logDev; exact forEach_eq (fun s => s.traces) _ (fun _ _ => by simp) _ _
@[simp] theorem State.logDev_slots (a b : Nat) (l : List Byte) : (s.logDev a b l).slots = s.slots := by
  unfold State.logDev; exact forEach_eq (fun s => s.slots) _ (fun _ _ => by simp) _ _
@[simp] theorem State.logDev_arms (a b : Nat) (l : List Byte) : (s.logDev a b l).arms = s.arms := by
  unfold State.logDev; exact forEach_eq (fun s => s.arms) _ (fun _ _ => by simp) _ _
@[simp] theorem State.logDev_tests (a b : Nat) (l : List Byte) : (s.logDev a b l).tests = s.tests := by
  unfold State.logDev; exact forEach_eq (fun s => s.tests) _ (fun _ _ => by simp) _ _
@[simp] theorem State.logDev_red (a b : Nat) (l : List Byte) : (s.logDev a b l).red = s.red := by
  unfold State.logDev; exact forEach_eq (fun s => s.red) _ (fun _ _ => by simp) _ _
@[simp] theorem State.logDev_place (a b : Nat) (l : List Byte) : (s.logDev a b l).place = s.place := by
  unfold State.logDev; exact forEach_eq (fun s => s.place) _ (fun _ _ => by simp) _ _
@[simp] theorem State.logDev_fab (a b : Nat) (l : List Byte) : (s.logDev a b l).fab = s.fab := by
  unfold State.logDev; exact forEach_eq (fun s => s.fab) _ (fun _ _ => by simp) _ _
@[simp] theorem State.logDev_twin (a b : Nat) (l : List Byte) : (s.logDev a b l).twin = s.twin := by
  unfold State.logDev; exact forEach_eq (fun s => s.twin) _ (fun _ _ => by simp) _ _
@[simp] theorem State.logDev_safe (a b : Nat) (l : List Byte) : (s.logDev a b l).safe = s.safe := by
  unfold State.logDev; exact forEach_eq (fun s => s.safe) _ (fun _ _ => by simp) _ _
@[simp] theorem State.logDev_power (a b : Nat) (l : List Byte) : (s.logDev a b l).power = s.power := by
  unfold State.logDev; exact forEach_eq (fun s => s.power) _ (fun _ _ => by simp) _ _
@[simp] theorem State.logDev_life (a b : Nat) (l : List Byte) : (s.logDev a b l).life = s.life := by
  unfold State.logDev; exact forEach_eq (fun s => s.life) _ (fun _ _ => by simp) _ _
@[simp] theorem State.logDev_su (a b : Nat) (l : List Byte) : (s.logDev a b l).su = s.su := by
  unfold State.logDev; exact forEach_eq (fun s => s.su) _ (fun _ _ => by simp) _ _
@[simp] theorem State.logDev_marks (a b : Nat) (l : List Byte) : (s.logDev a b l).marks = s.marks := by
  unfold State.logDev; exact forEach_eq (fun s => s.marks) _ (fun _ _ => by simp) _ _
@[simp] theorem State.logDev_sent (a b : Nat) (l : List Byte) : (s.logDev a b l).sent = s.sent := by
  unfold State.logDev; exact forEach_eq (fun s => s.sent) _ (fun _ _ => by simp) _ _
@[simp] theorem State.logDev_pending (a b : Nat) (l : List Byte) : (s.logDev a b l).pending = s.pending := by
  unfold State.logDev; exact forEach_eq (fun s => s.pending) _ (fun _ _ => by simp) _ _

-- startCopy

@[simp] theorem State.startCopy_now (c : Ch) (a : SedTrig) (x y : Bool) : (s.startCopy c a x y).now = s.now := by
  unfold State.startCopy; dsimp only; split
  · simp
  · rfl
@[simp] theorem State.startCopy_arch (c : Ch) (a : SedTrig) (x y : Bool) : (s.startCopy c a x y).arch = s.arch := by
  unfold State.startCopy; dsimp only; split
  · simp
  · rfl
@[simp] theorem State.startCopy_kdp (c : Ch) (a : SedTrig) (x y : Bool) : (s.startCopy c a x y).kdp = s.kdp := by
  unfold State.startCopy; dsimp only; split
  · simp
  · rfl
@[simp] theorem State.startCopy_ports (c : Ch) (a : SedTrig) (x y : Bool) : (s.startCopy c a x y).ports = s.ports := by
  unfold State.startCopy; dsimp only; split
  · simp
  · rfl
@[simp] theorem State.startCopy_sems (c : Ch) (a : SedTrig) (x y : Bool) : (s.startCopy c a x y).sems = s.sems := by
  unfold State.startCopy; dsimp only; split
  · simp
  · rfl
@[simp] theorem State.startCopy_convs (c : Ch) (a : SedTrig) (x y : Bool) : (s.startCopy c a x y).convs = s.convs := by
  unfold State.startCopy; dsimp only; split
  · simp
  · rfl
@[simp] theorem State.startCopy_fports (c : Ch) (a : SedTrig) (x y : Bool) : (s.startCopy c a x y).fports = s.fports := by
  unfold State.startCopy; dsimp only; split
  · simp
  · rfl
@[simp] theorem State.startCopy_sports (c : Ch) (a : SedTrig) (x y : Bool) : (s.startCopy c a x y).sports = s.sports := by
  unfold State.startCopy; dsimp only; split
  · simp
  · rfl
@[simp] theorem State.startCopy_axes (c : Ch) (a : SedTrig) (x y : Bool) : (s.startCopy c a x y).axes = s.axes := by
  unfold State.startCopy; dsimp only; split
  · simp
  · rfl
@[simp] theorem State.startCopy_gens (c : Ch) (a : SedTrig) (x y : Bool) : (s.startCopy c a x y).gens = s.gens := by
  unfold State.startCopy; dsimp only; split
  · simp
  · rfl
@[simp] theorem State.startCopy_groups (c : Ch) (a : SedTrig) (x y : Bool) : (s.startCopy c a x y).groups = s.groups := by
  unfold State.startCopy; dsimp only; split
  · simp
  · rfl
@[simp] theorem State.startCopy_tasks (c : Ch) (a : SedTrig) (x y : Bool) : (s.startCopy c a x y).tasks = s.tasks := by
  unfold State.startCopy; dsimp only; split
  · simp
  · rfl
@[simp] theorem State.startCopy_traces (c : Ch) (a : SedTrig) (x y : Bool) : (s.startCopy c a x y).traces = s.traces := by
  unfold State.startCopy; dsimp only; split
  · simp
  · rfl
@[simp] theorem State.startCopy_slots (c : Ch) (a : SedTrig) (x y : Bool) : (s.startCopy c a x y).slots = s.slots := by
  unfold State.startCopy; dsimp only; split
  · simp
  · rfl
@[simp] theorem State.startCopy_arms (c : Ch) (a : SedTrig) (x y : Bool) : (s.startCopy c a x y).arms = s.arms := by
  unfold State.startCopy; dsimp only; split
  · simp
  · rfl
@[simp] theorem State.startCopy_tests (c : Ch) (a : SedTrig) (x y : Bool) : (s.startCopy c a x y).tests = s.tests := by
  unfold State.startCopy; dsimp only; split
  · simp
  · rfl
@[simp] theorem State.startCopy_red (c : Ch) (a : SedTrig) (x y : Bool) : (s.startCopy c a x y).red = s.red := by
  unfold State.startCopy; dsimp only; split
  · simp
  · rfl
@[simp] theorem State.startCopy_place (c : Ch) (a : SedTrig) (x y : Bool) : (s.startCopy c a x y).place = s.place := by
  unfold State.startCopy; dsimp only; split
  · simp
  · rfl
@[simp] theorem State.startCopy_fab (c : Ch) (a : SedTrig) (x y : Bool) : (s.startCopy c a x y).fab = s.fab := by
  unfold State.startCopy; dsimp only; split
  · simp
  · rfl
@[simp] theorem State.startCopy_twin (c : Ch) (a : SedTrig) (x y : Bool) : (s.startCopy c a x y).twin = s.twin := by
  unfold State.startCopy; dsimp only; split
  · simp
  · rfl
@[simp] theorem State.startCopy_safe (c : Ch) (a : SedTrig) (x y : Bool) : (s.startCopy c a x y).safe = s.safe := by
  unfold State.startCopy; dsimp only; split
  · simp
  · rfl
@[simp] theorem State.startCopy_power (c : Ch) (a : SedTrig) (x y : Bool) : (s.startCopy c a x y).power = s.power := by
  unfold State.startCopy; dsimp only; split
  · simp
  · rfl
@[simp] theorem State.startCopy_life (c : Ch) (a : SedTrig) (x y : Bool) : (s.startCopy c a x y).life = s.life := by
  unfold State.startCopy; dsimp only; split
  · simp
  · rfl
@[simp] theorem State.startCopy_su (c : Ch) (a : SedTrig) (x y : Bool) : (s.startCopy c a x y).su = s.su := by
  unfold State.startCopy; dsimp only; split
  · simp
  · rfl
@[simp] theorem State.startCopy_marks (c : Ch) (a : SedTrig) (x y : Bool) : (s.startCopy c a x y).marks = s.marks := by
  unfold State.startCopy; dsimp only; split
  · simp
  · rfl
@[simp] theorem State.startCopy_sent (c : Ch) (a : SedTrig) (x y : Bool) : (s.startCopy c a x y).sent = s.sent := by
  unfold State.startCopy; dsimp only; split
  · simp
  · rfl
@[simp] theorem State.startCopy_pending (c : Ch) (a : SedTrig) (x y : Bool) : (s.startCopy c a x y).pending = s.pending := by
  unfold State.startCopy; dsimp only; split
  · simp
  · rfl

-- trigger

@[simp] theorem State.trigger_now (c : Ch) (a : Nat) : (s.trigger c a).now = s.now := by
  unfold State.trigger; (try dsimp only); repeat' split
  all_goals simp
@[simp] theorem State.trigger_arch (c : Ch) (a : Nat) : (s.trigger c a).arch = s.arch := by
  unfold State.trigger; (try dsimp only); repeat' split
  all_goals simp
@[simp] theorem State.trigger_kdp (c : Ch) (a : Nat) : (s.trigger c a).kdp = s.kdp := by
  unfold State.trigger; (try dsimp only); repeat' split
  all_goals simp
@[simp] theorem State.trigger_ports (c : Ch) (a : Nat) : (s.trigger c a).ports = s.ports := by
  unfold State.trigger; (try dsimp only); repeat' split
  all_goals simp
@[simp] theorem State.trigger_sems (c : Ch) (a : Nat) : (s.trigger c a).sems = s.sems := by
  unfold State.trigger; (try dsimp only); repeat' split
  all_goals simp
@[simp] theorem State.trigger_convs (c : Ch) (a : Nat) : (s.trigger c a).convs = s.convs := by
  unfold State.trigger; (try dsimp only); repeat' split
  all_goals simp
@[simp] theorem State.trigger_fports (c : Ch) (a : Nat) : (s.trigger c a).fports = s.fports := by
  unfold State.trigger; (try dsimp only); repeat' split
  all_goals simp
@[simp] theorem State.trigger_sports (c : Ch) (a : Nat) : (s.trigger c a).sports = s.sports := by
  unfold State.trigger; (try dsimp only); repeat' split
  all_goals simp
@[simp] theorem State.trigger_axes (c : Ch) (a : Nat) : (s.trigger c a).axes = s.axes := by
  unfold State.trigger; (try dsimp only); repeat' split
  all_goals simp
@[simp] theorem State.trigger_gens (c : Ch) (a : Nat) : (s.trigger c a).gens = s.gens := by
  unfold State.trigger; (try dsimp only); repeat' split
  all_goals simp
@[simp] theorem State.trigger_groups (c : Ch) (a : Nat) : (s.trigger c a).groups = s.groups := by
  unfold State.trigger; (try dsimp only); repeat' split
  all_goals simp
@[simp] theorem State.trigger_tasks (c : Ch) (a : Nat) : (s.trigger c a).tasks = s.tasks := by
  unfold State.trigger; (try dsimp only); repeat' split
  all_goals simp
@[simp] theorem State.trigger_traces (c : Ch) (a : Nat) : (s.trigger c a).traces = s.traces := by
  unfold State.trigger; (try dsimp only); repeat' split
  all_goals simp
@[simp] theorem State.trigger_slots (c : Ch) (a : Nat) : (s.trigger c a).slots = s.slots := by
  unfold State.trigger; (try dsimp only); repeat' split
  all_goals simp
@[simp] theorem State.trigger_arms (c : Ch) (a : Nat) : (s.trigger c a).arms = s.arms := by
  unfold State.trigger; (try dsimp only); repeat' split
  all_goals simp
@[simp] theorem State.trigger_tests (c : Ch) (a : Nat) : (s.trigger c a).tests = s.tests := by
  unfold State.trigger; (try dsimp only); repeat' split
  all_goals simp
@[simp] theorem State.trigger_red (c : Ch) (a : Nat) : (s.trigger c a).red = s.red := by
  unfold State.trigger; (try dsimp only); repeat' split
  all_goals simp
@[simp] theorem State.trigger_place (c : Ch) (a : Nat) : (s.trigger c a).place = s.place := by
  unfold State.trigger; (try dsimp only); repeat' split
  all_goals simp
@[simp] theorem State.trigger_fab (c : Ch) (a : Nat) : (s.trigger c a).fab = s.fab := by
  unfold State.trigger; (try dsimp only); repeat' split
  all_goals simp
@[simp] theorem State.trigger_twin (c : Ch) (a : Nat) : (s.trigger c a).twin = s.twin := by
  unfold State.trigger; (try dsimp only); repeat' split
  all_goals simp
@[simp] theorem State.trigger_safe (c : Ch) (a : Nat) : (s.trigger c a).safe = s.safe := by
  unfold State.trigger; (try dsimp only); repeat' split
  all_goals simp
@[simp] theorem State.trigger_power (c : Ch) (a : Nat) : (s.trigger c a).power = s.power := by
  unfold State.trigger; (try dsimp only); repeat' split
  all_goals simp
@[simp] theorem State.trigger_life (c : Ch) (a : Nat) : (s.trigger c a).life = s.life := by
  unfold State.trigger; (try dsimp only); repeat' split
  all_goals simp
@[simp] theorem State.trigger_su (c : Ch) (a : Nat) : (s.trigger c a).su = s.su := by
  unfold State.trigger; (try dsimp only); repeat' split
  all_goals simp
@[simp] theorem State.trigger_marks (c : Ch) (a : Nat) : (s.trigger c a).marks = s.marks := by
  unfold State.trigger; (try dsimp only); repeat' split
  all_goals simp
@[simp] theorem State.trigger_sent (c : Ch) (a : Nat) : (s.trigger c a).sent = s.sent := by
  unfold State.trigger; (try dsimp only); repeat' split
  all_goals simp
@[simp] theorem State.trigger_pending (c : Ch) (a : Nat) : (s.trigger c a).pending = s.pending := by
  unfold State.trigger; (try dsimp only); repeat' split
  all_goals simp

-- triggerAll

@[simp] theorem State.triggerAll_now (a : Nat) : (s.triggerAll a).now = s.now := by
  unfold State.triggerAll; exact forEach_eq (fun s => s.now) _ (fun _ _ => by simp) _ _
@[simp] theorem State.triggerAll_arch (a : Nat) : (s.triggerAll a).arch = s.arch := by
  unfold State.triggerAll; exact forEach_eq (fun s => s.arch) _ (fun _ _ => by simp) _ _
@[simp] theorem State.triggerAll_kdp (a : Nat) : (s.triggerAll a).kdp = s.kdp := by
  unfold State.triggerAll; exact forEach_eq (fun s => s.kdp) _ (fun _ _ => by simp) _ _
@[simp] theorem State.triggerAll_ports (a : Nat) : (s.triggerAll a).ports = s.ports := by
  unfold State.triggerAll; exact forEach_eq (fun s => s.ports) _ (fun _ _ => by simp) _ _
@[simp] theorem State.triggerAll_sems (a : Nat) : (s.triggerAll a).sems = s.sems := by
  unfold State.triggerAll; exact forEach_eq (fun s => s.sems) _ (fun _ _ => by simp) _ _
@[simp] theorem State.triggerAll_convs (a : Nat) : (s.triggerAll a).convs = s.convs := by
  unfold State.triggerAll; exact forEach_eq (fun s => s.convs) _ (fun _ _ => by simp) _ _
@[simp] theorem State.triggerAll_fports (a : Nat) : (s.triggerAll a).fports = s.fports := by
  unfold State.triggerAll; exact forEach_eq (fun s => s.fports) _ (fun _ _ => by simp) _ _
@[simp] theorem State.triggerAll_sports (a : Nat) : (s.triggerAll a).sports = s.sports := by
  unfold State.triggerAll; exact forEach_eq (fun s => s.sports) _ (fun _ _ => by simp) _ _
@[simp] theorem State.triggerAll_axes (a : Nat) : (s.triggerAll a).axes = s.axes := by
  unfold State.triggerAll; exact forEach_eq (fun s => s.axes) _ (fun _ _ => by simp) _ _
@[simp] theorem State.triggerAll_gens (a : Nat) : (s.triggerAll a).gens = s.gens := by
  unfold State.triggerAll; exact forEach_eq (fun s => s.gens) _ (fun _ _ => by simp) _ _
@[simp] theorem State.triggerAll_groups (a : Nat) : (s.triggerAll a).groups = s.groups := by
  unfold State.triggerAll; exact forEach_eq (fun s => s.groups) _ (fun _ _ => by simp) _ _
@[simp] theorem State.triggerAll_tasks (a : Nat) : (s.triggerAll a).tasks = s.tasks := by
  unfold State.triggerAll; exact forEach_eq (fun s => s.tasks) _ (fun _ _ => by simp) _ _
@[simp] theorem State.triggerAll_traces (a : Nat) : (s.triggerAll a).traces = s.traces := by
  unfold State.triggerAll; exact forEach_eq (fun s => s.traces) _ (fun _ _ => by simp) _ _
@[simp] theorem State.triggerAll_slots (a : Nat) : (s.triggerAll a).slots = s.slots := by
  unfold State.triggerAll; exact forEach_eq (fun s => s.slots) _ (fun _ _ => by simp) _ _
@[simp] theorem State.triggerAll_arms (a : Nat) : (s.triggerAll a).arms = s.arms := by
  unfold State.triggerAll; exact forEach_eq (fun s => s.arms) _ (fun _ _ => by simp) _ _
@[simp] theorem State.triggerAll_tests (a : Nat) : (s.triggerAll a).tests = s.tests := by
  unfold State.triggerAll; exact forEach_eq (fun s => s.tests) _ (fun _ _ => by simp) _ _
@[simp] theorem State.triggerAll_red (a : Nat) : (s.triggerAll a).red = s.red := by
  unfold State.triggerAll; exact forEach_eq (fun s => s.red) _ (fun _ _ => by simp) _ _
@[simp] theorem State.triggerAll_place (a : Nat) : (s.triggerAll a).place = s.place := by
  unfold State.triggerAll; exact forEach_eq (fun s => s.place) _ (fun _ _ => by simp) _ _
@[simp] theorem State.triggerAll_fab (a : Nat) : (s.triggerAll a).fab = s.fab := by
  unfold State.triggerAll; exact forEach_eq (fun s => s.fab) _ (fun _ _ => by simp) _ _
@[simp] theorem State.triggerAll_twin (a : Nat) : (s.triggerAll a).twin = s.twin := by
  unfold State.triggerAll; exact forEach_eq (fun s => s.twin) _ (fun _ _ => by simp) _ _
@[simp] theorem State.triggerAll_safe (a : Nat) : (s.triggerAll a).safe = s.safe := by
  unfold State.triggerAll; exact forEach_eq (fun s => s.safe) _ (fun _ _ => by simp) _ _
@[simp] theorem State.triggerAll_power (a : Nat) : (s.triggerAll a).power = s.power := by
  unfold State.triggerAll; exact forEach_eq (fun s => s.power) _ (fun _ _ => by simp) _ _
@[simp] theorem State.triggerAll_life (a : Nat) : (s.triggerAll a).life = s.life := by
  unfold State.triggerAll; exact forEach_eq (fun s => s.life) _ (fun _ _ => by simp) _ _
@[simp] theorem State.triggerAll_su (a : Nat) : (s.triggerAll a).su = s.su := by
  unfold State.triggerAll; exact forEach_eq (fun s => s.su) _ (fun _ _ => by simp) _ _
@[simp] theorem State.triggerAll_marks (a : Nat) : (s.triggerAll a).marks = s.marks := by
  unfold State.triggerAll; exact forEach_eq (fun s => s.marks) _ (fun _ _ => by simp) _ _
@[simp] theorem State.triggerAll_sent (a : Nat) : (s.triggerAll a).sent = s.sent := by
  unfold State.triggerAll; exact forEach_eq (fun s => s.sent) _ (fun _ _ => by simp) _ _
@[simp] theorem State.triggerAll_pending (a : Nat) : (s.triggerAll a).pending = s.pending := by
  unfold State.triggerAll; exact forEach_eq (fun s => s.pending) _ (fun _ _ => by simp) _ _

-- health

@[simp] theorem State.health_now (a b : Nat) : (s.health a b).now = s.now := rfl
@[simp] theorem State.health_arch (a b : Nat) : (s.health a b).arch = s.arch := rfl
@[simp] theorem State.health_kdp (a b : Nat) : (s.health a b).kdp = s.kdp := rfl
@[simp] theorem State.health_ports (a b : Nat) : (s.health a b).ports = s.ports := rfl
@[simp] theorem State.health_sems (a b : Nat) : (s.health a b).sems = s.sems := rfl
@[simp] theorem State.health_convs (a b : Nat) : (s.health a b).convs = s.convs := rfl
@[simp] theorem State.health_fports (a b : Nat) : (s.health a b).fports = s.fports := rfl
@[simp] theorem State.health_sports (a b : Nat) : (s.health a b).sports = s.sports := rfl
@[simp] theorem State.health_axes (a b : Nat) : (s.health a b).axes = s.axes := rfl
@[simp] theorem State.health_gens (a b : Nat) : (s.health a b).gens = s.gens := rfl
@[simp] theorem State.health_groups (a b : Nat) : (s.health a b).groups = s.groups := rfl
@[simp] theorem State.health_tasks (a b : Nat) : (s.health a b).tasks = s.tasks := rfl
@[simp] theorem State.health_traces (a b : Nat) : (s.health a b).traces = s.traces := rfl
@[simp] theorem State.health_slots (a b : Nat) : (s.health a b).slots = s.slots := rfl
@[simp] theorem State.health_arms (a b : Nat) : (s.health a b).arms = s.arms := rfl
@[simp] theorem State.health_tests (a b : Nat) : (s.health a b).tests = s.tests := rfl
@[simp] theorem State.health_red (a b : Nat) : (s.health a b).red = s.red := rfl
@[simp] theorem State.health_sed (a b : Nat) : (s.health a b).sed = s.sed := rfl
@[simp] theorem State.health_place (a b : Nat) : (s.health a b).place = s.place := rfl
@[simp] theorem State.health_fab (a b : Nat) : (s.health a b).fab = s.fab := rfl
@[simp] theorem State.health_twin (a b : Nat) : (s.health a b).twin = s.twin := rfl
@[simp] theorem State.health_safe (a b : Nat) : (s.health a b).safe = s.safe := rfl
@[simp] theorem State.health_power (a b : Nat) : (s.health a b).power = s.power := rfl
@[simp] theorem State.health_life (a b : Nat) : (s.health a b).life = s.life := rfl
@[simp] theorem State.health_su (a b : Nat) : (s.health a b).su = s.su := rfl
@[simp] theorem State.health_marks (a b : Nat) : (s.health a b).marks = s.marks := rfl
@[simp] theorem State.health_pending (a b : Nat) : (s.health a b).pending = s.pending := rfl
@[simp] theorem State.health_regs (a b : Nat) : (s.health a b).regs = s.regs := rfl

-- planTrigger

@[simp] theorem State.planTrigger_now (a : Nat) : (s.planTrigger a).now = s.now := by
  unfold State.planTrigger; (try dsimp only); repeat' split
  all_goals rfl
@[simp] theorem State.planTrigger_arch (a : Nat) : (s.planTrigger a).arch = s.arch := by
  unfold State.planTrigger; (try dsimp only); repeat' split
  all_goals rfl
@[simp] theorem State.planTrigger_kdp (a : Nat) : (s.planTrigger a).kdp = s.kdp := by
  unfold State.planTrigger; (try dsimp only); repeat' split
  all_goals rfl
@[simp] theorem State.planTrigger_ports (a : Nat) : (s.planTrigger a).ports = s.ports := by
  unfold State.planTrigger; (try dsimp only); repeat' split
  all_goals rfl
@[simp] theorem State.planTrigger_sems (a : Nat) : (s.planTrigger a).sems = s.sems := by
  unfold State.planTrigger; (try dsimp only); repeat' split
  all_goals rfl
@[simp] theorem State.planTrigger_convs (a : Nat) : (s.planTrigger a).convs = s.convs := by
  unfold State.planTrigger; (try dsimp only); repeat' split
  all_goals rfl
@[simp] theorem State.planTrigger_fports (a : Nat) : (s.planTrigger a).fports = s.fports := by
  unfold State.planTrigger; (try dsimp only); repeat' split
  all_goals rfl
@[simp] theorem State.planTrigger_sports (a : Nat) : (s.planTrigger a).sports = s.sports := by
  unfold State.planTrigger; (try dsimp only); repeat' split
  all_goals rfl
@[simp] theorem State.planTrigger_axes (a : Nat) : (s.planTrigger a).axes = s.axes := by
  unfold State.planTrigger; (try dsimp only); repeat' split
  all_goals rfl
@[simp] theorem State.planTrigger_gens (a : Nat) : (s.planTrigger a).gens = s.gens := by
  unfold State.planTrigger; (try dsimp only); repeat' split
  all_goals rfl
@[simp] theorem State.planTrigger_groups (a : Nat) : (s.planTrigger a).groups = s.groups := by
  unfold State.planTrigger; (try dsimp only); repeat' split
  all_goals rfl
@[simp] theorem State.planTrigger_tasks (a : Nat) : (s.planTrigger a).tasks = s.tasks := by
  unfold State.planTrigger; (try dsimp only); repeat' split
  all_goals rfl
@[simp] theorem State.planTrigger_traces (a : Nat) : (s.planTrigger a).traces = s.traces := by
  unfold State.planTrigger; (try dsimp only); repeat' split
  all_goals rfl
@[simp] theorem State.planTrigger_slots (a : Nat) : (s.planTrigger a).slots = s.slots := by
  unfold State.planTrigger; (try dsimp only); repeat' split
  all_goals rfl
@[simp] theorem State.planTrigger_arms (a : Nat) : (s.planTrigger a).arms = s.arms := by
  unfold State.planTrigger; (try dsimp only); repeat' split
  all_goals rfl
@[simp] theorem State.planTrigger_tests (a : Nat) : (s.planTrigger a).tests = s.tests := by
  unfold State.planTrigger; (try dsimp only); repeat' split
  all_goals rfl
@[simp] theorem State.planTrigger_red (a : Nat) : (s.planTrigger a).red = s.red := by
  unfold State.planTrigger; (try dsimp only); repeat' split
  all_goals rfl
@[simp] theorem State.planTrigger_sed (a : Nat) : (s.planTrigger a).sed = s.sed := by
  unfold State.planTrigger; (try dsimp only); repeat' split
  all_goals rfl
@[simp] theorem State.planTrigger_fab (a : Nat) : (s.planTrigger a).fab = s.fab := by
  unfold State.planTrigger; (try dsimp only); repeat' split
  all_goals rfl
@[simp] theorem State.planTrigger_twin (a : Nat) : (s.planTrigger a).twin = s.twin := by
  unfold State.planTrigger; (try dsimp only); repeat' split
  all_goals rfl
@[simp] theorem State.planTrigger_safe (a : Nat) : (s.planTrigger a).safe = s.safe := by
  unfold State.planTrigger; (try dsimp only); repeat' split
  all_goals rfl
@[simp] theorem State.planTrigger_power (a : Nat) : (s.planTrigger a).power = s.power := by
  unfold State.planTrigger; (try dsimp only); repeat' split
  all_goals rfl
@[simp] theorem State.planTrigger_life (a : Nat) : (s.planTrigger a).life = s.life := by
  unfold State.planTrigger; (try dsimp only); repeat' split
  all_goals rfl
@[simp] theorem State.planTrigger_su (a : Nat) : (s.planTrigger a).su = s.su := by
  unfold State.planTrigger; (try dsimp only); repeat' split
  all_goals rfl
@[simp] theorem State.planTrigger_marks (a : Nat) : (s.planTrigger a).marks = s.marks := by
  unfold State.planTrigger; (try dsimp only); repeat' split
  all_goals rfl
@[simp] theorem State.planTrigger_sent (a : Nat) : (s.planTrigger a).sent = s.sent := by
  unfold State.planTrigger; (try dsimp only); repeat' split
  all_goals rfl
@[simp] theorem State.planTrigger_pending (a : Nat) : (s.planTrigger a).pending = s.pending := by
  unfold State.planTrigger; (try dsimp only); repeat' split
  all_goals rfl
@[simp] theorem State.planTrigger_regs (a : Nat) : (s.planTrigger a).regs = s.regs := by
  unfold State.planTrigger; (try dsimp only); repeat' split
  all_goals rfl

-- checkHealth

@[simp] theorem State.checkHealth_now : (s.checkHealth).now = s.now := by
  unfold State.checkHealth; split <;> simp
@[simp] theorem State.checkHealth_arch : (s.checkHealth).arch = s.arch := by
  unfold State.checkHealth; split <;> simp
@[simp] theorem State.checkHealth_kdp : (s.checkHealth).kdp = s.kdp := by
  unfold State.checkHealth; split <;> simp
@[simp] theorem State.checkHealth_ports : (s.checkHealth).ports = s.ports := by
  unfold State.checkHealth; split <;> simp
@[simp] theorem State.checkHealth_sems : (s.checkHealth).sems = s.sems := by
  unfold State.checkHealth; split <;> simp
@[simp] theorem State.checkHealth_convs : (s.checkHealth).convs = s.convs := by
  unfold State.checkHealth; split <;> simp
@[simp] theorem State.checkHealth_fports : (s.checkHealth).fports = s.fports := by
  unfold State.checkHealth; split <;> simp
@[simp] theorem State.checkHealth_sports : (s.checkHealth).sports = s.sports := by
  unfold State.checkHealth; split <;> simp
@[simp] theorem State.checkHealth_axes : (s.checkHealth).axes = s.axes := by
  unfold State.checkHealth; split <;> simp
@[simp] theorem State.checkHealth_gens : (s.checkHealth).gens = s.gens := by
  unfold State.checkHealth; split <;> simp
@[simp] theorem State.checkHealth_groups : (s.checkHealth).groups = s.groups := by
  unfold State.checkHealth; split <;> simp
@[simp] theorem State.checkHealth_tasks : (s.checkHealth).tasks = s.tasks := by
  unfold State.checkHealth; split <;> simp
@[simp] theorem State.checkHealth_traces : (s.checkHealth).traces = s.traces := by
  unfold State.checkHealth; split <;> simp
@[simp] theorem State.checkHealth_slots : (s.checkHealth).slots = s.slots := by
  unfold State.checkHealth; split <;> simp
@[simp] theorem State.checkHealth_arms : (s.checkHealth).arms = s.arms := by
  unfold State.checkHealth; split <;> simp
@[simp] theorem State.checkHealth_tests : (s.checkHealth).tests = s.tests := by
  unfold State.checkHealth; split <;> simp
@[simp] theorem State.checkHealth_red : (s.checkHealth).red = s.red := by
  unfold State.checkHealth; split <;> simp
@[simp] theorem State.checkHealth_sed : (s.checkHealth).sed = s.sed := by
  unfold State.checkHealth; split <;> simp
@[simp] theorem State.checkHealth_fab : (s.checkHealth).fab = s.fab := by
  unfold State.checkHealth; split <;> simp
@[simp] theorem State.checkHealth_twin : (s.checkHealth).twin = s.twin := by
  unfold State.checkHealth; split <;> simp
@[simp] theorem State.checkHealth_safe : (s.checkHealth).safe = s.safe := by
  unfold State.checkHealth; split <;> simp
@[simp] theorem State.checkHealth_power : (s.checkHealth).power = s.power := by
  unfold State.checkHealth; split <;> simp
@[simp] theorem State.checkHealth_life : (s.checkHealth).life = s.life := by
  unfold State.checkHealth; split <;> simp
@[simp] theorem State.checkHealth_su : (s.checkHealth).su = s.su := by
  unfold State.checkHealth; split <;> simp
@[simp] theorem State.checkHealth_marks : (s.checkHealth).marks = s.marks := by
  unfold State.checkHealth; split <;> simp
@[simp] theorem State.checkHealth_sent : (s.checkHealth).sent = s.sent := by
  unfold State.checkHealth; split <;> simp
@[simp] theorem State.checkHealth_pending : (s.checkHealth).pending = s.pending := by
  unfold State.checkHealth; split <;> simp
@[simp] theorem State.checkHealth_regs : (s.checkHealth).regs = s.regs := by
  unfold State.checkHealth; split <;> simp

-- penalize

@[simp] theorem State.penalize_now (c : Ch) (e x y : Nat) : (s.penalize c e x y).now = s.now := by
  unfold State.penalize; simp
@[simp] theorem State.penalize_arch (c : Ch) (e x y : Nat) : (s.penalize c e x y).arch = s.arch := by
  unfold State.penalize; simp
@[simp] theorem State.penalize_kdp (c : Ch) (e x y : Nat) : (s.penalize c e x y).kdp = s.kdp := by
  unfold State.penalize; simp
@[simp] theorem State.penalize_ports (c : Ch) (e x y : Nat) : (s.penalize c e x y).ports = s.ports := by
  unfold State.penalize; simp
@[simp] theorem State.penalize_sems (c : Ch) (e x y : Nat) : (s.penalize c e x y).sems = s.sems := by
  unfold State.penalize; simp
@[simp] theorem State.penalize_convs (c : Ch) (e x y : Nat) : (s.penalize c e x y).convs = s.convs := by
  unfold State.penalize; simp
@[simp] theorem State.penalize_fports (c : Ch) (e x y : Nat) : (s.penalize c e x y).fports = s.fports := by
  unfold State.penalize; simp
@[simp] theorem State.penalize_sports (c : Ch) (e x y : Nat) : (s.penalize c e x y).sports = s.sports := by
  unfold State.penalize; simp
@[simp] theorem State.penalize_axes (c : Ch) (e x y : Nat) : (s.penalize c e x y).axes = s.axes := by
  unfold State.penalize; simp
@[simp] theorem State.penalize_gens (c : Ch) (e x y : Nat) : (s.penalize c e x y).gens = s.gens := by
  unfold State.penalize; simp
@[simp] theorem State.penalize_groups (c : Ch) (e x y : Nat) : (s.penalize c e x y).groups = s.groups := by
  unfold State.penalize; simp
@[simp] theorem State.penalize_tasks (c : Ch) (e x y : Nat) : (s.penalize c e x y).tasks = s.tasks := by
  unfold State.penalize; simp
@[simp] theorem State.penalize_traces (c : Ch) (e x y : Nat) : (s.penalize c e x y).traces = s.traces := by
  unfold State.penalize; simp
@[simp] theorem State.penalize_slots (c : Ch) (e x y : Nat) : (s.penalize c e x y).slots = s.slots := by
  unfold State.penalize; simp
@[simp] theorem State.penalize_arms (c : Ch) (e x y : Nat) : (s.penalize c e x y).arms = s.arms := by
  unfold State.penalize; simp
@[simp] theorem State.penalize_tests (c : Ch) (e x y : Nat) : (s.penalize c e x y).tests = s.tests := by
  unfold State.penalize; simp
@[simp] theorem State.penalize_red (c : Ch) (e x y : Nat) : (s.penalize c e x y).red = s.red := by
  unfold State.penalize; simp
@[simp] theorem State.penalize_sed (c : Ch) (e x y : Nat) : (s.penalize c e x y).sed = s.sed := by
  unfold State.penalize; simp
@[simp] theorem State.penalize_fab (c : Ch) (e x y : Nat) : (s.penalize c e x y).fab = s.fab := by
  unfold State.penalize; simp
@[simp] theorem State.penalize_twin (c : Ch) (e x y : Nat) : (s.penalize c e x y).twin = s.twin := by
  unfold State.penalize; simp
@[simp] theorem State.penalize_safe (c : Ch) (e x y : Nat) : (s.penalize c e x y).safe = s.safe := by
  unfold State.penalize; simp
@[simp] theorem State.penalize_power (c : Ch) (e x y : Nat) : (s.penalize c e x y).power = s.power := by
  unfold State.penalize; simp
@[simp] theorem State.penalize_life (c : Ch) (e x y : Nat) : (s.penalize c e x y).life = s.life := by
  unfold State.penalize; simp
@[simp] theorem State.penalize_su (c : Ch) (e x y : Nat) : (s.penalize c e x y).su = s.su := by
  unfold State.penalize; simp
@[simp] theorem State.penalize_marks (c : Ch) (e x y : Nat) : (s.penalize c e x y).marks = s.marks := by
  unfold State.penalize; simp
@[simp] theorem State.penalize_sent (c : Ch) (e x y : Nat) : (s.penalize c e x y).sent = s.sent := by
  unfold State.penalize; simp
@[simp] theorem State.penalize_pending (c : Ch) (e x y : Nat) : (s.penalize c e x y).pending = s.pending := by
  unfold State.penalize; simp
@[simp] theorem State.penalize_regs (c : Ch) (e x y : Nat) : (s.penalize c e x y).regs = s.regs := by
  unfold State.penalize; simp

-- stopTrace

@[simp] theorem State.stopTrace_now (k a : Nat) : (s.stopTrace k a).now = s.now := rfl
@[simp] theorem State.stopTrace_arch (k a : Nat) : (s.stopTrace k a).arch = s.arch := rfl
@[simp] theorem State.stopTrace_kdp (k a : Nat) : (s.stopTrace k a).kdp = s.kdp := rfl
@[simp] theorem State.stopTrace_ports (k a : Nat) : (s.stopTrace k a).ports = s.ports := rfl
@[simp] theorem State.stopTrace_sems (k a : Nat) : (s.stopTrace k a).sems = s.sems := rfl
@[simp] theorem State.stopTrace_convs (k a : Nat) : (s.stopTrace k a).convs = s.convs := rfl
@[simp] theorem State.stopTrace_fports (k a : Nat) : (s.stopTrace k a).fports = s.fports := rfl
@[simp] theorem State.stopTrace_sports (k a : Nat) : (s.stopTrace k a).sports = s.sports := rfl
@[simp] theorem State.stopTrace_axes (k a : Nat) : (s.stopTrace k a).axes = s.axes := rfl
@[simp] theorem State.stopTrace_gens (k a : Nat) : (s.stopTrace k a).gens = s.gens := rfl
@[simp] theorem State.stopTrace_groups (k a : Nat) : (s.stopTrace k a).groups = s.groups := rfl
@[simp] theorem State.stopTrace_tasks (k a : Nat) : (s.stopTrace k a).tasks = s.tasks := rfl
@[simp] theorem State.stopTrace_slots (k a : Nat) : (s.stopTrace k a).slots = s.slots := rfl
@[simp] theorem State.stopTrace_arms (k a : Nat) : (s.stopTrace k a).arms = s.arms := rfl
@[simp] theorem State.stopTrace_tests (k a : Nat) : (s.stopTrace k a).tests = s.tests := rfl
@[simp] theorem State.stopTrace_red (k a : Nat) : (s.stopTrace k a).red = s.red := rfl
@[simp] theorem State.stopTrace_sed (k a : Nat) : (s.stopTrace k a).sed = s.sed := rfl
@[simp] theorem State.stopTrace_place (k a : Nat) : (s.stopTrace k a).place = s.place := rfl
@[simp] theorem State.stopTrace_fab (k a : Nat) : (s.stopTrace k a).fab = s.fab := rfl
@[simp] theorem State.stopTrace_twin (k a : Nat) : (s.stopTrace k a).twin = s.twin := rfl
@[simp] theorem State.stopTrace_safe (k a : Nat) : (s.stopTrace k a).safe = s.safe := rfl
@[simp] theorem State.stopTrace_power (k a : Nat) : (s.stopTrace k a).power = s.power := rfl
@[simp] theorem State.stopTrace_life (k a : Nat) : (s.stopTrace k a).life = s.life := rfl
@[simp] theorem State.stopTrace_su (k a : Nat) : (s.stopTrace k a).su = s.su := rfl
@[simp] theorem State.stopTrace_marks (k a : Nat) : (s.stopTrace k a).marks = s.marks := rfl
@[simp] theorem State.stopTrace_sent (k a : Nat) : (s.stopTrace k a).sent = s.sent := rfl
@[simp] theorem State.stopTrace_pending (k a : Nat) : (s.stopTrace k a).pending = s.pending := rfl
@[simp] theorem State.stopTrace_regs (k a : Nat) : (s.stopTrace k a).regs = s.regs := rfl

-- stopTasks

@[simp] theorem State.stopTasks_now (a : Nat) : (s.stopTasks a).now = s.now := by
  unfold State.stopTasks; dsimp only
  exact (forEach_eq (fun s => s.now) _ (fun _ _ => by simp) _ _).trans (forEach_eq (fun s => s.now) _ (fun _ _ => by simp) _ _)
@[simp] theorem State.stopTasks_arch (a : Nat) : (s.stopTasks a).arch = s.arch := by
  unfold State.stopTasks; dsimp only
  exact (forEach_eq (fun s => s.arch) _ (fun _ _ => by simp) _ _).trans (forEach_eq (fun s => s.arch) _ (fun _ _ => by simp) _ _)
@[simp] theorem State.stopTasks_kdp (a : Nat) : (s.stopTasks a).kdp = s.kdp := by
  unfold State.stopTasks; dsimp only
  exact (forEach_eq (fun s => s.kdp) _ (fun _ _ => by simp) _ _).trans (forEach_eq (fun s => s.kdp) _ (fun _ _ => by simp) _ _)
@[simp] theorem State.stopTasks_ports (a : Nat) : (s.stopTasks a).ports = s.ports := by
  unfold State.stopTasks; dsimp only
  exact (forEach_eq (fun s => s.ports) _ (fun _ _ => by simp) _ _).trans (forEach_eq (fun s => s.ports) _ (fun _ _ => by simp) _ _)
@[simp] theorem State.stopTasks_sems (a : Nat) : (s.stopTasks a).sems = s.sems := by
  unfold State.stopTasks; dsimp only
  exact (forEach_eq (fun s => s.sems) _ (fun _ _ => by simp) _ _).trans (forEach_eq (fun s => s.sems) _ (fun _ _ => by simp) _ _)
@[simp] theorem State.stopTasks_convs (a : Nat) : (s.stopTasks a).convs = s.convs := by
  unfold State.stopTasks; dsimp only
  exact (forEach_eq (fun s => s.convs) _ (fun _ _ => by simp) _ _).trans (forEach_eq (fun s => s.convs) _ (fun _ _ => by simp) _ _)
@[simp] theorem State.stopTasks_fports (a : Nat) : (s.stopTasks a).fports = s.fports := by
  unfold State.stopTasks; dsimp only
  exact (forEach_eq (fun s => s.fports) _ (fun _ _ => by simp) _ _).trans (forEach_eq (fun s => s.fports) _ (fun _ _ => by simp) _ _)
@[simp] theorem State.stopTasks_sports (a : Nat) : (s.stopTasks a).sports = s.sports := by
  unfold State.stopTasks; dsimp only
  exact (forEach_eq (fun s => s.sports) _ (fun _ _ => by simp) _ _).trans (forEach_eq (fun s => s.sports) _ (fun _ _ => by simp) _ _)
@[simp] theorem State.stopTasks_axes (a : Nat) : (s.stopTasks a).axes = s.axes := by
  unfold State.stopTasks; dsimp only
  exact (forEach_eq (fun s => s.axes) _ (fun _ _ => by simp) _ _).trans (forEach_eq (fun s => s.axes) _ (fun _ _ => by simp) _ _)
@[simp] theorem State.stopTasks_gens (a : Nat) : (s.stopTasks a).gens = s.gens := by
  unfold State.stopTasks; dsimp only
  exact (forEach_eq (fun s => s.gens) _ (fun _ _ => by simp) _ _).trans (forEach_eq (fun s => s.gens) _ (fun _ _ => by simp) _ _)
@[simp] theorem State.stopTasks_groups (a : Nat) : (s.stopTasks a).groups = s.groups := by
  unfold State.stopTasks; dsimp only
  exact (forEach_eq (fun s => s.groups) _ (fun _ _ => by simp) _ _).trans (forEach_eq (fun s => s.groups) _ (fun _ _ => by simp) _ _)
@[simp] theorem State.stopTasks_slots (a : Nat) : (s.stopTasks a).slots = s.slots := by
  unfold State.stopTasks; dsimp only
  exact (forEach_eq (fun s => s.slots) _ (fun _ _ => by simp) _ _).trans (forEach_eq (fun s => s.slots) _ (fun _ _ => by simp) _ _)
@[simp] theorem State.stopTasks_arms (a : Nat) : (s.stopTasks a).arms = s.arms := by
  unfold State.stopTasks; dsimp only
  exact (forEach_eq (fun s => s.arms) _ (fun _ _ => by simp) _ _).trans (forEach_eq (fun s => s.arms) _ (fun _ _ => by simp) _ _)
@[simp] theorem State.stopTasks_tests (a : Nat) : (s.stopTasks a).tests = s.tests := by
  unfold State.stopTasks; dsimp only
  exact (forEach_eq (fun s => s.tests) _ (fun _ _ => by simp) _ _).trans (forEach_eq (fun s => s.tests) _ (fun _ _ => by simp) _ _)
@[simp] theorem State.stopTasks_red (a : Nat) : (s.stopTasks a).red = s.red := by
  unfold State.stopTasks; dsimp only
  exact (forEach_eq (fun s => s.red) _ (fun _ _ => by simp) _ _).trans (forEach_eq (fun s => s.red) _ (fun _ _ => by simp) _ _)
@[simp] theorem State.stopTasks_sed (a : Nat) : (s.stopTasks a).sed = s.sed := by
  unfold State.stopTasks; dsimp only
  exact (forEach_eq (fun s => s.sed) _ (fun _ _ => by simp) _ _).trans (forEach_eq (fun s => s.sed) _ (fun _ _ => by simp) _ _)
@[simp] theorem State.stopTasks_place (a : Nat) : (s.stopTasks a).place = s.place := by
  unfold State.stopTasks; dsimp only
  exact (forEach_eq (fun s => s.place) _ (fun _ _ => by simp) _ _).trans (forEach_eq (fun s => s.place) _ (fun _ _ => by simp) _ _)
@[simp] theorem State.stopTasks_fab (a : Nat) : (s.stopTasks a).fab = s.fab := by
  unfold State.stopTasks; dsimp only
  exact (forEach_eq (fun s => s.fab) _ (fun _ _ => by simp) _ _).trans (forEach_eq (fun s => s.fab) _ (fun _ _ => by simp) _ _)
@[simp] theorem State.stopTasks_twin (a : Nat) : (s.stopTasks a).twin = s.twin := by
  unfold State.stopTasks; dsimp only
  exact (forEach_eq (fun s => s.twin) _ (fun _ _ => by simp) _ _).trans (forEach_eq (fun s => s.twin) _ (fun _ _ => by simp) _ _)
@[simp] theorem State.stopTasks_safe (a : Nat) : (s.stopTasks a).safe = s.safe := by
  unfold State.stopTasks; dsimp only
  exact (forEach_eq (fun s => s.safe) _ (fun _ _ => by simp) _ _).trans (forEach_eq (fun s => s.safe) _ (fun _ _ => by simp) _ _)
@[simp] theorem State.stopTasks_power (a : Nat) : (s.stopTasks a).power = s.power := by
  unfold State.stopTasks; dsimp only
  exact (forEach_eq (fun s => s.power) _ (fun _ _ => by simp) _ _).trans (forEach_eq (fun s => s.power) _ (fun _ _ => by simp) _ _)
@[simp] theorem State.stopTasks_life (a : Nat) : (s.stopTasks a).life = s.life := by
  unfold State.stopTasks; dsimp only
  exact (forEach_eq (fun s => s.life) _ (fun _ _ => by simp) _ _).trans (forEach_eq (fun s => s.life) _ (fun _ _ => by simp) _ _)
@[simp] theorem State.stopTasks_su (a : Nat) : (s.stopTasks a).su = s.su := by
  unfold State.stopTasks; dsimp only
  exact (forEach_eq (fun s => s.su) _ (fun _ _ => by simp) _ _).trans (forEach_eq (fun s => s.su) _ (fun _ _ => by simp) _ _)
@[simp] theorem State.stopTasks_marks (a : Nat) : (s.stopTasks a).marks = s.marks := by
  unfold State.stopTasks; dsimp only
  exact (forEach_eq (fun s => s.marks) _ (fun _ _ => by simp) _ _).trans (forEach_eq (fun s => s.marks) _ (fun _ _ => by simp) _ _)
@[simp] theorem State.stopTasks_sent (a : Nat) : (s.stopTasks a).sent = s.sent := by
  unfold State.stopTasks; dsimp only
  exact (forEach_eq (fun s => s.sent) _ (fun _ _ => by simp) _ _).trans (forEach_eq (fun s => s.sent) _ (fun _ _ => by simp) _ _)
@[simp] theorem State.stopTasks_pending (a : Nat) : (s.stopTasks a).pending = s.pending := by
  unfold State.stopTasks; dsimp only
  exact (forEach_eq (fun s => s.pending) _ (fun _ _ => by simp) _ _).trans (forEach_eq (fun s => s.pending) _ (fun _ _ => by simp) _ _)
@[simp] theorem State.stopTasks_regs (a : Nat) : (s.stopTasks a).regs = s.regs := by
  unfold State.stopTasks; dsimp only
  exact (forEach_eq (fun s => s.regs) _ (fun _ _ => by simp) _ _).trans (forEach_eq (fun s => s.regs) _ (fun _ _ => by simp) _ _)

-- closeUnlocks

@[simp] theorem State.closeUnlocks_now : (s.closeUnlocks).now = s.now := rfl
@[simp] theorem State.closeUnlocks_arch : (s.closeUnlocks).arch = s.arch := rfl
@[simp] theorem State.closeUnlocks_kdp : (s.closeUnlocks).kdp = s.kdp := rfl
@[simp] theorem State.closeUnlocks_ports : (s.closeUnlocks).ports = s.ports := rfl
@[simp] theorem State.closeUnlocks_sems : (s.closeUnlocks).sems = s.sems := rfl
@[simp] theorem State.closeUnlocks_convs : (s.closeUnlocks).convs = s.convs := rfl
@[simp] theorem State.closeUnlocks_fports : (s.closeUnlocks).fports = s.fports := rfl
@[simp] theorem State.closeUnlocks_sports : (s.closeUnlocks).sports = s.sports := rfl
@[simp] theorem State.closeUnlocks_axes : (s.closeUnlocks).axes = s.axes := rfl
@[simp] theorem State.closeUnlocks_gens : (s.closeUnlocks).gens = s.gens := rfl
@[simp] theorem State.closeUnlocks_groups : (s.closeUnlocks).groups = s.groups := rfl
@[simp] theorem State.closeUnlocks_tasks : (s.closeUnlocks).tasks = s.tasks := rfl
@[simp] theorem State.closeUnlocks_traces : (s.closeUnlocks).traces = s.traces := rfl
@[simp] theorem State.closeUnlocks_slots : (s.closeUnlocks).slots = s.slots := rfl
@[simp] theorem State.closeUnlocks_arms : (s.closeUnlocks).arms = s.arms := rfl
@[simp] theorem State.closeUnlocks_tests : (s.closeUnlocks).tests = s.tests := rfl
@[simp] theorem State.closeUnlocks_red : (s.closeUnlocks).red = s.red := rfl
@[simp] theorem State.closeUnlocks_sed : (s.closeUnlocks).sed = s.sed := rfl
@[simp] theorem State.closeUnlocks_place : (s.closeUnlocks).place = s.place := rfl
@[simp] theorem State.closeUnlocks_fab : (s.closeUnlocks).fab = s.fab := rfl
@[simp] theorem State.closeUnlocks_twin : (s.closeUnlocks).twin = s.twin := rfl
@[simp] theorem State.closeUnlocks_power : (s.closeUnlocks).power = s.power := rfl
@[simp] theorem State.closeUnlocks_life : (s.closeUnlocks).life = s.life := rfl
@[simp] theorem State.closeUnlocks_su : (s.closeUnlocks).su = s.su := rfl
@[simp] theorem State.closeUnlocks_marks : (s.closeUnlocks).marks = s.marks := rfl
@[simp] theorem State.closeUnlocks_sent : (s.closeUnlocks).sent = s.sent := rfl
@[simp] theorem State.closeUnlocks_pending : (s.closeUnlocks).pending = s.pending := rfl
@[simp] theorem State.closeUnlocks_regs : (s.closeUnlocks).regs = s.regs := rfl

-- setTwinState

@[simp] theorem State.setTwinState_now (a : Nat) : (s.setTwinState a).now = s.now := by
  unfold State.setTwinState; split <;> rfl
@[simp] theorem State.setTwinState_arch (a : Nat) : (s.setTwinState a).arch = s.arch := by
  unfold State.setTwinState; split <;> rfl
@[simp] theorem State.setTwinState_kdp (a : Nat) : (s.setTwinState a).kdp = s.kdp := by
  unfold State.setTwinState; split <;> rfl
@[simp] theorem State.setTwinState_ports (a : Nat) : (s.setTwinState a).ports = s.ports := by
  unfold State.setTwinState; split <;> rfl
@[simp] theorem State.setTwinState_sems (a : Nat) : (s.setTwinState a).sems = s.sems := by
  unfold State.setTwinState; split <;> rfl
@[simp] theorem State.setTwinState_convs (a : Nat) : (s.setTwinState a).convs = s.convs := by
  unfold State.setTwinState; split <;> rfl
@[simp] theorem State.setTwinState_fports (a : Nat) : (s.setTwinState a).fports = s.fports := by
  unfold State.setTwinState; split <;> rfl
@[simp] theorem State.setTwinState_sports (a : Nat) : (s.setTwinState a).sports = s.sports := by
  unfold State.setTwinState; split <;> rfl
@[simp] theorem State.setTwinState_axes (a : Nat) : (s.setTwinState a).axes = s.axes := by
  unfold State.setTwinState; split <;> rfl
@[simp] theorem State.setTwinState_gens (a : Nat) : (s.setTwinState a).gens = s.gens := by
  unfold State.setTwinState; split <;> rfl
@[simp] theorem State.setTwinState_groups (a : Nat) : (s.setTwinState a).groups = s.groups := by
  unfold State.setTwinState; split <;> rfl
@[simp] theorem State.setTwinState_tasks (a : Nat) : (s.setTwinState a).tasks = s.tasks := by
  unfold State.setTwinState; split <;> rfl
@[simp] theorem State.setTwinState_traces (a : Nat) : (s.setTwinState a).traces = s.traces := by
  unfold State.setTwinState; split <;> rfl
@[simp] theorem State.setTwinState_slots (a : Nat) : (s.setTwinState a).slots = s.slots := by
  unfold State.setTwinState; split <;> rfl
@[simp] theorem State.setTwinState_arms (a : Nat) : (s.setTwinState a).arms = s.arms := by
  unfold State.setTwinState; split <;> rfl
@[simp] theorem State.setTwinState_tests (a : Nat) : (s.setTwinState a).tests = s.tests := by
  unfold State.setTwinState; split <;> rfl
@[simp] theorem State.setTwinState_red (a : Nat) : (s.setTwinState a).red = s.red := by
  unfold State.setTwinState; split <;> rfl
@[simp] theorem State.setTwinState_sed (a : Nat) : (s.setTwinState a).sed = s.sed := by
  unfold State.setTwinState; split <;> rfl
@[simp] theorem State.setTwinState_place (a : Nat) : (s.setTwinState a).place = s.place := by
  unfold State.setTwinState; split <;> rfl
@[simp] theorem State.setTwinState_fab (a : Nat) : (s.setTwinState a).fab = s.fab := by
  unfold State.setTwinState; split <;> rfl
@[simp] theorem State.setTwinState_safe (a : Nat) : (s.setTwinState a).safe = s.safe := by
  unfold State.setTwinState; split <;> rfl
@[simp] theorem State.setTwinState_power (a : Nat) : (s.setTwinState a).power = s.power := by
  unfold State.setTwinState; split <;> rfl
@[simp] theorem State.setTwinState_life (a : Nat) : (s.setTwinState a).life = s.life := by
  unfold State.setTwinState; split <;> rfl
@[simp] theorem State.setTwinState_su (a : Nat) : (s.setTwinState a).su = s.su := by
  unfold State.setTwinState; split <;> rfl
@[simp] theorem State.setTwinState_marks (a : Nat) : (s.setTwinState a).marks = s.marks := by
  unfold State.setTwinState; split <;> rfl
@[simp] theorem State.setTwinState_sent (a : Nat) : (s.setTwinState a).sent = s.sent := by
  unfold State.setTwinState; split <;> rfl
@[simp] theorem State.setTwinState_pending (a : Nat) : (s.setTwinState a).pending = s.pending := by
  unfold State.setTwinState; split <;> rfl

-- dropHandovers

@[simp] theorem State.dropHandovers_now : (s.dropHandovers).now = s.now := by
  unfold State.dropHandovers; exact forEach_eq (fun s => s.now) _ (fun _ _ => by simp) _ _
@[simp] theorem State.dropHandovers_arch : (s.dropHandovers).arch = s.arch := by
  unfold State.dropHandovers; exact forEach_eq (fun s => s.arch) _ (fun _ _ => by simp) _ _
@[simp] theorem State.dropHandovers_kdp : (s.dropHandovers).kdp = s.kdp := by
  unfold State.dropHandovers; exact forEach_eq (fun s => s.kdp) _ (fun _ _ => by simp) _ _
@[simp] theorem State.dropHandovers_ports : (s.dropHandovers).ports = s.ports := by
  unfold State.dropHandovers; exact forEach_eq (fun s => s.ports) _ (fun _ _ => by simp) _ _
@[simp] theorem State.dropHandovers_sems : (s.dropHandovers).sems = s.sems := by
  unfold State.dropHandovers; exact forEach_eq (fun s => s.sems) _ (fun _ _ => by simp) _ _
@[simp] theorem State.dropHandovers_convs : (s.dropHandovers).convs = s.convs := by
  unfold State.dropHandovers; exact forEach_eq (fun s => s.convs) _ (fun _ _ => by simp) _ _
@[simp] theorem State.dropHandovers_fports : (s.dropHandovers).fports = s.fports := by
  unfold State.dropHandovers; exact forEach_eq (fun s => s.fports) _ (fun _ _ => by simp) _ _
@[simp] theorem State.dropHandovers_sports : (s.dropHandovers).sports = s.sports := by
  unfold State.dropHandovers; exact forEach_eq (fun s => s.sports) _ (fun _ _ => by simp) _ _
@[simp] theorem State.dropHandovers_gens : (s.dropHandovers).gens = s.gens := by
  unfold State.dropHandovers; exact forEach_eq (fun s => s.gens) _ (fun _ _ => by simp) _ _
@[simp] theorem State.dropHandovers_groups : (s.dropHandovers).groups = s.groups := by
  unfold State.dropHandovers; exact forEach_eq (fun s => s.groups) _ (fun _ _ => by simp) _ _
@[simp] theorem State.dropHandovers_tasks : (s.dropHandovers).tasks = s.tasks := by
  unfold State.dropHandovers; exact forEach_eq (fun s => s.tasks) _ (fun _ _ => by simp) _ _
@[simp] theorem State.dropHandovers_traces : (s.dropHandovers).traces = s.traces := by
  unfold State.dropHandovers; exact forEach_eq (fun s => s.traces) _ (fun _ _ => by simp) _ _
@[simp] theorem State.dropHandovers_slots : (s.dropHandovers).slots = s.slots := by
  unfold State.dropHandovers; exact forEach_eq (fun s => s.slots) _ (fun _ _ => by simp) _ _
@[simp] theorem State.dropHandovers_arms : (s.dropHandovers).arms = s.arms := by
  unfold State.dropHandovers; exact forEach_eq (fun s => s.arms) _ (fun _ _ => by simp) _ _
@[simp] theorem State.dropHandovers_tests : (s.dropHandovers).tests = s.tests := by
  unfold State.dropHandovers; exact forEach_eq (fun s => s.tests) _ (fun _ _ => by simp) _ _
@[simp] theorem State.dropHandovers_red : (s.dropHandovers).red = s.red := by
  unfold State.dropHandovers; exact forEach_eq (fun s => s.red) _ (fun _ _ => by simp) _ _
@[simp] theorem State.dropHandovers_sed : (s.dropHandovers).sed = s.sed := by
  unfold State.dropHandovers; exact forEach_eq (fun s => s.sed) _ (fun _ _ => by simp) _ _
@[simp] theorem State.dropHandovers_place : (s.dropHandovers).place = s.place := by
  unfold State.dropHandovers; exact forEach_eq (fun s => s.place) _ (fun _ _ => by simp) _ _
@[simp] theorem State.dropHandovers_fab : (s.dropHandovers).fab = s.fab := by
  unfold State.dropHandovers; exact forEach_eq (fun s => s.fab) _ (fun _ _ => by simp) _ _
@[simp] theorem State.dropHandovers_twin : (s.dropHandovers).twin = s.twin := by
  unfold State.dropHandovers; exact forEach_eq (fun s => s.twin) _ (fun _ _ => by simp) _ _
@[simp] theorem State.dropHandovers_safe : (s.dropHandovers).safe = s.safe := by
  unfold State.dropHandovers; exact forEach_eq (fun s => s.safe) _ (fun _ _ => by simp) _ _
@[simp] theorem State.dropHandovers_power : (s.dropHandovers).power = s.power := by
  unfold State.dropHandovers; exact forEach_eq (fun s => s.power) _ (fun _ _ => by simp) _ _
@[simp] theorem State.dropHandovers_life : (s.dropHandovers).life = s.life := by
  unfold State.dropHandovers; exact forEach_eq (fun s => s.life) _ (fun _ _ => by simp) _ _
@[simp] theorem State.dropHandovers_su : (s.dropHandovers).su = s.su := by
  unfold State.dropHandovers; exact forEach_eq (fun s => s.su) _ (fun _ _ => by simp) _ _
@[simp] theorem State.dropHandovers_marks : (s.dropHandovers).marks = s.marks := by
  unfold State.dropHandovers; exact forEach_eq (fun s => s.marks) _ (fun _ _ => by simp) _ _
@[simp] theorem State.dropHandovers_sent : (s.dropHandovers).sent = s.sent := by
  unfold State.dropHandovers; exact forEach_eq (fun s => s.sent) _ (fun _ _ => by simp) _ _
@[simp] theorem State.dropHandovers_pending : (s.dropHandovers).pending = s.pending := by
  unfold State.dropHandovers; exact forEach_eq (fun s => s.pending) _ (fun _ _ => by simp) _ _
@[simp] theorem State.dropHandovers_regs : (s.dropHandovers).regs = s.regs := by
  unfold State.dropHandovers; exact forEach_eq (fun s => s.regs) _ (fun _ _ => by simp) _ _

-- endCandidates

@[simp] theorem State.endCandidates_now : (s.endCandidates).now = s.now := by
  unfold State.endCandidates; split
  · exact forEach_eq (fun s => s.now) _ (fun _ _ => by split <;> rfl) _ _
  · rfl
@[simp] theorem State.endCandidates_arch : (s.endCandidates).arch = s.arch := by
  unfold State.endCandidates; split
  · exact forEach_eq (fun s => s.arch) _ (fun _ _ => by split <;> rfl) _ _
  · rfl
@[simp] theorem State.endCandidates_kdp : (s.endCandidates).kdp = s.kdp := by
  unfold State.endCandidates; split
  · exact forEach_eq (fun s => s.kdp) _ (fun _ _ => by split <;> rfl) _ _
  · rfl
@[simp] theorem State.endCandidates_ports : (s.endCandidates).ports = s.ports := by
  unfold State.endCandidates; split
  · exact forEach_eq (fun s => s.ports) _ (fun _ _ => by split <;> rfl) _ _
  · rfl
@[simp] theorem State.endCandidates_sems : (s.endCandidates).sems = s.sems := by
  unfold State.endCandidates; split
  · exact forEach_eq (fun s => s.sems) _ (fun _ _ => by split <;> rfl) _ _
  · rfl
@[simp] theorem State.endCandidates_convs : (s.endCandidates).convs = s.convs := by
  unfold State.endCandidates; split
  · exact forEach_eq (fun s => s.convs) _ (fun _ _ => by split <;> rfl) _ _
  · rfl
@[simp] theorem State.endCandidates_fports : (s.endCandidates).fports = s.fports := by
  unfold State.endCandidates; split
  · exact forEach_eq (fun s => s.fports) _ (fun _ _ => by split <;> rfl) _ _
  · rfl
@[simp] theorem State.endCandidates_sports : (s.endCandidates).sports = s.sports := by
  unfold State.endCandidates; split
  · exact forEach_eq (fun s => s.sports) _ (fun _ _ => by split <;> rfl) _ _
  · rfl
@[simp] theorem State.endCandidates_axes : (s.endCandidates).axes = s.axes := by
  unfold State.endCandidates; split
  · exact forEach_eq (fun s => s.axes) _ (fun _ _ => by split <;> rfl) _ _
  · rfl
@[simp] theorem State.endCandidates_gens : (s.endCandidates).gens = s.gens := by
  unfold State.endCandidates; split
  · exact forEach_eq (fun s => s.gens) _ (fun _ _ => by split <;> rfl) _ _
  · rfl
@[simp] theorem State.endCandidates_groups : (s.endCandidates).groups = s.groups := by
  unfold State.endCandidates; split
  · exact forEach_eq (fun s => s.groups) _ (fun _ _ => by split <;> rfl) _ _
  · rfl
@[simp] theorem State.endCandidates_tasks : (s.endCandidates).tasks = s.tasks := by
  unfold State.endCandidates; split
  · exact forEach_eq (fun s => s.tasks) _ (fun _ _ => by split <;> rfl) _ _
  · rfl
@[simp] theorem State.endCandidates_traces : (s.endCandidates).traces = s.traces := by
  unfold State.endCandidates; split
  · exact forEach_eq (fun s => s.traces) _ (fun _ _ => by split <;> rfl) _ _
  · rfl
@[simp] theorem State.endCandidates_slots : (s.endCandidates).slots = s.slots := by
  unfold State.endCandidates; split
  · exact forEach_eq (fun s => s.slots) _ (fun _ _ => by split <;> rfl) _ _
  · rfl
@[simp] theorem State.endCandidates_arms : (s.endCandidates).arms = s.arms := by
  unfold State.endCandidates; split
  · exact forEach_eq (fun s => s.arms) _ (fun _ _ => by split <;> rfl) _ _
  · rfl
@[simp] theorem State.endCandidates_tests : (s.endCandidates).tests = s.tests := by
  unfold State.endCandidates; split
  · exact forEach_eq (fun s => s.tests) _ (fun _ _ => by split <;> rfl) _ _
  · rfl
@[simp] theorem State.endCandidates_red : (s.endCandidates).red = s.red := by
  unfold State.endCandidates; split
  · exact forEach_eq (fun s => s.red) _ (fun _ _ => by split <;> rfl) _ _
  · rfl
@[simp] theorem State.endCandidates_sed : (s.endCandidates).sed = s.sed := by
  unfold State.endCandidates; split
  · exact forEach_eq (fun s => s.sed) _ (fun _ _ => by split <;> rfl) _ _
  · rfl
@[simp] theorem State.endCandidates_place : (s.endCandidates).place = s.place := by
  unfold State.endCandidates; split
  · exact forEach_eq (fun s => s.place) _ (fun _ _ => by split <;> rfl) _ _
  · rfl
@[simp] theorem State.endCandidates_fab : (s.endCandidates).fab = s.fab := by
  unfold State.endCandidates; split
  · exact forEach_eq (fun s => s.fab) _ (fun _ _ => by split <;> rfl) _ _
  · rfl
@[simp] theorem State.endCandidates_twin : (s.endCandidates).twin = s.twin := by
  unfold State.endCandidates; split
  · exact forEach_eq (fun s => s.twin) _ (fun _ _ => by split <;> rfl) _ _
  · rfl
@[simp] theorem State.endCandidates_safe : (s.endCandidates).safe = s.safe := by
  unfold State.endCandidates; split
  · exact forEach_eq (fun s => s.safe) _ (fun _ _ => by split <;> rfl) _ _
  · rfl
@[simp] theorem State.endCandidates_power : (s.endCandidates).power = s.power := by
  unfold State.endCandidates; split
  · exact forEach_eq (fun s => s.power) _ (fun _ _ => by split <;> rfl) _ _
  · rfl
@[simp] theorem State.endCandidates_life : (s.endCandidates).life = s.life := by
  unfold State.endCandidates; split
  · exact forEach_eq (fun s => s.life) _ (fun _ _ => by split <;> rfl) _ _
  · rfl
@[simp] theorem State.endCandidates_su : (s.endCandidates).su = s.su := by
  unfold State.endCandidates; split
  · exact forEach_eq (fun s => s.su) _ (fun _ _ => by split <;> rfl) _ _
  · rfl
@[simp] theorem State.endCandidates_marks : (s.endCandidates).marks = s.marks := by
  unfold State.endCandidates; split
  · exact forEach_eq (fun s => s.marks) _ (fun _ _ => by split <;> rfl) _ _
  · rfl
@[simp] theorem State.endCandidates_sent : (s.endCandidates).sent = s.sent := by
  unfold State.endCandidates; split
  · exact forEach_eq (fun s => s.sent) _ (fun _ _ => by split <;> rfl) _ _
  · rfl
@[simp] theorem State.endCandidates_pending : (s.endCandidates).pending = s.pending := by
  unfold State.endCandidates; split
  · exact forEach_eq (fun s => s.pending) _ (fun _ _ => by split <;> rfl) _ _
  · rfl

-- enter

@[simp] theorem State.enter_now (r : RState) : (s.enter r).now = s.now := by
  unfold State.enter; dsimp only; repeat' split
  all_goals simp
@[simp] theorem State.enter_arch (r : RState) : (s.enter r).arch = s.arch := by
  unfold State.enter; dsimp only; repeat' split
  all_goals simp
@[simp] theorem State.enter_kdp (r : RState) : (s.enter r).kdp = s.kdp := by
  unfold State.enter; dsimp only; repeat' split
  all_goals simp
@[simp] theorem State.enter_ports (r : RState) : (s.enter r).ports = s.ports := by
  unfold State.enter; dsimp only; repeat' split
  all_goals simp
@[simp] theorem State.enter_sems (r : RState) : (s.enter r).sems = s.sems := by
  unfold State.enter; dsimp only; repeat' split
  all_goals simp
@[simp] theorem State.enter_convs (r : RState) : (s.enter r).convs = s.convs := by
  unfold State.enter; dsimp only; repeat' split
  all_goals simp
@[simp] theorem State.enter_fports (r : RState) : (s.enter r).fports = s.fports := by
  unfold State.enter; dsimp only; repeat' split
  all_goals simp
@[simp] theorem State.enter_sports (r : RState) : (s.enter r).sports = s.sports := by
  unfold State.enter; dsimp only; repeat' split
  all_goals simp
@[simp] theorem State.enter_gens (r : RState) : (s.enter r).gens = s.gens := by
  unfold State.enter; dsimp only; repeat' split
  all_goals simp
@[simp] theorem State.enter_groups (r : RState) : (s.enter r).groups = s.groups := by
  unfold State.enter; dsimp only; repeat' split
  all_goals simp
@[simp] theorem State.enter_slots (r : RState) : (s.enter r).slots = s.slots := by
  unfold State.enter; dsimp only; repeat' split
  all_goals simp
@[simp] theorem State.enter_arms (r : RState) : (s.enter r).arms = s.arms := by
  unfold State.enter; dsimp only; repeat' split
  all_goals simp
@[simp] theorem State.enter_tests (r : RState) : (s.enter r).tests = s.tests := by
  unfold State.enter; dsimp only; repeat' split
  all_goals simp
@[simp] theorem State.enter_fab (r : RState) : (s.enter r).fab = s.fab := by
  unfold State.enter; dsimp only; repeat' split
  all_goals simp
@[simp] theorem State.enter_power (r : RState) : (s.enter r).power = s.power := by
  unfold State.enter; dsimp only; repeat' split
  all_goals simp
@[simp] theorem State.enter_life (r : RState) : (s.enter r).life = s.life := by
  unfold State.enter; dsimp only; repeat' split
  all_goals simp
@[simp] theorem State.enter_su (r : RState) : (s.enter r).su = s.su := by
  unfold State.enter; dsimp only; repeat' split
  all_goals simp
@[simp] theorem State.enter_marks (r : RState) : (s.enter r).marks = s.marks := by
  unfold State.enter; dsimp only; repeat' split
  all_goals simp
@[simp] theorem State.enter_sent (r : RState) : (s.enter r).sent = s.sent := by
  unfold State.enter; dsimp only; repeat' split
  all_goals simp
@[simp] theorem State.enter_pending (r : RState) : (s.enter r).pending = s.pending := by
  unfold State.enter; dsimp only; repeat' split
  all_goals simp

-- holdArms

@[simp] theorem State.holdArms_now (c : Ch) : (s.holdArms c).now = s.now := by
  unfold State.holdArms; exact forEach_eq (fun s => s.now) _ (fun _ _ => by simp) _ _
@[simp] theorem State.holdArms_arch (c : Ch) : (s.holdArms c).arch = s.arch := by
  unfold State.holdArms; exact forEach_eq (fun s => s.arch) _ (fun _ _ => by simp) _ _
@[simp] theorem State.holdArms_kdp (c : Ch) : (s.holdArms c).kdp = s.kdp := by
  unfold State.holdArms; exact forEach_eq (fun s => s.kdp) _ (fun _ _ => by simp) _ _
@[simp] theorem State.holdArms_ports (c : Ch) : (s.holdArms c).ports = s.ports := by
  unfold State.holdArms; exact forEach_eq (fun s => s.ports) _ (fun _ _ => by simp) _ _
@[simp] theorem State.holdArms_sems (c : Ch) : (s.holdArms c).sems = s.sems := by
  unfold State.holdArms; exact forEach_eq (fun s => s.sems) _ (fun _ _ => by simp) _ _
@[simp] theorem State.holdArms_convs (c : Ch) : (s.holdArms c).convs = s.convs := by
  unfold State.holdArms; exact forEach_eq (fun s => s.convs) _ (fun _ _ => by simp) _ _
@[simp] theorem State.holdArms_fports (c : Ch) : (s.holdArms c).fports = s.fports := by
  unfold State.holdArms; exact forEach_eq (fun s => s.fports) _ (fun _ _ => by simp) _ _
@[simp] theorem State.holdArms_sports (c : Ch) : (s.holdArms c).sports = s.sports := by
  unfold State.holdArms; exact forEach_eq (fun s => s.sports) _ (fun _ _ => by simp) _ _
@[simp] theorem State.holdArms_axes (c : Ch) : (s.holdArms c).axes = s.axes := by
  unfold State.holdArms; exact forEach_eq (fun s => s.axes) _ (fun _ _ => by simp) _ _
@[simp] theorem State.holdArms_gens (c : Ch) : (s.holdArms c).gens = s.gens := by
  unfold State.holdArms; exact forEach_eq (fun s => s.gens) _ (fun _ _ => by simp) _ _
@[simp] theorem State.holdArms_groups (c : Ch) : (s.holdArms c).groups = s.groups := by
  unfold State.holdArms; exact forEach_eq (fun s => s.groups) _ (fun _ _ => by simp) _ _
@[simp] theorem State.holdArms_tasks (c : Ch) : (s.holdArms c).tasks = s.tasks := by
  unfold State.holdArms; exact forEach_eq (fun s => s.tasks) _ (fun _ _ => by simp) _ _
@[simp] theorem State.holdArms_traces (c : Ch) : (s.holdArms c).traces = s.traces := by
  unfold State.holdArms; exact forEach_eq (fun s => s.traces) _ (fun _ _ => by simp) _ _
@[simp] theorem State.holdArms_slots (c : Ch) : (s.holdArms c).slots = s.slots := by
  unfold State.holdArms; exact forEach_eq (fun s => s.slots) _ (fun _ _ => by simp) _ _
@[simp] theorem State.holdArms_tests (c : Ch) : (s.holdArms c).tests = s.tests := by
  unfold State.holdArms; exact forEach_eq (fun s => s.tests) _ (fun _ _ => by simp) _ _
@[simp] theorem State.holdArms_red (c : Ch) : (s.holdArms c).red = s.red := by
  unfold State.holdArms; exact forEach_eq (fun s => s.red) _ (fun _ _ => by simp) _ _
@[simp] theorem State.holdArms_sed (c : Ch) : (s.holdArms c).sed = s.sed := by
  unfold State.holdArms; exact forEach_eq (fun s => s.sed) _ (fun _ _ => by simp) _ _
@[simp] theorem State.holdArms_place (c : Ch) : (s.holdArms c).place = s.place := by
  unfold State.holdArms; exact forEach_eq (fun s => s.place) _ (fun _ _ => by simp) _ _
@[simp] theorem State.holdArms_fab (c : Ch) : (s.holdArms c).fab = s.fab := by
  unfold State.holdArms; exact forEach_eq (fun s => s.fab) _ (fun _ _ => by simp) _ _
@[simp] theorem State.holdArms_twin (c : Ch) : (s.holdArms c).twin = s.twin := by
  unfold State.holdArms; exact forEach_eq (fun s => s.twin) _ (fun _ _ => by simp) _ _
@[simp] theorem State.holdArms_safe (c : Ch) : (s.holdArms c).safe = s.safe := by
  unfold State.holdArms; exact forEach_eq (fun s => s.safe) _ (fun _ _ => by simp) _ _
@[simp] theorem State.holdArms_power (c : Ch) : (s.holdArms c).power = s.power := by
  unfold State.holdArms; exact forEach_eq (fun s => s.power) _ (fun _ _ => by simp) _ _
@[simp] theorem State.holdArms_life (c : Ch) : (s.holdArms c).life = s.life := by
  unfold State.holdArms; exact forEach_eq (fun s => s.life) _ (fun _ _ => by simp) _ _
@[simp] theorem State.holdArms_su (c : Ch) : (s.holdArms c).su = s.su := by
  unfold State.holdArms; exact forEach_eq (fun s => s.su) _ (fun _ _ => by simp) _ _
@[simp] theorem State.holdArms_marks (c : Ch) : (s.holdArms c).marks = s.marks := by
  unfold State.holdArms; exact forEach_eq (fun s => s.marks) _ (fun _ _ => by simp) _ _
@[simp] theorem State.holdArms_sent (c : Ch) : (s.holdArms c).sent = s.sent := by
  unfold State.holdArms; exact forEach_eq (fun s => s.sent) _ (fun _ _ => by simp) _ _
@[simp] theorem State.holdArms_pending (c : Ch) : (s.holdArms c).pending = s.pending := by
  unfold State.holdArms; exact forEach_eq (fun s => s.pending) _ (fun _ _ => by simp) _ _
@[simp] theorem State.holdArms_regs (c : Ch) : (s.holdArms c).regs = s.regs := by
  unfold State.holdArms; exact forEach_eq (fun s => s.regs) _ (fun _ _ => by simp) _ _

-- loseSafeInputs

@[simp] theorem State.loseSafeInputs_now (c : Ch) (n : Nat) : (s.loseSafeInputs c n).now = s.now := rfl
@[simp] theorem State.loseSafeInputs_arch (c : Ch) (n : Nat) : (s.loseSafeInputs c n).arch = s.arch := rfl
@[simp] theorem State.loseSafeInputs_kdp (c : Ch) (n : Nat) : (s.loseSafeInputs c n).kdp = s.kdp := rfl
@[simp] theorem State.loseSafeInputs_ports (c : Ch) (n : Nat) : (s.loseSafeInputs c n).ports = s.ports := rfl
@[simp] theorem State.loseSafeInputs_sems (c : Ch) (n : Nat) : (s.loseSafeInputs c n).sems = s.sems := rfl
@[simp] theorem State.loseSafeInputs_convs (c : Ch) (n : Nat) : (s.loseSafeInputs c n).convs = s.convs := rfl
@[simp] theorem State.loseSafeInputs_fports (c : Ch) (n : Nat) : (s.loseSafeInputs c n).fports = s.fports := rfl
@[simp] theorem State.loseSafeInputs_sports (c : Ch) (n : Nat) : (s.loseSafeInputs c n).sports = s.sports := rfl
@[simp] theorem State.loseSafeInputs_axes (c : Ch) (n : Nat) : (s.loseSafeInputs c n).axes = s.axes := rfl
@[simp] theorem State.loseSafeInputs_gens (c : Ch) (n : Nat) : (s.loseSafeInputs c n).gens = s.gens := rfl
@[simp] theorem State.loseSafeInputs_groups (c : Ch) (n : Nat) : (s.loseSafeInputs c n).groups = s.groups := rfl
@[simp] theorem State.loseSafeInputs_tasks (c : Ch) (n : Nat) : (s.loseSafeInputs c n).tasks = s.tasks := rfl
@[simp] theorem State.loseSafeInputs_traces (c : Ch) (n : Nat) : (s.loseSafeInputs c n).traces = s.traces := rfl
@[simp] theorem State.loseSafeInputs_slots (c : Ch) (n : Nat) : (s.loseSafeInputs c n).slots = s.slots := rfl
@[simp] theorem State.loseSafeInputs_arms (c : Ch) (n : Nat) : (s.loseSafeInputs c n).arms = s.arms := rfl
@[simp] theorem State.loseSafeInputs_tests (c : Ch) (n : Nat) : (s.loseSafeInputs c n).tests = s.tests := rfl
@[simp] theorem State.loseSafeInputs_red (c : Ch) (n : Nat) : (s.loseSafeInputs c n).red = s.red := rfl
@[simp] theorem State.loseSafeInputs_sed (c : Ch) (n : Nat) : (s.loseSafeInputs c n).sed = s.sed := rfl
@[simp] theorem State.loseSafeInputs_place (c : Ch) (n : Nat) : (s.loseSafeInputs c n).place = s.place := rfl
@[simp] theorem State.loseSafeInputs_fab (c : Ch) (n : Nat) : (s.loseSafeInputs c n).fab = s.fab := rfl
@[simp] theorem State.loseSafeInputs_twin (c : Ch) (n : Nat) : (s.loseSafeInputs c n).twin = s.twin := rfl
@[simp] theorem State.loseSafeInputs_power (c : Ch) (n : Nat) : (s.loseSafeInputs c n).power = s.power := rfl
@[simp] theorem State.loseSafeInputs_life (c : Ch) (n : Nat) : (s.loseSafeInputs c n).life = s.life := rfl
@[simp] theorem State.loseSafeInputs_su (c : Ch) (n : Nat) : (s.loseSafeInputs c n).su = s.su := rfl
@[simp] theorem State.loseSafeInputs_marks (c : Ch) (n : Nat) : (s.loseSafeInputs c n).marks = s.marks := rfl
@[simp] theorem State.loseSafeInputs_sent (c : Ch) (n : Nat) : (s.loseSafeInputs c n).sent = s.sent := rfl
@[simp] theorem State.loseSafeInputs_pending (c : Ch) (n : Nat) : (s.loseSafeInputs c n).pending = s.pending := rfl
@[simp] theorem State.loseSafeInputs_regs (c : Ch) (n : Nat) : (s.loseSafeInputs c n).regs = s.regs := rfl

-- abandonEntry

@[simp] theorem State.abandonEntry_now : (s.abandonEntry).now = s.now := by
  unfold State.abandonEntry; split <;> rfl
@[simp] theorem State.abandonEntry_arch : (s.abandonEntry).arch = s.arch := by
  unfold State.abandonEntry; split <;> rfl
@[simp] theorem State.abandonEntry_kdp : (s.abandonEntry).kdp = s.kdp := by
  unfold State.abandonEntry; split <;> rfl
@[simp] theorem State.abandonEntry_ports : (s.abandonEntry).ports = s.ports := by
  unfold State.abandonEntry; split <;> rfl
@[simp] theorem State.abandonEntry_sems : (s.abandonEntry).sems = s.sems := by
  unfold State.abandonEntry; split <;> rfl
@[simp] theorem State.abandonEntry_convs : (s.abandonEntry).convs = s.convs := by
  unfold State.abandonEntry; split <;> rfl
@[simp] theorem State.abandonEntry_fports : (s.abandonEntry).fports = s.fports := by
  unfold State.abandonEntry; split <;> rfl
@[simp] theorem State.abandonEntry_sports : (s.abandonEntry).sports = s.sports := by
  unfold State.abandonEntry; split <;> rfl
@[simp] theorem State.abandonEntry_axes : (s.abandonEntry).axes = s.axes := by
  unfold State.abandonEntry; split <;> rfl
@[simp] theorem State.abandonEntry_gens : (s.abandonEntry).gens = s.gens := by
  unfold State.abandonEntry; split <;> rfl
@[simp] theorem State.abandonEntry_groups : (s.abandonEntry).groups = s.groups := by
  unfold State.abandonEntry; split <;> rfl
@[simp] theorem State.abandonEntry_tasks : (s.abandonEntry).tasks = s.tasks := by
  unfold State.abandonEntry; split <;> rfl
@[simp] theorem State.abandonEntry_traces : (s.abandonEntry).traces = s.traces := by
  unfold State.abandonEntry; split <;> rfl
@[simp] theorem State.abandonEntry_slots : (s.abandonEntry).slots = s.slots := by
  unfold State.abandonEntry; split <;> rfl
@[simp] theorem State.abandonEntry_arms : (s.abandonEntry).arms = s.arms := by
  unfold State.abandonEntry; split <;> rfl
@[simp] theorem State.abandonEntry_tests : (s.abandonEntry).tests = s.tests := by
  unfold State.abandonEntry; split <;> rfl
@[simp] theorem State.abandonEntry_red : (s.abandonEntry).red = s.red := by
  unfold State.abandonEntry; split <;> rfl
@[simp] theorem State.abandonEntry_sed : (s.abandonEntry).sed = s.sed := by
  unfold State.abandonEntry; split <;> rfl
@[simp] theorem State.abandonEntry_place : (s.abandonEntry).place = s.place := by
  unfold State.abandonEntry; split <;> rfl
@[simp] theorem State.abandonEntry_fab : (s.abandonEntry).fab = s.fab := by
  unfold State.abandonEntry; split <;> rfl
@[simp] theorem State.abandonEntry_twin : (s.abandonEntry).twin = s.twin := by
  unfold State.abandonEntry; split <;> rfl
@[simp] theorem State.abandonEntry_safe : (s.abandonEntry).safe = s.safe := by
  unfold State.abandonEntry; split <;> rfl
@[simp] theorem State.abandonEntry_life : (s.abandonEntry).life = s.life := by
  unfold State.abandonEntry; split <;> rfl
@[simp] theorem State.abandonEntry_su : (s.abandonEntry).su = s.su := by
  unfold State.abandonEntry; split <;> rfl
@[simp] theorem State.abandonEntry_marks : (s.abandonEntry).marks = s.marks := by
  unfold State.abandonEntry; split <;> rfl
@[simp] theorem State.abandonEntry_sent : (s.abandonEntry).sent = s.sent := by
  unfold State.abandonEntry; split <;> rfl
@[simp] theorem State.abandonEntry_pending : (s.abandonEntry).pending = s.pending := by
  unfold State.abandonEntry; split <;> rfl
@[simp] theorem State.abandonEntry_regs : (s.abandonEntry).regs = s.regs := by
  unfold State.abandonEntry; split <;> rfl

-- declare

@[simp] theorem State.declare_now (c : Ch) (a : Nat) : (s.declare c a).now = s.now := by
  unfold State.declare; dsimp only; simp
@[simp] theorem State.declare_arch (c : Ch) (a : Nat) : (s.declare c a).arch = s.arch := by
  unfold State.declare; dsimp only; simp
@[simp] theorem State.declare_kdp (c : Ch) (a : Nat) : (s.declare c a).kdp = s.kdp := by
  unfold State.declare; dsimp only; simp
@[simp] theorem State.declare_ports (c : Ch) (a : Nat) : (s.declare c a).ports = s.ports := by
  unfold State.declare; dsimp only; simp
@[simp] theorem State.declare_sems (c : Ch) (a : Nat) : (s.declare c a).sems = s.sems := by
  unfold State.declare; dsimp only; simp
@[simp] theorem State.declare_convs (c : Ch) (a : Nat) : (s.declare c a).convs = s.convs := by
  unfold State.declare; dsimp only; simp
@[simp] theorem State.declare_fports (c : Ch) (a : Nat) : (s.declare c a).fports = s.fports := by
  unfold State.declare; dsimp only; simp
@[simp] theorem State.declare_sports (c : Ch) (a : Nat) : (s.declare c a).sports = s.sports := by
  unfold State.declare; dsimp only; simp
@[simp] theorem State.declare_axes (c : Ch) (a : Nat) : (s.declare c a).axes = s.axes := by
  unfold State.declare; dsimp only; simp
@[simp] theorem State.declare_gens (c : Ch) (a : Nat) : (s.declare c a).gens = s.gens := by
  unfold State.declare; dsimp only; simp
@[simp] theorem State.declare_groups (c : Ch) (a : Nat) : (s.declare c a).groups = s.groups := by
  unfold State.declare; dsimp only; simp
@[simp] theorem State.declare_tasks (c : Ch) (a : Nat) : (s.declare c a).tasks = s.tasks := by
  unfold State.declare; dsimp only; simp
@[simp] theorem State.declare_traces (c : Ch) (a : Nat) : (s.declare c a).traces = s.traces := by
  unfold State.declare; dsimp only; simp
@[simp] theorem State.declare_slots (c : Ch) (a : Nat) : (s.declare c a).slots = s.slots := by
  unfold State.declare; dsimp only; simp
@[simp] theorem State.declare_tests (c : Ch) (a : Nat) : (s.declare c a).tests = s.tests := by
  unfold State.declare; dsimp only; simp
@[simp] theorem State.declare_fab (c : Ch) (a : Nat) : (s.declare c a).fab = s.fab := by
  unfold State.declare; dsimp only; simp
@[simp] theorem State.declare_twin (c : Ch) (a : Nat) : (s.declare c a).twin = s.twin := by
  unfold State.declare; dsimp only; simp
@[simp] theorem State.declare_life (c : Ch) (a : Nat) : (s.declare c a).life = s.life := by
  unfold State.declare; dsimp only; simp
@[simp] theorem State.declare_su (c : Ch) (a : Nat) : (s.declare c a).su = s.su := by
  unfold State.declare; dsimp only; simp
@[simp] theorem State.declare_marks (c : Ch) (a : Nat) : (s.declare c a).marks = s.marks := by
  unfold State.declare; dsimp only; simp
@[simp] theorem State.declare_pending (c : Ch) (a : Nat) : (s.declare c a).pending = s.pending := by
  unfold State.declare; dsimp only; simp

-- updPlane

@[simp] theorem State.updPlane_now (c : Ch) (f : Plane → Plane) : (s.updPlane c f).now = s.now := rfl
@[simp] theorem State.updPlane_arch (c : Ch) (f : Plane → Plane) : (s.updPlane c f).arch = s.arch := rfl
@[simp] theorem State.updPlane_kdp (c : Ch) (f : Plane → Plane) : (s.updPlane c f).kdp = s.kdp := rfl
@[simp] theorem State.updPlane_ports (c : Ch) (f : Plane → Plane) : (s.updPlane c f).ports = s.ports := rfl
@[simp] theorem State.updPlane_sems (c : Ch) (f : Plane → Plane) : (s.updPlane c f).sems = s.sems := rfl
@[simp] theorem State.updPlane_convs (c : Ch) (f : Plane → Plane) : (s.updPlane c f).convs = s.convs := rfl
@[simp] theorem State.updPlane_fports (c : Ch) (f : Plane → Plane) : (s.updPlane c f).fports = s.fports := rfl
@[simp] theorem State.updPlane_sports (c : Ch) (f : Plane → Plane) : (s.updPlane c f).sports = s.sports := rfl
@[simp] theorem State.updPlane_axes (c : Ch) (f : Plane → Plane) : (s.updPlane c f).axes = s.axes := rfl
@[simp] theorem State.updPlane_gens (c : Ch) (f : Plane → Plane) : (s.updPlane c f).gens = s.gens := rfl
@[simp] theorem State.updPlane_groups (c : Ch) (f : Plane → Plane) : (s.updPlane c f).groups = s.groups := rfl
@[simp] theorem State.updPlane_tasks (c : Ch) (f : Plane → Plane) : (s.updPlane c f).tasks = s.tasks := rfl
@[simp] theorem State.updPlane_traces (c : Ch) (f : Plane → Plane) : (s.updPlane c f).traces = s.traces := rfl
@[simp] theorem State.updPlane_slots (c : Ch) (f : Plane → Plane) : (s.updPlane c f).slots = s.slots := rfl
@[simp] theorem State.updPlane_arms (c : Ch) (f : Plane → Plane) : (s.updPlane c f).arms = s.arms := rfl
@[simp] theorem State.updPlane_tests (c : Ch) (f : Plane → Plane) : (s.updPlane c f).tests = s.tests := rfl
@[simp] theorem State.updPlane_red (c : Ch) (f : Plane → Plane) : (s.updPlane c f).red = s.red := rfl
@[simp] theorem State.updPlane_sed (c : Ch) (f : Plane → Plane) : (s.updPlane c f).sed = s.sed := rfl
@[simp] theorem State.updPlane_place (c : Ch) (f : Plane → Plane) : (s.updPlane c f).place = s.place := rfl
@[simp] theorem State.updPlane_twin (c : Ch) (f : Plane → Plane) : (s.updPlane c f).twin = s.twin := rfl
@[simp] theorem State.updPlane_safe (c : Ch) (f : Plane → Plane) : (s.updPlane c f).safe = s.safe := rfl
@[simp] theorem State.updPlane_power (c : Ch) (f : Plane → Plane) : (s.updPlane c f).power = s.power := rfl
@[simp] theorem State.updPlane_life (c : Ch) (f : Plane → Plane) : (s.updPlane c f).life = s.life := rfl
@[simp] theorem State.updPlane_su (c : Ch) (f : Plane → Plane) : (s.updPlane c f).su = s.su := rfl
@[simp] theorem State.updPlane_marks (c : Ch) (f : Plane → Plane) : (s.updPlane c f).marks = s.marks := rfl
@[simp] theorem State.updPlane_sent (c : Ch) (f : Plane → Plane) : (s.updPlane c f).sent = s.sent := rfl
@[simp] theorem State.updPlane_pending (c : Ch) (f : Plane → Plane) : (s.updPlane c f).pending = s.pending := rfl
@[simp] theorem State.updPlane_regs (c : Ch) (f : Plane → Plane) : (s.updPlane c f).regs = s.regs := rfl

-- sendFrame

@[simp] theorem State.sendFrame_now (c : Ch) (n d : Nat) (m : Bool) (l : List Byte) : (s.sendFrame c n d m l).now = s.now := by
  unfold State.sendFrame; dsimp only; repeat' split
  all_goals first | rfl | exact forEach_send (fun s => s.now) (fun _ _ => rfl) _ _ _
@[simp] theorem State.sendFrame_arch (c : Ch) (n d : Nat) (m : Bool) (l : List Byte) : (s.sendFrame c n d m l).arch = s.arch := by
  unfold State.sendFrame; dsimp only; repeat' split
  all_goals first | rfl | exact forEach_send (fun s => s.arch) (fun _ _ => rfl) _ _ _
@[simp] theorem State.sendFrame_kdp (c : Ch) (n d : Nat) (m : Bool) (l : List Byte) : (s.sendFrame c n d m l).kdp = s.kdp := by
  unfold State.sendFrame; dsimp only; repeat' split
  all_goals first | rfl | exact forEach_send (fun s => s.kdp) (fun _ _ => rfl) _ _ _
@[simp] theorem State.sendFrame_ports (c : Ch) (n d : Nat) (m : Bool) (l : List Byte) : (s.sendFrame c n d m l).ports = s.ports := by
  unfold State.sendFrame; dsimp only; repeat' split
  all_goals first | rfl | exact forEach_send (fun s => s.ports) (fun _ _ => rfl) _ _ _
@[simp] theorem State.sendFrame_sems (c : Ch) (n d : Nat) (m : Bool) (l : List Byte) : (s.sendFrame c n d m l).sems = s.sems := by
  unfold State.sendFrame; dsimp only; repeat' split
  all_goals first | rfl | exact forEach_send (fun s => s.sems) (fun _ _ => rfl) _ _ _
@[simp] theorem State.sendFrame_convs (c : Ch) (n d : Nat) (m : Bool) (l : List Byte) : (s.sendFrame c n d m l).convs = s.convs := by
  unfold State.sendFrame; dsimp only; repeat' split
  all_goals first | rfl | exact forEach_send (fun s => s.convs) (fun _ _ => rfl) _ _ _
@[simp] theorem State.sendFrame_fports (c : Ch) (n d : Nat) (m : Bool) (l : List Byte) : (s.sendFrame c n d m l).fports = s.fports := by
  unfold State.sendFrame; dsimp only; repeat' split
  all_goals first | rfl | exact forEach_send (fun s => s.fports) (fun _ _ => rfl) _ _ _
@[simp] theorem State.sendFrame_sports (c : Ch) (n d : Nat) (m : Bool) (l : List Byte) : (s.sendFrame c n d m l).sports = s.sports := by
  unfold State.sendFrame; dsimp only; repeat' split
  all_goals first | rfl | exact forEach_send (fun s => s.sports) (fun _ _ => rfl) _ _ _
@[simp] theorem State.sendFrame_axes (c : Ch) (n d : Nat) (m : Bool) (l : List Byte) : (s.sendFrame c n d m l).axes = s.axes := by
  unfold State.sendFrame; dsimp only; repeat' split
  all_goals first | rfl | exact forEach_send (fun s => s.axes) (fun _ _ => rfl) _ _ _
@[simp] theorem State.sendFrame_gens (c : Ch) (n d : Nat) (m : Bool) (l : List Byte) : (s.sendFrame c n d m l).gens = s.gens := by
  unfold State.sendFrame; dsimp only; repeat' split
  all_goals first | rfl | exact forEach_send (fun s => s.gens) (fun _ _ => rfl) _ _ _
@[simp] theorem State.sendFrame_groups (c : Ch) (n d : Nat) (m : Bool) (l : List Byte) : (s.sendFrame c n d m l).groups = s.groups := by
  unfold State.sendFrame; dsimp only; repeat' split
  all_goals first | rfl | exact forEach_send (fun s => s.groups) (fun _ _ => rfl) _ _ _
@[simp] theorem State.sendFrame_tasks (c : Ch) (n d : Nat) (m : Bool) (l : List Byte) : (s.sendFrame c n d m l).tasks = s.tasks := by
  unfold State.sendFrame; dsimp only; repeat' split
  all_goals first | rfl | exact forEach_send (fun s => s.tasks) (fun _ _ => rfl) _ _ _
@[simp] theorem State.sendFrame_traces (c : Ch) (n d : Nat) (m : Bool) (l : List Byte) : (s.sendFrame c n d m l).traces = s.traces := by
  unfold State.sendFrame; dsimp only; repeat' split
  all_goals first | rfl | exact forEach_send (fun s => s.traces) (fun _ _ => rfl) _ _ _
@[simp] theorem State.sendFrame_slots (c : Ch) (n d : Nat) (m : Bool) (l : List Byte) : (s.sendFrame c n d m l).slots = s.slots := by
  unfold State.sendFrame; dsimp only; repeat' split
  all_goals first | rfl | exact forEach_send (fun s => s.slots) (fun _ _ => rfl) _ _ _
@[simp] theorem State.sendFrame_arms (c : Ch) (n d : Nat) (m : Bool) (l : List Byte) : (s.sendFrame c n d m l).arms = s.arms := by
  unfold State.sendFrame; dsimp only; repeat' split
  all_goals first | rfl | exact forEach_send (fun s => s.arms) (fun _ _ => rfl) _ _ _
@[simp] theorem State.sendFrame_tests (c : Ch) (n d : Nat) (m : Bool) (l : List Byte) : (s.sendFrame c n d m l).tests = s.tests := by
  unfold State.sendFrame; dsimp only; repeat' split
  all_goals first | rfl | exact forEach_send (fun s => s.tests) (fun _ _ => rfl) _ _ _
@[simp] theorem State.sendFrame_red (c : Ch) (n d : Nat) (m : Bool) (l : List Byte) : (s.sendFrame c n d m l).red = s.red := by
  unfold State.sendFrame; dsimp only; repeat' split
  all_goals first | rfl | exact forEach_send (fun s => s.red) (fun _ _ => rfl) _ _ _
@[simp] theorem State.sendFrame_sed (c : Ch) (n d : Nat) (m : Bool) (l : List Byte) : (s.sendFrame c n d m l).sed = s.sed := by
  unfold State.sendFrame; dsimp only; repeat' split
  all_goals first | rfl | exact forEach_send (fun s => s.sed) (fun _ _ => rfl) _ _ _
@[simp] theorem State.sendFrame_place (c : Ch) (n d : Nat) (m : Bool) (l : List Byte) : (s.sendFrame c n d m l).place = s.place := by
  unfold State.sendFrame; dsimp only; repeat' split
  all_goals first | rfl | exact forEach_send (fun s => s.place) (fun _ _ => rfl) _ _ _
@[simp] theorem State.sendFrame_twin (c : Ch) (n d : Nat) (m : Bool) (l : List Byte) : (s.sendFrame c n d m l).twin = s.twin := by
  unfold State.sendFrame; dsimp only; repeat' split
  all_goals first | rfl | exact forEach_send (fun s => s.twin) (fun _ _ => rfl) _ _ _
@[simp] theorem State.sendFrame_safe (c : Ch) (n d : Nat) (m : Bool) (l : List Byte) : (s.sendFrame c n d m l).safe = s.safe := by
  unfold State.sendFrame; dsimp only; repeat' split
  all_goals first | rfl | exact forEach_send (fun s => s.safe) (fun _ _ => rfl) _ _ _
@[simp] theorem State.sendFrame_power (c : Ch) (n d : Nat) (m : Bool) (l : List Byte) : (s.sendFrame c n d m l).power = s.power := by
  unfold State.sendFrame; dsimp only; repeat' split
  all_goals first | rfl | exact forEach_send (fun s => s.power) (fun _ _ => rfl) _ _ _
@[simp] theorem State.sendFrame_life (c : Ch) (n d : Nat) (m : Bool) (l : List Byte) : (s.sendFrame c n d m l).life = s.life := by
  unfold State.sendFrame; dsimp only; repeat' split
  all_goals first | rfl | exact forEach_send (fun s => s.life) (fun _ _ => rfl) _ _ _
@[simp] theorem State.sendFrame_su (c : Ch) (n d : Nat) (m : Bool) (l : List Byte) : (s.sendFrame c n d m l).su = s.su := by
  unfold State.sendFrame; dsimp only; repeat' split
  all_goals first | rfl | exact forEach_send (fun s => s.su) (fun _ _ => rfl) _ _ _
@[simp] theorem State.sendFrame_marks (c : Ch) (n d : Nat) (m : Bool) (l : List Byte) : (s.sendFrame c n d m l).marks = s.marks := by
  unfold State.sendFrame; dsimp only; repeat' split
  all_goals first | rfl | exact forEach_send (fun s => s.marks) (fun _ _ => rfl) _ _ _
@[simp] theorem State.sendFrame_pending (c : Ch) (n d : Nat) (m : Bool) (l : List Byte) : (s.sendFrame c n d m l).pending = s.pending := by
  unfold State.sendFrame; dsimp only; repeat' split
  all_goals first | rfl | exact forEach_send (fun s => s.pending) (fun _ _ => rfl) _ _ _
@[simp] theorem State.sendFrame_strs (c : Ch) (n d : Nat) (m : Bool) (l : List Byte) : (s.sendFrame c n d m l).strs = s.strs := by
  unfold State.sendFrame; dsimp only; repeat' split
  all_goals first | rfl | exact forEach_send (fun s => s.strs) (fun _ _ => rfl) _ _ _
@[simp] theorem State.sendFrame_grps (c : Ch) (n d : Nat) (m : Bool) (l : List Byte) : (s.sendFrame c n d m l).grps = s.grps := by
  unfold State.sendFrame; dsimp only; repeat' split
  all_goals first | rfl | exact forEach_send (fun s => s.grps) (fun _ _ => rfl) _ _ _
@[simp] theorem State.sendFrame_diags (c : Ch) (n d : Nat) (m : Bool) (l : List Byte) : (s.sendFrame c n d m l).diags = s.diags := by
  unfold State.sendFrame; dsimp only; repeat' split
  all_goals first | rfl | exact forEach_send (fun s => s.diags) (fun _ _ => rfl) _ _ _
@[simp] theorem State.sendFrame_trackers (c : Ch) (n d : Nat) (m : Bool) (l : List Byte) : (s.sendFrame c n d m l).trackers = s.trackers := by
  unfold State.sendFrame; dsimp only; repeat' split
  all_goals first | rfl | exact forEach_send (fun s => s.trackers) (fun _ _ => rfl) _ _ _
@[simp] theorem State.sendFrame_drivers (c : Ch) (n d : Nat) (m : Bool) (l : List Byte) : (s.sendFrame c n d m l).drivers = s.drivers := by
  unfold State.sendFrame; dsimp only; repeat' split
  all_goals first | rfl | exact forEach_send (fun s => s.drivers) (fun _ _ => rfl) _ _ _
@[simp] theorem State.sendFrame_spis (c : Ch) (n d : Nat) (m : Bool) (l : List Byte) : (s.sendFrame c n d m l).spis = s.spis := by
  unfold State.sendFrame; dsimp only; repeat' split
  all_goals first | rfl | exact forEach_send (fun s => s.spis) (fun _ _ => rfl) _ _ _
@[simp] theorem State.sendFrame_objs (c : Ch) (n d : Nat) (m : Bool) (l : List Byte) : (s.sendFrame c n d m l).objs = s.objs := by
  unfold State.sendFrame; dsimp only; repeat' split
  all_goals first | rfl | exact forEach_send (fun s => s.objs) (fun _ _ => rfl) _ _ _
@[simp] theorem State.sendFrame_used (c : Ch) (n d : Nat) (m : Bool) (l : List Byte) : (s.sendFrame c n d m l).used = s.used := by
  unfold State.sendFrame; dsimp only; repeat' split
  all_goals first | rfl | exact forEach_send (fun s => s.used) (fun _ _ => rfl) _ _ _

-- sendTo

@[simp] theorem State.sendTo_now (c : Ch) (n d : Nat) (l : List Byte) : (s.sendTo c n d l).now = s.now := by
  unfold State.sendTo; (try dsimp only); repeat' split
  all_goals simp
@[simp] theorem State.sendTo_arch (c : Ch) (n d : Nat) (l : List Byte) : (s.sendTo c n d l).arch = s.arch := by
  unfold State.sendTo; (try dsimp only); repeat' split
  all_goals simp
@[simp] theorem State.sendTo_kdp (c : Ch) (n d : Nat) (l : List Byte) : (s.sendTo c n d l).kdp = s.kdp := by
  unfold State.sendTo; (try dsimp only); repeat' split
  all_goals simp
@[simp] theorem State.sendTo_ports (c : Ch) (n d : Nat) (l : List Byte) : (s.sendTo c n d l).ports = s.ports := by
  unfold State.sendTo; (try dsimp only); repeat' split
  all_goals simp
@[simp] theorem State.sendTo_sems (c : Ch) (n d : Nat) (l : List Byte) : (s.sendTo c n d l).sems = s.sems := by
  unfold State.sendTo; (try dsimp only); repeat' split
  all_goals simp
@[simp] theorem State.sendTo_convs (c : Ch) (n d : Nat) (l : List Byte) : (s.sendTo c n d l).convs = s.convs := by
  unfold State.sendTo; (try dsimp only); repeat' split
  all_goals simp
@[simp] theorem State.sendTo_fports (c : Ch) (n d : Nat) (l : List Byte) : (s.sendTo c n d l).fports = s.fports := by
  unfold State.sendTo; (try dsimp only); repeat' split
  all_goals simp
@[simp] theorem State.sendTo_sports (c : Ch) (n d : Nat) (l : List Byte) : (s.sendTo c n d l).sports = s.sports := by
  unfold State.sendTo; (try dsimp only); repeat' split
  all_goals simp
@[simp] theorem State.sendTo_axes (c : Ch) (n d : Nat) (l : List Byte) : (s.sendTo c n d l).axes = s.axes := by
  unfold State.sendTo; (try dsimp only); repeat' split
  all_goals simp
@[simp] theorem State.sendTo_gens (c : Ch) (n d : Nat) (l : List Byte) : (s.sendTo c n d l).gens = s.gens := by
  unfold State.sendTo; (try dsimp only); repeat' split
  all_goals simp
@[simp] theorem State.sendTo_groups (c : Ch) (n d : Nat) (l : List Byte) : (s.sendTo c n d l).groups = s.groups := by
  unfold State.sendTo; (try dsimp only); repeat' split
  all_goals simp
@[simp] theorem State.sendTo_tasks (c : Ch) (n d : Nat) (l : List Byte) : (s.sendTo c n d l).tasks = s.tasks := by
  unfold State.sendTo; (try dsimp only); repeat' split
  all_goals simp
@[simp] theorem State.sendTo_traces (c : Ch) (n d : Nat) (l : List Byte) : (s.sendTo c n d l).traces = s.traces := by
  unfold State.sendTo; (try dsimp only); repeat' split
  all_goals simp
@[simp] theorem State.sendTo_slots (c : Ch) (n d : Nat) (l : List Byte) : (s.sendTo c n d l).slots = s.slots := by
  unfold State.sendTo; (try dsimp only); repeat' split
  all_goals simp
@[simp] theorem State.sendTo_arms (c : Ch) (n d : Nat) (l : List Byte) : (s.sendTo c n d l).arms = s.arms := by
  unfold State.sendTo; (try dsimp only); repeat' split
  all_goals simp
@[simp] theorem State.sendTo_tests (c : Ch) (n d : Nat) (l : List Byte) : (s.sendTo c n d l).tests = s.tests := by
  unfold State.sendTo; (try dsimp only); repeat' split
  all_goals simp
@[simp] theorem State.sendTo_red (c : Ch) (n d : Nat) (l : List Byte) : (s.sendTo c n d l).red = s.red := by
  unfold State.sendTo; (try dsimp only); repeat' split
  all_goals simp
@[simp] theorem State.sendTo_sed (c : Ch) (n d : Nat) (l : List Byte) : (s.sendTo c n d l).sed = s.sed := by
  unfold State.sendTo; (try dsimp only); repeat' split
  all_goals simp
@[simp] theorem State.sendTo_place (c : Ch) (n d : Nat) (l : List Byte) : (s.sendTo c n d l).place = s.place := by
  unfold State.sendTo; (try dsimp only); repeat' split
  all_goals simp
@[simp] theorem State.sendTo_twin (c : Ch) (n d : Nat) (l : List Byte) : (s.sendTo c n d l).twin = s.twin := by
  unfold State.sendTo; (try dsimp only); repeat' split
  all_goals simp
@[simp] theorem State.sendTo_safe (c : Ch) (n d : Nat) (l : List Byte) : (s.sendTo c n d l).safe = s.safe := by
  unfold State.sendTo; (try dsimp only); repeat' split
  all_goals simp
@[simp] theorem State.sendTo_power (c : Ch) (n d : Nat) (l : List Byte) : (s.sendTo c n d l).power = s.power := by
  unfold State.sendTo; (try dsimp only); repeat' split
  all_goals simp
@[simp] theorem State.sendTo_life (c : Ch) (n d : Nat) (l : List Byte) : (s.sendTo c n d l).life = s.life := by
  unfold State.sendTo; (try dsimp only); repeat' split
  all_goals simp
@[simp] theorem State.sendTo_su (c : Ch) (n d : Nat) (l : List Byte) : (s.sendTo c n d l).su = s.su := by
  unfold State.sendTo; (try dsimp only); repeat' split
  all_goals simp
@[simp] theorem State.sendTo_marks (c : Ch) (n d : Nat) (l : List Byte) : (s.sendTo c n d l).marks = s.marks := by
  unfold State.sendTo; (try dsimp only); repeat' split
  all_goals simp
@[simp] theorem State.sendTo_pending (c : Ch) (n d : Nat) (l : List Byte) : (s.sendTo c n d l).pending = s.pending := by
  unfold State.sendTo; (try dsimp only); repeat' split
  all_goals simp
@[simp] theorem State.sendTo_strs (c : Ch) (n d : Nat) (l : List Byte) : (s.sendTo c n d l).strs = s.strs := by
  unfold State.sendTo; (try dsimp only); repeat' split
  all_goals simp
@[simp] theorem State.sendTo_grps (c : Ch) (n d : Nat) (l : List Byte) : (s.sendTo c n d l).grps = s.grps := by
  unfold State.sendTo; (try dsimp only); repeat' split
  all_goals simp
@[simp] theorem State.sendTo_diags (c : Ch) (n d : Nat) (l : List Byte) : (s.sendTo c n d l).diags = s.diags := by
  unfold State.sendTo; (try dsimp only); repeat' split
  all_goals simp
@[simp] theorem State.sendTo_trackers (c : Ch) (n d : Nat) (l : List Byte) : (s.sendTo c n d l).trackers = s.trackers := by
  unfold State.sendTo; (try dsimp only); repeat' split
  all_goals simp
@[simp] theorem State.sendTo_drivers (c : Ch) (n d : Nat) (l : List Byte) : (s.sendTo c n d l).drivers = s.drivers := by
  unfold State.sendTo; (try dsimp only); repeat' split
  all_goals simp
@[simp] theorem State.sendTo_spis (c : Ch) (n d : Nat) (l : List Byte) : (s.sendTo c n d l).spis = s.spis := by
  unfold State.sendTo; (try dsimp only); repeat' split
  all_goals simp
@[simp] theorem State.sendTo_objs (c : Ch) (n d : Nat) (l : List Byte) : (s.sendTo c n d l).objs = s.objs := by
  unfold State.sendTo; (try dsimp only); repeat' split
  all_goals simp
@[simp] theorem State.sendTo_used (c : Ch) (n d : Nat) (l : List Byte) : (s.sendTo c n d l).used = s.used := by
  unfold State.sendTo; (try dsimp only); repeat' split
  all_goals simp

-- sendMsg

@[simp] theorem State.sendMsg_now (c : Ch) (n : Nat) (l : List Byte) : (s.sendMsg c n l).now = s.now := by
  unfold State.sendMsg; simp
@[simp] theorem State.sendMsg_arch (c : Ch) (n : Nat) (l : List Byte) : (s.sendMsg c n l).arch = s.arch := by
  unfold State.sendMsg; simp
@[simp] theorem State.sendMsg_kdp (c : Ch) (n : Nat) (l : List Byte) : (s.sendMsg c n l).kdp = s.kdp := by
  unfold State.sendMsg; simp
@[simp] theorem State.sendMsg_ports (c : Ch) (n : Nat) (l : List Byte) : (s.sendMsg c n l).ports = s.ports := by
  unfold State.sendMsg; simp
@[simp] theorem State.sendMsg_sems (c : Ch) (n : Nat) (l : List Byte) : (s.sendMsg c n l).sems = s.sems := by
  unfold State.sendMsg; simp
@[simp] theorem State.sendMsg_convs (c : Ch) (n : Nat) (l : List Byte) : (s.sendMsg c n l).convs = s.convs := by
  unfold State.sendMsg; simp
@[simp] theorem State.sendMsg_fports (c : Ch) (n : Nat) (l : List Byte) : (s.sendMsg c n l).fports = s.fports := by
  unfold State.sendMsg; simp
@[simp] theorem State.sendMsg_sports (c : Ch) (n : Nat) (l : List Byte) : (s.sendMsg c n l).sports = s.sports := by
  unfold State.sendMsg; simp
@[simp] theorem State.sendMsg_axes (c : Ch) (n : Nat) (l : List Byte) : (s.sendMsg c n l).axes = s.axes := by
  unfold State.sendMsg; simp
@[simp] theorem State.sendMsg_gens (c : Ch) (n : Nat) (l : List Byte) : (s.sendMsg c n l).gens = s.gens := by
  unfold State.sendMsg; simp
@[simp] theorem State.sendMsg_groups (c : Ch) (n : Nat) (l : List Byte) : (s.sendMsg c n l).groups = s.groups := by
  unfold State.sendMsg; simp
@[simp] theorem State.sendMsg_tasks (c : Ch) (n : Nat) (l : List Byte) : (s.sendMsg c n l).tasks = s.tasks := by
  unfold State.sendMsg; simp
@[simp] theorem State.sendMsg_traces (c : Ch) (n : Nat) (l : List Byte) : (s.sendMsg c n l).traces = s.traces := by
  unfold State.sendMsg; simp
@[simp] theorem State.sendMsg_slots (c : Ch) (n : Nat) (l : List Byte) : (s.sendMsg c n l).slots = s.slots := by
  unfold State.sendMsg; simp
@[simp] theorem State.sendMsg_arms (c : Ch) (n : Nat) (l : List Byte) : (s.sendMsg c n l).arms = s.arms := by
  unfold State.sendMsg; simp
@[simp] theorem State.sendMsg_tests (c : Ch) (n : Nat) (l : List Byte) : (s.sendMsg c n l).tests = s.tests := by
  unfold State.sendMsg; simp
@[simp] theorem State.sendMsg_red (c : Ch) (n : Nat) (l : List Byte) : (s.sendMsg c n l).red = s.red := by
  unfold State.sendMsg; simp
@[simp] theorem State.sendMsg_sed (c : Ch) (n : Nat) (l : List Byte) : (s.sendMsg c n l).sed = s.sed := by
  unfold State.sendMsg; simp
@[simp] theorem State.sendMsg_place (c : Ch) (n : Nat) (l : List Byte) : (s.sendMsg c n l).place = s.place := by
  unfold State.sendMsg; simp
@[simp] theorem State.sendMsg_twin (c : Ch) (n : Nat) (l : List Byte) : (s.sendMsg c n l).twin = s.twin := by
  unfold State.sendMsg; simp
@[simp] theorem State.sendMsg_safe (c : Ch) (n : Nat) (l : List Byte) : (s.sendMsg c n l).safe = s.safe := by
  unfold State.sendMsg; simp
@[simp] theorem State.sendMsg_power (c : Ch) (n : Nat) (l : List Byte) : (s.sendMsg c n l).power = s.power := by
  unfold State.sendMsg; simp
@[simp] theorem State.sendMsg_life (c : Ch) (n : Nat) (l : List Byte) : (s.sendMsg c n l).life = s.life := by
  unfold State.sendMsg; simp
@[simp] theorem State.sendMsg_su (c : Ch) (n : Nat) (l : List Byte) : (s.sendMsg c n l).su = s.su := by
  unfold State.sendMsg; simp
@[simp] theorem State.sendMsg_marks (c : Ch) (n : Nat) (l : List Byte) : (s.sendMsg c n l).marks = s.marks := by
  unfold State.sendMsg; simp
@[simp] theorem State.sendMsg_pending (c : Ch) (n : Nat) (l : List Byte) : (s.sendMsg c n l).pending = s.pending := by
  unfold State.sendMsg; simp

-- startupPassive

@[simp] theorem State.startupPassive_now : (s.startupPassive).now = s.now := by
  unfold State.startupPassive; split <;> simp
@[simp] theorem State.startupPassive_arch : (s.startupPassive).arch = s.arch := by
  unfold State.startupPassive; split <;> simp
@[simp] theorem State.startupPassive_kdp : (s.startupPassive).kdp = s.kdp := by
  unfold State.startupPassive; split <;> simp
@[simp] theorem State.startupPassive_ports : (s.startupPassive).ports = s.ports := by
  unfold State.startupPassive; split <;> simp
@[simp] theorem State.startupPassive_sems : (s.startupPassive).sems = s.sems := by
  unfold State.startupPassive; split <;> simp
@[simp] theorem State.startupPassive_convs : (s.startupPassive).convs = s.convs := by
  unfold State.startupPassive; split <;> simp
@[simp] theorem State.startupPassive_fports : (s.startupPassive).fports = s.fports := by
  unfold State.startupPassive; split <;> simp
@[simp] theorem State.startupPassive_sports : (s.startupPassive).sports = s.sports := by
  unfold State.startupPassive; split <;> simp
@[simp] theorem State.startupPassive_gens : (s.startupPassive).gens = s.gens := by
  unfold State.startupPassive; split <;> simp
@[simp] theorem State.startupPassive_groups : (s.startupPassive).groups = s.groups := by
  unfold State.startupPassive; split <;> simp
@[simp] theorem State.startupPassive_slots : (s.startupPassive).slots = s.slots := by
  unfold State.startupPassive; split <;> simp
@[simp] theorem State.startupPassive_arms : (s.startupPassive).arms = s.arms := by
  unfold State.startupPassive; split <;> simp
@[simp] theorem State.startupPassive_tests : (s.startupPassive).tests = s.tests := by
  unfold State.startupPassive; split <;> simp
@[simp] theorem State.startupPassive_fab : (s.startupPassive).fab = s.fab := by
  unfold State.startupPassive; split <;> simp
@[simp] theorem State.startupPassive_power : (s.startupPassive).power = s.power := by
  unfold State.startupPassive; split <;> simp
@[simp] theorem State.startupPassive_life : (s.startupPassive).life = s.life := by
  unfold State.startupPassive; split <;> simp
@[simp] theorem State.startupPassive_su : (s.startupPassive).su = s.su := by
  unfold State.startupPassive; split <;> simp
@[simp] theorem State.startupPassive_marks : (s.startupPassive).marks = s.marks := by
  unfold State.startupPassive; split <;> simp
@[simp] theorem State.startupPassive_sent : (s.startupPassive).sent = s.sent := by
  unfold State.startupPassive; split <;> simp
@[simp] theorem State.startupPassive_pending : (s.startupPassive).pending = s.pending := by
  unfold State.startupPassive; split <;> simp

-- ready

@[simp] theorem State.ready_now (c : Ch) : (s.ready c).now = s.now := rfl
@[simp] theorem State.ready_arch (c : Ch) : (s.ready c).arch = s.arch := rfl
@[simp] theorem State.ready_kdp (c : Ch) : (s.ready c).kdp = s.kdp := rfl
@[simp] theorem State.ready_ports (c : Ch) : (s.ready c).ports = s.ports := rfl
@[simp] theorem State.ready_sems (c : Ch) : (s.ready c).sems = s.sems := rfl
@[simp] theorem State.ready_convs (c : Ch) : (s.ready c).convs = s.convs := rfl
@[simp] theorem State.ready_fports (c : Ch) : (s.ready c).fports = s.fports := rfl
@[simp] theorem State.ready_sports (c : Ch) : (s.ready c).sports = s.sports := rfl
@[simp] theorem State.ready_axes (c : Ch) : (s.ready c).axes = s.axes := rfl
@[simp] theorem State.ready_gens (c : Ch) : (s.ready c).gens = s.gens := rfl
@[simp] theorem State.ready_groups (c : Ch) : (s.ready c).groups = s.groups := rfl
@[simp] theorem State.ready_tasks (c : Ch) : (s.ready c).tasks = s.tasks := rfl
@[simp] theorem State.ready_traces (c : Ch) : (s.ready c).traces = s.traces := rfl
@[simp] theorem State.ready_slots (c : Ch) : (s.ready c).slots = s.slots := rfl
@[simp] theorem State.ready_arms (c : Ch) : (s.ready c).arms = s.arms := rfl
@[simp] theorem State.ready_tests (c : Ch) : (s.ready c).tests = s.tests := rfl
@[simp] theorem State.ready_red (c : Ch) : (s.ready c).red = s.red := rfl
@[simp] theorem State.ready_sed (c : Ch) : (s.ready c).sed = s.sed := rfl
@[simp] theorem State.ready_place (c : Ch) : (s.ready c).place = s.place := rfl
@[simp] theorem State.ready_fab (c : Ch) : (s.ready c).fab = s.fab := rfl
@[simp] theorem State.ready_twin (c : Ch) : (s.ready c).twin = s.twin := rfl
@[simp] theorem State.ready_safe (c : Ch) : (s.ready c).safe = s.safe := rfl
@[simp] theorem State.ready_power (c : Ch) : (s.ready c).power = s.power := rfl
@[simp] theorem State.ready_life (c : Ch) : (s.ready c).life = s.life := rfl
@[simp] theorem State.ready_su (c : Ch) : (s.ready c).su = s.su := rfl
@[simp] theorem State.ready_marks (c : Ch) : (s.ready c).marks = s.marks := rfl
@[simp] theorem State.ready_sent (c : Ch) : (s.ready c).sent = s.sent := rfl
@[simp] theorem State.ready_pending (c : Ch) : (s.ready c).pending = s.pending := rfl

-- endSeeding

@[simp] theorem State.endSeeding_now : (s.endSeeding).now = s.now := by
  unfold State.endSeeding; split
  · exact (State.startupPassive_now _).trans (forEach_eq (fun s => s.now) State.ready (fun s c => State.ready_now s c) _ _)
  · rfl
@[simp] theorem State.endSeeding_arch : (s.endSeeding).arch = s.arch := by
  unfold State.endSeeding; split
  · exact (State.startupPassive_arch _).trans (forEach_eq (fun s => s.arch) State.ready (fun s c => State.ready_arch s c) _ _)
  · rfl
@[simp] theorem State.endSeeding_kdp : (s.endSeeding).kdp = s.kdp := by
  unfold State.endSeeding; split
  · exact (State.startupPassive_kdp _).trans (forEach_eq (fun s => s.kdp) State.ready (fun s c => State.ready_kdp s c) _ _)
  · rfl
@[simp] theorem State.endSeeding_ports : (s.endSeeding).ports = s.ports := by
  unfold State.endSeeding; split
  · exact (State.startupPassive_ports _).trans (forEach_eq (fun s => s.ports) State.ready (fun s c => State.ready_ports s c) _ _)
  · rfl
@[simp] theorem State.endSeeding_sems : (s.endSeeding).sems = s.sems := by
  unfold State.endSeeding; split
  · exact (State.startupPassive_sems _).trans (forEach_eq (fun s => s.sems) State.ready (fun s c => State.ready_sems s c) _ _)
  · rfl
@[simp] theorem State.endSeeding_convs : (s.endSeeding).convs = s.convs := by
  unfold State.endSeeding; split
  · exact (State.startupPassive_convs _).trans (forEach_eq (fun s => s.convs) State.ready (fun s c => State.ready_convs s c) _ _)
  · rfl
@[simp] theorem State.endSeeding_fports : (s.endSeeding).fports = s.fports := by
  unfold State.endSeeding; split
  · exact (State.startupPassive_fports _).trans (forEach_eq (fun s => s.fports) State.ready (fun s c => State.ready_fports s c) _ _)
  · rfl
@[simp] theorem State.endSeeding_sports : (s.endSeeding).sports = s.sports := by
  unfold State.endSeeding; split
  · exact (State.startupPassive_sports _).trans (forEach_eq (fun s => s.sports) State.ready (fun s c => State.ready_sports s c) _ _)
  · rfl
@[simp] theorem State.endSeeding_gens : (s.endSeeding).gens = s.gens := by
  unfold State.endSeeding; split
  · exact (State.startupPassive_gens _).trans (forEach_eq (fun s => s.gens) State.ready (fun s c => State.ready_gens s c) _ _)
  · rfl
@[simp] theorem State.endSeeding_groups : (s.endSeeding).groups = s.groups := by
  unfold State.endSeeding; split
  · exact (State.startupPassive_groups _).trans (forEach_eq (fun s => s.groups) State.ready (fun s c => State.ready_groups s c) _ _)
  · rfl
@[simp] theorem State.endSeeding_slots : (s.endSeeding).slots = s.slots := by
  unfold State.endSeeding; split
  · exact (State.startupPassive_slots _).trans (forEach_eq (fun s => s.slots) State.ready (fun s c => State.ready_slots s c) _ _)
  · rfl
@[simp] theorem State.endSeeding_arms : (s.endSeeding).arms = s.arms := by
  unfold State.endSeeding; split
  · exact (State.startupPassive_arms _).trans (forEach_eq (fun s => s.arms) State.ready (fun s c => State.ready_arms s c) _ _)
  · rfl
@[simp] theorem State.endSeeding_tests : (s.endSeeding).tests = s.tests := by
  unfold State.endSeeding; split
  · exact (State.startupPassive_tests _).trans (forEach_eq (fun s => s.tests) State.ready (fun s c => State.ready_tests s c) _ _)
  · rfl
@[simp] theorem State.endSeeding_fab : (s.endSeeding).fab = s.fab := by
  unfold State.endSeeding; split
  · exact (State.startupPassive_fab _).trans (forEach_eq (fun s => s.fab) State.ready (fun s c => State.ready_fab s c) _ _)
  · rfl
@[simp] theorem State.endSeeding_power : (s.endSeeding).power = s.power := by
  unfold State.endSeeding; split
  · exact (State.startupPassive_power _).trans (forEach_eq (fun s => s.power) State.ready (fun s c => State.ready_power s c) _ _)
  · rfl
@[simp] theorem State.endSeeding_life : (s.endSeeding).life = s.life := by
  unfold State.endSeeding; split
  · exact (State.startupPassive_life _).trans (forEach_eq (fun s => s.life) State.ready (fun s c => State.ready_life s c) _ _)
  · rfl
@[simp] theorem State.endSeeding_su : (s.endSeeding).su = s.su := by
  unfold State.endSeeding; split
  · exact (State.startupPassive_su _).trans (forEach_eq (fun s => s.su) State.ready (fun s c => State.ready_su s c) _ _)
  · rfl
@[simp] theorem State.endSeeding_marks : (s.endSeeding).marks = s.marks := by
  unfold State.endSeeding; split
  · exact (State.startupPassive_marks _).trans (forEach_eq (fun s => s.marks) State.ready (fun s c => State.ready_marks s c) _ _)
  · rfl
@[simp] theorem State.endSeeding_sent : (s.endSeeding).sent = s.sent := by
  unfold State.endSeeding; split
  · exact (State.startupPassive_sent _).trans (forEach_eq (fun s => s.sent) State.ready (fun s c => State.ready_sent s c) _ _)
  · rfl
@[simp] theorem State.endSeeding_pending : (s.endSeeding).pending = s.pending := by
  unfold State.endSeeding; split
  · exact (State.startupPassive_pending _).trans (forEach_eq (fun s => s.pending) State.ready (fun s c => State.ready_pending s c) _ _)
  · rfl

-- seedTwin

@[simp] theorem State.seedTwin_now (c : Ch) : (s.seedTwin c).now = s.now := by
  unfold State.seedTwin; exact forEach_eq (fun s => s.now) _ (fun _ _ => by simp) _ _
@[simp] theorem State.seedTwin_arch (c : Ch) : (s.seedTwin c).arch = s.arch := by
  unfold State.seedTwin; exact forEach_eq (fun s => s.arch) _ (fun _ _ => by simp) _ _
@[simp] theorem State.seedTwin_kdp (c : Ch) : (s.seedTwin c).kdp = s.kdp := by
  unfold State.seedTwin; exact forEach_eq (fun s => s.kdp) _ (fun _ _ => by simp) _ _
@[simp] theorem State.seedTwin_ports (c : Ch) : (s.seedTwin c).ports = s.ports := by
  unfold State.seedTwin; exact forEach_eq (fun s => s.ports) _ (fun _ _ => by simp) _ _
@[simp] theorem State.seedTwin_sems (c : Ch) : (s.seedTwin c).sems = s.sems := by
  unfold State.seedTwin; exact forEach_eq (fun s => s.sems) _ (fun _ _ => by simp) _ _
@[simp] theorem State.seedTwin_convs (c : Ch) : (s.seedTwin c).convs = s.convs := by
  unfold State.seedTwin; exact forEach_eq (fun s => s.convs) _ (fun _ _ => by simp) _ _
@[simp] theorem State.seedTwin_fports (c : Ch) : (s.seedTwin c).fports = s.fports := by
  unfold State.seedTwin; exact forEach_eq (fun s => s.fports) _ (fun _ _ => by simp) _ _
@[simp] theorem State.seedTwin_sports (c : Ch) : (s.seedTwin c).sports = s.sports := by
  unfold State.seedTwin; exact forEach_eq (fun s => s.sports) _ (fun _ _ => by simp) _ _
@[simp] theorem State.seedTwin_axes (c : Ch) : (s.seedTwin c).axes = s.axes := by
  unfold State.seedTwin; exact forEach_eq (fun s => s.axes) _ (fun _ _ => by simp) _ _
@[simp] theorem State.seedTwin_gens (c : Ch) : (s.seedTwin c).gens = s.gens := by
  unfold State.seedTwin; exact forEach_eq (fun s => s.gens) _ (fun _ _ => by simp) _ _
@[simp] theorem State.seedTwin_groups (c : Ch) : (s.seedTwin c).groups = s.groups := by
  unfold State.seedTwin; exact forEach_eq (fun s => s.groups) _ (fun _ _ => by simp) _ _
@[simp] theorem State.seedTwin_tasks (c : Ch) : (s.seedTwin c).tasks = s.tasks := by
  unfold State.seedTwin; exact forEach_eq (fun s => s.tasks) _ (fun _ _ => by simp) _ _
@[simp] theorem State.seedTwin_traces (c : Ch) : (s.seedTwin c).traces = s.traces := by
  unfold State.seedTwin; exact forEach_eq (fun s => s.traces) _ (fun _ _ => by simp) _ _
@[simp] theorem State.seedTwin_slots (c : Ch) : (s.seedTwin c).slots = s.slots := by
  unfold State.seedTwin; exact forEach_eq (fun s => s.slots) _ (fun _ _ => by simp) _ _
@[simp] theorem State.seedTwin_arms (c : Ch) : (s.seedTwin c).arms = s.arms := by
  unfold State.seedTwin; exact forEach_eq (fun s => s.arms) _ (fun _ _ => by simp) _ _
@[simp] theorem State.seedTwin_tests (c : Ch) : (s.seedTwin c).tests = s.tests := by
  unfold State.seedTwin; exact forEach_eq (fun s => s.tests) _ (fun _ _ => by simp) _ _
@[simp] theorem State.seedTwin_red (c : Ch) : (s.seedTwin c).red = s.red := by
  unfold State.seedTwin; exact forEach_eq (fun s => s.red) _ (fun _ _ => by simp) _ _
@[simp] theorem State.seedTwin_sed (c : Ch) : (s.seedTwin c).sed = s.sed := by
  unfold State.seedTwin; exact forEach_eq (fun s => s.sed) _ (fun _ _ => by simp) _ _
@[simp] theorem State.seedTwin_place (c : Ch) : (s.seedTwin c).place = s.place := by
  unfold State.seedTwin; exact forEach_eq (fun s => s.place) _ (fun _ _ => by simp) _ _
@[simp] theorem State.seedTwin_twin (c : Ch) : (s.seedTwin c).twin = s.twin := by
  unfold State.seedTwin; exact forEach_eq (fun s => s.twin) _ (fun _ _ => by simp) _ _
@[simp] theorem State.seedTwin_safe (c : Ch) : (s.seedTwin c).safe = s.safe := by
  unfold State.seedTwin; exact forEach_eq (fun s => s.safe) _ (fun _ _ => by simp) _ _
@[simp] theorem State.seedTwin_power (c : Ch) : (s.seedTwin c).power = s.power := by
  unfold State.seedTwin; exact forEach_eq (fun s => s.power) _ (fun _ _ => by simp) _ _
@[simp] theorem State.seedTwin_life (c : Ch) : (s.seedTwin c).life = s.life := by
  unfold State.seedTwin; exact forEach_eq (fun s => s.life) _ (fun _ _ => by simp) _ _
@[simp] theorem State.seedTwin_su (c : Ch) : (s.seedTwin c).su = s.su := by
  unfold State.seedTwin; exact forEach_eq (fun s => s.su) _ (fun _ _ => by simp) _ _
@[simp] theorem State.seedTwin_marks (c : Ch) : (s.seedTwin c).marks = s.marks := by
  unfold State.seedTwin; exact forEach_eq (fun s => s.marks) _ (fun _ _ => by simp) _ _
@[simp] theorem State.seedTwin_pending (c : Ch) : (s.seedTwin c).pending = s.pending := by
  unfold State.seedTwin; exact forEach_eq (fun s => s.pending) _ (fun _ _ => by simp) _ _

-- arbitrate

@[simp] theorem State.arbitrate_now (l : List Ch) : (s.arbitrate l).now = s.now := by
  unfold State.arbitrate; dsimp only; split
  · simp
  · exact (forEach_eq (fun s => s.now) _ (fun _ _ => by simp) _ _).trans ((forEach_eq (fun s => s.now) _ (fun _ _ => by simp) _ _).trans (by simp))
@[simp] theorem State.arbitrate_arch (l : List Ch) : (s.arbitrate l).arch = s.arch := by
  unfold State.arbitrate; dsimp only; split
  · simp
  · exact (forEach_eq (fun s => s.arch) _ (fun _ _ => by simp) _ _).trans ((forEach_eq (fun s => s.arch) _ (fun _ _ => by simp) _ _).trans (by simp))
@[simp] theorem State.arbitrate_kdp (l : List Ch) : (s.arbitrate l).kdp = s.kdp := by
  unfold State.arbitrate; dsimp only; split
  · simp
  · exact (forEach_eq (fun s => s.kdp) _ (fun _ _ => by simp) _ _).trans ((forEach_eq (fun s => s.kdp) _ (fun _ _ => by simp) _ _).trans (by simp))
@[simp] theorem State.arbitrate_ports (l : List Ch) : (s.arbitrate l).ports = s.ports := by
  unfold State.arbitrate; dsimp only; split
  · simp
  · exact (forEach_eq (fun s => s.ports) _ (fun _ _ => by simp) _ _).trans ((forEach_eq (fun s => s.ports) _ (fun _ _ => by simp) _ _).trans (by simp))
@[simp] theorem State.arbitrate_sems (l : List Ch) : (s.arbitrate l).sems = s.sems := by
  unfold State.arbitrate; dsimp only; split
  · simp
  · exact (forEach_eq (fun s => s.sems) _ (fun _ _ => by simp) _ _).trans ((forEach_eq (fun s => s.sems) _ (fun _ _ => by simp) _ _).trans (by simp))
@[simp] theorem State.arbitrate_convs (l : List Ch) : (s.arbitrate l).convs = s.convs := by
  unfold State.arbitrate; dsimp only; split
  · simp
  · exact (forEach_eq (fun s => s.convs) _ (fun _ _ => by simp) _ _).trans ((forEach_eq (fun s => s.convs) _ (fun _ _ => by simp) _ _).trans (by simp))
@[simp] theorem State.arbitrate_fports (l : List Ch) : (s.arbitrate l).fports = s.fports := by
  unfold State.arbitrate; dsimp only; split
  · simp
  · exact (forEach_eq (fun s => s.fports) _ (fun _ _ => by simp) _ _).trans ((forEach_eq (fun s => s.fports) _ (fun _ _ => by simp) _ _).trans (by simp))
@[simp] theorem State.arbitrate_sports (l : List Ch) : (s.arbitrate l).sports = s.sports := by
  unfold State.arbitrate; dsimp only; split
  · simp
  · exact (forEach_eq (fun s => s.sports) _ (fun _ _ => by simp) _ _).trans ((forEach_eq (fun s => s.sports) _ (fun _ _ => by simp) _ _).trans (by simp))
@[simp] theorem State.arbitrate_gens (l : List Ch) : (s.arbitrate l).gens = s.gens := by
  unfold State.arbitrate; dsimp only; split
  · simp
  · exact (forEach_eq (fun s => s.gens) _ (fun _ _ => by simp) _ _).trans ((forEach_eq (fun s => s.gens) _ (fun _ _ => by simp) _ _).trans (by simp))
@[simp] theorem State.arbitrate_groups (l : List Ch) : (s.arbitrate l).groups = s.groups := by
  unfold State.arbitrate; dsimp only; split
  · simp
  · exact (forEach_eq (fun s => s.groups) _ (fun _ _ => by simp) _ _).trans ((forEach_eq (fun s => s.groups) _ (fun _ _ => by simp) _ _).trans (by simp))
@[simp] theorem State.arbitrate_slots (l : List Ch) : (s.arbitrate l).slots = s.slots := by
  unfold State.arbitrate; dsimp only; split
  · simp
  · exact (forEach_eq (fun s => s.slots) _ (fun _ _ => by simp) _ _).trans ((forEach_eq (fun s => s.slots) _ (fun _ _ => by simp) _ _).trans (by simp))
@[simp] theorem State.arbitrate_arms (l : List Ch) : (s.arbitrate l).arms = s.arms := by
  unfold State.arbitrate; dsimp only; split
  · simp
  · exact (forEach_eq (fun s => s.arms) _ (fun _ _ => by simp) _ _).trans ((forEach_eq (fun s => s.arms) _ (fun _ _ => by simp) _ _).trans (by simp))
@[simp] theorem State.arbitrate_tests (l : List Ch) : (s.arbitrate l).tests = s.tests := by
  unfold State.arbitrate; dsimp only; split
  · simp
  · exact (forEach_eq (fun s => s.tests) _ (fun _ _ => by simp) _ _).trans ((forEach_eq (fun s => s.tests) _ (fun _ _ => by simp) _ _).trans (by simp))
@[simp] theorem State.arbitrate_power (l : List Ch) : (s.arbitrate l).power = s.power := by
  unfold State.arbitrate; dsimp only; split
  · simp
  · exact (forEach_eq (fun s => s.power) _ (fun _ _ => by simp) _ _).trans ((forEach_eq (fun s => s.power) _ (fun _ _ => by simp) _ _).trans (by simp))
@[simp] theorem State.arbitrate_life (l : List Ch) : (s.arbitrate l).life = s.life := by
  unfold State.arbitrate; dsimp only; split
  · simp
  · exact (forEach_eq (fun s => s.life) _ (fun _ _ => by simp) _ _).trans ((forEach_eq (fun s => s.life) _ (fun _ _ => by simp) _ _).trans (by simp))
@[simp] theorem State.arbitrate_su (l : List Ch) : (s.arbitrate l).su = s.su := by
  unfold State.arbitrate; dsimp only; split
  · simp
  · exact (forEach_eq (fun s => s.su) _ (fun _ _ => by simp) _ _).trans ((forEach_eq (fun s => s.su) _ (fun _ _ => by simp) _ _).trans (by simp))
@[simp] theorem State.arbitrate_marks (l : List Ch) : (s.arbitrate l).marks = s.marks := by
  unfold State.arbitrate; dsimp only; split
  · simp
  · exact (forEach_eq (fun s => s.marks) _ (fun _ _ => by simp) _ _).trans ((forEach_eq (fun s => s.marks) _ (fun _ _ => by simp) _ _).trans (by simp))
@[simp] theorem State.arbitrate_pending (l : List Ch) : (s.arbitrate l).pending = s.pending := by
  unfold State.arbitrate; dsimp only; split
  · simp
  · exact (forEach_eq (fun s => s.pending) _ (fun _ _ => by simp) _ _).trans ((forEach_eq (fun s => s.pending) _ (fun _ _ => by simp) _ _).trans (by simp))

-- channelFault

@[simp] theorem State.channelFault_now (c : Ch) (a : Nat) : (s.channelFault c a).now = s.now := by
  unfold State.channelFault; dsimp only; repeat' split
  all_goals simp
@[simp] theorem State.channelFault_arch (c : Ch) (a : Nat) : (s.channelFault c a).arch = s.arch := by
  unfold State.channelFault; dsimp only; repeat' split
  all_goals simp
@[simp] theorem State.channelFault_kdp (c : Ch) (a : Nat) : (s.channelFault c a).kdp = s.kdp := by
  unfold State.channelFault; dsimp only; repeat' split
  all_goals simp
@[simp] theorem State.channelFault_ports (c : Ch) (a : Nat) : (s.channelFault c a).ports = s.ports := by
  unfold State.channelFault; dsimp only; repeat' split
  all_goals simp
@[simp] theorem State.channelFault_sems (c : Ch) (a : Nat) : (s.channelFault c a).sems = s.sems := by
  unfold State.channelFault; dsimp only; repeat' split
  all_goals simp
@[simp] theorem State.channelFault_convs (c : Ch) (a : Nat) : (s.channelFault c a).convs = s.convs := by
  unfold State.channelFault; dsimp only; repeat' split
  all_goals simp
@[simp] theorem State.channelFault_fports (c : Ch) (a : Nat) : (s.channelFault c a).fports = s.fports := by
  unfold State.channelFault; dsimp only; repeat' split
  all_goals simp
@[simp] theorem State.channelFault_sports (c : Ch) (a : Nat) : (s.channelFault c a).sports = s.sports := by
  unfold State.channelFault; dsimp only; repeat' split
  all_goals simp
@[simp] theorem State.channelFault_gens (c : Ch) (a : Nat) : (s.channelFault c a).gens = s.gens := by
  unfold State.channelFault; dsimp only; repeat' split
  all_goals simp
@[simp] theorem State.channelFault_groups (c : Ch) (a : Nat) : (s.channelFault c a).groups = s.groups := by
  unfold State.channelFault; dsimp only; repeat' split
  all_goals simp
@[simp] theorem State.channelFault_slots (c : Ch) (a : Nat) : (s.channelFault c a).slots = s.slots := by
  unfold State.channelFault; dsimp only; repeat' split
  all_goals simp
@[simp] theorem State.channelFault_tests (c : Ch) (a : Nat) : (s.channelFault c a).tests = s.tests := by
  unfold State.channelFault; dsimp only; repeat' split
  all_goals simp
@[simp] theorem State.channelFault_life (c : Ch) (a : Nat) : (s.channelFault c a).life = s.life := by
  unfold State.channelFault; dsimp only; repeat' split
  all_goals simp
@[simp] theorem State.channelFault_su (c : Ch) (a : Nat) : (s.channelFault c a).su = s.su := by
  unfold State.channelFault; dsimp only; repeat' split
  all_goals simp
@[simp] theorem State.channelFault_marks (c : Ch) (a : Nat) : (s.channelFault c a).marks = s.marks := by
  unfold State.channelFault; dsimp only; repeat' split
  all_goals simp
@[simp] theorem State.channelFault_pending (c : Ch) (a : Nat) : (s.channelFault c a).pending = s.pending := by
  unfold State.channelFault; dsimp only; repeat' split
  all_goals simp

-- the channels declared faulty

/-- Entering a state declares no channel faulty. -/
@[simp] theorem State.enter_faulty (r : RState) : (s.enter r).red.faulty = s.red.faulty := by
  unfold State.enter; dsimp only; repeat' split
  all_goals simp
@[simp] theorem State.startupPassive_faulty : s.startupPassive.red.faulty = s.red.faulty := by
  unfold State.startupPassive; split <;> simp
@[simp] theorem State.seedTwin_faulty (c : Ch) : (s.seedTwin c).red.faulty = s.red.faulty := by simp
@[simp] theorem State.arbitrate_faulty (l : List Ch) : (s.arbitrate l).red.faulty = s.red.faulty := by
  unfold State.arbitrate; dsimp only; split
  · simp
  · exact (forEach_eq (fun s => s.red.faulty) _ (fun _ _ => by simp) _ _).trans
      ((forEach_eq (fun s => s.red.faulty) _ (fun _ _ => by simp) _ _).trans (by simp))

/-- A declaration names its channel and leaves the others (R309). -/
@[simp] theorem State.declare_faulty (c : Ch) (a : Nat) : (s.declare c a).red.faulty = s.red.faulty.set c true := by
  unfold State.declare; dsimp only; simp

/-- After a channel fault the channel is faulty, whatever state follows (R309, R310). -/
theorem State.channelFault_faulty (c : Ch) (a : Nat) : (s.channelFault c a).red.faulty.get c = true := by
  have h : ∀ t : Trio Bool, (t.set c true).get c = true := fun t => by cases c <;> rfl
  unfold State.channelFault; dsimp only
  split
  · simpa using ‹_›
  · repeat' split
    all_goals simp [h]

/-- A channel fault ends no other channel's (R312). -/
theorem State.channelFault_keeps (c d : Ch) (a : Nat) (hd : s.red.faulty.get d = true) :
    (s.channelFault c a).red.faulty.get d = true := by
  have h : ∀ t : Trio Bool, t.get d = true → (t.set c true).get d = true := fun t => by cases c <;> cases d <;> simp [Trio.set, Trio.get]
  unfold State.channelFault; dsimp only
  repeat' split
  all_goals simp [hd, h]

-- the record of a channel

/-- A channel's own partition and its own slot of the common area pass the firewall (R16). -/
theorem dramWriter_partition (c : Ch) : dramWriter (partitionOf c) = some c := by cases c <;> rfl
theorem dramWriter_slot (c : Ch) : dramWriter (commonSlotOf c) = some c := by cases c <;> rfl

/-- A write to the own partition, or to the own slot, is made (R16). -/
@[simp] theorem Sed.dramWrite_partition (d : Sed) (c : Ch) (f : Sed → Sed) : d.dramWrite c (partitionOf c) f = f d := by
  simp [Sed.dramWrite, dramWriter_partition]
@[simp] theorem Sed.dramWrite_slot (d : Sed) (c : Ch) (f : Sed → Sed) : d.dramWrite c (commonSlotOf c) f = f d := by
  simp [Sed.dramWrite, dramWriter_slot]

/-- A write outside a channel's regions is blocked and counted (R16). -/
theorem Sed.dramWrite_foreign (d : Sed) (c : Ch) (a : Nat) (f : Sed → Sed) (h : dramWriter a ≠ some c) :
    d.dramWrite c a f = { d with blocked := d.blocked + 1 } := by simp [Sed.dramWrite, h]

@[simp] theorem Sed.count_trace (d : Sed) (t a b : Nat) : (d.count t a b).trace = d.trace := by
  unfold Sed.count; repeat' split
  all_goals rfl
@[simp] theorem Sed.count_dramReady (d : Sed) (t a b : Nat) : (d.count t a b).dramReady = d.dramReady := by
  unfold Sed.count; repeat' split
  all_goals rfl
@[simp] theorem Sed.count_dramFault (d : Sed) (t a b : Nat) : (d.count t a b).dramFault = d.dramFault := by
  unfold Sed.count; repeat' split
  all_goals rfl
@[simp] theorem Sed.count_frozen (d : Sed) (t a b : Nat) : (d.count t a b).frozen = d.frozen := by
  unfold Sed.count; repeat' split
  all_goals rfl
@[simp] theorem Sed.count_copy (d : Sed) (t a b : Nat) : (d.count t a b).copy = d.copy := by
  unfold Sed.count; repeat' split
  all_goals rfl
@[simp] theorem Sed.count_merged (d : Sed) (t a b : Nat) : (d.count t a b).merged = d.merged := by
  unfold Sed.count; repeat' split
  all_goals rfl
@[simp] theorem Sed.count_slots (d : Sed) (t a b : Nat) : (d.count t a b).slots = d.slots := by
  unfold Sed.count; repeat' split
  all_goals rfl
@[simp] theorem Sed.count_sumSeq (d : Sed) (t a b : Nat) : (d.count t a b).sumSeq = d.sumSeq := by
  unfold Sed.count; repeat' split
  all_goals rfl
@[simp] theorem Sed.count_common (d : Sed) (t a b : Nat) : (d.count t a b).common = d.common := by
  unfold Sed.count; repeat' split
  all_goals rfl
@[simp] theorem Sed.count_corrected (d : Sed) (t a b : Nat) : (d.count t a b).corrected = d.corrected := by
  unfold Sed.count; repeat' split
  all_goals rfl
@[simp] theorem Sed.count_invalid (d : Sed) (t a b : Nat) : (d.count t a b).invalid = d.invalid := by
  unfold Sed.count; repeat' split
  all_goals rfl
@[simp] theorem Sed.count_blocked (d : Sed) (t a b : Nat) : (d.count t a b).blocked = d.blocked := by
  unfold Sed.count; repeat' split
  all_goals rfl
@[simp] theorem Sed.count_shadow (d : Sed) (t a b : Nat) : (d.count t a b).shadow = d.shadow := by
  unfold Sed.count; repeat' split
  all_goals rfl
@[simp] theorem Sed.count_ring (d : Sed) (t a b : Nat) : (d.count t a b).ring = d.ring := by
  unfold Sed.count; repeat' split
  all_goals rfl
@[simp] theorem Sed.add_trace (d : Sed) (e : SedEvent) : (d.add e).trace = d.trace := by
  unfold Sed.add; dsimp only; split <;> simp
@[simp] theorem Sed.add_dramReady (d : Sed) (e : SedEvent) : (d.add e).dramReady = d.dramReady := by
  unfold Sed.add; dsimp only; split <;> simp
@[simp] theorem Sed.add_dramFault (d : Sed) (e : SedEvent) : (d.add e).dramFault = d.dramFault := by
  unfold Sed.add; dsimp only; split <;> simp
@[simp] theorem Sed.add_frozen (d : Sed) (e : SedEvent) : (d.add e).frozen = d.frozen := by
  unfold Sed.add; dsimp only; split <;> simp
@[simp] theorem Sed.add_copy (d : Sed) (e : SedEvent) : (d.add e).copy = d.copy := by
  unfold Sed.add; dsimp only; split <;> simp
@[simp] theorem Sed.add_merged (d : Sed) (e : SedEvent) : (d.add e).merged = d.merged := by
  unfold Sed.add; dsimp only; split <;> simp
@[simp] theorem Sed.add_slots (d : Sed) (e : SedEvent) : (d.add e).slots = d.slots := by
  unfold Sed.add; dsimp only; split <;> simp
@[simp] theorem Sed.add_sumSeq (d : Sed) (e : SedEvent) : (d.add e).sumSeq = d.sumSeq := by
  unfold Sed.add; dsimp only; split <;> simp
@[simp] theorem Sed.add_common (d : Sed) (e : SedEvent) : (d.add e).common = d.common := by
  unfold Sed.add; dsimp only; split <;> simp
@[simp] theorem Sed.add_corrected (d : Sed) (e : SedEvent) : (d.add e).corrected = d.corrected := by
  unfold Sed.add; dsimp only; split <;> simp
@[simp] theorem Sed.add_invalid (d : Sed) (e : SedEvent) : (d.add e).invalid = d.invalid := by
  unfold Sed.add; dsimp only; split <;> simp
@[simp] theorem Sed.add_blocked (d : Sed) (e : SedEvent) : (d.add e).blocked = d.blocked := by
  unfold Sed.add; dsimp only; split <;> simp
@[simp] theorem Sed.add_wins (d : Sed) (e : SedEvent) : (d.add e).wins = d.wins := by
  unfold Sed.add; dsimp only; split <;> simp
@[simp] theorem State.logC_sed_trace (c d : Ch) (a b : Nat) (l : List Byte) : ((s.logC c a b l).sed.get d).trace = (s.sed.get d).trace := by
  unfold State.logC; dsimp only; repeat' split
  all_goals first | rfl | skip
  all_goals simp only [State.bumpR_sed, State.updSed]
  all_goals by_cases hcd : d = c
  all_goals first | (subst hcd; simp) | simp [Trio.get_upd_ne _ _ hcd]
@[simp] theorem State.logDev_sed_trace (d : Ch) (a b : Nat) (l : List Byte) : ((s.logDev a b l).sed.get d).trace = (s.sed.get d).trace := by
  unfold State.logDev; exact forEach_eq (fun s => (s.sed.get d).trace) _ (fun _ _ => by simp) _ _
@[simp] theorem State.logC_sed_dramReady (c d : Ch) (a b : Nat) (l : List Byte) : ((s.logC c a b l).sed.get d).dramReady = (s.sed.get d).dramReady := by
  unfold State.logC; dsimp only; repeat' split
  all_goals first | rfl | skip
  all_goals simp only [State.bumpR_sed, State.updSed]
  all_goals by_cases hcd : d = c
  all_goals first | (subst hcd; simp) | simp [Trio.get_upd_ne _ _ hcd]
@[simp] theorem State.logDev_sed_dramReady (d : Ch) (a b : Nat) (l : List Byte) : ((s.logDev a b l).sed.get d).dramReady = (s.sed.get d).dramReady := by
  unfold State.logDev; exact forEach_eq (fun s => (s.sed.get d).dramReady) _ (fun _ _ => by simp) _ _
@[simp] theorem State.logC_sed_dramFault (c d : Ch) (a b : Nat) (l : List Byte) : ((s.logC c a b l).sed.get d).dramFault = (s.sed.get d).dramFault := by
  unfold State.logC; dsimp only; repeat' split
  all_goals first | rfl | skip
  all_goals simp only [State.bumpR_sed, State.updSed]
  all_goals by_cases hcd : d = c
  all_goals first | (subst hcd; simp) | simp [Trio.get_upd_ne _ _ hcd]
@[simp] theorem State.logDev_sed_dramFault (d : Ch) (a b : Nat) (l : List Byte) : ((s.logDev a b l).sed.get d).dramFault = (s.sed.get d).dramFault := by
  unfold State.logDev; exact forEach_eq (fun s => (s.sed.get d).dramFault) _ (fun _ _ => by simp) _ _
@[simp] theorem State.logC_sed_frozen (c d : Ch) (a b : Nat) (l : List Byte) : ((s.logC c a b l).sed.get d).frozen = (s.sed.get d).frozen := by
  unfold State.logC; dsimp only; repeat' split
  all_goals first | rfl | skip
  all_goals simp only [State.bumpR_sed, State.updSed]
  all_goals by_cases hcd : d = c
  all_goals first | (subst hcd; simp) | simp [Trio.get_upd_ne _ _ hcd]
@[simp] theorem State.logDev_sed_frozen (d : Ch) (a b : Nat) (l : List Byte) : ((s.logDev a b l).sed.get d).frozen = (s.sed.get d).frozen := by
  unfold State.logDev; exact forEach_eq (fun s => (s.sed.get d).frozen) _ (fun _ _ => by simp) _ _
@[simp] theorem State.logC_sed_copy (c d : Ch) (a b : Nat) (l : List Byte) : ((s.logC c a b l).sed.get d).copy = (s.sed.get d).copy := by
  unfold State.logC; dsimp only; repeat' split
  all_goals first | rfl | skip
  all_goals simp only [State.bumpR_sed, State.updSed]
  all_goals by_cases hcd : d = c
  all_goals first | (subst hcd; simp) | simp [Trio.get_upd_ne _ _ hcd]
@[simp] theorem State.logDev_sed_copy (d : Ch) (a b : Nat) (l : List Byte) : ((s.logDev a b l).sed.get d).copy = (s.sed.get d).copy := by
  unfold State.logDev; exact forEach_eq (fun s => (s.sed.get d).copy) _ (fun _ _ => by simp) _ _
@[simp] theorem State.logC_sed_merged (c d : Ch) (a b : Nat) (l : List Byte) : ((s.logC c a b l).sed.get d).merged = (s.sed.get d).merged := by
  unfold State.logC; dsimp only; repeat' split
  all_goals first | rfl | skip
  all_goals simp only [State.bumpR_sed, State.updSed]
  all_goals by_cases hcd : d = c
  all_goals first | (subst hcd; simp) | simp [Trio.get_upd_ne _ _ hcd]
@[simp] theorem State.logDev_sed_merged (d : Ch) (a b : Nat) (l : List Byte) : ((s.logDev a b l).sed.get d).merged = (s.sed.get d).merged := by
  unfold State.logDev; exact forEach_eq (fun s => (s.sed.get d).merged) _ (fun _ _ => by simp) _ _
@[simp] theorem State.logC_sed_slots (c d : Ch) (a b : Nat) (l : List Byte) : ((s.logC c a b l).sed.get d).slots = (s.sed.get d).slots := by
  unfold State.logC; dsimp only; repeat' split
  all_goals first | rfl | skip
  all_goals simp only [State.bumpR_sed, State.updSed]
  all_goals by_cases hcd : d = c
  all_goals first | (subst hcd; simp) | simp [Trio.get_upd_ne _ _ hcd]
@[simp] theorem State.logDev_sed_slots (d : Ch) (a b : Nat) (l : List Byte) : ((s.logDev a b l).sed.get d).slots = (s.sed.get d).slots := by
  unfold State.logDev; exact forEach_eq (fun s => (s.sed.get d).slots) _ (fun _ _ => by simp) _ _
@[simp] theorem State.logC_sed_sumSeq (c d : Ch) (a b : Nat) (l : List Byte) : ((s.logC c a b l).sed.get d).sumSeq = (s.sed.get d).sumSeq := by
  unfold State.logC; dsimp only; repeat' split
  all_goals first | rfl | skip
  all_goals simp only [State.bumpR_sed, State.updSed]
  all_goals by_cases hcd : d = c
  all_goals first | (subst hcd; simp) | simp [Trio.get_upd_ne _ _ hcd]
@[simp] theorem State.logDev_sed_sumSeq (d : Ch) (a b : Nat) (l : List Byte) : ((s.logDev a b l).sed.get d).sumSeq = (s.sed.get d).sumSeq := by
  unfold State.logDev; exact forEach_eq (fun s => (s.sed.get d).sumSeq) _ (fun _ _ => by simp) _ _
@[simp] theorem State.logC_sed_common (c d : Ch) (a b : Nat) (l : List Byte) : ((s.logC c a b l).sed.get d).common = (s.sed.get d).common := by
  unfold State.logC; dsimp only; repeat' split
  all_goals first | rfl | skip
  all_goals simp only [State.bumpR_sed, State.updSed]
  all_goals by_cases hcd : d = c
  all_goals first | (subst hcd; simp) | simp [Trio.get_upd_ne _ _ hcd]
@[simp] theorem State.logDev_sed_common (d : Ch) (a b : Nat) (l : List Byte) : ((s.logDev a b l).sed.get d).common = (s.sed.get d).common := by
  unfold State.logDev; exact forEach_eq (fun s => (s.sed.get d).common) _ (fun _ _ => by simp) _ _
@[simp] theorem State.logC_sed_corrected (c d : Ch) (a b : Nat) (l : List Byte) : ((s.logC c a b l).sed.get d).corrected = (s.sed.get d).corrected := by
  unfold State.logC; dsimp only; repeat' split
  all_goals first | rfl | skip
  all_goals simp only [State.bumpR_sed, State.updSed]
  all_goals by_cases hcd : d = c
  all_goals first | (subst hcd; simp) | simp [Trio.get_upd_ne _ _ hcd]
@[simp] theorem State.logDev_sed_corrected (d : Ch) (a b : Nat) (l : List Byte) : ((s.logDev a b l).sed.get d).corrected = (s.sed.get d).corrected := by
  unfold State.logDev; exact forEach_eq (fun s => (s.sed.get d).corrected) _ (fun _ _ => by simp) _ _
@[simp] theorem State.logC_sed_invalid (c d : Ch) (a b : Nat) (l : List Byte) : ((s.logC c a b l).sed.get d).invalid = (s.sed.get d).invalid := by
  unfold State.logC; dsimp only; repeat' split
  all_goals first | rfl | skip
  all_goals simp only [State.bumpR_sed, State.updSed]
  all_goals by_cases hcd : d = c
  all_goals first | (subst hcd; simp) | simp [Trio.get_upd_ne _ _ hcd]
@[simp] theorem State.logDev_sed_invalid (d : Ch) (a b : Nat) (l : List Byte) : ((s.logDev a b l).sed.get d).invalid = (s.sed.get d).invalid := by
  unfold State.logDev; exact forEach_eq (fun s => (s.sed.get d).invalid) _ (fun _ _ => by simp) _ _
@[simp] theorem State.logC_sed_blocked (c d : Ch) (a b : Nat) (l : List Byte) : ((s.logC c a b l).sed.get d).blocked = (s.sed.get d).blocked := by
  unfold State.logC; dsimp only; repeat' split
  all_goals first | rfl | skip
  all_goals simp only [State.bumpR_sed, State.updSed]
  all_goals by_cases hcd : d = c
  all_goals first | (subst hcd; simp) | simp [Trio.get_upd_ne _ _ hcd]
@[simp] theorem State.logDev_sed_blocked (d : Ch) (a b : Nat) (l : List Byte) : ((s.logDev a b l).sed.get d).blocked = (s.sed.get d).blocked := by
  unfold State.logDev; exact forEach_eq (fun s => (s.sed.get d).blocked) _ (fun _ _ => by simp) _ _

end Sys2Proof.Machine
end

