-- ==== Sys2Proof/Laws/UpTo.lean ====
section
/-! SUPPORT. What the passing of time leaves as it reads. -/

namespace Sys2Proof.Machine

variable (s : State) (t : Nat)

@[simp] theorem State.upTo_g (c : Ch) (o : Obj) : (s.upTo t).g c o = s.g c o := rfl
@[simp] theorem State.upTo_v (o : Obj) : (s.upTo t).v o = s.v o := rfl
@[simp] theorem State.upTo_vn (o : Obj) : (s.upTo t).vn o = s.vn o := rfl
@[simp] theorem State.upTo_gn (c : Ch) (o : Obj) : (s.upTo t).gn c o = s.gn c o := rfl
@[simp] theorem State.upTo_isBit (o : Obj) (n : Nat) : (s.upTo t).isBit o n = s.isBit o n := rfl
@[simp] theorem State.upTo_isBitC (c : Ch) (o : Obj) (n : Nat) : (s.upTo t).isBitC c o n = s.isBitC c o n := rfl
@[simp] theorem State.upTo_str (c : Ch) (o : Obj) : (s.upTo t).str c o = s.str c o := rfl
@[simp] theorem State.upTo_conv (c : Ch) (n : Nat) : (s.upTo t).conv c n = s.conv c n := rfl
@[simp] theorem State.upTo_grp (c : Ch) (n : Nat) : (s.upTo t).grp c n = s.grp c n := rfl
@[simp] theorem State.upTo_diag (c : Ch) (n : Nat) : (s.upTo t).diag c n = s.diag c n := rfl
@[simp] theorem State.upTo_fport (c : Ch) (n : Nat) : (s.upTo t).fport c n = s.fport c n := rfl
@[simp] theorem State.upTo_sport (c : Ch) (n : Nat) : (s.upTo t).sport c n = s.sport c n := rfl
@[simp] theorem State.upTo_tracker (c : Ch) (n : Nat) : (s.upTo t).tracker c n = s.tracker c n := rfl
@[simp] theorem State.upTo_slot (c : Ch) (n : Nat) : (s.upTo t).slot c n = s.slot c n := rfl
@[simp] theorem State.upTo_arm (c : Ch) (n : Nat) : (s.upTo t).arm c n = s.arm c n := rfl
@[simp] theorem State.upTo_test (c : Ch) (n : Nat) : (s.upTo t).test c n = s.test c n := rfl
@[simp] theorem State.upTo_driver (c : Ch) (n : Nat) : (s.upTo t).driver c n = s.driver c n := rfl
@[simp] theorem State.upTo_spi (c : Ch) (n : Nat) : (s.upTo t).spi c n = s.spi c n := rfl
@[simp] theorem State.upTo_port (n : Nat) : (s.upTo t).port n = s.port n := rfl
@[simp] theorem State.upTo_sem (n : Nat) : (s.upTo t).sem n = s.sem n := rfl
@[simp] theorem State.upTo_axis (n : Nat) : (s.upTo t).axis n = s.axis n := rfl
@[simp] theorem State.upTo_gen (n : Nat) : (s.upTo t).gen n = s.gen n := rfl
@[simp] theorem State.upTo_group (n : Nat) : (s.upTo t).group n = s.group n := rfl
@[simp] theorem State.upTo_task (n : Nat) : (s.upTo t).task n = s.task n := rfl
@[simp] theorem State.upTo_trace (n : Nat) : (s.upTo t).trace n = s.trace n := rfl
@[simp] theorem State.upTo_stream (n : Nat) : (s.upTo t).stream n = s.stream n := rfl
@[simp] theorem State.upTo_dobj (c : Ch) (o : Nat) : (s.upTo t).dobj c o = s.dobj c o := rfl
@[simp] theorem State.upTo_taskSt (c : Ch) (k : Nat) : (s.upTo t).taskSt c k = s.taskSt c k := rfl
@[simp] theorem State.upTo_takesPart (c : Ch) : (s.upTo t).takesPart c = s.takesPart c := rfl
@[simp] theorem State.upTo_running (c : Ch) : (s.upTo t).running c = s.running c := rfl
@[simp] theorem State.upTo_voters : (s.upTo t).voters = s.voters := rfl
@[simp] theorem State.upTo_receives : (s.upTo t).receives = s.receives := rfl
@[simp] theorem State.upTo_free : (s.upTo t).free = s.free := rfl
@[simp] theorem State.upTo_taskAxis (k : Nat) : (s.upTo t).taskAxis k = s.taskAxis k := rfl
@[simp] theorem State.upTo_sourceOf (n : Nat) : (s.upTo t).sourceOf n = s.sourceOf n := rfl
@[simp] theorem State.upTo_bridgeOf (n : Nat) : (s.upTo t).bridgeOf n = s.bridgeOf n := rfl
@[simp] theorem State.upTo_axisOf (c : Ch) (k : Nat) : (s.upTo t).axisOf c k = s.axisOf c k := rfl
@[simp] theorem State.upTo_plane (c : Ch) : (s.upTo t).plane c = s.plane c := rfl
@[simp] theorem State.upTo_enabledTasks : (s.upTo t).enabledTasks = s.enabledTasks := rfl
@[simp] theorem State.upTo_isMajority (m : Trio Bool) : (s.upTo t).isMajority m = s.isMajority m := rfl
@[simp] theorem State.upTo_reaction (n : Nat) : (s.upTo t).reaction n = s.reaction n := rfl
@[simp] theorem State.upTo_isDq (k : Nat) : (s.upTo t).isDq k = s.isDq k := rfl
@[simp] theorem State.upTo_iterates (k : Nat) : (s.upTo t).iterates k = s.iterates k := rfl
@[simp] theorem State.upTo_taskTy (k : Nat) : (s.upTo t).taskTy k = s.taskTy k := rfl
@[simp] theorem State.upTo_strapPath (x y : Ch) : (s.upTo t).strapPath x y = s.strapPath x y := rfl
@[simp] theorem State.upTo_linkDown (l : Link) : (s.upTo t).linkDown l = s.linkDown l := rfl
@[simp] theorem State.upTo_now : (s.upTo t).now = max s.now t := rfl

end Sys2Proof.Machine
end

