-- ==== Sys2Proof/Laws/Host.lean ====
section
/-! SUPPORT. What a request of a row does when it is taken: the object's own effect, and the answer. -/

namespace Sys2Proof.Machine

/-- Without writes that are due, every write stays. -/
theorem State.noneDue_keeps {s : State} (h : s.noneDue = true) :
    s.kdp.writes.filter (fun w => w.sluice.isSome || !(w.due ≤ s.now)) = s.kdp.writes :=
  List.filter_eq_self.2 (List.all_eq_true.1 h)

/-- Those that are due are requests to semaphores. -/
theorem State.noneDue_due {s : State} (h : s.noneDue = true) :
    ∀ w ∈ s.kdp.writes.filter (fun w => w.due ≤ s.now), w.sluice.isSome = true := by
  intro w hw
  obtain ⟨h1, h2⟩ := List.mem_filter.1 hw
  have := List.all_eq_true.1 h w h1
  simp_all

/-- What is put into an ordered list is in it, with what was there. -/
theorem mem_insertBy {α : Type} (b : α → α → Bool) (x y : α) (l : List α) (h : y ∈ insertBy b x l) : y = x ∨ y ∈ l := by
  induction l with
  | nil => simpa [insertBy] using h
  | cons z l ih =>
    unfold insertBy at h
    split at h
    · simpa using h
    · rcases List.mem_cons.1 h with h | h
      · simp [h]
      · rcases ih h with h | h <;> simp [h]

/-- What is put in order has the members of the list. -/
theorem mem_foldl_insertBy {α : Type} (b : α → α → Bool) (l : List α) (m : List α) (y : α)
    (h : y ∈ l.foldl (fun l w => insertBy b w l) m) : y ∈ l ∨ y ∈ m := by
  induction l generalizing m with
  | nil => exact .inr h
  | cons z l ih =>
    rcases ih _ h with h | h
    · simp [h]
    · rcases mem_insertBy _ _ _ _ h with h | h <;> simp [h]

/-- Where a predicate shuts out the members, it shuts them out of the ordered list; one more is then alone. -/
theorem filter_foldl_insertBy {α : Type} (b : α → α → Bool) (p : α → Bool) (l m : List α) (h : ∀ y ∈ l, p y = false) :
    (l.foldl (fun l w => insertBy b w l) m).filter p = m.filter p := by
  have hi : ∀ (x : α) (m : List α), p x = false → (insertBy b x m).filter p = m.filter p := by
    intro x m hx
    induction m with
    | nil => simp [insertBy, hx]
    | cons z m ih =>
      unfold insertBy
      split
      · simp [hx]
      · simp only [List.filter_cons, ih]
  induction l generalizing m with
  | nil => rfl
  | cons z l ih =>
    rw [List.foldl_cons, ih _ fun y hy => h y (List.mem_cons_of_mem _ hy), hi _ _ (h z (List.mem_cons_self ..))]

/-- Without writes that are due, nothing is applied. -/
theorem State.applyDue_none (s : State) (h : s.noneDue = true) : s.applyDue = s := by
  have hd : s.dueWrites.filter (fun w => !w.sluice.isSome) = [] := by
    unfold State.dueWrites
    rw [filter_foldl_insertBy _ _ _ _ fun w hw => by simp [State.noneDue_due h w hw]]
    rfl
  unfold State.applyDue
  simp only [hd, State.noneDue_keeps h, List.foldl_nil, forEach]

theorem State.noteHeard_writes (s : State) (cr : Carrier) : (s.noteHeard cr).kdp = s.kdp := by
  unfold State.noteHeard
  split <;> rfl

@[simp] theorem State.noteHeard_red (s : State) (cr : Carrier) : (s.noteHeard cr).red = s.red := by
  unfold State.noteHeard
  split <;> rfl

@[simp] theorem State.noteHeard_now (s : State) (cr : Carrier) : (s.noteHeard cr).now = s.now := by
  unfold State.noteHeard
  split <;> rfl

@[simp] theorem State.noteHeard_regs (s : State) (cr : Carrier) : (s.noteHeard cr).regs = s.regs := by
  unfold State.noteHeard
  split <;> rfl

-- answers

/-- The request of a row is one. -/
@[simp] theorem State.rowReq_frame (s : State) (cr : Carrier) (svc idx sub : Nat) (data : List Byte) :
    ((s.rowReq cr svc idx sub data).frame.isEmpty) = false := by
  simp [State.rowReq, kdpBytes, leBytes]

@[simp] theorem State.rowReq_tid (s : State) (cr : Carrier) (svc idx sub : Nat) (data : List Byte) :
    (s.rowReq cr svc idx sub data).tid = 0 := by
  simp [State.rowReq, KdpReq.tid, kdpBytes, leBytes, bytesAt, ofLeBytes]

@[simp] theorem State.rowReq_service (s : State) (cr : Carrier) (svc idx sub : Nat) (data : List Byte) :
    (s.rowReq cr svc idx sub data).service = svc % 256 := by
  simp [State.rowReq, KdpReq.service, kdpBytes, leBytes, bytesAt, ofLeBytes]

@[simp] theorem State.rowReq_carrier (s : State) (cr : Carrier) (svc idx sub : Nat) (data : List Byte) :
    (s.rowReq cr svc idx sub data).carrier = cr := rfl

/-- What leaves for the twin and the fabric adds to what the state has sent. -/
theorem State.sendFrame_sent (s : State) (c : Ch) (n d : Nat) (m : Bool) (l : List Byte) {x : Out} (h : x ∈ s.sent) :
    x ∈ (s.sendFrame c n d m l).sent := by
  have hf : ∀ {α : Type} (g : α → Out) (l : List α) (u : State), x ∈ u.sent →
      x ∈ (forEach l u fun s y => s.send (g y)).sent := by
    intro α g l
    induction l with
    | nil => exact fun u h => h
    | cons y l ih => exact fun u h => ih _ (List.mem_cons_of_mem _ h)
  unfold State.sendFrame
  dsimp only
  repeat' split
  all_goals first | exact h | exact hf _ _ _ h

theorem State.sendTo_sent (s : State) (c : Ch) (n d : Nat) (l : List Byte) {x : Out} (h : x ∈ s.sent) :
    x ∈ (s.sendTo c n d l).sent := by
  unfold State.sendTo
  dsimp only
  repeat' split
  all_goals first
    | exact h
    | exact State.sendFrame_sent _ _ _ _ _ _ h
    | exact State.sendFrame_sent _ _ _ _ _ _ (State.sendFrame_sent _ _ _ _ _ _ h)

theorem forEach_mem_sent {α : Type} (f : State → α → State) (hf : ∀ s y x, x ∈ s.sent → x ∈ (f s y).sent) (l : List α)
    (s : State) {x : Out} (h : x ∈ s.sent) : x ∈ (forEach l s f).sent := by
  unfold forEach
  induction l generalizing s with
  | nil => exact h
  | cons y l ih => exact ih _ (hf _ _ _ h)

/-- An answered request has its response among what the state has sent (R70). -/
theorem State.respond_sent (s : State) (r : KdpReq) (code detail : Nat) (last : Bool) (data : List Byte) (tag : Option Nat)
    (hr : r.frame.isEmpty = false) : ∃ who vlan frames,
      Out.response r.carrier who vlan r.tid code detail last data frames ∈ (s.respond r code detail last data tag).sent := by
  unfold State.respond State.sendResponse
  rw [if_neg (by simp [hr])]
  dsimp only
  repeat' split
  all_goals first
    | exact ⟨_, _, _, List.mem_cons_self ..⟩
    | exact ⟨_, _, _, forEach_mem_sent _ (fun _ _ _ h => State.sendTo_sent _ _ _ _ _ h) _ _ (List.mem_cons_self ..)⟩

/-- What a response leaves alone: everything but the requests, the fabric, what is sent, and the copies of objects. -/
theorem State.respond_keeps {β : Type} (p : State → β) (hs : ∀ s x, p (State.send s x) = p s)
    (ht : ∀ s c n d l, p (State.sendTo s c n d l) = p s) (hb : ∀ s c, p (State.bumpC s c Obj.kdpAbortsSent) = p s)
    (hk : ∀ (s : State) k, p { s with kdp := k } = p s) (s : State) (r : KdpReq) (code detail : Nat) (last : Bool)
    (data : List Byte) (tag : Option Nat) : p (s.respond r code detail last data tag) = p s := by
  have hfe : ∀ {α : Type} (f : State → α → State), (∀ s y, p (f s y) = p s) → ∀ (l : List α) (s : State), p (forEach l s f) = p s := by
    intro α f hf l
    unfold forEach
    induction l with
    | nil => exact fun _ => rfl
    | cons y l ih => exact fun s => (ih _).trans (hf s y)
  have hsend : p (s.sendResponse r r.holders code detail last data (tag.getD (s.vlanTag r.carrier))) = p s := by
    unfold State.sendResponse
    dsimp only
    repeat' split
    all_goals simp only [hfe _ fun _ _ => ht .., hs, hfe _ fun _ _ => hb ..]
  unfold State.respond
  dsimp only
  split
  · rfl
  · rw [hk, hsend]

-- rows

/-- A write of a row whose instant is now takes effect, and its answer leaves (R72). -/
theorem State.enqueue_acts (u : State) (r : KdpReq) (e : Entry) (v : Val) (hu : u.noneDue = true)
    (ht : entryOf e.key = some e) (hr : e.desc.role ≠ .sluiceAg) (hs : e.key ≠ Obj.storeAll.key) :
    u.enqueue { req := r, due := u.now, members := [(e.key, v)] } =
      (u.applyWrite r.carrier e v).respond r 0 r.detail r.last [] (some (u.vlanTag r.carrier)) := by
  have hsl : PendWrite.sluice { req := r, due := u.now, members := [(e.key, v)] } = none := by
    unfold PendWrite.sluice
    cases v with
    | num x => simp only [ht, beq_iff_eq, hr, if_false]
    | bytes b => rfl
  have hst : PendWrite.stores { req := r, due := u.now, members := [(e.key, v)] } = false := by
    simp [PendWrite.stores, hs]
  have hdue : (insertBy PendWrite.before { req := r, due := u.now, members := [(e.key, v)] }
      ((u.kdp.writes.filter fun w => w.due ≤ u.now).foldl (fun l w => insertBy PendWrite.before w l) [])).filter
        (fun w => !w.sluice.isSome) = [{ req := r, due := u.now, members := [(e.key, v)] }] := by
    have h0 : ∀ (m : List PendWrite), (∀ w ∈ m, w.sluice.isSome = true) →
        (insertBy PendWrite.before { req := r, due := u.now, members := [(e.key, v)] } m).filter (fun w => !w.sluice.isSome) =
          [{ req := r, due := u.now, members := [(e.key, v)] }] := by
      intro m
      induction m with
      | nil => intro _; simp [insertBy, hsl]
      | cons z m ih =>
        intro hm
        have hz := hm z (List.mem_cons_self ..)
        have hl : m.filter (fun w => !w.sluice.isSome) = [] := by
          rw [List.filter_eq_nil_iff]
          intro w hw
          simp [hm w (List.mem_cons_of_mem _ hw)]
        unfold insertBy
        split
        · simp only [List.filter_cons, hsl, hz, hl, Option.isSome_none, Bool.not_false, Bool.not_true, Bool.false_eq_true,
            if_true, if_false]
        · simp only [List.filter_cons, hz, Bool.not_true, Bool.false_eq_true, if_false,
            ih fun w hw => hm w (List.mem_cons_of_mem _ hw)]
    refine h0 _ fun w hw => ?_
    rcases mem_foldl_insertBy _ _ _ _ hw with h | h
    · exact State.noneDue_due hu w h
    · simp at h
  have hk := State.noneDue_keeps hu
  unfold State.enqueue
  simp only [Nat.le_refl, if_true]
  unfold State.applyDue State.dueWrites
  simp only [List.filter_append, List.filter_cons, List.filter_nil, hsl, Nat.le_refl, decide_true, Option.isSome_none,
    Bool.not_true, Bool.or_false, Bool.false_eq_true, if_true, if_false, List.foldl_append, List.foldl_cons,
    List.foldl_nil, hdue, hk, List.append_nil, forEach, State.applyMembers, ht]
  unfold State.answerWrite
  simp only [hst, Bool.false_eq_true, if_false]
  rfl

/-- A write that is taken has the effect of its object, and its answer leaves (R72). -/
theorem State.hostWrite_acts {s : State} {t : Nat} {cr : Carrier} {o : Obj} {v : Val} {e : Entry}
    (h : s.writes t cr o v = true) (he : findObj o.index o.sub = some e) (hk : e.key = o.key)
    (hr : e.desc.role ≠ .sluiceAg) (hs : o.key ≠ Obj.storeAll.key) :
    (s.upTo t).hostWrite cr o.index o.sub v = ((s.heard t cr).applyWrite cr e v).respond
      ((s.heard t cr).rowReq cr 2 o.index o.sub (rowBytes o.index o.sub v)) 0 0 false []
      (some ((s.heard t cr).vlanTag cr)) := by
  simp only [State.writes, he, Bool.and_eq_true, Option.isNone_iff_eq_none, beq_iff_eq, Bool.not_eq_true'] at h
  obtain ⟨⟨⟨hw', hrc⟩, hd⟩, ⟨hf, hm⟩, hdue⟩ := h
  have hrc' : (s.upTo t).receives = true := hrc
  have hd' : ((s.upTo t).noteHeard cr).red.reachedDual = true := by rw [State.noteHeard_red]; exact hd
  unfold State.hostWrite
  rw [State.applyDue_none _ hw']
  simp only [hrc', Bool.not_true, Bool.false_eq_true, if_false, hd', he]
  unfold State.submit
  have hf' : ((s.upTo t).noteHeard cr).writeFails (((s.upTo t).noteHeard cr).rawSet e v) cr e v 1 = none := hf
  have hnow : (s.upTo t).now = ((s.upTo t).noteHeard cr).now := (State.noteHeard_now ..).symm
  have hdue' : ((s.upTo t).noteHeard cr).dueOf e ((s.upTo t).noteHeard cr).now = ((s.upTo t).noteHeard cr).now := hdue
  have hm' : ((s.upTo t).noteHeard cr).mustWake e = false := hm
  rw [State.rowReq_carrier, hf']
  simp only [hm', Bool.false_eq_true, if_false, hdue']
  have hu : ((s.upTo t).noteHeard cr).noneDue = true := by
    unfold State.noneDue
    rw [State.noteHeard_writes, State.noteHeard_now]
    exact hw'
  have ht : entryOf e.key = some e := by rw [hk]; exact he
  have hx := State.enqueue_acts ((s.upTo t).noteHeard cr)
    (((s.upTo t).noteHeard cr).rowReq cr 2 o.index o.sub (rowBytes o.index o.sub v)) e v hu ht hr (by rw [hk]; exact hs)
  simpa [KdpReq.detail, KdpReq.last, State.heard] using hx

/-- A read that is taken sends the value, and clears what it clears (R61). -/
theorem State.hostRead_acts {s : State} {t : Nat} {cr : Carrier} {o : Obj} {v : Int} {e : Entry}
    (h : s.reads t cr o v = true) (he : findObj o.index o.sub = some e) :
    (s.upTo t).hostRead cr o = ((s.heard t cr).respond ((s.heard t cr).rowReq cr 1 o.index o.sub []) 0 0 false
      (e.bytes (.num v))).afterRead e := by
  simp only [State.reads, he, Bool.and_eq_true, Option.isNone_iff_eq_none, beq_iff_eq, Bool.not_eq_true'] at h
  obtain ⟨⟨hrc, hd⟩, ⟨hf, hm⟩, hv⟩ := h
  have hrc' : (s.upTo t).receives = true := hrc
  have hd' : (!((s.upTo t).noteHeard cr).red.reachedDual && !earlyReadable o.index) = false := by
    rw [State.noteHeard_red]
    have : (s.red.reachedDual || earlyReadable o.index) = true := hd
    show (!s.red.reachedDual && !earlyReadable o.index) = false
    revert this; cases s.red.reachedDual <;> cases earlyReadable o.index <;> simp
  have hf' : firstAbort (((s.upTo t).noteHeard cr).readFails e) = none := hf
  have hm' : ((s.upTo t).noteHeard cr).mustWake e = false := hm
  have hv' : ((s.upTo t).noteHeard cr).readNum e = some v := hv
  unfold State.hostRead
  simp only [hrc', Bool.not_true, Bool.false_eq_true, if_false, hd', he, hf', hm', hv']
  rfl

/-- A write of a number that is taken, to an object whose entry is known (R72). -/
theorem State.sets_acts {s : State} {t : Nat} {cr : Carrier} {o : Obj} {v : Int} {r : Role} {i j m : Nat} {a : Acc}
    {hm : Home} (h : s.sets t cr o v = true) (he : o.isEntry r i j m a hm = true) (hr : r ≠ .sluiceAg)
    (hs : o.key ≠ Obj.storeAll.key) :
    ∃ e q tag, (e.desc.role = r ∧ e.i = i ∧ e.j = j ∧ e.m = m ∧ e.obj = o ∧ e.key = o.key ∧ e.desc.acc = a ∧
        e.desc.home = hm) ∧
      (((s.heard t cr).applyWrite cr e (.num v)).respond q 0 0 false [] (some tag)).acks cr ∧
      (s.upTo t).hostSet cr o v = ((s.heard t cr).applyWrite cr e (.num v)).respond q 0 0 false [] (some tag) := by
  obtain ⟨e, hf, h1, h2, h3, h4, h5, h6, h7, h8⟩ := Obj.isEntry_elim he
  have hx := State.hostWrite_acts h hf h6 (by rw [h1]; exact hr) hs
  refine ⟨e, _, _, ⟨h1, h2, h3, h4, h5, h6, h7, h8⟩, ?_, hx⟩
  have h := State.respond_sent ((s.heard t cr).applyWrite cr e (.num v))
    ((s.heard t cr).rowReq cr 2 o.index o.sub (rowBytes o.index o.sub (.num v))) 0 0 false []
    (some ((s.heard t cr).vlanTag cr)) (State.rowReq_frame ..)
  rwa [State.rowReq_tid] at h

/-- A read that is taken, of an object whose entry is known (R61). -/
theorem State.reads_acts {s : State} {t : Nat} {cr : Carrier} {o : Obj} {v : Int} {r : Role} {i j m : Nat} {a : Acc}
    {hm : Home} (h : s.reads t cr o v = true) (he : o.isEntry r i j m a hm = true) :
    ∃ e q, (e.desc.role = r ∧ e.i = i ∧ e.j = j ∧ e.m = m ∧ e.obj = o ∧ e.key = o.key ∧ e.desc.acc = a ∧ e.desc.home = hm) ∧
      ((s.heard t cr).respond q 0 0 false (rowBytes o.index o.sub (.num v))).tells cr o v ∧
      (s.upTo t).hostRead cr o =
        ((s.heard t cr).respond q 0 0 false (rowBytes o.index o.sub (.num v))).afterRead e := by
  obtain ⟨e, hf, h1, h2, h3, h4, h5, h6, h7, h8⟩ := Obj.isEntry_elim he
  have hb : rowBytes o.index o.sub (.num v) = e.bytes (.num v) := by simp [rowBytes, hf]
  refine ⟨e, (s.heard t cr).rowReq cr 1 o.index o.sub [], ⟨h1, h2, h3, h4, h5, h6, h7, h8⟩, ?_, ?_⟩
  · have h := State.respond_sent (s.heard t cr) ((s.heard t cr).rowReq cr 1 o.index o.sub []) 0 0 false
      (rowBytes o.index o.sub (.num v)) none (State.rowReq_frame ..)
    rwa [State.rowReq_tid] at h
  · rw [hb]; exact State.hostRead_acts h hf

/-- A write that is neither logged nor a command has just the effect of its object. -/
theorem State.applyWrite_plain (s : State) (cr : Carrier) (e : Entry) (v : Int) (h1 : e.isRws = false)
    (h2 : e.command = none) (h3 : e.desc.role ≠ .restoreDefaults) : s.applyWrite cr e (.num v) = s.writeNum cr e v := by
  have hc : ∀ u : State, u.commandGroup e = none := fun u => by simp [State.commandGroup, h2]
  simp [State.applyWrite, State.logWrite, State.touchUnlock, State.noteCommand, h1, hc, h3]

/-- An accepted write of a number: the log and the unlock, the effect, and the end of a lapse. -/
theorem State.applyWrite_num (s : State) (cr : Carrier) (e : Entry) (v : Int) (h : e.desc.role ≠ .restoreDefaults) :
    s.applyWrite cr e (.num v) =
      ((((s.logWrite cr e (.num v)).touchUnlock cr e).writeNum cr e v).noteCommand cr e) := by
  simp [State.applyWrite, h]

/-- A write that is not logged, of a number. -/
theorem State.applyWrite_rw (s : State) (cr : Carrier) (e : Entry) (v : Int) (h : e.isRws = false)
    (hr : e.desc.role ≠ .restoreDefaults) : s.applyWrite cr e (.num v) = (s.writeNum cr e v).noteCommand cr e := by
  simp [State.applyWrite, State.logWrite, State.touchUnlock, h, hr]

/-- What the change of the log leaves alone. -/
theorem State.logWrite_g (s : State) (cr : Carrier) (e : Entry) (v : Val) (c : Ch) (o : Obj)
    (h : o.key ≠ Obj.clNextSeq.key ∧ o.key ≠ Obj.clLastChain.key ∧ o.key ≠ Obj.clCount.key ∧
      o.key ≠ Obj.clOverwritten.key ∧ o.key ≠ Obj.clBaseChain.key) : (s.logWrite cr e v).g c o = s.g c o := by
  obtain ⟨h1, h2, h3, h4, h5⟩ := h
  unfold State.logWrite State.logChange State.appendLog
  dsimp only
  split
  · rfl
  · split
    · split
      · simp only [State.bumpR]
        rw [State.g_setR_key _ _ _ h3, State.g_setR_key _ _ _ h2, State.g_setR_key _ _ _ h1]
        exact (State.g_setR_key _ _ _ h5).trans (State.g_setR_key _ _ _ h4)
      · simp only [State.bumpR]
        rw [State.g_setR_key _ _ _ h3, State.g_setR_key _ _ _ h2, State.g_setR_key _ _ _ h1]
        rfl
    · simp only [State.bumpR]
      rw [State.g_setR_key _ _ _ h3, State.g_setR_key _ _ _ h2, State.g_setR_key _ _ _ h1]
      rfl

end Sys2Proof.Machine
end

