-- ==== Sys2Proof/Laws/HostFrames.lean ====
section
/-! SUPPORT. What the log of changes, the unlocks, the lapses and the notes of a heard carrier leave alone. -/

namespace Sys2Proof.Machine

set_option Elab.async false

variable (s : State)

@[simp] theorem State.logWrite_now (cr : Carrier) (e : Entry) (v : Val) : (s.logWrite cr e v).now = s.now := by
  unfold State.logWrite State.logChange State.appendLog; dsimp only; repeat' split
  all_goals rfl
@[simp] theorem State.logWrite_strs (cr : Carrier) (e : Entry) (v : Val) : (s.logWrite cr e v).strs = s.strs := by
  unfold State.logWrite State.logChange State.appendLog; dsimp only; repeat' split
  all_goals rfl
@[simp] theorem State.logWrite_arch (cr : Carrier) (e : Entry) (v : Val) : (s.logWrite cr e v).arch = s.arch := by
  unfold State.logWrite State.logChange State.appendLog; dsimp only; repeat' split
  all_goals rfl
@[simp] theorem State.logWrite_kdp (cr : Carrier) (e : Entry) (v : Val) : (s.logWrite cr e v).kdp = s.kdp := by
  unfold State.logWrite State.logChange State.appendLog; dsimp only; repeat' split
  all_goals rfl
@[simp] theorem State.logWrite_ports (cr : Carrier) (e : Entry) (v : Val) : (s.logWrite cr e v).ports = s.ports := by
  unfold State.logWrite State.logChange State.appendLog; dsimp only; repeat' split
  all_goals rfl
@[simp] theorem State.logWrite_sems (cr : Carrier) (e : Entry) (v : Val) : (s.logWrite cr e v).sems = s.sems := by
  unfold State.logWrite State.logChange State.appendLog; dsimp only; repeat' split
  all_goals rfl
@[simp] theorem State.logWrite_convs (cr : Carrier) (e : Entry) (v : Val) : (s.logWrite cr e v).convs = s.convs := by
  unfold State.logWrite State.logChange State.appendLog; dsimp only; repeat' split
  all_goals rfl
@[simp] theorem State.logWrite_grps (cr : Carrier) (e : Entry) (v : Val) : (s.logWrite cr e v).grps = s.grps := by
  unfold State.logWrite State.logChange State.appendLog; dsimp only; repeat' split
  all_goals rfl
@[simp] theorem State.logWrite_diags (cr : Carrier) (e : Entry) (v : Val) : (s.logWrite cr e v).diags = s.diags := by
  unfold State.logWrite State.logChange State.appendLog; dsimp only; repeat' split
  all_goals rfl
@[simp] theorem State.logWrite_fports (cr : Carrier) (e : Entry) (v : Val) : (s.logWrite cr e v).fports = s.fports := by
  unfold State.logWrite State.logChange State.appendLog; dsimp only; repeat' split
  all_goals rfl
@[simp] theorem State.logWrite_sports (cr : Carrier) (e : Entry) (v : Val) : (s.logWrite cr e v).sports = s.sports := by
  unfold State.logWrite State.logChange State.appendLog; dsimp only; repeat' split
  all_goals rfl
@[simp] theorem State.logWrite_trackers (cr : Carrier) (e : Entry) (v : Val) : (s.logWrite cr e v).trackers = s.trackers := by
  unfold State.logWrite State.logChange State.appendLog; dsimp only; repeat' split
  all_goals rfl
@[simp] theorem State.logWrite_axes (cr : Carrier) (e : Entry) (v : Val) : (s.logWrite cr e v).axes = s.axes := by
  unfold State.logWrite State.logChange State.appendLog; dsimp only; repeat' split
  all_goals rfl
@[simp] theorem State.logWrite_gens (cr : Carrier) (e : Entry) (v : Val) : (s.logWrite cr e v).gens = s.gens := by
  unfold State.logWrite State.logChange State.appendLog; dsimp only; repeat' split
  all_goals rfl
@[simp] theorem State.logWrite_groups (cr : Carrier) (e : Entry) (v : Val) : (s.logWrite cr e v).groups = s.groups := by
  unfold State.logWrite State.logChange State.appendLog; dsimp only; repeat' split
  all_goals rfl
@[simp] theorem State.logWrite_tasks (cr : Carrier) (e : Entry) (v : Val) : (s.logWrite cr e v).tasks = s.tasks := by
  unfold State.logWrite State.logChange State.appendLog; dsimp only; repeat' split
  all_goals rfl
@[simp] theorem State.logWrite_traces (cr : Carrier) (e : Entry) (v : Val) : (s.logWrite cr e v).traces = s.traces := by
  unfold State.logWrite State.logChange State.appendLog; dsimp only; repeat' split
  all_goals rfl
@[simp] theorem State.logWrite_slots (cr : Carrier) (e : Entry) (v : Val) : (s.logWrite cr e v).slots = s.slots := by
  unfold State.logWrite State.logChange State.appendLog; dsimp only; repeat' split
  all_goals rfl
@[simp] theorem State.logWrite_arms (cr : Carrier) (e : Entry) (v : Val) : (s.logWrite cr e v).arms = s.arms := by
  unfold State.logWrite State.logChange State.appendLog; dsimp only; repeat' split
  all_goals rfl
@[simp] theorem State.logWrite_tests (cr : Carrier) (e : Entry) (v : Val) : (s.logWrite cr e v).tests = s.tests := by
  unfold State.logWrite State.logChange State.appendLog; dsimp only; repeat' split
  all_goals rfl
@[simp] theorem State.logWrite_drivers (cr : Carrier) (e : Entry) (v : Val) : (s.logWrite cr e v).drivers = s.drivers := by
  unfold State.logWrite State.logChange State.appendLog; dsimp only; repeat' split
  all_goals rfl
@[simp] theorem State.logWrite_spis (cr : Carrier) (e : Entry) (v : Val) : (s.logWrite cr e v).spis = s.spis := by
  unfold State.logWrite State.logChange State.appendLog; dsimp only; repeat' split
  all_goals rfl
@[simp] theorem State.logWrite_objs (cr : Carrier) (e : Entry) (v : Val) : (s.logWrite cr e v).objs = s.objs := by
  unfold State.logWrite State.logChange State.appendLog; dsimp only; repeat' split
  all_goals rfl
@[simp] theorem State.logWrite_red (cr : Carrier) (e : Entry) (v : Val) : (s.logWrite cr e v).red = s.red := by
  unfold State.logWrite State.logChange State.appendLog; dsimp only; repeat' split
  all_goals rfl
@[simp] theorem State.logWrite_sed (cr : Carrier) (e : Entry) (v : Val) : (s.logWrite cr e v).sed = s.sed := by
  unfold State.logWrite State.logChange State.appendLog; dsimp only; repeat' split
  all_goals rfl
@[simp] theorem State.logWrite_place (cr : Carrier) (e : Entry) (v : Val) : (s.logWrite cr e v).place = s.place := by
  unfold State.logWrite State.logChange State.appendLog; dsimp only; repeat' split
  all_goals rfl
@[simp] theorem State.logWrite_fab (cr : Carrier) (e : Entry) (v : Val) : (s.logWrite cr e v).fab = s.fab := by
  unfold State.logWrite State.logChange State.appendLog; dsimp only; repeat' split
  all_goals rfl
@[simp] theorem State.logWrite_twin (cr : Carrier) (e : Entry) (v : Val) : (s.logWrite cr e v).twin = s.twin := by
  unfold State.logWrite State.logChange State.appendLog; dsimp only; repeat' split
  all_goals rfl
@[simp] theorem State.logWrite_power (cr : Carrier) (e : Entry) (v : Val) : (s.logWrite cr e v).power = s.power := by
  unfold State.logWrite State.logChange State.appendLog; dsimp only; repeat' split
  all_goals rfl
@[simp] theorem State.logWrite_life (cr : Carrier) (e : Entry) (v : Val) : (s.logWrite cr e v).life = s.life := by
  unfold State.logWrite State.logChange State.appendLog; dsimp only; repeat' split
  all_goals rfl
@[simp] theorem State.logWrite_su (cr : Carrier) (e : Entry) (v : Val) : (s.logWrite cr e v).su = s.su := by
  unfold State.logWrite State.logChange State.appendLog; dsimp only; repeat' split
  all_goals rfl
@[simp] theorem State.logWrite_marks (cr : Carrier) (e : Entry) (v : Val) : (s.logWrite cr e v).marks = s.marks := by
  unfold State.logWrite State.logChange State.appendLog; dsimp only; repeat' split
  all_goals rfl
@[simp] theorem State.logWrite_used (cr : Carrier) (e : Entry) (v : Val) : (s.logWrite cr e v).used = s.used := by
  unfold State.logWrite State.logChange State.appendLog; dsimp only; repeat' split
  all_goals rfl
@[simp] theorem State.logWrite_sent (cr : Carrier) (e : Entry) (v : Val) : (s.logWrite cr e v).sent = s.sent := by
  unfold State.logWrite State.logChange State.appendLog; dsimp only; repeat' split
  all_goals rfl
@[simp] theorem State.logWrite_pending (cr : Carrier) (e : Entry) (v : Val) : (s.logWrite cr e v).pending = s.pending := by
  unfold State.logWrite State.logChange State.appendLog; dsimp only; repeat' split
  all_goals rfl

@[simp] theorem State.touchUnlock_now (cr : Carrier) (e : Entry) : (s.touchUnlock cr e).now = s.now := by
  unfold State.touchUnlock; split <;> rfl
@[simp] theorem State.touchUnlock_strs (cr : Carrier) (e : Entry) : (s.touchUnlock cr e).strs = s.strs := by
  unfold State.touchUnlock; split <;> rfl
@[simp] theorem State.touchUnlock_arch (cr : Carrier) (e : Entry) : (s.touchUnlock cr e).arch = s.arch := by
  unfold State.touchUnlock; split <;> rfl
@[simp] theorem State.touchUnlock_kdp (cr : Carrier) (e : Entry) : (s.touchUnlock cr e).kdp = s.kdp := by
  unfold State.touchUnlock; split <;> rfl
@[simp] theorem State.touchUnlock_ports (cr : Carrier) (e : Entry) : (s.touchUnlock cr e).ports = s.ports := by
  unfold State.touchUnlock; split <;> rfl
@[simp] theorem State.touchUnlock_sems (cr : Carrier) (e : Entry) : (s.touchUnlock cr e).sems = s.sems := by
  unfold State.touchUnlock; split <;> rfl
@[simp] theorem State.touchUnlock_convs (cr : Carrier) (e : Entry) : (s.touchUnlock cr e).convs = s.convs := by
  unfold State.touchUnlock; split <;> rfl
@[simp] theorem State.touchUnlock_grps (cr : Carrier) (e : Entry) : (s.touchUnlock cr e).grps = s.grps := by
  unfold State.touchUnlock; split <;> rfl
@[simp] theorem State.touchUnlock_diags (cr : Carrier) (e : Entry) : (s.touchUnlock cr e).diags = s.diags := by
  unfold State.touchUnlock; split <;> rfl
@[simp] theorem State.touchUnlock_fports (cr : Carrier) (e : Entry) : (s.touchUnlock cr e).fports = s.fports := by
  unfold State.touchUnlock; split <;> rfl
@[simp] theorem State.touchUnlock_sports (cr : Carrier) (e : Entry) : (s.touchUnlock cr e).sports = s.sports := by
  unfold State.touchUnlock; split <;> rfl
@[simp] theorem State.touchUnlock_trackers (cr : Carrier) (e : Entry) : (s.touchUnlock cr e).trackers = s.trackers := by
  unfold State.touchUnlock; split <;> rfl
@[simp] theorem State.touchUnlock_axes (cr : Carrier) (e : Entry) : (s.touchUnlock cr e).axes = s.axes := by
  unfold State.touchUnlock; split <;> rfl
@[simp] theorem State.touchUnlock_gens (cr : Carrier) (e : Entry) : (s.touchUnlock cr e).gens = s.gens := by
  unfold State.touchUnlock; split <;> rfl
@[simp] theorem State.touchUnlock_groups (cr : Carrier) (e : Entry) : (s.touchUnlock cr e).groups = s.groups := by
  unfold State.touchUnlock; split <;> rfl
@[simp] theorem State.touchUnlock_tasks (cr : Carrier) (e : Entry) : (s.touchUnlock cr e).tasks = s.tasks := by
  unfold State.touchUnlock; split <;> rfl
@[simp] theorem State.touchUnlock_traces (cr : Carrier) (e : Entry) : (s.touchUnlock cr e).traces = s.traces := by
  unfold State.touchUnlock; split <;> rfl
@[simp] theorem State.touchUnlock_slots (cr : Carrier) (e : Entry) : (s.touchUnlock cr e).slots = s.slots := by
  unfold State.touchUnlock; split <;> rfl
@[simp] theorem State.touchUnlock_arms (cr : Carrier) (e : Entry) : (s.touchUnlock cr e).arms = s.arms := by
  unfold State.touchUnlock; split <;> rfl
@[simp] theorem State.touchUnlock_tests (cr : Carrier) (e : Entry) : (s.touchUnlock cr e).tests = s.tests := by
  unfold State.touchUnlock; split <;> rfl
@[simp] theorem State.touchUnlock_drivers (cr : Carrier) (e : Entry) : (s.touchUnlock cr e).drivers = s.drivers := by
  unfold State.touchUnlock; split <;> rfl
@[simp] theorem State.touchUnlock_spis (cr : Carrier) (e : Entry) : (s.touchUnlock cr e).spis = s.spis := by
  unfold State.touchUnlock; split <;> rfl
@[simp] theorem State.touchUnlock_objs (cr : Carrier) (e : Entry) : (s.touchUnlock cr e).objs = s.objs := by
  unfold State.touchUnlock; split <;> rfl
@[simp] theorem State.touchUnlock_red (cr : Carrier) (e : Entry) : (s.touchUnlock cr e).red = s.red := by
  unfold State.touchUnlock; split <;> rfl
@[simp] theorem State.touchUnlock_sed (cr : Carrier) (e : Entry) : (s.touchUnlock cr e).sed = s.sed := by
  unfold State.touchUnlock; split <;> rfl
@[simp] theorem State.touchUnlock_place (cr : Carrier) (e : Entry) : (s.touchUnlock cr e).place = s.place := by
  unfold State.touchUnlock; split <;> rfl
@[simp] theorem State.touchUnlock_fab (cr : Carrier) (e : Entry) : (s.touchUnlock cr e).fab = s.fab := by
  unfold State.touchUnlock; split <;> rfl
@[simp] theorem State.touchUnlock_twin (cr : Carrier) (e : Entry) : (s.touchUnlock cr e).twin = s.twin := by
  unfold State.touchUnlock; split <;> rfl
@[simp] theorem State.touchUnlock_power (cr : Carrier) (e : Entry) : (s.touchUnlock cr e).power = s.power := by
  unfold State.touchUnlock; split <;> rfl
@[simp] theorem State.touchUnlock_life (cr : Carrier) (e : Entry) : (s.touchUnlock cr e).life = s.life := by
  unfold State.touchUnlock; split <;> rfl
@[simp] theorem State.touchUnlock_su (cr : Carrier) (e : Entry) : (s.touchUnlock cr e).su = s.su := by
  unfold State.touchUnlock; split <;> rfl
@[simp] theorem State.touchUnlock_marks (cr : Carrier) (e : Entry) : (s.touchUnlock cr e).marks = s.marks := by
  unfold State.touchUnlock; split <;> rfl
@[simp] theorem State.touchUnlock_used (cr : Carrier) (e : Entry) : (s.touchUnlock cr e).used = s.used := by
  unfold State.touchUnlock; split <;> rfl
@[simp] theorem State.touchUnlock_sent (cr : Carrier) (e : Entry) : (s.touchUnlock cr e).sent = s.sent := by
  unfold State.touchUnlock; split <;> rfl
@[simp] theorem State.touchUnlock_pending (cr : Carrier) (e : Entry) : (s.touchUnlock cr e).pending = s.pending := by
  unfold State.touchUnlock; split <;> rfl
@[simp] theorem State.touchUnlock_regs (cr : Carrier) (e : Entry) : (s.touchUnlock cr e).regs = s.regs := by
  unfold State.touchUnlock; split <;> rfl

@[simp] theorem State.noteCommand_now (cr : Carrier) (e : Entry) : (s.noteCommand cr e).now = s.now := by
  unfold State.noteCommand State.commandApplied; repeat' split
  all_goals rfl
@[simp] theorem State.noteCommand_strs (cr : Carrier) (e : Entry) : (s.noteCommand cr e).strs = s.strs := by
  unfold State.noteCommand State.commandApplied; repeat' split
  all_goals rfl
@[simp] theorem State.noteCommand_arch (cr : Carrier) (e : Entry) : (s.noteCommand cr e).arch = s.arch := by
  unfold State.noteCommand State.commandApplied; repeat' split
  all_goals rfl
@[simp] theorem State.noteCommand_kdp (cr : Carrier) (e : Entry) : (s.noteCommand cr e).kdp = s.kdp := by
  unfold State.noteCommand State.commandApplied; repeat' split
  all_goals rfl
@[simp] theorem State.noteCommand_ports (cr : Carrier) (e : Entry) : (s.noteCommand cr e).ports = s.ports := by
  unfold State.noteCommand State.commandApplied; repeat' split
  all_goals rfl
@[simp] theorem State.noteCommand_convs (cr : Carrier) (e : Entry) : (s.noteCommand cr e).convs = s.convs := by
  unfold State.noteCommand State.commandApplied; repeat' split
  all_goals rfl
@[simp] theorem State.noteCommand_grps (cr : Carrier) (e : Entry) : (s.noteCommand cr e).grps = s.grps := by
  unfold State.noteCommand State.commandApplied; repeat' split
  all_goals rfl
@[simp] theorem State.noteCommand_diags (cr : Carrier) (e : Entry) : (s.noteCommand cr e).diags = s.diags := by
  unfold State.noteCommand State.commandApplied; repeat' split
  all_goals rfl
@[simp] theorem State.noteCommand_fports (cr : Carrier) (e : Entry) : (s.noteCommand cr e).fports = s.fports := by
  unfold State.noteCommand State.commandApplied; repeat' split
  all_goals rfl
@[simp] theorem State.noteCommand_sports (cr : Carrier) (e : Entry) : (s.noteCommand cr e).sports = s.sports := by
  unfold State.noteCommand State.commandApplied; repeat' split
  all_goals rfl
@[simp] theorem State.noteCommand_trackers (cr : Carrier) (e : Entry) : (s.noteCommand cr e).trackers = s.trackers := by
  unfold State.noteCommand State.commandApplied; repeat' split
  all_goals rfl
@[simp] theorem State.noteCommand_axes (cr : Carrier) (e : Entry) : (s.noteCommand cr e).axes = s.axes := by
  unfold State.noteCommand State.commandApplied; repeat' split
  all_goals rfl
@[simp] theorem State.noteCommand_gens (cr : Carrier) (e : Entry) : (s.noteCommand cr e).gens = s.gens := by
  unfold State.noteCommand State.commandApplied; repeat' split
  all_goals rfl
@[simp] theorem State.noteCommand_groups (cr : Carrier) (e : Entry) : (s.noteCommand cr e).groups = s.groups := by
  unfold State.noteCommand State.commandApplied; repeat' split
  all_goals rfl
@[simp] theorem State.noteCommand_tasks (cr : Carrier) (e : Entry) : (s.noteCommand cr e).tasks = s.tasks := by
  unfold State.noteCommand State.commandApplied; repeat' split
  all_goals rfl
@[simp] theorem State.noteCommand_traces (cr : Carrier) (e : Entry) : (s.noteCommand cr e).traces = s.traces := by
  unfold State.noteCommand State.commandApplied; repeat' split
  all_goals rfl
@[simp] theorem State.noteCommand_slots (cr : Carrier) (e : Entry) : (s.noteCommand cr e).slots = s.slots := by
  unfold State.noteCommand State.commandApplied; repeat' split
  all_goals rfl
@[simp] theorem State.noteCommand_arms (cr : Carrier) (e : Entry) : (s.noteCommand cr e).arms = s.arms := by
  unfold State.noteCommand State.commandApplied; repeat' split
  all_goals rfl
@[simp] theorem State.noteCommand_tests (cr : Carrier) (e : Entry) : (s.noteCommand cr e).tests = s.tests := by
  unfold State.noteCommand State.commandApplied; repeat' split
  all_goals rfl
@[simp] theorem State.noteCommand_drivers (cr : Carrier) (e : Entry) : (s.noteCommand cr e).drivers = s.drivers := by
  unfold State.noteCommand State.commandApplied; repeat' split
  all_goals rfl
@[simp] theorem State.noteCommand_spis (cr : Carrier) (e : Entry) : (s.noteCommand cr e).spis = s.spis := by
  unfold State.noteCommand State.commandApplied; repeat' split
  all_goals rfl
@[simp] theorem State.noteCommand_objs (cr : Carrier) (e : Entry) : (s.noteCommand cr e).objs = s.objs := by
  unfold State.noteCommand State.commandApplied; repeat' split
  all_goals rfl
@[simp] theorem State.noteCommand_red (cr : Carrier) (e : Entry) : (s.noteCommand cr e).red = s.red := by
  unfold State.noteCommand State.commandApplied; repeat' split
  all_goals rfl
@[simp] theorem State.noteCommand_sed (cr : Carrier) (e : Entry) : (s.noteCommand cr e).sed = s.sed := by
  unfold State.noteCommand State.commandApplied; repeat' split
  all_goals rfl
@[simp] theorem State.noteCommand_place (cr : Carrier) (e : Entry) : (s.noteCommand cr e).place = s.place := by
  unfold State.noteCommand State.commandApplied; repeat' split
  all_goals rfl
@[simp] theorem State.noteCommand_fab (cr : Carrier) (e : Entry) : (s.noteCommand cr e).fab = s.fab := by
  unfold State.noteCommand State.commandApplied; repeat' split
  all_goals rfl
@[simp] theorem State.noteCommand_twin (cr : Carrier) (e : Entry) : (s.noteCommand cr e).twin = s.twin := by
  unfold State.noteCommand State.commandApplied; repeat' split
  all_goals rfl
@[simp] theorem State.noteCommand_safe (cr : Carrier) (e : Entry) : (s.noteCommand cr e).safe = s.safe := by
  unfold State.noteCommand State.commandApplied; repeat' split
  all_goals rfl
@[simp] theorem State.noteCommand_power (cr : Carrier) (e : Entry) : (s.noteCommand cr e).power = s.power := by
  unfold State.noteCommand State.commandApplied; repeat' split
  all_goals rfl
@[simp] theorem State.noteCommand_life (cr : Carrier) (e : Entry) : (s.noteCommand cr e).life = s.life := by
  unfold State.noteCommand State.commandApplied; repeat' split
  all_goals rfl
@[simp] theorem State.noteCommand_su (cr : Carrier) (e : Entry) : (s.noteCommand cr e).su = s.su := by
  unfold State.noteCommand State.commandApplied; repeat' split
  all_goals rfl
@[simp] theorem State.noteCommand_marks (cr : Carrier) (e : Entry) : (s.noteCommand cr e).marks = s.marks := by
  unfold State.noteCommand State.commandApplied; repeat' split
  all_goals rfl
@[simp] theorem State.noteCommand_used (cr : Carrier) (e : Entry) : (s.noteCommand cr e).used = s.used := by
  unfold State.noteCommand State.commandApplied; repeat' split
  all_goals rfl
@[simp] theorem State.noteCommand_sent (cr : Carrier) (e : Entry) : (s.noteCommand cr e).sent = s.sent := by
  unfold State.noteCommand State.commandApplied; repeat' split
  all_goals rfl
@[simp] theorem State.noteCommand_pending (cr : Carrier) (e : Entry) : (s.noteCommand cr e).pending = s.pending := by
  unfold State.noteCommand State.commandApplied; repeat' split
  all_goals rfl
@[simp] theorem State.noteCommand_regs (cr : Carrier) (e : Entry) : (s.noteCommand cr e).regs = s.regs := by
  unfold State.noteCommand State.commandApplied; repeat' split
  all_goals rfl

@[simp] theorem State.noteHeard_strs (cr : Carrier) : (s.noteHeard cr).strs = s.strs := by
  unfold State.noteHeard; split <;> rfl
@[simp] theorem State.noteHeard_arch (cr : Carrier) : (s.noteHeard cr).arch = s.arch := by
  unfold State.noteHeard; split <;> rfl
@[simp] theorem State.noteHeard_kdp (cr : Carrier) : (s.noteHeard cr).kdp = s.kdp := by
  unfold State.noteHeard; split <;> rfl
@[simp] theorem State.noteHeard_sems (cr : Carrier) : (s.noteHeard cr).sems = s.sems := by
  unfold State.noteHeard; split <;> rfl
@[simp] theorem State.noteHeard_convs (cr : Carrier) : (s.noteHeard cr).convs = s.convs := by
  unfold State.noteHeard; split <;> rfl
@[simp] theorem State.noteHeard_grps (cr : Carrier) : (s.noteHeard cr).grps = s.grps := by
  unfold State.noteHeard; split <;> rfl
@[simp] theorem State.noteHeard_diags (cr : Carrier) : (s.noteHeard cr).diags = s.diags := by
  unfold State.noteHeard; split <;> rfl
@[simp] theorem State.noteHeard_fports (cr : Carrier) : (s.noteHeard cr).fports = s.fports := by
  unfold State.noteHeard; split <;> rfl
@[simp] theorem State.noteHeard_sports (cr : Carrier) : (s.noteHeard cr).sports = s.sports := by
  unfold State.noteHeard; split <;> rfl
@[simp] theorem State.noteHeard_trackers (cr : Carrier) : (s.noteHeard cr).trackers = s.trackers := by
  unfold State.noteHeard; split <;> rfl
@[simp] theorem State.noteHeard_axes (cr : Carrier) : (s.noteHeard cr).axes = s.axes := by
  unfold State.noteHeard; split <;> rfl
@[simp] theorem State.noteHeard_gens (cr : Carrier) : (s.noteHeard cr).gens = s.gens := by
  unfold State.noteHeard; split <;> rfl
@[simp] theorem State.noteHeard_groups (cr : Carrier) : (s.noteHeard cr).groups = s.groups := by
  unfold State.noteHeard; split <;> rfl
@[simp] theorem State.noteHeard_tasks (cr : Carrier) : (s.noteHeard cr).tasks = s.tasks := by
  unfold State.noteHeard; split <;> rfl
@[simp] theorem State.noteHeard_traces (cr : Carrier) : (s.noteHeard cr).traces = s.traces := by
  unfold State.noteHeard; split <;> rfl
@[simp] theorem State.noteHeard_slots (cr : Carrier) : (s.noteHeard cr).slots = s.slots := by
  unfold State.noteHeard; split <;> rfl
@[simp] theorem State.noteHeard_arms (cr : Carrier) : (s.noteHeard cr).arms = s.arms := by
  unfold State.noteHeard; split <;> rfl
@[simp] theorem State.noteHeard_tests (cr : Carrier) : (s.noteHeard cr).tests = s.tests := by
  unfold State.noteHeard; split <;> rfl
@[simp] theorem State.noteHeard_drivers (cr : Carrier) : (s.noteHeard cr).drivers = s.drivers := by
  unfold State.noteHeard; split <;> rfl
@[simp] theorem State.noteHeard_spis (cr : Carrier) : (s.noteHeard cr).spis = s.spis := by
  unfold State.noteHeard; split <;> rfl
@[simp] theorem State.noteHeard_objs (cr : Carrier) : (s.noteHeard cr).objs = s.objs := by
  unfold State.noteHeard; split <;> rfl
@[simp] theorem State.noteHeard_sed (cr : Carrier) : (s.noteHeard cr).sed = s.sed := by
  unfold State.noteHeard; split <;> rfl
@[simp] theorem State.noteHeard_place (cr : Carrier) : (s.noteHeard cr).place = s.place := by
  unfold State.noteHeard; split <;> rfl
@[simp] theorem State.noteHeard_fab (cr : Carrier) : (s.noteHeard cr).fab = s.fab := by
  unfold State.noteHeard; split <;> rfl
@[simp] theorem State.noteHeard_twin (cr : Carrier) : (s.noteHeard cr).twin = s.twin := by
  unfold State.noteHeard; split <;> rfl
@[simp] theorem State.noteHeard_safe (cr : Carrier) : (s.noteHeard cr).safe = s.safe := by
  unfold State.noteHeard; split <;> rfl
@[simp] theorem State.noteHeard_life (cr : Carrier) : (s.noteHeard cr).life = s.life := by
  unfold State.noteHeard; split <;> rfl
@[simp] theorem State.noteHeard_su (cr : Carrier) : (s.noteHeard cr).su = s.su := by
  unfold State.noteHeard; split <;> rfl
@[simp] theorem State.noteHeard_marks (cr : Carrier) : (s.noteHeard cr).marks = s.marks := by
  unfold State.noteHeard; split <;> rfl
@[simp] theorem State.noteHeard_used (cr : Carrier) : (s.noteHeard cr).used = s.used := by
  unfold State.noteHeard; split <;> rfl
@[simp] theorem State.noteHeard_sent (cr : Carrier) : (s.noteHeard cr).sent = s.sent := by
  unfold State.noteHeard; split <;> rfl
@[simp] theorem State.noteHeard_pending (cr : Carrier) : (s.noteHeard cr).pending = s.pending := by
  unfold State.noteHeard; split <;> rfl

@[simp] theorem State.respond_now (r : KdpReq) (code detail : Nat) (last : Bool) (l : List Byte) (tag : Option Nat) : (s.respond r code detail last l tag).now = s.now := by
  exact State.respond_keeps (fun s => s.now) (fun _ _ => rfl) (fun _ _ _ _ _ => by simp) (fun _ _ => rfl) (fun _ _ => rfl) ..
@[simp] theorem State.respond_strs (r : KdpReq) (code detail : Nat) (last : Bool) (l : List Byte) (tag : Option Nat) : (s.respond r code detail last l tag).strs = s.strs := by
  exact State.respond_keeps (fun s => s.strs) (fun _ _ => rfl) (fun _ _ _ _ _ => by simp) (fun _ _ => rfl) (fun _ _ => rfl) ..
@[simp] theorem State.respond_arch (r : KdpReq) (code detail : Nat) (last : Bool) (l : List Byte) (tag : Option Nat) : (s.respond r code detail last l tag).arch = s.arch := by
  exact State.respond_keeps (fun s => s.arch) (fun _ _ => rfl) (fun _ _ _ _ _ => by simp) (fun _ _ => rfl) (fun _ _ => rfl) ..
@[simp] theorem State.respond_ports (r : KdpReq) (code detail : Nat) (last : Bool) (l : List Byte) (tag : Option Nat) : (s.respond r code detail last l tag).ports = s.ports := by
  exact State.respond_keeps (fun s => s.ports) (fun _ _ => rfl) (fun _ _ _ _ _ => by simp) (fun _ _ => rfl) (fun _ _ => rfl) ..
@[simp] theorem State.respond_sems (r : KdpReq) (code detail : Nat) (last : Bool) (l : List Byte) (tag : Option Nat) : (s.respond r code detail last l tag).sems = s.sems := by
  exact State.respond_keeps (fun s => s.sems) (fun _ _ => rfl) (fun _ _ _ _ _ => by simp) (fun _ _ => rfl) (fun _ _ => rfl) ..
@[simp] theorem State.respond_convs (r : KdpReq) (code detail : Nat) (last : Bool) (l : List Byte) (tag : Option Nat) : (s.respond r code detail last l tag).convs = s.convs := by
  exact State.respond_keeps (fun s => s.convs) (fun _ _ => rfl) (fun _ _ _ _ _ => by simp) (fun _ _ => rfl) (fun _ _ => rfl) ..
@[simp] theorem State.respond_grps (r : KdpReq) (code detail : Nat) (last : Bool) (l : List Byte) (tag : Option Nat) : (s.respond r code detail last l tag).grps = s.grps := by
  exact State.respond_keeps (fun s => s.grps) (fun _ _ => rfl) (fun _ _ _ _ _ => by simp) (fun _ _ => rfl) (fun _ _ => rfl) ..
@[simp] theorem State.respond_diags (r : KdpReq) (code detail : Nat) (last : Bool) (l : List Byte) (tag : Option Nat) : (s.respond r code detail last l tag).diags = s.diags := by
  exact State.respond_keeps (fun s => s.diags) (fun _ _ => rfl) (fun _ _ _ _ _ => by simp) (fun _ _ => rfl) (fun _ _ => rfl) ..
@[simp] theorem State.respond_fports (r : KdpReq) (code detail : Nat) (last : Bool) (l : List Byte) (tag : Option Nat) : (s.respond r code detail last l tag).fports = s.fports := by
  exact State.respond_keeps (fun s => s.fports) (fun _ _ => rfl) (fun _ _ _ _ _ => by simp) (fun _ _ => rfl) (fun _ _ => rfl) ..
@[simp] theorem State.respond_sports (r : KdpReq) (code detail : Nat) (last : Bool) (l : List Byte) (tag : Option Nat) : (s.respond r code detail last l tag).sports = s.sports := by
  exact State.respond_keeps (fun s => s.sports) (fun _ _ => rfl) (fun _ _ _ _ _ => by simp) (fun _ _ => rfl) (fun _ _ => rfl) ..
@[simp] theorem State.respond_trackers (r : KdpReq) (code detail : Nat) (last : Bool) (l : List Byte) (tag : Option Nat) : (s.respond r code detail last l tag).trackers = s.trackers := by
  exact State.respond_keeps (fun s => s.trackers) (fun _ _ => rfl) (fun _ _ _ _ _ => by simp) (fun _ _ => rfl) (fun _ _ => rfl) ..
@[simp] theorem State.respond_axes (r : KdpReq) (code detail : Nat) (last : Bool) (l : List Byte) (tag : Option Nat) : (s.respond r code detail last l tag).axes = s.axes := by
  exact State.respond_keeps (fun s => s.axes) (fun _ _ => rfl) (fun _ _ _ _ _ => by simp) (fun _ _ => rfl) (fun _ _ => rfl) ..
@[simp] theorem State.respond_gens (r : KdpReq) (code detail : Nat) (last : Bool) (l : List Byte) (tag : Option Nat) : (s.respond r code detail last l tag).gens = s.gens := by
  exact State.respond_keeps (fun s => s.gens) (fun _ _ => rfl) (fun _ _ _ _ _ => by simp) (fun _ _ => rfl) (fun _ _ => rfl) ..
@[simp] theorem State.respond_groups (r : KdpReq) (code detail : Nat) (last : Bool) (l : List Byte) (tag : Option Nat) : (s.respond r code detail last l tag).groups = s.groups := by
  exact State.respond_keeps (fun s => s.groups) (fun _ _ => rfl) (fun _ _ _ _ _ => by simp) (fun _ _ => rfl) (fun _ _ => rfl) ..
@[simp] theorem State.respond_tasks (r : KdpReq) (code detail : Nat) (last : Bool) (l : List Byte) (tag : Option Nat) : (s.respond r code detail last l tag).tasks = s.tasks := by
  exact State.respond_keeps (fun s => s.tasks) (fun _ _ => rfl) (fun _ _ _ _ _ => by simp) (fun _ _ => rfl) (fun _ _ => rfl) ..
@[simp] theorem State.respond_traces (r : KdpReq) (code detail : Nat) (last : Bool) (l : List Byte) (tag : Option Nat) : (s.respond r code detail last l tag).traces = s.traces := by
  exact State.respond_keeps (fun s => s.traces) (fun _ _ => rfl) (fun _ _ _ _ _ => by simp) (fun _ _ => rfl) (fun _ _ => rfl) ..
@[simp] theorem State.respond_slots (r : KdpReq) (code detail : Nat) (last : Bool) (l : List Byte) (tag : Option Nat) : (s.respond r code detail last l tag).slots = s.slots := by
  exact State.respond_keeps (fun s => s.slots) (fun _ _ => rfl) (fun _ _ _ _ _ => by simp) (fun _ _ => rfl) (fun _ _ => rfl) ..
@[simp] theorem State.respond_arms (r : KdpReq) (code detail : Nat) (last : Bool) (l : List Byte) (tag : Option Nat) : (s.respond r code detail last l tag).arms = s.arms := by
  exact State.respond_keeps (fun s => s.arms) (fun _ _ => rfl) (fun _ _ _ _ _ => by simp) (fun _ _ => rfl) (fun _ _ => rfl) ..
@[simp] theorem State.respond_tests (r : KdpReq) (code detail : Nat) (last : Bool) (l : List Byte) (tag : Option Nat) : (s.respond r code detail last l tag).tests = s.tests := by
  exact State.respond_keeps (fun s => s.tests) (fun _ _ => rfl) (fun _ _ _ _ _ => by simp) (fun _ _ => rfl) (fun _ _ => rfl) ..
@[simp] theorem State.respond_drivers (r : KdpReq) (code detail : Nat) (last : Bool) (l : List Byte) (tag : Option Nat) : (s.respond r code detail last l tag).drivers = s.drivers := by
  exact State.respond_keeps (fun s => s.drivers) (fun _ _ => rfl) (fun _ _ _ _ _ => by simp) (fun _ _ => rfl) (fun _ _ => rfl) ..
@[simp] theorem State.respond_spis (r : KdpReq) (code detail : Nat) (last : Bool) (l : List Byte) (tag : Option Nat) : (s.respond r code detail last l tag).spis = s.spis := by
  exact State.respond_keeps (fun s => s.spis) (fun _ _ => rfl) (fun _ _ _ _ _ => by simp) (fun _ _ => rfl) (fun _ _ => rfl) ..
@[simp] theorem State.respond_objs (r : KdpReq) (code detail : Nat) (last : Bool) (l : List Byte) (tag : Option Nat) : (s.respond r code detail last l tag).objs = s.objs := by
  exact State.respond_keeps (fun s => s.objs) (fun _ _ => rfl) (fun _ _ _ _ _ => by simp) (fun _ _ => rfl) (fun _ _ => rfl) ..
@[simp] theorem State.respond_red (r : KdpReq) (code detail : Nat) (last : Bool) (l : List Byte) (tag : Option Nat) : (s.respond r code detail last l tag).red = s.red := by
  exact State.respond_keeps (fun s => s.red) (fun _ _ => rfl) (fun _ _ _ _ _ => by simp) (fun _ _ => rfl) (fun _ _ => rfl) ..
@[simp] theorem State.respond_sed (r : KdpReq) (code detail : Nat) (last : Bool) (l : List Byte) (tag : Option Nat) : (s.respond r code detail last l tag).sed = s.sed := by
  exact State.respond_keeps (fun s => s.sed) (fun _ _ => rfl) (fun _ _ _ _ _ => by simp) (fun _ _ => rfl) (fun _ _ => rfl) ..
@[simp] theorem State.respond_place (r : KdpReq) (code detail : Nat) (last : Bool) (l : List Byte) (tag : Option Nat) : (s.respond r code detail last l tag).place = s.place := by
  exact State.respond_keeps (fun s => s.place) (fun _ _ => rfl) (fun _ _ _ _ _ => by simp) (fun _ _ => rfl) (fun _ _ => rfl) ..
@[simp] theorem State.respond_twin (r : KdpReq) (code detail : Nat) (last : Bool) (l : List Byte) (tag : Option Nat) : (s.respond r code detail last l tag).twin = s.twin := by
  exact State.respond_keeps (fun s => s.twin) (fun _ _ => rfl) (fun _ _ _ _ _ => by simp) (fun _ _ => rfl) (fun _ _ => rfl) ..
@[simp] theorem State.respond_safe (r : KdpReq) (code detail : Nat) (last : Bool) (l : List Byte) (tag : Option Nat) : (s.respond r code detail last l tag).safe = s.safe := by
  exact State.respond_keeps (fun s => s.safe) (fun _ _ => rfl) (fun _ _ _ _ _ => by simp) (fun _ _ => rfl) (fun _ _ => rfl) ..
@[simp] theorem State.respond_power (r : KdpReq) (code detail : Nat) (last : Bool) (l : List Byte) (tag : Option Nat) : (s.respond r code detail last l tag).power = s.power := by
  exact State.respond_keeps (fun s => s.power) (fun _ _ => rfl) (fun _ _ _ _ _ => by simp) (fun _ _ => rfl) (fun _ _ => rfl) ..
@[simp] theorem State.respond_life (r : KdpReq) (code detail : Nat) (last : Bool) (l : List Byte) (tag : Option Nat) : (s.respond r code detail last l tag).life = s.life := by
  exact State.respond_keeps (fun s => s.life) (fun _ _ => rfl) (fun _ _ _ _ _ => by simp) (fun _ _ => rfl) (fun _ _ => rfl) ..
@[simp] theorem State.respond_su (r : KdpReq) (code detail : Nat) (last : Bool) (l : List Byte) (tag : Option Nat) : (s.respond r code detail last l tag).su = s.su := by
  exact State.respond_keeps (fun s => s.su) (fun _ _ => rfl) (fun _ _ _ _ _ => by simp) (fun _ _ => rfl) (fun _ _ => rfl) ..
@[simp] theorem State.respond_marks (r : KdpReq) (code detail : Nat) (last : Bool) (l : List Byte) (tag : Option Nat) : (s.respond r code detail last l tag).marks = s.marks := by
  exact State.respond_keeps (fun s => s.marks) (fun _ _ => rfl) (fun _ _ _ _ _ => by simp) (fun _ _ => rfl) (fun _ _ => rfl) ..
@[simp] theorem State.respond_used (r : KdpReq) (code detail : Nat) (last : Bool) (l : List Byte) (tag : Option Nat) : (s.respond r code detail last l tag).used = s.used := by
  exact State.respond_keeps (fun s => s.used) (fun _ _ => rfl) (fun _ _ _ _ _ => by simp) (fun _ _ => rfl) (fun _ _ => rfl) ..
@[simp] theorem State.respond_pending (r : KdpReq) (code detail : Nat) (last : Bool) (l : List Byte) (tag : Option Nat) : (s.respond r code detail last l tag).pending = s.pending := by
  exact State.respond_keeps (fun s => s.pending) (fun _ _ => rfl) (fun _ _ _ _ _ => by simp) (fun _ _ => rfl) (fun _ _ => rfl) ..

@[simp] theorem State.heard_strs (t : Nat) (cr : Carrier) : (s.heard t cr).strs = s.strs := by
  unfold State.heard; simp
@[simp] theorem State.heard_kdp (t : Nat) (cr : Carrier) : (s.heard t cr).kdp = s.kdp := by
  unfold State.heard; simp
@[simp] theorem State.heard_sems (t : Nat) (cr : Carrier) : (s.heard t cr).sems = s.sems := by
  unfold State.heard; simp
@[simp] theorem State.heard_convs (t : Nat) (cr : Carrier) : (s.heard t cr).convs = s.convs := by
  unfold State.heard; simp
@[simp] theorem State.heard_grps (t : Nat) (cr : Carrier) : (s.heard t cr).grps = s.grps := by
  unfold State.heard; simp
@[simp] theorem State.heard_diags (t : Nat) (cr : Carrier) : (s.heard t cr).diags = s.diags := by
  unfold State.heard; simp
@[simp] theorem State.heard_fports (t : Nat) (cr : Carrier) : (s.heard t cr).fports = s.fports := by
  unfold State.heard; simp
@[simp] theorem State.heard_sports (t : Nat) (cr : Carrier) : (s.heard t cr).sports = s.sports := by
  unfold State.heard; simp
@[simp] theorem State.heard_trackers (t : Nat) (cr : Carrier) : (s.heard t cr).trackers = s.trackers := by
  unfold State.heard; simp
@[simp] theorem State.heard_axes (t : Nat) (cr : Carrier) : (s.heard t cr).axes = s.axes := by
  unfold State.heard; simp
@[simp] theorem State.heard_gens (t : Nat) (cr : Carrier) : (s.heard t cr).gens = s.gens := by
  unfold State.heard; simp
@[simp] theorem State.heard_groups (t : Nat) (cr : Carrier) : (s.heard t cr).groups = s.groups := by
  unfold State.heard; simp
@[simp] theorem State.heard_tasks (t : Nat) (cr : Carrier) : (s.heard t cr).tasks = s.tasks := by
  unfold State.heard; simp
@[simp] theorem State.heard_traces (t : Nat) (cr : Carrier) : (s.heard t cr).traces = s.traces := by
  unfold State.heard; simp
@[simp] theorem State.heard_slots (t : Nat) (cr : Carrier) : (s.heard t cr).slots = s.slots := by
  unfold State.heard; simp
@[simp] theorem State.heard_arms (t : Nat) (cr : Carrier) : (s.heard t cr).arms = s.arms := by
  unfold State.heard; simp
@[simp] theorem State.heard_tests (t : Nat) (cr : Carrier) : (s.heard t cr).tests = s.tests := by
  unfold State.heard; simp
@[simp] theorem State.heard_drivers (t : Nat) (cr : Carrier) : (s.heard t cr).drivers = s.drivers := by
  unfold State.heard; simp
@[simp] theorem State.heard_spis (t : Nat) (cr : Carrier) : (s.heard t cr).spis = s.spis := by
  unfold State.heard; simp
@[simp] theorem State.heard_objs (t : Nat) (cr : Carrier) : (s.heard t cr).objs = s.objs := by
  unfold State.heard; simp
@[simp] theorem State.heard_red (t : Nat) (cr : Carrier) : (s.heard t cr).red = s.red := by
  unfold State.heard; simp
@[simp] theorem State.heard_sed (t : Nat) (cr : Carrier) : (s.heard t cr).sed = s.sed := by
  unfold State.heard; simp
@[simp] theorem State.heard_place (t : Nat) (cr : Carrier) : (s.heard t cr).place = s.place := by
  unfold State.heard; simp
@[simp] theorem State.heard_fab (t : Nat) (cr : Carrier) : (s.heard t cr).fab = s.fab := by
  unfold State.heard; simp
@[simp] theorem State.heard_twin (t : Nat) (cr : Carrier) : (s.heard t cr).twin = s.twin := by
  unfold State.heard; simp
@[simp] theorem State.heard_safe (t : Nat) (cr : Carrier) : (s.heard t cr).safe = s.safe := by
  unfold State.heard; simp
@[simp] theorem State.heard_life (t : Nat) (cr : Carrier) : (s.heard t cr).life = s.life := by
  unfold State.heard; simp
@[simp] theorem State.heard_su (t : Nat) (cr : Carrier) : (s.heard t cr).su = s.su := by
  unfold State.heard; simp
@[simp] theorem State.heard_marks (t : Nat) (cr : Carrier) : (s.heard t cr).marks = s.marks := by
  unfold State.heard; simp
@[simp] theorem State.heard_used (t : Nat) (cr : Carrier) : (s.heard t cr).used = s.used := by
  unfold State.heard; simp
@[simp] theorem State.heard_sent (t : Nat) (cr : Carrier) : (s.heard t cr).sent = s.sent := by
  unfold State.heard; simp
@[simp] theorem State.heard_pending (t : Nat) (cr : Carrier) : (s.heard t cr).pending = s.pending := by
  unfold State.heard; simp
@[simp] theorem State.heard_regs (t : Nat) (cr : Carrier) : (s.heard t cr).regs = s.regs := by
  unfold State.heard; simp

@[simp] theorem State.heard_now (t : Nat) (cr : Carrier) : (s.heard t cr).now = max s.now t := by
  unfold State.heard; simp
@[simp] theorem State.heard_v (t : Nat) (cr : Carrier) (o : Obj) : (s.heard t cr).v o = s.v o := State.v_congr (by simp) o
@[simp] theorem State.heard_g (t : Nat) (cr : Carrier) (c : Ch) (o : Obj) : (s.heard t cr).g c o = s.g c o :=
  State.g_congr (by simp) c o
@[simp] theorem State.noteCommand_v (cr : Carrier) (e : Entry) (o : Obj) : (s.noteCommand cr e).v o = s.v o :=
  State.v_congr (by simp) o
@[simp] theorem State.noteCommand_g (cr : Carrier) (e : Entry) (c : Ch) (o : Obj) : (s.noteCommand cr e).g c o = s.g c o :=
  State.g_congr (by simp) c o
@[simp] theorem State.touchUnlock_g (cr : Carrier) (e : Entry) (c : Ch) (o : Obj) : (s.touchUnlock cr e).g c o = s.g c o :=
  State.g_congr (by simp) c o
@[simp] theorem State.send_g (x : Out) (c : Ch) (o : Obj) : (s.send x).g c o = s.g c o := rfl
@[simp] theorem State.send_v (x : Out) (o : Obj) : (s.send x).v o = s.v o := rfl

/-- A copy that no answer changes: neither a count of the fabric nor that of the aborts. -/
def Obj.unanswered (o : Obj) : Prop :=
  o.key ≠ Obj.fabNoRoute.key ∧ o.key ≠ Obj.fabRateDrops.key ∧ o.key ≠ Obj.kdpAbortsSent.key

theorem State.sendFrame_g (c : Ch) (n d : Nat) (m : Bool) (l : List Byte) (c' : Ch) (o : Obj) (h1 : o.key ≠ Obj.fabNoRoute.key)
    (h2 : o.key ≠ Obj.fabRateDrops.key) : (s.sendFrame c n d m l).g c' o = s.g c' o := by
  unfold State.sendFrame
  dsimp only
  repeat' split
  all_goals first
    | exact forEach_send (fun s => s.g c' o) (fun _ _ => rfl) _ _ _
    | exact State.g_setC_key _ _ _ _ h1
    | exact State.g_setC_key _ _ _ _ h2

theorem State.sendTo_g (c : Ch) (n d : Nat) (l : List Byte) (c' : Ch) (o : Obj) (h1 : o.key ≠ Obj.fabNoRoute.key)
    (h2 : o.key ≠ Obj.fabRateDrops.key) : (s.sendTo c n d l).g c' o = s.g c' o := by
  unfold State.sendTo
  dsimp only
  repeat' split
  all_goals simp only [State.sendFrame_g _ _ _ _ _ _ _ _ h1 h2]

/-- An answer changes no copy of any other object. -/
theorem State.respond_g (r : KdpReq) (code detail : Nat) (last : Bool) (l : List Byte) (tag : Option Nat) (c : Ch) (o : Obj)
    (h : o.unanswered) : (s.respond r code detail last l tag).g c o = s.g c o :=
  State.respond_keeps (fun s => s.g c o) (fun _ _ => rfl) (fun _ _ _ _ _ => State.sendTo_g _ _ _ _ _ _ _ h.1 h.2.1)
    (fun _ _ => State.g_setC_key _ _ _ _ h.2.2) (fun _ _ => rfl) ..

theorem State.respond_v (r : KdpReq) (code detail : Nat) (last : Bool) (l : List Byte) (tag : Option Nat) (o : Obj)
    (h : o.unanswered) : (s.respond r code detail last l tag).v o = s.v o := by
  unfold State.v
  simp only [State.respond_g _ _ _ _ _ _ _ _ _ h]

/-- What a read clears sends nothing. -/
@[simp] theorem State.afterRead_sent (e : Entry) : (s.afterRead e).sent = s.sent := by
  unfold State.afterRead; dsimp only; split <;> rfl

/-- What is told stays told where nothing is taken back. -/
theorem State.tells_congr {s s' : State} {cr : Carrier} {o : Obj} {v : Int} (h : s'.sent = s.sent) (ht : s.tells cr o v) :
    s'.tells cr o v := by
  unfold State.tells at *
  rwa [h]

/-- An answer leaves the open requests, transfers and writes alone. -/
theorem State.respond_kdp (r : KdpReq) (code detail : Nat) (last : Bool) (l : List Byte) (tag : Option Nat) :
    ∃ a, (s.respond r code detail last l tag).kdp = { s.kdp with answered := a } := by
  have hb : ∀ (l : List Ch) (s : State), (forEach l s fun s c => s.bumpC c Obj.kdpAbortsSent).kdp = s.kdp :=
    fun l s =>
    forEach_eq (fun s => s.kdp) (fun s c => s.bumpC c Obj.kdpAbortsSent) (fun _ _ => rfl) l s
  have hs : ∀ who t, (s.sendResponse r who code detail last l t).kdp = s.kdp := by
    intro who t
    unfold State.sendResponse
    dsimp only
    repeat' split
    all_goals simp [forEach_eq (fun s => s.kdp) _ (fun s (f : Ch × List Byte) => State.sendTo_kdp s f.1 _ _ f.2), hb]
  unfold State.respond
  dsimp only
  split
  · exact ⟨s.kdp.answered, rfl⟩
  · exact ⟨_, by rw [hs]⟩

end Sys2Proof.Machine
end

