-- ==== Sys2Proof/Laws/Permits.lean ====
section
/-! SUPPORT. What follows every command leaves the permits safe (R253 to R256, R313). -/

namespace Sys2Proof.Machine

theorem Tbl.getD_mem {α : Type} (t : Tbl α) (k : Nat) (d : α) : t.getD k d = d ∨ (k, t.getD k d) ∈ t := by
  induction t with
  | nil => exact .inl rfl
  | cons e r ih =>
    obtain ⟨j, x⟩ := e
    simp only [Tbl.getD]
    split
    · next h => subst h; exact .inr (by simp)
    · rcases ih with h | h
      · exact .inl h
      · exact .inr (by simp [h])

/-- A value of a changed table is what the change gives. -/
theorem Tbl.getD_mapVals {α : Type} [DecidableEq α] (t : Tbl α) (d : α) (f : Nat → α → α) (k : Nat) (hf : f k d = d) :
    (t.mapVals d f).getD k d = f k (t.getD k d) := by
  induction t with
  | nil => exact hf.symm
  | cons e r ih =>
    obtain ⟨j, x⟩ := e
    simp only [Tbl.mapVals]
    by_cases hj : j = k
    · subst hj
      split
      · next h => rw [Tbl.getD_erase_self]; simp [Tbl.getD, h]
      · simp [Tbl.getD]
    · split
      · rw [Tbl.getD_erase_ne _ _ (fun h => hj h.symm), ih]; simp [Tbl.getD, hj]
      · simp [Tbl.getD, hj, ih]

variable (s : State)

/-- Each slot after the permits have fallen. -/
theorem State.dropPermits_slot (c : Ch) (k : Nat) : s.dropPermits.slot c k = s.slotAfter c k (s.slot c k) := by
  cases c <;> exact Tbl.getD_mapVals _ _ _ k rfl

/-- Each ARM output after the permits have fallen. -/
theorem State.dropPermits_arm (c : Ch) (k : Nat) : s.dropPermits.arm c k = s.armAfter c k (s.arm c k) := by
  cases c <;> exact Tbl.getD_mapVals _ _ _ k rfl

theorem State.slotAfter_en (c : Ch) (k : Nat) (x : Slot) (h : (s.slotAfter c k x).en = true) : s.enHolds c k = true := by
  unfold State.slotAfter at h
  split at h
  · simp at h
  · simp_all

theorem State.armAfter_reported (c : Ch) (k : Nat) (x : Arm) : (s.armAfter c k x).reported = x.reported := by
  unfold State.armAfter Arm.fall
  repeat' split
  all_goals rfl

/-- An ARM that the owner knows to read high is still known after the permits have fallen. -/
theorem State.dropPermits_reported (c : Ch) (k : Nat) (h : (s.arm c k).reported = true) :
    (s.dropPermits.arm c k).reported = true := by
  rw [State.dropPermits_arm, State.armAfter_reported, h]

/-- The conditions of EN do not end because other permits fall. -/
theorem State.dropPermits_enHolds (c : Ch) (k : Nat) (h : s.enHolds c k = true) : s.dropPermits.enHolds c k = true := by
  have h1 : (s.dropPermits.arm c.before k).reported = true := by
    apply State.dropPermits_reported
    simp only [State.enHolds, Bool.and_eq_true] at h
    exact h.1.1.2
  simp only [State.enHolds, Bool.and_eq_true] at h ⊢
  exact ⟨⟨⟨h.1.1.1, h1⟩, h.1.2⟩, h.2⟩

/-- What follows a command leaves every EN low whose conditions do not hold (R255). -/
theorem State.follow_enSafe : s.follow.EnSafe := by
  intro c k h
  unfold State.follow at h ⊢
  generalize s.beginTracking.syncBehind = u at h ⊢
  apply State.dropPermits_enHolds
  rw [State.dropPermits_slot] at h
  exact u.slotAfter_en c k _ h

/-- What follows a command leaves every ARM low whose conditions do not hold, unless it is held (R254 to R256). -/
theorem State.follow_armSafe : s.follow.ArmSafe := by
  intro c k h
  unfold State.follow at h ⊢
  generalize s.beginTracking.syncBehind = u at h ⊢
  rw [State.dropPermits_arm] at h ⊢
  have hh : u.dropPermits.armHolds c k = u.armHolds c k := rfl
  rw [hh]
  unfold State.armAfter Arm.fall at h ⊢
  split at h
  · split at h
    · split at h
      · cases h
      · next h1 h2 h3 => simp [h1, h2, h3]
    · split at h
      · next h3 => exact .inr h3
      · cases h
  · next h1 => exact absurd h h1

/-- In PASSIVE every permit is low after what follows a command (R313). -/
theorem State.follow_passiveLow : s.follow.PassiveLow := by
  intro hp c k
  have hen := s.follow_enSafe c k
  refine ⟨?_, ?_⟩
  · cases hx : (s.follow.slot c k).en
    · rfl
    · have := hen hx
      simp [State.enHolds, hp] at this
  · unfold State.follow at hp ⊢
    generalize s.beginTracking.syncBehind = u at hp ⊢
    have hp : u.red.state = .passive := hp
    rw [State.dropPermits_arm]
    generalize u.arm c k = x
    unfold State.armAfter Arm.fall
    simp only [hp, State.armHolds]
    cases hxo : x.out <;> cases hxh : x.held <;> simp [hxo]

theorem State.beginTracking_slots : s.beginTracking.slots = s.slots :=
  Apart.beginTracking (p := fun s => s.slots)
    ⟨fun _ _ _ => Eq.refl _, fun _ _ _ => Eq.refl _, fun _ _ _ => Eq.refl _, fun _ _ => Eq.refl _⟩ s

theorem State.syncBehind_slots : s.syncBehind.slots = s.slots := by
  unfold State.syncBehind
  refine forEach_eq (fun s => s.slots) _ (fun s n => ?_) _ _
  have ha : ∀ (s : State) c n d, (s.armEntries c n d).slots = s.slots := fun s c n d => by
    unfold State.armEntries
    dsimp only
    rw [State.updFport_slots]
    generalize List.filter _ _ = l
    unfold forEach
    induction l generalizing s with
    | nil => rfl
    | cons p l ih => rw [List.foldl_cons, ih, State.bitC_slots]
  repeat' split
  all_goals first | exact Eq.refl _ | exact ha ..

theorem State.beginTracking_arms : s.beginTracking.arms = s.arms :=
  Apart.beginTracking (p := fun s => s.arms)
    ⟨fun _ _ _ => Eq.refl _, fun _ _ _ => Eq.refl _, fun _ _ _ => Eq.refl _, fun _ _ => Eq.refl _⟩ s

theorem State.syncBehind_arms : s.syncBehind.arms = s.arms := by
  unfold State.syncBehind
  refine forEach_eq (fun s => s.arms) _ (fun s n => ?_) _ _
  have ha : ∀ (s : State) c n d, (s.armEntries c n d).arms = s.arms := fun s c n d => by
    unfold State.armEntries
    dsimp only
    rw [State.updFport_arms]
    generalize List.filter _ _ = l
    unfold forEach
    induction l generalizing s with
    | nil => rfl
    | cons p l ih => rw [List.foldl_cons, ih, State.bitC_arms]
  repeat' split
  all_goals first | exact Eq.refl _ | exact ha ..

/-- Each slot after what follows a command: EN falls where its conditions do not hold (R255). -/
theorem State.follow_slot (c : Ch) (k : Nat) :
    s.follow.slot c k = s.beginTracking.syncBehind.slotAfter c k (s.slot c k) := by
  unfold State.follow
  rw [State.dropPermits_slot]
  have h : s.beginTracking.syncBehind.slots = s.slots := by rw [State.syncBehind_slots, State.beginTracking_slots]
  simp only [State.slot, h]

/-- Each ARM output after what follows a command (R254, R256). -/
theorem State.follow_arm (c : Ch) (k : Nat) :
    s.follow.arm c k = s.beginTracking.syncBehind.armAfter c k (s.arm c k) := by
  unfold State.follow
  rw [State.dropPermits_arm]
  have h : s.beginTracking.syncBehind.arms = s.arms := by rw [State.syncBehind_arms, State.beginTracking_arms]
  simp only [State.arm, h]

/-- What follows a command raises no EN. -/
theorem State.after_en_low (u : State) (t : Nat) (c : Ch) (k : Nat) (h : (u.slot c k).en = false) :
    ((s.after t u).slot c k).en = false := by
  have h1 := State.follow_slot (s.latchPassive u) c k
  have h2 : ((s.latchPassive u).follow.slot c k).en = false := by
    rw [h1]
    have h3 : ((s.latchPassive u).slot c k).en = false := h
    unfold State.slotAfter
    simp [h3]
  unfold State.after
  generalize (s.latchPassive u).follow = w at h2
  exact h2

/-- What follows a command raises no ARM. -/
theorem State.after_arm_low (u : State) (t : Nat) (c : Ch) (k : Nat) (h : (u.arm c k).out = false) :
    ((s.after t u).arm c k).out = false := by
  have h1 := State.follow_arm (s.latchPassive u) c k
  have h2 : ((s.latchPassive u).follow.arm c k).out = false := by
    rw [h1]
    have h3 : ((s.latchPassive u).arm c k).out = false := h
    unfold State.armAfter
    simp [h3]
  unfold State.after
  generalize (s.latchPassive u).follow = w at h2
  exact h2

end Sys2Proof.Machine
end

