-- ==== Sys2Proof/Tests/Slice0.lean ====
section
/-! SUPPORT. Ill-formed commands, examples of the spec, and for the statements states that meet their premises. -/

namespace Sys2Proof.Tests

open Sys2Proof.Machine

set_option Elab.async false

/-- A device in NOMINAL and in DEV with the given objects set. -/
def nominal (l : List (Obj × Int)) : State :=
  l.foldl (fun s p => s.setR p.1 p.2)
    { State.reset with
      arch := { State.reset.arch with alive := Trio.all true, started := Trio.all true }
      life := { State.reset.life with state := 2 }
      red := { State.reset.red with state := .nominal, inV := Trio.all true, reachedDual := true } }

/-- Axis 0 at standstill, alone in group 0, whose semaphore P0 holds, bound to port 0 of channel A. -/
def held (l : List (Obj × Int)) : State :=
  ((nominal ([(Obj.agMember 0 0, 0x8000), (Obj.axFbSource 0, 0x1000), (Obj.fpIndexMode .chA 0, 1), (Obj.fpMode .chA 0, 1)] ++ l)).updSem 0 fun x =>
    { x with holder := some .p0 }).updGen 0 fun x => { x with mode := .standstill }

/-- A device in NOMINAL and in DEV with every axis at standstill. -/
def still (l : List (Obj × Int)) : State :=
  (List.range 32).foldl (fun s n => s.updGen n fun x => { x with mode := .standstill }) (nominal l)

/-- `s` as node 1 of the fabric, with a route to node 2. -/
def routed (s : State) : State :=
  { s with fab := { s.fab with strapVoted := true, addr := 1, planes := Trio.all { lsas := [{ at_ := 0, lsa :=
      { node := 1, uid := 1, seq := 1, timePriority := 0,
        recs := [{ nbr := 2, localLane := 0, remoteLane := 0, cost := 1 }] } }] } } }

/-- `s` paired with node 2, whose loss is known since time 0. -/
def twinned (l : List (Obj × Int)) : State :=
  let s := routed (still ([(Obj.twinState, 5), (Obj.twinPeerAddr, 2), (Obj.twinPeerUid, 9)] ++ l))
  { s with twin := { s.twin with paired := true, lost := true } }

/-- The lanes of both host ports are in use. -/
def lanes (s : State) : State := s.setR Obj.hostLaneStatus 63

/-- An untagged frame to a UDP port over IPv4. -/
def hdr (p : Nat) : FrameHdr := { length := 64, port := p }

/-- The entry of an index and subindex. -/
def entryAt (i j : Nat) : Option Entry := findObj i j

/-- Task 2 of axis 0, of the given type, enabled and placed in all three channels, owned by A. -/
def withTask (ty : Int) (l : List (Obj × Int)) : State :=
  (held ([(Obj.taskEnable 2, 1), (Obj.taskType 2, ty), (Obj.taskAxis 2, 0)] ++ l)).updTask 2 fun x =>
    { x with placed := true, computed := Trio.all true }

/-- The state after a command. -/
def ran (i : Instr) (s : State) : State :=
  match exec i s with
  | .next s' => s'
  | _ => s

/-- A response without abort has been sent to a row. -/
def acked (s : State) (cr : Carrier) : Bool := s.sent.any fun o => match o with
  | .response c _ _ 0 0 0 false [] _ => c == cr
  | _ => false

/-- The first response sent on a carrier since, newest first: code, detail, LAST and data. -/
def said (s : State) (cr : Carrier) : Option (Nat × Nat × Bool × List Byte) := s.sent.findSome? fun o => match o with
  | .response c _ _ _ code detail last data _ => if c = cr then some (code, detail, last, data) else none
  | _ => none

-- ill-formed commands, one for each check of Instr.wf

theorem test_wf_strap : (Instr.crossStrapFrame 0 .chA .chA .time true 0 []).wf = false ∧
    (Instr.crossStrapFrame 0 .chA .chB .time true 0 []).wf = true := by decide +kernel
theorem test_wf_object : (Instr.configWrite 0 .p0 0x10000 1 (.num 0)).wf = false ∧ (Instr.configWrite 0 .p0 1 0x100 (.num 0)).wf = false ∧
    (Instr.kdpTransferTimeout 0 .p0 0x10000 1).wf = false ∧ (Instr.kdpTransferTimeout 0 .p0 1 0x100).wf = false ∧
    (Instr.configWrite 0 .p0 0x1000 1 (.num 0)).wf = true := by decide +kernel
theorem test_wf_header : (Instr.kdpRequestCopy 0 .p0 .chA { vid := 4096 } []).wf = false ∧
    (Instr.kdpRequestCopy 0 .p0 .chA { port := 0x10000 } []).wf = false ∧
    (Instr.cyclicCommandFrame 0 .chA .p0 { vid := 4096 } []).wf = false ∧
    (Instr.cyclicCommandFrame 0 .chA .p0 { port := 0x10000 } []).wf = false := by decide +kernel
theorem test_wf_frame : (Instr.kdpRequestCopy 0 .p0 .chA {} (List.replicate 1529 0)).wf = false ∧
    (Instr.kdpRequestAgreed 0 .p0 (List.replicate 1529 0)).wf = false ∧
    (Instr.kdpCopyWindowExpiry 0 .p0 (List.replicate 1529 0)).wf = false ∧
    (Instr.cyclicCommandFrame 0 .chA .p0 {} (List.replicate 1529 0)).wf = false ∧
    (Instr.cyclicFrameAgreed 0 .p0 (List.replicate 1529 0)).wf = false ∧
    (Instr.cyclicAgreeFail 0 .p0 (List.replicate 1529 0)).wf = false := by decide +kernel
theorem test_wf_tid : (Instr.readExp 0 .p0 0x10000).wf = false ∧ (Instr.writeExp 0 .p0 0x10000).wf = false ∧
    (Instr.readSegInit 0 .p0 0x10000).wf = false ∧ (Instr.writeSegInit 0 .p0 0x10000).wf = false ∧
    (Instr.segmentRead 0 .p0 0x10000).wf = false ∧ (Instr.segmentWrite 0 .p0 0x10000).wf = false ∧
    (Instr.groupWrite 0 .p0 0x10000).wf = false ∧ (Instr.abortTransfer 0 .p0 0x10000).wf = false ∧
    (Instr.kdpStallResume 0 .p0 0x10000).wf = false ∧ (Instr.kdpWakeTimeout 0 .p0 0x10000).wf = false ∧
    (Instr.kdpProxyTimeout 0 .p0 0x10000).wf = false := by decide +kernel
theorem test_wf_proxy : (Instr.kdpProxyResponse 0 .p0 0x10000 0 0 true []).wf = false ∧
    (Instr.kdpProxyResponse 0 .p0 0 0x10000 0 true []).wf = false ∧ (Instr.kdpProxyResponse 0 .p0 0 0 0x10000 true []).wf = false := by
  decide +kernel
theorem test_wf_addresses : (Instr.arpRequest 0 .chA .p0 {} 0x100000000).wf = false ∧
    (Instr.neighbourSolicitation 0 .chA .p0 {} []).wf = false ∧
    (Instr.asTimeReceive 0 .chA .p0 0 0x10000000000000000 0).wf = false := by decide +kernel
theorem test_wf_traces : (Instr.traceCrossTrigger 0 3 3).wf = false ∧ (Instr.traceAbort 0 3 0).wf = false ∧
    (Instr.traceAbort 0 3 6).wf = false := by decide +kernel
theorem test_wf_motion : (Instr.gspiTransfer 0 .chA 0 0x100000000).wf = false ∧ (Instr.memberLoss 0 0 256).wf = false ∧
    (Instr.moveDescription 0 0 ⟨0, 0, [none], [], [], 0, 0, 0, 0, 0, 0⟩).wf = false := by decide +kernel
theorem test_wf_votes : (Instr.digestFrame 0 .chA .chA 0 ⟨0, 0, 0, 0⟩).wf = false ∧
    (Instr.digestFrame 0 .chA .chB 0 ⟨0x10000, 0, 0, 0⟩).wf = false ∧
    (Instr.digestFrame 0 .chA .chB 0 ⟨0, 0x100000000, 0, 0⟩).wf = false ∧
    (Instr.digestFrame 0 .chA .chB 0 ⟨0, 0, 256, 0⟩).wf = false ∧ (Instr.digestFrame 0 .chA .chB 0 ⟨0, 0, 0, 256⟩).wf = false ∧
    (Instr.voteResult 0 .chB .chB 0 (Trio.all true)).wf = false ∧ (Instr.twinSupervisionReport 0 0 9).wf = false := by
  decide +kernel
theorem test_wf_pins : (Instr.fpEdgeAccepted 0 .chA 0 ⟨true, 0⟩ ⟨true, 1⟩ ⟨true, 1⟩).wf = false ∧
    (Instr.fpEdgeAccepted 0 .chA 0 ⟨true, 1⟩ ⟨true, 0⟩ ⟨true, 1⟩).wf = false ∧
    (Instr.fpEdgeAccepted 0 .chA 0 ⟨true, 1⟩ ⟨true, 1⟩ ⟨true, 0⟩).wf = false ∧
    (Instr.lsaReceive 0 .chA 0 { node := 1, uid := 1, seq := 1, timePriority := 0, recs := [] } [] none).wf = false := by
  decide +kernel
theorem test_wf_rest : (Instr.streamSend 0 0 0 (List.replicate 2049 0)).wf = false ∧
    (Instr.pairingRequestReceive 0 ⟨0, 0, false, 0, []⟩).wf = false ∧
    (Instr.powerUpBist 0 .chA 0x10000 false 0 0 0).wf = false ∧ (Instr.powerUpBist 0 .chA 0 false 0x40000 0 0).wf = false ∧
    (Instr.porstRelease 0 .chA 256 true []).wf = false := by decide +kernel

-- examples of the spec

/-- The multiplication of the example under R299. -/
theorem test_mul : (mul 18974528 24 2621 {}).1 = 2964 := by decide +kernel
/-- The codes of that example: the residue of the product, and of one with bit 20 flipped. -/
theorem test_coding : (2621 * 4093 * 18974528) % 4093 = 0 ∧ (2621 * 4093 * 18974528 + 1048576) % 4093 = 768 := by decide +kernel
/-- The example under R341: a dq pair costs 554 ns at PL3. -/
theorem test_cost : taskCost 2 600 = 554 := by decide +kernel
/-- The example under R134: a read of CV_SAMPLE. -/
theorem test_sample_word : (((nominal []).setC .chA (Obj.cvStatus .chA 1) 0x0B).setC .chA (Obj.cvResult .chA 1) 0x0F5C).cvSampleNow
    .chA 1 = 0x000B0F5C := by decide +kernel
/-- The check value of CRC-32C. -/
theorem test_crc : crc32c (leBytes 9 0x393837363534333231) = 0xE3069283 := by decide +kernel
/-- No row of the command table gives bits, so no word spells a command. -/
theorem test_no_words : decodeTableWord 16 5 = none ∧ State.reset.withFetchWord 16 5 = State.reset := by decide +kernel

-- the premises of the statements

theorem test_idle : State.reset.pending = [] := rfl

/-- A command in PASSIVE. -/
theorem test_passive_step : ∃ s s' : State, s.red.state = .passive ∧ exec (.psi5SyncRequest 0 .chA 0) s = .next s' :=
  ⟨{ State.reset with red := { state := .passive } }, _, rfl, rfl⟩

/-- A safe state with a command that waits. -/
theorem test_safe_step : ∃ s s' : State, s.Safe ∧ s.pending ≠ [] ∧ step s = .next s' :=
  ⟨{ State.reset with pending := [.psi5SyncRequest 0 .chA 0] }, _,
    ⟨fun c k h => (by cases c <;> cases h), fun c k h => (by cases c <;> cases h), fun h => (by cases h)⟩, by simp, rfl⟩

theorem test_time_lock : field ((nominal []).v Obj.timeStatus) 0 2 = 0 ∧ (nominal []).isBit Obj.timeStatus 2 = false ∧
    (nominal [(Obj.timeStatus, 4)]).isBit Obj.timeStatus 2 = true := by decide
theorem test_time_loss : field ((nominal [(Obj.timeStatus, 1)]).v Obj.timeStatus) 0 2 ≠ 0 ∧
    (nominal [(Obj.timeStatus, 9)]).isBit Obj.timeStatus 3 = true := by decide

/-- A trip that waits on the link from B to A. -/
def strapped : State :=
  let s := nominal []
  { s with arch := { s.arch with queue := [{ src := .chB, dst := .chA, cls := .samples, at_ := 0, due := some 90, body := .trip 3 }] } }
theorem test_strap_path : (nominal []).arch.alive.get .chA = true ∧ (nominal []).strapPath .chA .chB = true ∧
    (nominal []).settleStraps.strapWaits .chA .chB .time = false ∧
    (nominal []).settleStraps.strapWaits .chA .chB .samples = false := by decide
theorem test_strap_next : strapped.arch.alive.get .chA = true ∧ strapped.strapPath .chA .chB = true ∧
    ((strapped.upTo 0).settleStraps.strapNext .chA .chB .samples).isSome = true := by decide

theorem test_link : (nominal []).linkDown .ab = false ∧ ((nominal []).setLink .ab true).linkDown .ab = true ∧
    Ch.chA ∈ (((nominal []).setLink .ab true).setLink .ca true).cutOff ∧ ((nominal []).setLink .bc true).cutOff = [] := by
  decide

theorem test_dram : ((nominal []).sed.get .chB).dramFault = false := by decide

theorem test_no_permit : ((nominal []).slot .chB 1).en = false ∧ ((nominal []).arm .chB 1).out = false ∧
    Obj.fpRaw .chB 3 ≠ Obj.fpPos .chB 3 ∧ (Obj.fpRaw .chB 3).key / 4096 ≠ 0x483 := by decide +kernel

/-- The value that each read returns in a fresh device, by channel and number where it has one. -/
theorem test_reads : (nominal []).reads 0 .p0 Obj.channelSkewMax 0 = true ∧ (nominal []).reads 0 .p1 Obj.deviceTime 0 = true ∧
    (nominal []).reads 0 .p0 (Obj.feMax 511) 0 = true ∧ (nominal []).reads 0 .p0 (Obj.maxExec 0) 0 = true ∧
    (nominal []).reads 0 .p0 (Obj.siDiscMax (siNum .chC 5)) 0 = true ∧ (nominal []).reads 0 .can0 Obj.refuserMap 0 = true ∧
    (nominal []).reads 0 .p0 Obj.rotationMax 0 = true := by decide +kernel
theorem test_reads_of_units : (nominal []).reads 0 .p0 (Obj.cvResult .chB 19) (-32768) = true ∧
    (nominal []).reads 0 .p0 (Obj.cvSample .chC 0) 32768 = true ∧
    (nominal []).reads 0 .p0 (Obj.domainLast 5) 0 = true ∧ (nominal []).reads 0 .p0 (Obj.axExtrapPos 31) 0 = true := by
  decide +kernel
theorem test_reads_status : (nominal []).reads 0 .p0 Obj.pwrStatus 12 = true := by decide +kernel

theorem test_sensing_writes : (nominal []).sets 0 .p0 (Obj.cvStatusClear .chC 19) 12 = true ∧
    (nominal [(Obj.cvEnable .chB 18, 1)]).sets 0 .can1 (Obj.diagInject .chB 0) 6 = true ∧
    (nominal []).sets 0 .p1 (Obj.calRequest .chA) 1048575 = true ∧ (nominal [(Obj.cvEnable .chA 19, 1)]).cvOn .chA 19 = true := by
  decide +kernel

theorem test_feedback_writes : (nominal []).sets 0 .p0 (Obj.cmpControl .chB 7 15) 7 = true ∧
    (nominal []).sets 0 .p0 (Obj.fpPreset .chC 7) (-5) = true ∧ (nominal []).sets 0 .p0 (Obj.spPreset .chA 5) 5 = true ∧
    (nominal []).sets 0 .p0 (Obj.fpStatusClear .chA 0) 40 = true ∧ (nominal []).sets 0 .p0 (Obj.spStatusClear .chC 5) 8 = true := by
  decide +kernel
theorem test_home_writes : (held []).sets 0 .p0 (Obj.axHome 0) 1 = true ∧ (held []).sets 0 .p0 (Obj.axHome 0) 0 = true ∧
    (held []).sets 0 .p0 (Obj.axHome 0) 2 = true ∧ ((held []).sourceOf 0).isSome = true := by decide +kernel

theorem test_task_writes : (nominal []).sets 0 .p0 (Obj.bankSelect 511) 1 = true ∧
    (held []).sets 0 .p0 (Obj.axFaultClear 0) 1 = true ∧
    (((held []).axis 0).causes.all fun p => !((held []).heard 0 .p0).causeHolds 0 p.1) = true ∧
    (nominal []).sets 0 .p0 (Obj.traceControl 0) 0 = true ∧ (nominal []).sets 0 .p0 (Obj.traceControl 511) 3 = true := by
  decide +kernel
theorem test_bank_writes : (nominal [(Obj.taskEnable 3, 1)]).sets 0 .p0 (Obj.bankSelect 3) 1 = true ∧
    (nominal [(Obj.taskEnable 3, 1)]).v (Obj.taskEnable 3) = 1 ∧ (nominal []).bankOf 3 = 0 := by decide +kernel
theorem test_trace_writes : ((nominal [(Obj.traceNodes 2, 0xFFFFFFFFFFFFFF00)]).updTask 2 fun x => { x with owner := 1 }).sets 0 .p0 (Obj.traceControl 2) 1 = true ∧
    ((nominal [(Obj.traceNodes 2, 0xFFFFFFFFFFFFFF00)]).updTask 2 fun x => { x with owner := 1 }).ownerCh 2 = some .chB ∧
    ((nominal []).updTrace 2 fun x => { x with state := 1 }).sets 0 .p0 (Obj.traceControl 2) 2 = true := by decide +kernel

theorem test_axis_commands : (held []).sets 0 .p0 (Obj.axTorqueEnable 0) 1 = true ∧
    (held []).sets 0 .p0 (Obj.axTorqueEnable 0) 0 = true ∧ (held []).sets 0 .p0 (Obj.pgTarget 0) 100 = true ∧
    (held []).groupOf 0 = some (0, 0) ∧ (held []).v (Obj.agMode 0) = 0 ∧ (held []).jointGroup 0 = none ∧
    ((held []).gen 0).stopReq = none ∧ ((held []).group 0).stopReq = none ∧ 0 ∈ (held []).members 0 ∧
    (held []).isRemote 0 0 = false ∧ (held []).members 0 = [0] ∧ ((held []).group 0).move = none ∧
    (held []).memberAxis 0 0 = 0 ∧ (held [(Obj.agMode 0, 1)]).sets 0 .p0 (Obj.pgTarget 0) 100 = true ∧
    (held [(Obj.agMode 0, 1)]).jointGroup 0 = some 0 ∧ (held [(Obj.agMode 0, 1)]).groupOf 0 = some (0, 0) ∧
    (held [(Obj.agMode 0, 1)]).sets 0 .p0 (Obj.pgControl 0) 1 = true ∧
    (held [(Obj.agMode 0, 1)]).sets 0 .p0 (Obj.pgControl 0) 2 = true ∧
    (held []).sets 0 .p0 (Obj.pgControl 0) 1 = true ∧ (held []).sets 0 .p0 (Obj.pgControl 0) 2 = true := by decide +kernel
theorem test_group_commands : (held []).sets 0 .p0 (Obj.agControl 0) 1 = true ∧
    (held []).sets 0 .p0 (Obj.agControl 0) 2 = true ∧ (held [(Obj.agMode 0, 3)]).sets 0 .p0 (Obj.agControl 0) 1 = true ∧
    (held [(Obj.agMode 0, 3)]).sets 0 .p0 (Obj.agControl 0) 2 = true ∧
    (held [(Obj.agMode 0, 2)]).sets 0 .p0 (Obj.agForceTotal 0) 100 = true := by decide +kernel

theorem test_group_stop : ((held [(Obj.agMode 0, 1)]).updGroup 0 fun x => { x with move := some default }).sets 0 .p0 (Obj.agControl 0) 2 = true ∧
    ((held [(Obj.agMode 0, 1)]).updGroup 0 fun x => { x with move := some default }).sets 0 .p0 (Obj.agControl 0) 1 = true := by decide +kernel

theorem test_redund_writes : (nominal []).sets 0 .p0 Obj.passiveRequest 1 = true ∧
    (nominal []).red.state ≠ .startup ∧ (nominal []).red.state ≠ .passive ∧
    (held []).sets 0 .p0 (Obj.axRedundMode 0) 1 = true ∧ (held []).tasksOf 0 = [] := by decide +kernel
theorem test_redund_mode_with_tasks :
    (held [(Obj.taskEnable 511, 1), (Obj.taskAxis 511, 0)]).sets 0 .p0 (Obj.axRedundMode 0) 1 = true ∧
    (held [(Obj.taskEnable 511, 1), (Obj.taskAxis 511, 0)]).tasksOf 0 ≠ [] ∧
    ((held [(Obj.taskEnable 511, 1), (Obj.taskAxis 511, 0)]).axis 0).split ≠ ((1 : Int) == 1) := by decide +kernel
theorem test_plan_writes : ({ nominal [] with place := { (nominal []).place with placed := true, aged := true } }).sets 0 .can2
      Obj.planRequest 1 = true ∧ (nominal []).place.run = none ∧ (nominal []).sets 0 .p1 Obj.planRequest 2 = true := by
  decide +kernel

theorem test_fabric_writes : (routed (nominal [(Obj.strapStatus, 1)])).sets 0 .p0 Obj.fabNodeAddr 254 = true ∧
    (nominal []).writes 0 .p0 Obj.fabAuthKey0 (.bytes (List.replicate 32 0)) = true ∧
    (nominal []).writes 0 .p0 Obj.fabAuthKey1 (.bytes (List.replicate 32 0)) = true ∧
    (routed (nominal [(Obj.strapStatus, 1)])).nidSource ≠ 0 := by decide +kernel
theorem test_twin_writes : (routed (still [(Obj.twinPeerAddr, 2), (Obj.twinPeerUid, 9)])).sets 0 .p0 Obj.twinPairCmd 1 = true ∧
    (twinned []).sets 0 .p0 Obj.twinPairCmd 2 = true ∧ (twinned []).twin.unpairPeer = none ∧
    (let s := twinned []; ({ s with twin := { s.twin with unpairPeer := some 5 } } : State).sets 0 .p0 Obj.twinPairCmd 2) = true ∧
    (twinned []).sets 4500000000 .p0 Obj.twinPairCmd 3 = true := by decide +kernel

theorem test_safety_writes : (nominal []).sets 0 .p0 (Obj.siMode (siNum .chC 5)) 0 = true ∧
    (nominal []).sets 0 .p0 (Obj.siMode (siNum .chA 0)) 2 = true ∧
    (nominal []).sets 0 .p0 Obj.faultReset 1 = true ∧ (nominal []).v Obj.faultReset = 0 ∧
    (nominal []).sets 0 .p0 Obj.clClear 0x65706977 = true := by decide +kernel
theorem test_fault_reset_falls :
    ({ nominal [(Obj.faultReset, 1)] with safe := { (nominal []).safe with objHigh := some 0 } }).sets 1500000000 .p1
      Obj.faultReset 0 = true ∧ (nominal [(Obj.faultReset, 1)]).isBit Obj.resetStatus 1 = false := by decide +kernel
theorem shaBlock_length (h : List Nat) (l : List Byte) (hl : h.length = 8) : (shaBlock h l).length = 8 := by
  simp [shaBlock, ShaSt.words, hl]
theorem sha_fold (f : Nat → List Byte) (l : List Nat) (h : List Nat) (hl : h.length = 8) :
    (l.foldl (fun h i => shaBlock h (f i)) h).length = 8 := by
  induction l generalizing h with
  | nil => exact hl
  | cons x l ih => exact ih _ (shaBlock_length h _ hl)
theorem sha_nonempty (l : List Byte) : (sha256 l).isEmpty = false := by
  have h := sha_fold (fun i => ((shaPad l).drop (64 * i)).take 64) (List.range ((shaPad l).length / 64)) shaInit rfl
  unfold sha256
  dsimp only
  generalize hx : (List.range ((shaPad l).length / 64)).foldl (fun h i => shaBlock h (((shaPad l).drop (64 * i)).take 64)) shaInit = x at h ⊢
  match x, h with
  | a :: r, _ => simp [beBytes, leBytes]
/-- A device with the password of eight zeros. -/
def withPassword : State := { nominal [] with safe := { (nominal []).safe with pwHash := pwHashOf (List.replicate 8 0x61) } }
theorem enter_ok : (withPassword.heard 0 .p0).enterFails .p0 (.bytes (List.replicate 8 0x61)) = ([], false) := by
  have h1 : (withPassword.heard 0 .p0).canBarred .p0 = false := by decide +kernel
  have h2 : (withPassword.heard 0 .p0).lockedOut = false := by decide +kernel
  have h3 : (withPassword.heard 0 .p0).safe.pwHash = pwHashOf (List.replicate 8 0x61) := rfl
  have h4 : (withPassword.heard 0 .p0).pwIsSet = true := by
    unfold State.pwIsSet; rw [h3]; unfold pwHashOf; rw [sha_nonempty]; rfl
  unfold State.enterFails
  simp only [h1, h2, h4, h3]; simp
theorem test_pw_enter : withPassword.writes 0 .p0 Obj.pwEnter (.bytes (List.replicate 8 0x61)) = true := by
  unfold State.writes State.writeFails
  simp only [enter_ok, List.nil_append, ite_self]
  decide +kernel
theorem test_password_writes : (nominal []).writes 0 .p0 Obj.pwNew (.bytes (List.replicate 8 0x61)) = true ∧
    (nominal []).sets 0 .p0 Obj.pwLock 1 = true := by decide +kernel

theorem test_power_writes : (still [(Obj.sleepEnable, 6)]).sets 30000 .p0 Obj.pwrRequest 1 = true ∧ (still [(Obj.sleepEnable, 6)]).refusers = [] ∧
    (still [(Obj.sleepEnable, 6), (Obj.vehicleParked, 1)]).sets 30000 .p0 Obj.pwrRequest 2 = true ∧
    ({ nominal [(Obj.sleepEnable, 6), (Obj.vehicleParked, 1)] with power := { (nominal []).power with waking := true } }).sets
      0 .p0 Obj.pwrRequest 2 = true ∧
    ({ nominal [(Obj.sleepEnable, 6), (Obj.vehicleParked, 1)] with power := { (nominal []).power with waking := true } }).sets
      0 .p0 Obj.pwrRequest 1 = true ∧
    ({ nominal [] with power := { (nominal []).power with entering := some .park } }).plReady .chC = false ∧
    ({ nominal [] with power := { (nominal []).power with entering := some .park } }).sets 0 .p0 (Obj.plRequest .chC) 1 = true ∧
    (nominal []).sets 0 .p0 (Obj.domainMode 5) 1 = true := by decide +kernel
theorem test_life_writes : (still []).lcTarget 0x4C430302 = some 3 ∧ (still []).sets 0 .p0 Obj.lcRequest 0x4C430302 = true ∧
    (nominal []).sets 0 .p0 Obj.debugPermit 0 = true ∧ (nominal []).sets 0 .p0 Obj.sedTrigger 7 = true ∧
    (nominal []).sets 0 .p0 Obj.sedRelease 7 = true := by decide +kernel

theorem test_config_writes : (nominal []).sets 0 .p0 (Obj.axHomeValue 31) (-1000) = true ∧
    ((findObj (Obj.axHomeValue 31).index (Obj.axHomeValue 31).sub).map fun e =>
      (e.plain, e.holds, decide (e.key = (Obj.axHomeValue 31).key), decide (e.obj = Obj.axHomeValue 31))) =
        some (true, true, true, true) := by decide +kernel
theorem test_config_descs : (nominal []).sets 0 .p0 (Obj.objDesc 2047) 0x30 = true ∧
    ((findObj (Obj.objDesc 2047).index (Obj.objDesc 2047).sub).map fun e =>
      (decide (e.desc.role = .objDesc), decide (e.obj = Obj.objDesc (e.i * 8 + e.m)))) = some (true, true) ∧
    (nominal []).sets 0 .p0 (Obj.streamDesc 4079) 1 = true := by decide +kernel
theorem test_config_waits : ((findObj (Obj.axHomeValue 31).index (Obj.axHomeValue 31).sub).map fun e =>
      ((nominal []).accepts 1 .p0 e (.num 5), decide (1 < ((nominal []).heard 1 .p0).dueOf e 1))) = some (true, true) ∧
    ((nominal []).upTo 1).noneDue = true := by decide +kernel
theorem test_config_semaphore : ((entryAt 0x2400 1).map fun e =>
      ((nominal []).accepts 0 .p0 e (.num 1), decide (e.desc.role = .sluiceAg))) = some (true, true) := by decide +kernel
theorem test_store : (nominal []).sets 0 .p0 Obj.storeAll 0x65766173 = true ∧
    (still []).sets 0 .p0 Obj.restoreDefaults 0x64616F6C = true := by decide +kernel
theorem test_store_running : ({ nominal [] with kdp := { (nominal []).kdp with
    store := some ([(nominal []).rowReq .p0 2 0 0 []], 0) } }).kdp.store.isSome = true ∧
    ∀ c, ((nominal []).sed.get c).copy = none := by
  refine ⟨rfl, fun c => ?_⟩; cases c <;> decide +kernel

def copyIn (s : State) (c : Ch) (a : Nat) (frame : List Byte) : State :=
  s.updKdp fun k => { k with copies := k.copies ++ [{ carrier := .p0, chan := c, frame := frame, at_ := a }] }
theorem test_copy : (lanes (nominal [])).reach .p0 .chC = true ∧ (lanes (nominal [])).kdpTakes .p0 (hdr 48620) = true ∧
    (lanes (nominal [])).frameFits .p0 20 = true ∧ parseKdp (List.replicate 20 0) = none ∧
    (parseKdp (kdpBytes 1 7 0 0 0x1000 1 0 0 [])).isSome = true := by decide +kernel
theorem test_agreed : (copyIn (copyIn (nominal []) .chA 0 (kdpBytes 1 7 0 0 0x1000 1 0 0 [])) .chC 0 (kdpBytes 1 7 0 0 0x1000 1 0 0 [])).isMajority
    ((copyIn (copyIn (nominal []) .chA 0 (kdpBytes 1 7 0 0 0x1000 1 0 0 [])) .chC 0 (kdpBytes 1 7 0 0 0x1000 1 0 0 [])).copyHolders
      ((copyIn (copyIn (nominal []) .chA 0 (kdpBytes 1 7 0 0 0x1000 1 0 0 [])) .chC 0 (kdpBytes 1 7 0 0 0x1000 1 0 0 [])).copiesOf .p0
        (kdpBytes 1 7 0 0 0x1000 1 0 0 []))) = true ∧
    ((parseKdp (kdpBytes 1 7 0 0 0x1000 1 0 0 [])).map fun f => f.target) = some 0 ∧ (nominal []).receives = true := by decide +kernel
theorem test_window : (copyIn (nominal []) .chB 0 (kdpBytes 1 7 0 0 0x1000 1 0 0 [])).isMajority
    ((copyIn (nominal []) .chB 0 (kdpBytes 1 7 0 0 0x1000 1 0 0 [])).copyHolders
      ((copyIn (nominal []) .chB 0 (kdpBytes 1 7 0 0 0x1000 1 0 0 [])).copiesOf .p0 (kdpBytes 1 7 0 0 0x1000 1 0 0 []))) = false ∧
    (copyIn (nominal []) .chB 0 (kdpBytes 1 7 0 0 0x1000 1 0 0 [])).vn Obj.kdpCopyWindow * us ≤ 60000 := by decide +kernel
/-- A request of channel C has been answered 100 us ago; its frame names node 2. -/
def answeredBefore (hold : Trio Bool) : State := { lanes (nominal []) with now := 1000000, kdp := { answered :=
  [{ req := { carrier := .p0, frame := kdpBytes 1 7 2 0 0x1000 1 0 0 [], holders := hold, first := 999000, agreed := 999000 },
     answered := 999500, code := 0x0608, detail := 16, last := false, data := [] }] } }
theorem test_late_and_replay :
    ((answeredBefore ⟨true, true, false⟩).kdp.answered.find? fun a =>
      (answeredBefore ⟨true, true, false⟩).isLate a.req .p0 .chC (kdpBytes 1 7 2 0 0x1000 1 0 0 [])).isSome = true ∧
    ((answeredBefore (Trio.all true)).kdp.answered.find? fun a =>
      (answeredBefore (Trio.all true)).isLate a.req .p0 .chC (kdpBytes 1 7 2 0 0x1000 1 0 0 [])).isNone = true ∧
    ((answeredBefore (Trio.all true)).replayOf .p0 (kdpBytes 1 7 2 0 0x1000 1 0 0 [])).isSome = true := by decide +kernel
theorem test_targets : (parseKdp (kdpBytes 1 7 2 0 0x1000 1 0 0 [])).map (fun f => (f.target, earlyRequest f)) = some (2, true) ∧
    (parseKdp (kdpBytes 2 7 0 0 0x1200 4 0 0 [0, 1])).map earlyRequest = some false ∧
    (routed (nominal [(Obj.kdpProxyEnable, 1)])).hasRoute 2 = true ∧ (routed (nominal [(Obj.kdpProxyEnable, 0)])).v Obj.kdpProxyEnable = 0 ∧
    (nominal []).fab.addr ≠ 2 := by decide +kernel

/-- `s` with a request ready for execution. -/
def ready (frame : List Byte) (s : State) : State :=
  s.updKdp fun k => { k with ready := [{ carrier := .p0, frame := frame, holders := Trio.all true, first := 0, agreed := 0 }] }
/-- The ready request of a frame, and the entry that it names. -/
def readyReq (frame : List Byte) (svc : Nat) : Option (KdpReq × KdpFrame) :=
  findReq (ready frame (nominal [])).kdp.ready .p0 7 fun f => f.service == svc
/-- A read of 0x2800:05 (write only) fails, one of 0x1200:04 passes. -/
theorem test_read_exp : (readyReq (kdpBytes 1 7 0 0 0x1200 4 0 0 []) 1).isSome = true ∧
    (entryAt 0x1200 4).map (fun e => (firstAbort ((nominal []).readFails e), e.desc.ty == .domain, (nominal []).mustWake e,
      ((nominal []).readBytes e).map fun l => decide (l.length ≤ 8))) = some (none, false, false, some true) ∧
    (readyReq (kdpBytes 1 7 0 0 0x2800 5 0 0 []) 1).isSome = true ∧
    (entryAt 0x2800 5).map (fun e => (firstAbort ((nominal []).readFails e)).isSome) = some true := by decide +kernel
/-- A write of 0x1200:04 waits for the next commit instant; one of 0x1200:04 with one byte fails. -/
theorem test_write_exp : (readyReq (kdpBytes 2 7 0 0 0x1200 4 0 0 [0, 1]) 2).isSome = true ∧
    (entryAt 0x1200 4).map (fun e => (((nominal []).writeFails ((nominal []).rawSet e (valFor e [0, 1])) .p0 e (valFor e [0, 1]) 1),
      (nominal []).mustWake e, (nominal []).dueOf e 1)) = some (none, false, 30000) ∧
    (entryAt 0x1200 4).map (fun e => (((nominal []).writeFails ((nominal []).rawSet e (valFor e [0])) .p0 e (valFor e [0]) 1)).isSome)
      = some true := by decide +kernel
/-- The device name of 10 bytes is too long; an object of the engines stalls without them; 0x9999 does not exist. -/
theorem test_exp_others : (entryAt 0x1008 0).map (fun e => ((nominal []).readBytes e).map List.length) = some (some 10) ∧
    (entryAt 0x5000 1).map (fun e => ({ nominal [] with power := { (nominal []).power with ce := false } }).mustWake e) = some true ∧
    (entryAt 0x9999 1).isNone = true ∧ (readyReq (kdpBytes 2 7 0 0 0x1200 4 0 0 []) 2).isSome = true ∧
    (readyReq (kdpBytes 1 7 0 0 0x9999 4 0 0 []) 1).isSome = true := by decide +kernel

/-- An open transfer of 0x1110:01 on P0. -/
def opened (w : Bool) (s : State) : State :=
  s.openTransfer { carrier := .p0, index := 0x1110, sub := 1, write := w, total := 4096, next := 1, data := [], last := 0 }
theorem test_seg_init : (readyReq (kdpBytes 3 7 0 0 0x1200 4 0 0 []) 3).isSome = true ∧
    (readyReq (kdpBytes 4 7 0 0 0x1200 4 0 0 (leBytes 4 4096)) 4).isSome = true ∧
    (entryAt 0x1200 4).map (fun e => (firstAbort ((nominal []).accessFails .p0 e 1), (nominal []).mustWake e)) = some (none, false) ∧
    ((nominal []).transfersOf .p0).length < 4 := by decide +kernel
theorem test_segments : (findReq (ready (kdpBytes 5 7 0 0 0x1110 1 0 1 []) (opened false (nominal []))).kdp.ready .p0 7 fun f =>
      f.service == 5 && !(opened false (nominal [])).segWrites .p0 f).isSome = true ∧
    2 * (nominal []).segSize .p0 < 4096 ∧
    (findReq (ready (kdpBytes 5 7 0 0 0x1110 1 0 1 []) (opened true (nominal []))).kdp.ready .p0 7 fun f =>
      f.service == 5 && ((opened true (nominal [])).segWrites .p0 f)).isSome = true ∧
    (readyReq (kdpBytes 7 7 0 0 0x1110 1 0 0 []) 7).isSome = true ∧
    ((opened true (nominal [])).transferOf .p0 0x1110 1).isSome = true ∧
    (opened true (nominal [])).vn Obj.kdpTimeout * ms ≤ 3000000000 := by decide +kernel
theorem test_segment_numbers : (parseKdp (kdpBytes 5 7 0 0 0x1110 1 0 1 [])).map (fun f => (f.detail, bit (f.flags : Int) 3)) =
    some (1, false) ∧ (parseKdp (kdpBytes 5 7 0 0 0x1110 1 0 2 [])).map (fun f => f.detail) = some 2 := by decide +kernel
/-- A write transfer of 0x1200:04 of two bytes, at its only segment. -/
def opened2 (l : List Byte) (s : State) : State :=
  s.openTransfer { carrier := .p0, index := 0x1200, sub := 4, write := true, total := 2, next := 0, data := l, last := 0 }
theorem test_last_segment : (findReq (ready (kdpBytes 5 7 0 8 0x1200 4 0 0 [0, 1]) (opened2 [] (nominal []))).kdp.ready .p0 7 fun f =>
      f.service == 5 && ((opened2 [] (nominal [])).segWrites .p0 f)).map (fun x => (bit (x.2.flags : Int) 3, x.2.data)) =
        some (true, [0, 1]) ∧
    (entryAt 0x1200 4).map (fun e => (nominal []).writeFails ((nominal []).rawSet e (valFor e [0, 1])) .p0 e (valFor e [0, 1]) 1) =
      some none := by decide +kernel
theorem test_domain_window : (entryAt 0x7801 0).map (fun e => (decide (e.desc.ty = .domain), firstAbort ((nominal []).readFails e),
    (nominal []).readBytes e)) = some (true, none, some []) := by decide +kernel

/-- A group of one write of 0x1200:04. -/
def group1 (l : List Byte) : List Byte := leBytes 2 1 ++ leBytes 2 0x1200 ++ [4] ++ leBytes 1 l.length ++ (l ++ List.replicate (8 - l.length) 0)
theorem test_group : (readyReq (kdpBytes 6 7 0 0 0 0 0 0 (group1 [0, 1])) 6).isSome = true ∧
    (readyReq (kdpBytes 6 7 0 0 0 0 0 0 (leBytes 2 0)) 6).isSome = true ∧ (readyReq (kdpBytes 6 7 0 0 0 0 0 0 (leBytes 2 17)) 6).isSome = true ∧
    (groupMembersOf (group1 [0, 1])).length = 1 ∧ (group1 [0, 1]).length = 14 ∧
    (entryAt 0x1200 4).map (fun e => (groupMembersOf (group1 [0, 1])).map fun m =>
      ((nominal []).memberFails ((nominal []).rawSet e (valFor e [0, 1])) .p0 m 1, (nominal []).groupFrom [e] 1)) =
      some [(none, 30000)] ∧
    (entryAt 0x1200 4).map (fun e => (groupMembersOf (group1 [0])).map fun m =>
      ((nominal []).memberFails ((nominal []).rawSet e (valFor e [0])) .p0 m 1).isSome) = some [true] := by decide +kernel
theorem test_commit : (nominal []).receives = true ∧ isCommit 30000 = true ∧ isCommit 29999 = false ∧
    (nominal []).kdp.writes = [] := by decide +kernel
theorem test_group_fails : (readyReq (kdpBytes 6 7 0 0 0 0 0 0 (group1 [0, 1])) 6).map (fun x => (nominal []).groupFails .p0 x.2) =
      some none ∧
    (readyReq (kdpBytes 6 7 0 0 0 0 0 0 (group1 [0])) 6).map (fun x => (nominal []).groupFails .p0 x.2) = some (some (0x0603, 0)) ∧
    (nominal []).marks.getD markCommit 0 ≠ 30001 := by decide +kernel
/-- `s` with a write of 0x1200:04 that waits for time 21,000. -/
def waitsWrite (s : State) : State := s.updKdp fun k => { k with writes := [{ due := 21000, members := [(0x120004, .num 300)], req :=
  { carrier := .p0, frame := kdpBytes 2 7 0 0 0x1200 4 0 0 [0, 1], holders := Trio.all true, first := 0, agreed := 0 } }] }
theorem test_due_write : (waitsWrite (nominal [])).kdp.writes.length = 1 ∧ isCommit 21000 = false ∧
    (waitsWrite (nominal [])).kdp.writes.map (fun w => (w.due, w.sluice.isNone, w.stores, w.req.frame.isEmpty)) = [(21000, true, false, false)] ∧
    (entryAt 0x1200 4).map (fun e => (e.key, e.plain)) = some (0x120004, true) := by decide +kernel

/-- `s` with a stalled request, of a value to write or as it was sent, and a forwarded one. -/
def waiting (frame : List Byte) (v : Option (Nat × Val)) (s : State) : State :=
  s.updKdp fun k => { k with
    stalled := [{ req := { carrier := .p0, frame := frame, holders := Trio.all true, first := 0, agreed := 0 }, write := v }]
    proxied := [{ carrier := .p0, frame := frame, holders := Trio.all true, first := 0, agreed := 0 }] }
/-- The engines sleep. -/
def noEngines (s : State) : State := s.updPower fun p => { p with ce := false }
theorem test_waiting : ((waiting (kdpBytes 1 7 0 0 0x5000 1 0 0 []) none (nominal [])).stalledReq .p0 7 false).isSome = true ∧
    (entryAt 0x5000 1).map (fun e => (firstAbort ((nominal []).readFails e), ((nominal []).readBytes e).isSome)) = some (none, true) ∧
    ((noEngines (waiting (kdpBytes 1 7 0 0 0x5000 1 0 0 []) none (nominal []))).stalledReq .p0 7 true).isSome = true ∧
    (findReq (waiting (kdpBytes 1 7 0 0 0x5000 1 0 0 []) none (nominal [])).kdp.proxied .p0 7 (fun _ => true)).isSome = true ∧
    (nominal []).vn Obj.kdpTimeout * ms ≤ 3000000000 := by decide +kernel
theorem test_waiting_write :
    ((waiting (kdpBytes 2 7 0 0 0x5000 5 0 0 [0, 0, 0, 0]) (some (0x500005, .num 0)) (nominal [])).stalledReq .p0 7 false).isSome = true ∧
    (entryOf 0x500005).map (fun e => (e.key, (nominal []).mustWake e,
      (nominal []).writeFails ((nominal []).rawSet e (.num 0)) .p0 e (.num 0) 1, decide (0 < (nominal []).dueOf e 1))) =
      some (0x500005, false, none, true) := by decide +kernel

theorem test_lanes : (lanes (nominal [])).laneUp .chB .p1 = true ∧ (lanes (nominal [])).laneTakes .p1 (hdr 0) = true ∧
    (lanes (nominal [])).ipServed .p1 false = true ∧ (nominal []).vn (Obj.portIpv4Addr 1) ≠ 1 ∧
    (lanes (nominal [(Obj.portIpMode 1, 2)])).ipServed .p1 true = true ∧
    (lanes (nominal [(Obj.portIpMode 1, 2)])).laneTakes .p1 { hdr 0 with v6 := true } = true := by decide +kernel

theorem test_grandmaster : (lanes (nominal [(Obj.asEnable 1, 1)])).v (Obj.asEnable 1) = 1 ∧
    (lanes (nominal [(Obj.asEnable 1, 1)])).laneUp .chA .p1 = true ∧ (nominal []).isTimeMaster = false ∧
    (nominal []).v (Obj.asEnable 0) ≠ 1 := by decide +kernel
/-- A time master with a port of 802.1AS. -/
def master : State := { lanes (nominal [(Obj.asEnable 1, 1)]) with fab := { (nominal []).fab with master := 1, addr := 1 } }
theorem test_time_master : master.isTimeMaster = true ∧
    (master.updPort 1 fun y => { y with gm := some (1, 2) }).asPort = some 1 := by decide +kernel

/-- The frame of an empty command map with the signature in force. -/
def emptyCyc (s : State) : List Byte := cyclicBytes 0x10 5 0 0 (s.vn (Obj.cmdMapSignature 0)) 0 []
def cycUp : State := lanes (nominal [(Obj.cyclicEnable 0, 1)])
def cycCopies (l : List (Ch × List Byte × Nat)) : State := cycUp.updPort 0 fun x => { x with copies := l }
theorem test_cyclic : cycUp.laneUp .chC .p0 = true ∧ cycUp.laneTakes .p0 (hdr (cycUp.vn (Obj.cyclicUdpPort 0))) = true ∧
    cycUp.ipServed .p0 false = true ∧ cycUp.cyclicOk 0 (emptyCyc cycUp) = true ∧ cycUp.cyclicOk 0 [] = false ∧
    cycUp.cycle 0 ≠ 0 := by decide +kernel
theorem test_cyclic_agreed :
    (cycCopies [(.chA, [1], 0), (.chB, [1], 9)]).isMajority ((cycCopies [(.chA, [1], 0), (.chB, [1], 9)]).cycHolders 0
      (((cycCopies [(.chA, [1], 0), (.chB, [1], 9)]).port 0).copiesOf [1])) = true ∧
    (cycCopies [(.chA, [1], 0)]).isMajority ((cycCopies [(.chA, [1], 0)]).cycHolders 0
      (((cycCopies [(.chA, [1], 0)]).port 0).copiesOf [1])) = false ∧
    (cycCopies [(.chA, [1], 0)]).cycEnd 0 (((cycCopies [(.chA, [1], 0)]).port 0).copiesOf [1]) ≤ 300000 := by decide +kernel

def cycDue (n : Nat) (last : Option Nat) : State := cycUp.updPort 0 fun x => { x with
  frames := [{ counter := n, payload := [], agreed := 0, due := 0 }], lastCounter := last }
theorem test_boundary : (cycDue 5 none).kdp.writes = [] ∧ (cycDue 5 none).receives = true ∧ (cycDue 5 none).cycle 0 ≠ 0 ∧
    (cycDue 5 none).cmdWords 0 = [] ∧ counterNewer 0 65535 = true ∧ counterNewer 5 5 = false := by decide +kernel
theorem test_status : (cycUp.updPort 0 fun x => { x with latched := some (0, [], false) }).vn (Obj.statusOffset 0) * us ≤ 3000000 ∧
    (nominal []).vn (Obj.portSilentTime 1) * ms ≤ 3000000000 ∧ isCommit 3000000000 = true := by decide +kernel
theorem test_newest : newestOf ((cycDue 5 none).port 0).frames = some { counter := 5, payload := [], agreed := 0, due := 0 } ∧
    ((cycDue 5 none).upTo 0).noneDue = true := by decide +kernel
/-- A map of one entry, 0x1200:04, and a frame of 300 for it. -/
def cycOne (l : List Byte) : State := (cycUp.setR (Obj.cmdMapCount 0) 1).setR (Obj.cmdMapEntry 0 0) 0x12000410 |>.updPort 0 fun x =>
  { x with frames := [{ counter := 5, payload := l, agreed := 0, due := 0 }] }
theorem test_cyc_entry : (cycOne [44, 1]).cmdWords 0 = [0x12000410] ∧
    (cutPayload [0x12000410] [44, 1]).map (fun y => y.map fun x => (x.2, x.1.plain,
      (cycOne [44, 1]).writeFails ((cycOne [44, 1]).rawSet x.1 x.2) .p0 x.1 x.2 0)) = [some (.num 300, true, none)] ∧
    (cutPayload [0x12000410] [0, 0]).map (fun y => y.map fun x =>
      ((cycOne [0, 0]).writeFails ((cycOne [0, 0]).rawSet x.1 x.2) .p0 x.1 x.2 0).isSome) = [some true] := by decide +kernel

theorem test_sluice : (entryAt 0x2400 16).map (fun e => (nominal []).accepts 0 .p1 e (.num 1)) = some true ∧
    (entryAt 0x2400 1).map (fun e => (held []).accepts 0 .p0 e (.num 0)) = some true ∧
    (entryAt 0x2400 1).map (fun e => (((held []).heard 0 .can0).writeFails (((held []).heard 0 .can0).rawSet e (.num 1)) .can0 e
      (.num 1) 1).isSome) = some true ∧ ((nominal []).upTo 0).noneDue = true := by decide +kernel
/-- The request of a row to the semaphore of group 0, over a carrier. -/
def semReq (cr : Carrier) : KdpReq := (nominal []).rowReq cr 2 0x2400 1 [1]
/-- `s` with requests to the semaphore of group 0 due at time 0. -/
def asks (l : List (Carrier × Int)) (s : State) : State := s.updKdp fun k => { k with writes := l.map fun x =>
  { req := semReq x.1, due := 0, members := [((Obj.sluiceAg 0).key, .num x.2)] } }
theorem test_decide : (held []).marks.getD markCommit 0 ≠ 30001 ∧ isCommit 30000 = true ∧ (held []).receives = true ∧
    (semReq .p0).frame.isEmpty = false ∧ (semReq .p1).carrier.port? = some .p1 ∧ ((held []).sem 0).holder = some .p0 ∧
    ((nominal []).sem 0).holder = none ∧ (held []).v (Obj.holdTime 0) ≠ 0 ∧
    30000 < ((held []).sem 0).restart + (held []).vn (Obj.leaseTime 0) * ms := by decide +kernel
theorem test_leases : ((held []).upTo 3000000000).leaseOver 0 = true ∧ ((held []).upTo 30000).leaseOver 0 = false ∧
    (held []).vn (Obj.holdTime 0) * ms ≤ 3000000000 ∧
    (((held []).updSem 0 fun x => { x with lapse := 1 }).sem 0).lapse = 1 := by decide +kernel

/-- Converter `n` of channel A is on and delivers at its grid: its last result came at time 0. -/
def cvUp (n : Fin 20) : State := (nominal [(Obj.cvEnable .chA n, 1), (Obj.cvSlotBind .chA n, 3)]).updConv .chA n fun x => { x with gap := false }
/-- One interval after the last result. -/
def tick1 (n : Fin 20) : Nat := 10 * (4 * (cvUp n).gn .chA (Obj.decimRatio .chA n))
theorem test_results : (cvUp 17).cvOn .chA 17 = true ∧ (cvUp 17).arch.alive.get .chA = true ∧
    ((cvUp 17).upTo (tick1 17)).gridAt .chA 17 (tick1 17) = true ∧
    ((cvUp 17).upTo (tick1 17)).tooEarly .chA 17 (tick1 17 - (cvUp 17).cvWindow .chA 17) = false ∧
    ((cvUp 17).upTo (tick1 17 - 5)).gridAt .chA 17 (tick1 17 - 5) = false ∧
    ((cvUp 17).conv .chA 17).cal = .idle ∧ ((nominal []).upTo 5).tooEarly .chA 17 0 = false ∧
    ((cvUp 17).updConv .chA 17 fun x => { x with from_ := 1000000 }).tooEarly .chA 17 0 = true ∧
    (((cvUp 17).updConv .chA 17 fun x => { x with cal := .running 0 false }).conv .chA 17).cal = .running 0 false := by decide +kernel
/-- Slot 3 of channel A runs since its valley at time 0. -/
def cvLoop : State := (cvUp 0).updSlot .chA 3 fun x => { x with running := true, valley := some 0 }
theorem test_loop_sample : cvLoop.loopDue .chA 0 (cvLoop.loopDelay .chA 0) = true ∧
    (cvLoop.upTo (cvLoop.loopDelay .chA 0)).tooEarly .chA 0 (cvLoop.loopDelay .chA 0 - cvLoop.cvWindow .chA 0) = false ∧
    0 ≤ cvLoop.g .chA (Obj.cvStatus .chA 0) := by decide +kernel

def cvUp2 (n : Fin 20) : State := nominal [(Obj.cvEnable .chA n, 1)]
/-- Converter 0 of channel A in over-range, by the detector and by the filter or not. -/
def cvOver (d q : Bool) : State := (cvUp2 0).updConv .chA 0 fun x => { x with ovr := true, det := d, filt := q }
theorem test_overrange : (cvUp2 0).cvOn .chA 0 = true ∧ ((cvUp2 0).conv .chA 0).ovr = false ∧
    ((cvOver true false).conv .chA 0).ovr = true ∧ ((cvOver true true).conv .chA 0).filt = true ∧
    (cvOver true false).ovrPresent .chA 0 = true ∧ ((cvUp2 0).conv .chA 0).det = false ∧
    (cvUp2 0).ovrPresent .chA 4 = false ∧ ((cvUp2 0).conv .chA 19).settleEnd = 0 ∧
    0 < (((cvUp2 0).updConv .chA 0 fun x => { x with settleEnd := 1 }).conv .chA 0).settleEnd := by decide +kernel

def diagUp : State := nominal [(Obj.cvEnable .chA 18, 1), (Obj.cvEnable .chA 19, 1), (Obj.diagScanMask .chA 0, 64), (Obj.diagScanMask .chA 1, 5)]
theorem test_diag : nextSource (diagUp.g .chA (Obj.diagScanMask .chA 0)) (diagUp.diag .chA 0).src = some 6 ∧
    diagUp.cvOn .chA 18 = true ∧ diagUp.arch.alive.get .chA = true ∧ (diagUp.diag .chA 0).inj = none ∧
    (diagUp.conv .chA 18).cal = .idle ∧ nextSource 0 0 = none ∧ (diagUp.upTo 300000).scanned .chA 0 = true ∧
    (diagUp.upTo 299).scanned .chA 0 = false ∧
    ((diagUp.updDiag .chA 1 fun x => { x with inj := some 3 }).diag .chA 1).inj = some 3 ∧
    ((diagUp.updConv .chA 18 fun x => { x with cal := .waiting none }).conv .chA 18).cal = .waiting none := by decide +kernel

def calUp (ph : CalPhase) : State := (nominal [(Obj.cvEnable .chA 17, 1), (Obj.calPending .chA, 131072)]).updConv .chA 17 fun x => { x with cal := ph }
/-- Its group is disturbed by converter 16. -/
def calBusy (ph : CalPhase) : State := (calUp ph).updConv .chA 16 fun x => { x with ovr := true }
theorem test_calibration : (calUp (.waiting none)).calTurn .chA 17 = true ∧ (calUp (.waiting none)).cvOn .chA 17 = true ∧
    (calUp (.waiting none)).grpBusy .chA 17 = false ∧ (calUp .startup).calTurn .chA 17 = true ∧
    (calBusy (.waiting none)).grpBusy .chA 17 = true ∧ (calBusy (.waiting (some 0))).grpBusy .chA 17 = true ∧
    (nominal [(Obj.cvEnable .chA 17, 0), (Obj.calPending .chA, 131072)]).cvOn .chA 17 = false ∧ (nominal [(Obj.cvEnable .chA 17, 0), (Obj.calPending .chA, 131072)]).calTurn .chA 17 = true ∧
    (nominal []).calTurn .chA 17 = false ∧
    ((calUp (.running 0 false)).conv .chA 17).cal = .running 0 false ∧ calPasses 655 31785 = true ∧ calPasses (-655) 33751 = true ∧
    calPasses 656 32768 = false ∧ calPasses 0 33752 = false := by decide +kernel
theorem test_calibration_diag : ((nominal [(Obj.cvEnable .chA 19, 1), (Obj.calPending .chA, 524288)]).updDiag .chA 1 fun x =>
    { x with inj := some 2 }).calTurn .chA 19 = true := by decide +kernel

/-- Port 7 of channel B with low levels accepted. -/
def fpUp (m i : Int) : State := (nominal [(Obj.fpMode .chB 7, m), (Obj.fpIndexMode .chB 7, i), (Obj.fpFilter .chB 7, 3)]).updFport .chB 7 fun x =>
  { x with pinA := { known := true }, pinB := { known := true }, pinZ := { known := true } }
/-- A level seen on four samples. -/
def lv (b : Bool) : PinSample := { level := b, samples := 4 }
theorem test_edges : (fpUp 3 0).counts .chB = true ∧ edgeCount 3 false false true false = some 1 ∧
    edgeCount 3 false false true true = none ∧ edgeCount 1 false false true false = some (-1) ∧
    isIndex 0 false false false true false false = false ∧ edgeCount 3 false false false false = some 0 ∧
    isIndex 1 false false false false false true = true ∧
    (fpUp 3 1).axisOfSrc (.port, .chB, 7) = none ∧ (fpUp 3 1).isBitC .chB (Obj.fpStatus .chB 7) fbIndexSeen = false ∧
    (held [(Obj.axFbStatus 0, 2)]).axisOfSrc (.port, .chA, 0) = some 0 ∧ (held [(Obj.axFbStatus 0, 2)]).isBit (Obj.axFbStatus 0) afArmed = true ∧
    ((nominal []).arch.alive.set .chB false).get .chB = false ∧
    (((fpUp 3 0).updFport .chB 7 fun x => { x with pulse := some (1, 6) }).fport .chB 7).pulse = some (1, 6) := by decide +kernel

/-- Port 3 of channel B at RAW and POS 10. -/
def atTen : State := nominal [(Obj.fpRaw .chB 3, 10), (Obj.fpPos .chB 3, 10)]
theorem test_hysteresis : 0 < signed32 (12 - atTen.g .chB (Obj.fpPos .chB 3)) ∧
    signed32 (8 - atTen.g .chB (Obj.fpPos .chB 3)) < -1 ∧ signed32 (9 - atTen.g .chB (Obj.fpPos .chB 3)) = -1 ∧
    (atTen.moveRaw (.port, .chB, 3) 9).g .chB (Obj.fpPos .chB 3) = 10 ∧
    (atTen.moveRaw (.port, .chB, 3) 8).g .chB (Obj.fpPos .chB 3) = 9 := by decide +kernel

def spUp (m : Int) : State := nominal [(Obj.spMode .chA 5, m), (Obj.sentTick .chA 5, 3), (Obj.psi5Bits .chA 5, 10), (Obj.psi5Check .chA 5, 1)]
/-- Status 4, value 0xABC and its CRC. -/
def sentGood : SentFrame := { calib := 1680, nibbleTicks := [16, 22, 23, 24, 12 + sentCrc false [10, 11, 12]], pause := true }
theorem test_sent : (spUp 1).counts .chA = true ∧ (spUp 1).g .chA (Obj.spMode .chA 5) = 1 ∧ (spUp 1).sentOk .chA 5 sentGood = true ∧
    (spUp 1).sentOk .chA 5 { sentGood with nibbleTicks := [16, 22, 23, 24, 12 + (sentCrc false [10, 11, 12] + 1) % 16] } = false ∧
    sentValue sentGood = 0xABC ∧ (spUp 1).isBitC .chA (Obj.spStatus .chA 5) fbLost = false ∧ ((spUp 1).sport .chA 5).prev = none ∧
    (((spUp 1).updSport .chA 5 fun x => { x with prev := some 9, errs := 2 }).sport .chA 5).prev = some 9 := by decide +kernel
/-- Ten data bits of the value 5, and the check bits. -/
def psiBits : List Bool := [true, false, true, false, false, false, false, false, false, false]
theorem test_psi5 : (spUp 3).g .chA (Obj.spMode .chA 5) = 3 ∧ (spUp 3).gn .chA (Obj.psi5SyncPeriod .chA 5) ≠ 0 ∧
    0 < (spUp 3).gn .chA (Obj.psi5SlotStart .chA 5) ∧ 0 < (spUp 3).gn .chA (Obj.spTimeout .chA 5) ∧
    1 % ((spUp 3).gn .chA (Obj.psi5SyncPeriod .chA 5) * us) ≠ 0 ∧ (spUp 3).gn .chA (Obj.psi5Bits .chA 5) = 10 ∧
    (spUp 3).gn .chA (Obj.psi5Rate .chA 5) = (0 : Fin 2).val ∧
    (psiBits ++ psi5Check true psiBits).drop 10 = psi5Check ((spUp 3).g .chA (Obj.psi5Check .chA 5) == 1) ((psiBits ++ psi5Check true psiBits).take 10) ∧
    (((spUp 3).updSport .chA 5 fun x => { x with syncAt := some 0, waits := true }).sport .chA 5).syncAt = some 0 := by decide +kernel

/-- Tracker 2 of channel C, whose excitation rose at time 0, and its converters. -/
def resUp : State := nominal [(Obj.resEnable .chC 2, 1), (Obj.cvEnable .chC 16, 1), (Obj.cvEnable .chC 17, 1)]
/-- The delivery of the pair for the first rising edge after 100 us. -/
def resAt : Nat := resUp.resInstant .chC 2 1 + resUp.loopDelay .chC 16
theorem test_resolver : resUp.counts .chC = true ∧ resUp.g .chC (Obj.resEnable .chC 2) = 1 ∧
    (resUp.upTo resAt).resDue .chC 2 = some (resUp.resInstant .chC 2 1) ∧ (resUp.upTo (resAt - 20)).resDue .chC 2 = none ∧
    sampleFlagged ⟨5, 1, 0⟩ = false ∧ sampleFlagged ⟨5, 9, 0⟩ = true := by decide +kernel

/-- Axis 0 on port 0 of channel A at position 7, without a latch. -/
def bound : State := held [(Obj.fpMode .chA 0, 3), (Obj.fpStatus .chA 0, 1), (Obj.fpPos .chA 0, 7)]
/-- The same at position 0, with a latch of it. -/
def latched : State := (held [(Obj.fpMode .chA 0, 3), (Obj.fpStatus .chA 0, 1)]).updAxis 0 fun a => { a with latchCleared := false }
theorem test_latch : (bound.sourceOf 0).map (fun x => (bound.srcActive x, bound.counts x.2.1,
      decide (bound.settleSteps.g x.2.1 x.pos ≠ bound.g x.2.1 (Obj.latchPos 0)))) = some (true, true, true) ∧
    (bound.upTo 30000).latchDue 0 = true ∧ (bound.upTo 1).latchDue 0 = false ∧ bound.marks.getD (markLatch 0) 0 ≠ 30001 ∧
    (bound.axis 0).latchCleared = true ∧ (latched.sourceOf 0).map (fun x => (latched.srcActive x, latched.counts x.2.1,
      decide (latched.settleSteps.g x.2.1 x.pos = latched.g x.2.1 (Obj.latchPos 0)))) = some (true, true, true) ∧
    (latched.axis 0).latchCleared = false ∧ bound.strapPath .chB .chA = true := by decide +kernel

theorem test_release : (withTask 6 []).isDq 2 = false ∧
    (((((withTask 6 []).upTo 30001).applyDue.mirrorFor 2).settleStraps).periodStart 2 30001).isSome = true ∧
    ((((withTask 6 []).upTo 30001).applyDue.mirrorFor 2).settleStraps).iterates 2 = true ∧
    ((((withTask 6 []).upTo 30001).applyDue.mirrorFor 2).settleStraps).holdsInputs 2 30000 .chC = true ∧
    ((withTask 6 []).task 2).lastStart = none ∧
    ((withTask 6 []).periodStart 2 30001).map (fun v => decide (30001 < (withTask 6 []).checkpointOf 2 v)) = some true ∧
    (withTask 6 []).runsIn 2 .chC = true ∧ (withTask 6 []).periodStart 5 0 = some 0 ∧ (withTask 6 []).iterates 5 = false := by
  decide +kernel

/-- Task 2 with an iteration released in channel B at time 30,000. -/
def released (ty : Int) (ok : Bool) : State := (withTask ty []).updTask 2 fun x =>
  { x with rel := (Trio.all none).set .chB (some { start := 30000, valid := ok }), relAt := 30000 }
theorem test_iteration : (released 1 true).isDq 2 = false ∧ (((released 1 true).task 2).rel.get .chB).isSome = true ∧
    (released 1 true).iterates 2 = true ∧ (released 1 false).runsIn 2 .chB = true ∧
    ((released 1 true).upTo 60000).mayEnd .chB 2 = true ∧ ((released 1 true).upTo 30001).mayEnd .chB 2 = false ∧
    (released 1 true).v (Obj.outMin 2 0) ≤ (released 1 true).v (Obj.outMax 2 0) ∧ (1 : Int) % 4093 ≠ 0 := by decide +kernel
theorem test_iteration_fault : eddyFault ((released 1 true).iterOf .chB 2 { start := 30000, valid := true }).2.points.reverse [1] = true ∧
    eddyFault ((released 1 true).iterOf .chB 2 { start := 30000, valid := true }).2.points.reverse [] = false := by decide +kernel

theorem test_rate_limiter : (withTask 6 []).taskTy 2 = 6 ∧
    (findObj (Obj.coef 2 0 1).index (Obj.coef 2 0 1).sub).map (fun e => firstAbort ((withTask 6 []).accessFails .p0 e 1)) =
      some none ∧ (rateLimiter { coef := [⟨3, 0⟩, ⟨0, 0⟩] } { first := false, x := 10 } 20 {}).1.outs = [13] ∧
    (rateLimiter { coef := [⟨3, 0⟩, ⟨0, 0⟩] } { first := false, x := 10 } 5 {}).1.outs = [10] := by decide +kernel

/-- A dq pair on slot 1 of channel C with a released iteration in A. -/
def dqReleased (vdc : Int) : State := (withTask 2 [(Obj.axBridge 0, 0x8201)]).updTask 2 fun x =>
  { x with rel := (Trio.all none).set .chA (some { start := 7500, vdc := vdc, vdcOk := true, usable := Trio.all true, valid := true }), relAt := 7500 }
theorem test_dq : (dqReleased 9).isDq 2 = true ∧ ((dqReleased 9).dqSlot 2).isSome = true ∧ (dqReleased 9).iterates 2 = true ∧
    (dqReleased 9).runsIn 2 .chA = true ∧ (dqReleased 9).inputsValid 2 { start := 7500, vdc := 9, vdcOk := true, usable := Trio.all true, valid := true } = true ∧
    (dqReleased 0).inputsValid 2 { start := 7500, vdc := 0, vdcOk := true, usable := Trio.all true, valid := true } = false ∧
    ((dqReleased 9).upTo 15000).mayEnd .chA 2 = true ∧
    16384 ≤ (dqReleased 9).g .chC (Obj.dutyMax .chC 1) := by decide +kernel
/-- A dq pair of channel C in SINGLE, whose own outputs act. -/
def dqSingle : State := { dqReleased 9 with red := { (dqReleased 9).red with state := .single } }.updTask 2 fun x => { x with owner := 2 }
theorem test_dq_single : dqSingle.ungated .chC 2 = true ∧ dqSingle.isDq 2 = true := by decide +kernel

def supervised : State := ((withTask 4 [(Obj.feLimit 2, 100), (Obj.invalidMax 2, 3)]).updTaskSt .chA 2 fun x =>
  { x with hold := true, heldRun := 3, feStart := some 0, start := 30000000 }).updTask 2 fun x => { x with swap := some (1, 0) }
theorem test_supervision : supervised.taskAxis 2 = some 0 ∧ (supervised.taskSt .chA 2).hold = true ∧
    supervised.vn (Obj.invalidMax 2) ≤ (supervised.taskSt .chA 2).heldRun ∧
    (withTask 4 []).taskAxis 2 = some 0 ∧ ((withTask 4 []).taskSt .chA 2).heldRun < (withTask 4 []).vn (Obj.invalidMax 2) ∧
    supervised.vn (Obj.feTime 2) * 30000 ≤ (supervised.taskSt .chA 2).start ∧ supervised.v (Obj.feLimit 2) ≠ 0 ∧
    (supervised.taskSt .chB 2).start < 0 + supervised.vn (Obj.feTime 2) * 30000 ∧
    supervised.atBoundary 2 0 = true ∧ supervised.atBoundary 2 1 = false ∧ supervised.siteIn 2 .chC = true := by decide +kernel
/-- A write of FE_LIMIT of task 2 that is due at 0. -/
def dueAtSwap : State := let s := withTask 4 []; { s with kdp := { s.kdp with writes := [{
  req := { carrier := .p0, frame := [], holders := Trio.all false, first := 0, agreed := 0 }, due := 0
  members := [((Obj.feLimit 2).key, .num 7)] }] } }
theorem test_due_at_swap : (entryOf (Obj.feLimit 2).key).any (fun e => e.plain && e.key == (Obj.feLimit 2).key) = true ∧
    (dueAtSwap.kdp.writes.map fun w => (w.due, w.members.length)) = [(0, 1)] ∧ (dueAtSwap.task 2).swap = none := by decide +kernel
theorem test_supervision_conditions : supervised.lostAfter 2 (supervised.taskSt .chA 2) = true ∧
    supervised.feAfter 2 (supervised.taskSt .chA 2) = true ∧ supervised.lostAfter 2 (supervised.taskSt .chB 2) = false ∧
    supervised.feAfter 2 (supervised.taskSt .chB 2) = false ∧ (supervised.upTo 0).noneDue = true ∧ supervised.taskAxis 3 = none := by
  decide +kernel

def traced (n : Nat) : State := ((withTask 6 [(Obj.traceTrigSrc 2, 6), (Obj.traceTrigNode 2, 511)]).updTrace 2 fun x =>
  { x with state := 1, chan := some .chA }).updTrace 511 fun x => { x with state := n }
theorem test_traces : ((traced 2).trace 2).state = 1 ∧ (traced 3).vn (Obj.traceTrigNode 2) = 511 ∧
    (traced 3).v (Obj.traceTrigSrc 2) = 6 ∧ ((traced 2).trace 511).state = 2 ∧ ((traced 3).trace 511).state = 3 ∧
    ((traced 1).trace 511).state ≠ 2 ∧ (traced 1).siteIn 2 .chA = true ∧
    ((traced 1).updTask 2 fun x => { x with computed := Trio.all false }).siteIn 2 .chA = false := by decide +kernel
theorem test_trace_causes : ((traced 1).trace 2).chan = some .chA ∧ ((traced 1).arch.alive.set .chA false).get .chA = false ∧
    (traced 1).power.state = .run ∧ ((traced 1).trace 7).chan = none := by decide +kernel
/-- Task 2 moves to engine 5 of channel A, where four other traces are armed. -/
def crowded : State := (upto 4).foldl (fun s i => (s.updTrace (100 + i) fun x => { x with state := 1, chan := some .chA }).updTask (100 + i) fun x =>
  { x with engines := Trio.all 5 }) ((traced 1).updTask 2 fun x => { x with move := some { owner := 0, computed := Trio.all true, engines := Trio.all 5 } })
theorem test_fifth : crowded.fifthTrace 2 .chA 5 = true := by decide +kernel

/-- Slot 3 of channel B with the given state. -/
def withSlot (x : Slot) : State := (nominal [(Obj.bsMode .chB 3, 1)]).updSlot .chB 3 fun _ => x
theorem test_counters : (withSlot { startFrom := some 0 }).g .chB (Obj.bsMode .chB 3) = 1 ∧
    ((withSlot { startFrom := some 0 }).slot .chB 3).regrid 7500 = true ∧
    onGrid ((withSlot {}).gn .chB (Obj.pwmTop .chB 3)) ((withSlot {}).gn .chB (Obj.pwmPhase .chB 3)) 7500 = true ∧
    onGrid ((withSlot {}).gn .chB (Obj.pwmTop .chB 3)) ((withSlot {}).gn .chB (Obj.pwmPhase .chB 3)) 7501 = false ∧
    ((withSlot { running := true, top := 3750 }).slot .chB 3).isValley 7500 = true ∧ (withSlot {}).noneDue = true ∧
    ((withSlot { running := true, top := 3750 }).slot .chB 3).regrid 7500 = false ∧
    ((withSlot { running := true, top := 3750, valley := some 0, realign := -2 }).slot .chB 3).isPeak 3750 = true ∧
    ((withSlot { running := true, top := 3750, valley := some 0 }).slot .chB 3).isPeak 3750 = true ∧
    (nominal []).g .chB (Obj.pwmPolarity .chB 3) = 0 ∧
    ((nominal []).updSlot .chB 3 fun _ => { running := true, top := 3750 }).g .chB (Obj.bsMode .chB 3) ≠ 1 := by decide +kernel

/-- Slot 1 of channel C, of axis 0, with everything that EN and ARM need, and its state. -/
def drives (x : Slot) (y : Arm) (l : List (Obj × Int)) : State :=
  let s := held ([(Obj.bsMode .chC 1, 1), (Obj.axBridge 0, 0x8201), (Obj.axTorqueEnable 0, 1), (Obj.gdStatus .chC 1, 1),
    (Obj.suStep .chA, 10), (Obj.suStep .chB, 10), (Obj.suStep .chC, 10)] ++ l)
  let s := (s.updSlot .chC 1 fun _ => x).updArm (Ch.before .chC) 1 fun _ => y
  [3, 4, 5].foldl (fun s n => s.updConv .chC n fun z => { z with calibrated := true }) s
theorem test_en : ((drives { running := true, valley := some 7 } { reported := true } []).upTo 7).enMayRise .chC 1 = true ∧
    ((drives {} {} []).upTo 7).enMayRise .chC 1 = false ∧
    ((drives { en := true } { reported := false } []).upTo 7).enHolds .chC 1 = false ∧
    ((drives { en := true, valley := some 7 } { reported := true } [(Obj.axTorqueEnable 0, 0)]).upTo 7).enAsked .chC 1 = false := by
  decide +kernel
theorem test_arm : ((drives {} {} []).upTo 7).armMayRise (Ch.before .chC) 1 = true ∧
    ((drives {} { out := true } [(Obj.bsMode .chC 1, 0)]).upTo 7).armHolds (Ch.before .chC) 1 = false ∧
    ((drives {} { rb := true, rbHigh := some 0 } []).arm (Ch.before .chC) 1).rbHigh = some 0 ∧
    (drives {} {} [(Obj.ocReaction 0, 3)]).axisOf .chC 1 = some 0 ∧ (drives {} {} [(Obj.ocReaction 0, 3)]).vn (Obj.ocReaction 0) = 3 ∧
    ((drives {} {} [(Obj.ocReaction 0, 3)]).updConv .chC 3 fun z => { z with ovr := true }).phaseOver .chC 1 = true := by decide +kernel

def withDriver (x : Driver) (l : List (Obj × Int)) : State :=
  (nominal ([(Obj.gspiEnable .chA 1, 1), (Obj.gspiChain .chA 1, 1), (Obj.gdStatus .chA 2, 1)] ++ l)).updDriver .chA 2 fun _ => x
theorem test_spi : (withDriver {} []).g .chA (Obj.gspiEnable .chA 1) = 1 ∧ ((withDriver {} []).upTo 30000).spiDue .chA 1 = true ∧
    ((withDriver {} []).upTo 1).spiDue .chA 1 = false ∧ (withDriver {} []).g .chA (Obj.gspiChain .chA 1) ≠ 2 ∧
    (withDriver {} [(Obj.gspiChain .chA 1, 2)]).g .chA (Obj.gspiChain .chA 1) = 2 ∧ (withDriver {} []).ioLive .chA = true ∧
    ((withDriver { queue := [⟨1, 2, 3, true, false⟩] } []).driver .chA 2).queue = [⟨1, 2, 3, true, false⟩] ∧
    ((withDriver { wait := some ⟨1, 2, 3, false, true⟩ } []).driver .chA 2).wait = some ⟨1, 2, 3, false, true⟩ ∧
    mismatch 1 2 3 = true ∧ mismatch 2 2 3 = false ∧
    ((withDriver { initRunning := true, bad := true } []).driver .chA 2).initRunning = true ∧
    ((withDriver { retryAt := some 5 } []).driver .chA 2).retryAt = some 5 ∧
    (withDriver {} []).isBitC .chA (Obj.gdStatus .chA 2) gdInitOk = true ∧
    0 < (withDriver {} []).gn .chA (Obj.gdPollPeriod .chA 1) := by decide +kernel
def stalled (n : Nat) : State := (withTask 2 [(Obj.axBridge 0, 0x8201)]).updTaskSt .chA 2 fun x =>
  { x with lim := { x.lim with stall := some n } }
theorem test_stall : (stalled 0).dqTaskOf 0 = some 2 ∧ ((stalled 0).taskSt (((stalled 0).ownerCh 2).getD .chA) 2).lim.stall = some 0 ∧
    (stalled 0).vn (Obj.stallTime 0) * ms ≤ 3000000000 ∧ 0 < (stalled 0).vn (Obj.stallTime 0) * ms := by decide +kernel

theorem test_moves : moveTick 1 10 0 0 65536 100 100 = ⟨100, 100, false⟩ ∧ (moveTick (-1) 0 50 0 65536 100 100) = ⟨0, 0, true⟩ ∧
    0 < (-1 : Int) * signed64 (0 * 2 ^ 32 - 50) ∧ stopTick 1 0 50 100 = ⟨0, 0, true⟩ := by decide +kernel

/-- Group 0 of axis 0 alone, whose move has begun. -/
def movingGroup : State :=
  ((still [(Obj.agMode 0, 1), (Obj.agMember 0 0, 0x8000), (Obj.axTorqueEnable 0, 1), (Obj.axFbSource 0, 0x1000), (Obj.fpStatus .chA 0, 1)]).updGroup 0 fun x =>
    { x with move := some { s := [0, 0, 0, 0, 0, 0, 0, 0], d := [100, 0, 0, 0, 0, 0, 0, 0], ld := 100 } }).updGen 0 fun x =>
    { x with mode := .moving, inGroup := true, tgt := 100 }
theorem test_tick : isTick 300 = true ∧ isTick 301 = false ∧ (nominal []).power.ce = true ∧ (nominal []).groups = [] ∧
    (nominal []).marks.getD markTick 0 ≠ 301 ∧ (nominal []).g .chC (Obj.fpMode .chC 7) ≠ 4 ∧
    (nominal []).rolesRun = true ∧ ((still []).gen 31).mode = .standstill ∧ ((still []).gen 31).pend = none ∧
    (((still []).updGen 31 fun x => x.start 9).gen 31).mode = .moving ∧
    (((still []).updGen 31 fun x => { x with pend := some 9 }).gen 31).pend = some 9 ∧ (still []).jointGroup 31 = none ∧
    (((still []).updGen 31 fun x => { x with mode := .stopping true }).gen 31).mode = .stopping true ∧
    (((still []).updGen 31 fun x => x.settle 0).gen 31).mode = .settling ∧ (still []).groupOf 31 = none ∧
    0 < (still []).vn (Obj.ssTime 31) := by decide +kernel
theorem test_groupTick : movingGroup.moveDist 0 { s := [0, 0, 0, 0, 0, 0, 0, 0], d := [100, 0, 0, 0, 0, 0, 0, 0], ld := 100 } ≠ [] ∧
    movingGroup.localIn 0 = [0] ∧ (movingGroup.gen 0).moves = true ∧ movingGroup.memberAxis 0 0 = 0 ∧
    (movingGroup.group 0).move.isSome = true ∧ movingGroup.mustTrack 0 = false := by decide +kernel

theorem test_allocation : allocate 100 [0, 1, 2] (fun m => m == 1) (fun _ => 1) (fun _ => 1) (fun _ => 60) =
    { f := [(0, 50), (2, 50)], deficit := 0 } ∧ ([0, 1, 2] : List Nat).Nodup := by decide +kernel

/-- Group 0 with axis 0, in the given mode, its running move, and a twin. -/
def grouped (mode : Int) (x : Group) : State :=
  let s := (twinned [(Obj.agMode 0, mode), (Obj.agMember 0 0, 0x8000), (Obj.agMember 0 1, 0xC003)]).updGroup 0 fun _ => x
  { s with twin := { s.twin with lost := false } }
theorem test_groups : (grouped 1 {}).v (Obj.agMode 0) = 1 ∧ (grouped 1 {}).groupBusy 0 = false ∧
    ((grouped 1 { lost := 128 }).group 0).lost ≠ slotMap (fun m => (grouped 1 { lost := 128 }).memberLost 0 m && (grouped 1 { lost := 128 }).lostNow 0 m) ∧
    isTick 300 = true ∧ (grouped 1 {}).hasRemote 0 = true ∧ (grouped 3 {}).v (Obj.agMode 0) = 3 ∧ (grouped 3 {}).twinThere = true ∧
    (grouped 3 {}).members 0 = [0, 1] ∧ (grouped 3 {}).isRemote 0 0 = false := by decide +kernel
theorem test_description : (slotNamed { (default : MoveDesc) with axes := [none, some 0], stop := 1 } ((grouped 3 {}).memberAxis 0 0)).isSome = true := by
  decide +kernel

/-- Task 2 with iteration 0 completed in A and B, and none in C. -/
def finished : State := (withTask 6 []).updTask 2 fun x =>
  { x with lastStart := some 0, fin := ⟨some { start := 0, digest := 7 }, some { start := 0, digest := 7 }, none⟩ }
theorem test_checkpoint : (finished.upTo 300000).ckStart 2 = some 0 ∧ finished.iterates 2 = true ∧
    (finished.stream 2).ck ≠ some 300000 ∧ finished.taskAxis 2 = some 0 ∧ (finished.axis 0).handover = 0 ∧
    finished.takesPart (chOf (finished.task 2).owner) = true ∧ finished.votesNow = true ∧ finished.isSplit 2 = false ∧
    finished.computes 2 = [.chA, .chB, .chC] ∧ (finished.stream 2).skip.get .chA = false := by decide +kernel
/-- The vote of that checkpoint, with the frames of A and B held everywhere. -/
def collected : State := ((finished.upTo 300000).openStream 2 true).updStream 2 fun x =>
  { x with held := Trio.all ⟨some ⟨1, 7, 0, 0⟩, some ⟨1, 7, 0, 0⟩, none⟩ }
theorem test_digest_frame : collected.arch.alive.get .chB = true ∧ collected.strapPath .chB .chA = true ∧ Ch.chB = Ch.chA.next ∧
    (collected.stream 2).ck = some 300000 ∧ (collected.stream 2).seq = 1 := by decide +kernel
/-- The same task on the twin, with a move here. -/
def incoming (b : Bool) : State := (withTask 6 []).updTask 2 fun x =>
  { x with owner := 3, move := some { owner := 1, computed := Trio.all true, engines := ⟨4, 5, 6⟩, copied := b } }
theorem test_twin_checkpoint : ((incoming true).upTo 300000).ckStart 2 = some 0 ∧ (incoming true).onTwin 2 = true ∧
    ((finished.updTask 2 fun x => { x with lastStart := none }).upTo 5).ckStart 2 = none ∧
    finished.red.engineFault.get .chA = 0 ∧ finished.arch.queue = [] := by decide +kernel

theorem test_vote : (collected.stream 2).voting = true ∧ (collected.stream 2).vote = Trio.all none ∧ collected.votesNow = true ∧
    collected.voteOf 2 .chC = [.chA, .chB] ∧ collected.heldDigest 2 .chC .chA = some 7 := by decide +kernel
/-- The same with results: C holds none of its peers' yet but A's. -/
def counted : State := collected.updStream 2 fun x =>
  { x with vote := ⟨some ⟨true, true, false⟩, some ⟨true, true, false⟩, some ⟨false, false, false⟩⟩,
           got := (Trio.all (Trio.all none)).set .chC ⟨some ⟨true, true, false⟩, none, none⟩ }
theorem test_vote_result : ((counted.stream 2).vote.get .chC).isSome = true ∧ (counted.stream 2).vote ≠ Trio.all none ∧
    (counted.stream 2).complete = false ∧ counted.votesNow = true ∧ counted.takesPart .chB = true ∧
    counted.strapPath .chC .chB = true ∧ (max counted.now 300300 ≤ 300000 + 600) ∧ 300000 + 600 < max counted.now 300601 ∧
    (finished.stream 2).ck = none := by
  decide +kernel
/-- The same with a copy of the task's state on its way to C. -/
def owed : State := (counted.updStream 2 fun x => { x with reseed := ⟨false, false, true⟩ }).sendCopy .chA .chC 2
theorem test_reseed : (owed.stream 2).reseed.get .chC = true ∧ (owed.copyFor .chC 2).isSome = true ∧
    counted.copyFor .chC 2 = none ∧ counted.red.state ≠ .single := by decide +kernel

/-- A paired device in arbitration between A and C since time 0, A declared faulty. -/
def arbitrating : State :=
  let s := twinned []
  { s with twin := { s.twin with lost := false }
           red := { s.red with state := .dual, inV := ⟨false, false, true⟩, faulty := ⟨true, true, false⟩, arb := some ⟨0, ⟨true, false, true⟩⟩ } }
theorem test_arbitration : arbitrating.red.arb.isSome = true ∧ arbitrating.twinThere = true ∧
    Ch.all.find? (fun d => (Trio.get ⟨true, false, true⟩ d) && (Trio.get ⟨false, true, true⟩ d)) = some .chC ∧
    (twinned []).red.arb = none ∧ (1500000 ≤ max arbitrating.now 1500000) := by decide +kernel
/-- A device in SINGLE-SUPERVISED. -/
def alone : State :=
  let s := nominal [(Obj.taskEnable 2, 1), (Obj.taskAxis 2, 0xFF)]
  { s with red := { s.red with state := .single, inV := ⟨true, false, false⟩ } }
theorem test_single : alone.red.state = .single ∧ alone.v (Obj.taskEnable 2) = 1 ∧ alone.safetyRated 2 = true ∧
    alone.red.entry + alone.vn Obj.ssBound * 300000000 ≤ max alone.now 40000000000000 ∧
    max alone.now 1 < alone.red.entry + alone.vn Obj.ssBound * 300000000 := by decide +kernel
/-- A device in DEV with debug access permitted. -/
def permitted : State := nominal [(Obj.debugPermit, 1)]
theorem test_open : permitted.life.state = 2 ∧ permitted.v Obj.debugPermit = 1 ∧ permitted.arch.alive.get .chC = true ∧
    isCommit (max permitted.now 30000) = true ∧ permitted.red.inDebug.get .chC = false ∧ permitted.red.faulty.get .chC = false := by
  decide +kernel
/-- The same with debug access to channel C in effect. -/
def debugged : State := { permitted with red := { permitted.red with debugOpen := ⟨false, false, true⟩, inDebug := ⟨false, false, true⟩ } }
theorem test_halt : debugged.red.debugOpen.get .chC = true ∧ debugged.red.inDebug.get .chC = true := by decide +kernel

/-- A device with a replan at the given stage. -/
def planning (f : Place → Place) : State := { nominal [] with place := f { (nominal []).place with placed := true } }
theorem test_plan_instant : (planning fun x => { x with trig := some (1, 8) }).place.trig = some (1, 8) ∧
    (planning fun x => { x with trig := some (1, 8) }).place.run = none ∧ max (nominal []).now 3000 % 3000 = 0 ∧
    max (nominal []).now 2 % 3000 ≠ 0 := by decide +kernel
theorem test_plan_vote :
    (planning fun x => { x with run := some (8, 3000), computed := some {}, flips := ⟨0, 0, 1⟩ }).isMajority
      ((nominal []).agreeing ⟨0, 0, 1⟩) = true ∧
    (planning fun x => { x with run := some (8, 3000), computed := some {}, flips := ⟨0, 2, 1⟩ }).isMajority
      ((nominal []).agreeing ⟨0, 2, 1⟩) = false ∧
    (planning fun x => { x with run := some (8, 3000), snapVoted := true }).place.computed = none ∧
    (planning fun x => { x with run := some (8, 3000) }).place.snapVoted = false ∧
    (planning fun x => { x with retryAt := some (303000, 8) }).place.trig = none := by decide +kernel

/-- A device in which the rotation of channel A stands at engine 3. -/
def rotating : State :=
  let s := withTask 6 [(Obj.sliceEnable, 1)]
  { s with life := { s.life with rot := s.life.rot.set .chA { start := some 0, next := 3 } } }
/-- The same with task 2 on engine 3 of channel A, whose fallback is engine 4. -/
def onThree : State :=
  let s := rotating.updTask 2 fun x => { x with engines := ⟨3, 0, 0⟩ }
  { s with place := { s.place with plan := { s.place.plan with fbEngine := s.place.plan.fbEngine.set .chA [(2, 4)] } } }
/-- The same with a turn of engine 3 under way that did not move task 2 out. -/
def abortable : State :=
  { onThree with
    life := { onThree.life with rot := onThree.life.rot.upd .chA fun r => { r with turn := some { engine := 3, first := 30, runs := 3 } } }
    place := { onThree.place with testing := onThree.place.testing.set .chA (some 3) } }
theorem test_slice_request : onThree.turnsRun .chA = true ∧ onThree.refusesSlice .chA 3 = false ∧ onThree.tasksOn .chA 3 = [2] ∧
    (onThree.place.plan.fbEngine.get .chA).getD 2 255 = 4 ∧ (onThree.startTurn .chA 3).inTest .chA 3 = true ∧ (((onThree.startTurn .chA 3).life.rot.get .chA).turn).isSome = true ∧
    (nominal []).neededInTest .chA 3 = false ∧ abortable.neededInTest .chA 3 = true ∧
    ({ onThree with place := { onThree.place with testing := onThree.place.testing.set .chA (some 5) } } : State).refusesSlice
      .chA 3 = true := by decide +kernel
theorem test_age : ({ (nominal []).place with ageFrom := some 0, placed := true } : Place).aged = false ∧
    max (nominal []).now 30000000 % 30000000 = 0 ∧ (nominal []).place.run = none ∧
    (nominal []).place.pens = Trio.all [] := by decide +kernel

/-- Node 1 with lane 0 of channel B in a state. -/
def laneIn (st : Nat) : State := (routed (nominal [(Obj.fabLaneEnable, 4095)])).updLane .chB 0 fun x =>
  { x with st := st, peerAddr := 2, peerPos := 1 }
theorem test_fabric_lanes : (laneIn 1).fabAlive .chB = true ∧ (laneIn 1).laneOn .chB 0 = true ∧ ((laneIn 1).fabLane .chB 0).st = 1 ∧
    (laneIn 1).mayNeighbour = true ∧ ((laneIn 5).fabLane .chB 0).suspendAt + 300000000 ≤ max (laneIn 5).now 300000000 ∧
    ((laneIn 1).fabLane .chB 0).tries [false, true, true] = some 1 ∧ ((laneIn 1).fabLane .chB 0).tries [false, false, false] = none ∧
    ((laneIn 1).upTo 0).since ((laneIn 1).fabLane .chB 0).helloAt 297000 = true ∧
    ((laneIn 3).upTo 0).since ((laneIn 3).plane .chB).lsaAt 30000000 = true ∧ (laneIn 3).fab.addr ≠ 0 ∧
    (laneIn 3).fab.conflict = false ∧ ({ (laneIn 3).fab with conflict := true } : Fab).conflict = true ∧
    ((laneIn 3).fabLane .chB 0).lastHello + 900000 ≤ max (laneIn 3).now 900000 := by decide +kernel
theorem test_hello : ∃ h : Hello, h.position % 4 = Ch.chB.num ∧ h.uid ≠ Config.deviceUid ∧ h.lastHeard = Config.deviceUid ∧
    h.address ≠ (laneIn 2).fab.addr ∧ ((laneIn 2).fabLane .chB 0).st = 2 :=
  ⟨{ uid := Config.deviceUid + 1, address := 2, position := 1, laneMap := 0, flags := 0, timePriority := 0,
     lastHeard := Config.deviceUid }, by decide +kernel, Nat.succ_ne_self _, rfl, by decide +kernel, by decide +kernel⟩
theorem test_conflict_end : (laneIn 2).fab.conflictSeen + 30000000 ≤ max (laneIn 2).now 30000000 := by decide +kernel
/-- A frame of stream 7 from node 2 to a node. -/
def frameTo (d ttl : Nat) : FabFrame :=
  { type := 1, flags := 2, dest := d, src := 2, stream := 7, seq := 5, ttl := ttl, payload := [1, 2, 3], tag := none }
theorem test_frame : (laneIn 3).laneState .chB 0 = 3 ∧ parseFab (frameTo 1 4).bytes = some (frameTo 1 4) ∧
    fcsOk (frameTo 1 4).bytes (frameTo 1 4) = true ∧ (frameTo 1 4).dest = (laneIn 3).fab.addr ∧
    parseFab (frameTo 2 4).bytes = some (frameTo 2 4) ∧ (laneIn 3).forwardLane .chB (frameTo 2 4) = some 0 ∧
    (laneIn 3).forwardLane .chB (frameTo 9 4) = none ∧ (laneIn 3).neighbours .chB = [0] := by decide +kernel
theorem test_bad_frame : fcsOk ((frameTo 1 4).bytes.dropLast ++ [0]) (frameTo 1 4) = false ∧
    parseFab ((frameTo 1 4).bytes.dropLast ++ [0]) = some (frameTo 1 4) := by decide +kernel
theorem test_lsa_tag : (laneIn 3).lsaTagOk { node := 4, uid := 5, seq := 1, timePriority := 0, recs := [] } [] none = true ∧
    ((laneIn 3).setR Obj.fabAuthMode 2).lsaTagOk { node := 4, uid := 5, seq := 1, timePriority := 0, recs := [] } [] none = false := by
  decide +kernel
theorem test_lsa : ∃ a : Lsa, a.uid ≠ Config.deviceUid ∧ a.node ≠ (laneIn 3).fab.addr ∧ (laneIn 3).routes = true ∧
    ((laneIn 3).plane .chB).isNew a = true :=
  ⟨{ node := 4, uid := Config.deviceUid + 1, seq := 1, timePriority := 0, recs := [] }, Nat.succ_ne_self _, by decide +kernel,
    by decide +kernel, by
      have h : (((laneIn 3).plane .chB).lsas.all fun x => x.lsa.node == 1) = true := by decide +kernel
      unfold Plane.isNew
      split
      · rename_i x hx
        have a := List.find?_some hx
        have b := List.all_eq_true.mp h x (List.mem_of_find?_eq_some hx)
        simp only [Bool.and_eq_true, beq_iff_eq] at a b
        omega
      · rfl⟩
theorem test_degraded : (7, 0) ∈ (((laneIn 3).updPlane .chB fun p => { p with degraded := [(7, 0)] }).plane .chB).degraded := by
  decide +kernel

/-- Node 1 with stream 7 enabled to node 2 and lane 0 of every channel in NEIGHBOUR with it. -/
def linked (l : List (Obj × Int)) : State :=
  Ch.all.foldl (fun s c => s.updLane c 0 fun x => { x with st := 3, peerAddr := 2, peerPos := c.num })
    (routed (nominal ([(Obj.streamDesc 7, descOf 0 2 2 false false false true)] ++ l)))
theorem test_stream : (linked []).routes = true ∧ (linked []).streamOn 7 = true ∧ (linked []).streamRate 7 = 0 ∧
    ((linked []).firstLanes .chA 7 2).isEmpty = false ∧ (linked []).firstLanes .chA 7 3 = [] ∧
    (linked []).streamOn 8 = false ∧ (linked []).streamSrc 7 = 0 ∧ (linked []).tagOk (frameTo 1 4) = true ∧
    (linked [(Obj.fabAuthMode, 2)]).tagOk (frameTo 1 4) = false ∧ (linked []).streamRedundant 7 = false ∧
    (linked []).streamAgree 7 = false := by decide +kernel
/-- The same with a payload of node 2 under agreement since time 0. -/
def agreeing (copies : Trio (Option (List Byte))) : State :=
  { linked [] with fab := { (linked []).fab with agree := [⟨2, 7, 5, 0, copies⟩] } }
theorem test_agree : ((agreeing ⟨some [1], some [1], none⟩).agreeMsg 7 2 5).isSome = true ∧
    (agreeing ⟨some [1], some [1], none⟩).agreed ⟨2, 7, 5, 0, ⟨some [1], some [1], none⟩⟩ = some [1] ∧
    (agreeing ⟨some [1], some [2], none⟩).agreed ⟨2, 7, 5, 0, ⟨some [1], some [2], none⟩⟩ = none ∧
    0 < (linked []).vn Obj.fabAgreeWindow := by decide +kernel
theorem test_master : (linked [(Obj.fabTimePriority, 255)]).voters ≠ [] ∧
    (linked [(Obj.fabTimePriority, 255)]).masterOf .chA = 1 ∧ (linked [(Obj.fabTimePriority, 255)]).masterOf .chB = 1 ∧
    (linked [(Obj.fabTimePriority, 255)]).masterOf .chC = 1 ∧ (linked []).fab.discoveryAt = none := by decide +kernel
/-- The same with a time master. -/
def following (m : Nat) : State := { linked [] with fab := { (linked []).fab with master := m } }
theorem test_time_sync : (following 1).isTimeMaster = true ∧ (following 2).isTimeMaster = false ∧
    (following 2).upstream .chC = some 0 ∧ (following 2).follows .chC = true ∧ (following 2).laneState .chC 0 = 3 ∧
    (following 2).takesSync .chC 0 2 = true ∧ (following 2).takesSync .chC 1 2 = false ∧
    ((following 1).upTo 0).since (following 1).fab.syncAt 300000 = true ∧ ((following 1).upTo 0).since (following 1).fab.exchAt 300000 = true ∧
    (following 2).fabAlive .chC = true := by decide +kernel
theorem test_discovery : (State.upTo { linked [] with fab := { (linked []).fab with discoveryAt := some 0 } } 3000000).discoveryOver =
    true ∧ (linked []).su.discovered = false ∧ (State.upTo (linked []) 0).discoveryOver = false := by decide +kernel

/-- A device that pairs with UID 9 since time 0, with every axis at standstill. -/
def pairing : State :=
  let s := routed (still [(Obj.twinState, 1), (Obj.twinPeerAddr, 2), (Obj.twinPeerUid, 9)])
  { s with twin := { s.twin with request := some (0, []) } }
theorem test_pairing : pairing.twin.request = some (0, []) ∧ pairing.vn Obj.twinState = 1 ∧ pairing.allStill = true ∧
    State.allStill { pairing with gens := [] } = false ∧
    (pairing.upTo 0).since pairing.twin.pairSent 3000000 = true ∧ (still []).twin.request = none := by decide +kernel
theorem test_pair_match : ∃ r, pairing.pairCause r = none := by
  have h : pairing.vn Obj.twinPeerUid = 9 ∧ pairing.v Obj.twinPreferred = 0 ∧ pairing.mirrorOk = true := by decide +kernel
  exact ⟨{ uid := 9, peerUid := Config.deviceUid, preferred := true, digest := pairing.configDigest, random := [] }, by
    simp [State.pairCause, h.1, h.2.1, h.2.2]⟩
theorem test_pair_other : ∃ r, pairing.pairCause r = some 3 := by
  have h : pairing.vn Obj.twinPeerUid = 9 := by decide +kernel
  exact ⟨{ uid := 8, peerUid := 0, preferred := true, digest := 0, random := [] }, by simp [State.pairCause, h]⟩
/-- A paired device in a twin state. -/
def pairedIn (st : Int) (f : Twin → Twin) : State :=
  let s := routed (still [(Obj.twinState, st), (Obj.twinPeerAddr, 2), (Obj.twinPeerUid, 9), (Obj.twinEpoch, 5)])
  { s with twin := f { s.twin with paired := true, key := [1] } }
theorem test_beats : (pairedIn 3 id).beats = true ∧ (pairedIn 3 id).twin.paired = true ∧ (pairedIn 3 id).running .chB = true ∧
    (pairedIn 3 id).twin.accepted.get .chB = false ∧ (pairedIn 3 id).marks = [] ∧ (pairedIn 4 id).red.arb = none ∧
    ((pairedIn 3 id).upTo 5).settleHandback = (pairedIn 3 id).upTo 5 ∧ (pairedIn 3 id).acceptsBeat 2 [] = false ∧
    (pairedIn 4 fun w => { w with reported := Trio.all true }).isMajority (Trio.all true) = true ∧
    (pairedIn 4 id).soundState = true ∧ (pairedIn 3 id).isSpare = false := by decide +kernel
/-- Bytes 0 to 47 of a heartbeat of UID 9 with an epoch. -/
def beatHead (e flags : Nat) : List Byte := leBytes 8 9 ++ leBytes 1 1 ++ leBytes 1 200 ++ leBytes 2 flags ++ leBytes 4 e ++ leBytes 32 0
theorem test_accepts : (pairedIn 3 id).acceptsBeat 2 (beatHead 6 1 ++ (hmac [1] (beatHead 6 1)).take 8) = true ∧
    newer (parseBeat (beatHead 6 1) 0 2).epoch ((pairedIn 3 id).vn Obj.twinEpoch) = true ∧
    bit (parseBeat (beatHead 6 1) 0 2).flags 6 = false ∧ (parseBeat (beatHead 6 1) 0 2).redund = 1 := by decide +kernel
theorem test_unpair : (pairedIn 3 fun w => { w with unpairOwn := some 5 }).twin.unpairOwn = some 5 ∧
    (pairedIn 3 id).twin.unpairOwn = none := by decide +kernel
theorem test_handshake : ((pairedIn 2 fun w => { w with handshake := some 0, beat := some { epoch := 7 } }).upTo 5).handshakeOver =
    true ∧ (pairedIn 2 id).red.state ≠ .startup ∧ ((pairedIn 2 id).upTo 5).handshakeOver = false := by decide +kernel

theorem test_eligible : (pairedIn 5 fun w => { w with since := some 0 }).eligNow = true ∧ (pairedIn 5 id).twin.lastMiss = none ∧ (pairedIn 5 id).twin.since = none ∧ (pairedIn 8 id).soundState = true ∧
    ((pairedIn 5 id).upTo 0).since (pairedIn 5 id).twin.reportAt 3000000 = true ∧
    0 < (pairedIn 5 id).vn Obj.twinEligibleTime := by decide +kernel
/-- A preferred standby with the quiet window begun at time 0. -/
def claimant (h : Option Nat) (ack : Bool) : State := (pairedIn 4 fun w =>
  { w with eligible := true, quietSince := some 0, handback := h, acked := ack }).setR Obj.twinPreferred 1
theorem test_quiet : (claimant none false).vn Obj.twinState = 4 ∧ (claimant none false).v Obj.twinPreferred = 1 ∧
    (claimant none false).twinThere = true ∧ ((claimant none false).upTo 3000000000).quiet = true ∧
    ((claimant none false).upTo 1).quiet = false ∧ (claimant none false).twin.eligible = true := by decide +kernel
theorem test_handback : (claimant (some 60000) true).twin.handback = some 60000 ∧ (claimant (some 60000) true).twin.acked = true ∧
    (claimant (some 60000) true).red.state = .nominal ∧
    (pairedIn 3 fun w => { w with peerHandback := some ⟨60000, 2, 0⟩ }).twin.peerHandback = some ⟨60000, 2, 0⟩ := by decide +kernel
theorem test_mirror : (pairedIn 4 id).beats = true ∧ ((pairedIn 4 id).setR (Obj.objDesc 6) 1).isMirrored 6 = true ∧
    ((pairedIn 4 id).setR (Obj.objDesc 6) 1).dictRef 6 = 0 ∧ (pairedIn 4 id).claims = false ∧ (pairedIn 3 id).claims = true ∧
    ((pairedIn 4 id).setR (Obj.objDesc 6) 1).entryRead 6 = false := by decide +kernel
theorem test_report : (pairedIn 3 fun w => { w with lastReport := some 0 }).twin.lastReport = some 0 ∧
    (pairedIn 3 id).vn Obj.twinPeerUid = 9 ∧ (pairedIn 3 id).twin.changedAt + 15000000 ≤ max (pairedIn 3 id).now 15000000 := by
  decide +kernel
theorem test_spare : (State.isSpare (pairedIn 8 id |>.setR Obj.sparePair0 1 |>.setR Obj.sparePair1 2)) = true ∧
    (pairedIn 8 fun w => { w with lost := true }).twin.lost = true ∧ (pairedIn 8 id).vn Obj.twinState = 8 := by decide +kernel

/-- Pair 2 of channel B compares its inputs, which disagree since time 0. -/
def disagreeing : State := (nominal [(Obj.siMode 8, 1)]).updPair .chB 2 fun p =>
  { p with inA := some true, inB := some false, start := some 0, lost := false }
theorem test_sample : disagreeing.pairSampled .chB 2 = true ∧ max disagreeing.now 600000 % 3000 = 0 ∧
    disagreeing.marks.getD (markPair .chB 2) 0 ≠ max disagreeing.now 600000 + 1 ∧
    (disagreeing.pair .chB 2).start = some 0 ∧ disagreeing.pairAgrees .chB 2 = some false ∧
    0 + disagreeing.vn (Obj.siDiscTime (pairNum .chB 2)) * 30000 < max disagreeing.now 30000000000 ∧
    max disagreeing.now 0 ≤ 0 + disagreeing.vn (Obj.siDiscTime (pairNum .chB 2)) * 30000 := by decide +kernel
/-- A device in which A and C have seen the same reset pulse, or B has a stuck pin. -/
def pulsed : State := { nominal [] with safe := { (nominal []).safe with
  frst := ⟨{ qualified := some 27000 }, { stuck := true }, { qualified := some 30000 }⟩ } }
theorem test_reset : pulsed.agreedPulse = some [.chA, .chC] ∧ isCommit (max pulsed.now 60000) = true ∧
    (pulsed.upTo 330000).frstHigh .chB 12000 = true ∧ (pulsed.safe.frst.get .chB).stuck = true ∧
    pulsed.takesPart .chB = true ∧ pulsed.frstFirst .chA 12000 = false ∧ pulsed.frstFirst .chA 6000 = true ∧
    (pulsed.safe.frst.get .chA).stuck = false ∧ isCommit (max pulsed.now 1) = false ∧
    (nominal []).agreedPulse = none ∧ (nominal []).safe.objHigh = none ∧ (nominal []).safe.lockEnd = none ∧
    ((nominal []).upTo 1500018001).frstHigh .chA 12000 = true := by decide +kernel
theorem test_object_stuck : (nominal []).isBit Obj.resetStatus 1 = false ∧ 0 + 1500000000 < max (nominal []).now 1500000001 := by
  decide +kernel
theorem test_unlock : (Tbl.put ([] : Tbl (Option Nat)) Carrier.p1.num none (some 5)).getD Carrier.p1.num none = some 5 := by
  decide +kernel
theorem test_supply : (nominal []).arch.alive.get .chB = true ∧ State.reset.arch.alive.get .chB = false ∧
    (nominal []).railOk .chB 1 2900 = false ∧ (nominal []).railOk .chB 1 3300 = true := by decide +kernel

/-- EN of slot 1 of channel B is demanded, with its test in the given state. -/
def testing (f : PermitTest → PermitTest) : State :=
  ((nominal []).updSlot .chB 1 fun x => { x with en := true }).updTest .chB 1 f
theorem test_off_pulse : (testing id).mayPulse .chB 1 = true ∧
    max (testing id).now 5625000 % 15000000 = (8 * Ch.chB.num + 1) * 625000 ∧ (testing id).demanded .chB 1 = true ∧
    ((testing fun x => { x with pulse := some 0 }).test .chB 1).pulse = some 0 ∧
    0 + (testing id).vn Obj.opWidth ≤ max (testing id).now 75 ∧
    ((testing fun x => { x with pulse := some 9, fail := some (true, 3) }).test .chB 1).fail = some (true, 3) ∧
    ((testing id).test .chB 1).fail = none ∧ (testing id).permitFault .chB 1 = false ∧ (testing id).ioLive .chB = true ∧
    ((testing id).test .chB 1).changed + 600 ≤ max (testing id).now 600 ∧ (testing id).arch.started.get .chB = true := by
  decide +kernel
theorem test_retest : ((testing fun x => { x with fail := some (false, 3) }).test .chB 1).fail = some (false, 3) ∧
    (testing fun x => { x with fail := some (true, 3) }).mayPulse .chB 1 = true ∧
    ((testing fun x => { x with after := some 3 }).test .chB 1).after = some 3 ∧
    (testing id).isBit (Obj.opUntestedMap .chB) 1 = false ∧
    ((testing id).test .chB 1).lastPass + 30000000 ≤ max (testing id).now 30000000 := by decide +kernel

/-- A device with every sleep enabled, and a power record. -/
def powered (f : Power → Power) : State :=
  let s := nominal [(Obj.sleepEnable, 7), (Obj.vehicleParked, 1)]
  { s with power := f s.power }
theorem test_nap : (powered id).isBit Obj.sleepEnable 0 = true ∧ (powered id).power.ce = true ∧ (powered id).inTest .chB 3 = false ∧
    (powered id).engineIdle .chB 3 = true ∧ ((powered id).power.used.get .chB).getD 3 0 + (powered id).vn Obj.napIdle * 300 ≤
      max (powered id).now 300000000 ∧ max (powered id).now 1 < ((powered id).power.used.get .chB).getD 3 0 +
        (powered id).vn Obj.napIdle * 300 ∧ (powered id).napCause .chB 3 = false ∧ (withTask 6 []).napCause .chB 0 = true := by
  decide +kernel
theorem test_idle_request : ((powered id).upTo 60000000000000).idleFor .retain = true ∧
    ((powered id).upTo 60000000000000).idleFor .park = true ∧ ((powered id).upTo 60000000000000).refusers = [] ∧
    (((powered id).setR (Obj.domainMode 0) 0).upTo 60000000000000).refusers = [9] ∧ isCommit (max (powered id).now 60000000000000) = true ∧
    ((powered id).upTo 1).idleFor .retain = false ∧ ((powered id).upTo 1).idleFor .park = false ∧
    (powered id).red.state ≠ .startup ∧ (powered fun p => { p with state := .retain }).maySleep .park = true ∧
    (powered id).maySleep .retain = true ∧ (powered id).turnRuns = false := by decide +kernel
theorem test_sleep : (powered fun p => { p with entering := some .park }).power.entering = some .park ∧
    (powered fun p => { p with entering := some .park }).power.queued = none ∧
    (powered fun p => { p with request := some (.retain, true) }).power.sliceWait = none ∧
    ((powered fun p => { p with entering := some .park }).upTo 1).wakes .chB 2 = true ∧
    ((powered id).upTo 1).wakes .chB 0 = false := by decide +kernel
theorem test_wake : (powered fun p => { p with state := .park, waking := true, woken := Trio.all true }).power.waking = true ∧
    (powered fun p => { p with io := false }).power.com = true ∧ (powered fun p => { p with io := false }).domainsNeeded = false ∧
    (powered fun p => { p with io := false, needed := true }).domainsNeeded = true := by decide +kernel

theorem test_scrub : (powered fun p => { p with state := .retain }).power.state ≠ .run ∧
    (powered fun p => { p with state := .retain }).power.scrubAt.get .chB + 3000000000 ≤ max (powered id).now 3000000000 ∧
    (powered id).power.mramAt.get .chB + (powered id).mramInterval .chB ≤ max (powered id).now 3000000000 := by decide +kernel
/-- A raise of channel B's level to 3, waiting for its voltage. -/
def raising (n : Nat) : State := powered fun p => { p with changes := p.changes.set .chB (some ⟨3, 2, 0, n⟩) }
theorem test_level : (raising 0).power.changes.get .chB = some ⟨3, 2, 0, 0⟩ ∧ (raising 0).power.plWait.get .chB = none ∧
    0 + (raising 0).vn Obj.plVoltTimeout * 300000 ≤ max (raising 0).now 300000000000 ∧ (3 ≤ (PlChange.mk 3 2 0 3).phase) ∧
    (powered id).power.changes.get .chB = none := by decide +kernel
/-- Channel B in start-up, with step 1 ended. -/
def starting1 : State := { State.reset.setR (Obj.suStep .chB) 1 with
  arch := { State.reset.arch with alive := Trio.all true, started := Trio.all true }
  su := { State.reset.su with step1 := ⟨none, some 0, none⟩ } }
theorem test_bist : starting1.starting .chB = true ∧ starting1.vn (Obj.suStep .chB) = 1 ∧
    (starting1.upTo 15000000).bistEnded .chB true 50 = true ∧ (starting1.upTo 15000000).bistEnded .chB true 36 = false := by
  decide +kernel
theorem test_turn : ((withTask 6 [(Obj.sliceEnable, 1)]).life.rot.get .chB).start = none ∧
    (withTask 6 [(Obj.sliceEnable, 1)]).turnsRun .chB = true ∧ max (withTask 6 []).now 300000000 % 300000000 = 0 ∧
    bit ((withTask 6 []).red.engineFault.get .chB : Int) 0 = false := by
  decide +kernel
/-- Engine 3 of channel A is empty since time 0 for its slices. -/
def slicing (n : Nat) : State :=
  let s := nominal []
  { s with life := { s.life with rot := s.life.rot.set .chA { start := some 0, turn := some { engine := 3, emptyAt := some 0, runs := n } } } }
theorem test_slice : ((slicing 5).life.rot.get .chA).turn = some { engine := 3, emptyAt := some 0, runs := 5 } ∧
    ((slicing 5).upTo 1545000).sliceEnded .chA { engine := 3, emptyAt := some 0, runs := 5 } 0 = true ∧
    ((slicing 5).upTo 1544999).sliceEnded .chA { engine := 3, emptyAt := some 0, runs := 5 } 0 = false ∧
    ((slicing 5).life.rot.get .chA).start = some 0 := by decide +kernel
theorem test_scan : (nominal []).permitsLow .chB = true ∧ (nominal []).life.scanOpen.get .chB = false ∧
    State.permitsLow { nominal [] with life := { (nominal []).life with state := 1 } } .chB = true := by decide +kernel

/-- Channel B past start-up, with its record in the given state. -/
def sedOf (f : Sed → Sed) : State :=
  let s := nominal [(Obj.suStep .chB, 10), (Obj.sedTraceRate, 1000)]
  { s with sed := s.sed.upd .chB f }
theorem test_trigger : ((sedOf id).upTo 5).triggered .chB 1 = false ∧ 2 ≤ ((sedOf id).upTo 5).stepOf .chB ∧
    ((sedOf id).sed.get .chB).pickSlot ((sedOf id).vn (Obj.sedSumLock .chB)) = some 0 ∧ ((sedOf id).sed.get .chB).copy = none ∧
    ((sedOf id).sed.get .chB).pickSlot 255 = none ∧
    ((sedOf fun d => { d with copy := some {} }).sed.get .chB).copy = some {} ∧ ((sedOf id).sed.get .chB).frozen = false ∧
    (((sedOf id).trigger .chB 1).upTo 0).triggered .chB 1 = true ∧ (sedOf id).power.state = .run := by decide +kernel
theorem test_summary_copy : ((sedOf fun d => { d with copy := some {}, slots := [(0, { evBlocks := 1 })] }).sed.get .chB).copy = some {} ∧
    (((sedOf fun d => { d with copy := some { next := 2 }, slots := [(0, { evBlocks := 1 })] }).sed.get .chB).slots.getD 0 {}).blocks
      < 2 ∧ (0 : Nat) ≤ ({ evBlocks := 1 } : Summary).blocks := by decide +kernel
theorem test_past_window : ((sedOf fun d => { d with wins := [⟨3, 257, 0, 16, 2⟩] }).sed.get .chB).wins = [⟨3, 257, 0, 16, 2⟩] ∧
    3 < winOf (max (sedOf id).now 1200000) ∧ max (sedOf id).now 1200000 % 300000 = 0 ∧
    (sedOf id).marks.getD markCommon 0 ≠ max (sedOf id).now 1200000 + 1 := by decide +kernel
theorem test_trace_sample : ((sedOf fun d => { d with dramReady := true }).sed.get .chB).recording = true ∧
    300000000 / (sedOf id).vn Obj.sedTraceRate ≠ 0 ∧ max (sedOf id).now 300000 % (300000000 / (sedOf id).vn Obj.sedTraceRate) = 0 ∧
    ((sedOf id).sed.get .chB).dramReady = false ∧ ((sedOf id).sed.get .chB).dramFault = false ∧
    (sedOf id).marks.getD (markSedTrace .chB) 0 ≠ max (sedOf id).now 300000 + 1 := by decide +kernel

/-- A device in start-up whose running channels have ended a step, B in reset where `b` is not set. -/
def booting (b : Bool) (n : Int) : State :=
  let s := (State.reset.setR (Obj.suStep .chA) n).setR (Obj.suStep .chC) n
  let s := if b then s.setR (Obj.suStep .chB) n else s
  { s with
    arch := { s.arch with alive := ⟨true, b, true⟩, started := ⟨true, b, true⟩ }
    life := { s.life with state := 2 }
    su := { s.su with released := Trio.all (some 0), step1 := Trio.all (some 0),
                      arrived := ⟨some 0, if b then some 0 else none, some 0⟩ } }
/-- The same with channel B declared faulty. -/
def without (s : State) : State := { s with red := { s.red with faulty := ⟨false, true, false⟩ } }
theorem test_power_release : (booting false 3).arch.alive.get .chB = false ∧ (booting false 3).isOff = false ∧
    State.isOff { booting false 3 with arch := {} } = true := by decide +kernel
/-- Channel B runs without its clocks. -/
def unlocked : State := { booting true 0 with arch := { (booting true 0).arch with started := ⟨true, false, true⟩ } }
theorem test_lock : unlocked.su.released.get .chB = some 0 ∧ unlocked.arch.alive.get .chB = true ∧
    unlocked.arch.started.get .chB = false ∧ unlocked.red.faulty.get .chB = false ∧ unlocked.vn (Obj.suFailStep .chB) = 0 ∧
    max unlocked.now 150000 ≤ 0 + 150000 := by decide +kernel
theorem test_meeting : (booting true 3).meets4 = true ∧ (booting true 3).su.injDone = false ∧ (booting true 3).vn Obj.injAttempts = 0 ∧
    (booting true 3).atStep4 = [.chA, .chB, .chC] ∧ (booting false 3).atStep4 = [.chA, .chC] ∧
    (booting false 3).red.faulty.get .chB = false ∧ (booting false 3).su.arrived.get .chA = some 0 ∧
    State.vn ((booting true 3).setR Obj.injAttempts 1) Obj.injAttempts = 1 := by decide +kernel
theorem test_departure : ((booting true 8).upTo 45000000).endSeeding.ended8 = [.chA, .chB, .chC] ∧
    ((booting false 8).upTo 45000000).endSeeding.ended8 = [.chA, .chC] ∧
    ((without (booting false 8)).upTo 45000000).endSeeding.ended8 = [.chA, .chC] ∧
    isCommit (max (booting true 8).now 45000000) = true ∧
    (booting true 8).su.left = false ∧ (booting true 8).life.state = 2 ∧ (booting false 8).su.step1.get .chC = some 0 ∧
    (without (booting false 8)).red.faulty.get .chB = true ∧ isCommit (max (booting true 8).now 1) = false := by decide +kernel
/-- The converters of the first three pairs are calibrated, as step 8 leaves them. -/
def seededB : State :=
  let s := booting true 7
  { s with convs := Trio.all ((upto 20).map fun n => (n, ({ calibrated := true } : Conv))) }
theorem test_seeded : seededB.dqVoted = true ∧ (seededB.upTo 45000000).seeded .chB = true := by decide +kernel

end Sys2Proof.Tests
end

section
/-! Every command answers (O2), the time sources and the cross-straps (O6), links, clocks and DRAM (O7). -/
namespace Sys2Proof.Machine

/-- Settles O2: every command has the form of `run` or of `runPowerOn`, and both frames answer a next state with the
queue as it was. -/
theorem everyCommandAnswers : Obligations.EveryCommandAnswers := by
  intro i s
  rcases exec_run i s with ⟨t, f, h⟩ | ⟨t, c, p, ok, l, f, hi, h⟩
  · exact ⟨_, h, State.after_pending .., .inl (by rw [State.after_now]; exact le_max_left ..)⟩
  · exact ⟨_, h, rfl, .inr ⟨t, c, p, ok, l, hi⟩⟩

-- device time

theorem Obj.timeStatus_offFollow : Obj.timeStatus.offFollow := by unfold Obj.offFollow; decide
theorem Obj.timeRateAdj_offFollow : Obj.timeRateAdj.offFollow := by unfold Obj.offFollow; decide
theorem Obj.channelSkewMax_offFollow : Obj.channelSkewMax.offFollow := by unfold Obj.offFollow; decide

/-- Bits of an object that nothing following a command changes. -/
theorem State.after_isBit (s u : State) (t : Nat) {o : Obj} (h : o.offFollow) (n : Nat) :
    (s.after t u).isBit o n = u.isBit o n := by
  simp only [State.isBit, State.after_v s u t h]

@[simp] theorem State.v_bitR_self (s : State) (o : Obj) (n : Nat) (b : Bool) : (s.bitR o n b).v o = withBit (s.v o) n b :=
  State.v_setR_self ..

theorem State.v_bitR_key (s : State) {o p : Obj} (n : Nat) (b : Bool) (h : p.key ≠ o.key) :
    (s.bitR o n b).v p = s.v p := State.v_setR_key _ _ h

@[simp] theorem State.isBit_bitR_self (s : State) (o : Obj) (n : Nat) (b : Bool) : (s.bitR o n b).isBit o n = b := by
  simp [State.isBit]

theorem State.isBit_bitR_ne (s : State) (o : Obj) {n m : Nat} (b : Bool) (h : m ≠ n) :
    (s.bitR o n b).isBit o m = s.isBit o m := by
  simp [State.isBit, bit_withBit_ne _ _ h]

/-- TIME_STATUS.SOURCE as the last lock left it. -/
theorem State.field_bitR (s : State) (o : Obj) {n lo w : Nat} (b : Bool) (h : lo + w ≤ n) :
    field ((s.bitR o n b).v o) lo w = field (s.v o) lo w := by
  simp [field_withBit_above _ _ h]

/-- The time base reads the clock, the anchors and the measured skews alone. -/
theorem State.baseOf_congr {s s' : State} (hn : s'.now = s.now) (ha : s'.arch.anchor = s.arch.anchor)
    (hk : s'.arch.skew = s.arch.skew) (c : Ch) : s'.baseOf c = s.baseOf c := by
  simp [State.baseOf, State.offsetOf, hn, ha, hk]

-- the measured state of FABRIC_LOCKED

@[simp] theorem State.checkLocked_now (s : State) : s.checkLocked.now = s.now := rfl
@[simp] theorem State.checkLocked_arch (s : State) : s.checkLocked.arch = s.arch := rfl
@[simp] theorem State.lockFabric_now (s : State) (d : Int) : (s.lockFabric d).now = s.now := rfl
@[simp] theorem State.lockFabric_anchor (s : State) (d : Int) : (s.lockFabric d).arch.anchor = s.arch.anchor := rfl
@[simp] theorem State.lockFabric_skew (s : State) (d : Int) : (s.lockFabric d).arch.skew = s.arch.skew := rfl

theorem State.checkLocked_v (s : State) {o : Obj} (h : o.key ≠ Obj.timeStatus.key) : s.checkLocked.v o = s.v o :=
  State.v_bitR_key _ _ _ h
theorem State.lockFabric_v (s : State) (d : Int) {o : Obj} (h : o.key ≠ Obj.timeStatus.key) :
    (s.lockFabric d).v o = s.v o := State.v_bitR_key _ _ _ h
theorem State.lockFabric_isBit (s : State) (d : Int) {n : Nat} (h : n ≠ 4) :
    (s.lockFabric d).isBit Obj.timeStatus n = s.isBit Obj.timeStatus n := State.isBit_bitR_ne _ _ _ h
theorem State.lockFabric_source (s : State) (d : Int) :
    field ((s.lockFabric d).v Obj.timeStatus) 0 2 = field (s.v Obj.timeStatus) 0 2 := State.field_bitR _ _ _ (by decide)


-- the single step of the bases

/-- The counters that realign to a stepped grid change no field of the state but their slots. -/
theorem State.stepBases_eq (s : State) (d : Nat) {β : Type} (p : State → β) (hp : ∀ s c k f, p (State.updSlot s c k f) = p s) :
    ∃ u : State, s.stepBases d = u.bitR Obj.timeStatus 2 true ∧
      p u = p { s with arch := { s.arch with anchor := s.arch.anchor.map fun a => (a.1 + d, a.2) } } := by
  refine ⟨_, rfl, forEach_eq p _ (fun s c => forEach_eq p _ (fun s k => ?_) _ _) _ _⟩
  split
  · exact hp ..
  · rfl

@[simp] theorem State.stepBases_now (s : State) (d : Nat) : (s.stepBases d).now = s.now := by
  obtain ⟨u, hs, hu⟩ := s.stepBases_eq d (fun s => s.now) fun _ _ _ _ => rfl
  rw [hs]; exact hu

theorem State.stepBases_arch (s : State) (d : Nat) :
    (s.stepBases d).arch = { s.arch with anchor := s.arch.anchor.map fun a => (a.1 + d, a.2) } := by
  obtain ⟨u, hs, hu⟩ := s.stepBases_eq d (fun s => s.arch) fun _ _ _ _ => rfl
  rw [hs]; exact hu

theorem State.stepBases_regs (s : State) (d : Nat) : (s.stepBases d).regs = (s.bitR Obj.timeStatus 2 true).regs := by
  obtain ⟨u, hs, hu⟩ := s.stepBases_eq d (fun s => s.regs) fun _ _ _ _ => rfl
  have hv : u.v Obj.timeStatus = s.v Obj.timeStatus := State.v_congr hu _
  rw [hs]
  simp only [State.bitR, State.setR, hv]
  rw [show u.regs = s.regs from hu]

theorem State.stepBases_v (s : State) (d : Nat) (o : Obj) : (s.stepBases d).v o = (s.bitR Obj.timeStatus 2 true).v o :=
  State.v_congr (s.stepBases_regs d) o

/-- A lock to a source, before the step that it may make: the objects that it reports (R25, R29). -/
def State.noteLock (s : State) (offset rate : Int) (traceable : Bool) : State :=
  (((s.setR Obj.timeOffset (clamp (-2147483648) 2147483647 offset)).setSource (if traceable then 2 else 1)).bitR
    Obj.timeStatus 3 false).setR Obj.timeRateAdj (clamp (-200000) 200000 rate)

theorem State.timeLock_eq (s : State) (d r : Int) (tr : Bool) : s.timeLock d r tr =
    if s.lockStep d = 0 then (s.noteLock d r tr).lockFabric d
    else ((s.noteLock d r tr).stepBases (s.lockStep d)).lockFabric 0 := rfl

@[simp] theorem State.noteLock_now (s : State) (d r : Int) (tr : Bool) : (s.noteLock d r tr).now = s.now := by
  simp [State.noteLock, State.setSource]
@[simp] theorem State.noteLock_arch (s : State) (d r : Int) (tr : Bool) : (s.noteLock d r tr).arch = s.arch := by
  simp [State.noteLock, State.setSource]

theorem State.noteLock_status (s : State) (d r : Int) (tr : Bool) : (s.noteLock d r tr).v Obj.timeStatus =
    withBit (withField (s.v Obj.timeStatus) 0 2 (if tr then 2 else 1)) 3 false := by
  unfold State.noteLock
  rw [State.v_setR_key _ _ (by decide), State.v_bitR_self, State.setSource, State.v_setR_self,
    State.v_setR_key _ _ (by decide)]

theorem State.noteLock_rate (s : State) (d r : Int) (tr : Bool) :
    (s.noteLock d r tr).v Obj.timeRateAdj = clamp (-200000) 200000 r := State.v_setR_self ..

theorem State.noteLock_source (s : State) (d r : Int) (tr : Bool) :
    field ((s.noteLock d r tr).v Obj.timeStatus) 0 2 = if tr then 2 else 1 := by
  rw [State.noteLock_status, field_withBit_above _ _ (by decide), field_withField_self]
  cases tr <;> rfl

theorem State.noteLock_holdover (s : State) (d r : Int) (tr : Bool) : (s.noteLock d r tr).isBit Obj.timeStatus 3 = false := by
  rw [State.isBit, State.noteLock_status, bit_withBit_self]

/-- A lock says what it has locked to, ends HOLDOVER and takes the rate, whether it steps the bases or not (R25, R29). -/
theorem State.timeLock_status (s : State) (d r : Int) (tr : Bool) :
    field ((s.timeLock d r tr).v Obj.timeStatus) 0 2 = (if tr then 2 else 1) ∧
      (s.timeLock d r tr).isBit Obj.timeStatus 3 = false ∧
      (s.timeLock d r tr).v Obj.timeRateAdj = clamp (-200000) 200000 r := by
  rw [State.timeLock_eq]
  split
  · refine ⟨?_, ?_, ?_⟩
    · rw [State.lockFabric_source, State.noteLock_source]
    · rw [State.lockFabric_isBit _ _ (by decide), State.noteLock_holdover]
    · rw [State.lockFabric_v _ _ (by decide), State.noteLock_rate]
  · refine ⟨?_, ?_, ?_⟩
    · rw [State.lockFabric_source, State.stepBases_v, State.field_bitR _ _ _ (by decide), State.noteLock_source]
    · rw [State.lockFabric_isBit _ _ (by decide), State.isBit, State.stepBases_v, ← State.isBit,
        State.isBit_bitR_ne _ _ _ (by decide), State.noteLock_holdover]
    · rw [State.lockFabric_v _ _ (by decide), State.stepBases_v, State.v_bitR_key _ _ _ (by decide), State.noteLock_rate]

@[simp] theorem State.timeLock_now (s : State) (d r : Int) (tr : Bool) : (s.timeLock d r tr).now = s.now := by
  rw [State.timeLock_eq]
  split <;> simp

theorem State.timeLock_skew (s : State) (d r : Int) (tr : Bool) : (s.timeLock d r tr).arch.skew = s.arch.skew := by
  rw [State.timeLock_eq]
  split <;> simp [State.stepBases_arch]

/-- The anchors move with the step of the bases. -/
theorem State.timeLock_anchor (s : State) (d r : Int) (tr : Bool) :
    (s.timeLock d r tr).arch.anchor = s.arch.anchor.map fun a => (a.1 + s.lockStep d, a.2) := by
  rw [State.timeLock_eq]
  split
  · next h => simp [h, Trio.map]
  · simp [State.stepBases_arch]

/-- A step sets STEPPED (R25). -/
theorem State.timeLock_stepped (s : State) (d r : Int) (tr : Bool) (h : s.lockStep d ≠ 0) :
    (s.timeLock d r tr).isBit Obj.timeStatus 2 = true := by
  rw [State.timeLock_eq, if_neg h, State.lockFabric_isBit _ _ (by decide), State.isBit, State.stepBases_v, ← State.isBit,
    State.isBit_bitR_self]

/-- A base after the clock and its anchor have both moved by `d` (R25). -/
theorem State.baseOf_step (s s' : State) (d : Nat) (hn : s'.now = s.now + d)
    (ha : s'.arch.anchor = s.arch.anchor.map fun a => (a.1 + d, a.2)) (hk : s'.arch.skew = s.arch.skew) (c : Ch) :
    s'.baseOf c = ((s.now : Int) + s.offsetOf c + d).toNat := by
  simp only [State.baseOf, State.offsetOf, hn, ha, hk, Trio.get_map, Nat.add_sub_add_right]
  congr 1
  push_cast
  ring

-- time sources

theorem exec_timeSourceLock (t : Nat) (d r : Int) (tr : Bool) (s : State) : exec (.timeSourceLock t d r tr) s =
    .next (s.after (max s.now t + s.lockStep d) ((s.upTo (max s.now t + s.lockStep d)).timeLock d r tr)) := rfl
theorem exec_timeSourceLoss (t : Nat) (s : State) :
    exec (.timeSourceLoss t) s = .next (s.after t (s.upTo t).timeLoss) := rfl
theorem exec_timeSourceReturn (t : Nat) (d r : Int) (tr : Bool) (s : State) (h : s.isBit Obj.timeStatus 3 = true) :
    exec (.timeSourceReturn t d r tr) s = .next (s.after t ((s.upTo t).timeReturn d r tr)) := by
  show Host.Outcome.next _ = _
  simp only [State.upTo_isBit, h, if_true]

/-- The bases after a command read what its effect left. -/
theorem State.after_baseOf (s u : State) (t : Nat) (hu : u.now = max s.now t) (c : Ch) :
    (s.after t u).baseOf c = u.baseOf c :=
  State.baseOf_congr (by rw [State.after_now, hu]) (by rw [State.after_arch]) (by rw [State.after_arch]) c

theorem State.lockStep_of_mayStep (s : State) (d : Int) (h0 : field (s.v Obj.timeStatus) 0 2 = 0)
    (h2 : s.isBit Obj.timeStatus 2 = false) : s.lockStep d = d.toNat := by
  simp [State.lockStep, State.mayStep, h0, h2]

/-- No step after the first lock, and none backwards (R25). -/
theorem State.lockStep_zero (s : State) (d : Int)
    (h : field (s.v Obj.timeStatus) 0 2 ≠ 0 ∨ s.isBit Obj.timeStatus 2 = true ∨ d ≤ 0) : s.lockStep d = 0 := by
  unfold State.lockStep State.mayStep
  rcases h with h | h | h
  · simp [h]
  · simp [h]
  · simp [Int.toNat_of_nonpos h]

/-- TIME_SOURCE_LOCK reports the source, ends HOLDOVER and takes the rate (R25, R29). -/
theorem timeSourceLock_reports (t : Nat) (d r : Int) (tr : Bool) (s : State) :
    ∃ s', exec (.timeSourceLock t d r tr) s = .next s' ∧ field (s'.v Obj.timeStatus) 0 2 = (if tr then 2 else 1) ∧
      s'.isBit Obj.timeStatus 3 = false ∧ s'.v Obj.timeRateAdj = clamp (-200000) 200000 r := by
  refine ⟨_, exec_timeSourceLock .., ?_⟩
  rw [State.after_v _ _ _ Obj.timeStatus_offFollow, State.after_isBit _ _ _ Obj.timeStatus_offFollow,
    State.after_v _ _ _ Obj.timeRateAdj_offFollow]
  exact State.timeLock_status ..

/-- The first lock to a source ahead steps every base forward by the offset, once (R25). -/
theorem timeSourceLock_steps (t : Nat) (d r : Int) (tr : Bool) (s : State) (h0 : field (s.v Obj.timeStatus) 0 2 = 0)
    (h2 : s.isBit Obj.timeStatus 2 = false) (hd : 0 < d) :
    ∃ s', exec (.timeSourceLock t d r tr) s = .next s' ∧ s'.isBit Obj.timeStatus 2 = true ∧
      ∀ c, s'.baseOf c = (((s.upTo t).now : Int) + (s.upTo t).offsetOf c + d).toNat := by
  have hl : s.lockStep d = d.toNat := s.lockStep_of_mayStep d h0 h2
  have hu : (s.upTo (max s.now t + s.lockStep d)).lockStep d = d.toNat := hl
  refine ⟨_, exec_timeSourceLock .., ?_, fun c => ?_⟩
  · rw [State.after_isBit _ _ _ Obj.timeStatus_offFollow]
    exact State.timeLock_stepped _ _ _ _ (by rw [hu]; omega)
  · rw [State.after_baseOf _ _ _ (by simp)]
    refine (State.baseOf_step (s.upTo t) _ d.toNat ?_ ?_ ?_ c).trans (by rw [Int.toNat_of_nonneg hd.le])
    · simp only [State.timeLock_now, State.upTo_now, hl]; omega
    · rw [State.timeLock_anchor, hu, State.upTo_arch, State.upTo_arch]
    · rw [State.timeLock_skew, State.upTo_arch, State.upTo_arch]

/-- A later lock, and a lock to a source that is not ahead, step no base (R25). -/
theorem timeSourceLock_keeps (t : Nat) (d r : Int) (tr : Bool) (s : State)
    (h : field (s.v Obj.timeStatus) 0 2 ≠ 0 ∨ s.isBit Obj.timeStatus 2 = true ∨ d ≤ 0) :
    ∃ s', exec (.timeSourceLock t d r tr) s = .next s' ∧ ∀ c, s'.baseOf c = (s.upTo t).baseOf c := by
  have hl : s.lockStep d = 0 := s.lockStep_zero d h
  have hu : (s.upTo (max s.now t + s.lockStep d)).lockStep d = 0 := hl
  refine ⟨_, exec_timeSourceLock .., fun c => ?_⟩
  rw [State.after_baseOf _ _ _ (by simp)]
  refine State.baseOf_congr ?_ ?_ (by rw [State.timeLock_skew, State.upTo_arch, State.upTo_arch]) c
  · simp only [State.timeLock_now, State.upTo_now, hl]; omega
  · rw [State.timeLock_anchor, hu]
    rfl

/-- The loss of a source sets HOLDOVER and holds the rate and the bases (R28). -/
theorem timeSourceLoss_holds (t : Nat) (s : State) (h : field (s.v Obj.timeStatus) 0 2 ≠ 0) :
    ∃ s', exec (.timeSourceLoss t) s = .next s' ∧ s'.isBit Obj.timeStatus 3 = true ∧
      s'.v Obj.timeRateAdj = s.v Obj.timeRateAdj ∧ ∀ c, s'.baseOf c = (s.upTo t).baseOf c := by
  have hl : (s.upTo t).timeLoss = (s.upTo t).bitR Obj.timeStatus 3 true := by
    unfold State.timeLoss
    rw [State.upTo_v, if_neg h]
  refine ⟨_, exec_timeSourceLoss .., ?_, ?_, fun c => ?_⟩
  · rw [State.after_isBit _ _ _ Obj.timeStatus_offFollow, hl, State.isBit_bitR_self]
  · rw [State.after_v _ _ _ Obj.timeRateAdj_offFollow, hl, State.v_bitR_key _ _ _ (by decide), State.upTo_v]
  · rw [State.after_baseOf _ _ _ (by rw [hl]; rfl), hl]
    rfl

/-- The effect of a return before the lock is measured again (R28). -/
theorem State.timeReturn_eq (s : State) (d r : Int) (tr : Bool) : ∃ u : State,
    s.timeReturn d r tr = (u.setSource (if tr then 2 else 1)).lockFabric d ∧ u.now = s.now ∧ u.arch = s.arch ∧
      u.isBit Obj.timeStatus 3 = false ∧ u.v Obj.timeRateAdj = clamp (-200000) 200000 r := by
  refine ⟨_, rfl, by simp, by simp, ?_, State.v_setR_self ..⟩
  rw [State.isBit, State.v_setR_key _ _ (by decide), State.v_setR_key _ _ (by decide), ← State.isBit, State.isBit_bitR_self]

/-- A source that returns ends HOLDOVER and steps no base (R28). -/
theorem timeSourceReturn_slews (t : Nat) (d r : Int) (tr : Bool) (s : State) (h : s.isBit Obj.timeStatus 3 = true) :
    ∃ s', exec (.timeSourceReturn t d r tr) s = .next s' ∧ s'.isBit Obj.timeStatus 3 = false ∧
      s'.v Obj.timeRateAdj = clamp (-200000) 200000 r ∧ ∀ c, s'.baseOf c = (s.upTo t).baseOf c := by
  obtain ⟨u, hu, hn, ha, hb, hr⟩ := (s.upTo t).timeReturn_eq d r tr
  refine ⟨_, exec_timeSourceReturn t d r tr s h, ?_, ?_, fun c => ?_⟩
  · rw [State.after_isBit _ _ _ Obj.timeStatus_offFollow, hu, State.lockFabric_isBit _ _ (by decide), State.isBit,
      State.setSource, State.v_setR_self, bit_withField_above _ _ (by decide)]
    exact hb
  · rw [State.after_v _ _ _ Obj.timeRateAdj_offFollow, hu, State.lockFabric_v _ _ (by decide), State.setSource,
      State.v_setR_key _ _ (by decide), hr]
  · have hx : ((s.upTo t).timeReturn d r tr).now = max s.now t := by
      rw [hu, State.lockFabric_now, State.setSource, State.setR_now, hn, State.upTo_now]
    rw [State.after_baseOf _ _ _ hx]
    refine State.baseOf_congr hx ?_ ?_ c
    · rw [hu, State.lockFabric_anchor, State.setSource, State.setR_arch, ha]
    · rw [hu, State.lockFabric_skew, State.setSource, State.setR_arch, ha]

-- frames on the cross-straps

variable (s : State)

/-- What a delivered frame brings changes slots, latches, axes, data objects, streams and tasks: neither the straps nor the
clock (R11). -/
theorem State.deliver_keeps {β : Type} (p : State → β) (hs : ∀ s c k f, p (State.updSlot s c k f) = p s)
    (hr : ∀ s c o v, p (State.setC s c o v) = p s) (ha : ∀ s n f, p (State.updAxis s n f) = p s)
    (ho : ∀ s c o v, p (State.setDobj s c o v) = p s) (hst : ∀ s k f, p (State.updStream s k f) = p s)
    (ht : ∀ s k f, p (State.updTask s k f) = p s) (m : StrapMsg) : p (s.deliver m) = p s := by
  unfold State.deliver
  split
  case h_5 =>
    dsimp only
    repeat' split
    all_goals simp only [hst, ht, ho]
  all_goals simp only [State.setLatch, hs, hr, ha, ho]

@[simp] theorem State.deliver_arch (m : StrapMsg) : (s.deliver m).arch = s.arch :=
  s.deliver_keeps (fun s => s.arch) (fun _ _ _ _ => rfl) (fun _ _ _ _ => rfl) (fun _ _ _ => rfl) (fun _ _ _ _ => rfl)
    (fun _ _ _ => rfl) (fun _ _ _ => rfl) m
@[simp] theorem State.deliver_now (m : StrapMsg) : (s.deliver m).now = s.now :=
  s.deliver_keeps (fun s => s.now) (fun _ _ _ _ => rfl) (fun _ _ _ _ => rfl) (fun _ _ _ => rfl) (fun _ _ _ _ => rfl)
    (fun _ _ _ => rfl) (fun _ _ _ => rfl) m

/-- The frames that have arrived leave the queue, and nothing else of the straps changes (R12). -/
theorem State.settleStraps_arch :
    s.settleStraps.arch = { s.arch with queue := s.arch.queue.filter fun m => !m.arrived s.now } :=
  forEach_eq (fun s => s.arch) _ (fun s m => s.deliver_arch m) _ _
@[simp] theorem State.settleStraps_now : s.settleStraps.now = s.now :=
  forEach_eq (fun s => s.now) _ (fun s m => s.deliver_now m) _ _

theorem State.strapPath_congr {s s' : State} (hf : s'.arch.linkFail = s.arch.linkFail) (ha : s'.arch.alive = s.arch.alive)
    (rx tx : Ch) : s'.strapPath rx tx = s.strapPath rx tx := by
  have hl : ∀ l, s'.linkDown l = s.linkDown l := fun l => by cases l <;> simp [State.linkDown, hf]
  simp [State.strapPath, hl, ha]

@[simp] theorem State.settleStraps_strapPath (rx tx : Ch) : s.settleStraps.strapPath rx tx = s.strapPath rx tx :=
  State.strapPath_congr (by rw [State.settleStraps_arch]) (by rw [State.settleStraps_arch]) rx tx

/-- Arriving frames move no base. -/
theorem State.settleStraps_baseOf (c : Ch) : s.settleStraps.baseOf c = s.baseOf c :=
  State.baseOf_congr (State.settleStraps_now s) (by rw [State.settleStraps_arch]) (by rw [State.settleStraps_arch]) c

/-- The effect of CROSS_STRAP_FRAME where the receiver lives and the frame has a path (R11, R12). -/
def State.receiveStrap (s : State) (rx tx : Ch) (cls : StrapClass) (crcOk : Bool) (skew : Int) (payload : List Byte) : State :=
  if s.strapWaits rx tx cls then
    match s.strapNext rx tx cls with
    | some m => if crcOk then s.strapTake m true else (s.strapTake m false).countStrap rx
    | none => s
  else if !crcOk then s.countStrap rx
  else
    match cls with
    | .time => s.alignTime rx tx skew
    | _ => { s with arch := { s.arch with strapIn := (rx, tx, cls, payload) :: s.arch.strapIn } }

theorem exec_crossStrapFrame (t : Nat) (rx tx : Ch) (cls : StrapClass) (ok : Bool) (skew : Int) (p : List Byte)
    (h1 : s.arch.alive.get rx = true) (h2 : rx ≠ tx) (h3 : s.strapPath rx tx = true) :
    exec (.crossStrapFrame t rx tx cls ok skew p) s =
      .next (s.after t ((s.upTo t).settleStraps.receiveStrap rx tx cls ok skew p)) := by
  have ha : (s.upTo t).settleStraps.arch.alive.get rx = true := by rw [State.settleStraps_arch]; exact h1
  have hp : (s.upTo t).settleStraps.strapPath rx tx = true := by rw [State.settleStraps_strapPath]; exact h3
  show Host.Outcome.next _ = _
  simp only [ha, hp, bne_iff_ne.2 h2, Bool.and_true, Bool.not_true, Bool.false_eq_true, if_false]
  rfl

@[simp] theorem State.alignTime_strapIn (rx tx : Ch) (d : Int) : (s.alignTime rx tx d).arch.strapIn = s.arch.strapIn := by
  unfold State.alignTime; dsimp only; split <;> rfl
theorem State.alignTime_skew (rx tx : Ch) (d : Int) :
    (s.alignTime rx tx d).arch.skew = s.arch.skew.set rx (s.arch.skew.get tx + d) := by
  unfold State.alignTime; dsimp only; split <;> rfl
theorem State.alignTime_anchor (rx tx : Ch) (d : Int) :
    (s.alignTime rx tx d).arch.anchor = s.arch.anchor.set rx (s.now, s.offsetOf rx) := by
  unfold State.alignTime; dsimp only; split <;> rfl
@[simp] theorem State.alignTime_now (rx tx : Ch) (d : Int) : (s.alignTime rx tx d).now = s.now := by
  unfold State.alignTime; dsimp only; split <;> rfl

/-- An aligned base starts from where it stands: it is corrected by rate alone (R27). -/
theorem State.alignTime_baseOf (rx tx : Ch) (d : Int) : (s.alignTime rx tx d).baseOf rx = s.baseOf rx := by
  simp [State.baseOf, State.offsetOf, State.alignTime_anchor, State.alignTime_skew, slewLimit, clamp]

/-- CHANNEL_SKEW_MAX is not below the skew just measured (R29). -/
theorem State.alignTime_skewMax (rx tx : Ch) (d : Int) :
    min 65535 (d.natAbs : Int) ≤ (s.alignTime rx tx d).v Obj.channelSkewMax := by
  unfold State.alignTime
  dsimp only
  rw [State.checkLocked_v _ (by decide)]
  split
  · rw [State.v_setR_self]
  · next h => exact not_lt.1 h

/-- A discarded frame is counted by its receiver and delivers nothing (R12). -/
theorem crossStrapFrame_discards (t : Nat) (rx tx : Ch) (cls : StrapClass) (skew : Int) (p : List Byte)
    (h1 : s.arch.alive.get rx = true) (h2 : rx ≠ tx) (h3 : s.strapPath rx tx = true)
    (h4 : (s.upTo t).settleStraps.strapWaits rx tx cls = false) :
    ∃ s', exec (.crossStrapFrame t rx tx cls false skew p) s = .next s' ∧
      s'.arch.linkErr.get rx = s.arch.linkErr.get rx + 1 ∧ s'.arch.strapIn = s.arch.strapIn := by
  refine ⟨_, exec_crossStrapFrame s t rx tx cls false skew p h1 h2 h3, ?_⟩
  simp [State.receiveStrap, h4, State.countStrap, State.settleStraps_arch]

/-- A good frame is delivered, and no error is counted (R11). -/
theorem crossStrapFrame_delivers (t : Nat) (rx tx : Ch) (cls : StrapClass) (skew : Int) (p : List Byte)
    (h1 : s.arch.alive.get rx = true) (h2 : rx ≠ tx) (h3 : s.strapPath rx tx = true)
    (h4 : (s.upTo t).settleStraps.strapWaits rx tx cls = false) (h5 : cls ≠ .time) :
    ∃ s', exec (.crossStrapFrame t rx tx cls true skew p) s = .next s' ∧
      s'.arch.strapIn = (rx, tx, cls, p) :: s.arch.strapIn ∧ s'.arch.linkErr = s.arch.linkErr := by
  refine ⟨_, exec_crossStrapFrame s t rx tx cls true skew p h1 h2 h3, ?_⟩
  cases cls
  case time => exact absurd rfl h5
  all_goals simp [State.receiveStrap, h4, State.settleStraps_arch]

/-- A time-alignment frame sets the receiver's skew and leaves its base where it stands (R27). -/
theorem crossStrapFrame_aligns (t : Nat) (rx tx : Ch) (skew : Int) (p : List Byte)
    (h1 : s.arch.alive.get rx = true) (h2 : rx ≠ tx) (h3 : s.strapPath rx tx = true)
    (h4 : (s.upTo t).settleStraps.strapWaits rx tx .time = false) :
    ∃ s', exec (.crossStrapFrame t rx tx .time true skew p) s = .next s' ∧
      s'.arch.skew.get rx = s.arch.skew.get tx + skew ∧ s'.baseOf rx = (s.upTo t).baseOf rx ∧
      s'.arch.strapIn = s.arch.strapIn ∧ min 65535 (skew.natAbs : Int) ≤ s'.v Obj.channelSkewMax := by
  have hr : (s.upTo t).settleStraps.receiveStrap rx tx .time true skew p =
      (s.upTo t).settleStraps.alignTime rx tx skew := by simp [State.receiveStrap, h4]
  refine ⟨_, exec_crossStrapFrame s t rx tx .time true skew p h1 h2 h3, ?_⟩
  rw [hr]
  refine ⟨?_, ?_, ?_, ?_⟩
  · rw [State.after_arch, State.alignTime_skew, Trio.get_set_self, State.settleStraps_arch]
    rfl
  · rw [State.after_baseOf _ _ _ (by simp), State.alignTime_baseOf, State.settleStraps_baseOf]
  · rw [State.after_arch, State.alignTime_strapIn, State.settleStraps_arch]
    rfl
  · rw [State.after_v _ _ _ Obj.channelSkewMax_offFollow]
    exact State.alignTime_skewMax ..

/-- The frame that a link delivers next comes from its sender to its receiver, and waits there (R11). -/
theorem State.strapNext_some {rx tx : Ch} {cls : StrapClass} {m : StrapMsg} (h : s.strapNext rx tx cls = some m) :
    m.dst = rx ∧ s.strapWaits rx tx cls = true := by
  unfold State.strapNext at h
  dsimp only at h
  split at h
  · next x hx =>
    obtain rfl : x = m := by
      split at h
      · exact absurd h (by simp)
      · exact Option.some.inj h
    obtain ⟨hm, hp⟩ := List.mem_filter.1 (List.mem_of_find?_eq_some hx)
    have hc := List.find?_some hx
    simp only [Bool.and_eq_true, beq_iff_eq] at hp hc
    obtain ⟨⟨hd, hs⟩, hdue⟩ := hp
    exact ⟨hd, List.any_eq_true.2 ⟨x, hm, by simp [hd, hs, hc, hdue]⟩⟩
  · exact absurd h (by simp)

/-- The frame that waits on a link is delivered with its effect, or counted and lost (R11, R12). -/
theorem crossStrapFrame_takes (t : Nat) (rx tx : Ch) (cls : StrapClass) (ok : Bool) (skew : Int) (p : List Byte)
    (m : StrapMsg) (h1 : s.arch.alive.get rx = true) (h2 : rx ≠ tx) (h3 : s.strapPath rx tx = true)
    (h4 : (s.upTo t).settleStraps.strapNext rx tx cls = some m) :
    ∃ s', exec (.crossStrapFrame t rx tx cls ok skew p) s = .next s' ∧
      (if ok then s'.arch.queue = (s.upTo t).settleStraps.arch.queue.erase m ∧ s'.arch.linkErr = s.arch.linkErr ∧
          (∀ k o v, m.body = .output k o v → s'.dobj rx o = v) ∧
          (∀ n, m.body = .trip n → (s'.axis n).ocTripped.get rx = true)
        else s'.arch.linkErr.get rx = s.arch.linkErr.get rx + 1 ∧
          s'.arch.queue = (s.upTo t).settleStraps.arch.queue.map fun x => if x == m then { x with due := none } else x) := by
  obtain ⟨hd, hw⟩ := State.strapNext_some _ h4
  refine ⟨_, exec_crossStrapFrame s t rx tx cls ok skew p h1 h2 h3, ?_⟩
  have hl : (s.upTo t).settleStraps.arch.linkErr = s.arch.linkErr := by rw [State.settleStraps_arch]; rfl
  unfold State.receiveStrap
  rw [if_pos hw, h4]
  dsimp only
  generalize (s.upTo t).settleStraps = u at hl
  cases ok
  · simp only [Bool.false_eq_true, if_false, State.after_arch]
    simp [State.countStrap, State.strapTake, hl]
  · simp only [if_true, State.after_arch, State.strapTake, State.deliver_arch]
    refine ⟨trivial, hl, fun k o v hb => ?_, fun n hb => ?_⟩
    · simp [State.dobj, State.deliver, hb, hd, State.setDobj]
    · simp [State.axis, State.deliver, hb, hd, State.updAxis]

/-- Settles O6: one step forward at the first lock and none later (R25, R28, R30); a cross-strap frame is counted,
delivered, aligns its receiver, or takes its class's next waiting frame (R11, R12, R27). -/
theorem timeSourcesAndCrossStrapFrames : Obligations.TimeSourcesAndCrossStrapFrames :=
  ⟨⟨timeSourceLock_reports, timeSourceLock_steps, timeSourceLock_keeps, timeSourceLoss_holds, timeSourceReturn_slews⟩,
    fun t rx tx cls skew p s => crossStrapFrame_discards s t rx tx cls skew p,
    fun t rx tx cls skew p s => crossStrapFrame_delivers s t rx tx cls skew p,
    fun t rx tx skew p s => crossStrapFrame_aligns s t rx tx skew p,
    fun t rx tx cls ok skew p m s => crossStrapFrame_takes s t rx tx cls ok skew p m⟩

-- links

/-- After a channel fault, the channels of a list are all faulty, and those that were faulty stay so (R309, R312). -/
theorem State.forEach_channelFault (l : List Ch) (cause : Nat) (d : Ch) (h : d ∈ l ∨ s.red.faulty.get d = true) :
    (forEach l s fun s c => s.channelFault c cause).red.faulty.get d = true := by
  unfold forEach
  induction l generalizing s with
  | nil => simpa using h
  | cons c l ih =>
    refine ih _ ?_
    rcases h with h | h
    · rcases List.mem_cons.1 h with rfl | h
      · exact .inr (State.channelFault_faulty ..)
      · exact .inl h
    · exact .inr (State.channelFault_keeps _ _ _ _ h)

/-- The effect of a link failure before the channels that it cuts off are declared (R14, R338). -/
def State.failLink (l : Link) : State := ((s.setLink l true).markLink l true).checkHealth

@[simp] theorem State.failLink_red (l : Link) : (s.failLink l).red = s.red := by
  unfold State.failLink; rw [State.checkHealth_red]; rfl

theorem State.failLink_cutOff (l : Link) : (s.failLink l).cutOff = (s.setLink l true).cutOff := by
  have ha : (s.failLink l).arch = ((s.setLink l true).markLink l true).arch := State.checkHealth_arch _
  unfold State.cutOff
  refine List.filter_congr fun c _ => ?_
  rw [show (s.failLink l).linksDown c = (s.setLink l true).linksDown c by cases c <;> simp [State.linksDown, ha, State.markLink],
    show (s.failLink l).arch.alive = (s.setLink l true).arch.alive by rw [ha]; rfl, State.failLink_red]
  rfl

theorem State.linkDown_setLink (l : Link) (b : Bool) : (s.setLink l b).linkDown l = b := by cases l <;> rfl

theorem State.linkDown_congr {s s' : State} (h : s'.arch.linkFail = s.arch.linkFail) (l : Link) :
    s'.linkDown l = s.linkDown l := by cases l <;> simp [State.linkDown, h]

theorem exec_crossStrapLinkFail (t : Nat) (l : Link) (h : s.linkDown l = false) : exec (.crossStrapLinkFail t l) s =
    .next (s.after t (forEach (s.setLink l true).cutOff ((s.upTo t).failLink l) fun s c => s.channelFault c cfCrossStrap)) := by
  have hc : ((s.upTo t).failLink l).cutOff = (s.setLink l true).cutOff := State.failLink_cutOff ..
  rw [← hc]
  show Host.Outcome.next _ = _
  simp only [State.upTo_linkDown, h, Bool.false_eq_true, if_false]
  rfl

/-- A link that fails has failed, and a channel that it cuts off is faulty (R14). -/
theorem crossStrapLinkFail_declares (t : Nat) (l : Link) (h : s.linkDown l = false) :
    ∃ s', exec (.crossStrapLinkFail t l) s = .next s' ∧ s'.linkDown l = true ∧
      (∀ c, c ∈ (s.setLink l true).cutOff → s'.red.faulty.get c = true) ∧
      ((s.setLink l true).cutOff = [] → s'.red.faulty = s.red.faulty ∧ s'.red.state = s.red.state) := by
  refine ⟨_, exec_crossStrapLinkFail s t l h, ?_, fun c hc => ?_, fun hc => ?_⟩
  · have ha : (forEach (s.setLink l true).cutOff ((s.upTo t).failLink l) fun s c => s.channelFault c cfCrossStrap).arch =
        (((s.upTo t).setLink l true).markLink l true).arch :=
      (forEach_eq (fun s => s.arch) _ (fun _ _ => State.channelFault_arch ..) _ _).trans (State.checkHealth_arch _)
    exact (State.linkDown_congr (by rw [State.after_arch, ha]; rfl) l).trans (State.linkDown_setLink (s.upTo t) l true)
  · rw [State.after_faulty]
    exact State.forEach_channelFault _ _ _ _ (.inl hc)
  · have hr : (forEach [] ((s.upTo t).failLink l) fun s c => s.channelFault c cfCrossStrap).red = s.red :=
      State.failLink_red (s.upTo t) l
    rw [hc, State.after_red, hr]
    refine ⟨rfl, ?_⟩
    dsimp only
    split
    · next hp => exact hp.symm
    · rfl

/-- A restored link has not failed (R338). -/
theorem crossStrapLinkRestored_restores (t : Nat) (l : Link) (h : s.linkDown l = true) :
    ∃ s', exec (.crossStrapLinkRestored t l) s = .next s' ∧ s'.linkDown l = false ∧ s'.red.faulty = s.red.faulty := by
  have hx : exec (.crossStrapLinkRestored t l) s = .next (s.after t ((s.upTo t).setLink l false).checkHealth) := by
    show Host.Outcome.next _ = _
    simp only [State.upTo_linkDown, h, if_true]
  refine ⟨_, hx, ?_, ?_⟩
  · exact (State.linkDown_congr (by rw [State.after_arch, State.checkHealth_arch]) l).trans
      (State.linkDown_setLink (s.upTo t) l false)
  · rw [State.after_faulty, State.checkHealth_red]
    rfl

/-- A clock fault is a channel fault (R24). -/
theorem clockMonitorFault_declares (t : Nat) (c : Ch) (h : s.arch.alive.get c = true) :
    ∃ s', exec (.clockMonitorFault t c) s = .next s' ∧ s'.red.faulty.get c = true := by
  have hx : exec (.clockMonitorFault t c) s = .next (s.after t ((s.upTo t).channelFault c cfClock)) := by
    show Host.Outcome.next _ = _
    simp only [State.upTo_arch, h, if_true]
  exact ⟨_, hx, by rw [State.after_faulty]; exact State.channelFault_faulty ..⟩

-- the recording DRAM

/-- What a trace is after the DRAM fault of channel `c` (R223, R231): armed or triggered in `c`, it has ended with cause 4. -/
def TraceRec.afterDramFault (x : TraceRec) (c : Ch) : TraceRec :=
  if x.chan = some c ∧ (x.state = 1 ∨ x.state = 2) then { x with state := 4, cause := 4 } else x

theorem TraceRec.afterDramFault_idem (x : TraceRec) (c : Ch) :
    (x.afterDramFault c).afterDramFault c = x.afterDramFault c := by
  unfold TraceRec.afterDramFault
  split <;> simp_all

theorem State.stopTrace_dram (c : Ch) (j k : Nat) :
    (if (s.trace j).chan == some c then s.stopTrace j 4 else s).trace k =
      if j = k then (s.trace k).afterDramFault c else s.trace k := by
  by_cases hk : j = k
  · subst hk
    unfold TraceRec.afterDramFault State.stopTrace
    by_cases hc : (s.trace j).chan = some c <;> simp [hc]
  · rw [if_neg hk]
    split
    · exact State.trace_updTrace_ne _ _ (Ne.symm hk)
    · rfl

theorem State.forEach_stopTrace (c : Ch) (l : List Nat) (k : Nat) :
    (forEach l s fun s k => if (s.trace k).chan == some c then s.stopTrace k 4 else s).trace k =
      if k ∈ l then (s.trace k).afterDramFault c else s.trace k := by
  unfold forEach
  induction l generalizing s with
  | nil => rfl
  | cons j l ih =>
    rw [List.foldl_cons, ih, State.stopTrace_dram]
    by_cases hj : j = k
    · subst hj
      simp [TraceRec.afterDramFault_idem]
    · simp [hj, Ne.symm hj]

/-- A DRAM fault of channel `c` at an address, set and recorded, before its traces end (R17, R512). -/
def State.faultDram (c : Ch) (a : Nat) : State :=
  (s.updSed c fun d => { d with dramFault := true }).logC c 0x0905 (0xC010 + c.num) (leBytes 8 a)

@[simp] theorem State.faultDram_traces (c : Ch) (a : Nat) : (s.faultDram c a).traces = s.traces := by
  unfold State.faultDram; rw [State.logC_traces]; rfl

theorem State.faultDram_dramFault (c : Ch) (a : Nat) (d : Ch) :
    ((s.faultDram c a).sed.get d).dramFault = if d = c then true else (s.sed.get d).dramFault := by
  unfold State.faultDram
  rw [State.logC_sed_dramFault]
  split
  · next h => subst h; simp [State.updSed]
  · next h => simp [State.updSed, Trio.get_upd_ne _ _ h]

theorem exec_dramFault (t : Nat) (c : Ch) (a : Nat) (h : (s.sed.get c).dramFault = false) : exec (.dramFault t c a) s =
    .next (s.after t (forEach (s.traces.map (·.1)) ((s.upTo t).faultDram c a) fun s k =>
      if (s.trace k).chan == some c then s.stopTrace k 4 else s)) := by
  have ht : ((s.upTo t).faultDram c a).traces = s.traces := by simp
  rw [← ht]
  show Host.Outcome.next _ = _
  simp only [State.upTo_sed, h, Bool.false_eq_true, if_false]
  rfl

/-- A trace that is armed or triggered is listed. -/
theorem State.mem_traces {k : Nat} (h : (s.trace k).state = 1 ∨ (s.trace k).state = 2) : k ∈ s.traces.map (·.1) := by
  rcases Tbl.getD_mem s.traces k {} with h0 | h0
  · have : s.trace k = {} := h0
    simp [this] at h
  · exact List.mem_map.2 ⟨_, h0, rfl⟩

/-- A DRAM fault is that of its channel alone, and ends the traces of the channel (R17, R223, R512). -/
theorem dramFault_stops (t : Nat) (c : Ch) (a : Nat) (h : (s.sed.get c).dramFault = false) :
    ∃ s', exec (.dramFault t c a) s = .next s' ∧ (s'.sed.get c).dramFault = true ∧
      (∀ d, d ≠ c → (s'.sed.get d).dramFault = (s.sed.get d).dramFault) ∧
      (∀ k, (s.trace k).chan = some c → (s.trace k).state = 1 ∨ (s.trace k).state = 2 →
        (s'.trace k).state = 4 ∧ (s'.trace k).cause = 4) := by
  have hs : ∀ (u : State) (l : List Nat),
      (forEach l u fun s k => if (s.trace k).chan == some c then s.stopTrace k 4 else s).sed = u.sed :=
    fun u l => forEach_eq (fun s => s.sed) _ (fun s k => by split <;> simp) l u
  refine ⟨_, exec_dramFault s t c a h, ?_, fun d hd => ?_, fun k hc hk => ?_⟩
  · rw [State.after_sed, hs, State.faultDram_dramFault, if_pos rfl]
  · rw [State.after_sed, hs, State.faultDram_dramFault, if_neg hd]
    rfl
  · have hw := State.forEach_stopTrace ((s.upTo t).faultDram c a) c (s.traces.map (·.1)) k
    rw [if_pos (s.mem_traces hk)] at hw
    simp only [State.trace, State.after_traces] at hw ⊢
    rw [hw, State.faultDram_traces]
    have hx : (s.traces.getD k {}).afterDramFault c = { s.trace k with state := 4, cause := 4 } :=
      if_pos ⟨hc, hk⟩
    rw [State.upTo_traces, hx]
    exact ⟨rfl, rfl⟩

theorem exec_dramEccError (t : Nat) (c : Ch) (b : Nat) (ok : Bool) : exec (.dramEccError t c b ok) s =
    .next (s.after t ((s.upTo t).updSed c fun d => if ok then { d with corrected := d.corrected + 1 }
      else if d.invalid.contains b then d else { d with invalid := b :: d.invalid })) := rfl

/-- A corrected error is counted, an uncorrectable one makes its block invalid (R17). -/
theorem dramEccError_counts (t : Nat) (c : Ch) (b : Nat) :
    (∃ s', exec (.dramEccError t c b true) s = .next s' ∧ (s'.sed.get c).corrected = (s.sed.get c).corrected + 1 ∧
      (s'.sed.get c).invalid = (s.sed.get c).invalid) ∧
    ∃ s', exec (.dramEccError t c b false) s = .next s' ∧ (s'.sed.get c).corrected = (s.sed.get c).corrected ∧
      b ∈ (s'.sed.get c).invalid := by
  refine ⟨⟨_, exec_dramEccError .., ?_⟩, ⟨_, exec_dramEccError .., ?_⟩⟩
  · simp [State.updSed]
  · simp only [State.after_sed, State.updSed, Trio.get_upd_self, State.upTo_sed, Bool.false_eq_true, if_false]
    by_cases hb : (s.sed.get c).invalid.contains b = true
    · rw [if_pos hb]; exact ⟨rfl, by simpa using hb⟩
    · rw [if_neg hb]; exact ⟨rfl, List.mem_cons_self ..⟩

/-- Settles O7: a failed link cuts off the channels without any (R14), a bad clock is a channel fault (R24), and DRAM
errors stop recording or are counted (R17, R512). -/
theorem linksClocksAndDramFail : Obligations.LinksClocksAndDramFail :=
  ⟨⟨fun t l s => crossStrapLinkFail_declares s t l, fun t l s => crossStrapLinkRestored_restores s t l,
      fun t c s => clockMonitorFault_declares s t c⟩,
    fun t c a s => dramFault_stops s t c a, fun t c b s => (dramEccError_counts s t c b).1,
    fun t c b s => (dramEccError_counts s t c b).2⟩

end Sys2Proof.Machine
end

section
/-! Reads of a row: the value is sent, and the object's own rule says what clears (O9). -/
namespace Sys2Proof.Machine

@[simp] theorem chOf_num (c : Ch) : chOf c.num = c := by cases c <;> rfl

@[simp] theorem State.isBitC_bitC_self (s : State) (c : Ch) (o : Obj) (n : Nat) (b : Bool) :
    (s.bitC c o n b).isBitC c o n = b := by
  simp [State.isBitC, State.bitC]

/-- A row that reads object `o`: the state `u` in which the value has been sent, and what the read then clears. -/
theorem State.row_reads {s : State} {t : Nat} {cr : Carrier} {o : Obj} {v : Int} {r : Role} {i j m : Nat} {a : Acc}
    {hm : Home} {x : Instr} (hx : exec x s = s.run t fun s => s.hostRead cr o) (h : s.reads t cr o v = true)
    (he : o.isEntry r i j m a hm = true) :
    ∃ (e : Entry) (u : State), (e.desc.role = r ∧ e.i = i ∧ e.j = j ∧ e.obj = o) ∧ exec x s = .next (s.after t (u.afterRead e)) ∧
      (u.afterRead e).tells cr o v ∧ u.now = max s.now t ∧ ∀ c p, Obj.unanswered p → u.g c p = s.g c p := by
  obtain ⟨e, q, ⟨hr, hi, hj, -, ho, -⟩, ht, hu⟩ := State.reads_acts h he
  refine ⟨e, _, ⟨hr, hi, hj, ho⟩, by rw [hx, State.run, hu], State.tells_congr (State.afterRead_sent ..) ht, by simp, ?_⟩
  intro c p hp
  rw [State.respond_g _ _ _ _ _ _ _ _ _ hp, State.heard_g]

/-- A read that clears its object leaves it 0 in every channel (R29, R220, R422, R473, R495). -/
theorem State.row_reads_zero {s : State} {t : Nat} {cr : Carrier} {o : Obj} {v : Int} {r : Role} {i j m : Nat} {a : Acc}
    {hm : Home} {x : Instr} (hx : exec x s = s.run t fun s => s.hostRead cr o) (h : s.reads t cr o v = true)
    (he : o.isEntry r i j m a hm = true) (hr : r ∈ [Role.feMax, .maxExec, .siDiscMax, .refuserMap, .channelSkewMax, .rotationMax]) :
    ∃ u, exec x s = .next (s.after t u) ∧ u.tells cr o v ∧ ∀ c, u.g c o = 0 := by
  obtain ⟨e, u, ⟨h1, -, -, ho⟩, hu, ht, -⟩ := State.row_reads hx h he
  refine ⟨_, hu, ht, fun c => ?_⟩
  have ha : u.afterRead e = u.setR o 0 := by
    rw [← ho]
    simp only [List.mem_cons, List.not_mem_nil, or_false] at hr
    rcases hr with rfl | rfl | rfl | rfl | rfl | rfl <;> simp [State.afterRead, h1]
  rw [ha, State.g_setR_self]

/-- The read of a result or a sample clears NEW (R133). -/
theorem State.row_reads_new {s : State} {t : Nat} {cr : Carrier} {o : Obj} {v : Int} {r : Role} {c : Ch} {n m : Nat} {a : Acc}
    {hm : Home} {x : Instr} (hx : exec x s = s.run t fun s => s.hostRead cr o) (h : s.reads t cr o v = true)
    (he : o.isEntry r c.num n m a hm = true) (hr : r = .cvResult ∨ r = .cvSample) :
    ∃ u, exec x s = .next (s.after t u) ∧ u.tells cr o v ∧ u.isBitC c (Obj.cvStatus c n) cvNew = false := by
  obtain ⟨e, u, ⟨h1, hi, hj, -⟩, hu, ht, -⟩ := State.row_reads hx h he
  refine ⟨_, hu, ht, ?_⟩
  have ha : u.afterRead e = u.bitC c (Obj.cvStatus c n) cvNew false := by
    rcases hr with rfl | rfl <;> simp [State.afterRead, h1, hi, hj, State.readCvResult]
  rw [ha, State.isBitC_bitC_self]

/-- The extrapolation of an axis reads five latched values, a horizon and STALE (R178). -/
theorem State.extrapAt_congr {s s' : State} {n : Nat} (t : Nat)
    (h : ∀ o ∈ [Obj.latchPos n, Obj.latchPrevPos n, Obj.latchTime n, Obj.latchPrevTime n, Obj.latchCount n,
      Obj.extrapHorizon n, Obj.axFbStatus n], s'.v o = s.v o) : s'.extrapAt n t = s.extrapAt n t := by
  simp only [List.mem_cons, List.not_mem_nil, or_false, forall_eq_or_imp, forall_eq] at h
  obtain ⟨h1, h2, h3, h4, h5, h6, h7⟩ := h
  unfold State.extrapAt State.vn State.isBit
  rw [h1, h2, h3, h4, h5, h6, h7]

/-- No answer changes what the extrapolation of an axis reads. -/
theorem Obj.extrap_unanswered {n : Nat} (hn : n < 32) : ∀ o ∈ [Obj.latchPos n, Obj.latchPrevPos n, Obj.latchTime n,
    Obj.latchPrevTime n, Obj.latchCount n, Obj.extrapHorizon n, Obj.axFbStatus n], o.unanswered := by
  simp only [List.mem_cons, List.not_mem_nil, or_false, forall_eq_or_imp, forall_eq]
  refine ⟨?_, ?_, ?_, ?_, ?_, ?_, ?_⟩
  all_goals
    simp only [Obj.unanswered, Obj.fabNoRoute, Obj.fabRateDrops, Obj.kdpAbortsSent, Obj.latchPos, Obj.latchPrevPos,
      Obj.latchTime, Obj.latchPrevTime, Obj.latchCount, Obj.extrapHorizon, Obj.axFbStatus]
    omega

/-- The read of AX_EXTRAP_POS sets STALE and VALID as its extrapolation gives them (R178). -/
theorem axExtrapPosRead_notes (t : Nat) (cr : Carrier) (n : Fin 32) (v : Int) (s : State)
    (h : s.reads t cr (Obj.axExtrapPos n) v = true) :
    ∃ u, exec (.axExtrapPosRead t cr n) s = .next (s.after t u) ∧ u.tells cr (Obj.axExtrapPos n) v ∧
      u.isBit (Obj.axFbStatus n) afStale = ((s.heard t cr).extrapAt n (s.heard t cr).now).stale ∧
      u.isBit (Obj.axFbStatus n) afValid = ((s.heard t cr).extrapAt n (s.heard t cr).now).valid := by
  obtain ⟨e, u, ⟨h1, hi, -, -⟩, hu, ht, hn, hg⟩ := State.row_reads (x := .axExtrapPosRead t cr n) rfl h (entry_axExtrapPos n)
  have ha : u.afterRead e = u.noteExtrap n u.now := by simp [State.afterRead, h1, hi, State.readExtrap]
  have hx : u.extrapAt n u.now = (s.heard t cr).extrapAt n (s.heard t cr).now := by
    rw [hn, State.heard_now]
    refine State.extrapAt_congr _ fun o ho => ?_
    have hun := Obj.extrap_unanswered n.isLt o ho
    rw [State.heard_v]
    simp only [State.v, hg _ o hun]
  refine ⟨_, hu, ht, ?_, ?_⟩
  · rw [ha, State.noteExtrap, State.isBit_bitR_self, hx]
  · rw [ha, State.noteExtrap, State.isBit_bitR_ne _ _ _ (by decide), State.isBit_bitR_self, hx]

/-- Settles O9: each read is the request of its object (R61), and the object's role says what it clears. -/
theorem readsReturnTheValue : Obligations.ReadsReturnTheValue := by
  refine ⟨fun t cr v s h => State.row_reads_zero rfl h entry_channelSkewMax (by simp), ?deviceTime,
    fun t cr k v s h => State.row_reads_zero rfl h (entry_feMax k) (by simp),
    fun t cr k v s h => State.row_reads_zero rfl h (entry_maxExec k) (by simp), ?siDiscMax,
    fun t cr v s h => State.row_reads_zero rfl h entry_refuserMap (by simp),
    fun t cr v s h => State.row_reads_zero rfl h entry_rotationMax (by simp),
    fun t cr c n v s h => State.row_reads_new rfl h (entry_cvResult c n) (.inl rfl),
    fun t cr c n v s h => State.row_reads_new rfl h (entry_cvSample c n) (.inr rfl), ?pwrStatus, ?domainLast,
    axExtrapPosRead_notes⟩
  case deviceTime =>
    intro t cr v s h
    obtain ⟨e, u, ⟨h1, -⟩, hu, ht, -, hg⟩ := State.row_reads (x := .deviceTimeRead t cr) rfl h entry_deviceTime
    have ha : u.afterRead e = u := by simp [State.afterRead, h1]
    refine ⟨_, hu, ht, fun c o ho => ?_⟩
    rw [ha, hg c o ho]
  case siDiscMax =>
    intro t cr c i v s h
    have hlt : siNum c i < 18 := by have := i.isLt; cases c <;> simp only [siNum, Ch.num] <;> omega
    exact State.row_reads_zero rfl h (entry_siDiscMax ⟨siNum c i, hlt⟩) (by simp)
  case pwrStatus =>
    intro t cr v s h
    obtain ⟨e, u, ⟨h1, -⟩, hu, ht, -⟩ := State.row_reads (x := .pwrStatusRead t cr) rfl h entry_pwrStatus
    have ha : u.afterRead e = u.readPwrStatus := by simp [State.afterRead, h1]
    exact ⟨_, hu, ht, by rw [ha]; exact ⟨rfl, rfl⟩⟩
  case domainLast =>
    intro t cr d v s h
    obtain ⟨e, u, ⟨h1, hi, -⟩, hu, ht, -⟩ := State.row_reads (x := .domainLastRead t cr d) rfl h (entry_domainLast d)
    have ha : u.afterRead e = u.readDomainLast d := by simp [State.afterRead, h1, hi]
    exact ⟨_, hu, ht, by rw [ha]; exact Tbl.getD_put_self u.power.domDeepest d 0 0⟩

end Sys2Proof.Machine
end

section
/-! The PWM counter of a slot: start, valley, peak, change of grid, and what its outputs show (O40). -/
namespace Sys2Proof.Machine

variable (s : State) (t : Nat) (c : Ch) (k : Fin 4)

-- converters that run free

theorem State.forEach_runFree_keeps {β : Type} (p : State → β) (hp : ∀ s c n f, p (State.updConv s c n f) = p s)
    (c : Ch) (b : Bool) (l : List Nat) (s : State) : p (forEach l s fun s n => s.runFree c n b) = p s :=
  forEach_eq p _ (fun _ _ => hp ..) l s

/-- A converter that begins to run free goes on after a gap (R128). -/
theorem State.forEach_runFree_gap (n : Nat) (l : List Nat) (s : State)
    (h : n ∈ l ∨ (s.conv c n).gap = true) : ((forEach l s fun s n => s.runFree c n false).conv c n).gap = true := by
  unfold forEach
  induction l generalizing s with
  | nil => simpa using h
  | cons j l ih =>
    refine ih _ ?_
    by_cases hj : n = j
    · subst hj
      exact .inr (by simp [State.runFree])
    · have hk : (s.runFree c j false).conv c n = s.conv c n := by
        simp [State.runFree, State.conv, State.updConv, Tbl.getD_modify_ne _ _ _ _ hj]
      rw [hk]
      exact h.imp_left fun h => (List.mem_cons.1 h).resolve_left hj

@[simp] theorem State.freeConverters_regs (k : Nat) : (s.freeConverters c k).regs = s.regs :=
  State.forEach_runFree_keeps (fun s => s.regs) (fun _ _ _ _ => rfl) ..
@[simp] theorem State.freeConverters_slot (k : Nat) (d : Ch) (j : Nat) : (s.freeConverters c k).slot d j = s.slot d j :=
  State.forEach_runFree_keeps (fun s => s.slot d j) (fun _ _ _ _ => rfl) ..

-- start and change of grid

/-- The counter of a slot as it starts on the grid of its objects (R233). -/
def State.startCounter (s : State) (c : Ch) (k : Nat) : State :=
  (s.updSlot c k fun x =>
    { x with running := true, aligned := true, startFrom := none, realign := 0, adj := none, valley := none
             top := s.gn c (Obj.pwmTop c k), phase := s.gn c (Obj.pwmPhase c k)
             cmp := s.comparesOf c k (s.gn c (Obj.pwmTop c k)) }).endSeeding

theorem exec_pwmCounterStart : exec (.pwmCounterStart t c k) s = .next (s.after t
    (if s.g c (Obj.bsMode c k) == 1 && !(s.slot c k).running && (s.slot c k).regrid (max s.now t) &&
        onGrid (s.gn c (Obj.pwmTop c k)) (s.gn c (Obj.pwmPhase c k)) (max s.now t) && s.arch.alive.get c && s.power.io
      then (s.upTo t).startCounter c k else s.upTo t)) := rfl

theorem State.startCounter_slot : (s.startCounter c k).slot c k =
    { s.slot c k with running := true, aligned := true, startFrom := none, realign := 0, adj := none, valley := none
                      top := s.gn c (Obj.pwmTop c k), phase := s.gn c (Obj.pwmPhase c k)
                      cmp := s.comparesOf c k (s.gn c (Obj.pwmTop c k)) } := by
  unfold State.startCounter
  simp only [State.slot, State.endSeeding_slots]
  exact State.slot_updSlot_self ..

/-- Outside STARTUP a start of a counter changes no object (R525). -/
theorem State.startCounter_regs (h : s.red.state ≠ .startup) : (s.startCounter c k).regs = s.regs := by
  have he : ∀ u : State, u.red.state ≠ .startup → u.endSeeding = u := fun u hu => if_neg hu
  unfold State.startCounter
  rw [he _ (by rw [State.updSlot_red]; exact h)]
  rfl

/-- PWM_COUNTER_START of a stopped slot in use starts its counter on the grid of its objects (R233). -/
theorem pwmCounterStart_starts (h1 : s.g c (Obj.bsMode c k) = 1) (h2 : (s.slot c k).running = false)
    (h3 : (s.slot c k).regrid (max s.now t) = true) (h4 : s.arch.alive.get c = true) (h5 : s.power.io = true)
    (h6 : onGrid (s.gn c (Obj.pwmTop c k)) (s.gn c (Obj.pwmPhase c k)) (max s.now t) = true) :
    ∃ u, exec (.pwmCounterStart t c k) s = .next (s.after t u) ∧ (u.slot c k).running = true ∧
      (u.slot c k).top = s.gn c (Obj.pwmTop c k) ∧ (u.slot c k).phase = s.gn c (Obj.pwmPhase c k) ∧
      (u.slot c k).cmp = (s.upTo t).comparesOf c k (s.gn c (Obj.pwmTop c k)) ∧
      (s.red.state ≠ .startup → (u.slot c k).en = (s.slot c k).en ∧ u.regs = s.regs) := by
  refine ⟨(s.upTo t).startCounter c k, ?_, ?_⟩
  · rw [exec_pwmCounterStart, if_pos (by simp [h1, h2, h3, h4, h5, h6])]
  · have hx := (s.upTo t).startCounter_slot c k
    rw [hx]
    exact ⟨rfl, rfl, rfl, rfl, fun h => ⟨rfl, (s.upTo t).startCounter_regs c k h⟩⟩

/-- PWM_COUNTER_START of anything else changes nothing (R233). -/
theorem pwmCounterStart_idle (h : s.g c (Obj.bsMode c k) ≠ 1 ∨ (s.slot c k).running = true ∨
    (s.slot c k).regrid (max s.now t) = false ∨ s.arch.alive.get c = false ∨ s.power.io = false ∨
    onGrid (s.gn c (Obj.pwmTop c k)) (s.gn c (Obj.pwmPhase c k)) (max s.now t) = false) :
    exec (.pwmCounterStart t c k) s = .next (s.after t (s.upTo t)) := by
  rw [exec_pwmCounterStart, if_neg]
  rcases h with h | h | h | h | h | h <;> simp [h]

/-- The slot from the valley at which its new grid is in force (R233). -/
def State.changeGrid (s : State) (c : Ch) (k : Nat) : State :=
  (s.updSlot c k fun x =>
    { x with aligned := false, startFrom := none, realign := 0, adj := none, valley := none
             top := s.gn c (Obj.pwmTop c k), phase := s.gn c (Obj.pwmPhase c k)
             cmp := s.comparesOf c k (s.gn c (Obj.pwmTop c k)) }).freeConverters c k

theorem exec_pwmGridChange : exec (.pwmGridChange t c k) s = .next (s.after t
    (if (s.slot c k).regrid (max s.now t) && (s.slot c k).isValley (max s.now t) then (s.upTo t).changeGrid c k
      else s.upTo t)) := rfl

/-- PWM_GRID_CHANGE at the valley after a grid write leaves the new grid in force, and the slot's converters run free
(R128, R233). -/
theorem pwmGridChange_changes (h1 : (s.slot c k).regrid (max s.now t) = true)
    (h2 : (s.slot c k).isValley (max s.now t) = true) :
    ∃ u, exec (.pwmGridChange t c k) s = .next (s.after t u) ∧ (u.slot c k).top = s.gn c (Obj.pwmTop c k) ∧
      (u.slot c k).phase = s.gn c (Obj.pwmPhase c k) ∧ (u.slot c k).startFrom = none ∧ (u.slot c k).aligned = false ∧
      u.regs = s.regs ∧ (∀ n : Fin 20, s.g c (Obj.cvSlotBind c n) = k.val → (u.conv c n).gap = true) := by
  refine ⟨(s.upTo t).changeGrid c k, by rw [exec_pwmGridChange, if_pos (by simp [h1, h2])], ?_⟩
  unfold State.changeGrid
  simp only [State.freeConverters_slot, State.freeConverters_regs, State.slot_updSlot_self]
  refine ⟨rfl, rfl, trivial, trivial, rfl, fun n hn => State.forEach_runFree_gap _ _ _ _ (.inl ?_)⟩
  exact List.mem_filter.2 ⟨List.mem_range.2 n.isLt, beq_iff_eq.2 hn⟩

/-- PWM_GRID_CHANGE at no valley, or without a new grid, changes nothing (R233). -/
theorem pwmGridChange_idle (h : (s.slot c k).regrid (max s.now t) = false ∨ (s.slot c k).isValley (max s.now t) = false) :
    exec (.pwmGridChange t c k) s = .next (s.after t (s.upTo t)) := by
  rw [exec_pwmGridChange, if_neg]
  rcases h with h | h <;> simp [h]

-- the valley

theorem exec_pwmValley (h : (s.upTo t).noneDue = true) :
    exec (.pwmValley t c k) s = .next (s.after t ((s.upTo t).pwmValley c k)) := by
  show Host.Outcome.next (s.after t ((s.upTo t).applyDue.pwmValley c k)) = _
  rw [State.applyDue_none _ h]

/-- Staged duties become the slot's duties, and none stays staged (R235). -/
theorem State.takeDuties_staged {s : State} {c : Ch} {k : Nat} {d : Trio Int} (h : (s.slot c k).staged = some d) :
    s.takeDuties c k = (((s.setC c (Obj.dutyU c k) d.a).setC c (Obj.dutyV c k) d.b).setC c (Obj.dutyW c k) d.c).updSlot c k
      fun x => { x with staged := none, repeated := false } := by
  unfold State.takeDuties
  simp only [h]

/-- Without staged duties the present ones stay, and a value that was owed is counted (R235). -/
theorem State.takeDuties_none {s : State} {c : Ch} {k : Nat} (h : (s.slot c k).staged = none) :
    s.takeDuties c k = (if (s.slot c k).owedNext then s.bumpC c (Obj.repeatCount c k) else s).updSlot c k
      fun x => { x with repeated := x.owedNext } := by
  unfold State.takeDuties
  simp only [h]

@[simp] theorem State.takeDuties_now (k : Nat) : (s.takeDuties c k).now = s.now := by
  cases h : (s.slot c k).staged with
  | some d => rw [State.takeDuties_staged h]; rfl
  | none => rw [State.takeDuties_none h]; split <;> rfl

/-- What a valley's duties leave of the slot (R235). -/
theorem State.takeDuties_slot (k : Nat) : ((s.takeDuties c k).slot c k).top = (s.slot c k).top ∧
    ((s.takeDuties c k).slot c k).staged = none := by
  cases h : (s.slot c k).staged with
  | some d => rw [State.takeDuties_staged h, State.slot_updSlot_self]; exact ⟨rfl, rfl⟩
  | none =>
    have hb : (s.bumpC c (Obj.repeatCount c k)).slot c k = s.slot c k := rfl
    rw [State.takeDuties_none h, State.slot_updSlot_self]
    split
    · rw [hb]; exact ⟨rfl, h⟩
    · exact ⟨rfl, h⟩

theorem State.valleyAt_regs (k : Nat) :
    (s.valleyAt c k).regs = ((s.takeDuties c k).setC c (Obj.valleyTime c k) s.now).regs := by
  unfold State.valleyAt
  simp only [State.updSlot_regs]

theorem State.valleyAt_slot (k : Nat) :
    ((s.valleyAt c k).slot c k).valley = some s.now ∧ ((s.valleyAt c k).slot c k).staged = none ∧
      ((s.valleyAt c k).slot c k).cmp = (s.valleyAt c k).comparesOf c k (s.slot c k).top := by
  have hg := fun o => State.g_congr (s.valleyAt_regs c k) c o
  obtain ⟨ht, hs⟩ := s.takeDuties_slot c k
  have hp : ∀ x : Slot, x.peaked.staged = x.staged := fun x => by unfold Slot.peaked; split <;> rfl
  simp only [State.comparesOf, hg]
  unfold State.valleyAt
  simp only [State.slot_updSlot_self, State.comparesOf, hp, State.setC_now, State.takeDuties_now]
  exact ⟨trivial, hs, by rw [← ht]; rfl⟩

/-- PWM_VALLEY at a valley of a slot in use takes its duties and notes the valley (R18, R232, R235). -/
theorem pwmValley_takes (hn : (s.upTo t).noneDue = true) (h1 : (s.slot c k).isValley (max s.now t) = true)
    (h2 : (s.slot c k).regrid (max s.now t) = false) (h3 : s.g c (Obj.bsMode c k) = 1) :
    ∃ u, exec (.pwmValley t c k) s = .next (s.after t u) ∧ (u.slot c k).valley = some (max s.now t) ∧
      u.g c (Obj.valleyTime c k) = (max s.now t : Nat) ∧ (u.slot c k).staged = none ∧
      (u.slot c k).cmp = u.comparesOf c k (s.slot c k).top ∧
      (∀ d, (s.slot c k).staged = some d → u.g c (Obj.dutyU c k) = d.a ∧ u.g c (Obj.dutyV c k) = d.b ∧
        u.g c (Obj.dutyW c k) = d.c ∧ u.g c (Obj.repeatCount c k) = s.g c (Obj.repeatCount c k)) ∧
      ((s.slot c k).staged = none → u.g c (Obj.dutyU c k) = s.g c (Obj.dutyU c k) ∧
        u.g c (Obj.dutyV c k) = s.g c (Obj.dutyV c k) ∧ u.g c (Obj.dutyW c k) = s.g c (Obj.dutyW c k) ∧
        ((s.slot c k).owedNext = false → u.g c (Obj.repeatCount c k) = s.g c (Obj.repeatCount c k)) ∧
        ((s.slot c k).owedNext = true →
          u.g c (Obj.repeatCount c k) = wrapU32 (s.g c (Obj.repeatCount c k) + 1))) := by
  have hv : (s.upTo t).pwmValley c k = (s.upTo t).valleyAt c k := by
    unfold State.pwmValley
    simp [h1, h2, h3]
  obtain ⟨hval, hst, hcmp⟩ := (s.upTo t).valleyAt_slot c k
  have hg := fun o => State.g_congr ((s.upTo t).valleyAt_regs c k) c o
  have keys : (Obj.dutyV c k).key ≠ (Obj.dutyU c k).key ∧ (Obj.dutyW c k).key ≠ (Obj.dutyU c k).key ∧
      (Obj.dutyW c k).key ≠ (Obj.dutyV c k).key ∧ (Obj.repeatCount c k).key ≠ (Obj.dutyU c k).key ∧
      (Obj.repeatCount c k).key ≠ (Obj.dutyV c k).key ∧ (Obj.repeatCount c k).key ≠ (Obj.dutyW c k).key := by
    simp only [Obj.dutyU, Obj.dutyV, Obj.dutyW, Obj.repeatCount]; omega
  have times : (Obj.dutyU c k).key ≠ (Obj.valleyTime c k).key ∧ (Obj.dutyV c k).key ≠ (Obj.valleyTime c k).key ∧
      (Obj.dutyW c k).key ≠ (Obj.valleyTime c k).key ∧ (Obj.repeatCount c k).key ≠ (Obj.valleyTime c k).key := by
    simp only [Obj.dutyU, Obj.dutyV, Obj.dutyW, Obj.repeatCount, Obj.valleyTime]; omega
  obtain ⟨kVU, kWU, kWV, kRU, kRV, kRW⟩ := keys
  obtain ⟨tU, tV, tW, tR⟩ := times
  have hU := (hg (Obj.dutyU c k)).trans (State.g_setC_key _ _ _ _ tU)
  have hV := (hg (Obj.dutyV c k)).trans (State.g_setC_key _ _ _ _ tV)
  have hW := (hg (Obj.dutyW c k)).trans (State.g_setC_key _ _ _ _ tW)
  have hR := (hg (Obj.repeatCount c k)).trans (State.g_setC_key _ _ _ _ tR)
  refine ⟨_, by rw [exec_pwmValley s t c k hn, hv], hval, ?_, hst, hcmp, fun d hd => ?_, fun hd => ?_⟩
  · rw [hg, State.g_setC_self]; rfl
  · rw [hU, hV, hW, hR, State.takeDuties_staged (s := s.upTo t) hd]
    have hsl : ∀ (x : State) f o, (State.updSlot x c k f).g c o = x.g c o := fun _ _ _ => rfl
    simp only [hsl]
    refine ⟨?_, ?_, ?_, ?_⟩
    · rw [State.g_setC_key _ _ _ _ kWU.symm, State.g_setC_key _ _ _ _ kVU.symm, State.g_setC_self]
    · rw [State.g_setC_key _ _ _ _ kWV.symm, State.g_setC_self]
    · rw [State.g_setC_self]
    · rw [State.g_setC_key _ _ _ _ kRW, State.g_setC_key _ _ _ _ kRV, State.g_setC_key _ _ _ _ kRU, State.upTo_g]
  · rw [hU, hV, hW, hR, State.takeDuties_none (s := s.upTo t) hd]
    cases ho : (s.slot c k).owedNext
    · simp only [State.upTo_slot, ho, Bool.false_eq_true, if_false]
      exact ⟨rfl, rfl, rfl, fun _ => rfl, fun h => h.elim⟩
    · have hb : ∀ o, o.key ≠ (Obj.repeatCount c k).key → ((s.upTo t).bumpC c (Obj.repeatCount c k)).g c o = s.g c o :=
        fun o ho => State.g_setC_key _ _ _ _ ho
      have hsl : ∀ (x : State) f o, (State.updSlot x c k f).g c o = x.g c o := fun _ _ _ => rfl
      simp only [State.upTo_slot, ho, if_true, hsl]
      exact ⟨hb _ kRU.symm, hb _ kRV.symm, hb _ kRW.symm, fun h => absurd h (by simp),
        fun _ => State.g_setC_self ..⟩

/-- PWM_VALLEY at a valley of a slot that is no longer in use stops it with EN low (R232, R255). -/
theorem pwmValley_stops (hn : (s.upTo t).noneDue = true) (h1 : (s.slot c k).isValley (max s.now t) = true)
    (h2 : (s.slot c k).regrid (max s.now t) = false) (h3 : s.g c (Obj.bsMode c k) ≠ 1) :
    ∃ u, exec (.pwmValley t c k) s = .next (s.after t u) ∧ (u.slot c k).running = false ∧ (u.slot c k).en = false ∧
      u.regs = s.regs := by
  have hv : (s.upTo t).pwmValley c k = (s.upTo t).stopCounter c k := by
    unfold State.pwmValley
    simp [h1, h2, h3]
  refine ⟨_, by rw [exec_pwmValley s t c k hn, hv], ?_⟩
  unfold State.stopCounter
  simp only [State.freeConverters_slot, State.freeConverters_regs, State.slot_updSlot_self]
  exact ⟨trivial, trivial, rfl⟩

/-- PWM_VALLEY at no valley, or where the slot holds for a new grid, changes nothing (R233). -/
theorem pwmValley_idle (hn : (s.upTo t).noneDue = true)
    (h : (s.slot c k).isValley (max s.now t) = false ∨ (s.slot c k).regrid (max s.now t) = true) :
    exec (.pwmValley t c k) s = .next (s.after t (s.upTo t)) := by
  have hv : (s.upTo t).pwmValley c k = s.upTo t := by
    unfold State.pwmValley
    rcases h with h | h <;> simp [h]
  rw [exec_pwmValley s t c k hn, hv]

-- the peak

theorem exec_pwmPeak : exec (.pwmPeak t c k) s = .next (s.after t
    (if (s.slot c k).isPeak (max s.now t) then (s.upTo t).updSlot c k Slot.peaked else s.upTo t)) := rfl

/-- The first peak of a period works off one tick of what is left to realign (R233). -/
theorem Slot.peaked_of_none {x : Slot} (h : x.adj = none) :
    x.peaked = { x with adj := some (-(sgn x.realign)), realign := x.realign - sgn x.realign } := by
  unfold Slot.peaked
  simp only [h]

theorem Slot.peaked_of_some {x : Slot} {a : Int} (h : x.adj = some a) : x.peaked = x := by
  unfold Slot.peaked
  simp only [h]

theorem natAbs_sub_sgn (r : Int) (h : r ≠ 0) : (r - sgn r).natAbs + 1 = r.natAbs := by
  unfold sgn
  split
  · omega
  · omega

/-- PWM_PEAK realigns by one tick, once per period (R233). -/
theorem pwmPeak_realigns (h : (s.slot c k).isPeak (max s.now t) = true) :
    ∃ u, exec (.pwmPeak t c k) s = .next (s.after t u) ∧ u.regs = s.regs ∧
      (∀ a, (s.slot c k).adj = some a → u.slot c k = s.slot c k) ∧
      ((s.slot c k).adj = none → (u.slot c k).adj = some (-(sgn (s.slot c k).realign)) ∧
        ((s.slot c k).realign = 0 → (u.slot c k).realign = 0) ∧
        ((s.slot c k).realign ≠ 0 → (u.slot c k).realign.natAbs + 1 = (s.slot c k).realign.natAbs)) := by
  refine ⟨(s.upTo t).updSlot c k Slot.peaked, by rw [exec_pwmPeak, if_pos h], rfl, fun a ha => ?_, fun ha => ?_⟩
  · rw [State.slot_updSlot_self, State.upTo_slot, Slot.peaked_of_some ha]
  · rw [State.slot_updSlot_self, State.upTo_slot, Slot.peaked_of_none ha]
    exact ⟨rfl, fun h0 => by simp [h0, sgn], natAbs_sub_sgn _⟩

-- counts, compare values and outputs

theorem Slot.count_ends (x : Slot) (v : Nat) (h1 : x.running = true) (h2 : x.valley = some v) :
    x.count v = 0 ∧ x.count (v + x.top) = x.top := by
  unfold Slot.count
  simp [h1, h2]

/-- Duty 0 compares with PWM_TOP, full duty with 0 (R235). -/
theorem compareOf_ends (top : Nat) : compareOf top 0 = top ∧ compareOf top 32768 = 0 := by
  refine ⟨by simp [compareOf, divRound], ?_⟩
  have hq : divRound ((top : Int) * 32768) 32768 = top := by
    have hn : ((top : Int) * 32768).natAbs = top * 32768 := by omega
    have h0 : ¬((top : Int) * 32768 < 0) := by omega
    unfold divRound
    simp only [hn, h0]
    norm_num
    omega
  simp [compareOf, hq]

theorem State.pwmOut_low (k x u : Nat) (hi : Bool) (h : (s.slot c k).en = false) :
    s.pwmOut c k x hi u = s.isBitC c (Obj.pwmPolarity c k) (if hi then 0 else 1) := by
  simp [State.pwmOut, h]

/-- An active output is demanded at this tick. -/
theorem Slot.gate_demand (p : Slot) (x dead u : Nat) (hi : Bool) (h : p.gate x hi dead u = true) : p.highDemand x u = hi := by
  have h0 := List.all_eq_true.1 h 0 (List.mem_range.2 (Nat.succ_pos dead))
  simpa using h0

/-- The two sides of a phase are never active together (R234). -/
theorem State.pwmOut_exclusive (k x u : Nat) (h : s.g c (Obj.pwmPolarity c k) = 0) :
    s.pwmOut c k x true u = false ∨ s.pwmOut c k x false u = false := by
  have hb : ∀ n, s.isBitC c (Obj.pwmPolarity c k) n = false := fun n => by simp [State.isBitC, h, bit_eq]
  by_contra hc
  simp only [not_or, Bool.not_eq_false, State.pwmOut, hb, Bool.bne_false, Bool.and_eq_true] at hc
  obtain ⟨⟨-, h1⟩, -, h2⟩ := hc
  have := (Slot.gate_demand _ _ _ _ _ h1).symm.trans (Slot.gate_demand _ _ _ _ _ h2)
  exact absurd this (by decide)

/-- Settles O40: start, valley, peak and change of grid of a counter (R18, R232 to R235), its counts and compare values
(R235), and its outputs (R234, R236). -/
theorem countersRunOnTheirGrid : Obligations.CountersRunOnTheirGrid :=
  ⟨fun t c k s => ⟨pwmCounterStart_starts s t c k, pwmCounterStart_idle s t c k⟩,
    fun t c k s hn => ⟨pwmValley_takes s t c k hn, pwmValley_stops s t c k hn, pwmValley_idle s t c k hn⟩,
    fun t c k s => ⟨fun h => by rw [exec_pwmPeak, h]; rfl, pwmPeak_realigns s t c k⟩,
    fun t c k s => ⟨pwmGridChange_changes s t c k, pwmGridChange_idle s t c k⟩,
    Slot.count_ends, compareOf_ends, fun c k x u hi s => s.pwmOut_low c k x u hi,
    fun c k x u s => s.pwmOut_exclusive c k x u⟩

end Sys2Proof.Machine
end

section
/-! ## The writes keep device time

An iteration is released after the writes due, the mirrored values and the frames that have arrived have acted. What it is
released for is told by device time (R19, R25), so each function by which a write acts needs its lemma here: none moves the
time. The functions come in the order of their calls. -/

namespace Sys2Proof.Machine

@[simp] theorem forEach_now {α : Type} {f : State → α → State} (hf : ∀ s x, (f s x).now = s.now)
    (l : List α) (s : State) :
    (forEach l s f).now = s.now :=
  forEach_eq (fun s => s.now) f hf l s

@[simp] theorem State.freeTaskSt_now (s : State) (old : TaskSt) : (s.freeTaskSt old).2.now = s.now := rfl

@[simp] theorem State.appendLog_now (s : State) (index sub carrier : Nat) (old new : List Byte) (form : Nat) :
    (s.appendLog index sub carrier old new form).now = s.now := by
  unfold State.appendLog
  split <;> simp [apply_ite State.now]

@[simp] theorem State.logChange_now (s : State) (index sub carrier : Nat) (old new : List Byte) (secret : Bool) :
    (s.logChange index sub carrier old new secret).now = s.now := by simp [State.logChange]

@[simp] theorem State.rawSet_now (s : State) (e : Entry) (v : Val) :
    (s.rawSet e v).now = s.now := by
  unfold State.rawSet
  dsimp only
  repeat' split
  all_goals simp

@[simp] theorem State.runFree_now (s : State) (c : Ch) (n : Nat) (anew : Bool) :
    (s.runFree c n anew).now = s.now := by simp [State.runFree]

@[simp] theorem State.freeConverters_now (s : State) (c : Ch) (k : Nat) :
    (s.freeConverters c k).now = s.now := by simp [State.freeConverters]

@[simp] theorem State.stopCounter_now (s : State) (c : Ch) (k : Nat) :
    (s.stopCounter c k).now = s.now := by simp [State.stopCounter]

@[simp] theorem State.writeBsMode_now (s : State) (c : Ch) (k : Nat) (v : Int) :
    (s.writeBsMode c k v).now = s.now := by simp [State.writeBsMode, apply_ite State.now]

@[simp] theorem State.injectDiag_now (s : State) (c : Ch) (k : Nat) (v : Int) :
    (s.injectDiag c k v).now = s.now := by simp [State.injectDiag]

@[simp] theorem State.writeGrid_now (s : State) (c : Ch) (k : Nat) (o : Obj) (v : Int) :
    (s.writeGrid c k o v).now = s.now := by simp [State.writeGrid, apply_ite State.now]

@[simp] theorem State.judgeEntry_now (s : State) (c : Ch) (n e : Nat) :
    (s.judgeEntry c n e).now = s.now := by
  unfold State.judgeEntry
  split <;> simp

@[simp] theorem State.moveRaw_now (s : State) (x : Src) (raw : Int) :
    (s.moveRaw x raw).now = s.now := by simp [State.moveRaw, apply_ite State.now]

@[simp] theorem State.fireEntry_now (s : State) (c : Ch) (n e : Nat) :
    (s.fireEntry c n e).now = s.now := by simp [State.fireEntry, apply_ite State.now]

@[simp] theorem State.fireAll_now (s : State) (c : Ch) (n : Nat) (old : Int) :
    (s.fireAll c n old).now = s.now := by simp [State.fireAll, apply_ite State.now]

@[simp] theorem State.count1_now (s : State) (c : Ch) (n : Nat) (d : Int) :
    (s.count1 c n d).now = s.now := by simp [State.count1]

@[simp] theorem State.settlePort_now (s : State) (c : Ch) (n : Nat) :
    (s.settlePort c n).now = s.now := by simp [State.settlePort, apply_ite State.now]

@[simp] theorem State.settleSteps_now (s : State) :
    s.settleSteps.now = s.now := by simp [State.settleSteps]

@[simp] theorem State.writeCmpControl_now (s : State) (c : Ch) (n e : Nat) (v : Int) :
    (s.writeCmpControl c n e v).now = s.now := by simp [State.writeCmpControl]

@[simp] theorem State.writeSlotBind_now (s : State) (c : Ch) (n : Nat) (v : Int) :
    (s.writeSlotBind c n v).now = s.now := by simp [State.writeSlotBind, apply_ite State.now]

@[simp] theorem State.writeScanMask_now (s : State) (c : Ch) (k : Nat) (v : Int) :
    (s.writeScanMask c k v).now = s.now := by simp [State.writeScanMask, apply_ite State.now]

@[simp] theorem State.clearFpStatus_now (s : State) (c : Ch) (n : Nat) (v : Int) :
    (s.clearFpStatus c n v).now = s.now := by simp [State.clearFpStatus, apply_ite State.now]

@[simp] theorem State.clearLatches_now (s : State) (n : Nat) :
    (s.clearLatches n).now = s.now := by simp [State.clearLatches]

@[simp] theorem State.clearSrcLatches_now (s : State) (x : Src) :
    (s.clearSrcLatches x).now = s.now := by
  unfold State.clearSrcLatches
  split <;> simp

@[simp] theorem State.startExc_now (s : State) (c : Ch) (k : Nat) :
    (s.startExc c k).now = s.now := by simp [State.startExc]

@[simp] theorem State.enableSource_now (s : State) (x : Src) (on : Bool) :
    (s.enableSource x on).now = s.now := by
  unfold State.enableSource
  have hflags := forEach_now (f := fun (s : State) b => s.bitC x.2.1 x.status b false) (fun _ _ => by simp)
  rcases x with ⟨kind, c, n⟩
  cases on <;> cases kind <;> simp [hflags]

@[simp] theorem State.writeResEnable_now (s : State) (c : Ch) (k : Nat) (v : Int) :
    (s.writeResEnable c k v).now = s.now := by simp [State.writeResEnable, apply_ite State.now]

@[simp] theorem State.clearSpStatus_now (s : State) (c : Ch) (n : Nat) (v : Int) :
    (s.clearSpStatus c n v).now = s.now := by simp [State.clearSpStatus, apply_ite State.now]

@[simp] theorem State.setCounters_now (s : State) (x : Src) (v : Int) :
    (s.setCounters x v).now = s.now := by
  unfold State.setCounters
  split <;> simp

@[simp] theorem State.preset_now (s : State) (x : Src) (v : Int) :
    (s.preset x v).now = s.now := by simp [State.preset, apply_ite State.now]

@[simp] theorem State.writeCmpPosition_now (s : State) (c : Ch) (n e : Nat) (v : Int) :
    (s.writeCmpPosition c n e v).now = s.now := by simp [State.writeCmpPosition]

@[simp] theorem State.writeFpMode_now (s : State) (c : Ch) (n : Nat) (v : Int) :
    (s.writeFpMode c n v).now = s.now := by simp [State.writeFpMode, apply_ite State.now]

@[simp] theorem State.skipCal_now (s : State) (c : Ch) (n : Nat) :
    (s.skipCal c n).now = s.now := by simp [State.skipCal]

@[simp] theorem State.selectCal_now (s : State) (c : Ch) (n : Nat) (ph : CalPhase) :
    (s.selectCal c n ph).now = s.now := by simp [State.selectCal, apply_ite State.now]

@[simp] theorem State.requestCal_now (s : State) (c : Ch) (v : Int) :
    (s.requestCal c v).now = s.now := by simp [State.requestCal]

@[simp] theorem State.writeInvert_now (s : State) (c : Ch) (n : Nat) (v : Int) :
    (s.writeInvert c n v).now = s.now := by simp [State.writeInvert]

@[simp] theorem State.writeSpMode_now (s : State) (c : Ch) (n : Nat) (v : Int) :
    (s.writeSpMode c n v).now = s.now := by simp [State.writeSpMode, apply_ite State.now]

@[simp] theorem State.clearCvStatus_now (s : State) (c : Ch) (n : Nat) (v : Int) :
    (s.clearCvStatus c n v).now = s.now := by simp [State.clearCvStatus, apply_ite State.now]

@[simp] theorem State.clearResult_now (s : State) (c : Ch) (n : Nat) :
    (s.clearResult c n).now = s.now := by simp [State.clearResult]

@[simp] theorem State.writeSensing_now (s : State) (c : Ch) (n : Nat) (o : Obj) (v : Int) :
    (s.writeSensing c n o v).now = s.now := by simp [State.writeSensing, apply_ite State.now]

theorem State.writeChanObj_now (s : State) (e : Entry) (v : Int) {u : State}
    (h : s.writeChanObj e v = some u) : u.now = s.now := by
  unfold State.writeChanObj at h
  dsimp only at h
  split at h <;> simp only [Option.some.injEq, reduceCtorEq] at h <;> subst h <;> simp

@[simp] theorem State.signMaps_now (s : State) (p : Nat) :
    (s.signMaps p).now = s.now := by simp [State.signMaps]

@[simp] theorem State.writeCyclicEnable_now (s : State) (p : Nat) (v : Int) :
    (s.writeCyclicEnable p v).now = s.now := by simp [State.writeCyclicEnable, apply_ite State.now]

@[simp] theorem State.lockAs_now (s : State) (b : Bool) :
    (s.lockAs b).now = s.now := by simp [State.lockAs]

@[simp] theorem State.timeLoss_now (s : State) :
    s.timeLoss.now = s.now := by simp [State.timeLoss, apply_ite State.now]

@[simp] theorem State.loseGm_now (s : State) (p : Nat) :
    (s.loseGm p).now = s.now := by simp [State.loseGm, apply_ite State.now]

@[simp] theorem State.writeObjDesc_now (s : State) (o : Nat) (v : Int) :
    (s.writeObjDesc o v).now = s.now := by simp [State.writeObjDesc, apply_ite State.now]

@[simp] theorem State.endGroup_now (s : State) (g : Nat) :
    (s.endGroup g).now = s.now := by simp [State.endGroup]

@[simp] theorem State.releadGroup_now (s : State) (g : Nat) :
    (s.releadGroup g).now = s.now := by
  have hsettle := fun l => forEach_now (f := fun (s : State) m => s.updGen (s.memberAxis g m) fun a =>
    { a.settle s.now with vx := 0 }) (fun _ _ => by simp) l s
  unfold State.releadGroup
  repeat' split
  all_goals simp [hsettle]

@[simp] theorem State.genRestart_now (s : State) (n : Nat) :
    (s.genRestart n).now = s.now := by
  unfold State.genRestart
  dsimp only
  repeat' split
  all_goals simp

@[simp] theorem State.firstUse_now (s : State) (k : Nat) :
    (s.firstUse k).now = s.now := by simp [State.firstUse]

@[simp] theorem State.startTask_now (s : State) (k : Nat) :
    (s.startTask k).now = s.now := by
  unfold State.startTask
  split <;> simp

@[simp] theorem State.writeTaskEnable_now (s : State) (k : Nat) (v : Int) :
    (s.writeTaskEnable k v).now = s.now := by simp [State.writeTaskEnable, apply_ite State.now]

@[simp] theorem State.armTrace_now (s : State) (k : Nat) :
    (s.armTrace k).now = s.now := by
  unfold State.armTrace
  split <;> simp

@[simp] theorem State.writeTraceControl_now (s : State) (k : Nat) (v : Int) :
    (s.writeTraceControl k v).now = s.now := by
  unfold State.writeTraceControl
  split <;> simp

@[simp] theorem State.writeHostLanes_now (s : State) (v : Int) :
    (s.writeHostLanes v).now = s.now := by simp [State.writeHostLanes]

@[simp] theorem State.askSwap_now (s : State) (k b at_ : Nat) :
    (s.askSwap k b at_).now = s.now := by simp [State.askSwap]

@[simp] theorem State.writeBankSelect_now (s : State) (k : Nat) (v : Int) :
    (s.writeBankSelect k v).now = s.now := by simp [State.writeBankSelect, apply_ite State.now]

@[simp] theorem State.writePlanRequest_now (s : State) (v : Int) :
    (s.writePlanRequest v).now = s.now := by simp [State.writePlanRequest, apply_ite State.now]

theorem State.writeTaskObj_now (s : State) (e : Entry) (v : Int) {u : State}
    (h : s.writeTaskObj e v = some u) : u.now = s.now := by
  unfold State.writeTaskObj at h
  dsimp only at h
  split at h <;> simp only [Option.some.injEq, reduceCtorEq] at h <;> subst h <;> simp [apply_ite State.now]

@[simp] theorem State.checkPaths_now (s : State) (c : Ch) :
    (s.checkPaths c).now = s.now := by
  unfold State.checkPaths
  dsimp only
  split
  · rfl
  · rw [forEach_now (fun _ _ => by simp)]
    simp

@[simp] theorem State.streamChanged_now (s : State) (was : Bool) (n : Nat) :
    (s.streamChanged was n).now = s.now := by
  unfold State.streamChanged
  dsimp only
  rw [forEach_now State.checkPaths_now]
  split
  · exact forEach_now (fun _ _ => by simp) _ _
  · rfl

@[simp] theorem State.writeDebugPermit_now (s : State) (v : Int) :
    (s.writeDebugPermit v).now = s.now := by simp [State.writeDebugPermit, apply_ite State.now]

@[simp] theorem State.closeUnlock_now (s : State) (cr : Carrier) :
    (s.closeUnlock cr).now = s.now := by simp [State.closeUnlock]

@[simp] theorem State.updPower_now (s : State) (f : Power → Power) :
    (s.updPower f).now = s.now := by simp [State.updPower]

@[simp] theorem State.setChange_now (s : State) (c : Ch) (x : Option PlChange) :
    (s.setChange c x).now = s.now := by simp [State.setChange]

@[simp] theorem State.startPl_now (s : State) (c : Ch) (v : Nat) :
    (s.startPl c v).now = s.now := by simp [State.startPl, apply_ite State.now]

@[simp] theorem State.nextPl_now (s : State) (c : Ch) :
    (s.nextPl c).now = s.now := by
  unfold State.nextPl
  split <;> simp [apply_ite State.now]

@[simp] theorem State.writePlRequest_now (s : State) (c : Ch) (v : Int) :
    (s.writePlRequest c v).now = s.now := by simp [State.writePlRequest]

@[simp] theorem State.putDesc_now (s : State) (n : Nat) (v : Int) :
    (s.putDesc n v).now = s.now := by simp [State.putDesc]

@[simp] theorem State.writeSparePair_now (s : State) (o : Obj) (v : Int) :
    (s.writeSparePair o v).now = s.now := by simp [State.writeSparePair, apply_ite State.now]

@[simp] theorem State.writeSedRelease_now (s : State) (v : Int) :
    (s.writeSedRelease v).now = s.now := 
  forEach_now (fun _ _ => by simp) _ _

@[simp] theorem State.updLane_now (s : State) (c : Ch) (l : Nat) (f : Lane → Lane) :
    (s.updLane c l f).now = s.now := by simp [State.updLane]

@[simp] theorem State.setLane_now (s : State) (c : Ch) (l st : Nat) :
    (s.setLane c l st).now = s.now := by simp [State.setLane, apply_ite State.now]

@[simp] theorem State.writeLaneEnable_now (s : State) (v : Int) :
    (s.writeLaneEnable v).now = s.now := by simp [State.writeLaneEnable, apply_ite State.now]

@[simp] theorem State.stayAsleep_now (s : State) :
    s.stayAsleep.now = s.now := by simp [State.stayAsleep, apply_ite State.now]

@[simp] theorem State.recordRefusal_now (s : State) (target : PwrState) (ids : List Nat) :
    (s.recordRefusal target ids).now = s.now := by simp [State.recordRefusal]

@[simp] theorem State.setAgain_now (s : State) (target : PwrState) (v : Option Nat) :
    (s.setAgain target v).now = s.now := by simp [State.setAgain]

@[simp] theorem State.judgeSleep_now (s : State) (target : PwrState) (timer : Bool) :
    (s.judgeSleep target timer).now = s.now := by simp [State.judgeSleep, apply_ite State.now]

@[simp] theorem State.evalSleep_now (s : State) :
    s.evalSleep.now = s.now := by
  unfold State.evalSleep
  split <;> simp

@[simp] theorem State.askSleep_now (s : State) (target : PwrState) (timer : Bool) :
    (s.askSleep target timer).now = s.now := by simp [State.askSleep, apply_ite State.now]

@[simp] theorem State.writePwrRequest_now (s : State) (v : Int) :
    (s.writePwrRequest v).now = s.now := by simp [State.writePwrRequest]

@[simp] theorem State.requestPassive_now (s : State) :
    s.requestPassive.now = s.now := by simp [State.requestPassive, apply_ite State.now]

@[simp] theorem State.writeDomainMode_now (s : State) (d : Nat) (v : Int) :
    (s.writeDomainMode d v).now = s.now := by simp [State.writeDomainMode, apply_ite State.now]

@[simp] theorem State.erase_now (s : State) :
    s.erase.now = s.now := by simp [State.erase]

@[simp] theorem State.eraseAll_now (s : State) :
    s.eraseAll.now = s.now := by simp [State.eraseAll]

@[simp] theorem State.changeLife_now (s : State) (carrier new : Nat) :
    (s.changeLife carrier new).now = s.now := by simp [State.changeLife, apply_ite State.now]

@[simp] theorem State.updPair_now (s : State) (c : Ch) (i : Nat) (f : SafePair → SafePair) :
    (s.updPair c i f).now = s.now := by simp [State.updPair]

@[simp] theorem State.setPairValue_now (s : State) (c : Ch) (i : Nat) :
    (s.setPairValue c i).now = s.now := by simp [State.setPairValue, apply_ite State.now]

@[simp] theorem State.writeSiMode_now (s : State) (n : Nat) (v : Int) :
    (s.writeSiMode n v).now = s.now := by simp [State.writeSiMode, apply_ite State.now]

@[simp] theorem State.clearLog_now (s : State) (carrier : Nat) (v : List Byte) :
    (s.clearLog carrier v).now = s.now := by simp [State.clearLog]

@[simp] theorem State.faultReset_now (s : State) (kind : Nat) :
    (s.faultReset kind).now = s.now := by simp [State.faultReset, apply_ite State.now]

@[simp] theorem State.writeFaultReset_now (s : State) (v : Int) :
    (s.writeFaultReset v).now = s.now := by
  unfold State.writeFaultReset
  dsimp only
  repeat' split
  all_goals simp

@[simp] theorem State.restartSedTrace_now (s : State) :
    s.restartSedTrace.now = s.now := 
  forEach_now (fun _ _ => by simp) _ _

@[simp] theorem State.writeSedTrigger_now (s : State) (v : Int) :
    (s.writeSedTrigger v).now = s.now := by simp [State.writeSedTrigger]

@[simp] theorem State.sendControl_now (s : State) (payload : List Byte) :
    (s.sendControl payload).now = s.now := by simp [State.sendControl, apply_ite State.now]

@[simp] theorem State.wakeEngine_now (s : State) (c : Ch) (e : Nat) :
    (s.wakeEngine c e).now = s.now := by simp [State.wakeEngine]

@[simp] theorem State.nextTurn_now (s : State) (c : Ch) (n : Nat) :
    (s.nextTurn c n).now = s.now := by
  unfold State.nextTurn
  dsimp only
  repeat' split
  all_goals simp

@[simp] theorem State.clearTest_now (s : State) (c : Ch) :
    (s.clearTest c).now = s.now := by simp [State.clearTest]

@[simp] theorem State.abortTurn_now (s : State) (c : Ch) :
    (s.abortTurn c).now = s.now := by
  unfold State.abortTurn
  split <;> simp

@[simp] theorem State.serve_now (s : State) (c : Ch) (e : Nat) :
    (s.serve c e).now = s.now := by simp [State.serve, apply_ite State.now]

@[simp] theorem State.placeAt_now (s : State) (k : Nat) (m : TaskMove) :
    (s.placeAt k m).now = s.now := by simp [State.placeAt, apply_ite State.now]

@[simp] theorem State.takeBack_now (s : State) :
    s.takeBack.now = s.now := by
  unfold State.takeBack
  apply forEach_now
  intro s k
  extract_lets o eng
  split
  · exact (State.bumpR_now _ _ _).trans ((State.placeAt_now _ _ _).trans (State.updTask_now _ _ _))
  · rfl

@[simp] theorem State.dropTwinStreams_now (s : State) :
    s.dropTwinStreams.now = s.now := by simp [State.dropTwinStreams]

@[simp] theorem State.completeUnpair_now (s : State) (cmd : Nat) :
    (s.completeUnpair cmd).now = s.now := by simp [State.completeUnpair]

@[simp] theorem State.checkUnpair_now (s : State) :
    s.checkUnpair.now = s.now := by
  unfold State.checkUnpair
  split <;> simp [apply_ite State.now]

@[simp] theorem State.requestUnpair_now (s : State) :
    s.requestUnpair.now = s.now := by simp [State.requestUnpair]

@[simp] theorem State.startPairing_now (s : State) :
    s.startPairing.now = s.now := by simp [State.startPairing]

@[simp] theorem State.writePairCmd_now (s : State) (v : Int) :
    (s.writePairCmd v).now = s.now := by
  unfold State.writePairCmd
  split <;> simp

@[simp] theorem State.routingChanged_now (s : State) (was : Bool) :
    (s.routingChanged was).now = s.now := by simp [State.routingChanged, apply_ite State.now]

@[simp] theorem State.useAddress_now (s : State) (a : Nat) :
    (s.useAddress a).now = s.now := by simp [State.useAddress, apply_ite State.now]

@[simp] theorem State.writeNodeAddr_now (s : State) (v : Int) :
    (s.writeNodeAddr v).now = s.now := by simp [State.writeNodeAddr, apply_ite State.now]

theorem State.writeDevObj_now (s : State) (cr : Carrier) (e : Entry) (v : Int) {u : State}
    (h : s.writeDevObj cr e v = some u) : u.now = s.now := by
  unfold State.writeDevObj at h
  split at h
  case h_16 => cases h; split <;> simp
  all_goals simp only [Option.some.injEq, reduceCtorEq] at h
  all_goals subst h; simp

@[simp] theorem State.describe_now (s : State) (g : Nat) (m : GMove) (start : Nat) (stop : Option GStop) :
    (s.describe g m start stop).now = s.now := by simp [State.describe, apply_ite State.now]

@[simp] theorem State.stopGroup_now (s : State) (g : Nat) (quick : Bool) :
    (s.stopGroup g quick).now = s.now := by
  unfold State.stopGroup
  dsimp only
  repeat' split
  all_goals simp [apply_ite State.now]

@[simp] theorem State.stopAxis_now (s : State) (n : Nat) (quick : Bool) :
    (s.stopAxis n quick).now = s.now := by
  unfold State.stopAxis
  dsimp only
  repeat' split
  all_goals simp

@[simp] theorem State.restopGroup_now (s : State) (g : Nat) :
    (s.restopGroup g).now = s.now := by
  unfold State.restopGroup
  split <;> simp [apply_ite State.now]

@[simp] theorem State.setTarget_now (s : State) (n : Nat) (v : Int) :
    (s.setTarget n v).now = s.now := by
  unfold State.setTarget
  split <;> simp [apply_ite State.now]

@[simp] theorem State.writeFbSource_now (s : State) (n : Nat) (v : Int) :
    (s.writeFbSource n v).now = s.now := by simp [State.writeFbSource, apply_ite State.now]

@[simp] theorem State.clearFault_now (s : State) (n : Nat) :
    (s.clearFault n).now = s.now := by
  unfold State.clearFault
  dsimp only
  rw [forEach_now (fun _ _ => by simp), State.setR_now, forEach_now (fun _ _ => by simp), State.updAxis_now]

@[simp] theorem State.writeRedundMode_now (s : State) (n : Nat) (v : Int) :
    (s.writeRedundMode n v).now = s.now := by
  unfold State.writeRedundMode
  dsimp only
  repeat' split
  · simp
  · simp
  all_goals
    rw [forEach_now (fun _ _ => by simp)]
    simp

@[simp] theorem State.restop_now (s : State) (n : Nat) :
    (s.restop n).now = s.now := by
  unfold State.restop
  split <;> simp [apply_ite State.now]

@[simp] theorem State.shiftGen_now (s : State) (n : Nat) (d : Int) :
    (s.shiftGen n d).now = s.now := by
  unfold State.shiftGen
  dsimp only
  split <;> simp

@[simp] theorem State.homeFlags_now (s : State) (x : Src) :
    (s.homeFlags x).now = s.now := by
  unfold State.homeFlags
  split <;> simp [apply_ite State.now]

@[simp] theorem State.homeFirstUse_now (s : State) (n : Nat) :
    (s.homeFirstUse n).now = s.now := by simp [State.homeFirstUse]

@[simp] theorem State.homeAxis_now (s : State) (n : Nat) (x : Src) (atIndex : Bool) :
    (s.homeAxis n x atIndex).now = s.now := by
  unfold State.homeAxis
  split <;> simp [apply_ite State.now]

@[simp] theorem State.writeHome_now (s : State) (n : Nat) (v : Int) :
    (s.writeHome n v).now = s.now := by
  unfold State.writeHome
  dsimp only
  split <;> simp

@[simp] theorem State.stopAll_now (s : State) (g : Nat) (quick : Bool) :
    (s.stopAll g quick).now = s.now := by simp [State.stopAll, apply_ite State.now]

@[simp] theorem State.startGroup_now (s : State) (g : Nat) (tgt : List (Nat × Int)) :
    (s.startGroup g tgt).now = s.now := by
  unfold State.startGroup
  dsimp only
  repeat' split
  all_goals simp [apply_ite State.now]

@[simp] theorem State.allocMove_now (s : State) (g : Nat) (tot : Int) :
    (s.allocMove g tot).now = s.now := by simp [State.allocMove]

@[simp] theorem State.wantTotal_now (s : State) (g : Nat) (tot : Int) :
    (s.wantTotal g tot).now = s.now := by simp [State.wantTotal, apply_ite State.now]

@[simp] theorem State.writeForceTotal_now (s : State) (g : Nat) (v : Int) :
    (s.writeForceTotal g v).now = s.now := by simp [State.writeForceTotal]

theorem State.writeAxisObj_now (s : State) (e : Entry) (v : Int) {u : State}
    (h : s.writeAxisObj e v = some u) : u.now = s.now := by
  unfold State.writeAxisObj at h
  dsimp only at h
  split at h <;> simp only [Option.some.injEq, reduceCtorEq] at h <;> subst h <;> simp [apply_ite State.now]

@[simp] theorem State.writeNum_now (s : State) (cr : Carrier) (e : Entry) (v : Int) :
    (s.writeNum cr e v).now = s.now := by
  unfold State.writeNum
  cases hT : s.writeTaskObj e v with
  | some u => simpa using State.writeTaskObj_now s e v hT
  | none =>
    cases hA : s.writeAxisObj e v with
    | some u => simpa using State.writeAxisObj_now s e v hA
    | none =>
      cases hC : s.writeChanObj e v with
      | some u => simpa using State.writeChanObj_now s e v hC
      | none =>
        cases hD : s.writeDevObj cr e v with
        | some u => simpa using State.writeDevObj_now s cr e v hD
        | none => simp

@[simp] theorem State.restoreOne_now (s : State) (cr : Carrier) (e : Entry) :
    (s.restoreOne cr e).now = s.now := by simp [State.restoreOne, apply_ite State.now]

@[simp] theorem State.restoreDefaults_now (s : State) (cr : Carrier) :
    (s.restoreDefaults cr).now = s.now := by
  unfold State.restoreDefaults
  refine forEach_now (fun s k => ?_) _ _
  cases entryOf k with
  | none => rfl
  | some e => exact State.restoreOne_now s cr e

@[simp] theorem State.commandApplied_now (s : State) (g : Nat) (p : Port) :
    (s.commandApplied g p).now = s.now := by simp [State.commandApplied, apply_ite State.now]

@[simp] theorem State.newPassword_now (s : State) (cr : Carrier) (pw : List Byte) :
    (s.newPassword cr pw).now = s.now := by simp [State.newPassword]

@[simp] theorem State.writeKey_now (s : State) (slot : Nat) (k : List Byte) :
    (s.writeKey slot k).now = s.now := by simp [State.writeKey]

@[simp] theorem State.openUnlock_now (s : State) (cr : Carrier) :
    (s.openUnlock cr).now = s.now := by simp [State.openUnlock]

@[simp] theorem State.writeStr_now (s : State) (cr : Carrier) (e : Entry) (b : List Byte) :
    (s.writeStr cr e b).now = s.now := by
  unfold State.writeStr
  split <;> simp

@[simp] theorem State.applyWrite_now (s : State) (cr : Carrier) (e : Entry) (v : Val) :
    (s.applyWrite cr e v).now = s.now := by
  unfold State.applyWrite
  split <;> simp [apply_ite State.now]

@[simp] theorem State.applyMembers_now (s : State) (w : PendWrite) :
    (s.applyMembers w).now = s.now := by
  refine forEach_now (fun s p => ?_) _ _
  cases entryOf p.1 with
  | none => rfl
  | some e => exact State.applyWrite_now s _ e _

@[simp] theorem State.sendResponse_now (s : State) (r : KdpReq) (who : Trio Bool) (code detail : Nat) (last : Bool)
    (data : List Byte) (tag : Nat) :
    (s.sendResponse r who code detail last data tag).now = s.now := by
  unfold State.sendResponse
  dsimp only
  have haborts := forEach_now (f := fun (s : State) c => s.bumpC c Obj.kdpAbortsSent) (fun _ _ => by simp)
  split <;> split <;> simp [haborts]

@[simp] theorem State.answerWrite_now (s₀ s : State) (w : PendWrite) :
    (State.answerWrite s₀ s w).now = s.now := by simp [State.answerWrite, apply_ite State.now]

@[simp] theorem State.applyDue_now (s : State) :
    s.applyDue.now = s.now := by simp [State.applyDue]

@[simp] theorem State.putMirror_now (s : State) (o : Nat) (v : Int) :
    (s.putMirror o v).now = s.now := by
  unfold State.putMirror
  dsimp only
  repeat' split
  · exact forEach_now (fun _ _ => by simp) _ _
  all_goals simp

@[simp] theorem State.putWaiting_now (s : State) (p : Nat → Nat → Bool) :
    (s.putWaiting p).now = s.now := by
  unfold State.putWaiting
  dsimp only
  split
  · rfl
  · refine forEach_now (fun s x => ?_) _ _
    cases x.2 with
    | none => rfl
    | some v => exact State.putMirror_now s _ _

@[simp] theorem State.mirrorFor_now (s : State) (k : Nat) :
    (s.mirrorFor k).now = s.now := by
  unfold State.mirrorFor
  split <;> simp

@[simp] theorem State.setLatch_now (s : State) (c : Ch) (n : Nat) (pos time prevPos prevTime count : Int) :
    (s.setLatch c n pos time prevPos prevTime count).now = s.now := by simp [State.setLatch]

end Sys2Proof.Machine

end

section
/-! ## The release of an iteration (R19, R177, R292, R294, R305) -/

namespace Sys2Proof.Machine

/-- The channels that are to run an iteration of task `k`. -/
def State.runners (s : State) (k : Nat) : List Ch := Ch.all.filter (s.runsIn k)

theorem State.mem_runners {s : State} {k : Nat} {c : Ch} : c ∈ s.runners k ↔ s.runsIn k c = true := by
  cases c <;> simp [State.runners, Ch.all]

theorem State.wakeEngine_tasks (s : State) (c : Ch) (e : Nat) : (s.wakeEngine c e).tasks = s.tasks := rfl

theorem State.wakeEngine_regs (s : State) (c : Ch) (e : Nat) : (s.wakeEngine c e).regs = s.regs := rfl

/-- Waking an engine clears its nap bit. -/
theorem bit_nap_woken (m e : Nat) : bit (((if bit (m : Int) e then m - 2 ^ e else m : Nat)) : Int) e = false := by
  by_cases h : bit (m : Int) e = true
  · have hle : 2 ^ e ≤ m := by
      by_contra hlt
      have : m / 2 ^ e = 0 := Nat.div_eq_of_lt (by omega)
      have hz : ((m : Int) / 2 ^ e) = 0 := by exact_mod_cast this
      simp [bit, hz] at h
    have hcast : (((m - 2 ^ e : Nat)) : Int) = withBit m e false := by
      rw [withBit, if_neg (by simp [h]), if_neg (by decide)]
      push_cast [Nat.cast_sub hle]
      rfl
    rw [if_pos h, hcast, bit_withBit_self]
  · rw [if_neg h]
    simpa using h

/-- In channel `c` the engine that runs task `k` is awake. -/
def State.engineAwake (s : State) (k : Nat) (c : Ch) : Prop :=
  bit ((s.power.nap.get c : Nat) : Int) ((s.task k).engines.get c) = false

/-- The engines that are to run task `k` in the channels of `l` wake. -/
def State.wakeIn (s : State) (k : Nat) (l : List Ch) : State :=
  forEach l s fun s c => s.wakeEngine c ((s.task k).engines.get c)

theorem State.wakeIn_tasks (s : State) (k : Nat) (l : List Ch) : (s.wakeIn k l).tasks = s.tasks :=
  forEach_eq (fun s => s.tasks) _ (fun s c => s.wakeEngine_tasks c _) _ _

theorem State.wakeIn_regs (s : State) (k : Nat) (l : List Ch) : (s.wakeIn k l).regs = s.regs :=
  forEach_eq (fun s => s.regs) _ (fun s c => s.wakeEngine_regs c _) _ _

theorem State.wakeEngine_awake (s : State) (k : Nat) (c d : Ch) (h : c = d ∨ s.engineAwake k c) :
    (s.wakeEngine d ((s.task k).engines.get d)).engineAwake k c := by
  by_cases hc : c = d
  · subst hc
    exact (congrArg (fun m : Nat => bit (m : Int) ((s.task k).engines.get c)) (Trio.get_upd_self _ _ _)).trans
      (bit_nap_woken _ _)
  · have hs : s.engineAwake k c := h.resolve_left hc
    exact (congrArg (fun m : Nat => bit (m : Int) ((s.task k).engines.get c)) (Trio.get_upd_ne _ _ hc)).trans hs

theorem State.wakeIn_awake (k : Nat) (c : Ch) (l : List Ch) (s : State) (h : c ∈ l ∨ s.engineAwake k c) :
    (s.wakeIn k l).engineAwake k c := by
  induction l generalizing s with
  | nil => simpa [State.wakeIn, forEach] using h
  | cons d l ih =>
    refine ih (s.wakeEngine d _) ?_
    rcases h with h | h
    · rcases List.mem_cons.1 h with rfl | h
      · exact .inr (s.wakeEngine_awake k c c (.inl rfl))
      · exact .inl h
    · exact .inr (s.wakeEngine_awake k c d (.inr h))

/-- What an iteration of task `k` in channel `c` with period start `v` reads. -/
def State.inputsAt (s : State) (k v : Nat) (c : Ch) : Inputs :=
  match s.isDq k, s.dqSlot k with
  | true, some (sc, b) => s.dqInputs (s.runners k) c k sc b v
  | _, _ => s.loopInputs (s.runners k) c k v

theorem State.inputsAt_start (s : State) (k v : Nat) (c : Ch) : (s.inputsAt k v c).start = v := by
  unfold State.inputsAt
  split <;> rfl

/-- What is released in channel `c`: nothing where the task does not run or a state copy is owed. -/
def State.releasedIn (s : State) (k v : Nat) (c : Ch) : Option Inputs :=
  if (s.runners k).contains c && !(s.stream k).reseed.get c then some (s.inputsAt k v c) else none

theorem State.releasedIn_start (s : State) (k v : Nat) (c : Ch) :
    (s.releasedIn k v c).map (·.start) =
      if s.runsIn k c = true ∧ (s.stream k).reseed.get c = false then some v else none := by
  unfold State.releasedIn
  have hrun : (s.runners k).contains c = s.runsIn k c := by
    rw [Bool.eq_iff_iff, List.contains_iff_mem, State.mem_runners]
  rw [hrun]
  cases s.runsIn k c <;> cases (s.stream k).reseed.get c <;> simp [State.inputsAt_start]

/-- The record of task `k` after its release for period start `v`. -/
def State.releasedTask (s : State) (k v : Nat) (r : TaskRec) : TaskRec :=
  { r with
    move := r.move.map fun m => { m with ready := m.copied && Ch.all.all fun c => !s.inFlight c (StrapBody.isSite k) }
    rel := ⟨s.releasedIn k v .chA, s.releasedIn k v .chB, s.releasedIn k v .chC⟩
    relAt := s.now, lastStart := some v, fin := Trio.all none }

/-- The state in which an iteration has been released, before a force axis latches. -/
def State.released (s : State) (k v : Nat) : State :=
  let waits := fun c => (s.stream k).reseed.get c && (s.runners k).contains c
  (((s.noteDq k v).updTask k (s.releasedTask k v)).wakeIn k (s.runners k)).updStream k fun x =>
    { x with skip := ⟨waits .chA, waits .chB, waits .chC⟩ }

/-- The feedback value that a force axis latches at a release. -/
def State.firstFeedback (s : State) (k v : Nat) : Int :=
  match s.runners k with
  | c :: _ => (s.inputsAt k v c).y
  | [] => 0

theorem State.release_eq (s : State) (k v : Nat) : s.release k v =
    if (s.released k v).taskTy k = 4 && !(s.runners k).isEmpty then
      (s.released k v).forceLatch k (s.firstFeedback k v)
    else s.released k v := rfl

theorem State.forceLatch_keeps {β : Type} (p : State → β) (ha : ∀ s n f, p (State.updAxis s n f) = p s)
    (hg : ∀ s n f, p (State.updGen s n f) = p s) (s : State) (k : Nat) (y : Int) : p (s.forceLatch k y) = p s := by
  unfold State.forceLatch
  split
  · split
    · exact (hg _ _ _).trans (ha _ _ _)
    · rfl
  · rfl

/-- A release differs from its first part in an axis and a generator at most. -/
theorem State.release_keeps {β : Type} (p : State → β) (ha : ∀ s n f, p (State.updAxis s n f) = p s)
    (hg : ∀ s n f, p (State.updGen s n f) = p s) (s : State) (k v : Nat) : p (s.release k v) = p (s.released k v) := by
  rw [State.release_eq]
  split
  · exact State.forceLatch_keeps p ha hg _ _ _
  · rfl

theorem State.noteDq_tasks (s : State) (k v : Nat) : (s.noteDq k v).tasks = s.tasks := by
  unfold State.noteDq State.noteExtrap
  split <;> simp

theorem State.noteDq_of_loop (s : State) (k v : Nat) (h : s.isDq k = false) : s.noteDq k v = s := by
  simp [State.noteDq, h]

theorem State.release_task (s : State) (k v : Nat) : (s.release k v).task k = s.releasedTask k v (s.task k) := by
  have htasks : (s.release k v).tasks = ((s.noteDq k v).updTask k (s.releasedTask k v)).tasks :=
    (State.release_keeps (fun s => s.tasks) (fun _ _ _ => rfl) (fun _ _ _ => rfl) s k v).trans (State.wakeIn_tasks _ _ _)
  calc (s.release k v).task k = ((s.noteDq k v).updTask k (s.releasedTask k v)).task k := by
        rw [State.task, htasks, ← State.task]
    _ = s.releasedTask k v ((s.noteDq k v).task k) := State.task_updTask_self _ _ _
    _ = s.releasedTask k v (s.task k) := by rw [State.task, State.noteDq_tasks, ← State.task]

theorem State.release_regs (s : State) (k v : Nat) (h : s.isDq k = false) : (s.release k v).regs = s.regs := by
  have hreleased : (s.release k v).regs = (s.released k v).regs :=
    State.release_keeps (fun s => s.regs) (fun _ _ _ => rfl) (fun _ _ _ => rfl) s k v
  rw [hreleased, State.released, State.updStream_regs, State.wakeIn_regs, State.updTask_regs, State.noteDq_of_loop s k v h]

theorem State.release_awake (s : State) (k v : Nat) (c : Ch) (h : s.runsIn k c = true) :
    bit (((s.release k v).power.nap.get c : Nat) : Int) ((s.task k).engines.get c) = false := by
  have hpower : (s.release k v).power = (((s.noteDq k v).updTask k (s.releasedTask k v)).wakeIn k (s.runners k)).power :=
    State.release_keeps (fun s => s.power) (fun _ _ _ => rfl) (fun _ _ _ => rfl) s k v
  have hengines : ((((s.noteDq k v).updTask k (s.releasedTask k v)).wakeIn k (s.runners k)).task k).engines =
      (s.task k).engines := by
    rw [State.task, State.wakeIn_tasks, ← State.task, State.task_updTask_self, State.releasedTask, State.task,
      State.noteDq_tasks, ← State.task]
  have hawake := State.wakeIn_awake k c (s.runners k) ((s.noteDq k v).updTask k (s.releasedTask k v))
    (.inl (State.mem_runners.2 h))
  rwa [State.engineAwake, hengines, ← hpower] at hawake

/-- The state in which a release is judged: the writes due, the mirrored values and the frames that have arrived acted. -/
def State.beforeRelease (s : State) (t k : Nat) : State := (((s.upTo t).applyDue.mirrorFor k).settleStraps)

theorem State.beforeRelease_now (s : State) (t k : Nat) : (s.beforeRelease t k).now = max s.now t := by
  simp [State.beforeRelease]

theorem exec_iterationRelease (t : Nat) (k : Fin 512) (s : State) :
    exec (.iterationRelease t k) s = .next (s.after t (((s.upTo t).applyDue.mirrorFor k).tryRelease k)) := rfl

/-- An iteration of task `k` with period start `v` is released at `now`. -/
def State.mayRelease (s : State) (k v now : Nat) : Bool :=
  s.iterates k && ((s.runners k).all fun c => s.holdsInputs k v c) && (s.task k).lastStart != some v && now < s.checkpointOf k v

theorem State.mayRelease_iff (s : State) (k v now : Nat) : s.mayRelease k v now = true ↔
    s.iterates k = true ∧ (∀ c, s.runsIn k c = true → s.holdsInputs k v c = true) ∧ (s.task k).lastStart ≠ some v ∧
      now < s.checkpointOf k v := by
  simp [State.mayRelease, State.mem_runners, and_assoc]

/-- A release is made or not by what the state before it holds. -/
theorem State.tryRelease_eq (s : State) (t k : Nat) : ((s.upTo t).applyDue.mirrorFor k).tryRelease k =
    match (s.beforeRelease t k).periodStart k (max s.now t) with
    | none => s.beforeRelease t k
    | some v =>
      if (s.beforeRelease t k).mayRelease k v (max s.now t) then (s.beforeRelease t k).release k v
      else s.beforeRelease t k := by
  rw [← s.beforeRelease_now t k]
  rfl

/-- Settles O35: a release is told by the state that the writes, the mirrored values and the frames left (no one of them moves
the time), and what it leaves is read off its parts. -/
theorem iterationsAreReleasedOncePerPeriod : Obligations.IterationsAreReleasedOncePerPeriod := by
  rintro t k w s rfl
  rw [← State.beforeRelease, exec_iterationRelease, State.tryRelease_eq]
  refine ⟨fun v hv hiter hinputs hlast hck => ?_, ?_⟩
  · refine ⟨(s.beforeRelease t k).release k v, ?_, ?_⟩
    · simp only [hv]
      rw [if_pos ((State.mayRelease_iff ..).2 ⟨hiter, hinputs, hlast, hck⟩)]
    · rw [State.release_task]
      refine ⟨rfl, State.beforeRelease_now s t k, fun c => by cases c <;> rfl, State.release_regs _ k v, fun c => ?_,
        fun c => State.release_awake _ k v c⟩
      rw [← State.releasedIn_start]
      cases c <;> rfl
  · rintro (hnone | hiter | ⟨v, hv, hno⟩)
    · simp only [hnone]
    · split
      · rfl
      · rw [if_neg (by simp [State.mayRelease_iff, hiter])]
    · simp only [hv]
      rw [if_neg]
      rw [State.mayRelease_iff]
      rintro ⟨-, hinputs, hlast, hck⟩
      rcases hno with h | h | ⟨c, hrun, hhold⟩
      · exact hlast h
      · omega
      · simp [hinputs c hrun] at hhold

end Sys2Proof.Machine

end

section
/-! ## The checkpoint of a task, and the digest frames (R22, R294, R298, R301, R306, R348)

What a checkpoint leaves of task `k` is the record of its stream, its outputs and its deadline misses. Everything else that a
checkpoint does (frames on the cross-straps and on the fabric, penalties, moves) keeps that record, as long as no state copy
of the task arrives meanwhile. -/

namespace Sys2Proof.Machine

-- what a checkpoint leaves, and what it reads

/-- No state copy of task `k` that waits on a cross-strap has arrived. -/
def State.NoCopy (s : State) (k : Nat) : Prop := ∀ m ∈ s.arch.queue, m.arrived s.now = true → m.body.isCopy k = false

/-- What a checkpoint leaves of task `k`: outputs, stream and deadline misses. -/
def State.ckRecord (s : State) (k : Nat) : Trio (List Int) × Stream × (Ch → Int) :=
  ((s.task k).out, s.stream k, fun c => s.g c (Obj.deadlineMisses k))

/-- What the channels read and leave at a checkpoint of task `k`. -/
def State.ckView (s : State) (k : Nat) : TaskRec × Stream × (Ch → Int) × Trio Nat × Trio Nat :=
  (s.task k, s.stream k, fun c => s.g c (Obj.deadlineMisses k), s.red.engineFault, s.red.halted)

/-- A step with no state copy of task `k` arriving before it leaves none arriving, and keeps what `p` reads. -/
def Quiet {β : Type} (p : State → β) (k : Nat) (s u : State) : Prop := s.NoCopy k → u.NoCopy k ∧ p u = p s

section
variable {β : Type} {p : State → β} {k : Nat}

theorem Quiet.refl (s : State) : Quiet p k s s := fun h => ⟨h, rfl⟩

theorem Quiet.trans {s u w : State} (h : Quiet p k s u) (h' : Quiet p k u w) : Quiet p k s w := fun hs =>
  have hu := h hs
  have hw := h' hu.1
  ⟨hw.1, hw.2.trans hu.2⟩

theorem Quiet.forEach {α : Type} {f : State → α → State} (hf : ∀ s x, Quiet p k s (f s x)) (l : List α) (s : State) :
    Quiet p k s (forEach l s f) :=
  forEach_keeps (Quiet p k) Quiet.refl (fun _ _ _ => Quiet.trans) f hf l s

theorem Quiet.of_eq {s u : State} (harch : u.arch = s.arch) (hnow : u.now = s.now) (hp : p u = p s) : Quiet p k s u :=
  fun h => ⟨by rwa [State.NoCopy, harch, hnow], hp⟩

end

/-- The record is a part of the view. -/
theorem Quiet.record {k : Nat} {s u : State} (h : Quiet (·.ckView k) k s u) : Quiet (·.ckRecord k) k s u := fun hs =>
  ⟨(h hs).1, congrArg (fun x => (x.1.out, x.2.1, x.2.2.1)) (h hs).2⟩

theorem State.ckView_congr {s u : State} (k : Nat) (ht : u.task k = s.task k) (hr : u.red = s.red)
    (hg : ∀ c, u.g c (Obj.deadlineMisses k) = s.g c (Obj.deadlineMisses k)) : u.ckView k = s.ckView k := by
  simp [State.ckView, State.stream, ht, hr, hg]

theorem Quiet.of_fields {k : Nat} {s u : State} (harch : u.arch = s.arch) (hnow : u.now = s.now) (ht : u.tasks = s.tasks)
    (hr : u.red = s.red) (hg : ∀ c, u.g c (Obj.deadlineMisses k) = s.g c (Obj.deadlineMisses k)) :
    Quiet (·.ckView k) k s u :=
  .of_eq harch hnow (State.ckView_congr k (by rw [State.task, ht, ← State.task]) hr hg)

-- the deadline misses stand apart

/-- An object whose value no deadline miss counter holds. -/
def Obj.notMisses (o : Obj) : Prop := ∀ k < 512, (Obj.deadlineMisses k).key ≠ o.key

theorem State.misses_setC (s : State) (k : Nat) (c d : Ch) (o : Obj) (v : Int) (hk : k < 512) (h : o.notMisses) :
    (s.setC c o v).g d (Obj.deadlineMisses k) = s.g d (Obj.deadlineMisses k) := s.g_setC_key c d v (h k hk)

theorem State.misses_setR (s : State) (k : Nat) (d : Ch) (o : Obj) (v : Int) (hk : k < 512) (h : o.notMisses) :
    (s.setR o v).g d (Obj.deadlineMisses k) = s.g d (Obj.deadlineMisses k) := s.g_setR_key d v (h k hk)

/-- The counters' keys have subindex 6. -/
theorem Obj.notMisses_of_sub {o : Obj} (h : o.key % 256 ≠ 6) : o.notMisses := by
  intro k _ he
  simp only [Obj.deadlineMisses] at he
  omega

/-- The counters' indexes lie below 0x5800. -/
theorem Obj.notMisses_of_high {o : Obj} (h : 0x5800 * 256 ≤ o.key) : o.notMisses := by
  intro k _ he
  simp only [Obj.deadlineMisses] at he
  omega

-- the cross-straps

/-- What each step of a loop over its own list keeps, the loop keeps. -/
theorem forEach_eq_mem {α β : Type} (p : State → β) (f : State → α → State) (l : List α)
    (hf : ∀ s, ∀ x ∈ l, p (f s x) = p s) (s : State) : p (forEach l s f) = p s := by
  induction l generalizing s with
  | nil => rfl
  | cons x l ih =>
    exact (ih (fun s y hy => hf s y (List.mem_cons_of_mem _ hy)) (f s x)).trans (hf s x List.mem_cons_self)

theorem State.misses_setLatch (s : State) (k n : Nat) (c d : Ch) (a b e f g : Int) (hk : k < 512) :
    (s.setLatch c n a b e f g).g d (Obj.deadlineMisses k) = s.g d (Obj.deadlineMisses k) := by
  have hsub : ∀ o ∈ [Obj.latchPos n, Obj.latchTime n, Obj.latchPrevPos n, Obj.latchPrevTime n, Obj.latchCount n],
      o.notMisses := by
    intro o ho
    apply Obj.notMisses_of_sub
    simp only [List.mem_cons, List.not_mem_nil, or_false] at ho
    rcases ho with rfl | rfl | rfl | rfl | rfl <;>
      simp only [Obj.latchPos, Obj.latchTime, Obj.latchPrevPos, Obj.latchPrevTime, Obj.latchCount] <;> omega
  simp only [List.forall_mem_cons] at hsub
  obtain ⟨hpos, htime, hprev, hprevTime, hcount, -⟩ := hsub
  unfold State.setLatch
  rw [State.misses_setC _ _ _ _ _ _ hk hcount, State.misses_setC _ _ _ _ _ _ hk hprevTime,
    State.misses_setC _ _ _ _ _ _ hk hprev, State.misses_setC _ _ _ _ _ _ hk htime, State.misses_setC _ _ _ _ _ _ hk hpos]

theorem State.ckView_updTask_ne (s : State) {j k : Nat} (f : TaskRec → TaskRec) (h : k ≠ j) :
    (s.updTask j f).ckView k = s.ckView k :=
  State.ckView_congr k (s.task_updTask_ne f h) rfl fun _ => rfl

theorem State.ckView_updStream_ne (s : State) {j k : Nat} (f : Stream → Stream) (h : k ≠ j) :
    (s.updStream j f).ckView k = s.ckView k := by
  have hstream : (s.updStream j f).stream k = s.stream k := Tbl.getD_modify_ne _ _ _ _ h
  exact congrArg (fun x => (s.task k, x, _, s.red.engineFault, s.red.halted)) hstream

/-- A frame that is no state copy of task `k` leaves what a checkpoint of it reads. -/
theorem State.deliver_ckView (s : State) (m : StrapMsg) (k : Nat) (hk : k < 512) (h : m.body.isCopy k = false) :
    (s.deliver m).ckView k = s.ckView k := by
  obtain ⟨src, dst, cls, at_, due, body⟩ := m
  cases body with
  | latch n a b e f g => exact State.ckView_congr k rfl rfl fun d => s.misses_setLatch k n dst d a b e f g hk
  | copy j st outs =>
    have hne : k ≠ j := fun hkj => by simp [hkj, StrapBody.isCopy] at h
    have hcopy := (State.ckView_updTask_ne _ (fun r => { r with st := r.st.set dst st, out := r.out.set dst outs }) hne).trans
      (s.ckView_updStream_ne (fun x => { x with reseed := x.reseed.set dst false }) hne)
    unfold State.deliver
    dsimp only
    split
    · exact s.ckView_updStream_ne _ hne
    · rcases outs with _ | ⟨v, _ | ⟨w, outs⟩⟩
      · exact hcopy
      · dsimp only
        split <;> exact hcopy
      · exact hcopy
  | samples => rfl
  | trip => rfl
  | output => rfl
  | site => rfl
  | plan => rfl

theorem State.settleStraps_quiet (s : State) (k : Nat) (hk : k < 512) : Quiet (·.ckView k) k s s.settleStraps := by
  intro h
  constructor
  · intro m hm ha
    rw [State.settleStraps_now] at ha
    rw [State.settleStraps_arch] at hm
    simp [ha] at hm
  · unfold State.settleStraps
    exact forEach_eq_mem (·.ckView k) State.deliver _ (fun u m hm => u.deliver_ckView m k hk
      (h m (List.mem_of_mem_filter hm) (by simpa using (List.mem_filter.1 hm).2))) _

theorem State.strapSend_quiet (s : State) (k : Nat) (hk : k < 512) (src dst : Ch) (cls : StrapClass) (b : StrapBody)
    (hb : b.isCopy k = false) : Quiet (·.ckView k) k s (s.strapSend src dst cls b) := by
  intro h
  obtain ⟨hcopy, hview⟩ := s.settleStraps_quiet k hk h
  refine ⟨fun m hm ha => ?_, hview⟩
  rcases List.mem_append.1 hm with hm | hm
  · exact hcopy m (List.mem_of_mem_filter hm) ha
  · rw [List.mem_singleton.1 hm]
    exact hb

-- frames on the fabric

theorem Obj.fabNoRoute_notMisses : Obj.fabNoRoute.notMisses := Obj.notMisses_of_high (by decide)

theorem Obj.fabRateDrops_notMisses : Obj.fabRateDrops.notMisses := Obj.notMisses_of_high (by decide)

theorem State.misses_sendFrame (s : State) (k : Nat) (c d : Ch) (n dest : Nat) (more : Bool) (payload : List Byte)
    (hk : k < 512) : (s.sendFrame c n dest more payload).g d (Obj.deadlineMisses k) = s.g d (Obj.deadlineMisses k) := by
  unfold State.sendFrame
  extract_lets seq u auth slot mk ls take w
  have hu : u.g d (Obj.deadlineMisses k) = s.g d (Obj.deadlineMisses k) := rfl
  rw [← hu]
  split
  · exact State.misses_setC _ _ _ _ _ _ hk Obj.fabNoRoute_notMisses
  · split
    · exact State.misses_setC _ _ _ _ _ _ hk Obj.fabRateDrops_notMisses
    · exact State.g_congr (forEach_eq (fun s => s.regs) _ (fun s x => State.send_regs s _) _ _) _ _

theorem State.misses_sendMsg (s : State) (k : Nat) (c d : Ch) (n : Nat) (payload : List Byte) (hk : k < 512) :
    (s.sendMsg c n payload).g d (Obj.deadlineMisses k) = s.g d (Obj.deadlineMisses k) := by
  unfold State.sendMsg State.sendTo
  dsimp only
  generalize (if (s.send _).streamDest n = 0 then 0 else _) = dest
  split
  · rfl
  · split
    · exact State.misses_sendFrame _ _ _ _ _ _ _ _ hk
    · exact (State.misses_sendFrame _ _ _ _ _ _ _ _ hk).trans (State.misses_sendFrame _ _ _ _ _ _ _ _ hk)

theorem State.sendMsg_quiet (s : State) (k : Nat) (hk : k < 512) (c : Ch) (n : Nat) (payload : List Byte) :
    Quiet (·.ckView k) k s (s.sendMsg c n payload) :=
  .of_fields (State.sendMsg_arch ..) (State.sendMsg_now ..) (State.sendMsg_tasks ..) (State.sendMsg_red ..)
    fun d => s.misses_sendMsg k c d n payload hk

theorem State.remoteSend_quiet (s : State) (k : Nat) (hk : k < 512) (os : List Nat) :
    Quiet (·.ckView k) k s (s.remoteSend os) := by
  unfold State.remoteSend
  dsimp only
  split
  · exact .refl s
  · exact Quiet.forEach (fun u c => u.sendMsg_quiet k hk c _ _) _ _

theorem State.mirrorSend_quiet (s : State) (k : Nat) (hk : k < 512) (os : List Nat) :
    Quiet (·.ckView k) k s (s.mirrorSend os) := by
  unfold State.mirrorSend
  dsimp only
  split
  · exact .refl s
  · exact Quiet.forEach (fun u n => Quiet.forEach (fun w c => w.sendMsg_quiet k hk c _ _) _ _) _ _

-- penalties, traces and turns

theorem State.penalize_quiet (s : State) (k : Nat) (c : Ch) (e a b : Nat) : Quiet (·.ckView k) k s (s.penalize c e a b) :=
  .of_fields (State.penalize_arch ..) (State.penalize_now ..) (State.penalize_tasks ..) (State.penalize_red ..)
    fun _ => State.g_congr (State.penalize_regs ..) _ _

theorem State.limitTraces_quiet (s : State) (j k : Nat) (c : Ch) (e : Nat) :
    Quiet (·.ckView k) k s (s.limitTraces j c e) := by
  unfold State.limitTraces
  split
  · exact .of_fields (State.stopTrace_arch ..) (State.stopTrace_now ..) (State.stopTrace_tasks ..)
      (State.stopTrace_red ..) fun _ => State.g_congr (State.stopTrace_regs ..) _ _
  · exact .refl s

theorem State.planTrigger_quiet (s : State) (k causes : Nat) : Quiet (·.ckView k) k s (s.planTrigger causes) :=
  .of_fields (State.planTrigger_arch ..) (State.planTrigger_now ..) (State.planTrigger_tasks ..)
    (State.planTrigger_red ..) fun _ => State.g_congr (State.planTrigger_regs ..) _ _

theorem State.setC_quiet (s : State) (k : Nat) (hk : k < 512) (c : Ch) (o : Obj) (v : Int) (h : o.notMisses) :
    Quiet (·.ckView k) k s (s.setC c o v) :=
  .of_fields rfl rfl rfl rfl fun d => s.misses_setC k c d o v hk h

theorem State.setR_quiet (s : State) (k : Nat) (hk : k < 512) (o : Obj) (v : Int) (h : o.notMisses) :
    Quiet (·.ckView k) k s (s.setR o v) :=
  .of_fields rfl rfl rfl rfl fun d => s.misses_setR k d o v hk h

theorem State.clearTest_quiet (s : State) (k : Nat) (c : Ch) : Quiet (·.ckView k) k s (s.clearTest c) :=
  .of_fields rfl rfl rfl rfl fun _ => rfl

theorem Obj.sliceRotations_notMisses : Obj.sliceRotations.notMisses := Obj.notMisses_of_high (by decide)

theorem Obj.rotationMax_notMisses : Obj.rotationMax.notMisses := Obj.notMisses_of_high (by decide)

theorem Obj.sliceAborts_notMisses : Obj.sliceAborts.notMisses := Obj.notMisses_of_high (by decide)

theorem State.nextTurn_quiet (s : State) (k : Nat) (hk : k < 512) (c : Ch) (n : Nat) :
    Quiet (·.ckView k) k s (s.nextTurn c n) := by
  have hlife : ∀ l, Quiet (·.ckView k) k s { s with life := l } := fun _ => .of_fields rfl rfl rfl rfl fun _ => rfl
  unfold State.nextTurn
  dsimp only
  split
  · split
    · exact hlife _
    · exact ((hlife _).trans (State.setC_quiet _ k hk c _ _ Obj.sliceRotations_notMisses)).trans
        (State.setR_quiet _ k hk _ _ Obj.rotationMax_notMisses)
  · exact hlife _

theorem State.endTurn_quiet (s : State) (k : Nat) (hk : k < 512) (c : Ch) : Quiet (·.ckView k) k s (s.endTurn c) := by
  unfold State.endTurn
  split
  · exact .refl s
  · exact ((s.clearTest_quiet k c).trans (State.nextTurn_quiet _ k hk c _)).trans (State.planTrigger_quiet _ k 4)

theorem Obj.sliceNext_notMisses (c : Ch) (e : Nat) : (Obj.sliceNext c e).notMisses :=
  Obj.notMisses_of_high (by simp only [Obj.sliceNext]; omega)

theorem State.abortTurn_quiet (s : State) (k : Nat) (hk : k < 512) (c : Ch) :
    Quiet (·.ckView k) k s (s.abortTurn c) := by
  unfold State.abortTurn
  split
  · exact .refl s
  · exact (((s.clearTest_quiet k c).trans (State.nextTurn_quiet _ k hk c _)).trans
      (State.setR_quiet _ k hk _ _ (Obj.sliceNext_notMisses c _))).trans
      (State.setC_quiet _ k hk c _ _ Obj.sliceAborts_notMisses)

theorem State.movesDone_quiet (s : State) (k : Nat) (hk : k < 512) : Quiet (·.ckView k) k s s.movesDone := by
  refine Quiet.forEach (fun u c => ?_) _ _
  dsimp only
  repeat' split
  · exact .refl u
  · exact u.endTurn_quiet k hk c
  · exact .refl u
  · exact .of_fields rfl rfl rfl rfl fun _ => rfl
  · exact .refl u

-- moves and hand-overs

/-- A change of a task that leaves its outputs leaves every record. -/
theorem State.updTask_record (s : State) (j k : Nat) (f : TaskRec → TaskRec) (hf : ∀ r, (f r).out = r.out) :
    Quiet (·.ckRecord k) k s (s.updTask j f) := by
  refine .of_eq rfl rfl ?_
  have hout : ((s.updTask j f).task k).out = (s.task k).out := by
    by_cases hkj : k = j
    · rw [hkj, State.task_updTask_self, hf]
    · rw [State.task_updTask_ne _ _ hkj]
  exact congrArg (fun x => (x, s.stream k, fun c => s.g c (Obj.deadlineMisses k))) hout

theorem State.dropMove_record (s : State) (j k : Nat) (hk : k < 512) : Quiet (·.ckRecord k) k s (s.dropMove j) := by
  unfold State.dropMove
  refine Quiet.trans (s.updTask_record j k _ ?_) (Quiet.forEach (fun u c => ?_) _ _)
  · exact fun _ => rfl
  split
  · exact (u.abortTurn_quiet k hk c).record
  · exact .refl u

theorem State.moveFails_record (s : State) (j k : Nat) (hk : k < 512) (m : TaskMove) :
    Quiet (·.ckRecord k) k s (s.moveFails j m) := by
  unfold State.moveFails
  split
  · exact (Quiet.forEach (fun u c => (u.penalize_quiet k c _ _ _).record) _ _).trans (State.dropMove_record _ j k hk)
  · exact s.updTask_record j k _ fun _ => rfl

theorem State.planMove_record (s : State) (j k : Nat) : Quiet (·.ckRecord k) k s (s.planMove j) := by
  unfold State.planMove
  extract_lets r m hand out
  split
  · exact .refl s
  · split
    · exact s.updTask_record j k _ fun _ => rfl
    · exact .refl s

theorem State.freeTaskSt_quiet (s : State) (k : Nat) (st : TaskSt) : Quiet (·.ckView k) k s (s.freeTaskSt st).2 :=
  .of_fields rfl rfl rfl rfl fun _ => rfl

theorem Obj.taskMoves_notMisses (k : Nat) : (Obj.taskMoves k).notMisses :=
  Obj.notMisses_of_sub (by simp only [Obj.taskMoves]; omega)

/-- The task state that a new site starts from, and the state that its choice leaves. -/
def State.moveSource (s : State) (k : Nat) : TaskSt × State :=
  if (s.task k).owner = 3 then s.freeTaskSt ((s.task k).st.get .chA) else ((s.task k).st.get (chOf (s.task k).owner), s)

theorem State.moveSource_quiet (s : State) (j k : Nat) : Quiet (·.ckView k) k s (s.moveSource j).2 := by
  unfold State.moveSource
  split
  · exact s.freeTaskSt_quiet k _
  · exact .refl s

theorem State.takeOver_record (s : State) (j k : Nat) (hk : k < 512) (m : TaskMove) :
    Quiet (·.ckRecord k) k s (s.takeOver j m) := by
  have htraces := (Quiet.forEach (fun u c => (u.limitTraces_quiet j k c (m.engines.get c)).record)
    (Ch.all.filter m.computed.get) s)
  refine Quiet.trans ?_ (State.movesDone_quiet _ k hk).record
  refine Quiet.trans ?_ (State.planMove_record _ j k)
  refine Quiet.trans ?_ (State.setR_quiet _ k hk _ _ (Obj.taskMoves_notMisses j)).record
  refine Quiet.trans ?_ (State.updTask_record _ j k _ (by intro; rfl))
  exact htraces.trans (State.moveSource_quiet _ j k).record

theorem State.sendSite_quiet (s : State) (j k : Nat) (hk : k < 512) (m : TaskMove) :
    Quiet (·.ckView k) k s (s.sendSite j m) := by
  unfold State.sendSite
  dsimp only
  split
  · exact Quiet.forEach (fun u c => u.sendMsg_quiet k hk c _ _) _ _
  · split
    · exact .refl s
    · exact Quiet.forEach (fun u c => u.strapSend_quiet k hk _ c .copy _ rfl) _ _

theorem State.moveStep_record (s : State) (j k v : Nat) (hk : k < 512) : Quiet (·.ckRecord k) k s (s.moveStep j v) := by
  unfold State.moveStep
  split
  · exact .refl s
  · extract_lets r cs w
    split
    · exact s.updTask_record j k _ (by intro; rfl)
    · split
      · split
        · exact .refl s
        · exact Quiet.trans (s.updTask_record j k _ (by intro; rfl)) (State.sendSite_quiet _ j k hk _).record
      · split
        · exact s.takeOver_record j k hk _
        · exact (s.moveFails_record j k hk _).trans (State.sendSite_quiet _ j k hk _).record

theorem State.endHandover_record (s : State) (n k : Nat) : Quiet (·.ckRecord k) k s (s.endHandover n) := by
  unfold State.endHandover
  extract_lets ks w
  split
  · exact Quiet.trans (u := w) (.of_eq rfl rfl rfl) (Quiet.forEach (fun u j => u.updTask_record j k _ (by intro; rfl)) _ _)
  · exact .refl s

theorem State.splitStep_record (s : State) (j k : Nat) : Quiet (·.ckRecord k) k s (s.splitStep j) := by
  unfold State.splitStep
  split
  · exact .refl s
  · split
    · exact (s.updTask_record j k _ (by intro; rfl)).trans (State.endHandover_record _ _ k)
    · exact .refl s

-- one channel's part

/-- What the channels read at a checkpoint of task `k`, and what its opening leaves. -/
structure CkShared where
  fin : Trio (Option Done)
  engines : Trio Nat
  engineFault : Trio Nat
  halted : Trio Nat
  skip : Trio Bool
  seq : Nat
  ck : Option Nat
  vote : Trio (Option (Trio Bool))
  complete : Bool
  voting : Bool

/-- What a checkpoint leaves of one channel: outputs, its own digest frame (digest, FLAGS and number), whether the history
leaves it out, and its deadline misses. -/
structure CkEntry where
  outs : List Int
  frame : Option (Nat × Nat × Nat)
  exempt : Bool
  misses : Int

def State.ckShared (s : State) (k : Nat) : CkShared :=
  { fin := (s.task k).fin, engines := (s.task k).engines, engineFault := s.red.engineFault, halted := s.red.halted
    skip := (s.stream k).skip, seq := (s.stream k).seq, ck := (s.stream k).ck, vote := (s.stream k).vote
    complete := (s.stream k).complete, voting := (s.stream k).voting }

def State.ckEntry (s : State) (k : Nat) (c : Ch) : CkEntry :=
  { outs := (s.task k).out.get c
    frame := (((s.stream k).held.get c).get c).map fun f => (f.digest, f.flags, f.seq)
    exempt := (s.stream k).exempt.get c
    misses := s.g c (Obj.deadlineMisses k) }

/-- The engine of the task in channel `c` is faulty or halted. -/
def CkShared.lost (x : CkShared) (c : Ch) : Bool :=
  bit (x.engineFault.get c : Int) (x.engines.get c) || bit (x.halted.get c : Int) (x.engines.get c)

/-- A channel's entry with the frame it sends, where it sends one. -/
def CkEntry.sent (y : CkEntry) (sends : Bool) (digest flags seq : Nat) : CkEntry :=
  if sends then { y with frame := some (digest, flags, seq % 65536) } else y

/-- What channel `c`'s part in a checkpoint of iteration start `v` makes of its entry (R22, R294, R301, R306). -/
def CkShared.checked (x : CkShared) (v : Nat) (sends : Bool) (c : Ch) (y : CkEntry) : CkEntry :=
  match x.fin.get c with
  | some d =>
    if d.fault || x.lost c then { y with exempt := true }.sent sends 0 1 x.seq
    else if d.start = v then { y with outs := d.outs }.sent sends d.digest 0 x.seq
    else { y with misses := wrapU32 (y.misses + 1) }.sent sends 0 1 x.seq
  | none =>
    if x.lost c then { y with exempt := true }.sent sends 0 1 x.seq
    else if x.skip.get c then { y with exempt := true }.sent sends 0 2 x.seq
    else { y with misses := wrapU32 (y.misses + 1) }.sent sends 0 1 x.seq

/-- A step that makes `f` of channel `c`'s entry and leaves the others, and what they share. -/
def EntryStep (k : Nat) (c : Ch) (f : CkEntry → CkEntry) (s u : State) : Prop :=
  s.NoCopy k → u.NoCopy k ∧ u.ckShared k = s.ckShared k ∧ u.ckEntry k c = f (s.ckEntry k c) ∧
    ∀ d ≠ c, u.ckEntry k d = s.ckEntry k d

section
variable {k : Nat} {c : Ch} {f g : CkEntry → CkEntry} {s u w : State}

theorem EntryStep.trans (h : EntryStep k c f s u) (h' : EntryStep k c g u w) :
    EntryStep k c (fun y => g (f y)) s w := fun hs => by
  obtain ⟨hu, hshared, hself, hother⟩ := h hs
  obtain ⟨hw, hshared', hself', hother'⟩ := h' hu
  exact ⟨hw, hshared'.trans hshared, by rw [hself', hself], fun d hd => (hother' d hd).trans (hother d hd)⟩

theorem State.ckShared_of_view (h : u.ckView k = s.ckView k) : u.ckShared k = s.ckShared k := by
  simp only [State.ckView, Prod.mk.injEq] at h
  obtain ⟨htask, hstream, -, hfault, hhalted⟩ := h
  simp only [State.ckShared, htask, hstream, hfault, hhalted]

theorem State.ckEntry_of_record (h : u.ckRecord k = s.ckRecord k) (d : Ch) : u.ckEntry k d = s.ckEntry k d := by
  simp only [State.ckRecord, Prod.mk.injEq] at h
  obtain ⟨hout, hstream, hmisses⟩ := h
  simp only [State.ckEntry, hout, hstream, congrFun hmisses d]

/-- A quiet step leaves every entry. -/
theorem Quiet.entry (h : Quiet (·.ckView k) k s u) : EntryStep k c id s u := fun hs =>
  ⟨(h hs).1, State.ckShared_of_view (h hs).2, State.ckEntry_of_record (h.record hs).2 c,
    fun d _ => State.ckEntry_of_record (h.record hs).2 d⟩

end

theorem State.stream_updStream_self (s : State) (k : Nat) (f : Stream → Stream) : (s.updStream k f).stream k = f (s.stream k) :=
  Tbl.getD_modify_self _ _ _ _

theorem State.setOut_entry (s : State) (k : Nat) (c : Ch) (outs : List Int) :
    EntryStep k c (fun y => { y with outs := outs }) s (s.updTask k fun r => { r with out := r.out.set c outs }) := by
  refine fun h => ⟨h, ?_, ?_, fun d hd => ?_⟩
  · simp only [State.ckShared, State.task_updTask_self]
    rfl
  · simp only [State.ckEntry, State.task_updTask_self, Trio.get_set_self]
    rfl
  · simp only [State.ckEntry, State.task_updTask_self, Trio.get_set_of_ne _ _ hd]
    rfl

theorem State.exempt_entry (s : State) (k : Nat) (c : Ch) :
    EntryStep k c (fun y => { y with exempt := true }) s
      (s.updStream k fun x => { x with exempt := x.exempt.set c true }) := by
  refine fun h => ⟨h, ?_, ?_, fun d hd => ?_⟩
  · simp only [State.ckShared, State.stream_updStream_self]
    rfl
  · simp only [State.ckEntry, State.stream_updStream_self, Trio.get_set_self]
    rfl
  · simp only [State.ckEntry, State.stream_updStream_self, Trio.get_set_of_ne _ _ hd]
    rfl

theorem State.sendDigest_entry (s : State) (k : Nat) (c : Ch) (digest flags : Nat) :
    EntryStep k c (fun y => { y with frame := some (digest, flags, (s.stream k).seq % 65536) }) s
      (s.sendDigest c k digest flags) := by
  have hstream : (s.sendDigest c k digest flags).stream k = _ := s.stream_updStream_self k _
  refine fun h => ⟨h, ?_, ?_, fun d hd => ?_⟩
  · simp only [State.ckShared, hstream]
    rfl
  · simp only [State.ckEntry, hstream, Trio.get_upd_self, Trio.get_set_self]
    rfl
  · simp only [State.ckEntry, hstream, Trio.get_upd_ne _ _ hd]
    rfl

theorem State.sendDigestIf_entry (s : State) (k : Nat) (c : Ch) (sends : Bool) (digest flags : Nat) :
    EntryStep k c (fun y => y.sent sends digest flags (s.ckShared k).seq) s
      (if sends then s.sendDigest c k digest flags else s) := by
  cases sends
  · exact (Quiet.refl (p := (·.ckView k)) s).entry
  · exact s.sendDigest_entry k c digest flags

theorem State.missDeadline_entry (s : State) (k : Nat) (c : Ch) :
    EntryStep k c (fun y => { y with misses := wrapU32 (y.misses + 1) }) s (s.missDeadline c k) := by
  have hbump : EntryStep k c (fun y => { y with misses := wrapU32 (y.misses + 1) }) s (s.bumpC c (Obj.deadlineMisses k)) := by
    refine fun h => ⟨h, rfl, ?_, fun d hd => ?_⟩
    · simp only [State.ckEntry, State.bumpC, State.g_setC_self]
      rfl
    · simp only [State.ckEntry, State.bumpC, State.g_setC_chan _ _ _ _ hd]
      rfl
  exact hbump.trans (State.penalize_quiet _ k c _ 16 0).entry

/-- What follows a step that leaves what the channels share. -/
theorem EntryStep.then {k : Nat} {c : Ch} {f : CkEntry → CkEntry} {g : CkShared → CkEntry → CkEntry} {s u w : State}
    (h : EntryStep k c f s u) (h' : EntryStep k c (g (u.ckShared k)) u w) :
    EntryStep k c (fun y => g (s.ckShared k) (f y)) s w := fun hs => by
  have hw := h.trans h' hs
  rwa [(h hs).2.1] at hw

theorem State.noDigest_entry (s : State) (k : Nat) (c : Ch) (flags : Nat) (sends exempt : Bool) :
    EntryStep k c
      (fun y => CkEntry.sent (if exempt then { y with exempt := true } else y) sends 0 flags (s.ckShared k).seq) s
      (s.noDigest c k flags sends exempt) := by
  unfold State.noDigest
  cases exempt
  · exact s.sendDigestIf_entry k c sends 0 flags
  · exact (s.exempt_entry k c).then (g := fun x y => y.sent sends 0 flags x.seq) (State.sendDigestIf_entry _ k c sends 0 flags)

theorem State.enterOutput_entry (s : State) (k : Nat) (hk : k < 512) (c : Ch) (outs : List Int) (alone : Bool) :
    EntryStep k c (fun y => { y with outs := outs }) s (s.enterOutput c k outs alone) := by
  have hset := s.setOut_entry k c outs
  unfold State.enterOutput
  extract_lets u o v w
  split
  · exact hset
  · have hw : EntryStep k c (fun y => { y with outs := outs }) s w :=
      hset.trans (Quiet.of_eq (p := (·.ckView k)) (u := w) rfl rfl rfl).entry
    split
    · exact hw.trans (Quiet.forEach (fun u d => u.strapSend_quiet k hk c d .samples _ rfl) _ _).entry
    · exact hw

theorem State.checkChannel_entry (s : State) (k : Nat) (hk : k < 512) (c : Ch) (v : Nat) (sends alone : Bool) :
    EntryStep k c ((s.ckShared k).checked v sends c) s (s.checkChannel c k v sends alone) := by
  have hmiss := (s.missDeadline_entry k c).then (g := fun x y => y.sent sends 0 1 x.seq)
    (State.noDigest_entry _ k c 1 sends false)
  have hlost := s.noDigest_entry k c 1 sends true
  have hskip := s.noDigest_entry k c 2 sends true
  unfold State.checkChannel CkShared.checked
  extract_lets r e lost
  have hfin : (s.ckShared k).fin.get c = r.fin.get c := rfl
  have hl : (s.ckShared k).lost c = lost := rfl
  rw [hfin, hl]
  cases r.fin.get c with
  | none =>
    dsimp only
    split
    · exact hlost
    · have hsk : (s.ckShared k).skip.get c = (s.stream k).skip.get c := rfl
      rw [hsk]
      split
      · exact hskip
      · exact hmiss
  | some d =>
    dsimp -zeta only
    split
    · exact hlost
    · split
      · extract_lets u w
        have hsent := (s.enterOutput_entry k hk c d.outs alone).then (g := fun x y => y.sent sends d.digest 0 x.seq)
          (State.sendDigestIf_entry _ k c sends d.digest 0)
        split
        · exact hsent.trans (State.sendMsg_quiet _ k hk c _ _).entry
        · exact hsent
      · exact hmiss

-- the checkpoint of a task

/-- The channels' parts in turn: each makes its own entry. -/
theorem State.checkChannels_entry (k : Nat) (hk : k < 512) (v : Nat) (sends alone : Bool) (l : List Ch) (hl : l.Nodup)
    (s : State) (h : s.NoCopy k) :
    let u := forEach l s fun s c => s.checkChannel c k v sends alone
    u.NoCopy k ∧ u.ckShared k = s.ckShared k ∧ (∀ c ∈ l, u.ckEntry k c = (s.ckShared k).checked v sends c (s.ckEntry k c)) ∧
      ∀ c ∉ l, u.ckEntry k c = s.ckEntry k c := by
  induction l generalizing s with
  | nil => exact ⟨h, rfl, fun _ hc => absurd hc List.not_mem_nil, fun _ _ => rfl⟩
  | cons c l ih =>
    obtain ⟨hc, hl⟩ := List.nodup_cons.1 hl
    obtain ⟨hcopy, hshared, hself, hother⟩ := s.checkChannel_entry k hk c v sends alone h
    obtain ⟨hcopy', hshared', hin, hout⟩ := ih hl _ hcopy
    refine ⟨hcopy', hshared'.trans hshared, fun d hd => ?_, fun d hd => ?_⟩
    · rcases List.mem_cons.1 hd with rfl | hd
      · exact (hout d hc).trans hself
      · have hdc : d ≠ c := fun h => hc (h ▸ hd)
        rw [← hother d hdc, ← hshared]
        exact hin d hd
    · rw [List.mem_cons, not_or] at hd
      exact (hout d hd.2).trans (hother d hd.1)

theorem State.computes_nodup (s : State) (k : Nat) : (s.computes k).Nodup :=
  List.Nodup.filter _ (by decide)

/-- Digests of task `k` leave at a checkpoint. -/
def State.ckSends (s : State) (k : Nat) : Bool := !s.isSplit k && (s.computes k).any s.voters.contains

/-- The checkpoint as it opens, the channels of V that do not compute the task left out of the history. -/
def State.opened (s : State) (k : Nat) : State :=
  forEach (s.voters.filter fun c => !(s.computes k).contains c) (s.openStream k (s.votesNow && s.ckSends k)) fun s c =>
    s.updStream k fun x => { x with exempt := x.exempt.set c true }

/-- What the channels share when the checkpoint has opened. -/
def State.openShared (s : State) (k : Nat) : CkShared :=
  { s.ckShared k with
    seq := (s.stream k).seq + 1, ck := some s.now, vote := Trio.all none, complete := false, voting := s.votesNow && s.ckSends k }

theorem State.opened_shared (s : State) (k : Nat) : (s.opened k).ckShared k = s.openShared k := by
  have hopen : (s.openStream k (s.votesNow && s.ckSends k)).ckShared k = s.openShared k := by
    simp only [State.openStream, State.ckShared, State.stream_updStream_self]
    rfl
  refine (forEach_eq (fun s => s.ckShared k) _ (fun u c => ?_) _ _).trans hopen
  simp only [State.ckShared, State.stream_updStream_self]
  rfl

/-- Opening a checkpoint is about its stream alone. -/
theorem State.opened_keeps {β : Type} (p : State → β) (hp : ∀ s k f, p (State.updStream s k f) = p s) (s : State) (k : Nat) :
    p (s.opened k) = p s :=
  (forEach_eq p _ (fun _ _ => hp _ _ _) _ _).trans (hp _ _ _)

theorem State.opened_noCopy (s : State) (k : Nat) (h : s.NoCopy k) : (s.opened k).NoCopy k := by
  rwa [State.NoCopy, State.opened_keeps (fun s => s.arch) (fun _ _ _ => rfl),
    State.opened_keeps (fun s => s.now) (fun _ _ _ => rfl)]

theorem State.opened_entry (s : State) (k : Nat) (c : Ch) :
    ((s.opened k).ckEntry k c).outs = (s.task k).out.get c ∧
      ((s.opened k).ckEntry k c).misses = s.g c (Obj.deadlineMisses k) :=
  ⟨State.opened_keeps (fun s => (s.task k).out.get c) (fun _ _ _ => rfl) s k,
    State.opened_keeps (fun s => s.g c (Obj.deadlineMisses k)) (fun _ _ _ => rfl) s k⟩

/-- The checkpoint after the channels' parts: hand-over, move, and the frames of objects. -/
def State.closeCheck (s : State) (k v : Nat) : State :=
  let s := (s.splitStep k).moveStep k v
  let s := s.remoteSend (s.remoteObjs.filter fun o => s.vn (Obj.taskOut k) == o)
  s.mirrorSend ((s.objEntries.filter s.isMirrored).filter fun o => s.entryWriter o == some k)

theorem State.closeCheck_record (s : State) (k v : Nat) (hk : k < 512) : Quiet (·.ckRecord k) k s (s.closeCheck k v) :=
  (((s.splitStep_record k k).trans (State.moveStep_record _ k k v hk)).trans (State.remoteSend_quiet _ k hk _).record).trans
    (State.mirrorSend_quiet _ k hk _).record

/-- The channels' parts of a checkpoint. -/
def State.checked (s : State) (k v : Nat) : State :=
  forEach (s.computes k) (s.opened k) fun u c => u.checkChannel c k v (s.ckSends k) ((s.computes k).length == 1)

theorem State.ownerFallback_of_voter (s : State) (k : Nat) (h : s.takesPart (chOf (s.task k).owner) = true) :
    s.ownerFallback k = s := by
  have hv : chOf (s.task k).owner ∈ s.voters := by
    rw [State.voters, List.mem_filter]
    exact ⟨by cases chOf (s.task k).owner <;> decide, h⟩
  unfold State.ownerFallback
  exact if_neg (by simp [hv])

theorem State.handStep_of_steady (s : State) (k : Nat) (h : ∀ n, s.taskAxis k = some n → (s.axis n).handover = 0) :
    s.handStep k = s := by
  unfold State.handStep
  split
  · rfl
  · next n hn => exact if_pos (by simp [h n hn])

theorem State.checkTask_eq (s : State) (k v : Nat) (hown : s.takesPart (chOf (s.task k).owner) = true)
    (hhand : ∀ n, s.taskAxis k = some n → (s.axis n).handover = 0) :
    s.checkTask k v = (s.checked k v).closeCheck k v := by
  unfold State.checkTask
  rw [State.ownerFallback_of_voter s k hown, State.handStep_of_steady s k hhand]
  rfl

/-- What a checkpoint leaves of its stream and of each channel that computes the task. -/
structure State.Checked (s u : State) (k v : Nat) : Prop where
  ck : (u.stream k).ck = some s.now
  seq : (u.stream k).seq = (s.stream k).seq + 1
  vote : (u.stream k).vote = Trio.all none
  complete : (u.stream k).complete = false
  voting : (u.stream k).voting = (s.votesNow && s.ckSends k)
  entry : ∀ c ∈ s.computes k, u.ckEntry k c = (s.openShared k).checked v (s.ckSends k) c ((s.opened k).ckEntry k c)

theorem State.Checked.of_shared {s u : State} {k v : Nat} (h : u.ckShared k = s.openShared k)
    (hentry : ∀ c ∈ s.computes k, u.ckEntry k c = (s.openShared k).checked v (s.ckSends k) c ((s.opened k).ckEntry k c)) :
    s.Checked u k v :=
  ⟨congrArg CkShared.ck h, congrArg CkShared.seq h, congrArg CkShared.vote h, congrArg CkShared.complete h,
    congrArg CkShared.voting h, hentry⟩

theorem State.Checked.of_record {s u w : State} {k v : Nat} (h : s.Checked u k v) (hw : w.ckRecord k = u.ckRecord k) :
    s.Checked w k v := by
  have hstream : w.stream k = u.stream k := congrArg (·.2.1) hw
  refine ⟨?_, ?_, ?_, ?_, ?_, fun c hc => (State.ckEntry_of_record hw c).trans (h.entry c hc)⟩ <;> rw [hstream]
  exacts [h.ck, h.seq, h.vote, h.complete, h.voting]

theorem State.checkTask_checked (s : State) (k v : Nat) (hk : k < 512) (hown : s.takesPart (chOf (s.task k).owner) = true)
    (hhand : ∀ n, s.taskAxis k = some n → (s.axis n).handover = 0) (hcopy : s.NoCopy k) :
    s.Checked (s.checkTask k v) k v := by
  obtain ⟨hcopy', hshared, hentry, -⟩ := State.checkChannels_entry k hk v (s.ckSends k) ((s.computes k).length == 1)
    (s.computes k) (s.computes_nodup k) (s.opened k) (s.opened_noCopy k hcopy)
  rw [State.opened_shared] at hshared hentry
  rw [State.checkTask_eq s k v hown hhand]
  exact (State.Checked.of_shared hshared hentry).of_record ((s.checked k v).closeCheck_record k v hk hcopy').2

/-- The last iteration of a role task that ends here: its start is forgotten, and the record stays. -/
theorem State.Checked.forget {s u : State} {k v : Nat} (h : s.Checked u k v) :
    s.Checked (u.updTask k fun r => { r with lastStart := none }) k v := by
  refine ⟨h.ck, h.seq, h.vote, h.complete, h.voting, fun c hc => ?_⟩
  rw [← h.entry c hc]
  simp only [State.ckEntry, State.task_updTask_self]
  rfl

-- what the entries say

section
variable (y : CkEntry) (sends : Bool) (digest flags seq : Nat)

@[simp] theorem CkEntry.sent_outs : (y.sent sends digest flags seq).outs = y.outs := by cases sends <;> rfl

@[simp] theorem CkEntry.sent_exempt : (y.sent sends digest flags seq).exempt = y.exempt := by cases sends <;> rfl

@[simp] theorem CkEntry.sent_misses : (y.sent sends digest flags seq).misses = y.misses := by cases sends <;> rfl

theorem CkEntry.sent_frame (h : sends = true) :
    (y.sent sends digest flags seq).frame = some (digest, flags, seq % 65536) := by
  rw [h]
  rfl

end

section
variable {x : CkShared} {v : Nat} {sends : Bool} {c : Ch} {y : CkEntry}

theorem CkShared.checked_good {d : Done} (hfin : x.fin.get c = some d) (hstart : d.start = v) (hfault : d.fault = false)
    (hlost : x.lost c = false) : x.checked v sends c y = { y with outs := d.outs }.sent sends d.digest 0 x.seq := by
  simp [CkShared.checked, hfin, hstart, hfault, hlost]

theorem CkShared.checked_missed (hfin : x.fin.get c = none) (hskip : x.skip.get c = false) (hlost : x.lost c = false) :
    x.checked v sends c y = { y with misses := wrapU32 (y.misses + 1) }.sent sends 0 1 x.seq := by
  simp [CkShared.checked, hfin, hskip, hlost]

theorem CkShared.checked_lost (hlost : x.lost c = true) :
    x.checked v sends c y = { y with exempt := true }.sent sends 0 1 x.seq := by
  unfold CkShared.checked
  cases x.fin.get c <;> simp [hlost]

theorem CkShared.checked_skipped (hfin : x.fin.get c = none) (hskip : x.skip.get c = true) (hlost : x.lost c = false) :
    x.checked v sends c y = { y with exempt := true }.sent sends 0 2 x.seq := by
  simp [CkShared.checked, hfin, hskip, hlost]

end

/-- Channel `c` holds its own frame of stream `k`, with this digest, these FLAGS and this number. -/
def State.holdsOwn (s : State) (k : Nat) (c : Ch) (digest flags seq : Nat) : Prop :=
  ∃ f, ((s.stream k).held.get c).get c = some f ∧ f.digest = digest ∧ f.flags = flags ∧ f.seq = seq

theorem State.holdsOwn_of_frame {s : State} {k digest flags seq : Nat} {c : Ch}
    (h : (s.ckEntry k c).frame = some (digest, flags, seq)) : s.holdsOwn k c digest flags seq := by
  obtain ⟨f, hf, he⟩ := Option.map_eq_some_iff.1 h
  simp only [Prod.mk.injEq] at he
  exact ⟨f, hf, he⟩

section
variable {s u : State} {k v : Nat} {c : Ch}

/-- The entry that a checkpoint leaves of channel `c`, read in the state. -/
theorem State.Checked.read {w : CkEntry} (h : s.Checked u k v) (hc : c ∈ s.computes k)
    (hw : (s.openShared k).checked v (s.ckSends k) c ((s.opened k).ckEntry k c) = w) : u.ckEntry k c = w :=
  (h.entry c hc).trans hw

/-- A completed good iteration enters its outputs and sends its digest. -/
theorem State.Checked.good (h : s.Checked u k v) (hc : c ∈ s.computes k) {d : Done} (hfin : (s.task k).fin.get c = some d)
    (hstart : d.start = v) (hfault : d.fault = false) (hlost : (s.ckShared k).lost c = false) :
    (u.task k).out.get c = d.outs ∧ u.g c (Obj.deadlineMisses k) = s.g c (Obj.deadlineMisses k) ∧
      (s.ckSends k = true → u.holdsOwn k c d.digest 0 (((s.stream k).seq + 1) % 65536)) := by
  have hentry := h.read hc (CkShared.checked_good hfin hstart hfault hlost)
  refine ⟨(congrArg CkEntry.outs hentry).trans (by simp), ?_, fun hs => State.holdsOwn_of_frame ?_⟩
  · exact (congrArg CkEntry.misses hentry).trans (by simpa using (s.opened_entry k c).2)
  · exact (congrArg CkEntry.frame hentry).trans (CkEntry.sent_frame _ _ _ _ _ hs)

/-- A missing iteration counts a deadline miss. -/
theorem State.Checked.missed (h : s.Checked u k v) (hc : c ∈ s.computes k) (hfin : (s.task k).fin.get c = none)
    (hskip : (s.stream k).skip.get c = false) (hlost : (s.ckShared k).lost c = false) :
    (u.task k).out.get c = (s.task k).out.get c ∧
      u.g c (Obj.deadlineMisses k) = wrapU32 (s.g c (Obj.deadlineMisses k) + 1) := by
  have hentry := h.read hc (CkShared.checked_missed hfin hskip hlost)
  obtain ⟨houts, hmisses⟩ := s.opened_entry k c
  exact ⟨(congrArg CkEntry.outs hentry).trans (by simpa using houts),
    (congrArg CkEntry.misses hentry).trans (by simp [hmisses])⟩

/-- A channel whose engine is faulty or halted is left out of the history. -/
theorem State.Checked.lost (h : s.Checked u k v) (hc : c ∈ s.computes k) (hlost : (s.ckShared k).lost c = true) :
    (u.stream k).exempt.get c = true ∧ (u.task k).out.get c = (s.task k).out.get c ∧
      u.g c (Obj.deadlineMisses k) = s.g c (Obj.deadlineMisses k) ∧
      (s.ckSends k = true → u.holdsOwn k c 0 1 (((s.stream k).seq + 1) % 65536)) := by
  have hentry := h.read hc (CkShared.checked_lost hlost)
  obtain ⟨houts, hmisses⟩ := s.opened_entry k c
  refine ⟨(congrArg CkEntry.exempt hentry).trans (by simp), (congrArg CkEntry.outs hentry).trans (by simpa using houts),
    (congrArg CkEntry.misses hentry).trans (by simpa using hmisses), fun hs => State.holdsOwn_of_frame ?_⟩
  exact (congrArg CkEntry.frame hentry).trans (CkEntry.sent_frame _ _ _ _ _ hs)

/-- A channel that skips the iteration is left out of the history. -/
theorem State.Checked.skipped (h : s.Checked u k v) (hc : c ∈ s.computes k) (hfin : (s.task k).fin.get c = none)
    (hskip : (s.stream k).skip.get c = true) (hlost : (s.ckShared k).lost c = false) :
    (u.stream k).exempt.get c = true ∧ u.g c (Obj.deadlineMisses k) = s.g c (Obj.deadlineMisses k) ∧
      (s.ckSends k = true → u.holdsOwn k c 0 2 (((s.stream k).seq + 1) % 65536)) := by
  have hentry := h.read hc (CkShared.checked_skipped hfin hskip hlost)
  refine ⟨(congrArg CkEntry.exempt hentry).trans (by simp),
    (congrArg CkEntry.misses hentry).trans (by simpa using (s.opened_entry k c).2), fun hs => State.holdsOwn_of_frame ?_⟩
  exact (congrArg CkEntry.frame hentry).trans (CkEntry.sent_frame _ _ _ _ _ hs)

end

-- CHECKPOINT

/-- What CHECKPOINT makes of the state at its time. -/
def State.checkpointed (s : State) (k : Nat) : State :=
  match s.ckStart k with
  | none => s
  | some v =>
    if s.onTwin k then s.checkTwinTask k
    else if (s.iterates k && (s.task k).lastStart.isSome && (s.stream k).ck != some s.now) then s.checkTask k v
    else if s.finishing k && (s.task k).lastStart == some v && (s.stream k).ck != some s.now then
      (s.checkTask k v).updTask k fun r => { r with lastStart := none }
    else s

theorem exec_checkpoint (t : Nat) (k : Fin 512) (s : State) :
    exec (.checkpoint t k) s = .next (s.after t ((s.upTo t).checkpointed k)) := rfl

/-- At a checkpoint instant not yet taken a task that iterates or ends here is checked. -/
theorem State.checkpointed_checked (s : State) (k v : Nat) (hk : k < 512) (hv : s.ckStart k = some v)
    (htwin : s.onTwin k = false)
    (hruns : s.iterates k = true ∧ (s.task k).lastStart.isSome = true ∨
      s.finishing k = true ∧ (s.task k).lastStart = some v)
    (hck : (s.stream k).ck ≠ some s.now) (hhand : ∀ n, s.taskAxis k = some n → (s.axis n).handover = 0)
    (hown : s.takesPart (chOf (s.task k).owner) = true) (hcopy : s.NoCopy k) : s.Checked (s.checkpointed k) k v := by
  have hchecked := s.checkTask_checked k v hk hown hhand hcopy
  have hck' : ((s.stream k).ck != some s.now) = true := by simpa using hck
  unfold State.checkpointed
  simp only [hv, htwin, hck', Bool.and_true]
  by_cases hiter : (s.iterates k && (s.task k).lastStart.isSome) = true
  · simpa [hiter] using hchecked
  · have hfinish : (s.finishing k && (s.task k).lastStart == some v) = true := by
      rcases hruns with ⟨h, h'⟩ | ⟨h, h'⟩
      · exact absurd (by simp [h, h']) hiter
      · simp [h, h']
    simpa [hiter, hfinish] using hchecked.forget

/-- Where no checkpoint is due, nothing changes. -/
theorem State.checkpointed_idle (s : State) (k : Nat)
    (h : s.ckStart k = none ∨ (s.onTwin k = true ∧ (s.task k).move = none) ∨
      (s.onTwin k = false ∧ s.iterates k = false ∧ s.finishing k = false) ∨
      (s.onTwin k = false ∧ (s.stream k).ck = some s.now)) : s.checkpointed k = s := by
  unfold State.checkpointed
  cases hv : s.ckStart k with
  | none => rfl
  | some v =>
    rcases h with h | ⟨htwin, hmove⟩ | ⟨htwin, hiter, hfinish⟩ | ⟨htwin, hck⟩
    · simp [hv] at h
    · simp [htwin, State.checkTwinTask, hmove]
    · simp [htwin, hiter, hfinish]
    · simp [htwin, hck]

-- a task on the twin

section
variable {β : Type} (p : State → β) (hturn : ∀ (s : State) x y, p { s with place := x, life := y } = p s)
  (hrotations : ∀ s c v, p (State.setC s c Obj.sliceRotations v) = p s)
  (hmax : ∀ s v, p (State.setR s Obj.rotationMax v) = p s) (hplan : ∀ s, p (State.planTrigger s 4) = p s)
include hturn hrotations hmax hplan

theorem State.endTurn_keeps (s : State) (c : Ch) : p (s.endTurn c) = p s := by
  unfold State.endTurn
  split
  · rfl
  · rw [hplan]
    unfold State.nextTurn
    extract_lets m rot w
    have hlife : ∀ (u : State) y, p { u with life := y } = p u := fun u y => hturn u u.place y
    have hclear : p (s.clearTest c) = p s := hturn s _ s.life
    split
    · split
      · exact (hlife _ _).trans hclear
      · exact (hmax _ _).trans ((hrotations _ _ _).trans ((hlife _ _).trans hclear))
    · exact (hlife _ _).trans hclear

theorem State.movesDone_keeps (s : State) : p s.movesDone = p s := by
  refine forEach_eq p _ (fun u c => ?_) _ _
  split
  · rfl
  · split
    · split
      · exact State.endTurn_keeps p hturn hrotations hmax hplan u c
      · rfl
    · split
      · exact hturn u _ _
      · rfl

end

theorem State.movesDone_tasks (s : State) : s.movesDone.tasks = s.tasks :=
  s.movesDone_keeps (fun s => s.tasks) (fun _ _ _ => rfl) (fun _ _ _ => rfl) (fun _ _ => rfl)
    fun _ => State.planTrigger_tasks ..

theorem State.movesDone_taskMoves (s : State) (k : Nat) : s.movesDone.v (Obj.taskMoves k) = s.v (Obj.taskMoves k) := by
  have hrotations : (Obj.taskMoves k).key ≠ Obj.sliceRotations.key := by
    simp only [Obj.taskMoves, Obj.sliceRotations]
    omega
  have hmax : (Obj.taskMoves k).key ≠ Obj.rotationMax.key := by
    simp only [Obj.taskMoves, Obj.rotationMax]
    omega
  exact s.movesDone_keeps (fun s => s.v (Obj.taskMoves k)) (fun _ _ _ => rfl)
    (fun _ _ _ => State.v_setC_key _ _ _ hrotations) (fun _ _ => State.v_setR_key _ _ hmax)
    fun _ => State.v_congr (State.planTrigger_regs ..) _

/-- Where a task runs. -/
def TaskRec.site (r : TaskRec) : Nat × Trio Bool × Trio Nat := (r.owner, r.computed, r.engines)

theorem State.planMove_site (s : State) (k : Nat) : ((s.planMove k).task k).site = (s.task k).site := by
  unfold State.planMove
  extract_lets r m hand out
  split
  · rfl
  · split
    · rw [State.task_updTask_self]
      rfl
    · rfl

theorem State.planMove_regs (s : State) (k : Nat) : (s.planMove k).regs = s.regs := by
  unfold State.planMove
  extract_lets r m hand out
  split
  · rfl
  · split <;> rfl

/-- The state in which a new site takes over: what its engines evict has stopped. -/
def State.madeRoom (s : State) (k : Nat) (m : TaskMove) : State :=
  forEach (Ch.all.filter m.computed.get) s fun s c => s.limitTraces k c (m.engines.get c)

theorem State.madeRoom_regs (s : State) (k : Nat) (m : TaskMove) : (s.madeRoom k m).regs = s.regs := by
  refine forEach_eq (fun s => s.regs) _ (fun u c => ?_) _ _
  unfold State.limitTraces
  split
  · exact State.stopTrace_regs ..
  · rfl

theorem State.moveSource_regs (s : State) (k : Nat) : (s.moveSource k).2.regs = s.regs := by
  unfold State.moveSource
  split <;> rfl

/-- The new site, before its move is counted. -/
def State.resited (s : State) (k : Nat) (m : TaskMove) : State :=
  let w := s.madeRoom k m
  (w.moveSource k).2.updTask k fun r =>
    { r with
      st := ⟨if r.computed.a then r.st.a else (w.moveSource k).1, if r.computed.b then r.st.b else (w.moveSource k).1,
        if r.computed.c then r.st.c else (w.moveSource k).1⟩
      owner := m.owner, computed := m.computed, engines := m.engines, move := none, fallback := false }

theorem State.takeOver_eq (s : State) (k : Nat) (m : TaskMove) :
    s.takeOver k m = (((s.resited k m).bumpR (Obj.taskMoves k)).planMove k).movesDone := rfl

theorem State.takeOver_site (s : State) (k : Nat) (m : TaskMove) :
    ((s.takeOver k m).task k).site = (m.owner, m.computed, m.engines) := by
  rw [State.takeOver_eq, State.task, State.movesDone_tasks, ← State.task, State.planMove_site, State.task,
    State.bumpR_tasks, ← State.task, State.resited, State.task_updTask_self]
  rfl

theorem State.takeOver_taskMoves (s : State) (k : Nat) (m : TaskMove) :
    (s.takeOver k m).v (Obj.taskMoves k) = wrapU32 (s.v (Obj.taskMoves k) + 1) := by
  have hregs : (s.resited k m).regs = s.regs := (State.moveSource_regs _ k).trans (s.madeRoom_regs k m)
  rw [State.takeOver_eq, State.movesDone_taskMoves, State.v_congr (State.planMove_regs _ k), State.bumpR,
    State.v_setR_self, State.v_congr hregs]
  rfl

theorem State.checkpointed_twin (s : State) (k v : Nat) (m : TaskMove) (hv : s.ckStart k = some v)
    (htwin : s.onTwin k = true) (hmove : (s.task k).move = some m) (hown : m.owner < 3) :
    s.checkpointed k =
      if m.copied then s.takeOver k m else s.updTask k fun r => { r with move := some { m with copied := true } } := by
  have howner : (s.task k).owner = 3 := by
    simp only [State.onTwin, Bool.and_eq_true, beq_iff_eq] at htwin
    exact htwin.2
  unfold State.checkpointed
  simp only [hv, htwin, if_true, State.checkTwinTask, hmove]
  exact if_pos ⟨hown, howner⟩

-- DIGEST_FRAME

/-- What DIGEST_FRAME makes of the state at its time, where the receiver lives and the frame has a path. -/
def State.reportArms (s : State) (rx tx : Ch) (armrb : Nat) : State :=
  if rx = tx.next then forEach (upto 4) s fun s b => s.updArm tx b fun x => { x with reported := bit (armrb : Int) b } else s

/-- A digest frame is held where it comes for the open checkpoint. -/
def State.holdFrame (s : State) (rx tx : Ch) (k : Nat) (f : DigFrame) : State :=
  match (s.stream k).ck with
  | some ck =>
    if s.takesPart rx && s.now ≤ ck + us && f.seq == (s.stream k).seq % 65536 then
      s.updStream k fun x => { x with held := x.held.upd rx fun h => h.set tx (some f) }
    else s
  | none => s

theorem exec_digestFrame (t : Nat) (rx tx : Ch) (k : Fin 514) (f : DigFrame) (s : State) :
    exec (.digestFrame t rx tx k f) s = .next (s.after t
      (if rx == tx || !(s.upTo t).arch.alive.get rx || !(s.upTo t).strapPath rx tx then s.upTo t
        else ((s.upTo t).reportArms rx tx f.armrb).holdFrame rx tx k f)) := rfl

/-- Reported arms are all that a report changes. -/
theorem State.reportArms_keeps {β : Type} (p : State → β) (hp : ∀ s c n f, p (State.updArm s c n f) = p s) (s : State)
    (rx tx : Ch) (armrb : Nat) : p (s.reportArms rx tx armrb) = p s := by
  unfold State.reportArms
  split
  · exact forEach_eq p _ (fun _ _ => hp _ _ _ _) _ _
  · rfl

theorem State.arm_updArm_ne (s : State) (c : Ch) {n m : Nat} (f : Arm → Arm) (h : m ≠ n) :
    (s.updArm c n f).arm c m = s.arm c m := by
  simp [State.arm, State.updArm, Tbl.getD_modify_ne _ _ _ _ h]

theorem State.forEach_reported (s : State) (tx : Ch) (armrb : Nat) (l : List Nat) (b : Nat)
    (h : b ∈ l ∨ (s.arm tx b).reported = bit (armrb : Int) b) :
    ((forEach l s fun s b => s.updArm tx b fun x => { x with reported := bit (armrb : Int) b }).arm tx b).reported =
      bit (armrb : Int) b := by
  induction l generalizing s with
  | nil => simpa [forEach] using h
  | cons a l ih =>
    refine ih _ ?_
    by_cases hab : b = a
    · subst hab
      exact .inr (congrArg Arm.reported (State.arm_updArm_self s tx b _))
    · refine h.imp (fun hm => (List.mem_cons.1 hm).resolve_left hab) fun hr => ?_
      rwa [State.arm_updArm_ne _ _ _ hab]

theorem State.reportArms_reported (s : State) (tx : Ch) (armrb b : Nat) (hb : b < 4) :
    ((s.reportArms tx.next tx armrb).arm tx b).reported = bit (armrb : Int) b := by
  unfold State.reportArms
  rw [if_pos rfl]
  exact State.forEach_reported s tx armrb _ b (.inl (by simpa [upto] using hb))

theorem State.holdFrame_regs (s : State) (rx tx : Ch) (k : Nat) (f : DigFrame) : (s.holdFrame rx tx k f).regs = s.regs := by
  unfold State.holdFrame
  split
  · split <;> rfl
  · rfl

theorem State.holdFrame_arms (s : State) (rx tx : Ch) (k : Nat) (f : DigFrame) : (s.holdFrame rx tx k f).arms = s.arms := by
  unfold State.holdFrame
  split
  · split <;> rfl
  · rfl

theorem State.holdFrame_held (s : State) (rx tx : Ch) (k : Nat) (f : DigFrame) (ck : Nat) (hck : (s.stream k).ck = some ck) :
    (((s.holdFrame rx tx k f).stream k).held.get rx).get tx =
      if s.takesPart rx = true ∧ s.now ≤ ck + 300 ∧ f.seq = (s.stream k).seq % 65536 then some f
      else ((s.stream k).held.get rx).get tx := by
  have hus : us = 300 := rfl
  have hopen : (s.takesPart rx && s.now ≤ ck + us && f.seq == (s.stream k).seq % 65536) = true ↔
      s.takesPart rx = true ∧ s.now ≤ ck + 300 ∧ f.seq = (s.stream k).seq % 65536 := by
    simp only [Bool.and_eq_true, decide_eq_true_eq, beq_iff_eq, and_assoc, ← hus]
  unfold State.holdFrame
  simp only [hck, hopen]
  split
  · rw [State.stream_updStream_self]
    simp
  · rfl

-- the statement

/-- The first part of O46: the checkpoint of a task of this device. -/
theorem checkpoint_opens (t v : Nat) (k : Fin 512) (s : State) (hv : (s.upTo t).ckStart k = some v) (htwin : s.onTwin k = false)
    (hruns : s.iterates k = true ∧ (s.task k).lastStart.isSome = true ∨
      s.finishing k = true ∧ (s.task k).lastStart = some v)
    (hck : (s.stream k).ck ≠ some (max s.now t)) (hhand : ∀ n, s.taskAxis k = some n → (s.axis n).handover = 0)
    (hown : s.takesPart (chOf (s.task k).owner) = true)
    (hcopy : ∀ m ∈ s.arch.queue, m.arrived (max s.now t) = true → m.body.isCopy k = false) :
    ∃ u, exec (.checkpoint t k) s = .next (s.after t u) ∧ (s.upTo t).Checked u k v :=
  ⟨_, exec_checkpoint t k s, State.checkpointed_checked (s.upTo t) k v k.2 hv htwin hruns hck hhand hown hcopy⟩

/-- The second part of O46: a move from the twin. -/
theorem checkpoint_moves_from_twin (t v : Nat) (k : Fin 512) (m : TaskMove) (s : State) (hv : (s.upTo t).ckStart k = some v)
    (htwin : s.onTwin k = true) (hmove : (s.task k).move = some m) (hown : m.owner < 3) :
    (m.copied = false → ∃ u, exec (.checkpoint t k) s = .next (s.after t u) ∧
      (u.task k).move = some { m with copied := true } ∧ u.regs = s.regs) ∧
    (m.copied = true → ∃ u, exec (.checkpoint t k) s = .next (s.after t u) ∧ (u.task k).owner = m.owner ∧
      (u.task k).computed = m.computed ∧ (u.task k).engines = m.engines ∧
      u.v (Obj.taskMoves k) = wrapU32 (s.v (Obj.taskMoves k) + 1)) := by
  rw [exec_checkpoint, State.checkpointed_twin (s.upTo t) k v m hv htwin hmove hown]
  refine ⟨fun hcopied => ⟨(s.upTo t).updTask k fun r => { r with move := some { m with copied := true } }, ?_, ?_, rfl⟩,
    fun hcopied => ⟨(s.upTo t).takeOver k m, ?_, ?_⟩⟩
  · rw [if_neg (by simp [hcopied])]
  · rw [State.task_updTask_self]
  · rw [if_pos hcopied]
  · have hsite := (s.upTo t).takeOver_site k m
    simp only [TaskRec.site, Prod.mk.injEq] at hsite
    obtain ⟨howner, hcomputed, hengines⟩ := hsite
    exact ⟨howner, hcomputed, hengines, (s.upTo t).takeOver_taskMoves k m⟩

/-- The third part of O46: a digest frame with a path. -/
theorem digestFrame_held (t : Nat) (rx tx : Ch) (k : Fin 514) (f : DigFrame) (s : State) (hne : rx ≠ tx)
    (halive : s.arch.alive.get rx = true) (hpath : s.strapPath rx tx = true) :
    ∃ u, exec (.digestFrame t rx tx k f) s = .next (s.after t u) ∧ u.regs = s.regs ∧
      (rx = tx.next → ∀ b < 4, (u.arm tx b).reported = bit (f.armrb : Int) b) ∧
      (rx ≠ tx.next → u.arms = s.arms) ∧
      (∀ ck, (s.stream k).ck = some ck → ((u.stream k).held.get rx).get tx =
        (if s.takesPart rx = true ∧ max s.now t ≤ ck + 300 ∧ f.seq = (s.stream k).seq % 65536 then some f
          else ((s.stream k).held.get rx).get tx)) := by
  have hstream := State.reportArms_keeps (fun s => s.stream k) (fun _ _ _ _ => rfl) (s.upTo t) rx tx f.armrb
  have hpart := State.reportArms_keeps (fun s => s.takesPart rx) (fun _ _ _ _ => rfl) (s.upTo t) rx tx f.armrb
  have hnow := State.reportArms_keeps (fun s => s.now) (fun _ _ _ _ => rfl) (s.upTo t) rx tx f.armrb
  refine ⟨((s.upTo t).reportArms rx tx f.armrb).holdFrame rx tx k f, ?_, ?_, ?_, ?_, fun ck hck => ?_⟩
  · rw [exec_digestFrame, if_neg]
    simp [hne, halive, hpath]
  · exact (State.holdFrame_regs _ rx tx k f).trans
      (State.reportArms_keeps (fun s => s.regs) (fun _ _ _ _ => rfl) (s.upTo t) rx tx f.armrb)
  · rintro rfl b hb
    rw [State.arm, State.holdFrame_arms, ← State.arm]
    exact State.reportArms_reported _ tx f.armrb b hb
  · intro hrx
    rw [State.holdFrame_arms, State.reportArms, if_neg hrx]
    rfl
  · rw [State.holdFrame_held _ rx tx k f ck (hstream ▸ hck), hstream, hpart, hnow]
    rfl

/-- Settles O46: the channels' parts in turn make the entries, each its own, and what follows them keeps the record. -/
theorem checkpointsOpenTheVote : Obligations.CheckpointsOpenTheVote := by
  refine ⟨fun t v k s hv htwin hruns hck hhand hown hcopy => ?_, fun t k s => ⟨fun v m hv htwin hmove hm => ?_, fun hidle => ?_⟩,
    fun t rx tx k f s => ⟨fun hne halive hpath => digestFrame_held t rx tx k f s hne halive hpath, fun hno => ?_⟩⟩
  · obtain ⟨u, hexec, hu⟩ := checkpoint_opens t v k s hv htwin hruns hck hhand hown hcopy
    refine ⟨u, hexec, hu.ck, hu.seq, fun c => ?_, hu.complete, hu.voting, fun c hc lost sends hlost hsends => ?_⟩
    · rw [hu.vote]
      cases c <;> rfl
    · subst hsends
      have hl : ((s.upTo t).ckShared k).lost c = lost := hlost.symm
      refine ⟨fun d hfin hstart hfault hno => hu.good hc hfin hstart hfault (hl.trans hno),
        fun hfin hskip hno => hu.missed hc hfin hskip (hl.trans hno), fun hyes => ?_, fun hfin hskip hno => ?_⟩
      · obtain ⟨hexempt, hout, hmisses, hframe⟩ := hu.lost hc (hl.trans hyes)
        refine ⟨hexempt, hout, hmisses, fun hs => ?_⟩
        obtain ⟨f, hf, -, hflags, -⟩ := hframe hs
        exact ⟨f, hf, hflags⟩
      · obtain ⟨hexempt, hmisses, hframe⟩ := hu.skipped hc hfin hskip (hl.trans hno)
        refine ⟨hexempt, hmisses, fun hs => ?_⟩
        obtain ⟨f, hf, -, hflags, -⟩ := hframe hs
        exact ⟨f, hf, hflags⟩
  · exact checkpoint_moves_from_twin t v k m s hv htwin hmove hm
  · rw [exec_checkpoint, State.checkpointed_idle (s.upTo t) k hidle]
  · rw [exec_digestFrame, if_pos]
    rcases hno with h | h | h <;> simp [h]

end Sys2Proof.Machine

end

section
/-! ## A bank swap with a write that its own answer overwrites (R72, R88, R380)

A write due at a boundary takes effect, and is answered. Over the proxy stream the answer is a message of the fabric, and each
channel that finds no lane for it counts it in FAB_NO_ROUTE: a waiting write of that count does not leave its value. -/

namespace Sys2Proof.Machine

/-- A request of node 1 over the proxy stream, held by every channel: a write of 0 to FAB_NO_ROUTE. -/
def countWrite : KdpReq :=
  { carrier := .proxy, frame := kdpBytes 2 7 1 0 0xA010 3 0 0 [0, 0, 0, 0], holders := Trio.all true, first := 0, agreed := 0
    src := 1 }

/-- Node 1 of the fabric, in NOMINAL and without a lane, with that write due. -/
def countWriteDue : State :=
  { State.reset with
    arch := { State.reset.arch with alive := Trio.all true, started := Trio.all true }
    red := { State.reset.red with state := .nominal, inV := Trio.all true, reachedDual := true }
    fab := { State.reset.fab with addr := 1 }
    kdp := { State.reset.kdp with writes := [{ req := countWrite, due := 0, members := [(Obj.fabNoRoute.key, .num 0)] }] } }

/-- FAB_NO_ROUTE is an object of the device whose role gives a write no other effect. -/
theorem entry_fabNoRoute : Obj.fabNoRoute.isEntry .fabNoRoute 0 0 0 .ro .sum = true := by decide +kernel

/-- The write sets the count to 0, and the answer then counts once in every channel. -/
theorem bankSwap_countWriteDue : ∃ s, exec (.bankSwap 0 0) countWriteDue = .next s ∧ s.v Obj.fabNoRoute = 1 :=
  ⟨_, rfl, by decide +kernel⟩

/-- Refutes O39: a due write of FAB_NO_ROUTE, which the model takes for a plain object, is overwritten by the count of its own
answer over the proxy stream (`countWriteDue`), and so BANK_SWAP does not leave the object at the value. -/
theorem not_supervisionBankSwapsAndTraces : ¬ Obligations.SupervisionBankSwapsAndTraces := by
  unfold Obligations.SupervisionBankSwapsAndTraces
  rintro ⟨⟨-, -, hwrite⟩, -⟩
  obtain ⟨e, hfind, hrole, -, -, -, hobj, hkey, -, hhome⟩ := Obj.isEntry_elim entry_fabNoRoute
  have hplain : e.plain = true := by simp [Entry.plain, hrole]
  have hentry : entryOf e.key = some e := by rw [hkey]; exact hfind
  have hwrites : countWriteDue.kdp.writes = [{ req := countWrite, due := 0, members := [(e.key, .num 0)] }] := by
    rw [hkey]; rfl
  obtain ⟨u, hexec, -, hvalue, -⟩ := hwrite 0 0 countWrite 0 e 0 countWriteDue hwrites hentry hplain (Nat.zero_le _) rfl
  obtain ⟨s, hexec', hcount⟩ := bankSwap_countWriteDue
  have hs : s = countWriteDue.after 0 u := Host.Outcome.next.inj (hexec'.symm.trans hexec)
  have hkept : s.v Obj.fabNoRoute = u.v Obj.fabNoRoute := by
    rw [hs]
    exact State.after_v _ _ _ (by unfold Obj.offFollow; decide)
  have hzero : u.v Obj.fabNoRoute = 0 := hobj ▸ hvalue (by simp [hhome])
  omega

end Sys2Proof.Machine

end

section
/-! ## What does not read the KDP state

What an object reads as and what a write is checked against stay when the requests, transfers, waiting writes or stalled requests
change (`State.updKdp g`); of the checks only those on STORE_ALL ask whether a store runs (R83), and take that it stays. -/

namespace Sys2Proof.Machine
variable (s a : State) (g h : Kdp → Kdp) (c : Ch) (cr : Carrier) (e : Entry) (x : Int) (i : PlanIn)

-- What the placement of tasks reads (R294, R298).

theorem State.updKdp_enabledTasks : (s.updKdp g).enabledTasks = s.enabledTasks := rfl
theorem State.updKdp_writersOf : (s.updKdp g).writersOf = s.writersOf := rfl
theorem State.updKdp_readersOf : (s.updKdp g).readersOf = s.readersOf := rfl
theorem State.updKdp_posForceLoop : (s.updKdp g).posForceLoop = s.posForceLoop := rfl

theorem State.updKdp_objRate : (s.updKdp g).objRate = s.objRate := by
  funext o
  unfold State.objRate
  rw [State.updKdp_writersOf]
  cases s.writersOf o <;> rfl

theorem State.updKdp_oneEngine : (s.updKdp g).oneEngine = s.oneEngine := by
  funext d c o
  unfold State.oneEngine
  rw [State.updKdp_writersOf, State.updKdp_readersOf]

theorem State.updKdp_isForceAxis : (s.updKdp g).isForceAxis = s.isForceAxis := by
  funext n
  unfold State.isForceAxis
  rw [State.updKdp_posForceLoop]
  cases s.posForceLoop n <;> rfl

theorem State.updKdp_isDq : (s.updKdp g).isDq = s.isDq := rfl
theorem State.updKdp_dqSlot : (s.updKdp g).dqSlot = s.dqSlot := rfl
theorem State.updKdp_load : (s.updKdp g).load = s.load := rfl
theorem State.updKdp_objSize : (s.updKdp g).objSize = s.objSize := rfl

theorem State.updKdp_sensingOk : (s.updKdp g).sensingOk = s.sensingOk := by
  funext c b
  unfold State.sensingOk
  rw [State.updKdp_enabledTasks, State.updKdp_isDq, State.updKdp_dqSlot]
  generalize List.find? _ s.enabledTasks = pair
  cases pair <;> rfl

theorem State.updKdp_remoteLoad : (s.updKdp g).remoteLoad = s.remoteLoad := by
  funext tw
  unfold State.remoteLoad
  rw [State.updKdp_objRate]
  rfl

theorem State.updKdp_roomInEngine : (s.updKdp g).roomInEngine = s.roomInEngine := by
  funext i d r o
  unfold State.roomInEngine
  rw [State.updKdp_oneEngine, State.updKdp_writersOf, State.updKdp_readersOf, State.updKdp_load, State.updKdp_objSize]

theorem State.updKdp_twinAdmits : (s.updKdp g).twinAdmits = s.twinAdmits := by
  funext d k
  unfold State.twinAdmits
  rw [State.updKdp_remoteLoad]
  rfl

theorem State.updKdp_planTask : (s.updKdp g).planTask i = s.planTask i := by
  funext d k
  unfold State.planTask
  rw [State.updKdp_twinAdmits]
  rfl

theorem State.updKdp_placeObj : (s.updKdp g).placeObj i = s.placeObj i := by
  funext d r o
  unfold State.placeObj
  rw [State.updKdp_roomInEngine, State.updKdp_oneEngine]
  rfl

theorem State.updKdp_placeObjs : (s.updKdp g).placeObjs i = s.placeObjs i := by
  funext d os
  unfold State.placeObjs
  rw [State.updKdp_placeObj]
  rfl

theorem State.updKdp_finish : (s.updKdp g).finish i = s.finish i := by
  funext d
  unfold State.finish
  rw [State.updKdp_placeObjs]
  rfl

-- What the configuration must satisfy (R61, R72).

theorem State.updKdp_staticPlan : (s.updKdp g).staticPlan = s.staticPlan := by
  unfold State.staticPlan
  simp only [State.updKdp_finish, State.updKdp_planTask]
  rfl

theorem State.updKdp_staticStill : (s.updKdp g).staticStill = s.staticStill := by
  unfold State.staticStill
  rw [State.updKdp_staticPlan]
  rfl

theorem State.updKdp_bindingOk : (s.updKdp g).bindingOk = s.bindingOk := by
  funext c n
  unfold State.bindingOk
  rw [State.updKdp_sensingOk]
  rfl

theorem State.updKdp_forceMembersOk : (s.updKdp g).forceMembersOk = s.forceMembersOk := by
  funext n
  unfold State.forceMembersOk
  rw [State.updKdp_isForceAxis]
  rfl

theorem State.updKdp_relationOk : (s.updKdp g).relationOk e = s.relationOk e := by
  unfold State.relationOk
  simp only [State.updKdp_bindingOk, State.updKdp_sensingOk, State.updKdp_forceMembersOk]
  rfl

-- The checks of a write (R61, R72, R83).

theorem State.updKdp_deviceFails :
    (s.updKdp g).deviceFails (a.updKdp h) cr e x = s.deviceFails a cr e x := by
  unfold State.deviceFails
  simp only [State.updKdp_staticStill]
  rfl

theorem State.updKdp_twinFails : (s.updKdp g).twinFails (a.updKdp h) e = s.twinFails a e := rfl
theorem State.updKdp_enterFails (v : Val) : (s.updKdp g).enterFails cr v = s.enterFails cr v := rfl
theorem State.updKdp_canBarred : (s.updKdp g).canBarred cr = s.canBarred cr := rfl

theorem State.updKdp_valueFails (v : Val) :
    (s.updKdp g).valueFails (a.updKdp h) cr e v = s.valueFails a cr e v := by
  unfold State.valueFails
  simp only [State.updKdp_relationOk, State.updKdp_deviceFails]
  rfl

theorem State.updKdp_accessFails (n : Nat) (hg : (g s.kdp).store = s.kdp.store) :
    (s.updKdp g).accessFails cr e n = s.accessFails cr e n := by
  have hs : (s.updKdp g).kdp.store = s.kdp.store := hg
  unfold State.accessFails
  rw [hs]
  rfl

theorem State.updKdp_lcFails (hg : (g s.kdp).store = s.kdp.store) :
    (s.updKdp g).lcFails cr x = s.lcFails cr x := by
  have hs : (s.updKdp g).kdp.store = s.kdp.store := hg
  unfold State.lcFails
  rw [hs]
  rfl

theorem State.updKdp_writeFails (v : Val) (n : Nat) (hg : (g s.kdp).store = s.kdp.store) :
    (s.updKdp g).writeFails (a.updKdp h) cr e v n = s.writeFails a cr e v n := by
  unfold State.writeFails
  simp only [State.updKdp_accessFails s g cr e n hg, State.updKdp_lcFails s g cr _ hg, State.updKdp_valueFails,
    State.updKdp_twinFails, State.updKdp_enterFails, State.updKdp_canBarred]

-- What an object reads as.

theorem State.updKdp_viewStr : (s.updKdp g).viewStr c e = s.viewStr c e := rfl
theorem State.updKdp_domainBytes : (s.updKdp g).domainBytes e = s.domainBytes e := rfl
theorem State.updKdp_configDigest : (s.updKdp g).configDigest = s.configDigest := rfl

theorem State.updKdp_rawSet (v : Val) : (s.updKdp g).rawSet e v = (s.rawSet e v).updKdp g := by
  cases v with
  | num x =>
    unfold State.rawSet
    dsimp only
    split <;> rfl
  | bytes b => rfl

-- The steps that an output port has still to count (R165) leave the KDP state as it is.

theorem forEach_updKdp {α : Type} {f : State → α → State} (hf : ∀ s y, f (s.updKdp g) y = (f s y).updKdp g) (l : List α)
    (s : State) :
    forEach l (s.updKdp g) f = (forEach l s f).updKdp g := by
  unfold forEach
  induction l generalizing s with
  | nil => rfl
  | cons y l ih => exact (congrArg (fun u => l.foldl f u) (hf s y)).trans (ih _)

theorem State.updKdp_moveRaw (y : Src) (raw : Int) : (s.updKdp g).moveRaw y raw = (s.moveRaw y raw).updKdp g := by
  unfold State.moveRaw
  dsimp only
  rw [apply_ite (fun u => State.updKdp u g)]
  rfl


theorem State.updKdp_fireEntry (n m : Nat) : (s.updKdp g).fireEntry c n m = (s.fireEntry c n m).updKdp g := by
  have hp : (s.updKdp g).fport c n = s.fport c n := rfl
  have hn : (s.updKdp g).now = s.now := rfl
  unfold State.fireEntry
  dsimp only
  rw [hp]
  cases (s.fport c n).pulse with
  | none => rfl
  | some p =>
    dsimp only
    rw [hn]
    by_cases hm : s.now + 6 < p.2
    · simp only [hm, decide_true, ↓reduceIte]
      rfl
    · simp only [hm, decide_false, Bool.false_eq_true, ↓reduceIte]
      rfl

theorem State.updKdp_fireAll (n : Nat) (old : Int) :
    (s.updKdp g).fireAll c n old = (s.fireAll c n old).updKdp g := by
  have hv : (s.updKdp g).cmpValue c n = s.cmpValue c n := rfl
  have ht : (s.updKdp g).cmpTaken c n = s.cmpTaken c n := rfl
  unfold State.fireAll
  dsimp only
  rw [hv, ht]
  split
  · rfl
  · refine forEach_updKdp g (fun u m => ?_) _ s
    rw [State.updKdp_fireEntry]
    exact (apply_ite (fun u => State.updKdp u g) _ _ _).symm

theorem State.updKdp_count1 (n : Nat) (d : Int) : (s.updKdp g).count1 c n d = (s.count1 c n d).updKdp g :=
  (congrArg (State.fireAll · c n (s.cmpValue c n))
    (State.updKdp_moveRaw (s.updFport c n fun x => { x with raw64 := x.raw64 + d }) g (.port, c, n) _)).trans
    (State.updKdp_fireAll _ g c n _)

theorem State.updKdp_settlePort (n : Nat) : (s.updKdp g).settlePort c n = (s.settlePort c n).updKdp g := by
  have hp : (s.updKdp g).fport c n = s.fport c n := rfl
  have hn : (s.updKdp g).now = s.now := rfl
  unfold State.settlePort
  dsimp only
  rw [hp, hn]
  split
  · rfl
  · rw [forEach_updKdp (s := s) g fun u y =>
      State.updKdp_count1 (State.updFport { u with now := y } c n fun x => { x with lastStep := some y }) g c n
        (if (s.fport c n).dirUp then 1 else -1)]
    rfl

theorem State.updKdp_limitOf (n : Nat) : (s.updKdp g).limitOf c n = s.limitOf c n := rfl

theorem State.updKdp_axCurrentStatusNow (n : Nat) :
    (s.updKdp g).axCurrentStatusNow c n = s.axCurrentStatusNow c n := by
  unfold State.axCurrentStatusNow
  rw [State.updKdp_limitOf]
  cases s.limitOf c n <;> rfl

theorem State.updKdp_view : (s.updKdp g).view c e = s.view c e := by
  unfold State.view
  simp only [State.updKdp_settlePort, State.updKdp_configDigest, State.updKdp_axCurrentStatusNow]
  rfl

theorem State.updKdp_readBytes : (s.updKdp g).readBytes e = s.readBytes e := by
  unfold State.readBytes State.readNum
  simp only [State.updKdp_view, State.updKdp_viewStr, State.updKdp_domainBytes]
  rfl

end Sys2Proof.Machine

end

section
/-! ## Stalled and proxied requests (R85, R88) -/

namespace Sys2Proof.Machine

/-- A frame without bytes is no request. -/
theorem parseKdp_isEmpty {l : List Byte} {f : KdpFrame} (h : parseKdp l = some f) : l.isEmpty = false := by
  cases l with
  | nil => simp [parseKdp] at h
  | cons => rfl

/-- A request found in a list has a frame that parses. -/
theorem findReq_frame {l : List KdpReq} {cr : Carrier} {tid : Nat} {p : KdpFrame → Bool} {r : KdpReq} {f : KdpFrame}
    (h : findReq l cr tid p = some (r, f)) : parseKdp r.frame = some f := by
  obtain ⟨y, -, hy⟩ := List.exists_of_findSome?_eq_some h
  split at hy
  · split at hy
    case h_1 heq =>
      split at hy
      · obtain ⟨rfl, rfl⟩ := Prod.mk.inj (Option.some.inj hy)
        exact heq
      · cases hy
    · cases hy
  · cases hy

/-- A stalled request that is found is of the carrier, its frame parses, and its entries wait as was asked. -/
theorem State.stalledReq_some {s : State} {cr : Carrier} {tid : Nat} {waits : Bool} {x : KdpStall} {f : KdpFrame}
    (h : s.stalledReq cr tid waits = some (x, f)) :
    x.req.carrier = cr ∧ parseKdp x.req.frame = some f ∧ f.entries.any s.mustWake = waits := by
  obtain ⟨y, -, hy⟩ := List.exists_of_findSome?_eq_some h
  split at hy
  case isTrue hc =>
    split at hy
    case h_1 heq =>
      split at hy
      case isTrue hw =>
        obtain ⟨rfl, rfl⟩ := Prod.mk.inj (Option.some.inj hy)
        simp only [Bool.and_eq_true, beq_iff_eq] at hc hw
        exact ⟨hc.1, heq, hw⟩
      · cases hy
    · cases hy
  · cases hy

/-- An answered request has its response among what is sent (R65, R66). -/
theorem State.respond_gives (s : State) (r : KdpReq) (code detail : Nat) (last : Bool) (l : List Byte)
    (hr : r.frame.isEmpty = false) : (s.respond r code detail last l).gives r code detail last l :=
  State.respond_sent s r code detail last l none hr

/-- An aborted request has its abort among what is sent. -/
theorem State.abort_gives (s : State) (r : KdpReq) (a : Abort) (hr : r.frame.isEmpty = false) :
    (s.abort r a).gives r a.1 a.2 false [] := by
  unfold State.abort
  exact State.respond_gives _ r a.1 a.2 false [] hr

/-- An abort leaves the requests open, of which it may close transfers. -/
theorem State.abort_kdp (s : State) (r : KdpReq) (a : Abort) :
    ∃ l tr, (s.abort r a).kdp = { s.kdp with answered := l, transfers := tr } := by
  unfold State.abort
  split
  · obtain ⟨l, hl⟩ := State.respond_kdp (s.closeTransfers r.carrier r.index r.sub) r a.1 a.2 false [] none
    exact ⟨l, _, hl⟩
  · obtain ⟨l, hl⟩ := State.respond_kdp s r a.1 a.2 false [] none
    exact ⟨l, s.kdp.transfers, hl⟩

/-- An abort moves no power. -/
theorem State.abort_power (s : State) (r : KdpReq) (a : Abort) : (s.abort r a).power = s.power := by
  unfold State.abort
  rw [State.respond_power]
  split <;> rfl

/-- What a read clears is no request. -/
@[simp] theorem State.afterRead_kdp (s : State) (e : Entry) : (s.afterRead e).kdp = s.kdp := by
  unfold State.afterRead
  dsimp only
  split <;> rfl

/-- A wrong password is no request. -/
@[simp] theorem State.wrongPassword_kdp (s : State) : s.wrongPassword.kdp = s.kdp := by
  unfold State.wrongPassword
  dsimp only
  split <;> rfl

/-- A read of an object that passes every check answers its bytes (R61, R76). -/
theorem State.serveRead_answers {s : State} {r : KdpReq} {f : KdpFrame} {e : Entry} {l : List Byte}
    (he : findObj f.index f.sub = some e) (hf : firstAbort (s.readFails e) = none) (hd : f.data = []) (ht : e.desc.ty ≠ .domain)
    (hw : s.mustWake e = false) (hb : s.readBytes e = some l) (hl : l.length ≤ 8) :
    s.serveRead r f = (s.respond r 0 0 false l).afterRead e := by
  have hbig : (e.desc.ty == .domain || !f.data.isEmpty || decide (8 < ((some l).getD []).length)) = false := by
    simp [ht, hd, hl]
  unfold State.serveRead
  simp only [he, hb]
  rw [hbig, failIf, if_neg (by simp), List.append_nil, hf]
  simp only [hw, Bool.false_eq_true, if_false]

/-- A read of one object names that object. -/
theorem KdpFrame.entries_read {f : KdpFrame} {e : Entry} (hs : f.service = 1) (he : findObj f.index f.sub = some e) :
    f.entries = [e] := by
  simp [KdpFrame.entries, hs, he]

/-- `s` without the stalled request `x`. -/
def State.unstall (s : State) (x : KdpStall) : State := s.updKdp fun k => { k with stalled := k.stalled.erase x }

/-- A write that a check refuses is answered with the abort, and waits nowhere (R72). -/
theorem State.submit_refused {s : State} {r : KdpReq} {e : Entry} {v : Val} {t : Nat} {a : Abort}
    (hf : s.writeFails (s.rawSet e v) r.carrier e v 1 = some a) (hr : r.frame.isEmpty = false) :
    (s.submit r e v t).gives r a.1 a.2 false [] ∧
      ∃ l tr, (s.submit r e v t).kdp = { s.kdp with answered := l, transfers := tr } := by
  unfold State.submit
  rw [hf]
  refine ⟨State.abort_gives _ r a hr, ?_⟩
  obtain ⟨l, tr, hk⟩ := State.abort_kdp (if (e.desc.role == .pwEnter && a == (0x0606, 0) && (s.enterFails r.carrier v).2) = true
    then s.wrongPassword else s) r a
  refine ⟨l, tr, hk.trans ?_⟩
  split
  · rw [State.wrongPassword_kdp]
  · rfl

/-- A write that passes every check, of an awake domain, waits for an instant that lies later (R72). -/
theorem State.submit_waits {s : State} {r : KdpReq} {e : Entry} {v : Val} {t : Nat}
    (hf : s.writeFails (s.rawSet e v) r.carrier e v 1 = none) (hw : s.mustWake e = false) (hd : s.now < s.dueOf e t) :
    s.submit r e v t =
      s.updKdp fun k => { k with writes := k.writes ++ [{ req := r, due := s.dueOf e t, members := [(e.key, v)] }] } := by
  unfold State.submit
  rw [hf]
  dsimp only
  rw [hw, if_neg (by simp), State.enqueue, if_neg (by simpa using hd)]
  rfl

section
variable {t : Nat} {cr : Carrier} {tid : Nat} {s : State}

/-- KDP_STALL_RESUME of a stalled request that waits for nothing (R85). -/
theorem exec_kdpStallResume_of_stalled {x : KdpStall} {f : KdpFrame} (h : (s.upTo t).stalledReq cr tid false = some (x, f)) :
    exec (.kdpStallResume t cr tid) s = .next (s.after t (((s.upTo t).unstall x).continueReq x f)) := by
  show execKdpStallResume t cr tid s = _
  unfold execKdpStallResume State.run
  dsimp only
  rw [h]
  rfl

/-- KDP_WAKE_TIMEOUT of a stalled request whose wake takes too long (R85). -/
theorem exec_kdpWakeTimeout_of_stalled {x : KdpStall} {f : KdpFrame} (h : (s.upTo t).stalledReq cr tid true = some (x, f))
    (hlate : x.req.agreed + s.vn Obj.kdpTimeout * ms ≤ max s.now t) :
    exec (.kdpWakeTimeout t cr tid) s = .next (s.after t (((s.upTo t).unstall x).abort x.req (0x060A, 0))) := by
  show execKdpWakeTimeout t cr tid s = _
  unfold execKdpWakeTimeout State.run
  dsimp only
  rw [h]
  exact congrArg (fun u => Host.Outcome.next (s.after t u)) (if_pos hlate)

variable {r : KdpReq} {f : KdpFrame}

/-- `s` without the forwarded request `r`. -/
def State.unproxy (s : State) (r : KdpReq) : State := s.updKdp fun k => { k with proxied := k.proxied.erase r }

/-- KDP_PROXY_RESPONSE of a forwarded request (R88). -/
theorem exec_kdpProxyResponse_of_proxied (code detail : Nat) (last : Bool) (data : List Byte)
    (h : findReq s.kdp.proxied cr tid (fun _ => true) = some (r, f)) :
    exec (.kdpProxyResponse t cr tid code detail last data) s =
      .next (s.after t (((s.upTo t).unproxy r).respond r code detail last data)) := by
  have h' : findReq (s.upTo t).kdp.proxied cr tid (fun _ => true) = some (r, f) := h
  show execKdpProxyResponse t cr tid code detail last data s = _
  unfold execKdpProxyResponse State.run
  dsimp only
  rw [h']
  rfl

/-- KDP_PROXY_TIMEOUT of a forwarded request whose target does not answer (R88). -/
theorem exec_kdpProxyTimeout_of_proxied (h : findReq s.kdp.proxied cr tid (fun _ => true) = some (r, f))
    (hlate : r.agreed + s.vn Obj.kdpTimeout * ms ≤ max s.now t) :
    exec (.kdpProxyTimeout t cr tid) s = .next (s.after t (((s.upTo t).unproxy r).abort r (0x0608, 0x11))) := by
  have h' : findReq (s.upTo t).kdp.proxied cr tid (fun _ => true) = some (r, f) := h
  show execKdpProxyTimeout t cr tid s = _
  unfold execKdpProxyTimeout State.run
  dsimp only
  rw [h']
  exact congrArg (fun u => Host.Outcome.next (s.after t u)) (if_pos hlate)

/-- A stalled read that goes on answers the bytes of its object (R61, R85). -/
theorem State.unstall_reads {u : State} {x : KdpStall} {e : Entry} {l : List Byte} (hne : x.req.frame.isEmpty = false)
    (hnone : x.write = none) (hread : f.service = 1) (he : findObj f.index f.sub = some e)
    (hfails : firstAbort (u.readFails e) = none) (hdata : f.data = []) (hdom : e.desc.ty ≠ .domain)
    (hwake : u.mustWake e = false) (hb : u.readBytes e = some l) (hl : l.length ≤ 8) :
    ((u.unstall x).continueReq x f).kdp.stalled = u.kdp.stalled.erase x ∧
      ((u.unstall x).continueReq x f).gives x.req 0 0 false l := by
  have hserve : (u.unstall x).continueReq x f = ((u.unstall x).respond x.req 0 0 false l).afterRead e := by
    unfold State.continueReq State.executeReq
    rw [hnone, hread]
    exact State.serveRead_answers he hfails hdata hdom hwake ((State.updKdp_readBytes _ _ e).trans hb) hl
  rw [hserve]
  constructor
  · obtain ⟨a, ha⟩ := State.respond_kdp (u.unstall x) x.req 0 0 false l none
    rw [State.afterRead_kdp, ha]
    rfl
  · unfold State.gives
    rw [State.afterRead_sent]
    exact State.respond_gives _ x.req 0 0 false l hne

/-- A stalled write that goes on is submitted with its whole value (R85). -/
theorem State.unstall_submits {u : State} {x : KdpStall} {e : Entry} {v : Val} (hwrite : x.write = some (e.key, v))
    (he : entryOf e.key = some e) :
    (u.unstall x).continueReq x f = (u.unstall x).submit x.req e v (max (x.req.agreed + 1) u.now) := by
  unfold State.continueReq
  rw [hwrite]
  dsimp only
  rw [he]
  rfl

/-- The checks of a write do not depend on what is stalled. -/
theorem State.unstall_writeFails (u : State) (x : KdpStall) (cr : Carrier) (e : Entry) (v : Val) :
    (u.unstall x).writeFails ((u.unstall x).rawSet e v) cr e v 1 = u.writeFails (u.rawSet e v) cr e v 1 := by
  unfold State.unstall
  rw [State.updKdp_rawSet]
  exact State.updKdp_writeFails _ _ _ _ _ e v 1 rfl

end

/-- Settles O23: what a request reads and is checked against is not the KDP state, so a stalled request taken from the list is
executed as in the state before. -/
theorem stalledAndProxiedRequestsEnd : Obligations.StalledAndProxiedRequestsEnd := by
  unfold Obligations.StalledAndProxiedRequestsEnd
  refine ⟨fun t cr tid x f s hx => ?_, fun t cr tid x f s hx hlate => ?_, fun t cr tid code detail last data r f s hr => ?_,
    fun t cr tid r f s hr hlate => ?_⟩
  · obtain ⟨hcr, hframe, hawake⟩ := State.stalledReq_some hx
    have hne := parseKdp_isEmpty hframe
    have hexec := exec_kdpStallResume_of_stalled hx
    refine ⟨fun e l hnone hread he hfails hdata hdom hb hl => ?_, fun hnone => ⟨_, hexec, ?_⟩,
      fun e v hwrite he hcarrier hwake => ⟨fun a ha => ⟨_, hexec, ?_⟩, fun ha hlater => ⟨_, hexec, ?_⟩⟩⟩
    · rw [KdpFrame.entries_read hread he, List.any_cons, List.any_nil, Bool.or_false] at hawake
      exact ⟨_, hexec, State.unstall_reads hne hnone hread he hfails hdata hdom hawake hb hl⟩
    · unfold State.continueReq
      rw [hnone]
      rfl
    all_goals
      have hchecks := State.unstall_writeFails (s.upTo t) x cr e v
      rw [← hcr] at hchecks ha
      rw [State.unstall_submits hwrite he]
    · obtain ⟨hgives, l, tr, hk⟩ := State.submit_refused (t := max (x.req.agreed + 1) (s.upTo t).now) (hchecks.trans ha) hne
      rw [hk]
      exact ⟨rfl, hgives, rfl⟩
    · rw [State.submit_waits (t := max (x.req.agreed + 1) (s.upTo t).now) (hchecks.trans ha) hwake hlater]
      exact ⟨rfl, rfl, rfl⟩
  · have hne := parseKdp_isEmpty (State.stalledReq_some hx).2.1
    obtain ⟨l, tr, hk⟩ := State.abort_kdp ((s.upTo t).unstall x) x.req (0x060A, 0)
    refine ⟨_, exec_kdpWakeTimeout_of_stalled hx hlate, ?_, State.abort_gives _ _ _ hne, State.abort_power _ _ _⟩
    rw [hk]
    rfl
  · obtain ⟨a, ha⟩ := State.respond_kdp ((s.upTo t).unproxy r) r code detail last data none
    refine ⟨_, exec_kdpProxyResponse_of_proxied code detail last data hr, ?_,
      State.respond_gives _ _ _ _ _ _ (parseKdp_isEmpty (findReq_frame hr))⟩
    rw [ha]
    rfl
  · obtain ⟨l, tr, hk⟩ := State.abort_kdp ((s.upTo t).unproxy r) r (0x0608, 0x11)
    refine ⟨_, exec_kdpProxyTimeout_of_proxied hr hlate, ?_, State.abort_gives _ _ _ (parseKdp_isEmpty (findReq_frame hr))⟩
    rw [hk]
    rfl

end Sys2Proof.Machine

end

section
/-! ## From copies to an agreed request (R68, R69, R70) -/

namespace Sys2Proof.Machine

/-- What a response that leaves on channels changes: what is sent, counts of the fabric, and the count of the aborts. -/
theorem State.sendResponse_keeps {β : Type} (p : State → β) (hs : ∀ s x, p (State.send s x) = p s)
    (ht : ∀ s c n d l, p (State.sendTo s c n d l) = p s) (hb : ∀ s c, p (State.bumpC s c Obj.kdpAbortsSent) = p s) (s : State)
    (r : KdpReq) (who : Trio Bool) (code detail : Nat) (last : Bool) (data : List Byte) (tag : Nat) :
    p (s.sendResponse r who code detail last data tag) = p s := by
  have hbump : ∀ l : List Ch, p (if code = 0 then s else forEach l s fun s c => s.bumpC c Obj.kdpAbortsSent) = p s := by
    intro l
    split
    · rfl
    · exact forEach_eq p (fun s c => s.bumpC c Obj.kdpAbortsSent) hb l s
  unfold State.sendResponse
  dsimp only
  split
  · rw [forEach_eq p _ (fun s (f : Ch × List Byte) => ht s f.1 _ r.src f.2), hs, hbump]
  · rw [hs, hbump]

@[simp] theorem State.sendResponse_kdp (s : State) (r : KdpReq) (who : Trio Bool) (code detail : Nat) (last : Bool)
    (data : List Byte) (tag : Nat) : (s.sendResponse r who code detail last data tag).kdp = s.kdp :=
  State.sendResponse_keeps (fun s => s.kdp) (fun _ _ => rfl) (fun _ _ _ _ _ => State.sendTo_kdp ..) (fun _ _ => rfl) ..

theorem State.sendResponse_g (s : State) (r : KdpReq) (who : Trio Bool) (code detail : Nat) (last : Bool) (data : List Byte)
    (tag : Nat) (c : Ch) {o : Obj} (h : o.unanswered) : (s.sendResponse r who code detail last data tag).g c o = s.g c o :=
  State.sendResponse_keeps (fun s => s.g c o) (fun _ _ => rfl) (fun _ _ _ _ _ => State.sendTo_g _ _ _ _ _ _ _ h.1 h.2.1)
    (fun _ _ => State.g_setC_key _ _ _ _ h.2.2) ..

/-- A response that leaves on channels is among what is sent (R65, R66). -/
theorem State.sendResponse_gives (s : State) (r : KdpReq) (who : Trio Bool) (code detail : Nat) (last : Bool) (data : List Byte)
    (tag : Nat) : (s.sendResponse r who code detail last data tag).gives r code detail last data := by
  unfold State.gives State.sendResponse
  dsimp only
  split
  · exact ⟨_, _, _, forEach_mem_sent _ (fun _ _ _ h => State.sendTo_sent _ _ _ _ _ h) _ _ (List.mem_cons_self ..)⟩
  · exact ⟨_, _, _, List.mem_cons_self ..⟩

/-- Dropped copies are no longer held. -/
theorem State.copiesOf_eq_nil {s u : State} {cr : Carrier} {frame : List Byte}
    (h : u.kdp.copies = (s.dropCopies cr frame).kdp.copies) :
    u.copiesOf cr frame = [] := by
  unfold State.copiesOf
  rw [h]
  simp [State.dropCopies, State.updKdp]

/-- Without copies of a frame no window of it ends. -/
theorem State.expireCopies_nil {s : State} {cr : Carrier} {frame : List Byte} (h : s.copiesOf cr frame = []) :
    s.expireCopies cr frame = s := by
  unfold State.expireCopies
  simp [h]

/-- Copies that are dropped with a count and an abort (R68). -/
theorem State.refuseCopies {s u : State} (hcopies : u.kdp.copies = s.kdp.copies) (hregs : u.regs = s.regs) {r : KdpReq}
    (who : Trio Bool) (tag : Nat) {w : State} (hw : w =
      ((u.dropCopies r.carrier r.frame).bumpC .chA Obj.kdpAgreeFailures).sendResponse r who 0x060B 1 false [] tag) :
    w.copiesOf r.carrier r.frame = [] ∧ w.g .chA Obj.kdpAgreeFailures = wrapU32 (s.g .chA Obj.kdpAgreeFailures + 1) ∧
      w.answers r.carrier r.tid 0x060B 1 := by
  subst hw
  refine ⟨State.copiesOf_eq_nil (s := s) ?_, ?_, ?_⟩
  · rw [State.sendResponse_kdp]
    exact congrArg (List.filter _) hcopies
  · rw [State.sendResponse_g _ _ _ _ _ _ _ _ _ (by unfold Obj.unanswered; decide), State.bumpC, State.g_setC_self]
    exact congrArg (fun x => wrapU32 (x + 1)) (State.g_congr hregs _ _)
  · obtain ⟨who, tag, frames, h⟩ := State.sendResponse_gives
      ((u.dropCopies r.carrier r.frame).bumpC .chA Obj.kdpAgreeFailures) r who 0x060B 1 false [] tag
    exact ⟨who, tag, false, [], frames, h⟩

/-- A window that ends without a majority drops the copies, counts, and answers an abort (R68). -/
theorem State.expireCopies_expires {s : State} {cr : Carrier} {frame : List Byte} (hne : s.copiesOf cr frame ≠ [])
    (hmaj : s.isMajority (s.copyHolders (s.copiesOf cr frame)) = false)
    (hlate : firstCopy (s.copiesOf cr frame) + s.vn Obj.kdpCopyWindow * us ≤ s.now) :
    (s.expireCopies cr frame).copiesOf cr frame = [] ∧
      (s.expireCopies cr frame).g .chA Obj.kdpAgreeFailures = wrapU32 (s.g .chA Obj.kdpAgreeFailures + 1) ∧
      (s.expireCopies cr frame).answers cr (bytesAt frame 2 2) 0x060B 1 := by
  have hgo : ((s.copiesOf cr frame).isEmpty || s.isMajority (s.copyHolders (s.copiesOf cr frame)) ||
      decide (s.now < firstCopy (s.copiesOf cr frame) + s.vn Obj.kdpCopyWindow * us)) = false := by
    simp [hne, hmaj, hlate]
  unfold State.expireCopies
  dsimp only
  rw [if_neg (by simp [hgo])]
  split
  · exact State.refuseCopies (s := s) (u := s.closeTransfers ..) rfl rfl _ _ rfl
  · exact State.refuseCopies (s := s) (u := s) rfl rfl _ _ rfl

/-- The request of the copies held of a frame from a carrier, agreed at `t` (R68). -/
def State.copiesReq (s : State) (cr : Carrier) (frame : List Byte) (t : Nat) : KdpReq :=
  { carrier := cr, frame := frame, holders := s.copyHolders (s.copiesOf cr frame), first := firstCopy (s.copiesOf cr frame)
    agreed := t, src := firstSrc (s.copiesOf cr frame) }

/-- KDP_REQUEST_AGREED with copies of a majority (R68). -/
theorem exec_kdpRequestAgreed_majority {t : Nat} {cr : Carrier} {frame : List Byte} {f : KdpFrame} {s : State}
    (hf : parseKdp frame = some f) (hne : s.copiesOf cr frame ≠ [])
    (hmaj : s.isMajority (s.copyHolders (s.copiesOf cr frame)) = true) (hr : s.receives = true) :
    exec (.kdpRequestAgreed t cr frame) s = .next (s.after t
      ((((s.upTo t).dropCopies cr frame).noteHeard cr).acceptReq (s.copiesReq cr frame (max s.now t)) f)) := by
  have hgo : ((s.copiesOf cr frame).isEmpty || !s.isMajority (s.copyHolders (s.copiesOf cr frame)) || !s.receives) = false := by
    simp [hne, hmaj, hr]
  show execKdpRequestAgreed t cr frame s = _
  unfold execKdpRequestAgreed State.run
  dsimp only
  rw [hf]
  exact congrArg (fun u => Host.Outcome.next (s.after t u)) (if_neg (Bool.eq_false_iff.1 hgo))

section
variable {s : State} {r : KdpReq} {f : KdpFrame}

/-- A request that comes before DUAL, and is no early read, is aborted (R75). -/
theorem State.acceptReq_early (h : s.red.reachedDual = false) (he : earlyRequest f = false) :
    s.acceptReq r f = s.abort r (0x060C, 0x20) := by
  unfold State.acceptReq
  simp [h, he]

/-- A request for this device is ready for execution (R68). -/
theorem State.acceptReq_ready (h : s.red.reachedDual = true ∨ earlyRequest f = true)
    (ht : f.target = 0 ∨ f.target = s.fab.addr) :
    s.acceptReq r f = s.updKdp fun k => { k with ready := k.ready ++ [r] } := by
  unfold State.acceptReq
  rw [if_neg (by rcases h with h | h <;> simp [h]), if_neg (by rcases ht with h | h <;> simp [h])]

/-- A request for another node is one to forward (R88). -/
theorem State.acceptReq_other (h : s.red.reachedDual = true ∨ earlyRequest f = true) (h0 : f.target ≠ 0)
    (ht : f.target ≠ s.fab.addr) :
    s.acceptReq r f = s.forwardReq r f := by
  unfold State.acceptReq
  rw [if_neg (by rcases h with h | h <;> simp [h]), if_pos ⟨h0, ht⟩]

/-- A request for another node is aborted without the proxy or a route (R88). -/
theorem State.forwardReq_refused (h : s.v Obj.kdpProxyEnable = 0 ∨ s.hasRoute f.target = false) :
    s.forwardReq r f = s.abort r (0x0608, 0x10) := by
  unfold State.forwardReq
  rw [if_pos h]

/-- A request that is forwarded is open until its target answers (R88). -/
theorem State.forwardReq_kdp (hp : s.v Obj.kdpProxyEnable ≠ 0) (hr : s.hasRoute f.target = true) :
    (s.forwardReq r f).kdp = { s.kdp with proxied := s.kdp.proxied ++ [r] } := by
  unfold State.forwardReq
  rw [if_neg (by simp [hp, hr])]
  exact congrArg (fun k : Kdp => { k with proxied := k.proxied ++ [r] })
    (forEach_eq (fun s => s.kdp) _ (fun _ _ => State.sendTo_kdp ..) _ _)

end

/-- That a request has come leaves the routes as they are. -/
@[simp] theorem State.noteHeard_hasRoute (s : State) (cr : Carrier) (n : Nat) : (s.noteHeard cr).hasRoute n = s.hasRoute n := by
  unfold State.noteHeard
  split <;> rfl

section
variable {t : Nat} {cr : Carrier} {c : Ch} {h : FrameHdr} {frame : List Byte} {s : State}

/-- A copy that its lane takes passes to the checks of its frame (R69, R86, R91). -/
theorem exec_kdpRequestCopy_taken (hreach : s.reach cr c = true) (htakes : s.kdpTakes cr h = true)
    (hfits : s.frameFits cr frame.length = true) :
    exec (.kdpRequestCopy t cr c h frame) s = .next (s.after t (match parseKdp frame with
      | none => (s.upTo t).bumpC c Obj.kdpFramesDiscarded
      | some _ => (s.upTo t).takeCopy cr c (if cr = .proxy then h.port else 0) frame)) := by
  have hgo : (!s.reach cr c || !s.kdpTakes cr h || !s.frameFits cr frame.length) = false := by
    simp [hreach, htakes, hfits]
  show execKdpRequestCopy t cr c h frame s = _
  unfold execKdpRequestCopy State.run
  exact congrArg (fun u => Host.Outcome.next (s.after t u)) (if_neg (Bool.eq_false_iff.1 hgo))

variable {src : Nat} {a : KdpResp}

/-- The digest of a copy goes to the other channels (R68). -/
def State.sendCopyDigest (s : State) (c : Ch) (frame : List Byte) : State := s.send (.strap c .digest (leBytes 4 (crc32c frame)))

/-- The answered request that a copy of channel `c` comes late for (R70). -/
def State.lateOf (s : State) (cr : Carrier) (c : Ch) (frame : List Byte) : Option KdpResp :=
  s.kdp.answered.find? fun a => s.isLate a.req cr c frame

/-- A late copy of an answered request gets its answer from its channel (R70). -/
theorem State.takeCopy_late (hnil : s.copiesOf cr frame = [])
    (ha : s.lateOf cr c frame = some a) :
    (s.takeCopy cr c src frame).kdp.copies = s.kdp.copies ∧
      (s.takeCopy cr c src frame).gives a.req a.code a.detail a.last a.data := by
  have ha' : (s.sendCopyDigest c frame).lateOf cr c frame = some a := ha
  unfold State.takeCopy
  rw [State.expireCopies_nil hnil]
  dsimp only
  unfold State.lateOf State.sendCopyDigest at ha'
  rw [ha']
  dsimp only
  refine ⟨?_, State.sendResponse_gives ..⟩
  rw [State.sendResponse_kdp]
  rfl

/-- A repeat within the replay time gets the stored answer, and is counted (R71). -/
theorem State.takeCopy_replay (hnil : s.copiesOf cr frame = [])
    (hlate : s.lateOf cr c frame = none) (ha : s.replayOf cr frame = some a) :
    (s.takeCopy cr c src frame).kdp = s.kdp ∧ (s.takeCopy cr c src frame).gives a.req a.code a.detail a.last a.data ∧
      (s.takeCopy cr c src frame).g c Obj.kdpReplays = wrapU32 (s.g c Obj.kdpReplays + 1) := by
  have hlate' : (s.sendCopyDigest c frame).lateOf cr c frame = none := hlate
  have ha' : (s.sendCopyDigest c frame).replayOf cr frame = some a := ha
  unfold State.takeCopy
  rw [State.expireCopies_nil hnil]
  dsimp only
  unfold State.lateOf State.sendCopyDigest at hlate'
  unfold State.sendCopyDigest at ha'
  rw [hlate']
  dsimp only
  rw [ha']
  dsimp only
  refine ⟨?_, State.sendResponse_gives .., ?_⟩
  · rw [State.sendResponse_kdp]
    rfl
  · rw [State.sendResponse_g _ _ _ _ _ _ _ _ _ (by unfold Obj.unanswered; decide), State.bumpC, State.g_setC_self]
    rfl

/-- A copy of which nothing is known is held (R68). -/
theorem State.takeCopy_new (hnil : s.copiesOf cr frame = [])
    (hlate : s.lateOf cr c frame = none) (hreplay : s.replayOf cr frame = none)
    (hopen : s.inProgress cr frame = false) :
    s.takeCopy cr c src frame = (s.sendCopyDigest c frame).updKdp fun k => { k with copies := k.copies ++
      [{ carrier := cr, chan := c, frame := frame, at_ := s.now, src := src }] } := by
  have hlate' : (s.sendCopyDigest c frame).lateOf cr c frame = none := hlate
  have hreplay' : (s.sendCopyDigest c frame).replayOf cr frame = none := hreplay
  have hopen' : (s.sendCopyDigest c frame).inProgress cr frame = false := hopen
  have hnil' : (s.sendCopyDigest c frame).copiesOf cr frame = [] := hnil
  unfold State.takeCopy
  rw [State.expireCopies_nil hnil]
  dsimp only
  unfold State.sendCopyDigest at *
  unfold State.lateOf at hlate'
  rw [hlate']
  dsimp only
  rw [hreplay']
  dsimp only
  rw [hopen', hnil', if_neg (by simp), if_neg (by simp)]
  rfl

end

/-- Settles O19: a copy by its frame checks and what is known of its frame, an agreed request by its target, and a window that
ends without a majority. -/
theorem copiesBecomeARequest : Obligations.CopiesBecomeARequest := by
  unfold Obligations.CopiesBecomeARequest
  refine ⟨fun t cr c h frame s hreach htakes hfits => ?_, fun t cr frame f s hf hne hmaj hrec => ?_,
    fun t cr frame s hne hmaj hlate => ⟨_, rfl, State.expireCopies_expires (s := s.upTo t) hne hmaj hlate⟩⟩
  · have hexec := exec_kdpRequestCopy_taken (t := t) hreach htakes hfits
    refine ⟨fun hnone => ?_, fun hsome hnil => ?_⟩
    · rw [hnone] at hexec
      exact ⟨_, hexec, rfl, State.g_setC_self ..⟩
    · obtain ⟨f, hf⟩ := Option.isSome_iff_exists.1 hsome
      rw [hf] at hexec
      refine ⟨fun a ha => ⟨_, hexec, State.takeCopy_late (s := s.upTo t) hnil ha⟩,
        fun hlate => ⟨fun a ha => ⟨_, hexec, State.takeCopy_replay (s := s.upTo t) hnil hlate ha⟩,
          fun hreplay hopen => ⟨_, hexec, ?_⟩⟩⟩
      dsimp only
      rw [State.takeCopy_new (s := s.upTo t) hnil hlate hreplay hopen]
      exact ⟨rfl, rfl, rfl⟩
  · refine ⟨s.copiesReq cr frame (max s.now t), rfl, rfl, rfl, rfl, rfl, fun hdual hearly => ?_,
      fun hdual => ⟨fun htarget => ?_, fun h0 htarget => ⟨fun hno => ?_, fun hp hroute => ?_⟩⟩⟩
    all_goals
      have hexec := exec_kdpRequestAgreed_majority (t := t) hf hne hmaj hrec
      have hframe : (s.copiesReq cr frame (max s.now t)).frame.isEmpty = false := parseKdp_isEmpty hf
      generalize hr : s.copiesReq cr frame (max s.now t) = r at hexec hframe
      generalize hw : ((s.upTo t).dropCopies cr frame).noteHeard cr = w at hexec
      have hred : w.red = s.red := by rw [← hw, State.noteHeard_red]; rfl
      have hfab : w.fab = s.fab := by rw [← hw, State.noteHeard_fab]; rfl
      have hregs : w.regs = s.regs := by rw [← hw, State.noteHeard_regs]; rfl
      have hsent : w.sent = s.sent := by rw [← hw, State.noteHeard_sent]; rfl
      have hkdp : w.kdp = (s.dropCopies cr frame).kdp := by rw [← hw, State.noteHeard_kdp]; rfl
      have hroutes : w.hasRoute f.target = (s.upTo t).hasRoute f.target := by rw [← hw, State.noteHeard_hasRoute]; rfl
    · rw [State.acceptReq_early (by rw [hred]; exact hdual) hearly] at hexec
      obtain ⟨l, tr, hk⟩ := State.abort_kdp w r (0x060C, 0x20)
      rw [hkdp] at hk
      exact ⟨_, hexec, State.copiesOf_eq_nil (s := s) (by rw [hk]), by rw [hk]; rfl, State.abort_gives _ _ _ hframe⟩
    · rw [State.acceptReq_ready (by rw [hred]; exact hdual) (by rw [hfab]; exact htarget)] at hexec
      have hk : (w.updKdp fun k => { k with ready := k.ready ++ [r] }).kdp = { w.kdp with ready := w.kdp.ready ++ [r] } := rfl
      rw [hkdp] at hk
      exact ⟨_, hexec, by rw [hk]; rfl, State.copiesOf_eq_nil (s := s) (by rw [hk]), hregs, hsent⟩
    all_goals rw [State.acceptReq_other (by rw [hred]; exact hdual) h0 (by rw [hfab]; exact htarget)] at hexec
    · rw [State.forwardReq_refused (by rw [State.v_congr hregs, hroutes]; exact hno)] at hexec
      obtain ⟨l, tr, hk⟩ := State.abort_kdp w r (0x0608, 0x10)
      rw [hkdp] at hk
      exact ⟨_, hexec, State.copiesOf_eq_nil (s := s) (by rw [hk]), State.abort_gives _ _ _ hframe⟩
    · have hk := State.forwardReq_kdp (s := w) (r := r) (f := f) (by rw [State.v_congr hregs]; exact hp)
        (by rw [hroutes]; exact hroute)
      rw [hkdp] at hk
      exact ⟨_, hexec, State.copiesOf_eq_nil (s := s) (by rw [hk]), by rw [hk]; rfl, by rw [hk]; rfl⟩

end Sys2Proof.Machine

end

section
/-! ## The entries that a write of a number holds (R56, R59, R61) -/

namespace Sys2Proof.Machine

/-- The parts of the dictionary. -/
def dicts : List (List Desc) :=
  [dictA, dictB, dictC, dictD, dictE, dictF, dictG, dictH, dictI, dictJ, dictK, dictL, dictM, dictN, dictO, dictP, dictQ, []]

theorem ite_mem {α : Type} {l : List α} {p : Prop} [Decidable p] {a b : α} (ha : a ∈ l) (hb : b ∈ l) :
    (if p then a else b) ∈ l := by
  split <;> assumption

/-- An index is looked for in one of the parts. -/
theorem dictFor_mem (idx : Nat) : dictFor idx ∈ dicts := by
  unfold dictFor dicts
  repeat' apply ite_mem
  all_goals simp only [List.mem_cons, true_or, or_true]

/-- The entries of a descriptor: at each of its numbers, and at each subindex. -/
def Desc.entries (d : Desc) : List Entry :=
  (upto d.n1).flatMap fun i => (upto d.n2).flatMap fun j => (upto d.n3).flatMap fun k => (upto d.nsub).map fun m =>
    ⟨d, i, j, k, m, (d.base + i * d.s1 + j * d.s2 + k * d.s3) * 256 + (d.sub + m)⟩

/-- What the numbers at which a descriptor covers an index say of it. -/
theorem Desc.inst_eq_some {d : Desc} {idx i j k : Nat} (h : d.inst idx = some (i, j, k)) :
    i < d.n1 ∧ j < d.n2 ∧ k < d.n3 ∧ idx = d.base + i * d.s1 + j * d.s2 + k * d.s3 := by
  unfold Desc.inst at h
  dsimp only at h
  split at h
  case isTrue hc =>
    obtain ⟨hb, hi, hj, hk, hz⟩ := hc
    simp only [Option.some.injEq, Prod.mk.injEq] at h
    obtain ⟨rfl, rfl, rfl⟩ := h
    refine ⟨hi, hj, hk, ?_⟩
    have h1 := Nat.div_add_mod (idx - d.base) d.s1
    have h2 := Nat.div_add_mod ((idx - d.base) % d.s1) d.s2
    have h3 := Nat.div_add_mod ((idx - d.base) % d.s1 % d.s2) d.s3
    rw [hz] at h3
    rw [Nat.mul_comm] at h1 h2 h3
    omega
  · cases h

/-- What is found among descriptors is an entry of one of them. -/
theorem findIn_mem {idx sub : Nat} {e : Entry} {l : List Desc} (h : findIn idx sub l = some e) :
    e.desc ∈ l ∧ e ∈ e.desc.entries ∧ e.key = idx * 256 + sub := by
  induction l with
  | nil => cases h
  | cons d l ih =>
    have hrest : findIn idx sub l = some e → e.desc ∈ d :: l ∧ e ∈ e.desc.entries ∧ e.key = idx * 256 + sub := fun h =>
      ⟨List.mem_cons_of_mem _ (ih h).1, (ih h).2⟩
    unfold findIn at h
    split at h
    case h_1 i j k hinst =>
      split at h
      case isTrue hs =>
        obtain rfl := Option.some.inj h
        obtain ⟨hi, hj, hk, hidx⟩ := Desc.inst_eq_some hinst
        refine ⟨List.mem_cons_self .., ?_, rfl⟩
        simp only [Desc.entries, List.mem_flatMap, List.mem_map]
        refine ⟨i, List.mem_range.2 hi, j, List.mem_range.2 hj, k, List.mem_range.2 hk, sub - d.sub,
          List.mem_range.2 (by omega), ?_⟩
        rw [← hidx, Nat.add_sub_cancel' hs.1]
      · exact hrest h
    · exact hrest h

/-- What is found in the dictionary is an entry of one of its descriptors, or the count of a record (R56). -/
theorem findObj_mem {idx sub : Nat} {e : Entry} (h : findObj idx sub = some e) :
    (e.desc ∈ dicts.flatten ∧ e ∈ e.desc.entries) ∨ e.desc.role = .count := by
  unfold findObj at h
  split at h
  case h_1 hfind =>
    obtain rfl := Option.some.inj h
    obtain ⟨hd, he, -⟩ := findIn_mem hfind
    exact .inl ⟨List.mem_flatten.2 ⟨_, dictFor_mem idx, hd⟩, he⟩
  · split at h
    · obtain rfl := Option.some.inj h
      exact .inr rfl
    · cases h

/-- The object that the effect of a write of a number names, where the role has an effect of its own. -/
def Entry.named (e : Entry) : Obj :=
  match e.desc.role with
  | .hostLaneEnable => Obj.hostLaneEnable
  | .cyclicEnable => Obj.cyclicEnable e.i
  | .asEnable => Obj.asEnable e.i
  | .taskEnable => Obj.taskEnable e.i
  | .taskPin => Obj.taskPin e.i
  | .intFrac => Obj.intFrac e.i
  | .bankSelect => Obj.bankSelect e.i
  | .utilCap => Obj.utilCap
  | .engineMinScore => Obj.engineMinScore
  | .twinPlaceEnable => Obj.twinPlaceEnable
  | .axRedundMode => Obj.axRedundMode e.i
  | .axFbSource => Obj.axFbSource e.i
  | .pgTarget => Obj.pgTarget e.i
  | .cvEnable => Obj.cvEnable (chOf e.i) e.j
  | .sincOrder => Obj.sincOrder (chOf e.i) e.j
  | .decimRatio => Obj.decimRatio (chOf e.i) e.j
  | .cvSlotBind => Obj.cvSlotBind (chOf e.i) e.j
  | .diagScanMask => Obj.diagScanMask (chOf e.i) e.j
  | .fpMode => Obj.fpMode (chOf e.i) e.j
  | .fpInvert => Obj.fpInvert (chOf e.i) e.j
  | .cmpPosition => Obj.cmpPosition (chOf e.i) e.j e.m
  | .resEnable => Obj.resEnable (chOf e.i) e.j
  | .spMode => Obj.spMode (chOf e.i) e.j
  | .bsMode => Obj.bsMode (chOf e.i) e.j
  | .pwmTop => Obj.pwmTop (chOf e.i) e.j
  | .pwmPhase => Obj.pwmPhase (chOf e.i) e.j
  | .siMode => Obj.siMode e.i
  | .plRequest => Obj.plRequest (chOf e.i)
  | .domainMode => Obj.domainMode e.i
  | .fabNodeAddr => Obj.fabNodeAddr
  | .fabLaneEnable => Obj.fabLaneEnable
  | .sparePair0 => Obj.sparePair0
  | .sparePair1 => Obj.sparePair1
  | .debugPermit => Obj.debugPermit
  | .sedTraceRate => Obj.sedTraceRate
  | _ => e.obj

/-- The roles of R61's objects with one value, of which a write has another effect and sets the object. -/
def replHeld : List Role :=
  [.hostLaneEnable, .cyclicEnable, .asEnable, .taskEnable, .taskPin, .intFrac, .bankSelect, .utilCap, .engineMinScore,
    .twinPlaceEnable, .axRedundMode, .axFbSource, .pgTarget] ++
  [.siMode, .plRequest, .domainMode, .fabNodeAddr, .fabLaneEnable, .sparePair0, .sparePair1, .debugPermit, .sedTraceRate,
    .sedTraceNode]

/-- The roles of such objects with a copy of each channel's own. -/
def chanHeld : List Role :=
  [.cvEnable, .sincOrder, .decimRatio, .cvSlotBind, .diagScanMask, .fpMode, .fpInvert, .cmpPosition, .resEnable, .spMode, .bsMode,
    .pwmTop, .pwmPhase]

/-- The dictionary has the model's objects at those roles, with their defaults and homes. -/
theorem dicts_named : (dicts.flatten.all fun d =>
    (!(replHeld.contains d.role) || d.home == .repl && d.entries.all fun e => e.named == e.obj) &&
      (!(chanHeld.contains d.role) || d.home == .chan && d.entries.all fun e => e.named == e.obj)) = true := by
  decide +kernel

section
variable {idx sub : Nat} {e : Entry}

/-- An entry at a role with one value names its object, which has one value. -/
theorem Entry.named_repl (h : findObj idx sub = some e) (hr : replHeld.contains e.desc.role = true) :
    e.desc.home = .repl ∧ e.named = e.obj := by
  rcases findObj_mem h with ⟨hd, he⟩ | hcount
  · have hall := List.all_eq_true.1 dicts_named _ hd
    simp only [hr, Bool.not_true, Bool.false_or, Bool.and_eq_true, beq_iff_eq] at hall
    exact ⟨hall.1.1, by simpa using List.all_eq_true.1 hall.1.2 _ he⟩
  · rw [hcount] at hr
    exact absurd hr (by decide)

/-- An entry at a role with copies of the channels names its object, which has such copies. -/
theorem Entry.named_chan (h : findObj idx sub = some e) (hr : chanHeld.contains e.desc.role = true) :
    e.desc.home = .chan ∧ e.named = e.obj := by
  rcases findObj_mem h with ⟨hd, he⟩ | hcount
  · have hall := List.all_eq_true.1 dicts_named _ hd
    simp only [hr, Bool.not_true, Bool.false_or, Bool.and_eq_true, beq_iff_eq] at hall
    exact ⟨hall.2.1, by simpa using List.all_eq_true.1 hall.2.2 _ he⟩
  · rw [hcount] at hr
    exact absurd hr (by decide)

end

end Sys2Proof.Machine

end

section
/-! ## What the effects of a write leave of the copies of objects -/

namespace Sys2Proof.Machine

section
variable (s : State) (c d : Ch) (o : Obj)

theorem State.g_bitR_key {o p : Obj} (n : Nat) (b : Bool) (h : p.key ≠ o.key) : (s.bitR o n b).g c p = s.g c p :=
  State.g_setR_key _ _ _ h

theorem State.g_bitC_key {o p : Obj} (n : Nat) (b : Bool) (h : p.key ≠ o.key) : (s.bitC d o n b).g c p = s.g c p :=
  State.g_setC_key _ _ _ _ h

theorem State.signMaps_g (p : Nat) {o : Obj}
    (h1 : o.key ≠ (Obj.cmdMapSignature p).key) (h2 : o.key ≠ (Obj.statusMapSignature p).key) :
    (s.signMaps p).g c o = s.g c o :=
  (State.g_setR_key _ _ _ h2).trans (State.g_setR_key _ _ _ h1)

theorem State.loseGm_g (p : Nat) {o : Obj} (h : o.key ≠ Obj.timeStatus.key) : (s.loseGm p).g c o = s.g c o := by
  unfold State.loseGm
  dsimp only
  split
  · refine (State.g_bitR_key _ _ _ _ h).trans ?_
    unfold State.timeLoss
    split
    · rfl
    · exact State.g_bitR_key _ _ _ _ h
  · rfl

theorem State.releadGroup_g (n : Nat) {o : Obj} (h : o.key ≠ (Obj.agLead n).key) : (s.releadGroup n).g c o = s.g c o := by
  have hend : ∀ u : State, (u.endGroup n).g c o = u.g c o := fun u => State.g_setR_key _ _ _ h
  unfold State.releadGroup
  split
  · rfl
  · split
    · split
      · rfl
      · exact State.g_setR_key _ _ _ h
    · split
      · exact State.g_setR_key _ _ _ h
      · rw [hend]
        exact forEach_eq (fun u => u.g c o) _ (fun u m => State.g_congr (State.updGen_regs ..) c o) _ _

theorem State.genRestart_g (n : Nat) {o : Obj} (h : ∀ k, o.key ≠ (Obj.agLead k).key) : (s.genRestart n).g c o = s.g c o := by
  unfold State.genRestart
  dsimp only
  split
  · rfl
  · split
    · rw [State.releadGroup_g _ _ _ (h _), State.g_congr (State.updGroup_regs ..), State.g_congr (State.updGen_regs ..)]
    · exact State.g_congr (State.updGen_regs ..) _ _

theorem State.startTask_g (k : Nat) {o : Obj} (h : ∀ k, o.key ≠ (Obj.agLead k).key) : (s.startTask k).g c o = s.g c o := by
  have hfirst : (s.firstUse k).g c o = s.g c o := State.g_congr (State.updTask_regs ..) _ _
  unfold State.startTask
  split
  · exact (State.genRestart_g _ _ _ h).trans hfirst
  · exact hfirst

theorem State.stopAxis_g (n : Nat) (quick : Bool) {o : Obj} (h : ∀ k, o.key ≠ (Obj.agLead k).key) :
    (s.stopAxis n quick).g c o = s.g c o := by
  unfold State.stopAxis
  split
  · exact State.g_congr (State.stopGroup_regs ..) _ _
  · dsimp only
    split
    · exact State.releadGroup_g _ _ _ (h _)
    · rfl

theorem State.restop_g (n : Nat) {o : Obj} (h : ∀ k, o.key ≠ (Obj.agLead k).key) : (s.restop n).g c o = s.g c o := by
  unfold State.restop
  split
  · split
    · exact State.stopAxis_g _ _ _ _ h
    · rfl
  · rfl

theorem State.setTarget_regs (n : Nat) (v : Int) : (s.setTarget n v).regs = s.regs := by
  unfold State.setTarget
  dsimp only
  repeat' split
  all_goals rfl

theorem State.clearLatches_g (n : Nat) {o : Obj} (h : o.key ≠ (Obj.latchCount n).key) : (s.clearLatches n).g c o = s.g c o :=
  State.g_setR_key _ _ _ h

theorem State.clearResult_g (n : Nat) {o : Obj} (h1 : o.key ≠ (Obj.cvStatus d n).key) (h2 : o.key ≠ (Obj.cvResult d n).key) :
    (s.clearResult d n).g c o = s.g c o := by
  unfold State.clearResult
  dsimp only
  rw [State.g_setC_key _ _ _ _ h2, State.g_bitC_key _ _ _ _ _ h1, State.g_bitC_key _ _ _ _ _ h1, State.g_bitC_key _ _ _ _ _ h1]

theorem State.runFree_regs (n : Nat) (anew : Bool) : (s.runFree d n anew).regs = s.regs := rfl

/-- The objects of a feedback source that its enabling changes (R161, R176). -/
def Obj.offSource (o : Obj) (x : Src) : Prop :=
  o.key ≠ x.status.key ∧ o.key ≠ x.raw.key ∧ o.key ≠ x.pos.key ∧ ∀ n, o.key ≠ (Obj.latchCount n).key

theorem State.enableSource_g (x : Src) (on : Bool) {o : Obj} (h : o.offSource x) : (s.enableSource x on).g c o = s.g c o := by
  obtain ⟨hstatus, hraw, hpos, hlatch⟩ := h
  have hclear : (s.clearSrcLatches x).g c o = s.g c o := by
    unfold State.clearSrcLatches
    split
    · exact State.clearLatches_g _ _ _ (hlatch _)
    · rfl
  have hbits : ∀ l : List Nat,
      (forEach l (s.clearSrcLatches x) fun s b => s.bitC x.2.1 x.status b false).g c o = s.g c o := fun l =>
    (forEach_eq (fun u => u.g c o) _ (fun _ _ => State.g_bitC_key _ _ _ _ _ hstatus) l _).trans hclear
  unfold State.enableSource
  dsimp only
  split
  · exact hbits _
  · have hcounters := fun u : State =>
      (State.g_setC_key (u.setC x.2.1 x.raw 0) x.2.1 c 0 hpos).trans (State.g_setC_key u x.2.1 c 0 hraw)
    split
    · refine (State.g_bitC_key _ _ _ _ _ hstatus).trans ?_
      rw [State.g_congr (State.updFport_regs ..), hcounters, hbits]
    · rw [State.g_congr (State.updSport_regs ..), hcounters, hbits]
    · rw [State.startExc, State.g_congr (State.useFree_regs _), State.g_congr (State.updTracker_regs ..), hcounters, hbits]

theorem State.judgeEntry_g (n e : Nat) {o : Obj} (h : o.key ≠ (Obj.cmpControl d n e).key) :
    (s.judgeEntry d n e).g c o = s.g c o := by
  unfold State.judgeEntry
  split
  · exact State.g_bitC_key _ _ _ _ _ h
  · exact State.g_bitC_key _ _ _ _ _ h

theorem State.setPairValue_g (i : Nat) {o : Obj} (h : o.key ≠ (Obj.siLastChange (pairNum d i)).key) :
    (s.setPairValue d i).g c o = s.g c o := by
  unfold State.setPairValue
  dsimp only
  split
  · rfl
  · exact State.g_setR_key _ _ _ h

theorem State.startPl_g (v : Nat) {o : Obj} (h1 : o.key ≠ (Obj.plStatus d).key) (h2 : o.key ≠ (Obj.plVddcMv d).key) :
    (s.startPl d v).g c o = s.g c o := by
  have hbit := fun (u : State) n b => State.g_bitR_key u c n b h1
  unfold State.startPl
  dsimp only
  split
  · rfl
  · split
    · refine (hbit _ _ _).trans ((hbit _ _ _).trans ((hbit _ _ _).trans (State.g_setR_key _ _ _ h2)))
    · split
      · exact hbit _ _ _
      · split
        · exact hbit _ _ _
        · exact (State.g_congr (State.planTrigger_regs ..) _ _).trans ((hbit _ _ _).trans (hbit _ _ _))

theorem State.nextPl_g {o : Obj} (h1 : o.key ≠ (Obj.plStatus d).key) (h2 : o.key ≠ (Obj.plVddcMv d).key) :
    (s.nextPl d).g c o = s.g c o := by
  unfold State.nextPl
  split
  · split
    · exact State.startPl_g _ _ _ _ h1 h2
    · rfl
  · rfl

/-- A copy that no refusal of a sleep state changes (R473). -/
def Obj.offRefusal (o : Obj) : Prop :=
  o.key ≠ Obj.refusalCount.key ∧ o.key ≠ Obj.refuserMap.key ∧ o.key ≠ Obj.lastRefuser.key ∧
    o.key ≠ Obj.lastRefusedState.key ∧ o.key ≠ Obj.lastRefusalTime.key

theorem State.recordRefusal_g (target : PwrState) (ids : List Nat) {o : Obj} (h : o.offRefusal) :
    (s.recordRefusal target ids).g c o = s.g c o := by
  obtain ⟨h1, h2, h3, h4, h5⟩ := h
  unfold State.recordRefusal State.bumpR
  dsimp only
  rw [State.g_setR_key _ _ _ h5, State.g_setR_key _ _ _ h4, State.g_setR_key _ _ _ h3, State.g_setR_key _ _ _ h2,
    State.g_setR_key _ _ _ h1]

theorem State.stayAsleep_regs : s.stayAsleep.regs = s.regs := by
  unfold State.stayAsleep
  split <;> rfl

theorem State.updPower_regs (f : Power → Power) : (s.updPower f).regs = s.regs := rfl

theorem State.setAgain_regs (target : PwrState) (v : Option Nat) : (s.setAgain target v).regs = s.regs := rfl

theorem State.judgeSleep_g (target : PwrState) (timer : Bool) {o : Obj} (h : o.offRefusal) :
    (s.judgeSleep target timer).g c o = s.g c o := by
  unfold State.judgeSleep
  split
  · rfl
  · dsimp only
    split
    · rfl
    · rw [State.g_congr (State.stayAsleep_regs _), ← State.recordRefusal_g s c target s.refusers h]
      split
      · rw [State.g_congr (State.setAgain_regs ..), State.g_congr (State.updPower_regs ..)]
      · rw [State.g_congr (State.updPower_regs ..)]

theorem State.askSleep_g (target : PwrState) (timer : Bool) {o : Obj} (h : o.offRefusal) :
    (s.askSleep target timer).g c o = s.g c o := by
  unfold State.askSleep
  split
  · rfl
  · dsimp only
    split
    · rfl
    · split
      · unfold State.evalSleep
        split
        · rfl
        · exact State.judgeSleep_g _ _ _ _ h
      · rfl

theorem State.setLane_regs (l st : Nat) : (s.setLane d l st).regs = s.regs := by
  unfold State.setLane
  dsimp only
  split <;> rfl

theorem State.routingChanged_regs (was : Bool) : (s.routingChanged was).regs = s.regs := by
  unfold State.routingChanged
  split
  · rfl
  · refine forEach_eq (fun u => u.regs) _ (fun u d => forEach_eq (fun u => u.regs) _ (fun u l => ?_) _ _) _ _
    dsimp only
    split
    · exact State.setLane_regs ..
    · rfl

theorem State.useAddress_g (a : Nat) {o : Obj} (h : o.key ≠ Obj.fabAddrInUse.key) : (s.useAddress a).g c o = s.g c o := by
  unfold State.useAddress
  dsimp only
  rw [State.g_congr (State.routingChanged_regs ..), State.g_setR_key _ _ _ h]
  split <;> rfl

theorem State.checkPaths_regs : (s.checkPaths d).regs = s.regs := by
  unfold State.checkPaths
  split
  · rfl
  · exact forEach_eq (fun u => u.regs) _ (fun _ _ => by rfl) _ _

theorem State.streamChanged_regs (was : Bool) (n : Nat) : (s.streamChanged was n).regs = s.regs := by
  unfold State.streamChanged
  dsimp only
  refine (forEach_eq (fun u => u.regs) _ (fun u d => State.checkPaths_regs u d) _ _).trans ?_
  split
  · exact forEach_eq (fun u => u.regs) _ (fun _ _ => by rfl) _ _
  · rfl

theorem State.putDesc_g (n : Nat) (v : Int) {o : Obj} (h : o.key ≠ (Obj.streamDesc n).key) :
    (s.putDesc n v).g c o = s.g c o := by
  unfold State.putDesc
  rw [State.g_congr (State.streamChanged_regs ..), State.g_setR_key _ _ _ h]

theorem State.setTwinState_g (v : Nat) {o : Obj} (h : o.key ≠ Obj.twinState.key) : (s.setTwinState v).g c o = s.g c o := by
  unfold State.setTwinState
  split
  · rfl
  · exact State.g_setR_key _ _ _ h

end

end Sys2Proof.Machine

end

section
/-! ## A write of a number leaves its object at the value (R61, R72) -/

namespace Sys2Proof.Machine

/-- The object of an entry is at a value: its channel's copy where each channel has its own (R61). -/
def State.holdsAt (s : State) (e : Entry) (v : Int) : Prop :=
  (e.desc.home ≠ .chan → s.v e.obj = v) ∧ (e.desc.home = .chan → s.g (chOf e.i) e.obj = v)

/-- Where every copy is as it was, so is the majority (R61). -/
theorem State.v_eq_of_g_eq {s u : State} {o : Obj} (h : ∀ c, u.g c o = s.g c o) : u.v o = s.v o := by
  simp [State.v, h]

/-- No effect of a move of a group is on this object. -/
theorem Obj.key_ne_agLead {o : Obj} (h : o.key % 256 ≠ 5) (k : Nat) : o.key ≠ (Obj.agLead k).key := by
  simp only [Obj.agLead]
  omega

section
variable (s : State) (c : Ch) (n k e : Nat) (v : Int)

-- objects with one value

theorem State.writeHostLanes_v : (s.writeHostLanes v).v Obj.hostLaneEnable = v := by
  unfold State.writeHostLanes
  rw [State.v_setR_key _ _ (by decide), State.v_setR_self]

theorem State.writeCyclicEnable_v : (s.writeCyclicEnable n v).v (Obj.cyclicEnable n) = v := by
  have hsign : ∀ u : State, (u.signMaps n).v (Obj.cyclicEnable n) = u.v (Obj.cyclicEnable n) := fun u =>
    State.v_eq_of_g_eq fun d => State.signMaps_g u d n (by simp [Obj.cyclicEnable, Obj.cmdMapSignature])
      (by simp [Obj.cyclicEnable, Obj.statusMapSignature])
  unfold State.writeCyclicEnable
  dsimp only
  split
  · rw [hsign, State.v_setR_self]
  · rw [State.v_congr (State.updPort_regs ..), State.v_setR_self]

theorem State.loseGm_v_asEnable : (s.loseGm k).v (Obj.asEnable n) = s.v (Obj.asEnable n) :=
  State.v_eq_of_g_eq fun d => State.loseGm_g s d k (by simp [Obj.asEnable, Obj.timeStatus]; omega)

theorem State.planTrigger_v (o : Obj) : (s.planTrigger k).v o = s.v o := State.v_congr (State.planTrigger_regs ..) o

theorem State.startTask_v {o : Obj} (h : o.key % 256 ≠ 5) : (s.startTask k).v o = s.v o :=
  State.v_eq_of_g_eq fun d => State.startTask_g s d k (Obj.key_ne_agLead h)

theorem State.writeTaskEnable_v : (s.writeTaskEnable k v).v (Obj.taskEnable k) = v := by
  unfold State.writeTaskEnable
  dsimp only
  split
  · rw [State.planTrigger_v, State.v_setR_self]
  · split
    · rw [State.startTask_v _ _ (by simp only [Obj.taskEnable]; omega), State.v_congr (State.updStream_regs ..),
        State.planTrigger_v, State.v_setR_self]
    · rw [State.v_congr (State.updTask_regs ..), State.v_congr (State.stopTrace_regs ..), State.planTrigger_v, State.v_setR_self]

theorem State.writeBankSelect_v : (s.writeBankSelect k v).v (Obj.bankSelect k) = v := by
  unfold State.writeBankSelect
  dsimp only
  split
  · rw [State.v_congr (State.updTask_regs ..), State.v_setR_self]
  · rw [State.askSwap, State.v_congr (State.updTask_regs ..), State.v_setR_self]

theorem State.writeRedundMode_v : (s.writeRedundMode n v).v (Obj.axRedundMode n) = v := by
  unfold State.writeRedundMode
  dsimp only
  split
  · exact State.v_setR_self ..
  · split
    · rw [State.v_congr (State.updAxis_regs ..), State.v_setR_self]
    · rw [forEach_eq (fun u => u.v (Obj.axRedundMode n)) _ (fun _ _ => State.v_congr (State.updTask_regs ..) _),
        State.v_congr (State.updAxis_regs ..), State.v_setR_self]

theorem State.writeFbSource_v : (s.writeFbSource n v).v (Obj.axFbSource n) = v := by
  unfold State.writeFbSource
  split
  case isTrue h => exact h
  · rw [State.v_bitR_key _ _ _ (by simp only [Obj.axFbSource, Obj.axFbStatus]; omega)]
    refine Eq.trans ?_ (State.v_setR_self s (Obj.axFbSource n) v)
    exact State.v_eq_of_g_eq fun d => State.clearLatches_g _ d n (by simp only [Obj.axFbSource, Obj.latchCount]; omega)

theorem State.restop_setTarget_v : (((s.setR (Obj.pgTarget n) v).setTarget n v).restop n).v (Obj.pgTarget n) = v := by
  rw [State.v_eq_of_g_eq fun d => State.restop_g _ d n (Obj.key_ne_agLead (by simp only [Obj.pgTarget]; omega)),
    State.v_congr (State.setTarget_regs ..), State.v_setR_self]

theorem State.writeSiMode_v : (s.writeSiMode n v).v (Obj.siMode n) = v := by
  have hpair : ∀ (u : State) i, (u.setPairValue (chOf (n / 6)) i).v (Obj.siMode n) = u.v (Obj.siMode n) := fun u i =>
    State.v_eq_of_g_eq fun d => State.setPairValue_g u d _ i (by simp only [Obj.siMode, Obj.siLastChange]; omega)
  unfold State.writeSiMode
  dsimp only
  split
  · rw [hpair]
    exact State.v_setR_self ..
  · exact State.v_setR_self ..

theorem State.writePlRequest_v : (s.writePlRequest c v).v (Obj.plRequest c) = v := by
  have hstatus : (Obj.plRequest c).key ≠ (Obj.plStatus c).key := by simp only [Obj.plRequest, Obj.plStatus]; omega
  unfold State.writePlRequest
  dsimp only
  rw [State.v_eq_of_g_eq fun d => State.nextPl_g _ d c hstatus (by simp only [Obj.plRequest, Obj.plVddcMv]; omega),
    State.v_congr (State.updPower_regs ..), State.v_bitR_key _ _ _ hstatus, State.v_bitR_key _ _ _ hstatus, State.v_setR_self]

theorem Obj.offRefusal_domainMode : (Obj.domainMode n).offRefusal := by
  unfold Obj.offRefusal
  simp only [Obj.domainMode, Obj.refusalCount, Obj.refuserMap, Obj.lastRefuser, Obj.lastRefusedState, Obj.lastRefusalTime]
  omega

theorem State.writeDomainMode_v : (s.writeDomainMode n v).v (Obj.domainMode n) = v := by
  have hask : ∀ (u : State) target timer, (u.askSleep target timer).v (Obj.domainMode n) = u.v (Obj.domainMode n) :=
    fun u target timer => State.v_eq_of_g_eq fun d => State.askSleep_g u d target timer (Obj.offRefusal_domainMode n)
  unfold State.writeDomainMode
  dsimp only
  split
  · exact State.v_setR_self ..
  · split
    · split
      · rw [hask, State.v_setR_self]
      · exact State.v_setR_self ..
    · split
      · split
        · rw [hask, State.v_setR_self]
        · exact State.v_setR_self ..
      · exact State.v_setR_self ..

theorem State.writeNodeAddr_v : (s.writeNodeAddr v).v Obj.fabNodeAddr = v := by
  unfold State.writeNodeAddr
  dsimp only
  split
  · rw [State.v_eq_of_g_eq fun d => State.useAddress_g _ d _ (by decide), State.v_setR_self]
  · exact State.v_setR_self ..

theorem State.writeLaneEnable_v : (s.writeLaneEnable v).v Obj.fabLaneEnable = v := by
  unfold State.writeLaneEnable
  dsimp only
  rw [forEach_eq (fun u => u.v Obj.fabLaneEnable) _ (fun u d =>
      forEach_eq (fun u => u.v Obj.fabLaneEnable) _ (fun u l => ?_) _ _),
    State.v_setR_self]
  split
  · exact State.v_congr (State.setLane_regs ..) _
  · split
    · exact State.v_congr (State.setLane_regs ..) _
    · rfl

/-- The pair of a device changes its twin's streams and its state, not the pair (R404). -/
theorem State.writeSparePair_v {o : Obj} (h1 : o.key ≠ (Obj.streamDesc 0x0D08).key) (h2 : o.key ≠ (Obj.streamDesc 0x0D09).key)
    (h3 : o.key ≠ Obj.twinState.key) : (s.writeSparePair o v).v o = v := by
  have hdesc : ∀ (u : State) x y z, (((u.putDesc 0x0D08 x).putDesc 0x0D09 y).setTwinState z).v o = u.v o := fun u x y z => by
    rw [State.v_eq_of_g_eq fun d => State.setTwinState_g _ d z h3, State.v_eq_of_g_eq fun d => State.putDesc_g _ d _ y h2,
      State.v_eq_of_g_eq fun d => State.putDesc_g u d _ x h1]
  unfold State.writeSparePair
  dsimp only
  split
  · rw [hdesc, State.v_setR_self]
  · split
    · rw [hdesc, State.v_setR_self]
    · exact State.v_setR_self ..

theorem State.writeDebugPermit_v : (s.writeDebugPermit v).v Obj.debugPermit = v := by
  unfold State.writeDebugPermit
  dsimp only
  split
  · exact State.v_setR_self s Obj.debugPermit v
  · exact State.v_setR_self ..

theorem State.restartSedTrace_v (o : Obj) : s.restartSedTrace.v o = s.v o :=
  forEach_eq (fun u => u.v o) _ (fun _ _ => State.v_congr (State.updSed_regs ..) _) _ _

-- objects with a copy of each channel's own

/-- The conditions of a converter change its result, not themselves (R149). -/
theorem State.writeSensing_g {o : Obj} (h1 : o.key ≠ (Obj.cvStatus c n).key) (h2 : o.key ≠ (Obj.cvResult c n).key) :
    (s.writeSensing c n o v).g c o = v := by
  unfold State.writeSensing
  split
  case isTrue h => exact h
  · rw [State.g_congr (State.runFree_regs ..), State.clearResult_g _ _ _ _ h1 h2, State.g_setC_self]

theorem State.writeSlotBind_g : (s.writeSlotBind c n v).g c (Obj.cvSlotBind c n) = v := by
  unfold State.writeSlotBind
  dsimp only
  split
  · rw [State.g_congr (State.runFree_regs ..), State.g_setC_self]
  · exact State.g_setC_self ..

theorem State.writeScanMask_g : (s.writeScanMask c k v).g c (Obj.diagScanMask c k) = v := by
  unfold State.writeScanMask
  dsimp only
  split
  · rw [State.g_congr (State.updDiag_regs ..), State.g_setC_self]
  · exact State.g_setC_self ..

/-- An object with subindex 1 outside the blocks of state of a source is off what its enabling changes. -/
theorem Obj.offSource_fpMode : (Obj.fpMode c n).offSource (.port, c, n) := by
  unfold Obj.offSource
  simp only [Obj.fpMode, Src.status, Src.raw, Src.pos, Obj.fpStatus, Obj.fpRaw, Obj.fpPos, Obj.latchCount]
  refine ⟨?_, ?_, ?_, fun _ => ?_⟩ <;> omega

theorem Obj.offSource_spMode : (Obj.spMode c n).offSource (.sensor, c, n) := by
  unfold Obj.offSource
  simp only [Obj.spMode, Src.status, Src.raw, Src.pos, Obj.spStatus, Obj.spRaw, Obj.spPos, Obj.latchCount]
  refine ⟨?_, ?_, ?_, fun _ => ?_⟩ <;> omega

theorem Obj.offSource_resEnable : (Obj.resEnable c n).offSource (.resolver, c, n) := by
  unfold Obj.offSource
  simp only [Obj.resEnable, Src.status, Src.raw, Src.pos, Obj.resStatus, Obj.resRaw, Obj.resPos, Obj.latchCount]
  refine ⟨?_, ?_, ?_, fun _ => ?_⟩ <;> omega

theorem State.writeFpMode_g : (s.writeFpMode c n v).g c (Obj.fpMode c n) = v := by
  unfold State.writeFpMode
  dsimp only
  split
  · exact State.g_setC_self ..
  · rw [State.enableSource_g _ _ _ _ (Obj.offSource_fpMode c n), State.g_setC_self]

theorem State.writeSpMode_g : (s.writeSpMode c n v).g c (Obj.spMode c n) = v := by
  unfold State.writeSpMode
  dsimp only
  split
  · exact State.g_setC_self ..
  · rw [State.enableSource_g _ _ _ _ (Obj.offSource_spMode c n), State.g_setC_self]

theorem State.writeResEnable_g : (s.writeResEnable c n v).g c (Obj.resEnable c n) = v := by
  unfold State.writeResEnable
  dsimp only
  split
  · exact State.g_setC_self ..
  · rw [State.enableSource_g _ _ _ _ (Obj.offSource_resEnable c n), State.g_setC_self]

theorem State.writeInvert_g : (s.writeInvert c n v).g c (Obj.fpInvert c n) = v := by
  unfold State.writeInvert
  rw [State.g_congr (State.updFport_regs ..), State.g_setC_self]

theorem State.writeCmpPosition_g : (s.writeCmpPosition c n e v).g c (Obj.cmpPosition c n e) = v := by
  unfold State.writeCmpPosition
  rw [State.judgeEntry_g _ _ _ _ _ (by simp only [Obj.cmpPosition, Obj.cmpControl]; omega), State.g_setC_self]

theorem State.writeBsMode_g : (s.writeBsMode c k v).g c (Obj.bsMode c k) = v := by
  unfold State.writeBsMode
  dsimp only
  split
  · split
    · exact State.g_setC_self ..
    · rw [State.g_congr (State.updSlot_regs ..), State.g_setC_self]
  · split
    · exact State.g_setC_self ..
    · rw [State.stopCounter, State.g_congr (State.freeConverters_regs ..), State.g_congr (State.updSlot_regs ..),
        State.g_setC_self]

theorem State.writeGrid_g (o : Obj) : (s.writeGrid c k o v).g c o = v := by
  unfold State.writeGrid
  dsimp only
  split
  · rw [State.g_congr (State.updSlot_regs ..), State.g_setC_self]
  · exact State.g_setC_self ..

end

/-- Where an entry has its own object at each channel, a write of that copy leaves it at the value. -/
theorem State.holdsAt_of_g {s : State} {e : Entry} {o : Obj} {v : Int} (hm : e.desc.home = .chan ∧ e.named = e.obj)
    (ho : e.named = o) (h : s.g (chOf e.i) o = v) : s.holdsAt e v :=
  ⟨fun hn => absurd hm.1 hn, fun _ => by rw [← hm.2, ho, h]⟩

/-- Where an entry's object has one value, a write of it leaves it there. -/
theorem State.holdsAt_of_v {s : State} {e : Entry} {o : Obj} {v : Int} (hm : e.desc.home = .repl ∧ e.named = e.obj)
    (ho : e.named = o) (h : s.v o = v) : s.holdsAt e v :=
  ⟨fun _ => by rw [← hm.2, ho, h], fun hc => by simp [hm.1] at hc⟩

/-- A write of a plain object sets its copies and no more. -/
theorem State.writeNum_plain {s : State} {cr : Carrier} {e : Entry} {v : Int} (h : e.plain = true) :
    s.writeNum cr e v = s.rawSet e (.num v) := by
  have htask : s.writeTaskObj e v = none := by
    unfold State.writeTaskObj
    dsimp only
    split
    pick_goal -1
    · rfl
    all_goals next hr => exact absurd h (by rw [Entry.plain, hr]; decide)
  have haxis : s.writeAxisObj e v = none := by
    unfold State.writeAxisObj
    dsimp only
    split
    pick_goal -1
    · rfl
    all_goals next hr => exact absurd h (by rw [Entry.plain, hr]; decide)
  have hchan : s.writeChanObj e v = none := by
    unfold State.writeChanObj
    dsimp only
    split
    pick_goal -1
    · rfl
    all_goals next hr => exact absurd h (by rw [Entry.plain, hr]; decide)
  have hdev : s.writeDevObj cr e v = none := by
    unfold State.writeDevObj
    split
    pick_goal -1
    · rfl
    all_goals next hr => exact absurd h (by rw [Entry.plain, hr]; decide)
  unfold State.writeNum
  simp only [htask, haxis, hchan, hdev, Option.orElse_none, Option.getD_none]

end Sys2Proof.Machine

end

section
/-! ## The effect of a write of a number, by the role of its entry -/

namespace Sys2Proof.Machine

section
variable {s : State} {cr : Carrier} {e : Entry} {v : Int}

/-- A write of a channel's object leaves that channel's copy at the value. -/
theorem State.writeNum_holds_chan (hr : e.desc.role ∈ chanHeld) (hm : e.desc.home = .chan ∧ e.named = e.obj) :
    (s.writeNum cr e v).holdsAt e v := by
  refine State.holdsAt_of_g hm rfl ?_
  simp only [chanHeld, List.mem_cons, List.not_mem_nil, or_false] at hr
  rcases hr with hr | hr | hr | hr | hr | hr | hr | hr | hr | hr | hr | hr | hr
  all_goals simp only [State.writeNum, State.writeTaskObj, State.writeAxisObj, State.writeChanObj, Entry.named,
    hr, Option.orElse_none, Option.orElse_some, Option.getD_some]
  case' inl | inr.inl | inr.inr.inl =>
    refine State.writeSensing_g _ _ _ _ ?_ ?_
    all_goals
      simp only [Obj.cvEnable, Obj.sincOrder, Obj.decimRatio, Obj.cvStatus, Obj.cvResult]
      omega
  · exact State.writeSlotBind_g ..
  · exact State.writeScanMask_g ..
  · exact State.writeFpMode_g ..
  · exact State.writeInvert_g ..
  · exact State.writeCmpPosition_g ..
  · exact State.writeResEnable_g ..
  · exact State.writeSpMode_g ..
  · exact State.writeBsMode_g ..
  · exact State.writeGrid_g ..
  · exact State.writeGrid_g ..

/-- A write of an object with one value leaves the majority of its copies at the value. -/
theorem State.writeNum_holds_repl (hr : e.desc.role ∈ replHeld) (hm : e.desc.home = .repl ∧ e.named = e.obj) :
    (s.writeNum cr e v).holdsAt e v := by
  refine State.holdsAt_of_v hm rfl ?_
  simp only [replHeld, List.cons_append, List.nil_append, List.mem_cons, List.not_mem_nil, or_false] at hr
  rcases hr with hr | hr | hr | hr | hr | hr | hr | hr | hr | hr | hr | hr | hr | hr | hr | hr | hr | hr | hr | hr | hr | hr | hr
  all_goals
    simp only [State.writeNum, State.writeTaskObj, State.writeAxisObj, State.writeChanObj, State.writeDevObj, Entry.named, hr,
      Option.orElse_none, Option.orElse_some, Option.getD_some]
  · exact State.writeHostLanes_v ..
  · exact State.writeCyclicEnable_v ..
  · split
    · rw [State.loseGm_v_asEnable, State.v_setR_self]
    · exact State.v_setR_self ..
  · exact State.writeTaskEnable_v ..
  · split
    · rw [State.planTrigger_v, State.v_setR_self]
    · exact State.v_setR_self ..
  · rw [State.startTask_v _ _ (by simp only [Obj.intFrac]; omega), State.v_setR_self]
  · exact State.writeBankSelect_v ..
  · rw [State.planTrigger_v, State.v_setR_self]
  · rw [State.planTrigger_v, State.v_setR_self]
  · rw [State.planTrigger_v, State.v_setR_self]
  · exact State.writeRedundMode_v ..
  · exact State.writeFbSource_v ..
  · exact State.restop_setTarget_v ..
  · exact State.writeSiMode_v ..
  · exact State.writePlRequest_v ..
  · exact State.writeDomainMode_v ..
  · exact State.writeNodeAddr_v ..
  · exact State.writeLaneEnable_v ..
  · exact State.writeSparePair_v (o := Obj.sparePair0) _ _ (by decide) (by decide) (by decide)
  · exact State.writeSparePair_v (o := Obj.sparePair1) _ _ (by decide) (by decide) (by decide)
  · exact State.writeDebugPermit_v ..
  · rw [State.restartSedTrace_v, State.v_setR_self]
  · rw [State.restartSedTrace_v, State.v_setR_self]

end

end Sys2Proof.Machine

end

section
/-! ## Accepted writes (R72, R83) -/

namespace Sys2Proof.Machine

theorem foldl_isSome {α β : Type} {f : Option β → α → Option β} (hf : ∀ b a, (f b a).isSome = true) (l : List α) (b : Option β)
    (hb : b.isSome = true) : (l.foldl f b).isSome = true := by
  induction l generalizing b with
  | nil => exact hb
  | cons a l ih => exact ih _ (hf b a)

/-- Without an abort no check has failed. -/
theorem firstAbort_eq_none {l : List Abort} (h : firstAbort l = none) : l = [] := by
  cases l with
  | nil => rfl
  | cons a l =>
    have hsome : (firstAbort (a :: l)).isSome = true := by
      unfold firstAbort
      refine foldl_isSome (fun b a => ?_) l _ rfl
      split
      · rfl
      · split <;> rfl
    rw [h] at hsome
    cases hsome

/-- What passes every check may be written (R61, R83). -/
theorem State.writable_of_writeFails {s a : State} {cr : Carrier} {e : Entry} {v : Val} {n : Nat}
    (h : s.writeFails a cr e v n = none) : e.writable = true := by
  have hbase : s.accessFails cr e n = [] → e.writable = true := fun hb => by
    by_contra hw
    simp [State.accessFails, failIf, hw] at hb
  unfold State.writeFails at h
  have hl := (List.append_eq_nil_iff.1 (firstAbort_eq_none h)).1
  split at hl
  · dsimp only at hl
    split at hl
    · split at hl
      · cases hl
      · exact hbase hl
    case isFalse hp =>
      rw [hl] at hp
      exact absurd rfl hp
  · dsimp only at hl
    split at hl
    · exact hbase (List.append_eq_nil_iff.1 (List.append_eq_nil_iff.1 hl).2).1
    · exact hbase (List.append_eq_nil_iff.1 hl).1
  · exact hbase (List.append_eq_nil_iff.1 hl).1

/-- Objects whose entries differ in a property have different keys. -/
theorem Obj.key_ne_of {o p : Obj} {e : Entry} (q : Entry → Bool) (he : findObj o.index o.sub = some e) (hq : q e = true)
    (hp : (findObj p.index p.sub).all (fun e => !q e) = true) : o.key ≠ p.key := by
  intro hk
  have hfind : findObj p.index p.sub = some e := by rw [Obj.index, Obj.sub, ← hk]; exact he
  simp [hfind, hq] at hp

section
variable {o : Obj} {e : Entry}

/-- An object that may be written is none of the counts that an answer changes. -/
theorem Obj.unanswered_of_writable (he : findObj o.index o.sub = some e) (hw : e.writable = true) : o.unanswered :=
  ⟨Obj.key_ne_of _ he hw (by decide +kernel), Obj.key_ne_of _ he hw (by decide +kernel),
    Obj.key_ne_of _ he hw (by decide +kernel)⟩

/-- STORE_ALL is the object of one role. -/
theorem Obj.key_ne_storeAll (he : findObj o.index o.sub = some e) (hr : e.desc.role ≠ .storeAll) : o.key ≠ Obj.storeAll.key :=
  Obj.key_ne_of (fun e => e.desc.role != .storeAll) he (by simp [hr]) (by decide +kernel)

end

-- what a request of a row does

section
variable {s : State} {t : Nat} {cr : Carrier} {o : Obj} {e : Entry} {v : Val}

/-- The request that a CONFIG_WRITE makes of a row. -/
def State.writeReq (s : State) (t : Nat) (cr : Carrier) (o : Obj) (v : Val) : KdpReq :=
  (s.heard t cr).rowReq cr 2 o.index o.sub (rowBytes o.index o.sub v)

theorem State.heard_noneDue (h : (s.upTo t).noneDue = true) : (s.heard t cr).noneDue = true := by
  unfold State.noneDue State.heard
  rw [State.noteHeard_kdp, State.noteHeard_now]
  exact h

/-- A write that passes every check waits for its instant among the writes, or acts (R72). -/
theorem State.hostWrite_accepted (h : s.accepts t cr e v = true) (hn : (s.upTo t).noneDue = true)
    (he : findObj o.index o.sub = some e) :
    (s.upTo t).hostWrite cr o.index o.sub v = (s.heard t cr).enqueue
      { req := s.writeReq t cr o v, due := (s.heard t cr).dueOf e (max s.now t), members := [(e.key, v)] } := by
  simp only [State.accepts, Bool.and_eq_true, Option.isNone_iff_eq_none, Bool.not_eq_true'] at h
  obtain ⟨⟨⟨hrec, hdual⟩, hfails⟩, hwake⟩ := h
  have hrec' : (s.upTo t).receives = true := hrec
  have hdual' : ((s.upTo t).noteHeard cr).red.reachedDual = true := by rw [State.noteHeard_red]; exact hdual
  have hfails' : ((s.upTo t).noteHeard cr).writeFails (((s.upTo t).noteHeard cr).rawSet e v) cr e v 1 = none := hfails
  have hwake' : ((s.upTo t).noteHeard cr).mustWake e = false := hwake
  unfold State.hostWrite
  rw [State.applyDue_none _ hn]
  simp only [hrec', Bool.not_true, Bool.false_eq_true, if_false, hdual', he]
  unfold State.submit
  rw [State.rowReq_carrier, hfails']
  simp only [hwake', Bool.false_eq_true, if_false, State.noteHeard_now]
  rfl

/-- A write to a semaphore, or one whose instant lies later, waits (R72, R116). -/
theorem State.enqueue_waits {u : State} {w : PendWrite} (hu : u.noneDue = true) (hw : u.now < w.due ∨ w.sluice.isSome = true) :
    u.enqueue w = u.updKdp fun k => { k with writes := k.writes ++ [w] } := by
  have hnone : (u.updKdp fun k => { k with writes := k.writes ++ [w] }).noneDue = true := by
    have hkeep : (w.sluice.isSome || !decide (w.due ≤ u.now)) = true := by
      rcases hw with h | h
      · simp [h]
      · simp [h]
    simp only [State.noneDue, State.updKdp, List.all_append, List.all_cons, List.all_nil, Bool.and_true, Bool.and_eq_true]
    exact ⟨hu, hkeep⟩
  unfold State.enqueue
  dsimp only
  split
  · exact State.applyDue_none _ hnone
  · rfl

end

end Sys2Proof.Machine

end

section
/-! ## A CONFIG_WRITE of a number -/

namespace Sys2Proof.Machine

section
variable {s : State} {t : Nat} {cr : Carrier} {o : Obj} {e : Entry}

/-- A CONFIG_WRITE that is taken and acts: the effect of the write, and its answer. -/
theorem exec_configWrite_acts {v : Val} (h : s.writes t cr o v = true) (he : findObj o.index o.sub = some e) (hk : e.key = o.key)
    (hr : e.desc.role ≠ .sluiceAg) (hs : o.key ≠ Obj.storeAll.key) : ∃ tag, exec (.configWrite t cr o.index o.sub v) s =
      .next (s.after t (((s.heard t cr).applyWrite cr e v).respond (s.writeReq t cr o v) 0 0 false [] (some tag))) :=
  ⟨_, congrArg (fun u => Host.Outcome.next (s.after t u)) (State.hostWrite_acts h he hk hr hs)⟩

/-- The answer of a row's request acknowledges it. -/
theorem State.respond_writeReq_acks (u : State) (v : Val) (tag : Option Nat) :
    (u.respond (s.writeReq t cr o v) 0 0 false [] tag).acks cr := by
  obtain ⟨who, vlan, frames, h⟩ := State.respond_sent u (s.writeReq t cr o v) 0 0 false [] tag (State.rowReq_frame ..)
  rw [State.writeReq, State.rowReq_tid] at h
  exact ⟨who, vlan, frames, h⟩

/-- A write that is taken and acts is of an object that may be written. -/
theorem State.writes_writable {v : Val} (h : s.writes t cr o v = true) (he : findObj o.index o.sub = some e) :
    e.writable = true := by
  simp only [State.writes, he, Bool.and_eq_true, Option.isNone_iff_eq_none] at h
  exact State.writable_of_writeFails h.2.1.1

/-- A write that sets an object is of a plain one, or of a role that has another effect. -/
theorem Entry.holds_cases (h : e.holds = true) : e.plain = true ∨ e.desc.role ∈ replHeld ∨ e.desc.role ∈ chanHeld := by
  simp only [Entry.holds, Bool.or_eq_true, List.contains_iff_mem] at h
  rcases h with ((hplain | hhost) | hchan) | hdev
  · exact .inl hplain
  · exact .inr (.inl (List.mem_append_left _ hhost))
  · exact .inr (.inr hchan)
  · exact .inr (.inl (List.mem_append_right _ hdev))

/-- A write that sets an object is not of RESTORE_DEFAULTS, a semaphore or STORE_ALL. -/
theorem Entry.holds_role (h : e.holds = true) :
    e.desc.role ≠ .restoreDefaults ∧ e.desc.role ≠ .sluiceAg ∧ e.desc.role ≠ .storeAll := by
  refine ⟨fun hr => ?_, fun hr => ?_, fun hr => ?_⟩
  all_goals
    rw [Entry.holds, Entry.plain, hr] at h
    exact absurd h (by decide)

theorem Entry.holds_of_plain (h : e.plain = true) : e.holds = true := by
  simp [Entry.holds, h]

/-- What the copies of an object read as is what it holds. -/
theorem State.holdsAt_congr {u w : State} {v : Int} (h : ∀ c, w.g c e.obj = u.g c e.obj) (hu : u.holdsAt e v) : w.holdsAt e v :=
  ⟨fun hh => (State.v_eq_of_g_eq h).trans (hu.1 hh), fun hh => (h _).trans (hu.2 hh)⟩

/-- The copies of a plain object take the value. -/
theorem State.rawSet_holds {v : Int} (h : e.plain = true) : (s.rawSet e (.num v)).holdsAt e v := by
  have hr : e.desc.role ≠ .streamDesc := fun hr => by
    rw [Entry.plain, hr] at h
    exact absurd h (by decide)
  unfold State.rawSet
  dsimp only
  rw [if_neg hr]
  split
  case h_1 hh => exact ⟨fun hn => absurd hh hn, fun _ => State.g_setC_self ..⟩
  case h_2 hh => exact ⟨fun _ => State.v_setR_self .., fun hc => absurd hc hh⟩

/-- A write that sets an object leaves it at the value, whatever else it does (R61, R72). -/
theorem State.writeNum_holds {v : Int} (he : findObj o.index o.sub = some e) (h : e.holds = true) :
    (s.writeNum cr e v).holdsAt e v := by
  rcases Entry.holds_cases h with hp | hr | hr
  · rw [State.writeNum_plain hp]
    exact State.rawSet_holds hp
  · exact State.writeNum_holds_repl hr (Entry.named_repl he (by simpa using hr))
  · exact State.writeNum_holds_chan hr (Entry.named_chan he (by simpa using hr))

/-- A write sets the copies of its object, and nothing else of the state. -/
theorem State.rawSet_num_eq (v : Int) : ∃ r, s.rawSet e (.num v) = { s with regs := r } := by
  unfold State.rawSet
  dsimp only
  split <;> exact ⟨_, rfl⟩

theorem State.rawSet_num_g (v : Int) (c : Ch) {p : Obj} (h : p.key ≠ e.key) : (s.rawSet e (.num v)).g c p = s.g c p := by
  unfold State.rawSet
  dsimp only
  split
  · exact State.g_setC_key _ _ _ _ h
  · exact State.g_setR_key _ _ _ h

/-- An answer without abort changes no copy but, over the proxy stream, the counts of the fabric. -/
theorem State.respond_ok_g (u : State) (r : KdpReq) (tag : Option Nat) (c : Ch) {p : Obj}
    (h : r.carrier = .proxy → p.key ≠ Obj.fabNoRoute.key ∧ p.key ≠ Obj.fabRateDrops.key) :
    (u.respond r 0 0 false [] tag).g c p = u.g c p := by
  unfold State.respond
  split
  · rfl
  · show (u.sendResponse r r.holders 0 0 false [] _).g c p = u.g c p
    unfold State.sendResponse
    dsimp only
    rw [if_pos rfl]
    split
    case isTrue hc =>
      exact (forEach_eq (fun u => u.g c p) _ (fun _ _ => State.sendTo_g _ _ _ _ _ _ _ (h hc).1 (h hc).2) _ _)
    · rfl

/-- A CONFIG_WRITE of an object that a write sets is answered, and the object holds the value. -/
theorem exec_configWrite_holds {v : Int} (h : s.sets t cr o v = true) (he : findObj o.index o.sub = some e) (hk : e.key = o.key)
    (ho : e.obj = o) (hh : e.holds = true) :
    ∃ u, exec (.configWrite t cr o.index o.sub (.num v)) s = .next (s.after t u) ∧ u.acks cr ∧
      (e.desc.home ≠ .chan → u.v o = v) ∧ (e.desc.home = .chan → u.g (chOf e.i) o = v) := by
  obtain ⟨hrestore, hsluice, hstore⟩ := Entry.holds_role hh
  obtain ⟨tag, hexec⟩ := exec_configWrite_acts h he hk hsluice (Obj.key_ne_storeAll he hstore)
  refine ⟨_, hexec, State.respond_writeReq_acks .., ?_⟩
  rw [← ho]
  refine State.holdsAt_congr (fun c => ?_) (State.writeNum_holds (s := ((s.heard t cr).logWrite cr e (.num v)).touchUnlock cr e)
    (cr := cr) (v := v) he hh)
  have hun : e.obj.unanswered := by
    rw [ho]
    exact Obj.unanswered_of_writable he (State.writes_writable h he)
  rw [State.respond_g _ _ _ _ _ _ _ _ _ hun, State.applyWrite_num _ _ _ _ hrestore, State.noteCommand_g]

/-- A CONFIG_WRITE of a plain object leaves every other object as it was, but the log's for a logged one, and counts of the fabric
for a request over it; and so tasks, axes and V. -/
theorem exec_configWrite_plain {v : Int} (h : s.sets t cr o v = true) (he : findObj o.index o.sub = some e) (hk : e.key = o.key)
    (hp : e.plain = true) :
    ∃ u, exec (.configWrite t cr o.index o.sub (.num v)) s = .next (s.after t u) ∧ u.acks cr ∧
      (∀ (c : Ch) (p : Obj), p.key ≠ o.key →
        (cr = .proxy → p.key ≠ Obj.fabNoRoute.key ∧ p.key ≠ Obj.fabRateDrops.key) →
        (e.isRws = true → p.key ≠ Obj.clNextSeq.key ∧ p.key ≠ Obj.clLastChain.key ∧ p.key ≠ Obj.clCount.key ∧
          p.key ≠ Obj.clOverwritten.key ∧ p.key ≠ Obj.clBaseChain.key) → u.g c p = s.g c p) ∧
      u.tasks = s.tasks ∧ u.axes = s.axes ∧ u.red = s.red ∧ (e.command = none → u.sems = s.sems) ∧
      (e.isRws = false → u.safe = s.safe) := by
  obtain ⟨hrestore, hsluice, hstore⟩ := Entry.holds_role (Entry.holds_of_plain hp)
  obtain ⟨tag, hexec⟩ := exec_configWrite_acts h he hk hsluice (Obj.key_ne_storeAll he hstore)
  refine ⟨_, hexec, State.respond_writeReq_acks .., fun c p hkey hproxy hlog => ?_, ?_⟩
  · rw [State.respond_ok_g _ _ _ _ hproxy, State.applyWrite_num _ _ _ _ hrestore, State.noteCommand_g, State.writeNum_plain hp,
      State.rawSet_num_g _ _ (by rw [hk]; exact hkey), State.touchUnlock_g]
    cases hrws : e.isRws with
    | true => rw [State.logWrite_g _ _ _ _ _ _ (hlog hrws), State.heard_g]
    | false => simp [State.logWrite, hrws]
  · obtain ⟨r, hr⟩ := State.rawSet_num_eq (s := ((s.heard t cr).logWrite cr e (.num v)).touchUnlock cr e) (e := e) v
    rw [State.applyWrite_num _ _ _ _ hrestore, State.writeNum_plain hp, hr]
    refine ⟨by simp, by simp, by simp, fun hc => ?_, fun hrws => ?_⟩
    · rw [State.respond_sems]
      simp [State.noteCommand, State.commandGroup, hc]
    · rw [State.respond_safe, State.noteCommand_safe]
      simp [State.logWrite, State.touchUnlock, hrws]

/-- An object-table entry holds what is written with its reserved bits 0 (R312). -/
theorem exec_configWrite_objDesc {v : Int} (h : s.sets t cr o v = true) (he : findObj o.index o.sub = some e) (hk : e.key = o.key)
    (hr : e.desc.role = .objDesc) (ho : o = Obj.objDesc (e.i * 8 + e.m)) :
    ∃ u, exec (.configWrite t cr o.index o.sub (.num v)) s = .next (s.after t u) ∧ u.v o = withField v 1 3 0 := by
  obtain ⟨tag, hexec⟩ := exec_configWrite_acts h he hk (by rw [hr]; decide) (Obj.key_ne_storeAll he (by rw [hr]; decide))
  refine ⟨_, hexec, ?_⟩
  have hwrite : ∀ u : State, (u.writeNum cr e v).v o = withField v 1 3 0 := by
    intro u
    simp only [State.writeNum, State.writeTaskObj, hr, Option.orElse_some, Option.getD_some]
    unfold State.writeObjDesc
    dsimp only
    rw [ho]
    split
    · rw [State.planTrigger_v, State.v_setR_self]
    · exact State.v_setR_self ..
  rw [State.respond_v _ _ _ _ _ _ _ _ (Obj.unanswered_of_writable he (State.writes_writable h he)),
    State.applyWrite_num _ _ _ _ (by rw [hr]; decide), State.noteCommand_v, hwrite]

/-- A stream descriptor holds what is written with its reserved bits 0 (R6, R376). -/
theorem exec_configWrite_streamDesc {v : Int} (h : s.sets t cr o v = true) (he : findObj o.index o.sub = some e)
    (hk : e.key = o.key) (ho : e.obj = o) (hr : e.desc.role = .streamDesc) (hh : e.desc.home ≠ .chan) :
    ∃ u, exec (.configWrite t cr o.index o.sub (.num v)) s = .next (s.after t u) ∧
      u.v o = withField (withField v 7 29 0) 1 1 0 := by
  obtain ⟨tag, hexec⟩ := exec_configWrite_acts h he hk (by rw [hr]; decide) (Obj.key_ne_storeAll he (by rw [hr]; decide))
  refine ⟨_, hexec, ?_⟩
  have hwrite : ∀ u : State, (u.writeNum cr e v).v o = withField (withField v 7 29 0) 1 1 0 := by
    intro u
    simp only [State.writeNum, State.writeTaskObj, State.writeAxisObj, State.writeChanObj, State.writeDevObj, hr,
      Option.orElse_none, Option.getD_some]
    rw [State.v_congr (State.streamChanged_regs ..), ← ho]
    unfold State.rawSet
    dsimp only
    rw [if_pos hr]
    split
    case h_1 hc => exact absurd hc hh
    · exact State.v_setR_self ..
  rw [State.respond_v _ _ _ _ _ _ _ _ (Obj.unanswered_of_writable he (State.writes_writable h he)),
    State.applyWrite_num _ _ _ _ (by rw [hr]; decide), State.noteCommand_v, hwrite]

end

end Sys2Proof.Machine

end

section
/-! ## Strings, waiting writes, the store and the defaults (R72, R74, R89, R116) -/

namespace Sys2Proof.Machine

section
variable {s : State} {t : Nat} {cr : Carrier} {o : Obj} {e : Entry}

/-- The roles of strings of which a write does not hold the bytes. -/
theorem State.writeStr_plain {u : State} (b : List Byte)
    (h : ¬([Role.fabAuthKey0, .fabAuthKey1, .pwEnter, .pwNew].contains e.desc.role)) : u.writeStr cr e b = u.setStr e.obj b := by
  unfold State.writeStr
  split
  pick_goal -1
  · rfl
  all_goals next hr => exact absurd (by rw [hr]; decide) h

theorem State.str_setStr (u : State) (c : Ch) (b : List Byte) : (u.setStr o b).str c o = b := by
  simp [State.str, State.setStr]

/-- A CONFIG_WRITE of a string object holds the bytes. -/
theorem exec_configWrite_string {b : List Byte} (h : s.writes t cr o (.bytes b) = true) (he : findObj o.index o.sub = some e)
    (hk : e.key = o.key) (ho : e.obj = o) (hr : ¬([Role.fabAuthKey0, .fabAuthKey1, .pwEnter, .pwNew].contains e.desc.role))
    (hs : o.key ≠ Obj.storeAll.key) (hsl : e.desc.role ≠ .sluiceAg) :
    ∃ u, exec (.configWrite t cr o.index o.sub (.bytes b)) s = .next (s.after t u) ∧ u.acks cr ∧ ∀ c, u.str c o = b := by
  obtain ⟨tag, hexec⟩ := exec_configWrite_acts h he hk hsl hs
  refine ⟨_, hexec, State.respond_writeReq_acks .., fun c => ?_⟩
  unfold State.str
  rw [State.respond_strs, State.applyWrite, State.noteCommand_strs, State.writeStr_plain b hr, ho]
  exact State.str_setStr _ c b

/-- A CONFIG_WRITE whose instant lies later, or of a semaphore, waits and is not answered. -/
theorem exec_configWrite_waits {v : Val} (h : s.accepts t cr e v = true) (hn : (s.upTo t).noneDue = true)
    (he : findObj o.index o.sub = some e) (hk : e.key = o.key)
    (hlater : max s.now t < (s.heard t cr).dueOf e (max s.now t) ∨ (e.desc.role = .sluiceAg ∧ ∃ x, v = .num x)) :
    ∃ u r, exec (.configWrite t cr o.index o.sub v) s = .next (s.after t u) ∧ r.carrier = cr ∧
      u.kdp.writes = s.kdp.writes ++ [{ req := r, due := (s.heard t cr).dueOf e (max s.now t), members := [(o.key, v)] }] ∧
      u.sent = s.sent ∧ u.regs = s.regs := by
  refine ⟨_, s.writeReq t cr o v, rfl, rfl, ?_⟩
  have hwaits : (s.heard t cr).now < (s.heard t cr).dueOf e (max s.now t) ∨ (PendWrite.sluice
      { req := s.writeReq t cr o v, due := (s.heard t cr).dueOf e (max s.now t), members := [(e.key, v)] }).isSome = true := by
    rcases hlater with hd | ⟨hr, x, rfl⟩
    · exact .inl (by rw [State.heard_now]; exact hd)
    · have hentry : entryOf e.key = some e := by rw [hk]; exact he
      exact .inr (by simp [PendWrite.sluice, hentry, hr])
  dsimp only
  rw [State.hostWrite_accepted h hn he, State.enqueue_waits (State.heard_noneDue hn) hwaits, ← hk]
  refine ⟨?_, State.heard_sent .., State.heard_regs ..⟩
  show (s.heard t cr).kdp.writes ++ _ = _
  rw [State.heard_kdp]

/-- One that a predicate lets through is alone among those in order that it shuts out. -/
theorem filter_insertBy_alone {α : Type} (b : α → α → Bool) {p : α → Bool} {x : α} (hx : p x = true) {m : List α}
    (h : ∀ y ∈ m, p y = false) : (insertBy b x m).filter p = [x] := by
  induction m with
  | nil => simp [insertBy, hx]
  | cons z m ih =>
    have hz := h z (List.mem_cons_self ..)
    have hm : ∀ y ∈ m, p y = false := fun y hy => h y (List.mem_cons_of_mem _ hy)
    unfold insertBy
    split
    · rw [List.filter_cons_of_pos hx, List.filter_eq_nil_iff.2 (by simpa [hz] using hm)]
    · rw [List.filter_cons_of_neg (by simp [hz]), ih hm]

/-- A write that is due where no other is takes effect, and is answered or joins the store. -/
theorem State.enqueue_due {u : State} {w : PendWrite} (hu : u.noneDue = true) (hsl : w.sluice = none) (hd : w.due = u.now) :
    u.enqueue w = (u.updKdp fun k => { k with writes := k.writes ++ [w] }).answerWrite (u.applyMembers w) w := by
  have hdue : (u.updKdp fun k => { k with writes := k.writes ++ [w] }).dueWrites.filter (fun w => !w.sluice.isSome) = [w] := by
    have hlist : (u.kdp.writes ++ [w]).filter (fun w => w.due ≤ u.now) = (u.kdp.writes.filter fun w => w.due ≤ u.now) ++ [w] := by
      rw [List.filter_append, List.filter_cons_of_pos (by simp [hd]), List.filter_nil]
    show (((u.kdp.writes ++ [w]).filter fun w => w.due ≤ u.now).foldl (fun l w => insertBy PendWrite.before w l) []).filter _ =
      [w]
    rw [hlist, List.foldl_append]
    refine filter_insertBy_alone _ (by simp [hsl]) fun y hy => ?_
    rcases mem_foldl_insertBy _ _ _ _ hy with hy | hy
    · simp [State.noneDue_due hu y hy]
    · cases hy
  have hkeep : (u.kdp.writes ++ [w]).filter (fun w => w.sluice.isSome || !(w.due ≤ u.now)) = u.kdp.writes := by
    rw [List.filter_append, State.noneDue_keeps hu, List.filter_cons_of_neg (by simp [hsl, hd]), List.filter_nil, List.append_nil]
  unfold State.enqueue
  dsimp only
  rw [if_pos (Nat.le_of_eq hd)]
  show State.applyDue (u.updKdp fun k => { k with writes := k.writes ++ [w] }) = _
  unfold State.applyDue
  dsimp only
  rw [hdue]
  show State.answerWrite _ (State.applyMembers { u with kdp := { u.kdp with
    writes := (u.kdp.writes ++ [w]).filter fun w => w.sluice.isSome || !(w.due ≤ u.now) } } w) w = _
  rw [hkeep]

/-- The requests that the store answers, with one more, and the instant at which it began (R74, R83). -/
def Kdp.joinStore (k : Kdp) (r : KdpReq) (t : Nat) : List KdpReq × Nat :=
  match k.store with
  | some (l, x) => (l ++ [r], x)
  | none => ([r], t)

theorem State.answerWrite_stores (u x : State) {w : PendWrite} (h : w.stores = true) :
    u.answerWrite x w = x.updKdp fun k => { k with store := some (k.joinStore w.req x.now) } := by
  unfold State.answerWrite
  rw [if_pos h]
  rfl

/-- A write of STORE_ALL answers nothing yet: its request is among those that the store answers (R74). -/
theorem exec_storeAll_joins {v : Int} (h : s.sets t cr Obj.storeAll v = true) :
    ∃ u r, exec (.storeAll t cr v) s = .next (s.after t u) ∧ r.carrier = cr ∧ u.sent = s.sent ∧
      u.kdp.store = some (s.kdp.joinStore r (max s.now t)) := by
  obtain ⟨e, he, hr, -, -, -, -, hk, ha, -⟩ := Obj.isEntry_elim entry_storeAll
  have hentry : entryOf e.key = some e := by rw [hk]; exact he
  simp only [State.sets, State.writes, he, Bool.and_eq_true, Option.isNone_iff_eq_none, beq_iff_eq, Bool.not_eq_true'] at h
  obtain ⟨⟨⟨hn, hrec⟩, hdual⟩, ⟨hfails, hwake⟩, hdue⟩ := h
  have hnow : (s.heard t cr).now = max s.now t := State.heard_now ..
  rw [hnow] at hdue
  have haccepts : s.accepts t cr e (.num v) = true := by
    simp [State.accepts, hrec, hdual, hfails, hwake]
  have happly : ∀ u : State, u.applyWrite cr e (.num v) = u := fun u => by
    rw [State.applyWrite_plain _ _ _ _ (by simp [Entry.isRws, ha, hr]) (by simp [Entry.command, hr]) (by simp [hr])]
    simp only [State.writeNum, State.writeTaskObj, hr, Option.orElse_some, Option.getD_some]
  refine ⟨_, s.writeReq t cr Obj.storeAll (.num v), rfl, rfl, ?_⟩
  unfold State.hostSet
  dsimp only
  rw [State.hostWrite_accepted haccepts hn he, hdue, State.enqueue_due (State.heard_noneDue hn)
    (by simp [PendWrite.sluice, hentry, hr]) hnow.symm, State.answerWrite_stores _ _ (by simp [PendWrite.stores, hk])]
  have hmembers : (s.heard t cr).applyMembers
      { req := s.writeReq t cr Obj.storeAll (.num v), due := max s.now t, members := [(e.key, .num v)] } = s.heard t cr := by
    unfold State.applyMembers
    simp only [forEach, List.foldl_cons, List.foldl_nil, hentry]
    exact happly _
  rw [hmembers]
  refine ⟨State.heard_sent .., ?_⟩
  show some ((s.heard t cr).kdp.joinStore _ (s.heard t cr).now) = _
  rw [State.heard_kdp, hnow]

/-- What is sent stays sent where an answer follows. -/
theorem State.respond_mem_sent (u : State) (r : KdpReq) (code detail : Nat) (last : Bool) (l : List Byte) (tag : Option Nat)
    {x : Out} (h : x ∈ u.sent) : x ∈ (u.respond r code detail last l tag).sent := by
  have hbump : ∀ cs : List Ch, x ∈ (if code = 0 then u else forEach cs u fun s c => s.bumpC c Obj.kdpAbortsSent).sent := by
    intro cs
    split
    · exact h
    · exact forEach_mem_sent (fun s c => s.bumpC c Obj.kdpAbortsSent) (fun _ _ _ h => h) cs u h
  unfold State.respond
  split
  · exact h
  · show x ∈ (u.sendResponse r r.holders code detail last l _).sent
    unfold State.sendResponse
    dsimp only
    split
    · exact forEach_mem_sent _ (fun _ _ _ h => State.sendTo_sent _ _ _ _ _ h) _ _ (List.mem_cons_of_mem _ (hbump _))
    · exact List.mem_cons_of_mem _ (hbump _)

/-- Every waiting request of a store is answered. -/
theorem State.forEach_respond_gives (l : List KdpReq) (u : State) {r : KdpReq} (hr : r ∈ l) (hf : r.frame.isEmpty = false) :
    (forEach l u fun s r => s.respond r 0 r.detail r.last).gives r 0 r.detail r.last [] := by
  unfold forEach
  induction l generalizing u with
  | nil => cases hr
  | cons q l ih =>
    rw [List.foldl_cons]
    rcases List.mem_cons.1 hr with rfl | hr
    · obtain ⟨who, tag, frames, hsent⟩ := State.respond_gives u r 0 r.detail r.last [] hf
      exact ⟨who, tag, frames, forEach_mem_sent _ (fun _ _ _ h => State.respond_mem_sent _ _ _ _ _ _ _ h) l _ hsent⟩
    · exact ih _ hr

/-- `s` with an image stored in channel `c` (R74). -/
def State.putImage (s : State) (m : Image) (c : Ch) : State :=
  { s with su := { s.su with images := s.su.images.set c m, imageOk := s.su.imageOk.set c true } }

/-- The image of a channel is good, and the given one. -/
def State.hasImage (s : State) (m : Image) (c : Ch) : Prop := s.su.images.get c = m ∧ s.su.imageOk.get c = true

theorem State.putImage_hasImage (u : State) (m : Image) (c d : Ch) (h : c = d ∨ u.hasImage m c) :
    (u.putImage m d).hasImage m c := by
  unfold State.hasImage at *
  cases c <;> cases d <;> simp_all [State.putImage, Trio.set, Trio.get]

/-- Every channel of a list has the image that is stored in each. -/
theorem State.forEach_putImage (m : Image) (l : List Ch) (u : State) (c : Ch) (h : c ∈ l ∨ u.hasImage m c) :
    (forEach l u fun s c => s.putImage m c).hasImage m c := by
  unfold forEach
  induction l generalizing u with
  | nil => exact h.resolve_left (by simp)
  | cons d l ih =>
    rw [List.foldl_cons]
    rcases h with h | h
    · rcases List.mem_cons.1 h with rfl | h
      · exact ih _ (.inr (State.putImage_hasImage _ _ _ _ (.inl rfl)))
      · exact ih _ (.inl h)
    · exact ih _ (.inr (State.putImage_hasImage _ _ _ _ (.inr h)))

/-- The end of a store without a summary copy: every running channel's image is the configuration, and every request is
answered (R74). -/
theorem exec_storeComplete_answers {x : Nat} {l : List KdpReq} (h : s.kdp.store = some (l, x))
    (hcopy : ∀ c, s.running c = true → (s.sed.get c).copy = none) :
    ∃ u, exec (.storeComplete t) s = .next (s.after t u) ∧ u.kdp.store = none ∧
      (∀ r ∈ l, r.frame.isEmpty = false → u.gives r 0 r.detail r.last []) ∧
      ∀ c, s.running c = true → u.hasImage (s.upTo t).imageNow c := by
  have hstore : (s.upTo t).kdp.store = some (l, x) := h
  have hidle : ((Ch.all.filter (s.upTo t).running).any fun c => ((s.upTo t).sed.get c).copy.isSome) = false := by
    simp only [List.any_eq_false, List.mem_filter, Bool.not_eq_true, Option.isSome_eq_false_iff, Option.isNone_iff_eq_none]
    exact fun c hc => hcopy c hc.2
  have hexec : exec (.storeComplete t) s = .next (s.after t
      (forEach l ((s.upTo t).storeImage.updKdp fun k => { k with store := none }) fun s r => s.respond r 0 r.detail r.last)) := by
    show execStoreComplete t s = _
    unfold execStoreComplete State.run
    dsimp only
    rw [hstore]
    exact congrArg (fun u => Host.Outcome.next (s.after t u)) (if_neg (Bool.eq_false_iff.1 hidle))
  refine ⟨_, hexec, ?_, fun r hr hf => State.forEach_respond_gives l _ hr hf, fun c hc => ?_⟩
  · refine (forEach_eq (fun u => u.kdp.store) _ (fun u r => ?_) l _).trans rfl
    obtain ⟨a, ha⟩ := State.respond_kdp u r 0 r.detail r.last [] none
    rw [ha]
  · unfold State.hasImage
    rw [forEach_eq (fun u => u.su) _ (fun u r => State.respond_su ..)]
    exact State.forEach_putImage (s.upTo t).imageNow _ (s.upTo t) c
      (.inl (List.mem_filter.2 ⟨by cases c <;> simp [Ch.all], hc⟩))

/-- RESTORE_DEFAULTS leaves no string set, and answers (R89). -/
theorem exec_restoreDefaults_clears {v : Int} (h : s.sets t cr Obj.restoreDefaults v = true) :
    ∃ u, exec (.restoreDefaults t cr v) s = .next (s.after t u) ∧ u.acks cr ∧ ∀ c, u.strs.get c = [] := by
  obtain ⟨e, q, tag, ⟨hr, -⟩, hacks, hset⟩ := State.sets_acts h entry_restoreDefaults (by decide) (by decide)
  refine ⟨_, congrArg (fun u => Host.Outcome.next (s.after t u)) hset, hacks, fun c => ?_⟩
  have happly : ∀ u : State, (u.applyWrite cr e (.num v)).strs = Trio.all [] := fun u => by
    simp only [State.applyWrite, hr, State.noteCommand_strs, beq_self_eq_true, if_true]
    rfl
  rw [State.respond_strs, happly]
  cases c <;> rfl

end

/-- Settles O18: a write that is taken acts through its role's effect and is answered, every such effect leaves the object at the
value, and one whose instant lies later waits. -/
theorem acceptedWritesAreHeld : Obligations.AcceptedWritesAreHeld := by
  unfold Obligations.AcceptedWritesAreHeld
  refine ⟨fun t cr o e v s h he hk hr hs => ?_, fun t cr o e v s h he hk ho hh => exec_configWrite_holds h he hk ho hh,
    fun t cr o e v s h he hk _ hp => exec_configWrite_plain h he hk hp,
    fun t cr o e v s h he hk ho => ⟨fun hr hobj => exec_configWrite_objDesc h he hk hr hobj,
      fun hr hh => exec_configWrite_streamDesc h he hk ho hr hh⟩,
    fun t cr o e b s h he hk ho hr hs hsl => exec_configWrite_string h he hk ho hr hs hsl,
    fun t cr o e v s h hn he hk hlater => exec_configWrite_waits h hn he hk hlater, fun _ _ _ _ => rfl, fun t cr v s h => ?_,
    fun t x l s h hcopy => exec_storeComplete_answers h hcopy, fun t cr v s h => exec_restoreDefaults_clears h⟩
  · obtain ⟨tag, hexec⟩ := exec_configWrite_acts h he hk hr hs
    exact ⟨_, hexec, State.respond_writeReq_acks ..⟩
  · obtain ⟨u, r, hexec, hr, hsent, hstore⟩ := exec_storeAll_joins h
    refine ⟨u, r, hexec, hr, hsent, hstore.trans ?_⟩
    unfold Kdp.joinStore
    cases s.kdp.store <;> rfl

end Sys2Proof.Machine

end


section
/-! ## Host lanes and the grandmasters of the ports (R26, R28, R91, R98, R100) -/

namespace Sys2Proof.Machine

section
variable {t : Nat} {c : Ch} {p : Port} {s : State}

-- lanes

/-- HOST_LANE_LINK_CHANGE sets the lane's bit to whether the lane has its link, and changes no other register (R91). -/
theorem exec_hostLaneLinkChange_sets (aligned control : Bool) :
    ∃ u, exec (.hostLaneLinkChange t c p aligned control) s = .next (s.after t u) ∧
      u.isBit Obj.hostLaneStatus (2 * c.num + p.num) = (s.receives && s.isBit Obj.hostLaneEnable (2 * c.num + p.num) &&
        aligned && (control || s.v Obj.sgmiiAnEnable == 0)) ∧
      (∀ i, i ≠ 2 * c.num + p.num → u.isBit Obj.hostLaneStatus i = s.isBit Obj.hostLaneStatus i) ∧
      (∀ d o, o.key ≠ Obj.hostLaneStatus.key → u.g d o = s.g d o) ∧ u.sent = s.sent :=
  ⟨_, rfl, State.isBit_bitR_self .., fun _ hi => State.isBit_bitR_ne _ _ _ hi, fun _ _ ho => State.g_setR_key _ _ _ ho, rfl⟩

/-- A frame that a lane takes for an IP version that its port serves is answered where the last condition holds (R95, R98). -/
theorem State.ite_served {h : FrameHdr} {v6 : Bool} (hup : s.laneUp c p = true) (htakes : s.laneTakes p h = true)
    (hip : s.ipServed p v6 = true) (b : Bool) (u w : State) :
    (if s.laneUp c p && s.laneTakes p h && s.ipServed p v6 && b then u else w) = if b then u else w := by
  rw [hup, htakes, hip, Bool.true_and, Bool.true_and, Bool.true_and]

section
variable {h : FrameHdr} (hup : s.laneUp c p = true) (htakes : s.laneTakes p h = true)
include hup htakes

/-- ARP_REQUEST for the port's IPv4 address is answered with its MAC address, another by nothing (R98). -/
theorem exec_arpRequest (ip : Nat) (hip : s.ipServed p false = true) :
    (ip = s.vn (Obj.portIpv4Addr p.num) → exec (.arpRequest t c p h ip) s =
      .next (s.after t ((s.upTo t).send (.lane c p (s.vlanTag p.carrier) 1 (s.portStr c p 1))))) ∧
    (ip ≠ s.vn (Obj.portIpv4Addr p.num) → exec (.arpRequest t c p h ip) s = .next (s.after t (s.upTo t))) := by
  have hexec : exec (.arpRequest t c p h ip) s = .next (s.after t (if ip == s.vn (Obj.portIpv4Addr p.num) then
      (s.upTo t).send (.lane c p (s.vlanTag p.carrier) 1 (s.portStr c p 1)) else s.upTo t)) :=
    congrArg (fun u => Host.Outcome.next (s.after t u)) (State.ite_served (s := s.upTo t) hup htakes hip _ _ _)
  exact ⟨fun heq => by rw [hexec, if_pos (beq_iff_eq.2 heq)], fun hne => by rw [hexec, if_neg (by simpa using hne)]⟩

/-- NEIGHBOUR_SOLICITATION for the port's IPv6 address is answered with its MAC address, another by nothing (R98). -/
theorem exec_neighbourSolicitation (ip : List Byte) (hip : s.ipServed p true = true) :
    (ip = s.portStr c p 5 → exec (.neighbourSolicitation t c p h ip) s =
      .next (s.after t ((s.upTo t).send (.lane c p (s.vlanTag p.carrier) 2 (s.portStr c p 1))))) ∧
    (ip ≠ s.portStr c p 5 → exec (.neighbourSolicitation t c p h ip) s = .next (s.after t (s.upTo t))) := by
  have hexec : exec (.neighbourSolicitation t c p h ip) s = .next (s.after t (if ip == s.portStr c p 5 then
      (s.upTo t).send (.lane c p (s.vlanTag p.carrier) 2 (s.portStr c p 1)) else s.upTo t)) :=
    congrArg (fun u => Host.Outcome.next (s.after t u)) (State.ite_served (s := s.upTo t) hup htakes hip _ _ _)
  exact ⟨fun heq => by rw [hexec, if_pos (beq_iff_eq.2 heq)], fun hne => by rw [hexec, if_neg (by simpa using hne)]⟩

/-- ICMP_ECHO_REQUEST of at most 64 bytes is answered with its data, a longer one by nothing (R98). -/
theorem exec_icmpEchoRequest (data : List Byte) (hip : s.ipServed p h.v6 = true) :
    (data.length ≤ 64 → exec (.icmpEchoRequest t c p h data) s =
      .next (s.after t ((s.upTo t).send (.lane c p (s.vlanTag p.carrier) 3 data)))) ∧
    (64 < data.length → exec (.icmpEchoRequest t c p h data) s = .next (s.after t (s.upTo t))) := by
  have hexec : exec (.icmpEchoRequest t c p h data) s = .next (s.after t (if decide (data.length ≤ 64) then
      (s.upTo t).send (.lane c p (s.vlanTag p.carrier) 3 data) else s.upTo t)) :=
    congrArg (fun u => Host.Outcome.next (s.after t u)) (State.ite_served (s := s.upTo t) hup htakes hip _ _ _)
  exact ⟨fun hl => by rw [hexec, if_pos (decide_eq_true hl)], fun hl => by rw [hexec, if_neg (by simpa using hl)]⟩

end

-- grandmasters

/-- `s` with the grandmaster heard on a port. -/
def State.hearGm (s : State) (p : Nat) (gm : Option (Nat × Nat)) : State := s.updPort p fun x => { x with gm := gm }

theorem State.hearGm_port (gm : Option (Nat × Nat)) : ((s.hearGm p.num gm).port p.num).gm = gm := by
  unfold State.hearGm
  rw [State.port_updPort_self]

theorem State.hearGm_port_ne {k : Nat} (gm : Option (Nat × Nat)) (hk : k ≠ p.num) :
    (s.hearGm p.num gm).port k = s.port k := State.port_updPort_ne _ _ hk

/-- AS_TIME_RECEIVE on a lane that is up of a port with AS_ENABLE (R100). -/
theorem exec_asTimeReceive_heard (q i : Nat) (x : Int) (hen : s.v (Obj.asEnable p.num) = 1) (hup : s.laneUp c p = true) :
    exec (.asTimeReceive t c p q i x) s =
      let h := (s.upTo (max s.now t + (s.hearGm p.num (some (q, i))).asStep p.num x)).hearGm p.num (some (q, i))
      .next (s.after (max s.now t + (s.hearGm p.num (some (q, i))).asStep p.num x)
        (if h.asPort == some p.num && h.isTimeMaster then h.followAs x else h)) := by
  have htakes : ∀ n, ((s.upTo n).v (Obj.asEnable p.num) == 1 && (s.upTo n).laneUp c p) = true := fun n =>
    Bool.and_eq_true_iff.2 ⟨beq_iff_eq.2 hen, hup⟩
  have hnow : (s.v (Obj.asEnable p.num) == 1 && s.laneUp c p) = true := htakes s.now
  show execAsTimeReceive t c p q i x s = _
  unfold execAsTimeReceive State.run
  simp only [htakes, hnow, if_true]
  rfl

/-- AS_TIME_RECEIVE without AS_ENABLE, or on a lane that is down, changes nothing. -/
theorem exec_asTimeReceive_unheard (q i : Nat) (x : Int) (h : s.v (Obj.asEnable p.num) ≠ 1 ∨ s.laneUp c p = false) :
    exec (.asTimeReceive t c p q i x) s = .next (s.after t (s.upTo t)) := by
  have htakes : ∀ n, ((s.upTo n).v (Obj.asEnable p.num) == 1 && (s.upTo n).laneUp c p) = false := fun n =>
    Bool.and_eq_false_iff.2 (h.imp (fun hv => beq_eq_false_iff_ne.2 hv) id)
  have hnow : (s.v (Obj.asEnable p.num) == 1 && s.laneUp c p) = false := htakes s.now
  have htime : s.after (max s.now t) = s.after t := by
    funext u
    simp [State.after]
  show execAsTimeReceive t c p q i x s = _
  unfold execAsTimeReceive State.run
  simp only [htakes, hnow, Nat.add_zero, htime, Bool.false_eq_true, if_false]
  simp [State.upTo]

end

-- what following an 802.1AS time leaves

theorem State.setNear_v (s : State) (b : Bool) {o : Obj} (h : o.key ≠ Obj.timeStatus.key) : (s.setNear b).v o = s.v o :=
  State.v_bitR_key _ _ _ h

theorem State.setNear_isBit (s : State) (b : Bool) {n : Nat} (h : n ≠ 4) :
    (s.setNear b).isBit Obj.timeStatus n = s.isBit Obj.timeStatus n := State.isBit_bitR_ne _ _ _ h

theorem State.setNear_source (s : State) (b : Bool) :
    field ((s.setNear b).v Obj.timeStatus) 0 2 = field (s.v Obj.timeStatus) 0 2 := State.field_bitR _ _ _ (by decide)

/-- A lock leaves the offset in TIME_OFFSET. -/
theorem State.timeLock_offset (s : State) (d r : Int) (tr : Bool) :
    (s.timeLock d r tr).v Obj.timeOffset = clamp (-2147483648) 2147483647 d := by
  have hnote : (s.noteLock d r tr).v Obj.timeOffset = clamp (-2147483648) 2147483647 d := by
    unfold State.noteLock
    rw [State.v_setR_key _ _ (by decide), State.v_bitR_key _ _ _ (by decide), State.setSource,
      State.v_setR_key _ _ (by decide), State.v_setR_self]
  rw [State.timeLock_eq]
  split
  · exact (State.lockFabric_v _ _ (by decide)).trans hnote
  · rw [State.lockFabric_v _ _ (by decide), State.stepBases_v, State.v_bitR_key _ _ _ (by decide), hnote]

/-- The return of a source leaves the offset, what it has locked to, and no HOLDOVER (R28). -/
theorem State.timeReturn_status (s : State) (d r : Int) (tr : Bool) :
    (s.timeReturn d r tr).v Obj.timeOffset = clamp (-2147483648) 2147483647 d ∧
      field ((s.timeReturn d r tr).v Obj.timeStatus) 0 2 = (if tr then 2 else 1) ∧
      (s.timeReturn d r tr).isBit Obj.timeStatus 3 = false := by
  unfold State.timeReturn
  dsimp only
  refine ⟨?_, ?_, ?_⟩
  · rw [State.lockFabric_v _ _ (by decide), State.setSource, State.v_setR_key _ _ (by decide),
      State.v_setR_key _ _ (by decide), State.v_setR_self]
  · rw [State.lockFabric_source, State.setSource, State.v_setR_self, field_withField_self]
    cases tr <;> rfl
  · rw [State.lockFabric_isBit _ _ (by decide), State.setSource, State.isBit, State.v_setR_self,
      bit_withField_above _ _ (by decide), State.v_setR_key _ _ (by decide), State.v_setR_key _ _ (by decide), ← State.isBit,
      State.isBit_bitR_self]

theorem State.timeLock_ports (s : State) (d r : Int) (tr : Bool) : (s.timeLock d r tr).ports = s.ports := by
  rw [State.timeLock_eq]
  split
  · rfl
  · obtain ⟨u, hstep, hu⟩ := (s.noteLock d r tr).stepBases_eq (s.lockStep d) (fun s => s.ports) fun _ _ _ _ => rfl
    rw [hstep]
    exact hu

theorem State.followAs_ports (s : State) (x : Int) : (s.followAs x).ports = s.ports := by
  unfold State.followAs
  dsimp only
  split
  · rfl
  · exact State.timeLock_ports ..

/-- Following an 802.1AS time: the offset, a traceable source, no HOLDOVER, and AS_LOCKED by the offset or the step (R26, R30). -/
theorem State.followAs_status (s : State) (x : Int) :
    (s.followAs x).v Obj.timeOffset = clamp (-2147483648) 2147483647 x ∧
      field ((s.followAs x).v Obj.timeStatus) 0 2 = 2 ∧ (s.followAs x).isBit Obj.timeStatus 3 = false ∧
      (s.followAs x).isBit Obj.timeStatus 5 = (s.lockStep x != 0 || decide (x.natAbs ≤ 300)) := by
  have hlocked : ∀ w b, w = (if s.isBit Obj.timeStatus 3 then s.timeReturn x s.freeRate true else s.timeLock x s.freeRate true) →
      ((w.useFree.lockAs b).setNear true).v Obj.timeOffset = clamp (-2147483648) 2147483647 x ∧
      field (((w.useFree.lockAs b).setNear true).v Obj.timeStatus) 0 2 = 2 ∧
      ((w.useFree.lockAs b).setNear true).isBit Obj.timeStatus 3 = false ∧
      ((w.useFree.lockAs b).setNear true).isBit Obj.timeStatus 5 = b := by
    intro w b hw
    have hsource : w.v Obj.timeOffset = clamp (-2147483648) 2147483647 x ∧ field (w.v Obj.timeStatus) 0 2 = 2 ∧
        w.isBit Obj.timeStatus 3 = false := by
      subst hw
      split
      · exact s.timeReturn_status x _ true
      · obtain ⟨hsrc, hhold, -⟩ := s.timeLock_status x s.freeRate true
        exact ⟨s.timeLock_offset x _ true, hsrc, hhold⟩
    obtain ⟨hoff, hsrc, hhold⟩ := hsource
    refine ⟨?_, ?_, ?_, ?_⟩
    · exact (State.setNear_v _ _ (by decide)).trans ((State.v_bitR_key _ _ _ (by decide)).trans hoff)
    · exact (State.setNear_source _ _).trans ((State.field_bitR _ _ _ (by decide)).trans hsrc)
    · exact (State.setNear_isBit _ _ (by decide)).trans ((State.isBit_bitR_ne _ _ _ (by decide)).trans hhold)
    · exact (State.setNear_isBit _ _ (by decide)).trans (State.isBit_bitR_self ..)
  exact hlocked _ _ rfl

section
variable {t : Nat} {c : Ch} {p : Port} {s h : State}

/-- AS_TIME_RECEIVE where the port is not the one that disciplines the fabric's time: it is known, and nothing more. -/
theorem exec_asTimeReceive_known (q i : Nat) (x : Int) (hh : h = s.hearGm p.num (some (q, i)))
    (hen : s.v (Obj.asEnable p.num) = 1) (hup : s.laneUp c p = true)
    (hother : s.isTimeMaster = false ∨ h.asPort ≠ some p.num) :
    ∃ u, exec (.asTimeReceive t c p q i x) s = .next (s.after t u) ∧ (u.port p.num).gm = some (q, i) ∧
      u.regs = s.regs ∧ u.fab = s.fab ∧ u.sent = s.sent ∧ ∀ k, k ≠ p.num → u.port k = s.port k := by
  subst hh
  have hunused : ∀ n, (((s.upTo n).hearGm p.num (some (q, i))).asPort == some p.num &&
      ((s.upTo n).hearGm p.num (some (q, i))).isTimeMaster) = false := fun n =>
    Bool.and_eq_false_iff.2 (hother.symm.imp (fun hp => beq_eq_false_iff_ne.2 hp) id)
  have hstep : (s.hearGm p.num (some (q, i))).asStep p.num x = 0 := if_neg (Bool.eq_false_iff.1 (hunused s.now))
  have hexec := exec_asTimeReceive_heard (t := t) q i x hen hup
  simp only [hstep, hunused, Nat.add_zero, Bool.false_eq_true, if_false] at hexec
  refine ⟨(s.upTo (max s.now t)).hearGm p.num (some (q, i)), hexec.trans ?_, State.hearGm_port _, rfl, rfl, rfl,
    fun k hk => State.hearGm_port_ne _ hk⟩
  simp [State.after]

/-- AS_TIME_RECEIVE of the port in use on the fabric's time master: fabric time is disciplined to it (R26, R30, R100). -/
theorem exec_asTimeReceive_follows (q i : Nat) (x : Int) (hh : h = s.hearGm p.num (some (q, i)))
    (hen : s.v (Obj.asEnable p.num) = 1) (hup : s.laneUp c p = true) (hmaster : s.isTimeMaster = true)
    (hport : h.asPort = some p.num) :
    ∃ u, exec (.asTimeReceive t c p q i x) s = .next (s.after (max s.now t + h.lockStep x) u) ∧
      (u.port p.num).gm = some (q, i) ∧ u.v Obj.timeOffset = clamp (-2147483648) 2147483647 x ∧
      field (u.v Obj.timeStatus) 0 2 = 2 ∧ u.isBit Obj.timeStatus 3 = false ∧
      u.isBit Obj.timeStatus 5 = (h.lockStep x != 0 || decide (x.natAbs ≤ 300)) := by
  subst hh
  have hused : ∀ n, (((s.upTo n).hearGm p.num (some (q, i))).asPort == some p.num &&
      ((s.upTo n).hearGm p.num (some (q, i))).isTimeMaster) = true := fun n =>
    Bool.and_eq_true_iff.2 ⟨beq_iff_eq.2 hport, hmaster⟩
  have hstep : (s.hearGm p.num (some (q, i))).asStep p.num x = (s.hearGm p.num (some (q, i))).lockStep x :=
    if_pos (hused s.now)
  have hexec := exec_asTimeReceive_heard (t := t) q i x hen hup
  simp only [hstep, hused, if_true] at hexec
  obtain ⟨hoff, hsrc, hhold, hlock⟩ :=
    ((s.upTo (max s.now t + (s.hearGm p.num (some (q, i))).lockStep x)).hearGm p.num (some (q, i))).followAs_status x
  refine ⟨_, hexec, ?_, hoff, hsrc, hhold, hlock⟩
  rw [State.port, State.followAs_ports]
  exact State.hearGm_port _

/-- AS_GRANDMASTER_LOSS leaves the port without a grandmaster; the fabric's time is lost with the last one of its master
(R28, R100). -/
theorem exec_asGrandmasterLoss_loses (hh : h = s.hearGm p.num none) :
    ∃ u, exec (.asGrandmasterLoss t p) s = .next (s.after t u) ∧ (u.port p.num).gm = none ∧ u.sent = s.sent ∧
      (∀ k, k ≠ p.num → u.port k = s.port k) ∧
      (s.isTimeMaster = false ∨ s.asPort ≠ some p.num ∨ h.asPort ≠ none → u.regs = s.regs ∧ u.fab = s.fab) ∧
      (s.isTimeMaster = true → s.asPort = some p.num → h.asPort = none →
        u.isBit Obj.timeStatus 5 = false ∧
        (field (s.v Obj.timeStatus) 0 2 ≠ 0 → u.isBit Obj.timeStatus 3 = true)) := by
  subst hh
  have hexec : exec (.asGrandmasterLoss t p) s = .next (s.after t ((s.upTo t).loseGm p.num)) := rfl
  have hlose : (s.upTo t).loseGm p.num =
      if s.asPort == some p.num && s.isTimeMaster && (s.hearGm p.num none).asPort.isNone then
        ((s.upTo t).hearGm p.num none).timeLoss.lockAs false else (s.upTo t).hearGm p.num none := rfl
  have hloss : ((s.upTo t).hearGm p.num none).timeLoss.ports = ((s.upTo t).hearGm p.num none).ports ∧
      ((s.upTo t).hearGm p.num none).timeLoss.sent = s.sent := by
    unfold State.timeLoss
    split <;> exact ⟨rfl, rfl⟩
  refine ⟨(s.upTo t).loseGm p.num, hexec, ?_⟩
  by_cases hlast : (s.asPort == some p.num && s.isTimeMaster && (s.hearGm p.num none).asPort.isNone) = true
  · rw [hlose, if_pos hlast]
    simp only [Bool.and_eq_true, beq_iff_eq, Option.isNone_iff_eq_none] at hlast
    obtain ⟨⟨hport, hmaster⟩, hnone⟩ := hlast
    have hports : ∀ k, (((s.upTo t).hearGm p.num none).timeLoss.lockAs false).port k =
        ((s.upTo t).hearGm p.num none).port k := fun k => by
      unfold State.port
      rw [← hloss.1]
      rfl
    refine ⟨?_, hloss.2, fun k hk => ?_, fun hkeep => ?_, fun _ _ _ => ⟨State.isBit_bitR_self .., fun hsrc => ?_⟩⟩
    · rw [hports]
      exact State.hearGm_port _
    · rw [hports]
      exact State.hearGm_port_ne _ hk
    · rcases hkeep with hm | hp | hn
      · simp [hmaster] at hm
      · exact absurd hport hp
      · exact absurd hnone hn
    · have hheld : ((s.upTo t).hearGm p.num none).timeLoss = ((s.upTo t).hearGm p.num none).bitR Obj.timeStatus 3 true :=
        if_neg hsrc
      rw [State.lockAs, State.isBit_bitR_ne _ _ _ (by decide), hheld, State.isBit_bitR_self]
  · rw [hlose, if_neg hlast]
    refine ⟨State.hearGm_port _, rfl, fun k hk => State.hearGm_port_ne _ hk, fun _ => ⟨rfl, rfl⟩,
      fun hm hp hn => absurd ?_ hlast⟩
    simp [hm, hp, hn]

end

/-- Settles O24: each lane frame is decided by the one condition on its address or length, and an 802.1AS time acts on the
fabric's time where the port is in use on the time master. -/
theorem hostLanesAndGrandmasters : Obligations.HostLanesAndGrandmasters := by
  unfold Obligations.HostLanesAndGrandmasters
  refine ⟨⟨fun t c p aligned control s => exec_hostLaneLinkChange_sets aligned control,
      fun t c p h ip s hup htakes hip => exec_arpRequest hup htakes ip hip,
      fun t c p h ip s hup htakes hip => exec_neighbourSolicitation hup htakes ip hip,
      fun t c p h data s hup htakes hip => exec_icmpEchoRequest hup htakes data hip⟩,
    fun t c p q i x s h hh => ⟨fun hen hup => ⟨fun hother => exec_asTimeReceive_known q i x hh hen hup hother,
        fun hmaster hport => exec_asTimeReceive_follows q i x hh hen hup hmaster hport⟩,
      fun hoff => exec_asTimeReceive_unheard q i x hoff⟩,
    fun t p s h hh => exec_asGrandmasterLoss_loses hh⟩

end Sys2Proof.Machine

end


section
/-! ## Cyclic command frames: copies, agreement, and their end (R106, R107, R108, R112, R118) -/

namespace Sys2Proof.Machine

-- one copy

/-- What a channel does with a command frame that passes the checks (R106, R107). -/
def State.holdCopy (s : State) (c : Ch) (p : Nat) (frame : List Byte) : State :=
  let s := (s.expireCyc p frame).send (.strap c .digest (leBytes 4 (crc32c frame)))
  if ((s.port p).copiesOf frame).any (fun x => x.1 == c) || (s.port p).taken.any (fun x => x.1 == frame && s.now ≤ x.2) then s
  else s.updPort p fun x => { x with copies := x.copies ++ [(c, frame, s.now)] }

section
variable {t : Nat} {c : Ch} {p : Port} {h : FrameHdr} {frame : List Byte} {s : State}

/-- CYCLIC_COMMAND_FRAME that a lane takes for the port's cyclic UDP port, after DUAL was first reached. -/
theorem exec_cyclicCommandFrame (hdual : s.red.reachedDual = true) (hup : s.laneUp c p = true)
    (htakes : s.laneTakes p h = true) (hip : s.ipServed p h.v6 = true) (hport : h.port = s.vn (Obj.cyclicUdpPort p.num)) :
    exec (.cyclicCommandFrame t c p h frame) s = .next (s.after t (if s.cyclicOk p.num frame then
      (s.upTo t).holdCopy c p.num frame else (s.upTo t).bumpC c (Obj.cycDiscarded p.num))) := by
  have htaken : (!(s.upTo t).red.reachedDual || !(s.upTo t).laneUp c p || !(s.upTo t).laneTakes p h ||
      !(s.upTo t).ipServed p h.v6 || h.port != (s.upTo t).vn (Obj.cyclicUdpPort p.num)) = false := by
    have hup' : (s.upTo t).laneUp c p = true := hup
    have htakes' : (s.upTo t).laneTakes p h = true := htakes
    have hip' : (s.upTo t).ipServed p h.v6 = true := hip
    simp [hdual, hup', htakes', hip', hport]
  have hok : (s.upTo t).cyclicOk p.num frame = s.cyclicOk p.num frame := rfl
  show execCyclicCommandFrame t c p h frame s = _
  unfold execCyclicCommandFrame State.run
  simp only [htaken, hok, Bool.false_eq_true, if_false]
  cases s.cyclicOk p.num frame <;> rfl

/-- While the window of the copies held is open, none is dropped. -/
theorem State.expireCyc_open {n : Nat} (hwin : ∀ x ∈ (s.port n).copiesOf frame, s.now < s.cycEnd n ((s.port n).copiesOf frame)) :
    s.expireCyc n frame = s := by
  unfold State.expireCyc
  refine if_pos ?_
  cases hl : (s.port n).copiesOf frame with
  | nil => rfl
  | cons x l =>
    have hopen := hwin x (by simp [hl])
    rw [hl] at hopen
    simp [hopen]

/-- A first copy of a channel, of a frame not agreed within its window, is held with its arrival time (R107). -/
theorem State.holdCopy_first {n : Nat} (hwin : ∀ x ∈ (s.port n).copiesOf frame, s.now < s.cycEnd n ((s.port n).copiesOf frame))
    (hfirst : ∀ x ∈ (s.port n).copiesOf frame, x.1 ≠ c) (hnew : ∀ x ∈ (s.port n).taken, x.1 = frame → x.2 < s.now) :
    s.holdCopy c n frame = (s.send (.strap c .digest (leBytes 4 (crc32c frame)))).updPort n fun x =>
      { x with copies := x.copies ++ [(c, frame, s.now)] } := by
  unfold State.holdCopy
  rw [State.expireCyc_open hwin]
  refine if_neg ?_
  simp only [Bool.or_eq_true, List.any_eq_true, Bool.and_eq_true, beq_iff_eq, decide_eq_true_eq, not_or, not_exists, not_and]
  exact ⟨fun x hx => hfirst x hx, fun x hx hf => Nat.not_le.2 (hnew x hx hf)⟩

/-- A further copy of a channel, or a copy of a frame agreed within its window, is not held (R107). -/
theorem State.holdCopy_further {n : Nat} (hwin : ∀ x ∈ (s.port n).copiesOf frame, s.now < s.cycEnd n ((s.port n).copiesOf frame))
    (hold : (∃ x ∈ (s.port n).copiesOf frame, x.1 = c) ∨ ∃ x ∈ (s.port n).taken, x.1 = frame ∧ s.now ≤ x.2) :
    s.holdCopy c n frame = s.send (.strap c .digest (leBytes 4 (crc32c frame))) := by
  unfold State.holdCopy
  rw [State.expireCyc_open hwin]
  refine if_pos ?_
  simp only [Bool.or_eq_true, List.any_eq_true, Bool.and_eq_true, beq_iff_eq, decide_eq_true_eq]
  exact hold

end

-- agreement

/-- No copy of a frame is held once its copies are dropped. -/
theorem PortSt.copiesOf_dropped (x : PortSt) (frame : List Byte) :
    ({ x with copies := x.copies.filter fun y => y.2.1 != frame } : PortSt).copiesOf frame = [] := by
  unfold PortSt.copiesOf
  rw [List.filterMap_eq_nil_iff]
  intro y hy
  have hne := (List.mem_filter.1 hy).2
  rw [if_neg (by simpa using hne)]

theorem State.forEach_restartLease (l : List Nat) (s : State) (g : Nat) :
    (forEach l s State.restartLease).sem g = if g ∈ l then { s.sem g with restart := s.now } else s.sem g := by
  induction l generalizing s with
  | nil => rfl
  | cons k l ih =>
    have hstep := ih (s.restartLease k)
    have hnow : (s.restartLease k).now = s.now := rfl
    rw [hnow] at hstep
    refine hstep.trans ?_
    unfold State.restartLease
    by_cases hk : g = k
    · subst hk
      rw [State.sem_updSem_self]
      simp
    · rw [State.sem_updSem_ne _ _ hk]
      simp [hk]

/-- Accepting a frame restarts every lease that its port holds (R118). -/
theorem State.renewLeases_sem (s : State) (p : Port) {g : Nat} (hg : g < 16) (hh : (s.sem g).holder = some p) :
    ((s.renewLeases p).sem g).restart = s.now := by
  unfold State.renewLeases
  rw [State.forEach_restartLease, if_pos]
  simp [upto, hg, hh]

theorem State.renewLeases_keeps {β : Type} (q : State → β) (hq : ∀ s g f, q (State.updSem s g f) = q s) (s : State) (p : Port) :
    q (s.renewLeases p) = q s := forEach_eq q _ (fun s g => hq s g _) _ _

theorem le_ceilDiv_mul (a : Nat) {d : Nat} (hd : d ≠ 0) : a ≤ ceilDiv a d * d := by
  have hmod := Nat.mod_add_div (a + d - 1) d
  have hlt := Nat.mod_lt (a + d - 1) (Nat.pos_of_ne_zero hd)
  unfold ceilDiv
  rw [Nat.mul_comm]
  omega

theorem ceilDiv_mul_lt (a : Nat) {d : Nat} (hd : d ≠ 0) : ceilDiv a d * d < a + d := by
  have hmod := Nat.mod_add_div (a + d - 1) d
  unfold ceilDiv
  rw [Nat.mul_comm]
  omega

/-- `s` with the copies of a frame agreed now dropped, its port heard, and the leases of the port restarted (R107, R112, R118). -/
def State.acceptCyc (s : State) (p : Port) (frame : List Byte) (until_ : Nat) : State :=
  ((s.keepCyc p.num frame until_).noteHeard p.carrier).renewLeases p

theorem Port.carrier_port (p : Port) : p.carrier.port? = some p := by cases p <;> rfl

theorem State.noteHeard_port (s : State) (p : Port) :
    (s.noteHeard p.carrier).port p.num = { s.port p.num with heard := s.now, silent := false } := by
  have hheard : s.noteHeard p.carrier = (s.updPort p.num fun x => { x with heard := s.now, silent := false }).updPower
      fun x => { x with idleFrom := s.now } := by
    unfold State.noteHeard
    rw [Port.carrier_port]
    rfl
  rw [hheard]
  exact s.port_updPort_self p.num fun x => { x with heard := s.now, silent := false }

section
variable (s : State) (p : Port) (frame : List Byte) (w : Nat)

theorem State.acceptCyc_keeps {β : Type} (q : State → β) (hport : ∀ s n f, q (State.updPort s n f) = q s)
    (hpower : ∀ s f, q (State.updPower s f) = q s) (hsem : ∀ s g f, q (State.updSem s g f) = q s) :
    q (s.acceptCyc p frame w) = q s := by
  unfold State.acceptCyc
  rw [State.renewLeases_keeps q hsem]
  unfold State.noteHeard
  rw [Port.carrier_port]
  dsimp only
  rw [hpower, hport, State.keepCyc, hport, State.dropCyc, hport]

theorem State.acceptCyc_now : (s.acceptCyc p frame w).now = s.now :=
  s.acceptCyc_keeps p frame w (fun s => s.now) (fun _ _ _ => rfl) (fun _ _ => rfl) (fun _ _ _ => rfl)

theorem State.acceptCyc_regs : (s.acceptCyc p frame w).regs = s.regs :=
  s.acceptCyc_keeps p frame w (fun s => s.regs) (fun _ _ _ => rfl) (fun _ _ => rfl) (fun _ _ _ => rfl)

theorem State.acceptCyc_port : (s.acceptCyc p frame w).port p.num =
    { s.port p.num with
      copies := (s.port p.num).copies.filter fun y => y.2.1 != frame
      taken := ((s.port p.num).taken.filter fun y => s.now ≤ y.2) ++ [(frame, w)]
      heard := s.now, silent := false } := by
  have hport : (s.acceptCyc p frame w).port p.num = ((s.keepCyc p.num frame w).noteHeard p.carrier).port p.num :=
    State.renewLeases_keeps (fun s => s.port p.num) (fun _ _ _ => rfl) _ p
  rw [hport, State.noteHeard_port, State.keepCyc, State.port_updPort_self, State.dropCyc, State.port_updPort_self]
  rfl

theorem State.acceptCyc_sem {g : Nat} (hg : g < 16) (hh : (s.sem g).holder = some p) :
    ((s.acceptCyc p frame w).sem g).restart = s.now := by
  unfold State.acceptCyc
  have hheard : ((s.keepCyc p.num frame w).noteHeard p.carrier).sem g = s.sem g := by
    unfold State.sem
    rw [State.noteHeard_sems]
    rfl
  rw [State.renewLeases_sem _ _ hg (by rw [hheard, hh]), State.noteHeard_now]
  rfl

end

/-- The agreed frame as it waits for its boundary (R108). -/
def State.cycFrame (s : State) (p : Nat) (frame : List Byte) : CycFrame :=
  { counter := bytesAt frame 2 2, payload := (frame.drop 16).take (frame.length - 20), agreed := s.now, due := s.cycDue p }

/-- An agreed frame misses the next boundary (R108). -/
def State.cycMisses (s : State) (p : Nat) : Bool := s.cycDue p != ceilDiv s.now (s.cycle p) * s.cycle p

theorem State.queueCyc_port (s : State) (p : Nat) (frame : List Byte) :
    (s.queueCyc p frame).port p = { s.port p with frames := (s.port p).frames ++ [s.cycFrame p frame] } := by
  unfold State.queueCyc
  dsimp only
  rw [State.port_updPort_self]
  split <;> rfl

theorem State.queueCyc_regs (s : State) (p : Nat) (frame : List Byte) : (s.queueCyc p frame).regs =
    if s.cycMisses p then (s.bumpC .chA (Obj.cycLate p)).regs else s.regs := by
  unfold State.queueCyc State.cycMisses
  by_cases hd : s.cycDue p = ceilDiv s.now (s.cycle p) * s.cycle p <;> simp [hd]

theorem State.queueCyc_sem (s : State) (p : Nat) (frame : List Byte) (g : Nat) : (s.queueCyc p frame).sem g = s.sem g := by
  unfold State.queueCyc
  dsimp only
  split <;> rfl

section
variable {t : Nat} {p : Port} {frame : List Byte} {s : State}

/-- CYCLIC_FRAME_AGREED with copies of a voting majority within the window (R107). -/
theorem exec_cyclicFrameAgreed (hdual : s.red.reachedDual = true) (hheld : (s.port p.num).copiesOf frame ≠ [])
    (hmaj : s.isMajority (s.cycHolders p.num ((s.port p.num).copiesOf frame)) = true) :
    exec (.cyclicFrameAgreed t p frame) s = .next (s.after t (((s.upTo t).acceptCyc p frame
      (s.cycEnd p.num ((s.port p.num).copiesOf frame))).queueCyc p.num frame)) := by
  have hagreed : ((s.port p.num).copiesOf frame).isEmpty = false := by simpa using hheld
  have hmaj' : (s.upTo t).isMajority ((s.upTo t).cycHolders p.num (((s.upTo t).port p.num).copiesOf frame)) = true := hmaj
  show execCyclicFrameAgreed t p frame s = _
  unfold execCyclicFrameAgreed State.run
  dsimp only
  rw [State.upTo_port, hagreed]
  simp only [State.upTo_port] at hmaj'
  rw [hmaj']
  simp only [hdual, State.upTo_red, Bool.not_true, Bool.or_false, Bool.false_eq_true, if_false]
  rfl

/-- CYCLIC_FRAME_AGREED leaves the frame waiting, its port heard and the port's leases restarted (R108, R112, R118). -/
theorem exec_cyclicFrameAgreed_waits (hdual : s.red.reachedDual = true) (hcycle : s.cycle p.num ≠ 0)
    (hheld : (s.port p.num).copiesOf frame ≠ [])
    (hmaj : s.isMajority (s.cycHolders p.num ((s.port p.num).copiesOf frame)) = true) :
    ∃ u x, exec (.cyclicFrameAgreed t p frame) s = .next (s.after t u) ∧
      (u.port p.num).frames = (s.port p.num).frames ++ [x] ∧
      x.counter = bytesAt frame 2 2 ∧ x.agreed = max s.now t ∧ max s.now t + 3000 ≤ x.due ∧
      x.due < max s.now t + 3000 + s.cycle p.num ∧ x.due % s.cycle p.num = 0 ∧
      (u.port p.num).copiesOf frame = [] ∧ (u.port p.num).heard = max s.now t ∧ (u.port p.num).silent = false ∧
      (∀ g, g < 16 → (s.sem g).holder = some p → (u.sem g).restart = max s.now t) ∧
      (x.due = ceilDiv (max s.now t) (s.cycle p.num) * s.cycle p.num → u.regs = s.regs) ∧
      (x.due ≠ ceilDiv (max s.now t) (s.cycle p.num) * s.cycle p.num →
        u.g .chA (Obj.cycLate p.num) = wrapU32 (s.g .chA (Obj.cycLate p.num) + 1)) := by
  let w := s.cycEnd p.num ((s.port p.num).copiesOf frame)
  have hnow : ((s.upTo t).acceptCyc p frame w).now = max s.now t := State.acceptCyc_now ..
  have hregs : ((s.upTo t).acceptCyc p frame w).regs = s.regs := State.acceptCyc_regs ..
  have hcyc : ((s.upTo t).acceptCyc p frame w).cycle p.num = s.cycle p.num := by
    simp only [State.cycle, State.vn, State.v_congr hregs]
  have hport := (s.upTo t).acceptCyc_port p frame w
  have hdue : ((s.upTo t).acceptCyc p frame w).cycDue p.num =
      ceilDiv (max s.now t + 3000) (s.cycle p.num) * s.cycle p.num := by
    rw [State.cycDue, hnow, hcyc]
  refine ⟨_, ((s.upTo t).acceptCyc p frame w).cycFrame p.num frame, exec_cyclicFrameAgreed hdual hheld hmaj, ?_, rfl, hnow,
    ?_, ?_, ?_, ?_, ?_, ?_, fun g hg hh => ?_, fun hnext => ?_, fun hlate => ?_⟩
  · rw [State.queueCyc_port, hport]
    rfl
  · exact (le_ceilDiv_mul _ hcycle).trans_eq hdue.symm
  · exact hdue.trans_lt (ceilDiv_mul_lt _ hcycle)
  · exact (congrArg (· % s.cycle p.num) hdue).trans (Nat.mul_mod_left ..)
  · rw [State.queueCyc_port, hport]
    exact PortSt.copiesOf_dropped _ frame
  · rw [State.queueCyc_port, hport]
    rfl
  · rw [State.queueCyc_port, hport]
  · rw [State.queueCyc_sem]
    exact (s.upTo t).acceptCyc_sem p frame w hg hh
  · have hmeets : ((s.upTo t).acceptCyc p frame w).cycMisses p.num = false := by
      rw [State.cycMisses, hnow, hcyc, bne_eq_false_iff_eq]
      exact hnext
    rw [State.queueCyc_regs, hmeets, if_neg Bool.false_ne_true, hregs]
  · have hmisses : ((s.upTo t).acceptCyc p frame w).cycMisses p.num = true := by
      rw [State.cycMisses, hnow, hcyc, bne_iff_ne]
      exact hlate
    have hbump : (((s.upTo t).acceptCyc p frame w).queueCyc p.num frame).regs =
        (((s.upTo t).acceptCyc p frame w).bumpC .chA (Obj.cycLate p.num)).regs := by
      rw [State.queueCyc_regs, hmisses, if_pos rfl]
    rw [State.g_congr hbump, State.bumpC, State.g_setC_self, State.g_congr hregs]
    rfl

/-- CYCLIC_AGREE_FAIL after the window of copies without a majority drops and counts them (R107). -/
theorem exec_cyclicAgreeFail_drops (hheld : (s.port p.num).copiesOf frame ≠ [])
    (hmaj : s.isMajority (s.cycHolders p.num ((s.port p.num).copiesOf frame)) = false)
    (hend : s.cycEnd p.num ((s.port p.num).copiesOf frame) ≤ max s.now t) :
    ∃ u, exec (.cyclicAgreeFail t p frame) s = .next (s.after t u) ∧ (u.port p.num).copiesOf frame = [] ∧
      u.g .chA (Obj.cycAgreeFail p.num) = wrapU32 (s.g .chA (Obj.cycAgreeFail p.num) + 1) ∧
      (u.port p.num).frames = (s.port p.num).frames := by
  have hdrop : (s.upTo t).expireCyc p.num frame = ((s.upTo t).dropCyc p.num frame).bumpC .chA (Obj.cycAgreeFail p.num) := by
    have hmaj' : (s.upTo t).isMajority ((s.upTo t).cycHolders p.num ((s.port p.num).copiesOf frame)) = false := hmaj
    have hend' : ¬ (s.upTo t).now < (s.upTo t).cycEnd p.num ((s.port p.num).copiesOf frame) := Nat.not_lt.2 hend
    unfold State.expireCyc
    refine if_neg ?_
    rw [State.upTo_port, hmaj', decide_eq_false hend']
    simpa using hheld
  have hport : (((s.upTo t).dropCyc p.num frame).bumpC .chA (Obj.cycAgreeFail p.num)).port p.num =
      { s.port p.num with copies := (s.port p.num).copies.filter fun y => y.2.1 != frame } :=
    (s.upTo t).port_updPort_self p.num fun x => { x with copies := x.copies.filter fun y => y.2.1 != frame }
  refine ⟨_, congrArg (fun u => Host.Outcome.next (s.after t u)) hdrop, ?_, State.g_setC_self .., ?_⟩
  · rw [hport]
    exact PortSt.copiesOf_dropped _ frame
  · rw [hport]

end

/-- Settles O25: a copy is held, refused or of no more use by the copies and agreements that stand, an agreement moves the frame
to its boundary, and the end of the window without one drops it. -/
theorem cyclicFramesAreAgreed : Obligations.CyclicFramesAreAgreed := by
  unfold Obligations.CyclicFramesAreAgreed
  refine ⟨fun t c p h frame s hdual hup htakes hip hport => ?_,
    fun t p frame s hdual hcycle hheld hmaj => exec_cyclicFrameAgreed_waits hdual hcycle hheld hmaj,
    fun t p frame s hheld hmaj hend => exec_cyclicAgreeFail_drops hheld hmaj hend⟩
  have hexec := exec_cyclicCommandFrame (t := t) (frame := frame) hdual hup htakes hip hport
  refine ⟨fun hbad => ?_, fun hok => ?_⟩
  · rw [hbad, if_neg Bool.false_ne_true] at hexec
    exact ⟨_, hexec, rfl, rfl, State.g_setC_self ..⟩
  · rw [hok, if_pos rfl] at hexec
    refine ⟨fun hcopies hnew => ?_, fun hcopy hwin => ?_, fun hnone htaken => ?_⟩
    · have hfirst := State.holdCopy_first (s := s.upTo t) (c := c) (fun x hx => (hcopies x hx).2)
        (fun x hx => (hcopies x hx).1) hnew
      rw [hfirst] at hexec
      refine ⟨_, hexec, rfl, ?_, rfl⟩
      rw [State.port_updPort_self]
      rfl
    · have hfurther := State.holdCopy_further (s := s.upTo t) (c := c) (fun _ _ => hwin) (.inl hcopy)
      rw [hfurther] at hexec
      exact ⟨_, hexec, rfl, rfl⟩
    · have hopen : ∀ x ∈ ((s.upTo t).port p.num).copiesOf frame, (s.upTo t).now <
          (s.upTo t).cycEnd p.num (((s.upTo t).port p.num).copiesOf frame) := fun x hx => by
        rw [State.upTo_port, hnone] at hx
        simp at hx
      have hfurther := State.holdCopy_further (c := c) hopen (.inr htaken)
      rw [hfurther] at hexec
      exact ⟨_, hexec, rfl, rfl⟩

end Sys2Proof.Machine

end


section
/-! ## What a semaphore's decision rests on (R72, R116, R118, R119)

At a commit instant the requests for a semaphore are decided between the ends of leases, the ends of HOLD phases and all the
rest that the device evaluates. Each of those steps leaves alone what another semaphore is decided by, and what has been sent
stays sent. -/

namespace Sys2Proof.Machine

-- the record of one semaphore

/-- SLUICE_FAIR and the Sluice's records, without the sub-index `e`: LEASE_EXPIRIES, 3, counts at the ends of leases. -/
def Obj.sluiceKept (e : Nat) (o : Obj) : Prop := 0x2402 * 256 ≤ o.key ∧ o.key < 0x2420 * 256 ∧ o.key % 256 ≠ e

/-- A step that leaves what `q` reads of semaphore `g`, the waiting writes, the time, and the Sluice's objects, and takes back
nothing that was sent. -/
structure SluiceStep {β : Type} (e : Nat) (q : Sem → β) (g : Nat) (s u : State) : Prop where
  sem : q (u.sem g) = q (s.sem g)
  writes : u.kdp.writes = s.kdp.writes
  now : u.now = s.now
  objs : ∀ c o, Obj.sluiceKept e o → u.g c o = s.g c o
  sent : ∀ x ∈ s.sent, x ∈ u.sent

section
variable {β : Type} {e : Nat} {q : Sem → β} {g : Nat} {s u w : State}

namespace SluiceStep

theorem refl (s : State) : SluiceStep e q g s s := ⟨rfl, rfl, rfl, fun _ _ _ => rfl, fun _ hx => hx⟩

theorem trans (h : SluiceStep e q g s u) (k : SluiceStep e q g u w) : SluiceStep e q g s w :=
  ⟨k.sem.trans h.sem, k.writes.trans h.writes, k.now.trans h.now, fun c o ho => (k.objs c o ho).trans (h.objs c o ho),
    fun x hx => k.sent x (h.sent x hx)⟩

theorem forEach {α : Type} {f : State → α → State} (hf : ∀ s x, SluiceStep e q g s (f s x)) (l : List α) (s : State) :
    SluiceStep e q g s (forEach l s f) := forEach_keeps (SluiceStep e q g) refl (fun _ _ _ => trans) f hf l s

/-- What each step of a loop keeps where the steps before it have kept it, the loop keeps. -/
theorem forEach_from {α : Type} {f : State → α → State} (l : List α) (s : State)
    (hf : ∀ u x, SluiceStep e q g s u → SluiceStep e q g u (f u x)) : SluiceStep e q g s (Machine.forEach l s f) :=
  List.foldlRecOn l f (motive := SluiceStep e q g s) (refl s) fun u hu x _ => hu.trans (hf u x hu)

theorem of_eq (hsems : u.sems = s.sems) (hwrites : u.kdp.writes = s.kdp.writes) (hnow : u.now = s.now)
    (hregs : u.regs = s.regs) (hsent : u.sent = s.sent) : SluiceStep e q g s u :=
  ⟨by rw [State.sem, hsems, ← State.sem], hwrites, hnow, fun c o _ => State.g_congr hregs c o, fun x hx => hsent ▸ hx⟩

theorem of_frame (hsems : u.sems = s.sems) (hwrites : u.kdp.writes = s.kdp.writes) (hnow : u.now = s.now)
    (hobjs : ∀ c o, Obj.sluiceKept e o → u.g c o = s.g c o) (hsent : ∀ x ∈ s.sent, x ∈ u.sent) : SluiceStep e q g s u :=
  ⟨by rw [State.sem, hsems, ← State.sem], hwrites, hnow, hobjs, hsent⟩

theorem setR (s : State) {o : Obj} (v : Int) (h : ¬ o.sluiceKept e) : SluiceStep e q g s (s.setR o v) :=
  ⟨rfl, rfl, rfl, fun c p hp => State.g_setR_key _ c v fun hk => h (by unfold Obj.sluiceKept at hp ⊢; rwa [← hk]),
    fun _ hx => hx⟩

theorem setC (s : State) (c : Ch) {o : Obj} (v : Int) (h : ¬ o.sluiceKept e) : SluiceStep e q g s (s.setC c o v) :=
  ⟨rfl, rfl, rfl, fun d p hp => State.g_setC_key _ c d v fun hk => h (by unfold Obj.sluiceKept at hp ⊢; rwa [← hk]),
    fun _ hx => hx⟩

theorem send (s : State) (x : Out) : SluiceStep e q g s (s.send x) :=
  ⟨rfl, rfl, rfl, fun _ _ _ => rfl, fun _ hx => List.mem_cons_of_mem _ hx⟩

theorem updSed (s : State) (c : Ch) (f : Sed → Sed) : SluiceStep e q g s (s.updSed c f) := of_eq rfl rfl rfl rfl rfl

theorem setDobj (s : State) (c : Ch) (o : Nat) (v : Int) : SluiceStep e q g s (s.setDobj c o v) := of_eq rfl rfl rfl rfl rfl

theorem updPort (s : State) (p : Nat) (f : PortSt → PortSt) : SluiceStep e q g s (s.updPort p f) := of_eq rfl rfl rfl rfl rfl

theorem updPower (s : State) (f : Power → Power) : SluiceStep e q g s (s.updPower f) := of_eq rfl rfl rfl rfl rfl

theorem updTask (s : State) (k : Nat) (f : TaskRec → TaskRec) : SluiceStep e q g s (s.updTask k f) := of_eq rfl rfl rfl rfl rfl

theorem updStream (s : State) (k : Nat) (f : Stream → Stream) : SluiceStep e q g s (s.updStream k f) :=
  of_eq rfl rfl rfl rfl rfl

theorem updGen (s : State) (n : Nat) (f : Gen → Gen) : SluiceStep e q g s (s.updGen n f) := of_eq rfl rfl rfl rfl rfl

theorem updGroup (s : State) (n : Nat) (f : Group → Group) : SluiceStep e q g s (s.updGroup n f) := of_eq rfl rfl rfl rfl rfl

theorem updSem (s : State) (k : Nat) (f : Sem → Sem) (h : k = g → q (f (s.sem k)) = q (s.sem k)) :
    SluiceStep e q g s (s.updSem k f) := by
  refine ⟨?_, rfl, rfl, fun _ _ _ => rfl, fun _ hx => hx⟩
  by_cases hk : g = k
  · subst hk
    rw [State.sem_updSem_self, h rfl]
  · rw [State.sem_updSem_ne _ _ hk]

theorem ite {c : Prop} [Decidable c] (h : SluiceStep e q g s u) (k : SluiceStep e q g s w) :
    SluiceStep e q g s (if c then u else w) := by
  split
  · exact h
  · exact k

/-- A change of one member's generator, where the member is local. -/
theorem updLocal (s : State) (b : Bool) (n : Nat) (f : Gen → Gen) : SluiceStep e q g s (if b then s else s.updGen n f) := by
  split
  · exact refl s
  · exact updGen s n f

end SluiceStep

end

-- objects outside the Sluice's block

theorem Obj.agLead_notSluice {e : Nat} (k : Nat) : ¬ (Obj.agLead k).sluiceKept e := by
  simp only [Obj.sluiceKept, Obj.agLead]; omega
theorem Obj.agForceDeficit_notSluice {e : Nat} (k : Nat) : ¬ (Obj.agForceDeficit k).sluiceKept e := by
  simp only [Obj.sluiceKept, Obj.agForceDeficit]; omega
theorem Obj.axFaultCause_notSluice {e : Nat} (n : Nat) : ¬ (Obj.axFaultCause n).sluiceKept e := by
  simp only [Obj.sluiceKept, Obj.axFaultCause]; omega
theorem Obj.axReaction_notSluice {e : Nat} (n : Nat) : ¬ (Obj.axReaction n).sluiceKept e := by
  simp only [Obj.sluiceKept, Obj.axReaction]; omega
theorem Obj.leaseExpiries_notSluice (k : Nat) : ¬ (Obj.leaseExpiries k).sluiceKept 3 := by
  simp only [Obj.sluiceKept, Obj.leaseExpiries]; omega
theorem Obj.intState_notSluice {e : Nat} (k : Nat) : ¬ (Obj.intState k).sluiceKept e := by
  simp only [Obj.sluiceKept, Obj.intState]; omega
theorem Obj.chState_notSluice {e : Nat} (c : Ch) : ¬ (Obj.chState c).sluiceKept e := by
  simp only [Obj.sluiceKept, Obj.chState]; omega
theorem Obj.sedChannel_notSluice {e : Nat} (c : Ch) : ¬ (Obj.sedEvents c).sluiceKept e ∧ ¬ (Obj.sedFreezeTime c).sluiceKept e ∧
    ¬ (Obj.sedFreezeCause c).sluiceKept e ∧ ¬ (Obj.sedSumDropped c).sluiceKept e ∧ ¬ (Obj.sedSumValid c).sluiceKept e := by
  simp only [Obj.sluiceKept, Obj.sedEvents, Obj.sedFreezeTime, Obj.sedFreezeCause, Obj.sedSumDropped, Obj.sedSumValid]; omega
theorem Obj.twinState_notSluice {e : Nat} : ¬ Obj.twinState.sluiceKept e := by simp [Obj.sluiceKept, Obj.twinState]
theorem Obj.stateEntryTime_notSluice {e : Nat} : ¬ Obj.stateEntryTime.sluiceKept e := by simp [Obj.sluiceKept, Obj.stateEntryTime]
theorem Obj.mramRewritten_notSluice {e : Nat} : ¬ Obj.mramRewritten.sluiceKept e := by simp [Obj.sluiceKept, Obj.mramRewritten]
theorem Obj.plChannel_notSluice {e : Nat} (c : Ch) :
    ¬ (Obj.plNow c).sluiceKept e ∧ ¬ (Obj.plStatus c).sluiceKept e ∧ ¬ (Obj.plVddcMv c).sluiceKept e := by
  simp only [Obj.sluiceKept, Obj.plNow, Obj.plStatus, Obj.plVddcMv]; omega

section
variable {β : Type} {e : Nat} {q : Sem → β} {g : Nat} (s : State)

-- groups and axes

theorem State.describe_sluice (k : Nat) (m : GMove) (at_ : Nat) (b : Option GStop) :
    SluiceStep e q g s (s.describe k m at_ b) := by
  unfold State.describe
  split
  · exact .send ..
  · exact .refl s

theorem State.stopGroup_sluice (k : Nat) (quick : Bool) : SluiceStep e q g s (s.stopGroup k quick) := by
  unfold State.stopGroup
  extract_lets u w
  have hw : SluiceStep e q g s w := (SluiceStep.updGroup s k _).trans (.forEach (fun u m => .updLocal u ..) _ _)
  split
  · exact hw
  · extract_lets keep
    split
    · exact hw
    · exact (hw.trans (.updGroup ..)).trans (State.describe_sluice ..)

theorem State.endGroup_sluice (k : Nat) : SluiceStep e q g s (s.endGroup k) :=
  (SluiceStep.updGroup s k _).trans (.setR _ _ (Obj.agLead_notSluice k))

theorem State.releadGroup_sluice (k : Nat) : SluiceStep e q g s (s.releadGroup k) := by
  unfold State.releadGroup
  split
  · exact .refl s
  · split
    · split
      · exact .refl s
      · exact (SluiceStep.updGroup s k _).trans (.setR _ _ (Obj.agLead_notSluice k))
    · split
      · exact (SluiceStep.updGroup s k _).trans (.setR _ _ (Obj.agLead_notSluice k))
      · exact (SluiceStep.forEach (fun u m => .updGen ..) _ s).trans (State.endGroup_sluice ..)

theorem State.beginTrack_sluice (n : Nat) : SluiceStep e q g s (s.beginTrack n) := by
  unfold State.beginTrack
  extract_lets was ref u
  have hu : SluiceStep e q g s u := .updGen s n _
  split
  · next k m _ =>
    extract_lets w
    have hw : SluiceStep e q g s w := hu.trans (.updGroup ..)
    split
    · split
      · exact (hw.trans (State.releadGroup_sluice ..)).trans (State.stopGroup_sluice ..)
      · exact hw.trans (State.releadGroup_sluice ..)
    · exact hw
  · exact hu

theorem State.stopAxis_sluice (n : Nat) (quick : Bool) : SluiceStep e q g s (s.stopAxis n quick) := by
  unfold State.stopAxis
  split
  · exact State.stopGroup_sluice ..
  · extract_lets u
    split
    · exact (SluiceStep.updGen s n _).trans (State.releadGroup_sluice ..)
    · exact .updGen s n _

theorem State.react_sluice (n cause code : Nat) : SluiceStep e q g s (s.react n cause code) := by
  unfold State.react
  extract_lets u w r
  have hu : SluiceStep e q g s u := by
    unfold u
    split
    · exact .setR s _ (Obj.axFaultCause_notSluice n)
    · exact .refl s
  have hw : SluiceStep e q g s w := hu.trans (.of_eq rfl rfl rfl rfl rfl)
  split
  · have hr : SluiceStep e q g s r := hw.trans (.setR _ _ (Obj.axReaction_notSluice n))
    split
    · exact hr.trans (State.stopAxis_sluice ..)
    · exact hr.trans (State.stopAxis_sluice ..)
    · exact hr.trans (State.beginTrack_sluice ..)
  · exact hw

theorem State.setTarget_sluice (n : Nat) (v : Int) : SluiceStep e q g s (s.setTarget n v) := by
  unfold State.setTarget
  extract_lets one
  have hone : SluiceStep e q g s (one s) := .updGen s n _
  split
  · split
    · split
      · exact (SluiceStep.updGroup s _ _).trans (.updGen ..)
      · exact .updGroup s _ _
    · exact hone
  · exact hone

theorem State.startGroup_sluice (k : Nat) (tgt : List (Nat × Int)) : SluiceStep e q g s (s.startGroup k tgt) := by
  unfold State.startGroup
  extract_lets act new s0 d0 ds
  split
  · exact .refl s
  · next lead dl _ =>
    have hw := SluiceStep.forEach (e := e) (q := q) (g := g) (f := fun s m => if s.isRemote k m then s
      else s.updGen (s.memberAxis k m) fun x => { x with tgt := new m, pend := none }) (fun _ _ => .updLocal ..) act s
    dsimp only
    refine .ite ?_ ?_
    · exact (hw.trans (.forEach (fun _ _ => .updLocal ..) act _)).trans
        (.ite ((SluiceStep.updGroup ..).trans (.setR _ _ (Obj.agLead_notSluice k))) (.refl _))
    · exact (((hw.trans (.updGroup ..)).trans (.setR _ _ (Obj.agLead_notSluice k))).trans
        (.forEach (fun _ _ => .updLocal ..) _ _)).trans (State.describe_sluice ..)

theorem State.wantTotal_sluice (k : Nat) (tot : Int) : SluiceStep e q g s (s.wantTotal k tot) := by
  unfold State.wantTotal State.allocMove
  split
  · exact .updGroup s k _
  · extract_lets u
    have hu : SluiceStep e q g s u := .updGroup s k _
    split
    · exact hu
    · exact ((hu.trans (.updGroup ..)).trans (.setR _ _ (Obj.agForceDeficit_notSluice k))).trans (State.startGroup_sluice ..)

-- the lapse of a group

theorem State.safeMove_sluice (k m : Nat) : SluiceStep e q g s (s.safeMove k m) := by
  unfold State.safeMove
  dsimp only
  split
  · exact .refl s
  · exact State.setTarget_sluice ..

/-- HOLD marks the lapse of its own semaphore; the rest is the group's and its members'. -/
theorem State.beginHold_sluice (k : Nat) :
    SluiceStep e q g (s.updSem k fun x => { x with lapse := 1, lapseAt := s.now }) (s.beginHold k) :=
  (SluiceStep.updGroup _ k _).trans (.forEach (fun _ _ => .updGen ..) _ _)

/-- RAMP marks the lapse of its own semaphore; the rest is the group's and its members'. -/
theorem State.beginRamp_sluice (k : Nat) : SluiceStep e q g (s.updSem k fun x => { x with lapse := 2 }) (s.beginRamp k) := by
  unfold State.beginRamp
  dsimp only
  split
  · exact State.wantTotal_sluice ..
  · exact .refl _
  · exact .forEach (fun u m => u.safeMove_sluice k m) _ _

/-- Freeing a semaphore changes its holder and its lapse. -/
theorem State.freeSem_sluice (k : Nat) (hh : k = g → q { s.sem k with holder := none } = q (s.sem k))
    (hl : k = g → ∀ x a b, q { x with lapse := a, lapseAt := b } = q x) : SluiceStep e q g s (s.freeSem k) := by
  unfold State.freeSem
  have hu : SluiceStep e q g s ((s.updSem k fun x => { x with holder := none }).beginHold k) :=
    ((SluiceStep.updSem s k _ hh).trans (.updSem _ k _ fun hk => hl hk _ _ _)).trans (State.beginHold_sluice _ k)
  exact .ite ((hu.trans (.updSem _ k _ fun hk => hl hk _ 2 (State.sem _ k).lapseAt)).trans (State.beginRamp_sluice _ k)) hu

theorem State.expireLease_sluice (k : Nat) (hh : k = g → s.leaseOver k = true → q { s.sem k with holder := none } = q (s.sem k))
    (hl : k = g → s.leaseOver k = true → ∀ x a b, q { x with lapse := a, lapseAt := b } = q x) :
    SluiceStep 3 q g s (s.expireLease k) := by
  unfold State.expireLease
  split
  · next hk =>
    exact (s.freeSem_sluice k (fun h => hh h hk) fun h => hl h hk).trans (.setR _ _ (Obj.leaseExpiries_notSluice k))
  · exact .refl s

theorem State.endHold_sluice (k : Nat) (hl : k = g → s.holdOver k = true → ∀ x, q { x with lapse := 2 } = q x) :
    SluiceStep e q g s (s.endHold k) := by
  unfold State.endHold
  split
  · next hk => exact (SluiceStep.updSem s k _ fun h => hl h hk _).trans (s.beginRamp_sluice k)
  · exact .refl s

-- the log, the sticky log and the state machine

theorem State.logC_sluice (c : Ch) (a b : Nat) (l : List Byte) : SluiceStep e q g s (s.logC c a b l) := by
  unfold State.logC
  refine .ite (.ite ?_ (.updSed ..)) (.refl s)
  exact (SluiceStep.updSed s c _).trans (.setR _ _ (Obj.sedChannel_notSluice c).1)

theorem State.logDev_sluice (a b : Nat) (l : List Byte) : SluiceStep e q g s (s.logDev a b l) :=
  .forEach (fun u c => u.logC_sluice c a b l) _ s

theorem State.startCopy_sluice (c : Ch) (x : SedTrig) (a b : Bool) : SluiceStep e q g s (s.startCopy c x a b) := by
  obtain ⟨-, -, -, hdropped, hvalid⟩ := Obj.sedChannel_notSluice c
  unfold State.startCopy
  extract_lets d
  split
  · exact (SluiceStep.setR s _ hdropped).trans (State.logC_sluice ..)
  · exact (SluiceStep.updSed s c _).trans (.setR _ _ hvalid)

theorem State.trigger_sluice (c : Ch) (cause : Nat) : SluiceStep e q g s (s.trigger c cause) := by
  obtain ⟨-, htime, hcause, -, -⟩ := Obj.sedChannel_notSluice c
  unfold State.trigger
  refine .ite ?_ (.refl s)
  extract_lets was noTrace u w
  have hw : SluiceStep e q g s w := (s.logC_sluice ..).trans
    (.ite (.refl _) (((SluiceStep.updSed u c _).trans (.setR _ _ htime)).trans (.setR _ _ hcause)))
  refine .ite hw ?_
  split
  · exact .ite (hw.trans (.updSed ..)) (.ite hw (hw.trans (.updSed ..)))
  · exact hw.trans (State.startCopy_sluice ..)

theorem State.planTrigger_sluice (k : Nat) : SluiceStep e q g s (s.planTrigger k) :=
  .of_eq (by simp) (by simp) (by simp) (by simp) (by simp)

theorem State.setTwinState_sluice (v : Nat) : SluiceStep e q g s (s.setTwinState v) := by
  unfold State.setTwinState
  exact .ite (.refl s) (.trans (.setR s v Obj.twinState_notSluice) (.of_eq rfl rfl rfl rfl rfl))

theorem State.endCandidates_sluice : SluiceStep e q g s s.endCandidates := by
  unfold State.endCandidates
  split
  · exact .forEach (fun u c => .ite (.setR _ _ (Obj.chState_notSluice c)) (.refl u)) _ s
  · exact .refl s

theorem State.enter_sluice (r : RState) : SluiceStep e q g s (s.enter r) := by
  unfold State.enter
  refine .ite (.refl s) ?_
  extract_lets old s₁ e₁ r₁ s₂ s₃ s₄ p₄ s₅ r₅ s₆ s₇
  have h₃ : SluiceStep e q g s s₃ := (((s.logDev_sluice ..).trans (State.endCandidates_sluice s₁)).trans
    (w := s₂) (.of_eq rfl rfl rfl rfl rfl)).trans (.setR s₂ _ Obj.stateEntryTime_notSluice)
  split
  · have h₆ : SluiceStep e q g s s₆ := h₃.trans (.of_eq (by simp [s₆, s₅, s₄]) (by simp [s₆, s₅, s₄])
      (by simp [s₆, s₅, s₄]) (by simp [s₆, s₅, s₄]) (by simp [s₆, s₅, s₄]))
    have h₇ : SluiceStep e q g s s₇ :=
      h₆.trans (.ite (s₆.setTwinState_sluice 7) (.ite (s₆.setTwinState_sluice 8) (.refl s₆)))
    exact h₇.trans (.forEach (fun u c => u.trigger_sluice c 2) _ s₇)
  · exact (h₃.trans (.of_eq (by simp) (by simp) (by simp) (by simp) (by simp))).trans (State.planTrigger_sluice ..)
  · exact .ite h₃ (h₃.trans (State.planTrigger_sluice ..))

-- the fabric

theorem State.sendFrame_sluice (c : Ch) (n d : Nat) (m : Bool) (l : List Byte) :
    SluiceStep e q g s (s.sendFrame c n d m l) :=
  .of_frame (by simp) (by simp) (by simp) (fun c' o ho => s.sendFrame_g c n d m l c' o
    (fun h => by rw [Obj.sluiceKept, h] at ho; exact absurd ho (by simp [Obj.fabNoRoute]))
    (fun h => by rw [Obj.sluiceKept, h] at ho; exact absurd ho (by simp [Obj.fabRateDrops]))) fun _ => s.sendFrame_sent c n d m l

theorem State.sendTo_sluice (c : Ch) (n d : Nat) (l : List Byte) : SluiceStep e q g s (s.sendTo c n d l) := by
  unfold State.sendTo
  exact .ite (.refl s) (.ite (State.sendFrame_sluice ..) ((State.sendFrame_sluice ..).trans (State.sendFrame_sluice ..)))

theorem State.sendMsg_sluice (c : Ch) (n : Nat) (l : List Byte) : SluiceStep e q g s (s.sendMsg c n l) :=
  (SluiceStep.send s _).trans (State.sendTo_sluice ..)

theorem Obj.sluiceKept.unanswered {o : Obj} (h : o.sluiceKept e) : o.unanswered := by
  unfold Obj.sluiceKept at h
  simp only [Obj.unanswered, Obj.fabNoRoute, Obj.fabRateDrops, Obj.kdpAbortsSent]
  omega

theorem State.respond_sluice (r : KdpReq) (code detail : Nat) : SluiceStep e q g s (s.respond r code detail) := by
  obtain ⟨a, ha⟩ := s.respond_kdp r code detail false [] none
  exact .of_frame (by simp) (by rw [ha]) (by simp) (fun c o ho => s.respond_g r code detail false [] none c o ho.unanswered)
    fun _ => s.respond_mem_sent r code detail false [] none

-- the rest of a commit instant

theorem State.safeInputs_sluice : SluiceStep e q g s s.safeInputs := by
  unfold State.safeInputs
  refine .ite (.refl s) (.forEach (fun u c => .forEach (fun w i => ?_) _ u) _ s)
  exact .ite (.refl w) (.ite (.refl w) (.forEach (fun x a => x.react_sluice a _ _) _ w))

theorem State.quietSample_sluice : SluiceStep e q g s s.quietSample := by
  unfold State.quietSample
  refine .ite (.of_eq rfl rfl rfl rfl rfl) ?_
  extract_lets near
  split
  · exact .ite (.refl s) (.of_eq rfl rfl rfl rfl rfl)
  · exact .of_eq rfl rfl rfl rfl rfl

theorem State.putMirror_sluice (o : Nat) (v : Int) : SluiceStep e q g s (s.putMirror o v) := by
  unfold State.putMirror
  refine .ite (.forEach (fun u c => .setDobj u c ..) _ s) ?_
  split
  · split
    · exact .updGen ..
    · exact .updGen ..
    · exact .updGen ..
    · exact .setR _ _ (Obj.intState_notSluice _)
    · exact .refl s
  · exact .refl s

theorem State.applyMirror_sluice : SluiceStep e q g s s.applyMirror := by
  unfold State.applyMirror State.putWaiting
  extract_lets go l d u
  have hu : SluiceStep e q g s u := .of_eq rfl rfl rfl rfl rfl
  refine .ite hu (hu.trans (.forEach (fun w x => ?_) l u))
  split
  · exact w.putMirror_sluice ..
  · exact .refl w

theorem State.mirrorRates_sluice : SluiceStep e q g s s.mirrorRates := by
  unfold State.mirrorRates State.mirrorSend
  exact .ite (.refl s) (.forEach (fun u n => .forEach (fun w c => w.sendMsg_sluice ..) _ u) _ s)

theorem State.remoteRates_sluice : SluiceStep e q g s s.remoteRates := by
  unfold State.remoteRates State.remoteSend
  exact .ite (.refl s) (.forEach (fun w c => w.sendMsg_sluice ..) _ s)

theorem State.debugSplit_sluice (c : Ch) : SluiceStep e q g s (s.debugSplit c) := by
  unfold State.debugSplit
  refine .ite ?_ (.refl s)
  extract_lets r u own w v
  have hu : SluiceStep e q g s u := .of_eq rfl rfl rfl rfl rfl
  have hw : SluiceStep e q g s w := hu.trans (.forEach (fun x k => .updTask x ..) _ u)
  have hv : SluiceStep e q g s v := (hw.trans (.setR _ _ (Obj.chState_notSluice c))).trans (State.logDev_sluice ..)
  exact .ite (hv.trans (State.enter_sluice ..)) (hv.trans (State.planTrigger_sluice ..))

theorem State.voteStream_sluice (k d : Nat) : SluiceStep e q g s (s.voteStream k d) :=
  (SluiceStep.updStream s k _).trans (.forEach (f := fun u c => u.sendDigest c k d 0)
    (fun u _ => (SluiceStep.updStream u k _).trans (.send ..)) _ _)

theorem State.commitDigests_sluice : SluiceStep e q g s s.commitDigests := by
  unfold State.commitDigests
  exact .ite (.refl s) ((State.voteStream_sluice ..).trans (State.voteStream_sluice ..))

theorem State.health_sluice (a b : Nat) : SluiceStep e q g s (s.health a b) := .send ..

theorem State.checkSilence_sluice (p : Nat) : SluiceStep e q g s (s.checkSilence p) := by
  unfold State.checkSilence
  exact .ite ((SluiceStep.updPort s p _).trans (State.health_sluice ..)) (.refl s)

theorem State.recordRefusal_sluice (t : PwrState) (l : List Nat) : SluiceStep e q g s (s.recordRefusal t l) := by
  have hoff {o : Obj} (h : o.sluiceKept e) : o.offRefusal := by
    unfold Obj.sluiceKept at h
    simp [Obj.offRefusal, Obj.refusalCount, Obj.refuserMap, Obj.lastRefuser, Obj.lastRefusedState, Obj.lastRefusalTime]
    omega
  exact .of_frame rfl rfl rfl (fun c o ho => s.recordRefusal_g c t l (hoff ho)) fun _ hx => hx

theorem State.evalSleep_sluice : SluiceStep e q g s s.evalSleep := by
  unfold State.evalSleep
  split
  · exact .refl s
  · next t a _ =>
    refine (SluiceStep.updPower s fun p => { p with request := none }).trans ?_
    unfold State.judgeSleep State.stayAsleep
    generalize s.updPower _ = u
    refine .ite (.refl u) ?_
    extract_lets ids w v x
    have hv : SluiceStep e q g u v := (u.recordRefusal_sluice ..).trans (.updPower ..)
    have hx : SluiceStep e q g u x := hv.trans (.ite (.updPower ..) (.refl v))
    exact .ite (.updPower ..) (hx.trans (.ite (.updPower ..) (.refl x)))

theorem State.repairMram_sluice : SluiceStep e q g s s.repairMram := by
  unfold State.repairMram
  refine .ite (.refl s) (.forEach (fun u c => ?_) _ s)
  exact .ite (.refl u) ((SluiceStep.setC u c _ Obj.mramRewritten_notSluice).trans (.updPower ..))

theorem State.changeClock_sluice (c : Ch) : SluiceStep e q g s (s.changeClock c) := by
  obtain ⟨hnow, hstatus, hmv⟩ := Obj.plChannel_notSluice c
  unfold State.changeClock
  split
  · next x _ =>
    refine .ite (.refl s) ?_
    extract_lets up u w
    have hu : SluiceStep e q g s u := (SluiceStep.setR s _ hnow).trans (.setR _ _ hstatus)
    have hw : SluiceStep e q g s w := (hu.trans (.setR _ _ hmv)).trans (.setR _ _ hstatus)
    exact .ite (hu.trans (.updPower ..)) (hw.trans (.updPower ..))
  · exact .refl s

theorem State.startPl_sluice (c : Ch) (v : Nat) : SluiceStep e q g s (s.startPl c v) := by
  obtain ⟨-, hstatus, hmv⟩ := Obj.plChannel_notSluice c
  have hset (u : State) (i : Nat) (b : Bool) : SluiceStep e q g u (u.bitR (Obj.plStatus c) i b) := .setR u _ hstatus
  have hchange (u : State) (x : Option PlChange) : SluiceStep e q g u (u.setChange c x) := .updPower ..
  unfold State.startPl
  refine .ite (.refl s) (.ite ?_ (.ite ?_ (.ite (hset ..) ?_)))
  · exact ((((SluiceStep.setR s _ hmv).trans (hset ..)).trans (hset ..)).trans (hset ..)).trans (hchange ..)
  · exact (hset ..).trans (hchange ..)
  · exact (((hset ..).trans (hset ..)).trans (hchange ..)).trans (State.planTrigger_sluice ..)

theorem State.plCommit_sluice : SluiceStep e q g s s.plCommit := by
  refine .forEach (f := fun u c => (u.changeClock c).nextPl c) (fun u c => (u.changeClock_sluice c).trans ?_) _ s
  unfold State.nextPl
  split
  · exact .ite ((SluiceStep.updPower ..).trans (State.startPl_sluice ..)) (.refl _)
  · exact .refl _

/-- What follows the due writes of a commit instant. -/
def State.commitRest (s : State) : State :=
  let s := s.safeInputs.quietSample.applyMirror.mirrorRates.remoteRates
  forEach (upto 2) (forEach Ch.all s State.debugSplit).commitDigests State.checkSilence

theorem State.commit_eq : s.commit = s.sluiceCommit.applyDue.commitRest := rfl

theorem State.commitRest_sluice : SluiceStep e q g s s.commitRest :=
  (((((((s.safeInputs_sluice.trans (State.quietSample_sluice _)).trans (State.applyMirror_sluice _)).trans
    (State.mirrorRates_sluice _)).trans (State.remoteRates_sluice _)).trans
    (.forEach State.debugSplit_sluice _ _)).trans (State.commitDigests_sluice _)).trans
    (.forEach State.checkSilence_sluice _ _))

/-- All that a commit instant does after the writes that are due. -/
theorem State.commitEnd_sluice : SluiceStep e q g s s.commitRest.evalSleep.repairMram.plCommit :=
  ((s.commitRest_sluice.trans (State.evalSleep_sluice _)).trans (State.repairMram_sluice _)).trans (State.plCommit_sluice _)

end

section
variable {s u : State} {g : Nat}

-- what the decision reads

theorem SluiceStep.sem_eq (h : SluiceStep 3 id g s u) : u.sem g = s.sem g := h.sem

theorem State.sem_setR (s : State) (o : Obj) (v : Int) (k : Nat) : (s.setR o v).sem k = s.sem k := rfl

theorem SluiceStep.v_eq {β : Type} {e : Nat} {q : Sem → β} (h : SluiceStep e q g s u) {o : Obj} (ho : o.sluiceKept e) :
    u.v o = s.v o := by
  simp only [State.v, h.objs _ o ho]

theorem Obj.leaseTime_kept (hg : g < 16) : (Obj.leaseTime g).sluiceKept 3 := by
  simp only [Obj.sluiceKept, Obj.leaseTime]; omega

theorem Obj.leaseExpiries_kept (hg : g < 16) : (Obj.leaseExpiries g).sluiceKept 4 := by
  simp only [Obj.sluiceKept, Obj.leaseExpiries]; omega

theorem Obj.holdTime_kept (hg : g < 16) : (Obj.holdTime g).sluiceKept 3 := by
  simp only [Obj.sluiceKept, Obj.holdTime]; omega

theorem Obj.sluiceFair_kept : Obj.sluiceFair.sluiceKept 3 := by simp [Obj.sluiceKept, Obj.sluiceFair]

theorem SluiceStep.agreedV_eq {β : Type} {e : Nat} {q : Sem → β} (h : SluiceStep e q g s u) {o : Obj} (ho : o.sluiceKept e) :
    u.agreedV o = s.agreedV o := by
  simp only [State.agreedV, State.dueWrites, State.vn, h.writes, h.now, h.v_eq ho]

theorem SluiceStep.leaseOver_eq (h : SluiceStep 3 id g s u) (hg : g < 16) : u.leaseOver g = s.leaseOver g := by
  have hsem : u.sem g = s.sem g := h.sem
  simp only [State.leaseOver, State.renewing, h.writes, h.now, hsem, h.agreedV_eq (Obj.leaseTime_kept hg)]

theorem SluiceStep.holdOver_eq (h : SluiceStep 3 id g s u) (hg : g < 16) : u.holdOver g = s.holdOver g := by
  have hsem : u.sem g = s.sem g := h.sem
  simp only [State.holdOver, h.now, hsem, h.agreedV_eq (Obj.holdTime_kept hg)]

/-- Leases of other semaphores, and a lease of this one that has not run out, end without a trace here. -/
theorem State.expireLeases_sluice (hg : g < 16) (h : s.leaseOver g = false) :
    SluiceStep 3 id g s (forEach (upto 16) s State.expireLease) := by
  refine SluiceStep.forEach_from _ s fun u k hu => u.expireLease_sluice k ?_ ?_ <;>
  · rintro rfl ho
    exact absurd (hu.leaseOver_eq hg) (by simp [ho, h])

/-- Where a port does not hold the semaphore, the end of the leases gives it none. -/
theorem State.expireLeases_others (p : Port) (h : (s.sem g).holder ≠ some p) :
    SluiceStep 3 (fun x => decide (x.holder = some p)) g s (forEach (upto 16) s State.expireLease) := by
  refine SluiceStep.forEach_from _ s fun u k hu => u.expireLease_sluice k ?_ (fun _ _ _ _ _ => rfl)
  rintro rfl -
  simpa [h] using hu.sem.symm

/-- The ends of HOLD phases leave holders and leases as they are. -/
theorem State.endHolds_holder : SluiceStep 3 (fun x => (x.holder, x.restart)) g s (forEach (upto 16) s State.endHold) :=
  .forEach (fun u k => u.endHold_sluice k fun _ _ _ => rfl) _ s

/-- A HOLD phase that has not run out goes on. -/
theorem State.endHolds_sluice (hg : g < 16) (h : s.holdOver g = false) :
    SluiceStep 3 id g s (forEach (upto 16) s State.endHold) := by
  refine SluiceStep.forEach_from _ s fun u k hu => u.endHold_sluice k ?_
  rintro rfl ho
  exact absurd (hu.holdOver_eq hg) (by simp [ho, h])

end

end Sys2Proof.Machine
end


section
/-! ## Requests for a semaphore, and their decision at a commit instant (R115, R116, R117, R118, R119, R121, R279) -/

namespace Sys2Proof.Machine

-- the object of a semaphore

/-- An entry of a semaphore `g` at the key of SLUICE_AG `g`. -/
def Entry.isSluice (g : Fin 16) (e : Entry) : Bool :=
  e.key == (Obj.sluiceAg g).key && e.desc.role == Role.sluiceAg && e.m == g

theorem findObj_sluice : ∀ g : Fin 16, (findObj 0x2400 (g + 1)).any (Entry.isSluice g) = true := by decide +kernel

section
variable {s : State} {t : Nat} {cr : Carrier} {g : Fin 16} {e : Entry} {v : Int}

theorem sluice_entry (he : findObj 0x2400 (g + 1) = some e) :
    e.key = (Obj.sluiceAg g).key ∧ e.desc.role = .sluiceAg ∧ e.m = g := by
  have h := findObj_sluice g
  rw [he] at h
  simpa [Entry.isSluice, and_assoc] using h

theorem sluice_key : (Obj.sluiceAg g).key / 256 = 0x2400 ∧ (Obj.sluiceAg g).key % 256 = g + 1 := by
  have := g.isLt
  simp only [Obj.sluiceAg]
  omega

/-- A write of a semaphore's object is a request for it: 1 asks for it, another number releases it. -/
theorem PendWrite.sluice_num {w : PendWrite} (h : w.members = [((Obj.sluiceAg g).key, .num v)]) :
    w.sluice = some (g.val, v == 1) := by
  obtain ⟨e, he⟩ : ∃ e, findObj 0x2400 (g + 1) = some e := Option.isSome_iff_exists.1 (by
    have h := findObj_sluice g
    cases hf : findObj 0x2400 (g + 1) with
    | none => simp [hf] at h
    | some e => rfl)
  obtain ⟨-, hrole, hm⟩ := sluice_entry he
  have hentry : entryOf (Obj.sluiceAg g).key = some e := by rw [entryOf, sluice_key.1, sluice_key.2, he]
  simp [PendWrite.sluice, h, hentry, hrole, hm]

-- requests (R116)

/-- A request that passes its checks waits for the next commit instant. -/
theorem hostWrite_sluice_waits (h : s.accepts t cr e (.num v) = true) (hn : (s.upTo t).noneDue = true)
    (he : findObj 0x2400 (g + 1) = some e) :
    (s.upTo t).hostWrite cr 0x2400 (g + 1) (.num v) = (s.heard t cr).updKdp fun k => { k with writes := k.writes ++
      [{ req := s.writeReq t cr (Obj.sluiceAg g) (.num v), due := commitFrom (max s.now t)
         members := [((Obj.sluiceAg g).key, .num v)] }] } := by
  obtain ⟨hkey, hrole, -⟩ := sluice_entry he
  have hwrite := State.hostWrite_accepted (o := Obj.sluiceAg g) h hn (by
    rw [Obj.index, Obj.sub, sluice_key.1, sluice_key.2, he])
  rw [Obj.index, Obj.sub, sluice_key.1, sluice_key.2] at hwrite
  rw [hwrite, State.enqueue_waits (State.heard_noneDue hn), hkey]
  · simp [State.dueOf, hrole]
  · exact .inr (by rw [PendWrite.sluice_num (by rw [hkey])]; rfl)

/-- A request that fails its checks is answered by the first that fails, and does not wait. -/
theorem hostWrite_sluice_fails {a : Abort} (hrec : s.receives = true) (hdual : s.red.reachedDual = true)
    (hn : (s.upTo t).noneDue = true) (he : findObj 0x2400 (g + 1) = some e)
    (hf : (s.heard t cr).writeFails ((s.heard t cr).rawSet e (.num v)) cr e (.num v) 1 = some a) :
    ((s.upTo t).hostWrite cr 0x2400 (g + 1) (.num v)).kdp.writes = s.kdp.writes ∧
      ((s.upTo t).hostWrite cr 0x2400 (g + 1) (.num v)).answers cr 0 a.1 a.2 := by
  have hrec' : (s.upTo t).receives = true := hrec
  have hdual' : ((s.upTo t).noteHeard cr).red.reachedDual = true := by rw [State.noteHeard_red]; exact hdual
  have hwrite : (s.upTo t).hostWrite cr 0x2400 (g + 1) (.num v) =
      (s.heard t cr).submit ((s.heard t cr).rowReq cr 2 0x2400 (g + 1) (rowBytes 0x2400 (g + 1) (.num v))) e (.num v)
        (s.heard t cr).now := by
    unfold State.hostWrite
    rw [State.applyDue_none _ hn]
    simp only [hrec', Bool.not_true, Bool.false_eq_true, if_false, hdual', he]
    rfl
  rw [hwrite]
  obtain ⟨⟨who, tag, frames, hsent⟩, l, tr, hkdp⟩ := State.submit_refused (s := s.heard t cr)
    (r := (s.heard t cr).rowReq cr 2 0x2400 (g + 1) (rowBytes 0x2400 (g + 1) (.num v))) (t := (s.heard t cr).now) (by
      rw [State.rowReq_carrier]; exact hf) (State.rowReq_frame ..)
  rw [hkdp, State.heard_kdp]
  exact ⟨rfl, who, tag, false, [], frames, by simpa using hsent⟩

end

-- the decision (R116, R117)

/-- A loop in which one index alone acts is its one step. -/
theorem forEach_only {α : Type} {f : State → α → State} {a : α} :
    ∀ {l : List α}, (∀ s x, x ≠ a → f s x = s) → a ∈ l → l.Nodup → ∀ s, forEach l s f = f s a := by
  intro l hf
  induction l with
  | nil => simp
  | cons x l ih =>
    intro ha hl s
    have hcons : forEach (x :: l) s f = forEach l (f s x) f := rfl
    rw [hcons]
    by_cases hx : x = a
    · subst hx
      exact forEach_eq_mem id f l (fun u y hy => hf u y fun h => (List.nodup_cons.1 hl).1 (h ▸ hy)) _
    · rw [hf s x hx]
      exact ih ((List.mem_cons.1 ha).resolve_left (Ne.symm hx)) (List.nodup_cons.1 hl).2 s

section
variable {s m u : State} {t : Nat} {g : Fin 16} {p : Port} {r r₀ r₁ : KdpReq} {d : Nat}

/-- The request of `x`'s port for semaphore `g`, due at `x`'s instant. -/
def semWrite (g : Fin 16) (x : KdpReq × Nat × Int) : PendWrite :=
  { req := x.1, due := x.2.1, members := [((Obj.sluiceAg g).key, .num x.2.2)] }

theorem semWrite_sluice (x : KdpReq × Nat × Int) : (semWrite g x).sluice = some (g.val, x.2.2 == 1) :=
  PendWrite.sluice_num rfl

/-- What a request asks of semaphore `k`, of the port that sent it. -/
def PendWrite.forSem (k : Nat) (w : PendWrite) : Option (PendWrite × Port × Bool) :=
  match w.sluice, w.req.carrier.port? with
  | some (h, acq), some p => if h = k then some (w, p, acq) else none
  | _, _ => none

theorem semWrite_forSem {x : KdpReq × Nat × Int} (hp : x.1.carrier.port? = some p) :
    (semWrite g x).forSem g = some (semWrite g x, p, x.2.2 == 1) := by
  have hp' : (semWrite g x).req.carrier.port? = some p := hp
  simp [PendWrite.forSem, semWrite_sluice, hp']

theorem semWrite_forSem_ne {k : Nat} (x : KdpReq × Nat × Int) (hk : k ≠ g) : (semWrite g x).forSem k = none := by
  unfold PendWrite.forSem
  rw [semWrite_sluice]
  split
  · next heq _ =>
    obtain ⟨rfl, -⟩ := Prod.mk.inj (Option.some.inj heq)
    exact if_neg (Ne.symm hk)
  · rfl

/-- The requests of one semaphore are decided: the releases, then the acquires together. -/
def State.decideSem (s : State) (g : Nat) (mine : List (PendWrite × Port × Bool)) : State :=
  let s := forEach (mine.filter fun x => !x.2.2) s fun s x =>
    let y := s.releaseSem g x.2.1
    y.1.respond x.1.req y.2 0
  let acq := mine.filter fun x => x.2.2
  let s := if acq.isEmpty then s else s.acquireSem g (acq.map fun x => x.2.1)
  forEach acq s fun s x => s.respond x.1.req (s.acquireCode g x.2.1) 0

theorem State.resolveGroup_eq (s : State) (k : Nat) (l : List PendWrite) :
    s.resolveGroup k l = s.decideSem k (l.filterMap (PendWrite.forSem k)) := rfl

/-- No request is left waiting. -/
def State.noWrites (s : State) : State := s.updKdp fun k => { k with writes := [] }

/-- Where all that waits is due requests for one semaphore, they alone are decided, and none is left waiting. -/
theorem State.resolveSems_only {l : List (KdpReq × Nat × Int)} (hw : s.kdp.writes = l.map (semWrite g))
    (hl : l ≠ []) (hdue : ∀ x ∈ l, x.2.1 ≤ s.now) :
    s.resolveSems = s.noWrites.decideSem g ((l.map (semWrite g)).filterMap (PendWrite.forSem g)) := by
  have hall : ∀ w ∈ s.kdp.writes, (w.sluice.isSome && decide (w.due ≤ s.now)) = true := by
    intro w h
    rw [hw] at h
    obtain ⟨x, hx, rfl⟩ := List.mem_map.1 h
    rw [semWrite_sluice]
    exact decide_eq_true (hdue x hx)
  have hdec : s.kdp.writes.filter (fun w => w.sluice.isSome && decide (w.due ≤ s.now)) = l.map (semWrite g) := by
    rw [List.filter_eq_self.2 hall, hw]
  have hkept : s.kdp.writes.filter (fun w => !(w.sluice.isSome && decide (w.due ≤ s.now))) = [] :=
    List.filter_eq_nil_iff.2 fun w h => by simp [hall w h]
  have hne : (l.map (semWrite g)).isEmpty = false := by simpa using hl
  unfold State.resolveSems
  simp only [hdec, hkept, hne, Bool.false_eq_true, if_false]
  refine forEach_only (fun u k hk => ?_) (List.mem_range.2 g.isLt) List.nodup_range _
  have hmine : (l.map (semWrite g)).filterMap (PendWrite.forSem k) = [] := by
    refine List.filterMap_eq_nil_iff.2 fun w h => ?_
    obtain ⟨x, -, rfl⟩ := List.mem_map.1 h
    exact semWrite_forSem_ne x hk
  rw [State.resolveGroup_eq, hmine]
  rfl

theorem State.decideSem_acquire (hp : r.carrier.port? = some p) :
    s.decideSem g (([(r, d, 1)].map (semWrite g)).filterMap (PendWrite.forSem g)) =
      (s.acquireSem g [p]).respond r ((s.acquireSem g [p]).acquireCode g p) 0 := by
  rw [List.map_singleton, List.filterMap_cons_some (semWrite_forSem hp)]
  rfl

theorem State.decideSem_release (hp : r.carrier.port? = some p) :
    s.decideSem g (([(r, d, 0)].map (semWrite g)).filterMap (PendWrite.forSem g)) =
      (s.releaseSem g p).1.respond r (s.releaseSem g p).2 0 := by
  rw [List.map_singleton, List.filterMap_cons_some (semWrite_forSem hp)]
  rfl

/-- The ports' two requests are decided together and answered one after the other. -/
theorem State.decideSem_both {d₀ d₁ : Nat} (h₀ : r₀.carrier.port? = some .p0) (h₁ : r₁.carrier.port? = some .p1)
    (hu : u = s.acquireSem g [.p0, .p1]) :
    s.decideSem g (([(r₀, d₀, 1), (r₁, d₁, 1)].map (semWrite g)).filterMap (PendWrite.forSem g)) =
      (u.respond r₀ (u.acquireCode g .p0) 0).respond r₁ ((u.respond r₀ (u.acquireCode g .p0) 0).acquireCode g .p1) 0 := by
  rw [List.map_cons, List.map_singleton, List.filterMap_cons_some (semWrite_forSem h₀),
    List.filterMap_cons_some (semWrite_forSem h₁), hu]
  rfl

-- the commit instant

/-- The state of a commit instant whose evaluation has begun. -/
def State.atCommit (s : State) (t : Nat) : State :=
  { s.upTo t with marks := s.marks.put markCommit 0 (max s.now t + 1) }

/-- The state in which the requests `l` for `g`, all that wait, have been decided at a commit instant. -/
def State.decided (s : State) (t : Nat) (g : Fin 16) (l : List (KdpReq × Nat × Int)) : State :=
  (forEach (upto 16) (s.atCommit t) State.expireLease).noWrites.decideSem g
    ((l.map (semWrite g)).filterMap (PendWrite.forSem g))

theorem State.respond_writes (s : State) (r : KdpReq) (code : Nat) : (s.respond r code 0).kdp.writes = s.kdp.writes :=
  (s.respond_sluice (e := 3) (q := id) (g := 0) r code 0).writes

theorem State.releaseSem_writes (s : State) (k : Nat) (p : Port) : (s.releaseSem k p).1.kdp.writes = s.kdp.writes := by
  unfold State.releaseSem
  split
  · exact (s.freeSem_sluice (e := 3) (q := fun _ => ()) (g := k) k (fun _ => rfl) fun _ _ _ _ => rfl).writes
  · rfl

theorem State.acquireSem_writes (s : State) (k : Nat) (l : List Port) : (s.acquireSem k l).kdp.writes = s.kdp.writes := by
  unfold State.acquireSem
  split
  · split <;> rfl
  · split
    · rfl
    · split <;> rfl

theorem State.decideSem_writes (s : State) (k : Nat) (l : List (PendWrite × Port × Bool)) :
    (s.decideSem k l).kdp.writes = s.kdp.writes := by
  have hresp := forEach_eq (fun s : State => s.kdp.writes) (fun s (x : PendWrite × Port × Bool) =>
    s.respond x.1.req (s.acquireCode k x.2.1) 0) fun s x => s.respond_writes ..
  have hrel := forEach_eq (fun s : State => s.kdp.writes) (fun s (x : PendWrite × Port × Bool) =>
    (s.releaseSem k x.2.1).1.respond x.1.req (s.releaseSem k x.2.1).2 0) fun s x =>
      (State.respond_writes ..).trans (s.releaseSem_writes ..)
  unfold State.decideSem
  dsimp only
  rw [hresp]
  split
  · exact hrel ..
  · exact (State.acquireSem_writes ..).trans (hrel ..)

theorem State.decided_writes (s : State) (t : Nat) (g : Fin 16) (l : List (KdpReq × Nat × Int)) :
    (s.decided t g l).kdp.writes = [] := by
  unfold State.decided
  rw [State.decideSem_writes]
  rfl

/-- A commit instant at which all that waits are due requests `l` for semaphore `g`. -/
structure SluiceInstant (t : Nat) (g : Fin 16) (l : List (KdpReq × Nat × Int)) (s : State) : Prop where
  commit : isCommit (max s.now t) = true
  unmarked : s.marks.getD markCommit 0 ≠ max s.now t + 1
  receives : s.receives = true
  writes : s.kdp.writes = l.map (semWrite g)
  nonempty : l ≠ []
  due : ∀ x ∈ l, x.2.1 ≤ max s.now t

/-- After the decision of all that waits, nothing of a commit instant changes a semaphore, or takes an answer back. -/
theorem SluiceInstant.exec_decided {l : List (KdpReq × Nat × Int)} (h : SluiceInstant t g l s) :
    ∃ w, exec (.commitInstant t) s = .next (s.after t w) ∧ w.kdp.writes = [] ∧
      SluiceStep 3 id g (forEach (upto 16) (s.decided t g l) State.endHold) w := by
  obtain ⟨hc, hm, hr, hw, hl, hdue⟩ := h
  have hexp : SluiceStep 3 (fun _ => ()) g (s.atCommit t) (forEach (upto 16) (s.atCommit t) State.expireLease) :=
    .forEach (fun u k => u.expireLease_sluice k (fun _ _ => rfl) fun _ _ _ _ _ => rfl) _ _
  have hnone : (s.upTo t).noneDue = true := by
    refine List.all_eq_true.2 fun w hmem => ?_
    have hmem' : w ∈ l.map (semWrite g) := hw ▸ hmem
    obtain ⟨x, -, rfl⟩ := List.mem_map.1 hmem'
    rw [semWrite_sluice]
    rfl
  have hsluice : (s.atCommit t).sluiceCommit = forEach (upto 16) (s.decided t g l) State.endHold := by
    have hnow : (forEach (upto 16) (s.atCommit t) State.expireLease).now = max s.now t := hexp.now
    have hwrites := hexp.writes.trans hw
    unfold State.sluiceCommit State.decided
    generalize forEach (upto 16) (s.atCommit t) State.expireLease = m at hnow hwrites
    dsimp only
    rw [State.resolveSems_only hwrites hl fun x hx => by rw [hnow]; exact hdue x hx]
  have hends : (forEach (upto 16) (s.decided t g l) State.endHold).kdp.writes = [] := by
    rw [(State.endHolds_holder (g := 0)).writes, State.decided_writes]
  have happly : (forEach (upto 16) (s.decided t g l) State.endHold).applyDue = forEach (upto 16) (s.decided t g l) State.endHold :=
    State.applyDue_none _ (by rw [State.noneDue, hends]; rfl)
  have hrest := (forEach (upto 16) (s.decided t g l) State.endHold).commitEnd_sluice (e := 3) (q := id) (g := g)
  refine ⟨_, ?_, hrest.writes.trans hends, hrest⟩
  show execCommitInstant t s = _
  unfold execCommitInstant State.run
  have hc' : isCommit (s.upTo t).now = true := hc
  have honce : ∀ f : State → State, (s.upTo t).once markCommit f = f (s.atCommit t) := fun f => if_neg hm
  have hr' : (s.atCommit t).receives = true := hr
  simp only [hc', Bool.not_true, Bool.false_eq_true, if_false, State.applyDue_none _ hnone, honce, hr', if_true,
    State.commit_eq, hsluice, happly]

-- each case of the decision

/-- The semaphore that is decided at the instant is the one that stood there, where its lease has not run out. -/
theorem State.decided_of_lease (l : List (KdpReq × Nat × Int)) (hlease : (s.atCommit t).leaseOver g = false) :
    ∃ m : State, m.sem g = s.sem g ∧ m.now = max s.now t ∧ (∀ o, Obj.sluiceKept 3 o → m.v o = s.v o) ∧
      m.kdp.writes = [] ∧ s.decided t g l = m.decideSem g ((l.map (semWrite g)).filterMap (PendWrite.forSem g)) := by
  have h := State.expireLeases_sluice g.isLt hlease
  unfold State.decided
  generalize forEach (upto 16) (s.atCommit t) State.expireLease = m at h
  have hsem : m.sem g = (s.atCommit t).sem g := h.sem
  have hnow : m.now = (s.atCommit t).now := h.now
  exact ⟨m.noWrites, hsem, hnow, fun o ho => h.v_eq ho, rfl, rfl⟩

theorem State.acquireSem_free (p : Port) (h : (s.sem g).holder = none) : s.acquireSem g [p] = s.grantSem g p := by
  unfold State.acquireSem
  rw [h]
  cases p <;> rfl

theorem State.acquireSem_own (h : (s.sem g).holder = some p) : s.acquireSem g [p] = s.restartLease g := by
  unfold State.acquireSem
  rw [h]
  simp

theorem State.acquireSem_other {q : Port} (h : (s.sem g).holder = some q) (hq : q ≠ p) : s.acquireSem g [p] = s := by
  unfold State.acquireSem
  rw [h]
  simp [hq]

theorem State.acquireSem_both (h : (s.sem g).holder = none) :
    s.acquireSem g [.p0, .p1] =
      (s.grantSem g (s.fairPort g)).bitR Obj.sluiceFair g (!s.isBit Obj.sluiceFair g) := by
  unfold State.acquireSem
  rw [h]
  rfl

theorem State.respond_sem (s : State) (r : KdpReq) (code : Nat) (k : Nat) : (s.respond r code 0).sem k = s.sem k :=
  (s.respond_sluice (e := 3) (q := id) (g := k) r code 0).sem

theorem SluiceStep.of_id {β : Type} (q : Sem → β) (h : SluiceStep 3 id g s u) : SluiceStep 3 q g s u :=
  ⟨congrArg q h.sem, h.writes, h.now, h.objs, h.sent⟩

theorem SluiceStep.gives {β : Type} {q : Sem → β} {code : Nat} (h : SluiceStep e q g s u)
    (hs : s.gives r code 0 false []) : u.gives r code 0 false [] := by
  obtain ⟨who, tag, frames, hmem⟩ := hs
  exact ⟨who, tag, frames, h.sent _ hmem⟩

end

section
variable {s : State} {t : Nat} {g : Fin 16} {p : Port} {r r₀ r₁ : KdpReq} {d : Nat}

/-- What the decision leaves of holder and lease, and its answers, stand after the instant. -/
theorem SluiceInstant.exec_holder {l : List (KdpReq × Nat × Int)} (h : SluiceInstant t g l s) :
    ∃ w, exec (.commitInstant t) s = .next (s.after t w) ∧ w.kdp.writes = [] ∧
      SluiceStep 3 (fun x => (x.holder, x.restart)) g (s.decided t g l) w := by
  obtain ⟨w, hexec, hwrites, hw⟩ := h.exec_decided
  exact ⟨w, hexec, hwrites, State.endHolds_holder.trans (hw.of_id _)⟩

/-- No request that waits names another object than the semaphore's. -/
theorem SluiceInstant.agreedV_eq {l : List (KdpReq × Nat × Int)} (h : SluiceInstant t g l s) {o : Obj}
    (ho : o.key ≠ (Obj.sluiceAg g).key) : (s.atCommit t).agreedV o = s.vn o := by
  have hdue : ∀ w ∈ (s.atCommit t).dueWrites, ∃ v, w.members = [((Obj.sluiceAg g).key, .num v)] := by
    intro w hw
    have hmem : w ∈ l.map (semWrite g) := by
      rw [← h.writes]
      exact ((mem_foldl_insertBy _ _ _ _ hw).resolve_right List.not_mem_nil |> List.mem_filter.1).1
    obtain ⟨x, -, rfl⟩ := List.mem_map.1 hmem
    exact ⟨x.2.2, rfl⟩
  unfold State.agreedV
  refine List.foldlRecOn _ _ (motive := fun v => v = s.vn o) rfl ?_
  rintro v rfl x hx
  obtain ⟨w, hw, hxw⟩ := List.mem_flatMap.1 hx
  obtain ⟨y, hy⟩ := hdue w hw
  rw [hy, List.mem_singleton] at hxw
  subst hxw
  exact if_neg ho.symm

theorem State.agreedV_none {o : Obj} (h : ∀ w ∈ s.kdp.writes, s.now < w.due) : s.agreedV o = s.vn o := by
  have hdue : s.kdp.writes.filter (fun w => w.due ≤ s.now) = [] :=
    List.filter_eq_nil_iff.2 fun w hw => by simpa using h w hw
  simp [State.agreedV, State.dueWrites, hdue]

/-- A freed semaphore's group is in HOLD, or in RAMP where HOLD_TIME is 0. -/
theorem State.freeSem_sem (s : State) {k : Nat} (hk : k < 16) : (s.freeSem k).sem k =
    { s.sem k with holder := none, lapse := if s.agreedV (Obj.holdTime k) = 0 then 2 else 1, lapseAt := s.now } := by
  have hhold : ∀ {β : Type} {q : Sem → β}, SluiceStep 3 q k ((s.updSem k fun x => { x with holder := none }).updSem k
      fun x => { x with lapse := 1, lapseAt := s.now }) ((s.updSem k fun x => { x with holder := none }).beginHold k) :=
    State.beginHold_sluice ..
  have hagreed : ((s.updSem k fun x => { x with holder := none }).beginHold k).agreedV (Obj.holdTime k) =
      s.agreedV (Obj.holdTime k) :=
    (((SluiceStep.updSem (q := fun _ => ()) s k _ fun _ => rfl).trans (.updSem _ k _ fun _ => rfl)).trans hhold).agreedV_eq
      (Obj.holdTime_kept hk)
  have hsem : ((s.updSem k fun x => { x with holder := none }).beginHold k).sem k =
      { s.sem k with holder := none, lapse := 1, lapseAt := s.now } := by
    refine (hhold (q := id)).sem_eq.trans ?_
    rw [State.sem_updSem_self, State.sem_updSem_self]
  unfold State.freeSem
  generalize (s.updSem k fun x => { x with holder := none }).beginHold k = u at hagreed hsem
  dsimp only
  rw [hagreed]
  split
  · have h := (u.beginRamp_sluice k (e := 3) (q := id) (g := k)).sem
    rw [State.sem_updSem_self, hsem] at h
    exact h
  · exact hsem

/-- A request of the holder keeps its lease. -/
theorem SluiceInstant.lease_renewed (h : SluiceInstant t g [(r, d, 1)] s) (hp : r.carrier.port? = some p)
    (hh : (s.sem g).holder = some p) : (s.atCommit t).leaseOver g = false := by
  have hrenew : (s.atCommit t).renewing g = true := by
    have hdue : d ≤ (s.atCommit t).now := h.due _ (List.mem_singleton_self _)
    have hh' : ((s.atCommit t).sem g).holder = some p := hh
    have hw : (s.atCommit t).kdp.writes = [semWrite g (r, d, 1)] := h.writes
    simp [State.renewing, hw, hh', semWrite, hdue, hp]
  simp [State.leaseOver, hrenew]

theorem State.leaseOver_free (hh : (s.sem g).holder = none) : (s.atCommit t).leaseOver g = false := by
  have hh' : ((s.atCommit t).sem g).holder = none := hh
  simp [State.leaseOver, hh']

theorem SluiceInstant.lease_runs {l : List (KdpReq × Nat × Int)} (h : SluiceInstant t g l s)
    (hl : max s.now t < (s.sem g).restart + s.vn (Obj.leaseTime g) * ms) : (s.atCommit t).leaseOver g = false := by
  have hrun : ¬ ((s.atCommit t).sem g).restart + (s.atCommit t).agreedV (Obj.leaseTime g) * ms ≤ (s.atCommit t).now := by
    rw [h.agreedV_eq (by simp only [Obj.leaseTime, Obj.sluiceAg]; omega)]
    exact Nat.not_le.2 hl
  simp [State.leaseOver, hrun]

section
variable (hr : r.frame.isEmpty = false) (hp : r.carrier.port? = some p)
include hr hp

/-- A request for a free semaphore gives it to its port. -/
theorem SluiceInstant.acquire_free (h : SluiceInstant t g [(r, d, 1)] s) (hh : (s.sem g).holder = none) :
    ∃ u, exec (.commitInstant t) s = .next (s.after t u) ∧ (u.sem g).holder = some p ∧ (u.sem g).restart = max s.now t ∧
      u.gives r 0 0 false [] ∧ u.kdp.writes = [] := by
  obtain ⟨m, hsem, hnow, -, -, hdec⟩ := State.decided_of_lease [(r, d, 1)] (State.leaseOver_free (t := t) hh)
  obtain ⟨w, hexec, hwrites, hw⟩ := h.exec_holder
  have hgrant : (m.grantSem g p).sem g = { m.sem g with holder := some p, restart := m.now } := State.sem_updSem_self ..
  rw [hdec, State.decideSem_acquire hp, State.acquireSem_free p (by rw [hsem, hh]), State.acquireCode, hgrant, if_pos rfl] at hw
  obtain ⟨hholder, hrestart⟩ := Prod.mk.inj hw.sem
  rw [State.respond_sem, hgrant] at hholder hrestart
  exact ⟨w, hexec, hholder, hrestart.trans hnow, hw.gives (State.respond_gives _ r 0 0 false [] hr), hwrites⟩

/-- The holder's own request restarts its lease. -/
theorem SluiceInstant.acquire_own (h : SluiceInstant t g [(r, d, 1)] s) (hh : (s.sem g).holder = some p) :
    ∃ u, exec (.commitInstant t) s = .next (s.after t u) ∧ (u.sem g).holder = some p ∧ (u.sem g).restart = max s.now t ∧
      u.gives r 0 0 false [] := by
  obtain ⟨m, hsem, hnow, -, -, hdec⟩ := State.decided_of_lease [(r, d, 1)] (h.lease_renewed hp hh)
  obtain ⟨w, hexec, -, hw⟩ := h.exec_holder
  have hown : (m.sem g).holder = some p := by rw [hsem, hh]
  have hrest : (m.restartLease g).sem g = { m.sem g with restart := m.now } := State.sem_updSem_self ..
  rw [hdec, State.decideSem_acquire hp, State.acquireSem_own hown, State.acquireCode, hrest, if_pos hown] at hw
  obtain ⟨hholder, hrestart⟩ := Prod.mk.inj hw.sem
  rw [State.respond_sem, hrest] at hholder hrestart
  exact ⟨w, hexec, hholder.trans hown, hrestart.trans hnow, hw.gives (State.respond_gives _ r 0 0 false [] hr)⟩

/-- A request for a semaphore that the other port holds changes nothing of it. -/
theorem SluiceInstant.acquire_other {q : Port} (h : SluiceInstant t g [(r, d, 1)] s) (hh : (s.sem g).holder = some q)
    (hq : q ≠ p) (hl : max s.now t < (s.sem g).restart + s.vn (Obj.leaseTime g) * ms) :
    ∃ u, exec (.commitInstant t) s = .next (s.after t u) ∧ (u.sem g).holder = some q ∧ u.gives r 0x0608 0 false [] := by
  obtain ⟨m, hsem, -, -, -, hdec⟩ := State.decided_of_lease [(r, d, 1)] (h.lease_runs hl)
  obtain ⟨w, hexec, -, hw⟩ := h.exec_holder
  have hother : (m.sem g).holder = some q := by rw [hsem, hh]
  rw [hdec, State.decideSem_acquire hp, State.acquireSem_other hother hq, State.acquireCode,
    if_neg (by rw [hother]; simpa using hq)] at hw
  obtain ⟨hholder, -⟩ := Prod.mk.inj hw.sem
  rw [State.respond_sem] at hholder
  exact ⟨w, hexec, hholder.trans hother, hw.gives (State.respond_gives _ r 0x0608 0 false [] hr)⟩

/-- A release by the holder, whose lease runs, begins the HOLD of the group. -/
theorem SluiceInstant.release_own (h : SluiceInstant t g [(r, d, 0)] s) (hh : (s.sem g).holder = some p)
    (hl : max s.now t < (s.sem g).restart + s.vn (Obj.leaseTime g) * ms) (hhold : s.v (Obj.holdTime g) ≠ 0)
    (hpos : 0 ≤ s.v (Obj.holdTime g)) :
    ∃ u, exec (.commitInstant t) s = .next (s.after t u) ∧ (u.sem g).holder = none ∧ (u.sem g).lapse = 1 ∧
      u.gives r 0 0 false [] ∧ u.kdp.writes = [] := by
  obtain ⟨m, hsem, -, hv, hnone, hdec⟩ := State.decided_of_lease [(r, d, 0)] (h.lease_runs hl)
  obtain ⟨w, hexec, hwrites, hw⟩ := h.exec_decided
  have hagreed : m.agreedV (Obj.holdTime g) ≠ 0 := by
    rw [State.agreedV_none (by simp [hnone]), State.vn, hv _ (Obj.holdTime_kept g.isLt)]
    omega
  have hfree := State.freeSem_sem m g.isLt
  rw [if_neg hagreed] at hfree
  have hrel : m.releaseSem g p = (m.freeSem g, 0) := if_pos (by rw [hsem, hh])
  rw [hdec, State.decideSem_release hp, hrel] at hw
  have hstep : SluiceStep 3 (fun _ => ()) g m ((m.freeSem g).respond r 0 0) :=
    (m.freeSem_sluice g (fun _ => rfl) fun _ _ _ _ => rfl).trans (State.respond_sluice ..)
  have hfree' : ((m.freeSem g).respond r 0 0).sem g = { m.sem g with holder := none, lapse := 1, lapseAt := m.now } := by
    rw [State.respond_sem, hfree]
  have hruns : ((m.freeSem g).respond r 0 0).holdOver g = false := by
    have hms : 0 < m.agreedV (Obj.holdTime g) * ms := Nat.mul_pos (Nat.pos_of_ne_zero hagreed) (by decide)
    simp only [State.holdOver, hfree', hstep.agreedV_eq (Obj.holdTime_kept g.isLt), hstep.now]
    simp only [beq_self_eq_true, Bool.true_and, decide_eq_false_iff_not]
    omega
  have hend := (State.endHolds_sluice g.isLt hruns).trans hw
  have hsem' : w.sem g = { m.sem g with holder := none, lapse := 1, lapseAt := m.now } := hend.sem.trans hfree'
  exact ⟨w, hexec, by rw [hsem'], by rw [hsem'], hend.gives (State.respond_gives _ r 0 0 false [] hr), hwrites⟩

/-- A release by a port that does not hold the semaphore is refused. -/
theorem SluiceInstant.release_other (h : SluiceInstant t g [(r, d, 0)] s) (hh : (s.sem g).holder ≠ some p) :
    ∃ u, exec (.commitInstant t) s = .next (s.after t u) ∧ u.gives r 0x0609 0 false [] := by
  obtain ⟨w, hexec, -, hw⟩ := h.exec_holder
  have hexp := State.expireLeases_others (s := s.atCommit t) (g := g) p hh
  unfold State.decided at hw
  generalize forEach (upto 16) (s.atCommit t) State.expireLease = m at hexp hw
  have hnot : ¬ (m.noWrites.sem g).holder = some p := by
    have : decide ((m.sem g).holder = some p) = decide ((s.sem g).holder = some p) := hexp.sem
    have hnot : ¬ (m.sem g).holder = some p := by simpa [hh] using this
    exact hnot
  rw [State.decideSem_release hp, State.releaseSem, if_neg hnot] at hw
  exact ⟨w, hexec, hw.gives (State.respond_gives _ r 0x0609 0 false [] hr)⟩

end

/-- Of two requests for a free semaphore the port whose turn it is has its own granted, and the turn passes. -/
theorem SluiceInstant.acquire_both {d₀ d₁ : Nat} (h : SluiceInstant t g [(r₀, d₀, 1), (r₁, d₁, 1)] s)
    (hr₀ : r₀.frame.isEmpty = false) (hr₁ : r₁.frame.isEmpty = false) (hp₀ : r₀.carrier = .p0) (hp₁ : r₁.carrier = .p1)
    (hh : (s.sem g).holder = none) :
    ∃ u, exec (.commitInstant t) s = .next (s.after t u) ∧ (u.sem g).holder = some (s.fairPort g) ∧
      u.isBit Obj.sluiceFair g = !s.isBit Obj.sluiceFair g ∧
      u.gives (if s.fairPort g = .p0 then r₀ else r₁) 0 0 false [] ∧
      u.gives (if s.fairPort g = .p0 then r₁ else r₀) 0x0608 0 false [] := by
  obtain ⟨m, hsem, -, hv, -, hdec⟩ :=
    State.decided_of_lease [(r₀, d₀, 1), (r₁, d₁, 1)] (State.leaseOver_free (t := t) hh)
  obtain ⟨w, hexec, -, hw⟩ := h.exec_holder
  rw [hdec, State.decideSem_both (by rw [hp₀]; rfl) (by rw [hp₁]; rfl) rfl, State.acquireSem_both (by rw [hsem, hh])] at hw
  have hfair : m.isBit Obj.sluiceFair g = s.isBit Obj.sluiceFair g := by
    rw [State.isBit, hv _ Obj.sluiceFair_kept, State.isBit]
  have hport : m.fairPort g = s.fairPort g := by rw [State.fairPort, hfair, State.fairPort]
  rw [hport, hfair] at hw
  have hgrant : ((m.grantSem g (s.fairPort g)).bitR Obj.sluiceFair g (!s.isBit Obj.sluiceFair g)).sem g =
      { m.sem g with holder := some (s.fairPort g), restart := m.now } :=
    (State.sem_setR ..).trans (State.sem_updSem_self m g _)
  have hturn := State.isBit_bitR_self (m.grantSem g (s.fairPort g)) Obj.sluiceFair g (!s.isBit Obj.sluiceFair g)
  generalize (m.grantSem g (s.fairPort g)).bitR Obj.sluiceFair g (!s.isBit Obj.sluiceFair g) = x at hw hgrant hturn
  have hcode (y : State) (p : Port) (hy : y.sem g = x.sem g) : y.acquireCode g p = if s.fairPort g = p then 0 else 0x0608 := by
    rw [State.acquireCode, hy, hgrant]
    simp
  rw [hcode x .p0 rfl, hcode _ .p1 (State.respond_sem ..)] at hw
  obtain ⟨hholder, -⟩ := Prod.mk.inj hw.sem
  have hboth := ((x.respond_sluice (q := fun x => (x.holder, x.restart)) (g := g) r₀ _ 0).trans
    (State.respond_sluice ..)).trans hw
  have hone := (State.respond_sluice (q := fun x => (x.holder, x.restart)) (g := g) _ r₁ _ 0).trans hw
  have h₀ := hone.gives (State.respond_gives x r₀ (if s.fairPort g = .p0 then 0 else 0x0608) 0 false [] hr₀)
  have h₁ := hw.gives (State.respond_gives _ r₁ (if s.fairPort g = .p1 then 0 else 0x0608) 0 false [] hr₁)
  refine ⟨w, hexec, ?_, ?_, ?_⟩
  · rw [hholder, State.respond_sem, State.respond_sem, hgrant]
  · rw [State.isBit, hboth.v_eq Obj.sluiceFair_kept, ← State.isBit, hturn]
  · cases hf : s.fairPort g with
    | p0 => exact ⟨by simpa [hf] using h₀, by simpa [hf] using h₁⟩
    | p1 => exact ⟨by simpa [hf] using h₁, by simpa [hf] using h₀⟩

end

-- the ends of leases and of HOLD phases (R118, R119)

section
variable {s u : State} {t : Nat} {g : Fin 16}

/-- A lease that has run out frees the semaphore and is counted. -/
theorem State.expireLease_over (h : s.leaseOver g = true) :
    ((s.expireLease g).sem g).holder = none ∧
      ((s.expireLease g).sem g).lapse = (if s.agreedV (Obj.holdTime g) = 0 then 2 else 1) ∧
      (s.expireLease g).v (Obj.leaseExpiries g) = wrapU32 (s.v (Obj.leaseExpiries g) + 1) := by
  have hsem := State.freeSem_sem s g.isLt
  have hv := (s.freeSem_sluice (e := 4) (q := fun _ => ()) (g := g) g (fun _ => rfl) fun _ _ _ _ => rfl).v_eq
    (Obj.leaseExpiries_kept g.isLt)
  unfold State.expireLease
  rw [if_pos h, State.bumpR, State.sem_setR, State.v_setR_self, hsem, hv]
  exact ⟨rfl, rfl, rfl⟩

/-- Where no write is due, a lease runs for LEASE_TIME as it stands. -/
theorem State.leaseOver_iff (hh : (s.sem g).holder ≠ none) (hw : ∀ w ∈ s.kdp.writes, s.now < w.due) :
    s.leaseOver g = decide ((s.sem g).restart + s.vn (Obj.leaseTime g) * ms ≤ s.now) := by
  have hrenew : s.renewing g = false := List.any_eq_false.2 fun w h => by simp [hw w h]
  simp [State.leaseOver, hrenew, State.agreedV_none hw, Option.isSome_iff_ne_none.2 hh]

/-- A HOLD phase that has run out gives way to RAMP. -/
theorem State.endHold_over (h1 : (s.sem g).lapse = 1) (hw : ∀ w ∈ s.kdp.writes, s.now < w.due)
    (hover : (s.sem g).lapseAt + s.vn (Obj.holdTime g) * ms ≤ s.now) :
    (s.endHold g).sem g = { s.sem g with lapse := 2 } := by
  have hhold : s.holdOver g = true := by simp [State.holdOver, h1, State.agreedV_none hw, hover]
  unfold State.endHold
  rw [if_pos hhold]
  exact (s.beginRamp_sluice (e := 3) g).sem_eq.trans (State.sem_updSem_self ..)

end

/-- Settles O27: a request waits by the host's write; the commit instant decides the one semaphore asked for between the ends of
leases and of HOLD phases, and all else that it does is a `SluiceStep`; the two expiries are the model's own. -/
theorem sluiceSemaphores : Obligations.SluiceSemaphores := by
  refine ⟨fun t cr g e v i s hi hn he => ?_, fun t g l s hc hm hr hw hdue => ?_, fun t g s hc => ?_,
    fun t g s hc h1 hw hover => ?_⟩
  · have hexec : exec i s = .next (s.after t ((s.upTo t).hostWrite cr 0x2400 (g + 1) (.num v))) := by
      simp only [List.mem_cons, Prod.mk.injEq, List.not_mem_nil, or_false] at hi
      obtain ⟨rfl, rfl⟩ | ⟨rfl, rfl⟩ := hi <;> rfl
    refine ⟨fun h => ⟨_, s.writeReq t cr (Obj.sluiceAg g) (.num v), hexec, ?_⟩, fun a hrec hdual hf => ⟨_, hexec,
      hostWrite_sluice_fails hrec hdual hn he hf⟩⟩
    rw [hostWrite_sluice_waits h hn he]
    refine ⟨rfl, State.rowReq_frame .., State.heard_sent .., State.heard_sems .., ?_⟩
    show (s.heard t cr).kdp.writes ++ _ = _
    rw [State.heard_kdp]
  · have hinst (hl : l ≠ []) : SluiceInstant t g l s := ⟨hc, hm, hr, hw, hl, fun x hx => (hdue x hx).1⟩
    refine ⟨fun r p hl hp => ?_, fun r p hl hp => ?_, fun r₀ r₁ hl hp₀ hp₁ hh => ?_⟩
    · obtain ⟨⟨r', d, v⟩, rfl, hx⟩ := List.map_eq_singleton_iff.1 hl
      obtain ⟨rfl, rfl⟩ := Prod.mk.inj hx
      have h := hinst (List.cons_ne_nil _ _)
      have hframe := (hdue _ (List.mem_singleton_self _)).2
      exact ⟨h.acquire_free hframe hp, h.acquire_own hframe hp, fun q hh hq => h.acquire_other hframe hp hh hq⟩
    · obtain ⟨⟨r', d, v⟩, rfl, hx⟩ := List.map_eq_singleton_iff.1 hl
      obtain ⟨rfl, rfl⟩ := Prod.mk.inj hx
      have h := hinst (List.cons_ne_nil _ _)
      have hframe := (hdue _ (List.mem_singleton_self _)).2
      exact ⟨h.release_own hframe hp, h.release_other hframe hp⟩
    · obtain ⟨⟨r₀', d₀, v₀⟩, l', rfl, hx₀, hl'⟩ := List.map_eq_cons_iff.1 hl
      obtain ⟨⟨r₁', d₁, v₁⟩, rfl, hx₁⟩ := List.map_eq_singleton_iff.1 hl'
      obtain ⟨rfl, rfl⟩ := Prod.mk.inj hx₀
      obtain ⟨rfl, rfl⟩ := Prod.mk.inj hx₁
      exact (hinst (List.cons_ne_nil _ _)).acquire_both (hdue _ (List.mem_cons_self ..)).2
        (hdue _ (List.mem_cons_of_mem _ (List.mem_singleton_self _))).2 hp₀ hp₁ hh
  · have hexec : exec (.leaseExpiry t g) s = .next (s.after t ((s.upTo t).expireLease g)) :=
      congrArg (fun u => Host.Outcome.next (s.after t u)) (if_pos hc)
    rw [hexec]
    refine ⟨fun h => ⟨_, rfl, State.expireLease_over h⟩, fun h => ?_, fun hh hw => State.leaseOver_iff hh hw⟩
    rw [State.expireLease, if_neg (by simp [h])]
  · have hexec : exec (.holdTimeExpiry t g) s = .next (s.after t ((s.upTo t).endHold g)) :=
      congrArg (fun u => Host.Outcome.next (s.after t u)) (if_pos hc)
    have hend := State.endHold_over (s := s.upTo t) h1 hw hover
    exact ⟨_, hexec, by rw [hend], by rw [hend]; rfl⟩

end Sys2Proof.Machine
end


section
/-! ## What a write's checks do not read (R106, R108)

A boundary empties what a port holds and counts the frames that a newer one overtook (CYC_OVERTAKEN) before it checks the entries
of the newest frame. No check reads either: the state's `core`, without the ports and those counters and with its registers in the
order of their keys, passes and fails the same checks. -/

namespace Sys2Proof.Machine

/-- The registers that hold CYC_OVERTAKEN. -/
def countsOvertaken (k : Nat) : Bool := k == (Obj.cycOvertaken 0).key || k == (Obj.cycOvertaken 1).key

/-- The keys of a table other than those of CYC_OVERTAKEN. -/
def Tbl.coreKeys (t : Tbl Int) : Finset Nat := ((t.map (·.1)).filter fun k => !countsOvertaken k).toFinset

/-- The entries of a table other than those of CYC_OVERTAKEN, in the order of their keys. -/
def Tbl.core (t : Tbl Int) : Tbl Int := (t.coreKeys.sort (· ≤ ·)).map fun k => (k, t.getD k 0)

section
variable (t u : Tbl Int) {k : Nat} {d : Int}

theorem Tbl.mem_coreKeys : k ∈ t.coreKeys ↔ (∃ v, (k, v) ∈ t) ∧ countsOvertaken k = false := by
  simp [Tbl.coreKeys]

theorem Tbl.getD_of_not_mem {t : Tbl Int} (h : ∀ v, (k, v) ∉ t) : t.getD k d = d :=
  (t.getD_mem k d).resolve_right (h _)

/-- What an entry's key holds does not depend on the default. -/
theorem Tbl.getD_of_mem {t : Tbl Int} {v : Int} (h : (k, v) ∈ t) (d d' : Int) : t.getD k d = t.getD k d' := by
  induction t with
  | nil => simp at h
  | cons x r ih =>
    obtain ⟨k', v'⟩ := x
    by_cases hk : k' = k
    · simp [Tbl.getD, hk]
    · have hr : (k, v) ∈ r := (List.mem_cons.1 h).resolve_left fun he => hk (Prod.mk.inj he).1.symm
      simpa [Tbl.getD, hk] using ih hr

theorem Tbl.getD_map_keys (l : List Nat) (f : Nat → Int) :
    Tbl.getD (l.map fun k => (k, f k)) k d = if k ∈ l then f k else d := by
  induction l with
  | nil => simp [Tbl.getD]
  | cons x l ih =>
    rw [List.map_cons, Tbl.getD, ih]
    by_cases hx : x = k
    · simp [hx]
    · simp [hx, Ne.symm hx]

theorem Tbl.getD_core (h : countsOvertaken k = false) : t.core.getD k d = t.getD k d := by
  rw [Tbl.core, Tbl.getD_map_keys]
  split
  · next hk =>
    obtain ⟨⟨v, hv⟩, -⟩ := (Tbl.mem_coreKeys t).1 ((Finset.mem_sort _).1 hk)
    exact Tbl.getD_of_mem hv ..
  · next hk =>
    refine (Tbl.getD_of_not_mem fun v hv => hk ?_).symm
    exact (Finset.mem_sort _).2 ((Tbl.mem_coreKeys t).2 ⟨⟨v, hv⟩, h⟩)

/-- Tables with the same keys and values, but for CYC_OVERTAKEN, have one core. -/
theorem Tbl.core_congr {t u : Tbl Int} (hkeys : t.coreKeys = u.coreKeys)
    (hvals : ∀ k, countsOvertaken k = false → t.getD k 0 = u.getD k 0) : t.core = u.core := by
  unfold Tbl.core
  rw [hkeys]
  refine List.map_congr_left fun k hk => ?_
  rw [hvals k ((Tbl.mem_coreKeys u).1 ((Finset.mem_sort _).1 hk)).2]

theorem Tbl.coreKeys_core : t.core.coreKeys = t.coreKeys := by
  ext k
  simp only [Tbl.mem_coreKeys, Tbl.core, List.mem_map, Finset.mem_sort, Prod.mk.injEq]
  constructor
  · rintro ⟨⟨v, a, ⟨ha, -⟩, rfl, -⟩, hk⟩
    exact ⟨ha, hk⟩
  · rintro ⟨hv, hk⟩
    exact ⟨⟨_, k, ⟨hv, hk⟩, rfl, rfl⟩, hk⟩

theorem Tbl.mem_place {x : Nat × Int} {v : Int} : x ∈ t.place k v ↔ x = (k, v) ∨ x ∈ t := by
  induction t with
  | nil => simp [Tbl.place]
  | cons y r ih =>
    obtain ⟨k', v'⟩ := y
    unfold Tbl.place
    split
    · simp
    · rw [List.mem_cons, ih, List.mem_cons]
      tauto

theorem Tbl.mem_put {x : Nat × Int} {v : Int} : x ∈ t.put k d v ↔ (v ≠ d ∧ x = (k, v)) ∨ (x ∈ t ∧ x.1 ≠ k) := by
  unfold Tbl.put Tbl.erase
  split
  · simp [*]
  · rw [Tbl.mem_place]
    simp [*]

/-- A written key reads as its value; where that is the default the key is not listed. -/
theorem Tbl.getD_put_zero {v : Int} : (t.put k d v).getD k 0 = if v = d then 0 else v := by
  split
  · next hv => exact Tbl.getD_of_not_mem fun w hw => by simp [Tbl.mem_put, hv] at hw
  · next hv => rw [Tbl.getD_of_mem ((Tbl.mem_put t).2 (.inl ⟨hv, rfl⟩)) 0 d, Tbl.getD_put_self]

/-- Writing one key to tables of one core gives tables of one core. -/
theorem Tbl.core_put {t u : Tbl Int} (h : t.core = u.core) (k : Nat) (d v : Int) : (t.put k d v).core = (u.put k d v).core := by
  have hkeys : t.coreKeys = u.coreKeys := by rw [← Tbl.coreKeys_core, h, Tbl.coreKeys_core]
  refine Tbl.core_congr ?_ fun j hj => ?_
  · ext j
    have hj : j ∈ t.coreKeys ↔ j ∈ u.coreKeys := by rw [hkeys]
    simp only [Tbl.mem_coreKeys, Tbl.mem_put, Prod.mk.injEq] at hj ⊢
    by_cases hjk : j = k
    · simp [hjk]
    · simpa [hjk] using hj
  · by_cases hjk : j = k
    · rw [hjk, Tbl.getD_put_zero, Tbl.getD_put_zero]
    · rw [Tbl.getD_put_ne _ _ _ _ hjk, Tbl.getD_put_ne _ _ _ _ hjk, ← Tbl.getD_core t hj, h, Tbl.getD_core u hj]

/-- Tables that differ at CYC_OVERTAKEN have one core. -/
theorem Tbl.core_put_counts (h : countsOvertaken k = true) (v : Int) : (t.put k d v).core = t.core := by
  refine Tbl.core_congr ?_ fun j hj => Tbl.getD_put_ne _ _ _ _ fun hjk => by rw [hjk, h] at hj; cases hj
  ext j
  simp only [Tbl.mem_coreKeys, Tbl.mem_put, Prod.mk.injEq]
  by_cases hjk : j = k
  · simp [hjk, h]
  · simp [hjk]

end

-- the state

/-- The state without the ports and CYC_OVERTAKEN, its registers in the order of their keys. -/
def State.core (s : State) : State := { s with regs := s.regs.map Tbl.core, ports := [] }

section
variable (s : State)

/-- An object other than CYC_OVERTAKEN. -/
def Obj.inCore (o : Obj) : Prop := o.key % 256 ≠ 3 ∨ 0x1132 * 256 ≤ o.key

theorem Obj.inCore.counts {o : Obj} (h : o.inCore) : countsOvertaken o.key = false := by
  unfold Obj.inCore at h
  simp only [countsOvertaken, Obj.cycOvertaken, Bool.or_eq_false_iff, beq_eq_false_iff_ne]
  omega

theorem State.core_g_counts {o : Obj} (c : Ch) (h : countsOvertaken o.key = false) : s.core.g c o = s.g c o := by
  cases c <;> exact Tbl.getD_core _ h

theorem Tbl.mem_core_key {t : Tbl Int} {k : Nat} (h : countsOvertaken k = false) :
    (∃ v, (k, v) ∈ t.core) ↔ ∃ v, (k, v) ∈ t := by
  have hk : k ∈ t.core.coreKeys ↔ k ∈ t.coreKeys := by rw [Tbl.coreKeys_core]
  simpa [Tbl.mem_coreKeys, h] using hk

/-- The objects of the object dictionary are the same. -/
theorem State.core_objEntries (o : Nat) : s.core.objEntries.contains o = s.objEntries.contains o := by
  have hmem (u : State) : o ∈ u.objEntries ↔ ∃ k, ((∃ v, (k, v) ∈ u.regs.a) ∨ ∃ v, (k, v) ∈ u.regs.b) ∧
      (0x2200 * 256 ≤ k ∧ k < 0x2300 * 256) ∧ (k / 256 - 0x2200) * 8 + k % 256 - 1 = o := by
    unfold State.objEntries
    rw [List.mem_eraseDups, List.mem_filterMap]
    constructor
    · rintro ⟨⟨k, v⟩, hk, hf⟩
      rw [List.mem_append] at hk
      split at hf
      · next hr =>
        exact ⟨k, hk.imp (fun h => ⟨v, h⟩) fun h => ⟨v, h⟩, by simpa using hr, Option.some.inj hf⟩
      · cases hf
    · rintro ⟨k, hk, hr, ho⟩
      rcases hk with ⟨v, hv⟩ | ⟨v, hv⟩
      · exact ⟨(k, v), List.mem_append_left _ hv, by simp [hr, ho]⟩
      · exact ⟨(k, v), List.mem_append_right _ hv, by simp [hr, ho]⟩
  have hkey (k : Nat) (hr : 0x2200 * 256 ≤ k) : countsOvertaken k = false := by
    simp only [countsOvertaken, Obj.cycOvertaken, Bool.or_eq_false_iff, beq_eq_false_iff_ne]
    omega
  rw [Bool.eq_iff_iff, List.contains_iff_mem, List.contains_iff_mem, hmem, hmem]
  refine exists_congr fun k => and_congr_left fun h => or_congr ?_ ?_
  · exact Tbl.mem_core_key (hkey k h.1.1)
  · exact Tbl.mem_core_key (hkey k h.1.1)

/-- States of one core differ in registers and ports alone. -/
theorem State.core_elim {s u : State} (h : s.core = u.core) :
    ∃ r q, u = { s with regs := r, ports := q } ∧ s.regs.map Tbl.core = r.map Tbl.core :=
  ⟨u.regs, u.ports, congrArg (fun x : State => { x with regs := u.regs, ports := u.ports }) h.symm, congrArg State.regs h⟩

theorem State.core_intro {r : Trio (Tbl Int)} (q : Tbl PortSt) (h : s.regs.map Tbl.core = r.map Tbl.core) :
    State.core { s with regs := r, ports := q } = s.core := by
  unfold State.core
  dsimp only
  rw [h]

theorem trio_map_upd_congr {α β : Type} {f : α → β} {t u : Trio α} (h : t.map f = u.map f) (c : Ch) {x y : α → α}
    (hxy : ∀ a b, f a = f b → f (x a) = f (y b)) : (t.upd c x).map f = (u.upd c y).map f := by
  obtain ⟨ha, hb, hc⟩ := Trio.mk.inj h
  cases c with
  | chA => exact congrArg (Trio.mk · (f t.b) (f t.c)) (hxy _ _ ha) |>.trans (by rw [hb, hc]; rfl)
  | chB => exact congrArg (Trio.mk (f t.a) · (f t.c)) (hxy _ _ hb) |>.trans (by rw [ha, hc]; rfl)
  | chC => exact congrArg (Trio.mk (f t.a) (f t.b) ·) (hxy _ _ hc) |>.trans (by rw [ha, hb]; rfl)

theorem State.core_setC {s u : State} (h : s.core = u.core) (c : Ch) (o : Obj) (v : Int) :
    (s.setC c o v).core = (u.setC c o v).core := by
  obtain ⟨r, q, rfl, hr⟩ := State.core_elim h
  exact (State.core_intro (s.setC c o v) q (trio_map_upd_congr hr c fun _ _ h => Tbl.core_put h ..)).symm

theorem State.core_setR {s u : State} (h : s.core = u.core) (o : Obj) (v : Int) : (s.setR o v).core = (u.setR o v).core := by
  obtain ⟨r, q, rfl, hr⟩ := State.core_elim h
  obtain ⟨ha, hb, hc⟩ := Trio.mk.inj hr
  refine (State.core_intro (s.setR o v) q ?_).symm
  simp only [State.setR, Trio.map, Tbl.core_put ha, Tbl.core_put hb, Tbl.core_put hc]

theorem State.core_setStr {s u : State} (h : s.core = u.core) (o : Obj) (v : List Byte) :
    (s.setStr o v).core = (u.setStr o v).core :=
  congrArg (fun x : State => { x with strs := x.strs.map fun t => t.put o.key [] v }) h

/-- A value put into states of one core leaves them of one core. -/
theorem State.core_rawSet {s u : State} (h : s.core = u.core) (e : Entry) (v : Val) :
    (s.rawSet e v).core = (u.rawSet e v).core := by
  unfold State.rawSet
  split
  · extract_lets x
    split
    · exact State.core_setC h ..
    · exact State.core_setR h ..
  · exact State.core_setStr h ..

/-- A change of a port is none of the core. -/
theorem State.core_updPort (n : Nat) (f : PortSt → PortSt) : (s.updPort n f).core = s.core := rfl

/-- A count of CYC_OVERTAKEN is none of the core. -/
theorem State.core_bumpC_overtaken (c : Ch) (p : Port) (n : Nat) :
    (s.bumpC c (Obj.cycOvertaken p.num) n).core = s.core := by
  have hcounts : countsOvertaken (Obj.cycOvertaken p.num).key = true := by cases p <;> rfl
  have hupd := trio_map_upd_congr (f := Tbl.core) (t := s.regs) rfl c (y := id) fun a b h =>
    (Tbl.core_put_counts a hcounts (d := 0) (wrapU32 (s.g c (Obj.cycOvertaken p.num) + n))).trans h
  refine State.core_intro s s.ports (Eq.trans ?_ hupd.symm)
  cases c <;> rfl

end

-- the objects that the checks read are none of CYC_OVERTAKEN

section
@[simp] theorem Obj.inCore_device : Obj.clMode.inCore ∧ (∀ p, (Obj.cmdMapCount p).inCore) ∧
    (∀ p i, (Obj.cmdMapEntry p i).inCore) ∧ (∀ p, (Obj.cycleTime p).inCore) ∧ (∀ p, (Obj.cyclicEnable p).inCore) ∧
    (∀ p, (Obj.cyclicUdpPort p).inCore) ∧ Obj.engineMinScore.inCore ∧ Obj.fabAuthMode.inCore ∧
    (∀ n, (Obj.kdpCanFormat n).inCore) ∧ (∀ n, (Obj.kdpCanRates n).inCore) ∧ (∀ n, (Obj.kdpCanReqId n).inCore) ∧
    (∀ n, (Obj.kdpCanRspBase n).inCore) ∧ (∀ n, (Obj.kdpCanSafetyWrite n).inCore) ∧ Obj.kdpUdpPort.inCore ∧
    (∀ c l, (Obj.laneCost c l).inCore) ∧ (∀ o, (Obj.objDesc o).inCore) ∧ Obj.ownerMargin.inCore ∧
    (∀ c, (Obj.plNow c).inCore) ∧ Obj.planAdapt.inCore ∧ Obj.remoteBudget.inCore ∧ Obj.remoteMinPeriod.inCore ∧
    Obj.sleepEnable.inCore ∧ Obj.sparePair0.inCore ∧ Obj.sparePair1.inCore ∧ (∀ p, (Obj.statusMapCount p).inCore) ∧
    (∀ p i, (Obj.statusMapEntry p i).inCore) ∧ (∀ p, (Obj.statusOffset p).inCore) ∧ Obj.strapStatus.inCore ∧
    Obj.twinBrakeAxes.inCore ∧ Obj.twinPeerAddr.inCore ∧ Obj.twinPeerUid.inCore ∧ Obj.twinPlaceEnable.inCore ∧
    Obj.twinState.inCore ∧ Obj.twinSteerAxes.inCore ∧ Obj.utilCap.inCore ∧ Obj.vehicleParked.inCore := by
  and_intros <;> intros <;> simp only [Obj.inCore, Obj.clMode, Obj.cmdMapCount, Obj.cmdMapEntry, Obj.cycleTime,
    Obj.cyclicEnable, Obj.cyclicUdpPort, Obj.engineMinScore, Obj.fabAuthMode, Obj.kdpCanFormat, Obj.kdpCanRates,
    Obj.kdpCanReqId, Obj.kdpCanRspBase, Obj.kdpCanSafetyWrite, Obj.kdpUdpPort, Obj.laneCost, Obj.objDesc, Obj.ownerMargin,
    Obj.plNow, Obj.planAdapt, Obj.remoteBudget, Obj.remoteMinPeriod, Obj.sleepEnable, Obj.sparePair0, Obj.sparePair1,
    Obj.statusMapCount, Obj.statusMapEntry, Obj.statusOffset, Obj.strapStatus, Obj.twinBrakeAxes, Obj.twinPeerAddr,
    Obj.twinPeerUid, Obj.twinPlaceEnable, Obj.twinState, Obj.twinSteerAxes, Obj.utilCap, Obj.vehicleParked] <;> omega

@[simp] theorem Obj.inCore_tasks : (∀ t b i, (Obj.coef t b i).inCore) ∧ (∀ t, (Obj.dqVdcSource t).inCore) ∧
    (∀ t, (Obj.intState t).inCore) ∧ (∀ t b, (Obj.outMax t b).inCore) ∧ (∀ t b, (Obj.outMin t b).inCore) ∧
    (∀ t b i, (Obj.shift t b i).inCore) ∧ (∀ t, (Obj.taskAxis t).inCore) ∧ (∀ t, (Obj.taskDeadline t).inCore) ∧
    (∀ t, (Obj.taskEnable t).inCore) ∧ (∀ t i, (Obj.taskIn t i).inCore) ∧ (∀ t, (Obj.taskOut t).inCore) ∧
    (∀ t, (Obj.taskPeriod t).inCore) ∧ (∀ t, (Obj.taskPin t).inCore) ∧ (∀ t, (Obj.taskStatic t).inCore) ∧
    (∀ t, (Obj.taskType t).inCore) ∧ (∀ t, (Obj.traceControl t).inCore) ∧ (∀ t, (Obj.traceLength t).inCore) ∧
    (∀ t, (Obj.traceNodes t).inCore) ∧ (∀ t, (Obj.traceTrigNode t).inCore) ∧ (∀ t, (Obj.traceTrigSrc t).inCore) := by
  and_intros <;> intros <;> simp only [Obj.inCore, Obj.coef, Obj.dqVdcSource, Obj.intState, Obj.outMax, Obj.outMin,
    Obj.shift, Obj.taskAxis, Obj.taskDeadline, Obj.taskEnable, Obj.taskIn, Obj.taskOut, Obj.taskPeriod, Obj.taskPin,
    Obj.taskStatic, Obj.taskType, Obj.traceControl, Obj.traceLength, Obj.traceNodes, Obj.traceTrigNode,
    Obj.traceTrigSrc] <;> omega

@[simp] theorem Obj.inCore_axes : (∀ g i, (Obj.agMember g i).inCore) ∧ (∀ g, (Obj.agMode g).inCore) ∧
    (∀ g i, (Obj.agShare g i).inCore) ∧ (∀ n, (Obj.axBridge n).inCore) ∧ (∀ n, (Obj.axFbSource n).inCore) ∧
    (∀ n, (Obj.axReaction n).inCore) ∧ (∀ n, (Obj.axSafetyRated n).inCore) ∧ (∀ n, (Obj.baseLimit n).inCore) ∧
    (∀ n, (Obj.boostLimit n).inCore) ∧ (∀ n, (Obj.pgAcc n).inCore) ∧ (∀ n, (Obj.pgDec n).inCore) ∧
    (∀ n, (Obj.pgQsDec n).inCore) ∧ (∀ n, (Obj.pgSetpoint n).inCore) ∧ (∀ n, (Obj.pgTargetNow n).inCore) ∧
    (∀ n, (Obj.pgVelNow n).inCore) ∧ (∀ n, (Obj.pgVmax n).inCore) := by
  and_intros <;> intros <;> simp only [Obj.inCore, Obj.agMember, Obj.agMode, Obj.agShare, Obj.axBridge, Obj.axFbSource,
    Obj.axReaction, Obj.axSafetyRated, Obj.baseLimit, Obj.boostLimit, Obj.pgAcc, Obj.pgDec, Obj.pgQsDec, Obj.pgSetpoint,
    Obj.pgTargetNow, Obj.pgVelNow, Obj.pgVmax] <;> omega

@[simp] theorem Obj.inCore_channels : (∀ c k, (Obj.bsMode c k).inCore) ∧ (∀ c k, (Obj.ckptOffset c k).inCore) ∧
    (∀ c n, (Obj.cvEnable c n).inCore) ∧ (∀ c n, (Obj.cvSlotBind c n).inCore) ∧ (∀ c n, (Obj.decimRatio c n).inCore) ∧
    (∀ c k s, (Obj.diagSrcCode c k s).inCore) ∧ (∀ c n, (Obj.fpIndexMode c n).inCore) ∧ (∀ c n, (Obj.fpMode c n).inCore) ∧
    (∀ c n, (Obj.fpStatus c n).inCore) ∧ (∀ c k, (Obj.pwmPhase c k).inCore) ∧ (∀ c k, (Obj.pwmTop c k).inCore) ∧
    (∀ c k, (Obj.resBw c k).inCore) ∧ (∀ c k, (Obj.resEnable c k).inCore) ∧ (∀ c k, (Obj.resExcFreq c k).inCore) ∧
    (∀ c k, (Obj.resExcPort c k).inCore) ∧ (∀ c k, (Obj.resPhase c k).inCore) ∧ (∀ c k, (Obj.resStatus c k).inCore) ∧
    (∀ c n, (Obj.sincOrder c n).inCore) ∧ (∀ c n, (Obj.stepWidth c n).inCore) ∧ (∀ c n, (Obj.windowAlign c n).inCore) := by
  and_intros <;> intros <;> simp only [Obj.inCore, Obj.bsMode, Obj.ckptOffset, Obj.cvEnable, Obj.cvSlotBind, Obj.decimRatio,
    Obj.diagSrcCode, Obj.fpIndexMode, Obj.fpMode, Obj.fpStatus, Obj.pwmPhase, Obj.pwmTop, Obj.resBw, Obj.resEnable,
    Obj.resExcFreq, Obj.resExcPort, Obj.resPhase, Obj.resStatus, Obj.sincOrder, Obj.stepWidth, Obj.windowAlign] <;> omega

variable (s a : State)

@[simp] theorem State.core_g (c : Ch) {o : Obj} (h : o.inCore) : s.core.g c o = s.g c o := s.core_g_counts c h.counts
@[simp] theorem State.core_v {o : Obj} (h : o.inCore) : s.core.v o = s.v o := by simp [State.v, h]
@[simp] theorem State.core_vn {o : Obj} (h : o.inCore) : s.core.vn o = s.vn o := by simp [State.vn, h]
@[simp] theorem State.core_gn (c : Ch) {o : Obj} (h : o.inCore) : s.core.gn c o = s.gn c o := by simp [State.gn, h]
@[simp] theorem State.core_isBit {o : Obj} (h : o.inCore) (n : Nat) : s.core.isBit o n = s.isBit o n := by simp [State.isBit, h]
@[simp] theorem State.core_isBitC (c : Ch) {o : Obj} (h : o.inCore) (n : Nat) : s.core.isBitC c o n = s.isBitC c o n := by
  simp [State.isBitC, h]

-- what no register and no port stands behind

@[simp] theorem State.core_allStill : s.core.allStill = s.allStill := rfl
@[simp] theorem State.core_armedOn : s.core.armedOn = s.armedOn := rfl
@[simp] theorem State.core_available : s.core.available = s.available := rfl
@[simp] theorem State.core_axis : s.core.axis = s.axis := rfl
@[simp] theorem State.core_bankOf : s.core.bankOf = s.bankOf := rfl
@[simp] theorem State.core_copiesIn : s.core.copiesIn = s.copiesIn := rfl
@[simp] theorem State.core_diag : s.core.diag = s.diag := rfl
@[simp] theorem State.core_fab : s.core.fab = s.fab := rfl
@[simp] theorem State.core_fabLane : s.core.fabLane = s.fabLane := rfl
@[simp] theorem State.core_gen : s.core.gen = s.gen := rfl
@[simp] theorem State.core_grp : s.core.grp = s.grp := rfl
@[simp] theorem State.core_kdp : s.core.kdp = s.kdp := rfl
@[simp] theorem State.core_keepsSite : s.core.keepsSite = s.keepsSite := rfl
@[simp] theorem State.core_keptOwner : s.core.keptOwner = s.keptOwner := rfl
@[simp] theorem State.core_lcTarget : s.core.lcTarget = s.lcTarget := rfl
@[simp] theorem State.core_life : s.core.life = s.life := rfl
@[simp] theorem State.core_lifeBars : s.core.lifeBars = s.lifeBars := rfl
@[simp] theorem State.core_linksDown : s.core.linksDown = s.linksDown := rfl
@[simp] theorem State.core_lockedOut : s.core.lockedOut = s.lockedOut := rfl
@[simp] theorem State.core_neighbours : s.core.neighbours = s.neighbours := rfl
@[simp] theorem State.core_now : s.core.now = s.now := rfl
@[simp] theorem State.core_onTwin : s.core.onTwin = s.onTwin := rfl
@[simp] theorem State.core_ownerCh : s.core.ownerCh = s.ownerCh := rfl
@[simp] theorem State.core_pen : s.core.pen = s.pen := rfl
@[simp] theorem State.core_planChannels : s.core.planChannels = s.planChannels := rfl
@[simp] theorem State.core_planEngScore : s.core.planEngScore = s.planEngScore := rfl
@[simp] theorem State.core_plane : s.core.plane = s.plane := rfl
@[simp] theorem State.core_poolUsed : s.core.poolUsed = s.poolUsed := rfl
@[simp] theorem State.core_pwIsSet : s.core.pwIsSet = s.pwIsSet := rfl
@[simp] theorem State.core_red : s.core.red = s.red := rfl
@[simp] theorem State.core_routes : s.core.routes = s.routes := rfl
@[simp] theorem State.core_safe : s.core.safe = s.safe := rfl
@[simp] theorem State.core_sed : s.core.sed = s.sed := rfl
@[simp] theorem State.core_sem : s.core.sem = s.sem := rfl
@[simp] theorem State.core_siteIn : s.core.siteIn = s.siteIn := rfl
@[simp] theorem State.core_slot : s.core.slot = s.slot := rfl
@[simp] theorem State.core_standstill : s.core.standstill = s.standstill := rfl
@[simp] theorem State.core_task : s.core.task = s.task := rfl
@[simp] theorem State.core_trace : s.core.trace = s.trace := rfl
@[simp] theorem State.core_twin : s.core.twin = s.twin := rfl
@[simp] theorem State.core_twinScore : s.core.twinScore = s.twinScore := rfl
@[simp] theorem State.core_twinSpare : s.core.twinSpare = s.twinSpare := rfl
@[simp] theorem State.core_unlocked : s.core.unlocked = s.unlocked := rfl
@[simp] theorem State.core_voters : s.core.voters = s.voters := rfl

@[simp] theorem State.core_taskTy : s.core.taskTy = s.taskTy := by funext k; simp [State.taskTy]
@[simp] theorem State.core_isDq : s.core.isDq = s.isDq := by funext k; simp [State.isDq]
@[simp] theorem State.core_taskAxis : s.core.taskAxis = s.taskAxis := by funext k; simp [State.taskAxis]
@[simp] theorem State.core_bridgeOf : s.core.bridgeOf = s.bridgeOf := by funext n; simp [State.bridgeOf]
@[simp] theorem State.core_dqSlot : s.core.dqSlot = s.dqSlot := by funext k; simp [State.dqSlot]
@[simp] theorem State.core_period3 : s.core.period3 = s.period3 := by funext k; simp [State.period3]
@[simp] theorem State.core_delivery : s.core.delivery = s.delivery := by funext c n; simp [State.delivery]
@[simp] theorem State.core_boundConverters : s.core.boundConverters = s.boundConverters := by
  funext c k; simp [State.boundConverters]
@[simp] theorem State.core_deadline : s.core.deadline = s.deadline := by funext k; simp [State.deadline]
@[simp] theorem State.core_load : s.core.load = s.load := by funext mhz k; simp [State.load]
@[simp] theorem State.core_classAllow : s.core.classAllow = s.classAllow := by funext o; simp [State.classAllow]
@[simp] theorem State.core_enabledTasks : s.core.enabledTasks = s.enabledTasks := by simp [State.enabledTasks]
@[simp] theorem State.core_readersOf : s.core.readersOf = s.readersOf := by funext o; simp [State.readersOf]
@[simp] theorem State.core_dictRef : s.core.dictRef = s.dictRef := by funext o; simp [State.dictRef]
@[simp] theorem State.core_engineOnly : s.core.engineOnly = s.engineOnly := by funext o; simp [State.engineOnly]
@[simp] theorem State.core_objSize : s.core.objSize = s.objSize := by funext o; simp [State.objSize]
@[simp] theorem State.core_objectsOf : s.core.objectsOf = s.objectsOf := by funext k; simp [State.objectsOf]
@[simp] theorem State.core_stateBytes : s.core.stateBytes = s.stateBytes := by funext ks; simp [State.stateBytes]
@[simp] theorem State.core_pinCh : s.core.pinCh = s.pinCh := by funext k; simp [State.pinCh]
@[simp] theorem State.core_writersOf : s.core.writersOf = s.writersOf := by funext o; simp [State.writersOf]
@[simp] theorem State.core_classesAllow : s.core.classesAllow = s.classesAllow := by funext d c k e; simp [State.classesAllow]
@[simp] theorem State.core_pinEngine : s.core.pinEngine = s.pinEngine := by funext k; simp [State.pinEngine]
@[simp] theorem State.core_fitsOn : s.core.fitsOn = s.fitsOn := by funext i d cap c e k; simp [State.fitsOn]
@[simp] theorem State.core_utilOn : s.core.utilOn = s.utilOn := by funext i d c e; simp [State.utilOn]
@[simp] theorem State.core_pinMode : s.core.pinMode = s.pinMode := by funext k; simp [State.pinMode]
@[simp] theorem State.core_pickEngine : s.core.pickEngine = s.pickEngine := by funext i d k c; simp [State.pickEngine]; rfl
@[simp] theorem State.core_isSplit : s.core.isSplit = s.isSplit := by funext k; simp [State.isSplit]
@[simp] theorem State.core_isRole : s.core.isRole = s.isRole := by funext k; simp [State.isRole]

@[simp] theorem State.core_objRate : s.core.objRate = s.objRate := by
  funext o
  unfold State.objRate
  rw [State.core_writersOf]
  split <;> simp only [State.core_period3, State.core_v, Obj.inCore_device]

@[simp] theorem State.core_remoteLoad : s.core.remoteLoad = s.remoteLoad := by funext tw; simp [State.remoteLoad]
@[simp] theorem State.core_twinAdmits : s.core.twinAdmits = s.twinAdmits := by funext d k; simp [State.twinAdmits]; rfl
@[simp] theorem State.core_moveMin : s.core.moveMin = s.moveMin := by simp [State.moveMin]
@[simp] theorem State.core_fixedSite : s.core.fixedSite = s.fixedSite := by funext k; simp [State.fixedSite]
@[simp] theorem State.core_splitChannel : s.core.splitChannel = s.splitChannel := by funext d k; simp [State.splitChannel]
@[simp] theorem State.core_hot : s.core.hot = s.hot := by funext c; simp [State.hot]
@[simp] theorem State.core_heldPenalty : s.core.heldPenalty = s.heldPenalty := by funext c; simp [State.heldPenalty]
@[simp] theorem State.core_channelScore : s.core.channelScore = s.channelScore := by funext c; simp [State.channelScore]
@[simp] theorem State.core_planChScore : s.core.planChScore = s.planChScore := by funext i c; simp [State.planChScore]

@[simp] theorem State.core_planOwner : s.core.planOwner = s.planOwner := by
  funext i d k
  unfold State.planOwner
  simp only [State.core_planChannels, State.core_planChScore, State.core_dqSlot, State.core_isDq, State.core_splitChannel,
    State.core_pinMode, State.core_pinCh, State.core_vn, Obj.inCore_device]
  rfl

@[simp] theorem State.core_planComputes : s.core.planComputes = s.planComputes := by funext k owner; simp [State.planComputes]
@[simp] theorem State.core_deviceScore : s.core.deviceScore = s.deviceScore := by simp [State.deviceScore]

@[simp] theorem State.core_planTask : s.core.planTask = s.planTask := by
  funext i d k
  unfold State.planTask
  simp only [State.core_planChannels, State.core_pinCh, State.core_splitChannel, State.core_pinMode, State.core_isDq,
    State.core_planOwner, State.core_planComputes, State.core_fixedSite, State.core_v, State.core_vn, Obj.inCore_device,
    State.core_keepsSite, State.core_keptOwner, State.core_onTwin, State.core_twinAdmits, State.core_twinScore,
    State.core_deviceScore, State.core_pickEngine, State.core_available, State.core_pinEngine]
  rfl

@[simp] theorem State.core_udpPortsOk : s.core.udpPortsOk = s.udpPortsOk := by simp [State.udpPortsOk]
@[simp] theorem State.core_isRoleAxis : s.core.isRoleAxis = s.isRoleAxis := by funext n; simp [State.isRoleAxis]
@[simp] theorem State.core_twinAxes : s.core.twinAxes = s.twinAxes := by simp [State.twinAxes]
@[simp] theorem State.core_member : s.core.member = s.member := by funext g m; simp [State.member]
@[simp] theorem State.core_inUse : s.core.inUse = s.inUse := by funext g m; simp [State.inUse]
@[simp] theorem State.core_members : s.core.members = s.members := by funext g; simp [State.members]
@[simp] theorem State.core_isRemote : s.core.isRemote = s.isRemote := by funext g m; simp [State.isRemote]
@[simp] theorem State.core_memberAxis : s.core.memberAxis = s.memberAxis := by funext g m; simp [State.memberAxis]
@[simp] theorem State.core_commandAxes : s.core.commandAxes = s.commandAxes := by funext e; simp [State.commandAxes]
@[simp] theorem State.core_traceList : s.core.traceList = s.traceList := by funext k; simp [State.traceList]
@[simp] theorem State.core_traceRecBytes : s.core.traceRecBytes = s.traceRecBytes := by funext k; simp [State.traceRecBytes]
@[simp] theorem State.core_traceNeed : s.core.traceNeed = s.traceNeed := by funext k; simp [State.traceNeed]
@[simp] theorem State.core_armFails : s.core.armFails = s.armFails := by funext k; simp [State.armFails]; rfl
@[simp] theorem State.core_bankFails : s.core.bankFails = s.bankFails := by funext k b; simp [State.bankFails]
@[simp] theorem State.core_taskFails : s.core.taskFails = s.taskFails := by funext e v; simp [State.taskFails]
@[simp] theorem State.core_isSpare : s.core.isSpare = s.isSpare := by simp [State.isSpare]
@[simp] theorem State.core_spareFails : s.core.spareFails a.core = s.spareFails a := by funext v; simp [State.spareFails]
@[simp] theorem State.core_nidSource : s.core.nidSource = s.nidSource := by simp [State.nidSource]
@[simp] theorem State.core_planOrder : s.core.planOrder = s.planOrder := by simp [State.planOrder]
@[simp] theorem State.core_clocks : s.core.clocks = s.clocks := by simp [State.clocks]
@[simp] theorem State.core_staticTask : s.core.staticTask = s.staticTask := by funext i d k; simp [State.staticTask]

theorem State.finish_site (i : PlanIn) (d : Draft) :
    (s.finish i d).site = toTbl 0 ((s.planOrder.filter d.has).map fun k => (k, d.siteWord k)) := by
  simp only [State.finish]

theorem State.core_staticPlan_site : s.core.staticPlan.site = s.staticPlan.site := by
  simp only [State.staticPlan, State.finish_site, State.core_clocks, State.core_planOrder, State.core_staticTask,
    State.core_planTask]

@[simp] theorem State.core_staticStill : s.core.staticStill = s.staticStill := by
  simp [State.staticStill, State.core_staticPlan_site]
@[simp] theorem State.core_ownRecs : s.core.ownRecs = s.ownRecs := by funext c; simp [State.ownRecs]
@[simp] theorem State.core_edges : s.core.edges = s.edges := by funext c; simp [State.edges]
@[simp] theorem State.core_hasRoute : s.core.hasRoute = s.hasRoute := by funext dest; simp [State.hasRoute]
@[simp] theorem State.core_twinChanging : s.core.twinChanging = s.twinChanging := by simp [State.twinChanging]; rfl
@[simp] theorem State.core_pairFails : s.core.pairFails = s.pairFails := by funext cr v; simp [State.pairFails]; rfl
@[simp] theorem State.core_deviceFails : s.core.deviceFails a.core = s.deviceFails a := by
  funext cr e v; simp [State.deviceFails]
@[simp] theorem State.core_sourceOf : s.core.sourceOf = s.sourceOf := by funext n; simp [State.sourceOf]
@[simp] theorem State.core_hasIndex : s.core.hasIndex = s.hasIndex := by funext n; simp [State.hasIndex]
@[simp] theorem State.core_reaction : s.core.reaction = s.reaction := by funext n; simp [State.reaction]
@[simp] theorem State.core_reactionDone : s.core.reactionDone = s.reactionDone := by funext n; simp [State.reactionDone]
@[simp] theorem State.core_totalRefused : s.core.totalRefused = s.totalRefused := by funext g; simp [State.totalRefused]
@[simp] theorem State.core_groupOf : s.core.groupOf = s.groupOf := by funext n; simp [State.groupOf]
@[simp] theorem State.core_targetRefused : s.core.targetRefused = s.targetRefused := by funext n; simp [State.targetRefused]
@[simp] theorem State.core_axisFails : s.core.axisFails a.core = s.axisFails a := by funext e v; simp [State.axisFails]
@[simp] theorem State.core_sharesOk : s.core.sharesOk = s.sharesOk := by funext g; simp [State.sharesOk]
@[simp] theorem State.core_isPosLoop : s.core.isPosLoop = s.isPosLoop := by funext k; simp [State.isPosLoop]
@[simp] theorem State.core_tasksOf : s.core.tasksOf = s.tasksOf := by funext n; simp [State.tasksOf]
@[simp] theorem State.core_posForceLoop : s.core.posForceLoop = s.posForceLoop := by funext n; simp [State.posForceLoop]

@[simp] theorem State.core_isForceAxis : s.core.isForceAxis = s.isForceAxis := by
  funext n
  unfold State.isForceAxis
  rw [State.core_posForceLoop, State.core_isPosLoop]

@[simp] theorem State.core_forceMembersOk : s.core.forceMembersOk = s.forceMembersOk := by funext g; simp [State.forceMembersOk]
@[simp] theorem State.core_classOk : s.core.classOk = s.classOk := by funext o; simp [State.classOk]
@[simp] theorem State.core_isMirrored : s.core.isMirrored = s.isMirrored := by funext o; simp [State.isMirrored]

@[simp] theorem State.core_mirrorSet : s.core.mirrorSet = s.mirrorSet := by
  simp only [State.mirrorSet, State.core_objEntries, State.core_isMirrored]

@[simp] theorem State.core_mirrorCountOk : s.core.mirrorCountOk = s.mirrorCountOk := by simp [State.mirrorCountOk]
@[simp] theorem State.core_stepRateOk : s.core.stepRateOk = s.stepRateOk := by funext n; simp [State.stepRateOk]
@[simp] theorem State.core_axisOfSrc : s.core.axisOfSrc = s.axisOfSrc := by funext x; simp [State.axisOfSrc]
@[simp] theorem State.core_resolverOk : s.core.resolverOk = s.resolverOk := by funext c k; simp [State.resolverOk]
@[simp] theorem State.core_pwmPeriod : s.core.pwmPeriod = s.pwmPeriod := by funext c b; simp [State.pwmPeriod]

@[simp] theorem State.core_present : s.core.present = s.present := by
  unfold State.present
  rw [State.core_enabledTasks]
  rfl

@[simp] theorem State.core_sensingOk : s.core.sensingOk = s.sensingOk := by funext c b; simp [State.sensingOk]
@[simp] theorem State.core_bindingOk : s.core.bindingOk = s.bindingOk := by funext c n; simp [State.bindingOk]
@[simp] theorem State.core_traceListOk : s.core.traceListOk = s.traceListOk := by funext k; simp [State.traceListOk]
@[simp] theorem State.core_dqEnableOk : s.core.dqEnableOk = s.dqEnableOk := by funext k; simp [State.dqEnableOk]
@[simp] theorem State.core_enableOk : s.core.enableOk = s.enableOk := by funext k; simp [State.enableOk]
@[simp] theorem State.core_memberUnique : s.core.memberUnique = s.memberUnique := by funext g m; simp [State.memberUnique]
@[simp] theorem State.core_dqAllOk : s.core.dqAllOk = s.dqAllOk := by simp [State.dqAllOk]
@[simp] theorem State.core_rateBankOk : s.core.rateBankOk = s.rateBankOk := by funext k b; simp [State.rateBankOk]
@[simp] theorem State.core_canIdOk : s.core.canIdOk = s.canIdOk := by funext n v; simp [State.canIdOk]
@[simp] theorem State.core_limitsOk : s.core.limitsOk = s.limitsOk := by funext k b; simp [State.limitsOk]
@[simp] theorem State.core_remoteLimitsOk : s.core.remoteLimitsOk = s.remoteLimitsOk := by
  funext g m; simp [State.remoteLimitsOk]
@[simp] theorem State.core_roleTasks : s.core.roleTasks = s.roleTasks := by simp [State.roleTasks]
@[simp] theorem State.core_rolePeriodsOk : s.core.rolePeriodsOk = s.rolePeriodsOk := by simp [State.rolePeriodsOk]
@[simp] theorem State.core_cmpTaken : s.core.cmpTaken = s.cmpTaken := by funext c n; simp [State.cmpTaken]
@[simp] theorem State.core_readByBridge : s.core.readByBridge = s.readByBridge := by funext c n; simp [State.readByBridge]
@[simp] theorem State.core_channelFails : s.core.channelFails = s.channelFails := by funext e v; simp [State.channelFails]
@[simp] theorem State.core_taskBusy : s.core.taskBusy = s.taskBusy := by funext k; simp [State.taskBusy]
@[simp] theorem State.core_rolesRun : s.core.rolesRun = s.rolesRun := by simp [State.rolesRun]
@[simp] theorem State.core_tasksReading : s.core.tasksReading = s.tasksReading := by funext c n; simp [State.tasksReading]
@[simp] theorem State.core_axisOf : s.core.axisOf = s.axisOf := by funext c k; simp [State.axisOf]
@[simp] theorem State.core_affected : s.core.affected = s.affected := by funext e; simp [State.affected]
@[simp] theorem State.core_canBarred : s.core.canBarred = s.canBarred := by funext cr; simp [State.canBarred]
@[simp] theorem State.core_commandGroup : s.core.commandGroup = s.commandGroup := by funext e; simp [State.commandGroup]
@[simp] theorem State.core_semFails : s.core.semFails = s.semFails := by funext cr e; simp [State.semFails]
@[simp] theorem State.core_accessFails : s.core.accessFails = s.accessFails := by funext cr e rws; simp [State.accessFails]; rfl
@[simp] theorem State.core_lcFails : s.core.lcFails = s.lcFails := by funext cr v; simp [State.lcFails]
@[simp] theorem State.core_remoteAxes : s.core.remoteAxes = s.remoteAxes := by simp [State.remoteAxes]
@[simp] theorem State.core_mirrorOk : s.core.mirrorOk = s.mirrorOk := by simp [State.mirrorOk]
@[simp] theorem State.core_enterFails : s.core.enterFails = s.enterFails := by funext cr v; simp [State.enterFails]
/-- The roles whose checks read the object that is written. -/
def ownReading : List Role := [.coef, .shift, .objDesc, .cmdMapEntry, .statusMapEntry]

/-- Where a check reads the object that is written, that is none of CYC_OVERTAKEN. -/
def Entry.inCore (e : Entry) : Prop := e.desc.role ∈ ownReading → e.obj.inCore

variable {e : Entry}

theorem State.core_relationOk (he : e.inCore) : s.core.relationOk e = s.relationOk e := by
  unfold State.relationOk
  dsimp only
  split <;> simp
  · next h => rw [State.core_v s (he (by simp [h, ownReading]))]
  · next h => rw [State.core_v s (he (by simp [h, ownReading]))]

theorem State.core_mapFails (he : e.inCore) : s.core.mapFails a.core e = s.mapFails a e := by
  unfold State.mapFails
  dsimp only
  split <;> simp
  · next h => rw [State.core_v a (he (by simp [h, ownReading]))]
  · next h => rw [State.core_v a (he (by simp [h, ownReading]))]

theorem State.core_covered (he : e.inCore) : s.core.covered e = s.covered e := by
  unfold State.covered
  split
  · rfl
  · rfl
  · next h => rw [State.core_v s (he (by simp [h, ownReading]))]
  · rw [State.core_roleTasks]

theorem State.core_valueFails (he : e.inCore) (cr : Carrier) (v : Val) :
    s.core.valueFails a.core cr e v = s.valueFails a cr e v := by
  unfold State.valueFails
  cases v with
  | num x =>
    simp only [State.core_relationOk a he, State.core_mapFails s a he, State.core_taskFails, State.core_axisFails,
      State.core_channelFails, State.core_deviceFails]
  | bytes b => simp only [State.core_deviceFails]

theorem State.core_twinFails (he : e.inCore) : s.core.twinFails a.core e = s.twinFails a e := by
  unfold State.twinFails
  simp only [State.core_covered s he, State.core_covered a he, State.core_twin, State.core_twinChanging, State.core_mirrorOk,
    State.core_rolesRun, State.core_commandAxes, State.core_isRoleAxis]

theorem State.core_writeFails (he : e.inCore) (cr : Carrier) (v : Val) (n : Nat) :
    s.core.writeFails a.core cr e v n = s.writeFails a cr e v n := by
  unfold State.writeFails
  simp only [State.core_accessFails, State.core_lcFails, State.core_valueFails s a he, State.core_canBarred,
    State.core_enterFails, State.core_twinFails s a he]

end

end Sys2Proof.Machine
end


section
/-! ## Cycle boundaries, status frames and silence (R106, R108, R109, R110, R111, R112) -/

namespace Sys2Proof.Machine

-- what is found at an address

theorem findObj_key {idx sub : Nat} {e : Entry} (h : findObj idx sub = some e) : e.key = idx * 256 + sub := by
  unfold findObj at h
  split at h
  case h_1 hfind =>
    obtain rfl := Option.some.inj h
    exact (findIn_mem hfind).2.2
  · split at h
    case isTrue hsub =>
      obtain rfl := Option.some.inj h
      rw [hsub.1, Nat.add_zero]
    · cases h

/-- An entry is found at its own key. -/
theorem findObj_self {idx sub : Nat} {e : Entry} (h : findObj idx sub = some e) (hsub : sub < 256) :
    findObj (e.key / 256) (e.key % 256) = some e := by
  have hkey := findObj_key h
  rw [show e.key / 256 = idx by omega, show e.key % 256 = sub by omega, h]

theorem field_lt (v : Int) (lo w : Nat) : field v lo w < 2 ^ w := by
  unfold field
  have hpos : (0 : Int) < 2 ^ w := by positivity
  have hlt := Int.emod_lt_of_pos (v / 2 ^ lo) hpos
  have hnn := Int.emod_nonneg (v / 2 ^ lo) hpos.ne'
  zify
  rw [Int.toNat_of_nonneg hnn]
  exact hlt

/-- The roles whose objects a read may change: peaks and counts that it clears, and the flags that it notes. -/
def readChanged : List Role :=
  [.feMax, .maxExec, .siDiscMax, .refuserMap, .channelSkewMax, .rotationMax, .cvStatus, .axFbStatus]

theorem dicts_readChanged : ∀ d ∈ dicts.flatten, d.role ∈ readChanged → d.acc = .ro := by decide +kernel

/-- A result or sample names the status of its converter. -/
theorem dicts_result : ∀ d ∈ dicts.flatten, d.role = .cvResult ∨ d.role = .cvSample → ∀ e ∈ d.entries,
    (findObj (Obj.cvStatus (chOf e.i) e.j).index (Obj.cvStatus (chOf e.i) e.j).sub).all (fun x => x.desc.role == .cvStatus) =
      true := by
  decide +kernel

/-- A predicted position names the status of its axis. -/
theorem dicts_extrap : ∀ d ∈ dicts.flatten, d.role = .axExtrapPos → ∀ e ∈ d.entries,
    (findObj (Obj.axFbStatus e.i).index (Obj.axFbStatus e.i).sub).all (fun x => x.desc.role == .axFbStatus) = true := by
  decide +kernel

theorem dicts_ownReading : ∀ d ∈ dicts.flatten, d.role ∈ ownReading → 0x1132 ≤ d.base := by decide +kernel

theorem Desc.key_of_mem_entries {d : Desc} {e : Entry} (h : e ∈ d.entries) : d.base * 256 ≤ e.key := by
  simp only [Desc.entries, List.mem_flatMap, List.mem_map] at h
  obtain ⟨i, -, j, -, k, -, m, -, rfl⟩ := h
  dsimp only
  have : d.base ≤ d.base + i * d.s1 + j * d.s2 + k * d.s3 := by omega
  omega

/-- Where a check reads the object that is written, it is none of CYC_OVERTAKEN. -/
theorem Entry.inCore_of_findObj {idx sub : Nat} {e : Entry} (h : findObj idx sub = some e) : e.inCore := by
  intro hr
  rcases findObj_mem h with ⟨hd, he⟩ | hcount
  · have hbase := dicts_ownReading _ hd hr
    have hkey : e.desc.base * 256 ≤ e.obj.key := Desc.key_of_mem_entries he
    unfold Obj.inCore
    omega
  · rw [hcount] at hr
    exact absurd hr (by decide)

/-- An object of the dictionary that no read changes. -/
def Obj.readStays (o : Obj) : Prop := ∃ e, findObj o.index o.sub = some e ∧ e.desc.role ∉ readChanged

theorem Obj.readStays_of_any {o : Obj} (h : (findObj o.index o.sub).any (fun e => !readChanged.contains e.desc.role) = true) :
    o.readStays := by
  cases hf : findObj o.index o.sub with
  | none => simp [hf] at h
  | some e => exact ⟨e, hf, by simpa [hf] using h⟩

/-- A read changes no object that can be written. -/
theorem Entry.readStays_of_writable {idx sub : Nat} {e : Entry} (he : findObj idx sub = some e) (hsub : sub < 256)
    (hw : e.writable = true) : e.obj.readStays := by
  refine ⟨e, findObj_self he hsub, fun hr => ?_⟩
  rcases findObj_mem he with ⟨hd, -⟩ | hcount
  · have hro := dicts_readChanged _ hd hr
    simp [Entry.writable, hro] at hw
  · rw [hcount] at hr
    exact absurd hr (by decide)

theorem cycCounts_readStay (p : Port) : (Obj.cycApplied p.num).readStays ∧ (Obj.cycStale p.num).readStays ∧
    (Obj.cycEntriesDenied p.num).readStays ∧ (Obj.cyclicEnable p.num).readStays := by
  cases p <;> exact ⟨Obj.readStays_of_any (by decide +kernel), Obj.readStays_of_any (by decide +kernel),
    Obj.readStays_of_any (by decide +kernel), Obj.readStays_of_any (by decide +kernel)⟩

section
variable {s : State} {idx sub : Nat} {e x : Entry} {o : Obj}

/-- Objects of entries of different kinds have different keys. -/
theorem Obj.key_ne_of_entry (he : findObj idx sub = some e) (hsub : sub < 256) (ho : findObj o.index o.sub = some x)
    (hne : x.desc.role ≠ e.desc.role) : o.key ≠ e.obj.key := fun hk => hne (by
  have hself := findObj_self he hsub
  have hkey : o.key = e.key := hk
  rw [← hkey] at hself
  rw [Option.some.inj (ho.symm.trans hself)])

/-- A read leaves every object of a role that no read changes. -/
theorem State.afterRead_g (he : findObj idx sub = some e) (hsub : sub < 256) (ho : o.readStays) (c : Ch) :
    (s.afterRead e).g c o = s.g c o := by
  obtain ⟨x, ho, hx⟩ := ho
  have hclear (hr : e.desc.role ∈ readChanged) : (s.setR e.obj 0).g c o = s.g c o :=
    State.g_setR_key _ _ _ (Obj.key_ne_of_entry he hsub ho fun h => hx (h ▸ hr))
  have hmem (hr : e.desc.role ≠ .count) : e.desc ∈ dicts.flatten ∧ e ∈ e.desc.entries :=
    (findObj_mem he).resolve_right hr
  have hstatus (hr : e.desc.role = .cvResult ∨ e.desc.role = .cvSample) :
      (s.readCvResult (chOf e.i) e.j).g c o = s.g c o := by
    obtain ⟨hd, hm⟩ := hmem (by rcases hr with h | h <;> simp [h])
    refine State.g_bitC_key (h := Obj.key_ne_of (fun x => x.desc.role != .cvStatus) ho ?_ ?_) ..
    · simpa using fun h : x.desc.role = .cvStatus => hx (h ▸ by decide)
    · simpa [bne] using dicts_result _ hd hr _ hm
  have hextrap (hr : e.desc.role = .axExtrapPos) : (s.readExtrap e.i).g c o = s.g c o := by
    obtain ⟨hd, hm⟩ := hmem (by simp [hr])
    have hkey : o.key ≠ (Obj.axFbStatus e.i).key := Obj.key_ne_of (fun x => x.desc.role != .axFbStatus) ho
      (by simpa using fun h : x.desc.role = .axFbStatus => hx (h ▸ by decide)) (by simpa [bne] using dicts_extrap _ hd hr _ hm)
    exact (State.g_bitR_key (h := hkey) ..).trans (State.g_bitR_key (h := hkey) ..)
  unfold State.afterRead
  dsimp only
  split
  · next h => exact hstatus (.inl h)
  · next h => exact hstatus (.inr h)
  · next h => exact hclear (h ▸ by decide)
  · next h => exact hclear (h ▸ by decide)
  · next h => exact hclear (h ▸ by decide)
  · next h => exact hclear (h ▸ by decide)
  · next h => exact hclear (h ▸ by decide)
  · next h => exact hclear (h ▸ by decide)
  · rfl
  · rfl
  · next h => exact hextrap h
  · rfl

theorem State.afterRead_ports (s : State) (e : Entry) : (s.afterRead e).ports = s.ports := by
  unfold State.afterRead
  dsimp only
  split <;> rfl

theorem State.afterRead_now (s : State) (e : Entry) : (s.afterRead e).now = s.now := by
  unfold State.afterRead
  dsimp only
  split <;> rfl

-- latching the status values

/-- What no read of a mapped object changes, latching changes only where it changes the port. -/
theorem State.latchStatus_keeps {β : Type} (q : State → β) (s : State) (p : Nat)
    (hport : ∀ u f, q (State.updPort u p f) = q u)
    (hread : ∀ u idx sub e, findObj idx sub = some e → sub < 256 → q (State.afterRead u e) = q u) :
    q (s.latchStatus p) = q s := by
  unfold State.latchStatus
  refine (hport _ _).trans (forEach_eq q _ (fun u w => ?_) _ s)
  split
  · next e he => exact hread u _ _ e he (field_lt _ 8 8)
  · rfl

theorem State.latchStatus_g (s : State) (p : Nat) (ho : o.readStays) (c : Ch) : (s.latchStatus p).g c o = s.g c o :=
  State.latchStatus_keeps (fun u => u.g c o) s p (fun _ _ => rfl) fun _ _ _ _ he hsub => State.afterRead_g he hsub ho c

/-- The port runs and holds its counter and its frames as before, and its values are latched now. -/
theorem State.latchStatus_port (s : State) (p : Nat) : ∃ n l, (s.latchStatus p).port p =
    { s.port p with cycles := n, latched := some (s.now, l) } := by
  unfold State.latchStatus
  extract_lets l vals data u
  have hu : u.ports = s.ports ∧ u.now = s.now := by
    refine ⟨forEach_eq (·.ports) _ (fun v w => ?_) _ s, forEach_eq (·.now) _ (fun v w => ?_) _ s⟩
    · split
      · exact v.afterRead_ports _
      · rfl
    · split
      · exact v.afterRead_now _
      · rfl
  have hport : u.port p = s.port p := congrArg (fun t : Tbl PortSt => t.getD p {}) hu.1
  exact ⟨_, _, by rw [State.port_updPort_self, hport, hu.2]⟩

end

section
variable {s : State} {t : Nat} {p : Port} {x : CycFrame} {e : Entry} {w v : Int}

/-- A boundary of the port's cycle: the due frames are taken, and the status values are latched. -/
def State.boundary (s : State) (p : Port) : State :=
  if (s.takeCyc p).v (Obj.cyclicEnable p.num) = 1 then (s.takeCyc p).latchStatus p.num else s.takeCyc p

theorem exec_cycleBoundary (hnone : (s.upTo t).noneDue = true) (hrec : s.receives = true) (hcycle : s.cycle p.num ≠ 0)
    (ht : max s.now t % s.cycle p.num = 0) :
    exec (.cycleBoundary t p) s = .next (s.after t ((s.upTo t).boundary p)) := by
  have hcond : ¬ ((s.upTo t).cycle p.num = 0 ∨ (s.upTo t).now % (s.upTo t).cycle p.num ≠ 0 ∨
      (s.upTo t).receives = false) := by
    have hrec' : (s.upTo t).receives = true := hrec
    rintro (h | h | h)
    · exact hcycle h
    · exact h ht
    · rw [hrec'] at h
      cases h
  show execCycleBoundary t p s = _
  unfold execCycleBoundary State.run
  dsimp only
  rw [State.applyDue_none _ hnone, if_neg hcond]
  rfl

/-- CYCLE_BOUNDARY off the grid of the cycle changes nothing. -/
theorem exec_cycleBoundary_off (hnone : (s.upTo t).noneDue = true) (ht : max s.now t % s.cycle p.num ≠ 0) :
    exec (.cycleBoundary t p) s = .next (s.after t (s.upTo t)) := by
  have hcond : (s.upTo t).cycle p.num = 0 ∨ (s.upTo t).now % (s.upTo t).cycle p.num ≠ 0 ∨ (s.upTo t).receives = false :=
    .inr (.inl ht)
  show execCycleBoundary t p s = _
  unfold execCycleBoundary State.run
  dsimp only
  rw [State.applyDue_none _ hnone, if_pos hcond]

/-- What the port does at a boundary is done when the frames are taken. -/
theorem State.boundary_port (s : State) (p : Port) : ((s.boundary p).port p.num).running = ((s.takeCyc p).port p.num).running ∧
    ((s.boundary p).port p.num).lastCounter = ((s.takeCyc p).port p.num).lastCounter ∧
    ((s.boundary p).port p.num).frames = ((s.takeCyc p).port p.num).frames := by
  unfold State.boundary
  split
  · obtain ⟨n, l, h⟩ := (s.takeCyc p).latchStatus_port p.num
    rw [h]
    exact ⟨rfl, rfl, rfl⟩
  · exact ⟨rfl, rfl, rfl⟩

theorem State.boundary_g (s : State) (p : Port) {o : Obj} (ho : o.readStays) (c : Ch) :
    (s.boundary p).g c o = (s.takeCyc p).g c o := by
  unfold State.boundary
  split
  · exact State.latchStatus_g _ _ ho c
  · rfl

-- the due frames (R108)

/-- The frames of port `n` that are due. -/
def State.dueFrames (s : State) (n : Nat) : List CycFrame := (s.port n).frames.filter fun f => f.due ≤ s.now

/-- The port without its due frames, not running. -/
def State.emptied (s : State) (p : Port) : State :=
  s.updPort p.num fun y => { y with running := false, frames := y.frames.filter fun f => !(f.due ≤ s.now) }

/-- The due frames but the newest are counted as overtaken. -/
def State.overtaken (s : State) (p : Port) : State :=
  (s.emptied p).bumpC .chA (Obj.cycOvertaken p.num) ((s.dueFrames p.num).length - 1)

theorem State.overtaken_port (s : State) (p : Port) : (s.overtaken p).port p.num =
    { s.port p.num with running := false, frames := (s.port p.num).frames.filter fun f => !(f.due ≤ s.now) } := by
  have h : (s.emptied p).port p.num = _ := State.port_updPort_self ..
  exact h

theorem State.overtaken_core (s : State) (p : Port) : (s.overtaken p).core = s.core :=
  (State.core_bumpC_overtaken ..).trans (State.core_updPort ..)

theorem State.overtaken_g (s : State) (p : Port) {o : Obj} (h : o.key ≠ (Obj.cycOvertaken p.num).key) (c : Ch) :
    (s.overtaken p).g c o = s.g c o := State.g_setC_key _ _ _ _ h

theorem State.takeCyc_none (h : newestOf (s.dueFrames p.num) = none) : s.takeCyc p = s.emptied p := by
  have h' : newestOf ((s.port p.num).frames.filter fun f => f.due ≤ s.now) = none := h
  simp only [State.takeCyc, h']
  rfl

/-- A frame is stale after one whose counter it does not follow. -/
def CycFrame.staleAfter (x : CycFrame) (last : Option Nat) : Bool :=
  match last with
  | some m => !counterNewer x.counter m
  | none => false

/-- The newest due frame is counted as stale, or applied. -/
theorem State.takeCyc_some (h : newestOf (s.dueFrames p.num) = some x) :
    s.takeCyc p = if x.staleAfter (s.port p.num).lastCounter then (s.overtaken p).bumpC .chA (Obj.cycStale p.num)
      else (((s.overtaken p).applyCyc p x.payload).bumpC .chA (Obj.cycApplied p.num)).updPort p.num
        fun y => { y with running := true, lastCounter := some x.counter } := by
  have h' : newestOf ((s.port p.num).frames.filter fun f => f.due ≤ s.now) = some x := h
  have hlast : ((s.overtaken p).port p.num).lastCounter = (s.port p.num).lastCounter := by rw [State.overtaken_port]
  unfold State.takeCyc
  rw [← hlast]
  simp only [h']
  rfl

theorem CycFrame.staleAfter_iff {last : Option Nat} :
    x.staleAfter last = false ↔ last = none ∨ ∃ m, last = some m ∧ counterNewer x.counter m = true := by
  cases last <;> simp [CycFrame.staleAfter]

-- the entries of the newest frame (R109)

theorem State.overtaken_cmdWords (s : State) (p : Port) : (s.overtaken p).cmdWords p.num = s.cmdWords p.num := by
  have hv (o : Obj) (h : o.key ≠ (Obj.cycOvertaken p.num).key) : (s.overtaken p).v o = s.v o :=
    State.v_eq_of_g_eq fun c => s.overtaken_g p h c
  have hcount : (s.overtaken p).vn (Obj.cmdMapCount p.num) = s.vn (Obj.cmdMapCount p.num) :=
    congrArg Int.toNat (hv _ (by simp only [Obj.cmdMapCount, Obj.cycOvertaken]; omega))
  unfold State.cmdWords State.mapWords
  rw [hcount]
  exact List.map_congr_left fun i _ => hv _ (by simp only [Obj.cmdMapEntry, Obj.cycOvertaken]; omega)

/-- The checks of a frame's entry pass and fail as before the overtaken frames were counted. -/
theorem State.overtaken_writeFails (s : State) (p : Port) {idx sub : Nat} (he : findObj idx sub = some e) (cr : Carrier)
    (v : Val) (n : Nat) : (s.overtaken p).writeFails ((s.overtaken p).rawSet e v) cr e v n = s.writeFails (s.rawSet e v) cr e v n := by
  have hin := Entry.inCore_of_findObj he
  rw [← State.core_writeFails _ _ hin, s.overtaken_core p, State.core_rawSet (s.overtaken_core p), State.core_writeFails _ _ hin]

theorem cutPayload_one {w : Int} {b : List Byte} {v : Val} (h : cutPayload [w] b = [some (e, v)]) :
    findObj (mapIndex w) (mapSub w) = some e := by
  simp only [cutPayload, List.cons.injEq, and_true, Option.map_eq_some_iff, Prod.mk.injEq] at h
  obtain ⟨e', he, rfl, -⟩ := h
  exact he

/-- An empty map applies nothing. -/
theorem State.applyCyc_empty {b : List Byte} (h : s.cmdWords p.num = []) :
    s.applyCyc p b = s.bumpC .chA (Obj.cycEntriesDenied p.num) 0 := by
  unfold State.applyCyc
  rw [h]
  rfl

/-- The one entry of a map is applied where it passes the checks. -/
theorem State.applyCyc_passes {b : List Byte} {v : Val} (hw : s.cmdWords p.num = [w]) (hcut : cutPayload [w] b = [some (e, v)])
    (hr : e.desc.role ≠ .sluiceAg) (hf : s.writeFails (s.rawSet e v) p.carrier e v 0 = none) :
    s.applyCyc p b = (s.bumpC .chA (Obj.cycEntriesDenied p.num) 0).applyWrite p.carrier e v := by
  unfold State.applyCyc
  rw [hw, hcut]
  simp [hf, forEach, hr]

/-- The one entry of a map is counted where it fails them. -/
theorem State.applyCyc_denied {b : List Byte} {v : Val} {a : Abort} (hw : s.cmdWords p.num = [w])
    (hcut : cutPayload [w] b = [some (e, v)]) (hf : s.writeFails (s.rawSet e v) p.carrier e v 0 = some a) :
    s.applyCyc p b = s.bumpC .chA (Obj.cycEntriesDenied p.num) := by
  unfold State.applyCyc
  rw [hw, hcut]
  simp [hf, forEach]

-- the boundary's effects

theorem State.updPort_g (s : State) (n : Nat) (f : PortSt → PortSt) (c : Ch) (o : Obj) : (s.updPort n f).g c o = s.g c o := rfl

theorem State.applyCyc_now (s : State) (p : Port) (b : List Byte) : (s.applyCyc p b).now = s.now := by
  unfold State.applyCyc
  refine (forEach_eq (·.now) _ (fun u y => ?_) _ _).trans rfl
  split
  · rfl
  · exact u.applyWrite_now ..

theorem State.takeCyc_now (s : State) (p : Port) : (s.takeCyc p).now = s.now := by
  cases h : newestOf (s.dueFrames p.num) with
  | none =>
    rw [State.takeCyc_none h]
    rfl
  | some x =>
    rw [State.takeCyc_some h]
    split
    · rfl
    · exact State.applyCyc_now ..

/-- With CYCLIC_ENABLE the status values are latched at the boundary. -/
theorem State.boundary_latches (s : State) (p : Port) (h : (s.boundary p).v (Obj.cyclicEnable p.num) = 1) :
    ((s.boundary p).port p.num).latched.map (·.1) = some s.now := by
  have henable : (s.takeCyc p).v (Obj.cyclicEnable p.num) = 1 := by
    rw [← h]
    exact (State.v_eq_of_g_eq fun c => s.boundary_g p (cycCounts_readStay p).2.2.2 c).symm
  obtain ⟨n, l, hl⟩ := (s.takeCyc p).latchStatus_port p.num
  rw [State.boundary, if_pos henable, hl, Option.map_some, State.takeCyc_now]

/-- With no frame due the port does not run, and holds its counter and its frames. -/
theorem State.boundary_idle (s : State) (p : Port) (h : s.dueFrames p.num = []) :
    ((s.boundary p).port p.num).running = false ∧
      ((s.boundary p).port p.num).lastCounter = (s.port p.num).lastCounter ∧
      ((s.boundary p).port p.num).frames = (s.port p.num).frames := by
  obtain ⟨hrun, hlast, hframes⟩ := s.boundary_port p
  have hnone : s.takeCyc p = s.emptied p := State.takeCyc_none (by rw [h]; rfl)
  have hkeep : ((s.port p.num).frames.filter fun f => !(f.due ≤ s.now)) = (s.port p.num).frames :=
    List.filter_eq_self.2 fun f hf => by simpa using List.filter_eq_nil_iff.1 h f hf
  have hport : (s.emptied p).port p.num =
      { s.port p.num with running := false, frames := (s.port p.num).frames.filter fun f => !(f.due ≤ s.now) } :=
    State.port_updPort_self ..
  rw [hrun, hlast, hframes, hnone, hport]
  exact ⟨rfl, rfl, hkeep⟩

/-- A stale frame is counted, and the port does not run. -/
theorem State.boundary_stale {m : Nat} (h : newestOf (s.dueFrames p.num) = some x) (hm : (s.port p.num).lastCounter = some m)
    (hx : counterNewer x.counter m = false) :
    ((s.boundary p).port p.num).running = false ∧ ((s.boundary p).port p.num).lastCounter = some m ∧
      (s.boundary p).g .chA (Obj.cycStale p.num) = wrapU32 (s.g .chA (Obj.cycStale p.num) + 1) := by
  obtain ⟨hrun, hlast, -⟩ := s.boundary_port p
  have htake : s.takeCyc p = (s.overtaken p).bumpC .chA (Obj.cycStale p.num) := by
    rw [State.takeCyc_some h, if_pos (by simp [CycFrame.staleAfter, hm, hx])]
  have hport : (s.takeCyc p).port p.num = (s.overtaken p).port p.num := by rw [htake]; rfl
  rw [hrun, hlast, hport, State.overtaken_port, s.boundary_g p (cycCounts_readStay p).2.1, htake, State.bumpC,
    State.g_setC_self, s.overtaken_g p (by simp only [Obj.cycStale, Obj.cycOvertaken]; omega)]
  exact ⟨rfl, hm, rfl⟩

section
variable (h : newestOf (s.dueFrames p.num) = some x) (hx : x.staleAfter (s.port p.num).lastCounter = false)
include h hx

theorem State.takeCyc_applies : s.takeCyc p = (((s.overtaken p).applyCyc p x.payload).bumpC .chA (Obj.cycApplied p.num)).updPort
    p.num fun y => { y with running := true, lastCounter := some x.counter } := by
  rw [State.takeCyc_some h, if_neg (by rw [hx]; decide)]

theorem State.boundary_runs : ((s.boundary p).port p.num).running = true ∧
    ((s.boundary p).port p.num).lastCounter = some x.counter := by
  obtain ⟨hrun, hlast, -⟩ := s.boundary_port p
  rw [hrun, hlast, State.takeCyc_applies h hx, State.port_updPort_self]
  exact ⟨rfl, rfl⟩

/-- An object other than CYC_APPLIED that no read changes is left as the entries leave it. -/
theorem State.boundary_applied {o : Obj} (ho : o.readStays) (hne : o.key ≠ (Obj.cycApplied p.num).key) (c : Ch) :
    (s.boundary p).g c o = ((s.overtaken p).applyCyc p x.payload).g c o := by
  rw [s.boundary_g p ho, State.takeCyc_applies h hx]
  exact State.g_setC_key _ _ _ _ hne

theorem State.boundary_empty (hw : s.cmdWords p.num = []) :
    (s.boundary p).g .chA (Obj.cycApplied p.num) = wrapU32 (s.g .chA (Obj.cycApplied p.num) + 1) ∧
      ((s.boundary p).port p.num).frames = (s.port p.num).frames.filter fun f => !(f.due ≤ s.now) := by
  obtain ⟨-, -, hframes⟩ := s.boundary_port p
  have happly : (s.overtaken p).applyCyc p x.payload = (s.overtaken p).bumpC .chA (Obj.cycEntriesDenied p.num) 0 :=
    State.applyCyc_empty (by rw [State.overtaken_cmdWords, hw])
  have hport : ((s.overtaken p).bumpC .chA (Obj.cycEntriesDenied p.num) 0 |>.bumpC .chA (Obj.cycApplied p.num)).port p.num =
      (s.overtaken p).port p.num := rfl
  constructor
  · rw [s.boundary_g p (cycCounts_readStay p).1, State.takeCyc_applies h hx, happly]
    rw [State.updPort_g, State.bumpC, State.g_setC_self, State.bumpC,
      State.g_setC_key _ _ _ _ (by simp only [Obj.cycApplied, Obj.cycEntriesDenied]; omega),
      s.overtaken_g p (by simp only [Obj.cycApplied, Obj.cycOvertaken]; omega)]
    rfl
  · rw [hframes, State.takeCyc_applies h hx, State.port_updPort_self, happly, hport, State.overtaken_port]

/-- A plain object whose entry passes the checks holds the frame's value. -/
theorem State.boundary_holds (hw : s.cmdWords p.num = [w]) (hcut : cutPayload [w] x.payload = [some (e, .num v)])
    (hp : e.plain = true) (hf : s.writeFails (s.rawSet e (.num v)) p.carrier e (.num v) 0 = none) :
    (s.boundary p).holdsAt e v := by
  have he := cutPayload_one hcut
  have hwritable := State.writable_of_writeFails hf
  have hstays := Entry.readStays_of_writable he (field_lt _ 8 8) hwritable
  obtain ⟨hrestore, hsluice, -⟩ := Entry.holds_role (Entry.holds_of_plain hp)
  have happly : (s.overtaken p).applyCyc p x.payload =
      ((s.overtaken p).bumpC .chA (Obj.cycEntriesDenied p.num) 0).applyWrite p.carrier e (.num v) :=
    State.applyCyc_passes (by rw [State.overtaken_cmdWords, hw]) hcut hsluice (by rw [State.overtaken_writeFails s p he, hf])
  have hne : e.obj.key ≠ (Obj.cycApplied p.num).key :=
    Obj.key_ne_of Entry.writable (findObj_self he (field_lt _ 8 8)) hwritable (by cases p <;> decide +kernel)
  refine State.holdsAt_congr (fun c => (State.boundary_applied h hx hstays hne c).trans ?_) (State.rawSet_holds
    (s := (((s.overtaken p).bumpC .chA (Obj.cycEntriesDenied p.num) 0).logWrite p.carrier e (.num v)).touchUnlock p.carrier e) hp)
  rw [happly, State.applyWrite_num _ _ _ _ hrestore, State.noteCommand_g, State.writeNum_plain hp]

/-- An entry that fails the checks is counted. -/
theorem State.boundary_denies {v : Val} {a : Abort} (hw : s.cmdWords p.num = [w]) (hcut : cutPayload [w] x.payload = [some (e, v)])
    (hf : s.writeFails (s.rawSet e v) p.carrier e v 0 = some a) :
    (s.boundary p).g .chA (Obj.cycEntriesDenied p.num) = wrapU32 (s.g .chA (Obj.cycEntriesDenied p.num) + 1) := by
  have he := cutPayload_one hcut
  have happly : (s.overtaken p).applyCyc p x.payload = (s.overtaken p).bumpC .chA (Obj.cycEntriesDenied p.num) :=
    State.applyCyc_denied (by rw [State.overtaken_cmdWords, hw]) hcut (by rw [State.overtaken_writeFails s p he, hf])
  rw [State.boundary_applied h hx (cycCounts_readStay p).2.2.1 (by simp only [Obj.cycApplied, Obj.cycEntriesDenied]; omega),
    happly, State.bumpC, State.g_setC_self, s.overtaken_g p (by simp only [Obj.cycEntriesDenied, Obj.cycOvertaken]; omega)]
  rfl

end

end

-- status frames and silence (R111, R112)

section
variable {s : State} {t : Nat} {p : Port}

/-- The status frame of what the port has latched, on every lane that is up. -/
def State.sendStatus (s : State) (p : Port) (x : Nat × List Byte × Bool) : State :=
  forEach (Ch.all.filter fun c => s.laneUp c p) s fun s c => s.sendLane c p 4 (s.statusFrame c p x)

/-- The status frame of one lane. -/
def State.statusOut (s : State) (p : Port) (x : Nat × List Byte × Bool) (c : Ch) : Out :=
  .lane c p (s.vlanTag p.carrier) 4 (s.statusFrame c p x)

theorem State.sendStatus_eq (s : State) (p : Port) (x : Nat × List Byte × Bool) : s.sendStatus p x =
    { s with sent := ((Ch.all.filter fun c => s.laneUp c p).map (s.statusOut p x)).reverse ++ s.sent } := by
  have hsend (l : List Ch) : ∀ z, forEach l { s with sent := z } (fun s c => s.sendLane c p 4 (s.statusFrame c p x)) =
      { s with sent := (l.map (s.statusOut p x)).reverse ++ z } := by
    induction l with
    | nil => exact fun _ => rfl
    | cons c l ih =>
      intro z
      rw [List.map_cons, List.reverse_cons, List.append_assoc]
      exact ih (s.statusOut p x c :: z)
  exact hsend _ s.sent

/-- A status frame leaves on every lane that is up, and nothing stays latched. -/
theorem exec_cyclicStatusFrame {x : Nat × List Byte × Bool} (hx : (s.port p.num).latched = some x)
    (ht : x.1 + s.vn (Obj.statusOffset p.num) * us ≤ max s.now t) :
    ∃ u, exec (.cyclicStatusFrame t p) s = .next (s.after t u) ∧ (u.port p.num).latched = none ∧ u.regs = s.regs ∧
      ∀ c, s.laneUp c p = true → Out.lane c p (s.vlanTag p.carrier) 4 (s.statusFrame c p x) ∈ u.sent := by
  have hexec : exec (.cyclicStatusFrame t p) s = .next (s.after t (((s.upTo t).sendStatus p x).updPort p.num
      fun y => { y with latched := none })) := by
    have hx' : ((s.upTo t).port p.num).latched = some x := hx
    show execCyclicStatusFrame t p s = _
    unfold execCyclicStatusFrame State.run
    simp only [hx']
    exact congrArg (fun u => Host.Outcome.next (s.after t u)) (if_neg (Nat.not_lt.2 ht))
  refine ⟨_, hexec, by rw [State.port_updPort_self], ?_, fun c hc => ?_⟩
  · rw [State.sendStatus_eq]
    rfl
  · rw [State.sendStatus_eq]
    exact List.mem_append_left _ (List.mem_reverse.2 (List.mem_map.2
      ⟨c, List.mem_filter.2 ⟨by cases c <;> decide, hc⟩, rfl⟩))

/-- A port that has been silent for long is found silent, and reported where it was not known to be. -/
theorem State.checkSilence_silent (s : State) (n : Nat) (h : (s.port n).heard + s.vn (Obj.portSilentTime n) * ms ≤ s.now) :
    ((s.checkSilence n).port n).silent = true ∧ (s.checkSilence n).regs = s.regs ∧
      ((s.port n).silent = true → (s.checkSilence n).sent = s.sent) ∧
      ((s.port n).silent = false → (s.checkSilence n).sent = .health clsHostPort n :: s.sent) := by
  have hsilent : s.silentNow n = true := decide_eq_true h
  unfold State.checkSilence
  cases hk : (s.port n).silent with
  | true => simp [hk]
  | false =>
    simp only [hsilent, Bool.not_false, Bool.and_self, if_true]
    have hport : ((s.updPort n fun x => { x with silent := true }).port n).silent = true := by rw [State.port_updPort_self]
    exact ⟨hport, rfl, fun h => absurd h (by decide), fun _ => rfl⟩

end

/-- Settles O26: the newest due frame of a boundary decides what the port does, and its entries pass and fail the checks of the
state before the boundary, for no check reads the ports or CYC_OVERTAKEN (`State.core_writeFails`). -/
theorem cycleBoundariesAndSilence : Obligations.CycleBoundariesAndSilence := by
  refine ⟨fun t p s hnone hrec hcycle ht => ?_, fun t p s hnone ht => ?_, fun t p x s hx ht => exec_cyclicStatusFrame hx ht,
    fun t p s hc hrec hsil => ?_⟩
  · refine ⟨_, exec_cycleBoundary hnone hrec hcycle ht, State.boundary_idle (s.upTo t) p, fun x hnew => ⟨fun hm => ?_, ?_⟩,
      State.boundary_latches (s.upTo t) p⟩
    · have hx := (CycFrame.staleAfter_iff (x := x)).2 hm
      obtain ⟨hrun, hlast⟩ := State.boundary_runs (s := s.upTo t) hnew hx
      refine ⟨hrun, hlast, State.boundary_empty (s := s.upTo t) hnew hx, fun w e v hw hcut hp hf => ?_,
        fun w e v a hw hcut hf => State.boundary_denies (s := s.upTo t) hnew hx hw hcut hf⟩
      exact State.boundary_holds (s := s.upTo t) hnew hx hw hcut hp hf
    · exact fun m hm hx => State.boundary_stale (s := s.upTo t) hnew hm hx
  · exact ⟨_, exec_cycleBoundary_off hnone ht, rfl, rfl⟩
  · have hexec : exec (.portSilent t p) s = .next (s.after t ((s.upTo t).checkSilence p.num)) :=
      congrArg (fun u => Host.Outcome.next (s.after t u)) (if_pos (Bool.and_eq_true_iff.2 ⟨hc, hrec⟩))
    exact ⟨_, hexec, State.checkSilence_silent (s.upTo t) p.num hsil⟩

end Sys2Proof.Machine
end

section
/-! ## Converters, reference groups and diagnosis: what their updates and their loops leave -/

namespace Sys2Proof.Machine

section
variable {s u w : State}

theorem State.run_of_eq {t : Nat} {f : State → State} (h : f (s.upTo t) = u) : s.run t f = .next (s.after t u) := by
  rw [State.run, h]

/-- What a loop's step for `x` establishes, and no step for another index takes back, the loop establishes for its member
`x`; `I` is an invariant of the loop. -/
theorem forEach_establishes {α : Type} {I P : State → Prop} {f : State → α → State} {x : α} {l : List α}
    (hI : ∀ u, ∀ y ∈ l, I u → I (f u y)) (hset : ∀ u, I u → P (f u x))
    (hkeep : ∀ u, ∀ y ∈ l, y ≠ x → P u → P (f u y)) (hx : x ∈ l) (hs : I s) : P (forEach l s f) := by
  induction l generalizing s with
  | nil => exact absurd hx List.not_mem_nil
  | cons y l ih =>
    by_cases hl : x ∈ l
    · exact ih (fun u z hz => hI u z (List.mem_cons_of_mem y hz)) (fun u z hz => hkeep u z (List.mem_cons_of_mem y hz)) hl
        (hI s y List.mem_cons_self hs)
    · obtain rfl := (List.mem_cons.1 hx).resolve_right hl
      exact List.foldlRecOn l f (motive := P) (hset s hs) fun u hu z hz =>
        hkeep u z (List.mem_cons_of_mem x hz) (fun h => hl (h ▸ hz)) hu

-- one unit's record

theorem State.conv_updConv (s : State) (c : Ch) (n k : Nat) (f : Conv → Conv) :
    (s.updConv c n f).conv c k = if k = n then f (s.conv c k) else s.conv c k := by
  split
  · next h => rw [h, State.conv_updConv_self]
  · next h => simp only [State.conv, State.updConv, Trio.get_upd_self, Tbl.getD_modify_ne _ _ _ _ h]

theorem State.conv_congr (h : u.convs = s.convs) (c : Ch) (n : Nat) : u.conv c n = s.conv c n := by rw [State.conv, h, State.conv]

theorem State.grp_congr (h : u.grps = s.grps) (c : Ch) (m : Nat) : u.grp c m = s.grp c m := by rw [State.grp, h, State.grp]

theorem State.diag_congr (h : u.diags = s.diags) (c : Ch) (k : Nat) : u.diag c k = s.diag c k := by rw [State.diag, h, State.diag]

theorem State.isBitC_congr (h : u.regs = s.regs) (c : Ch) (o : Obj) (n : Nat) : u.isBitC c o n = s.isBitC c o n := by
  rw [State.isBitC, State.g_congr h, State.isBitC]

theorem State.cvWindow_congr {c : Ch} {n : Nat} (h1 : u.g c (Obj.sincOrder c n) = s.g c (Obj.sincOrder c n))
    (h2 : u.g c (Obj.decimRatio c n) = s.g c (Obj.decimRatio c n)) : u.cvWindow c n = s.cvWindow c n := by
  simp only [State.cvWindow, State.gn, h1, h2]

-- bits of an object

theorem State.isBitC_bitC_ne (s : State) (c : Ch) (o : Obj) {n m : Nat} (b : Bool) (h : m ≠ n) :
    (s.bitC c o n b).isBitC c o m = s.isBitC c o m := by
  simp only [State.isBitC, State.bitC, State.g_setC_self, bit_withBit_ne _ _ h]

theorem State.isBitC_bitC_key (s : State) (c d : Ch) {o p : Obj} (n m : Nat) (b : Bool) (h : p.key ≠ o.key) :
    (s.bitC d o n b).isBitC c p m = s.isBitC c p m := by
  simp only [State.isBitC, State.g_bitC_key _ _ _ _ _ h]

theorem State.isBitC_setC_key (s : State) (c d : Ch) {o p : Obj} (m : Nat) (v : Int) (h : p.key ≠ o.key) :
    (s.setC d o v).isBitC c p m = s.isBitC c p m := by
  simp only [State.isBitC, State.g_setC_key _ _ _ _ h]

theorem mem_groupMembers {i m : Nat} : i ∈ groupMembers m ↔ i / 4 = m := by
  simp only [groupMembers, upto, List.mem_map, List.mem_range]
  constructor
  · rintro ⟨j, hj, rfl⟩
    omega
  · intro h
    exact ⟨i % 4, by omega, by omega⟩

theorem Obj.cvStatus_key {c : Ch} {i n : Nat} : (Obj.cvStatus c i).key = (Obj.cvStatus c n).key ↔ i = n := by
  simp only [Obj.cvStatus]
  omega

/-- A bit of CV_STATUS given to every converter of a list. -/
def State.markConvs (s : State) (c : Ch) (l : List Nat) (n : Nat) (b : Bool) : State :=
  forEach l s fun s i => s.bitC c (Obj.cvStatus c i) n b

theorem State.markConvs_eq {β : Type} (p : State → β) (hp : ∀ s i n b, p (State.bitC s c (Obj.cvStatus c i) n b) = p s)
    (l : List Nat) (n : Nat) (b : Bool) : p (s.markConvs c l n b) = p s := forEach_eq p _ (fun _ _ => hp ..) l s

theorem State.markConvs_bit {c : Ch} {l : List Nat} {i : Nat} (n : Nat) (b : Bool) (h : i ∈ l) :
    (s.markConvs c l n b).isBitC c (Obj.cvStatus c i) n = b :=
  forEach_establishes (f := fun s i => s.bitC c (Obj.cvStatus c i) n b) (I := fun _ => True)
    (P := fun u => u.isBitC c (Obj.cvStatus c i) n = b) (fun _ _ _ _ => trivial) (fun _ _ => State.isBitC_bitC_self ..)
    (fun _ _ _ hy hu =>
      (State.isBitC_bitC_key _ _ _ _ _ _ (mt Obj.cvStatus_key.1 hy.symm)).trans hu) h trivial

end

-- the end of step 8, which a skipped or finished calibration can bring (R147, R517)

/-- The objects of sensing: 0x4000 to 0x47FF (R149 to R153). -/
def Obj.sensing (o : Obj) : Prop := 0x4000 * 256 ≤ o.key ∧ o.key < 0x4800 * 256

/-- A step that leaves the reference groups and the objects of sensing. -/
structure SensingKept (s u : State) : Prop where
  grps : u.grps = s.grps
  objs : ∀ c o, Obj.sensing o → u.g c o = s.g c o

namespace SensingKept

variable {s u w : State}

theorem refl (s : State) : SensingKept s s := ⟨rfl, fun _ _ _ => rfl⟩

theorem trans (h : SensingKept s u) (k : SensingKept u w) : SensingKept s w :=
  ⟨k.grps.trans h.grps, fun c o ho => (k.objs c o ho).trans (h.objs c o ho)⟩

theorem forEach {α : Type} {f : State → α → State} (hf : ∀ s x, SensingKept s (f s x)) (l : List α) (s : State) :
    SensingKept s (forEach l s f) := forEach_keeps SensingKept refl (fun _ _ _ => trans) f hf l s

theorem of_eq (hgrps : u.grps = s.grps) (hregs : u.regs = s.regs) : SensingKept s u :=
  ⟨hgrps, fun c o _ => State.g_congr hregs c o⟩

theorem setR (s : State) {o : Obj} (v : Int) (h : ¬ o.sensing) : SensingKept s (s.setR o v) :=
  ⟨rfl, fun c p hp => State.g_setR_key _ c v fun hk => h (by unfold Obj.sensing at hp ⊢; rwa [← hk])⟩

theorem updSed (s : State) (c : Ch) (f : Sed → Sed) : SensingKept s (s.updSed c f) := of_eq rfl rfl

theorem ite {c : Prop} [Decidable c] (h : SensingKept s u) (k : SensingKept s w) :
    SensingKept s (if c then u else w) := by
  split
  · exact h
  · exact k

end SensingKept

theorem Obj.sediment_notSensing (c : Ch) : ¬ (Obj.sedEvents c).sensing ∧ ¬ (Obj.sedFreezeTime c).sensing ∧
    ¬ (Obj.sedFreezeCause c).sensing ∧ ¬ (Obj.sedSumDropped c).sensing ∧ ¬ (Obj.sedSumValid c).sensing := by
  simp only [Obj.sensing, Obj.sedEvents, Obj.sedFreezeTime, Obj.sedFreezeCause, Obj.sedSumDropped, Obj.sedSumValid]; omega

theorem Ch.num_lt_three (c : Ch) : c.num < 3 := by cases c <;> decide

theorem Obj.startUp_notSensing (c : Ch) :
    ¬ (Obj.suStep c).sensing ∧ ¬ (Obj.suReadyTime c).sensing ∧ ¬ (Obj.suDuration c).sensing := by
  have hc := Ch.num_lt_three c
  simp only [Obj.sensing, Obj.suStep, Obj.suReadyTime, Obj.suDuration]; omega

theorem Obj.redundancy_notSensing (c : Ch) :
    ¬ (Obj.chState c).sensing ∧ ¬ Obj.stateEntryTime.sensing ∧ ¬ Obj.twinState.sensing := by
  have hc := Ch.num_lt_three c
  simp only [Obj.sensing, Obj.chState, Obj.stateEntryTime, Obj.twinState]; omega

section
variable (s : State)

theorem State.logC_sensing (c : Ch) (a b : Nat) (l : List Byte) : SensingKept s (s.logC c a b l) := by
  unfold State.logC
  exact .ite (.ite ((SensingKept.updSed s c _).trans (.setR _ _ (Obj.sediment_notSensing c).1)) (.updSed ..)) (.refl s)

theorem State.startCopy_sensing (c : Ch) (x : SedTrig) (a b : Bool) : SensingKept s (s.startCopy c x a b) := by
  obtain ⟨-, -, -, hdropped, hvalid⟩ := Obj.sediment_notSensing c
  unfold State.startCopy
  extract_lets d
  split
  · exact (SensingKept.setR s _ hdropped).trans (State.logC_sensing ..)
  · exact (SensingKept.updSed s c _).trans (.setR _ _ hvalid)

theorem State.trigger_sensing (c : Ch) (cause : Nat) : SensingKept s (s.trigger c cause) := by
  obtain ⟨-, htime, hcause, -, -⟩ := Obj.sediment_notSensing c
  unfold State.trigger
  refine .ite ?_ (.refl s)
  extract_lets was noTrace u w
  have hw : SensingKept s w := (s.logC_sensing ..).trans
    (.ite (.refl _) (((SensingKept.updSed u c _).trans (.setR _ _ htime)).trans (.setR _ _ hcause)))
  refine .ite hw ?_
  split
  · exact .ite (hw.trans (.updSed ..)) (.ite hw (hw.trans (.updSed ..)))
  · exact hw.trans (State.startCopy_sensing ..)

/-- A plan trigger changes the planner's state alone (R344). -/
theorem State.planTrigger_place (k : Nat) : ∃ p, s.planTrigger k = { s with place := p } := by
  unfold State.planTrigger
  dsimp only
  split
  · exact ⟨s.place, rfl⟩
  · split
    · exact ⟨_, rfl⟩
    · split
      · split <;> exact ⟨_, rfl⟩
      · exact ⟨_, rfl⟩
      · exact ⟨_, rfl⟩

theorem State.checkHealth_place : ∃ p, s.checkHealth = { s with place := p } := by
  unfold State.checkHealth
  split
  · exact s.planTrigger_place 2
  · exact ⟨s.place, rfl⟩

theorem State.checkHealth_grps : s.checkHealth.grps = s.grps := by
  obtain ⟨p, h⟩ := s.checkHealth_place
  rw [h]

theorem State.checkHealth_diags : s.checkHealth.diags = s.diags := by
  obtain ⟨p, h⟩ := s.checkHealth_place
  rw [h]

theorem State.setTwinState_sensing (v : Nat) : SensingKept s (s.setTwinState v) := by
  unfold State.setTwinState
  exact .ite (.refl s) (.trans (.setR s v (Obj.redundancy_notSensing .chA).2.2) (.of_eq rfl rfl))

theorem State.endCandidates_sensing : SensingKept s s.endCandidates := by
  unfold State.endCandidates
  split
  · exact .forEach (fun u c => .ite (.setR _ _ (Obj.redundancy_notSensing c).1) (.refl u)) _ s
  · exact .refl s

theorem State.stopTasks_grps (cause : Nat) : (s.stopTasks cause).grps = s.grps := by
  unfold State.stopTasks
  exact (forEach_eq (fun s => s.grps) _ (fun _ _ => by simp [State.stopTrace]) _ _).trans
    (forEach_eq (fun s => s.grps) _ (fun s k => State.updTask_grps s k _) _ s)

theorem State.dropHandovers_grps : s.dropHandovers.grps = s.grps :=
  forEach_eq (fun s => s.grps) _ (fun s n => State.updAxis_grps s n _) _ s

theorem State.enter_sensing (r : RState) : SensingKept s (s.enter r) := by
  unfold State.enter
  refine .ite (.refl s) ?_
  extract_lets old s₁ e₁ r₁ s₂ s₃ s₄ p₄ s₅ r₅ s₆ s₇
  have h₃ : SensingKept s s₃ := (((SensingKept.forEach (fun u c => u.logC_sensing c _ _ _) _ s).trans
    (State.endCandidates_sensing s₁)).trans (w := s₂) (.of_eq rfl rfl)).trans
      (.setR s₂ _ (Obj.redundancy_notSensing .chA).2.1)
  have hplan (v : State) (k : Nat) : SensingKept v (v.planTrigger k) := by
    obtain ⟨p, hp⟩ := v.planTrigger_place k
    exact .of_eq (by rw [hp]) (by rw [hp])
  split
  · have h₆ : SensingKept s s₆ := h₃.trans (.of_eq
      ((State.dropHandovers_grps _).trans (State.stopTasks_grps s₃ 2)) (by simp [s₆, s₅, s₄]))
    have h₇ : SensingKept s s₇ :=
      h₆.trans (.ite (s₆.setTwinState_sensing 7) (.ite (s₆.setTwinState_sensing 8) (.refl s₆)))
    exact h₇.trans (.forEach (fun u c => u.trigger_sensing c 2) _ s₇)
  · exact (h₃.trans (.of_eq (State.dropHandovers_grps s₃) (by simp))).trans (hplan ..)
  · exact .ite h₃ (h₃.trans (hplan ..))

/-- The end of step 8 touches neither the reference groups nor the objects of sensing. -/
theorem State.endSeeding_sensing : SensingKept s s.endSeeding := by
  unfold State.endSeeding
  refine .ite ?_ (.refl s)
  have hready (u : State) (c : Ch) : SensingKept u (u.ready c) := by
    obtain ⟨hstep, htime, hduration⟩ := Obj.startUp_notSensing c
    exact ((SensingKept.setR u _ hstep).trans (.setR _ _ htime)).trans (.setR _ _ hduration)
  exact (SensingKept.forEach hready _ s).trans (.ite (State.enter_sensing ..) (.refl _))

theorem State.endSeeding_g (c : Ch) {o : Obj} (h : o.sensing) : s.endSeeding.g c o = s.g c o := s.endSeeding_sensing.objs c o h

end

end Sys2Proof.Machine
end

section
/-! ## Converters: results, over-range, faults of a group and calibration (R125 to R147) -/

namespace Sys2Proof.Machine

section
variable (s : State) (c : Ch) (n : Nat)

-- the register of a converter (R133)

theorem State.writeResult_diags (code : Int) (inj : Bool) : (s.writeResult c n code inj).diags = s.diags := by
  unfold State.writeResult
  dsimp only
  split <;> rfl

theorem Obj.cvResult_apart : (Obj.cvResult c n).key ≠ (Obj.cvLastTime c n).key ∧
    (Obj.cvStatus c n).key ≠ (Obj.cvResult c n).key ∧ (Obj.cvStatus c n).key ≠ (Obj.cvLastTime c n).key := by
  simp only [Obj.cvResult, Obj.cvLastTime, Obj.cvStatus]
  omega

theorem State.writeResult_code (code : Int) (inj : Bool) : (s.writeResult c n code inj).g c (Obj.cvResult c n) = code := by
  unfold State.writeResult
  rw [State.g_setC_key _ _ _ _ (Obj.cvResult_apart c n).1, State.g_setC_self]

/-- A result that is written is new, and bears the mark of an injected conversion or not (R133, R142). -/
theorem State.writeResult_marks (code : Int) (inj : Bool) :
    (s.writeResult c n code inj).isBitC c (Obj.cvStatus c n) cvInj = inj ∧
      (s.writeResult c n code inj).isBitC c (Obj.cvStatus c n) cvNew = true := by
  obtain ⟨-, hresult, htime⟩ := Obj.cvResult_apart c n
  unfold State.writeResult
  dsimp only
  constructor
  · rw [State.isBitC_setC_key _ _ _ _ _ htime, State.isBitC_setC_key _ _ _ _ _ hresult, State.isBitC_bitC_self]
  · rw [State.isBitC_setC_key _ _ _ _ _ htime, State.isBitC_setC_key _ _ _ _ _ hresult,
      State.isBitC_bitC_ne _ _ _ _ (by decide), State.isBitC_bitC_self]

-- over-range (R137, R138)

/-- An onset marks the excursion's sign where none stood, and the converter is in over-range in any case (R137). -/
theorem State.ovrOnset_conv (pos : Bool) : (s.ovrOnset c n pos).conv c n =
    { s.conv c n with ovr := true, ovrPos := if (s.conv c n).ovr then (s.conv c n).ovrPos else pos } := by
  unfold State.ovrOnset
  split
  · next h => rw [← h]
  · exact State.conv_updConv_self ..

theorem State.ovrOnset_conv_ne (pos : Bool) {k : Nat} (h : k ≠ n) : (s.ovrOnset c n pos).conv c k = s.conv c k := by
  unfold State.ovrOnset
  split
  · rfl
  · exact (State.conv_updConv s c n k _).trans (if_neg h)

theorem State.ovrOnset_diags (pos : Bool) : (s.ovrOnset c n pos).diags = s.diags := by
  unfold State.ovrOnset
  split <;> rfl

theorem State.ovrOnset_stands (pos : Bool) (h : (s.conv c n).ovr = true) : s.ovrOnset c n pos = s := if_pos h

theorem Obj.grpOverrangeCount_apart (m : Nat) (h : n < 32) : (Obj.cvStatus c n).key ≠ (Obj.grpOverrangeCount c m).key := by
  simp only [Obj.cvStatus, Obj.grpOverrangeCount]
  omega

/-- A new excursion sets OVRG and is counted in its group (R137, R151). -/
theorem State.ovrOnset_counts (pos : Bool) (h : (s.conv c n).ovr = false) (hn : n < 32) :
    (s.ovrOnset c n pos).isBitC c (Obj.cvStatus c n) cvOvrg = true ∧
      (s.ovrOnset c n pos).g c (Obj.grpOverrangeCount c (n / 4)) = wrapU32 (s.g c (Obj.grpOverrangeCount c (n / 4)) + 1) := by
  have hkey := Obj.grpOverrangeCount_apart c n (n / 4) hn
  unfold State.ovrOnset
  rw [h, if_neg Bool.false_ne_true, State.bumpC]
  constructor
  · rw [State.isBitC_setC_key _ _ _ _ _ hkey, State.isBitC_bitC_self]
  · rw [State.g_setC_self, State.g_bitC_key _ _ _ _ _ hkey.symm]
    rfl

/-- The settling of one converter of a group begins (R138). -/
def State.settle (s : State) (c : Ch) (i : Nat) : State :=
  (s.bitC c (Obj.cvStatus c i) cvSettling true).updConv c i fun x => { x with settleEnd := s.now + s.cvWindow c i + 2 * us }

theorem State.ovrEnd_eq : s.ovrEnd c n = if (s.conv c n).ovr && !(s.conv c n).det && !(s.conv c n).filt then
    forEach (groupMembers (n / 4)) (s.updConv c n fun x => { x with ovr := false }) fun s i => s.settle c i else s := rfl

theorem State.settle_conv (i k : Nat) : (s.settle c i).conv c k =
    { s.conv c k with settleEnd := if k = i then s.now + s.cvWindow c i + 2 * us else (s.conv c k).settleEnd } := by
  refine (State.conv_updConv _ c i k _).trans ?_
  split <;> rfl

/-- What settling leaves of a converter: all but the end of its settling. -/
theorem State.forEach_settle_conv {β : Type} (q : Conv → β) (hq : ∀ x e, q { x with settleEnd := e } = q x) (l : List Nat) :
    q ((forEach l s fun s i => s.settle c i).conv c n) = q (s.conv c n) :=
  forEach_eq (fun u => q (u.conv c n)) _ (fun u i => by rw [State.settle_conv, hq]) l s

theorem State.settle_cvWindow (i : Nat) {k : Nat} (hk : k < 32) : (s.settle c i).cvWindow c k = s.cvWindow c k :=
  State.cvWindow_congr (State.g_setC_key s c c _ (by simp only [Obj.sincOrder, Obj.cvStatus]; omega))
    (State.g_setC_key s c c _ (by simp only [Obj.decimRatio, Obj.cvStatus]; omega))

/-- Every member of a group settles for its own window and 2 µs (R138). -/
theorem State.forEach_settle {l : List Nat} {i : Nat} (h : i ∈ l) (hi : i < 32) :
    (forEach l s fun s i => s.settle c i).isBitC c (Obj.cvStatus c i) cvSettling = true ∧
      ((forEach l s fun s i => s.settle c i).conv c i).settleEnd = s.now + s.cvWindow c i + 2 * us := by
  refine forEach_establishes (f := fun s i => s.settle c i) (I := fun u => u.now = s.now ∧ u.cvWindow c i = s.cvWindow c i)
    (P := fun u => u.isBitC c (Obj.cvStatus c i) cvSettling = true ∧ (u.conv c i).settleEnd = s.now + s.cvWindow c i + 2 * us)
    (fun u y _ hu => ⟨hu.1, (u.settle_cvWindow c y hi).trans hu.2⟩) (fun u hu => ?_) (fun u y _ hy hu => ?_) h ⟨rfl, rfl⟩
  · exact ⟨State.isBitC_bitC_self .., by rw [State.settle_conv, if_pos rfl, hu.1, hu.2]⟩
  · exact ⟨(State.isBitC_bitC_key _ _ _ _ _ _ (mt Obj.cvStatus_key.1 hy.symm)).trans hu.1,
      by rw [State.settle_conv, if_neg hy.symm, hu.2]⟩

theorem State.forEach_settle_diags (l : List Nat) : (forEach l s fun s i => s.settle c i).diags = s.diags :=
  forEach_eq (fun u => u.diags) (fun s i => s.settle c i) (fun _ _ => rfl) l s

theorem State.ovrEnd_diags : (s.ovrEnd c n).diags = s.diags := by
  rw [State.ovrEnd_eq]
  split
  · exact State.forEach_settle_diags ..
  · rfl

/-- An over-range lasts while the detector or the filter shows it (R137). -/
theorem State.ovrEnd_conv : ((s.ovrEnd c n).conv c n).ovr = ((s.conv c n).ovr && ((s.conv c n).det || (s.conv c n).filt)) ∧
    ((s.ovrEnd c n).conv c n).ovrPos = (s.conv c n).ovrPos ∧ ((s.ovrEnd c n).conv c n).det = (s.conv c n).det := by
  rw [State.ovrEnd_eq]
  split
  · next h =>
    have hconv {β : Type} (q : Conv → β) (hq : ∀ x e, q { x with settleEnd := e } = q x) :=
      (State.forEach_settle_conv (s.updConv c n fun x => { x with ovr := false }) c n q hq (groupMembers (n / 4))).trans
        (congrArg q (State.conv_updConv_self s c n _))
    simp only [Bool.and_eq_true, Bool.not_eq_true'] at h
    obtain ⟨⟨-, hdet⟩, hfilt⟩ := h
    refine ⟨(hconv Conv.ovr fun _ _ => rfl).trans ?_, hconv Conv.ovrPos fun _ _ => rfl, hconv Conv.det fun _ _ => rfl⟩
    rw [hdet, hfilt, Bool.or_false, Bool.and_false]
  · next h =>
    refine ⟨?_, rfl, rfl⟩
    cases hovr : (s.conv c n).ovr with
    | false => rw [Bool.false_and]
    | true => simpa [hovr, Classical.or_iff_not_imp_left] using h

-- the code of a result (R125, R137)

theorem State.judgeFilter_diags (code : Int) : (s.judgeFilter c n code).diags = s.diags := by
  unfold State.judgeFilter
  split
  · exact State.ovrOnset_diags ..
  · exact State.ovrEnd_diags ..

theorem clamp_of_not_beyond {code : Int} (h : beyond code = false) : clamp (-32768) 32767 code = code := by
  simp only [beyond, decide_eq_false_iff_not] at h
  simp only [clamp]
  omega

/-- The code that is written after a filter output has been judged is the one that the rules name (R137). -/
theorem State.judgeFilter_code (code : Int) : (s.judgeFilter c n code).codeOf c n code = s.takenCode c n code := by
  unfold State.judgeFilter State.codeOf State.takenCode
  cases hb : beyond code with
  | true =>
    simp only [if_true, State.conv_updConv_self, State.ovrOnset_conv, Bool.true_or]
  | false =>
    obtain ⟨hovr, hpos, -⟩ := State.ovrEnd_conv (s.updConv c n fun x => { x with filt := false }) c n
    simp only [Bool.false_eq_true, if_false, hovr, hpos, State.conv_updConv_self, Bool.or_false, Bool.false_or,
      clamp_of_not_beyond hb]
    cases (s.conv c n).ovr <;> simp

/-- A filter output goes to its register (R133, R137). -/
def State.deliverCode (s : State) (c : Ch) (n : Nat) (code : Int) (inj : Bool) : State :=
  (s.judgeFilter c n code).writeResult c n (s.takenCode c n code) inj

theorem State.deliverCode_diags (code : Int) (inj : Bool) : (s.deliverCode c n code inj).diags = s.diags :=
  (State.writeResult_diags ..).trans (State.judgeFilter_diags ..)

-- the end of CAL (R144)

theorem State.endCal_none (start : Nat) (h : ∀ b, (s.conv c n).cal ≠ .ended b) : s.endCal c n start = s := by
  unfold State.endCal
  split
  · next b hb => exact absurd hb (h b)
  · rfl

/-- The end of CAL changes the phase of the calibration and CV_STATUS alone. -/
theorem State.endCal_cases (start : Nat) : s.endCal c n start = s ∨
    s.endCal c n start = (s.updConv c n fun x => { x with cal := .idle }).bitC c (Obj.cvStatus c n) cvCal false := by
  unfold State.endCal
  split
  · split
    · exact .inr rfl
    · exact .inl rfl
  · exact .inl rfl

theorem State.endCal_diags (start : Nat) : (s.endCal c n start).diags = s.diags := by
  rcases s.endCal_cases c n start with h | h
  · rw [h]
  · rw [h]
    rfl

theorem State.endCal_codes (start : Nat) (nv code : Int) : (s.endCal c n start).filterCode c n nv = s.filterCode c n nv ∧
    (s.endCal c n start).takenCode c n code = s.takenCode c n code := by
  rcases s.endCal_cases c n start with h | h <;> rw [h]
  · exact ⟨rfl, rfl⟩
  · constructor
    · unfold State.filterCode
      rw [State.g_bitC_key _ _ _ _ _ (by simp only [Obj.calOffset, Obj.cvStatus]; omega),
        State.g_bitC_key _ _ _ _ _ (by simp only [Obj.calGain, Obj.cvStatus]; omega)]
      rfl
    · have hconv := State.conv_updConv_self s c n fun x => { x with cal := .idle }
      unfold State.takenCode
      rw [State.conv_congr (State.bitC_convs ..), hconv]

-- faults of a group (R139)

/-- An object that is the CV_STATUS of no converter. -/
def Obj.offStatus (o : Obj) (c : Ch) : Prop := ∀ i < 32, o.key ≠ (Obj.cvStatus c i).key

theorem State.markGroup_g (m b : Nat) (v : Bool) {o : Obj} (hm : m < 8) (ho : o.offStatus c) :
    (s.markConvs c (groupMembers m) b v).g c o = s.g c o := by
  refine forEach_eq_mem (fun u => u.g c o) _ _ (fun u i hi => State.g_bitC_key _ _ _ _ _ (ho i ?_)) s
  have := mem_groupMembers.1 hi
  omega

theorem State.groupFault_eq (m : Nat) : s.groupFault c m =
    ((((s.updGrp c m fun g => { g with grpf := true, calOk := 0 }).markConvs c (groupMembers m) cvGrpf true).health clsGroup
      (8 * c.num + m)).checkHealth) := rfl

theorem State.markConvs_grps (l : List Nat) (b : Nat) (v : Bool) : (s.markConvs c l b v).grps = s.grps :=
  State.markConvs_eq (fun s => s.grps) (fun _ _ _ _ => rfl) ..

/-- A group's fault is latched, and what its members have calibrated before counts no more (R139). -/
theorem State.groupFault_grp (m : Nat) : (s.groupFault c m).grp c m = { s.grp c m with grpf := true, calOk := 0 } := by
  rw [State.groupFault_eq, State.grp_congr (State.checkHealth_grps _)]
  exact (State.grp_congr (State.markConvs_grps ..) c m).trans (State.grp_updGrp_self ..)

theorem State.groupFault_bit {i m : Nat} (h : i / 4 = m) : (s.groupFault c m).isBitC c (Obj.cvStatus c i) cvGrpf = true := by
  rw [State.groupFault_eq, State.isBitC_congr (State.checkHealth_regs _)]
  exact State.markConvs_bit cvGrpf true (mem_groupMembers.2 h)

theorem State.groupFault_sent (m : Nat) : Out.health clsGroup (8 * c.num + m) ∈ (s.groupFault c m).sent := by
  rw [State.groupFault_eq, State.checkHealth_sent]
  exact List.mem_cons_self

theorem State.groupFault_g {m : Nat} {o : Obj} (hm : m < 8) (ho : o.offStatus c) : (s.groupFault c m).g c o = s.g c o := by
  rw [State.groupFault_eq, State.g_congr (State.checkHealth_regs _), State.g_congr (State.health_regs ..),
    State.markGroup_g _ _ _ _ _ hm ho, State.g_congr (State.updGrp_regs ..)]

theorem State.groupFault_convs (m : Nat) : (s.groupFault c m).convs = s.convs := by
  rw [State.groupFault_eq, State.checkHealth_convs]
  exact State.markConvs_eq (fun s => s.convs) (fun _ _ _ _ => rfl) ..

-- what a good calibration does to its group (R139)

theorem State.calGood_eq : s.calGood c n =
    if (s.grp c (n / 4)).grpf then
      if (withBit ((s.grp c (n / 4)).calOk : Int) (n % 4) true).toNat = 15 then
        ((s.updGrp c (n / 4) fun g => { g with grpf := false, calOk := 0 }).markConvs c (groupMembers (n / 4)) cvGrpf
          false).checkHealth
      else s.updGrp c (n / 4) fun g => { g with calOk := (withBit ((s.grp c (n / 4)).calOk : Int) (n % 4) true).toNat }
    else s := rfl

theorem State.calGood_convs : (s.calGood c n).convs = s.convs := by
  rw [State.calGood_eq]
  split
  · split
    · rw [State.checkHealth_convs]
      exact State.markConvs_eq (fun s => s.convs) (fun _ _ _ _ => rfl) ..
    · rfl
  · rfl

theorem State.calGood_g {o : Obj} (hn : n < 32) (ho : o.offStatus c) : (s.calGood c n).g c o = s.g c o := by
  rw [State.calGood_eq]
  split
  · split
    · rw [State.g_congr (State.checkHealth_regs _), State.markGroup_g _ _ _ _ _ (by omega) ho,
        State.g_congr (State.updGrp_regs ..)]
    · rfl
  · rfl

/-- The last of four good members clears the fault of the group, and none changes what is known of its buffer (R139). -/
theorem State.calGood_grp : ((s.calGood c n).grp c (n / 4)).bufOut = (s.grp c (n / 4)).bufOut ∧
    ((s.grp c (n / 4)).grpf = true → (withBit ((s.grp c (n / 4)).calOk : Int) (n % 4) true).toNat = 15 →
      ((s.calGood c n).grp c (n / 4)).grpf = false) := by
  rw [State.calGood_eq]
  split
  · split
    · rw [State.grp_congr (State.checkHealth_grps _), State.grp_congr (State.markConvs_grps ..), State.grp_updGrp_self]
      exact ⟨rfl, fun _ _ => rfl⟩
    · next h =>
      rw [State.grp_updGrp_self]
      exact ⟨rfl, fun _ h15 => absurd h15 h⟩
  · next h => exact ⟨rfl, fun hf => absurd hf h⟩

-- a converter that is skipped, and one that is selected (R146, R147)

theorem Obj.calibration_sensing : (Obj.calPending c).sensing ∧ (Obj.calSkipMap c).sensing ∧ (Obj.calFailMap c).sensing ∧
    (Obj.calLastTime c).sensing := by
  have hc := Ch.num_lt_three c
  simp only [Obj.sensing, Obj.calPending, Obj.calSkipMap, Obj.calFailMap, Obj.calLastTime]
  omega

theorem Obj.converter_sensing (hn : n < 32) : (Obj.cvStatus c n).sensing ∧ (Obj.cvEnable c n).sensing ∧
    (Obj.calOffset c n).sensing ∧ (Obj.calGain c n).sensing := by
  have hc := Ch.num_lt_three c
  simp only [Obj.sensing, Obj.cvStatus, Obj.cvEnable, Obj.calOffset, Obj.calGain]
  omega

theorem Obj.calibration_offStatus : (Obj.calPending c).offStatus c ∧ (Obj.calSkipMap c).offStatus c ∧
    (Obj.calFailMap c).offStatus c ∧ (Obj.calLastTime c).offStatus c ∧ ∀ n, (Obj.calOffset c n).offStatus c ∧
    (Obj.calGain c n).offStatus c := by
  simp only [Obj.offStatus, Obj.calPending, Obj.calSkipMap, Obj.calFailMap, Obj.calLastTime, Obj.calOffset, Obj.calGain,
    Obj.cvStatus]
  exact ⟨fun i hi => by omega, fun i hi => by omega, fun i hi => by omega, fun i hi => by omega,
    fun n => ⟨fun i hi => by omega, fun i hi => by omega⟩⟩

theorem State.skipCal_cal : ((s.skipCal c n).conv c n).cal = .idle := by
  unfold State.skipCal
  rw [State.conv_congr (State.endSeeding_convs _)]
  exact congrArg Conv.cal (State.conv_updConv_self s c n _)

/-- The objects that tell of a skipped converter: CAL, CAL_PENDING and CAL_SKIP_MAP (R146). -/
theorem State.skipCal_g {o : Obj} (ho : o.sensing) : (s.skipCal c n).g c o =
    (((s.bitC c (Obj.cvStatus c n) cvCal false).bitC c (Obj.calPending c) n false).bitC c (Obj.calSkipMap c) n true).g c o :=
  State.endSeeding_g _ c ho

end

end Sys2Proof.Machine
end

section
/-! ## Over-range, settling and diagnosis (O29) -/

namespace Sys2Proof.Machine

section
variable (s : State) (t : Nat) (c : Ch)

theorem overrangeOnset_marks (n : Fin 20) (pos : Bool) (h : s.cvOn c n = true) :
    ∃ u, exec (.overrangeOnset t c n pos) s = .next (s.after t u) ∧ (u.conv c n).ovr = true ∧ (u.conv c n).det = true ∧
      (∀ k, k ≠ n.val → u.conv c k = s.conv c k) ∧
      ((s.conv c n).ovr = false → (u.conv c n).ovrPos = pos ∧ u.isBitC c (Obj.cvStatus c n) cvOvrg = true ∧
        u.g c (Obj.grpOverrangeCount c (n.val / 4)) = wrapU32 (s.g c (Obj.grpOverrangeCount c (n.val / 4)) + 1)) ∧
      ((s.conv c n).ovr = true → u.regs = s.regs ∧ (u.conv c n).ovrPos = (s.conv c n).ovrPos) := by
  have hconv : (((s.upTo t).ovrOnset c n pos).updConv c n fun x => { x with det := true }).conv c n =
      { s.conv c n with ovr := true, ovrPos := if (s.conv c n).ovr then (s.conv c n).ovrPos else pos, det := true } := by
    rw [State.conv_updConv_self, State.ovrOnset_conv]
    rfl
  refine ⟨_, State.run_of_eq (if_pos h), by rw [hconv], by rw [hconv], fun k hk => ?_, fun hovr => ?_, fun hovr => ?_⟩
  · rw [State.conv_updConv, if_neg hk, State.ovrOnset_conv_ne _ _ _ _ hk]
    rfl
  · obtain ⟨hbit, hcount⟩ := (s.upTo t).ovrOnset_counts c n pos hovr (by omega)
    exact ⟨by rw [hconv, hovr]; rfl, hbit, hcount⟩
  · rw [hconv, hovr, (s.upTo t).ovrOnset_stands c n pos hovr]
    exact ⟨rfl, rfl⟩

theorem exec_overrangeClear (n : Fin 20) (h : (s.conv c n).det = true) : exec (.overrangeClear t c n) s =
    .next (s.after t (((s.upTo t).updConv c n fun x => { x with det := false }).ovrEnd c n)) := State.run_of_eq (if_pos h)

/-- With the filter within its range, the end of the detector's report ends the over-range, and the group settles (R138). -/
theorem overrangeClear_settles (n : Fin 20) (hdet : (s.conv c n).det = true) (hovr : (s.conv c n).ovr = true)
    (hfilt : (s.conv c n).filt = false) :
    ∃ u, exec (.overrangeClear t c n) s = .next (s.after t u) ∧ (u.conv c n).ovr = false ∧ (u.conv c n).det = false ∧
      ∀ i, i / 4 = n.val / 4 → u.isBitC c (Obj.cvStatus c i) cvSettling = true ∧
        (u.conv c i).settleEnd = max s.now t + s.cvWindow c i + 2 * us := by
  have hconv := State.conv_updConv_self (s.upTo t) c n fun x => { x with det := false }
  obtain ⟨hends, -, hstays⟩ := ((s.upTo t).updConv c n fun x => { x with det := false }).ovrEnd_conv c n
  refine ⟨_, exec_overrangeClear s t c n hdet, ?_, ?_, fun i hi => ?_⟩
  · rw [hends, hconv]
    exact (Bool.and_eq_false_iff.2 (.inr hfilt))
  · rw [hstays, hconv]
  · rw [State.ovrEnd_eq, if_pos (by
      rw [hconv]
      exact Bool.and_eq_true_iff.2 ⟨Bool.and_eq_true_iff.2 ⟨hovr, rfl⟩, congrArg not hfilt⟩)]
    exact State.forEach_settle _ c (mem_groupMembers.2 hi) (by omega)

/-- With the filter beyond its range the over-range stays (R137). -/
theorem overrangeClear_stays (n : Fin 20) (hdet : (s.conv c n).det = true) (hfilt : (s.conv c n).filt = true) :
    ∃ u, exec (.overrangeClear t c n) s = .next (s.after t u) ∧ (u.conv c n).ovr = (s.conv c n).ovr ∧
      (u.conv c n).det = false ∧ u.regs = s.regs := by
  have hconv := State.conv_updConv_self (s.upTo t) c n fun x => { x with det := false }
  refine ⟨_, exec_overrangeClear s t c n hdet, ?_⟩
  rw [State.ovrEnd_eq, if_neg (by rw [hconv]; simp [State.conv_congr (State.upTo_convs s t), hfilt]), hconv]
  exact ⟨rfl, rfl, rfl⟩

theorem settlingEnd_clears (n : Fin 20) (hend : (s.conv c n).settleEnd ≤ max s.now t) (hovr : s.ovrPresent c (n.val / 4) = false) :
    ∃ u, exec (.settlingEnd t c n) s = .next (s.after t u) ∧ u.isBitC c (Obj.cvStatus c n) cvSettling = false ∧
      (∀ d o, o.key ≠ (Obj.cvStatus c n).key → u.g d o = s.g d o) ∧ u.convs = s.convs := by
  refine ⟨_, State.run_of_eq (if_pos (Bool.and_eq_true_iff.2 ⟨decide_eq_true hend, congrArg not hovr⟩)),
    State.isBitC_bitC_self .., fun d o ho => ?_, rfl⟩
  rw [State.g_bitC_key _ _ _ _ _ ho]
  rfl

theorem settlingEnd_idle (n : Fin 20) (h : max s.now t < (s.conv c n).settleEnd ∨ s.ovrPresent c (n.val / 4) = true) :
    exec (.settlingEnd t c n) s = .next (s.after t (s.upTo t)) := by
  refine State.run_of_eq (if_neg fun hand => ?_)
  obtain ⟨hend, hovr⟩ := Bool.and_eq_true_iff.1 hand
  rcases h with h | h
  · exact absurd (of_decide_eq_true hend) (Nat.not_le.2 h)
  · exact absurd (hovr.symm.trans (congrArg not h)) (by decide)

/-- The supervisor's report of a reference buffer is noted (R139). -/
def State.bufferSeen (s : State) (c : Ch) (m : Nat) (out : Bool) : State := s.updGrp c m fun g => { g with bufOut := out }

/-- A buffer that has been outside for more than 20 µs is a fault of its group; one that has not, or is back, is not (R139). -/
theorem referenceBufferFault_judges (m : Fin 5) (b : Nat) :
    (b + 20 * us < max s.now t →
      ∃ u, exec (.referenceBufferFault t c m (some b)) s = .next (s.after t u) ∧ (u.grp c m).bufOut = true ∧
        (u.grp c m).grpf = true ∧ (∀ i, i / 4 = m.val → u.isBitC c (Obj.cvStatus c i) cvGrpf = true) ∧
        Out.health clsGroup (8 * c.num + m.val) ∈ u.sent) ∧
    (max s.now t ≤ b + 20 * us →
      ∃ u, exec (.referenceBufferFault t c m (some b)) s = .next (s.after t u) ∧ (u.grp c m).bufOut = true ∧
        (u.grp c m).grpf = (s.grp c m).grpf ∧ u.regs = s.regs ∧ u.sent = s.sent) ∧
    ∃ u, exec (.referenceBufferFault t c m none) s = .next (s.after t u) ∧ (u.grp c m).bufOut = false ∧
      (u.grp c m).grpf = (s.grp c m).grpf ∧ u.regs = s.regs ∧ u.sent = s.sent := by
  have hgrp (o : Bool) : ((s.upTo t).bufferSeen c m o).grp c m = { s.grp c m with bufOut := o } := State.grp_updGrp_self ..
  have hexec : exec (.referenceBufferFault t c m (some b)) s = .next (s.after t
      (if b + 20 * us < max s.now t then ((s.upTo t).bufferSeen c m true).groupFault c m
        else (s.upTo t).bufferSeen c m true)) := rfl
  have hfault : b + 20 * us < max s.now t → exec (.referenceBufferFault t c m (some b)) s =
      .next (s.after t (((s.upTo t).bufferSeen c m true).groupFault c m)) := fun h => by rw [hexec, if_pos h]
  have hseen : max s.now t ≤ b + 20 * us → exec (.referenceBufferFault t c m (some b)) s =
      .next (s.after t ((s.upTo t).bufferSeen c m true)) := fun h => by rw [hexec, if_neg (Nat.not_lt.2 h)]
  refine ⟨fun h => ⟨_, hfault h, ?_, ?_, fun i hi => State.groupFault_bit _ c hi, State.groupFault_sent ..⟩,
    fun h => ⟨_, hseen h, ?_, ?_, rfl, rfl⟩, ⟨(s.upTo t).bufferSeen c m false, rfl, ?_, ?_, rfl, rfl⟩⟩
  · rw [State.groupFault_grp, hgrp]
  · rw [State.groupFault_grp]
  all_goals rw [hgrp]

end

-- the diagnostic converters (R141, R142)

section
variable {s : State} {t : Nat} {c : Ch} {k : Fin 2} {x : Int} {i : Nat}

theorem nextSource_lt {mask : Int} {j : Nat} (h : nextSource mask j = some i) : i < 7 := by
  have := List.mem_of_find?_eq_some h
  simp only [List.mem_map] at this
  omega

/-- The running scan step, or injected conversion, starts over (R141, R142). -/
def State.rescan (s : State) (c : Ch) (k : Nat) : State := s.updDiag c k fun x => { x with since := s.now }

/-- The result of a scan step: the code of source `i` to the register and to its own object, and the scan moves on (R141). -/
def State.scanResult (s : State) (c : Ch) (k i : Nat) (code : Int) : State :=
  let u := s.deliverCode c (18 + k) code false
  ((u.setC c (Obj.diagSrcCode c k i) (s.takenCode c (18 + k) code)).updDiag c k fun x =>
    { x with src := (nextSource (s.g c (Obj.diagScanMask c k)) (i + 1)).getD i }).checkHealth

/-- The result of an injected conversion: to the register, marked, and to its own object; the scan goes on (R142). -/
def State.injResult (s : State) (c : Ch) (k : Nat) (code : Int) : State :=
  let u := (s.deliverCode c (18 + k) code true).setC c (Obj.diagInjCode c k) (s.takenCode c (18 + k) code)
  (u.updDiag c k fun x => { x with inj := none, since := u.now }).setC c (Obj.diagInjState c k) 2

theorem exec_diagScanStep (hsrc : nextSource (s.g c (Obj.diagScanMask c k)) (s.diag c k).src = some i)
    (hon : s.cvOn c (18 + k.val) = true) (halive : s.arch.alive.get c = true) (hinj : (s.diag c k).inj = none)
    (hscan : (s.upTo t).scanned c k = true) (hcal : ∀ b, (s.conv c (18 + k.val)).cal ≠ .ended b) :
    exec (.diagScanStep t c k x) s = .next (s.after t (if s.calHolds c (18 + k.val) then (s.upTo t).rescan c k
      else ((s.upTo t).rescan c k).scanResult c k i (s.filterCode c (18 + k.val) (sourceNv i x)))) := by
  have hsrc' : nextSource ((s.upTo t).g c (Obj.diagScanMask c k)) ((s.upTo t).diag c k).src = some i := hsrc
  have hinj' : ((s.upTo t).diag c k).inj = none := hinj
  have hon' : (s.upTo t).cvOn c (18 + k.val) = true := hon
  have halive' : (s.upTo t).arch.alive.get c = true := halive
  show execDiagScanStep t c k x s = _
  unfold execDiagScanStep
  refine State.run_of_eq ?_
  simp only [hsrc', hinj', hon', halive', hscan, State.endCal_none (s.upTo t) c (18 + k.val) _ hcal, State.judgeFilter_code]
  rfl

theorem Obj.diagnosis_apart (hi : i < 7) : (Obj.cvResult c (18 + k)).key ≠ (Obj.diagSrcCode c k i).key ∧
    (Obj.cvStatus c (18 + k)).key ≠ (Obj.diagSrcCode c k i).key ∧ (Obj.cvResult c (18 + k)).key ≠ (Obj.diagInjCode c k).key ∧
    (Obj.cvStatus c (18 + k)).key ≠ (Obj.diagInjCode c k).key ∧ (Obj.cvResult c (18 + k)).key ≠ (Obj.diagInjState c k).key ∧
    (Obj.cvStatus c (18 + k)).key ≠ (Obj.diagInjState c k).key ∧ (Obj.diagInjCode c k).key ≠ (Obj.diagInjState c k).key := by
  simp only [Obj.cvResult, Obj.cvStatus, Obj.diagSrcCode, Obj.diagInjCode, Obj.diagInjState]
  omega

/-- What a delivered code leaves in the register of a converter (R133). -/
theorem State.deliverCode_register (n : Nat) (code : Int) (inj : Bool) :
    (s.deliverCode c n code inj).g c (Obj.cvResult c n) = s.takenCode c n code ∧
      (s.deliverCode c n code inj).isBitC c (Obj.cvStatus c n) cvInj = inj ∧
      (s.deliverCode c n code inj).isBitC c (Obj.cvStatus c n) cvNew = true :=
  ⟨State.writeResult_code .., State.writeResult_marks ..⟩

theorem State.scanResult_codes (hi : i < 7) (code : Int) :
    (s.scanResult c k i code).g c (Obj.cvResult c (18 + k.val)) = s.takenCode c (18 + k.val) code ∧
      (s.scanResult c k i code).g c (Obj.diagSrcCode c k i) = s.takenCode c (18 + k.val) code ∧
      (s.scanResult c k i code).isBitC c (Obj.cvStatus c (18 + k.val)) cvInj = false ∧
      (s.scanResult c k i code).isBitC c (Obj.cvStatus c (18 + k.val)) cvNew = true := by
  obtain ⟨hcode, hinj, hnew⟩ := State.deliverCode_register (s := s) (c := c) (18 + k.val) code false
  obtain ⟨hresult, hstatus, -⟩ := Obj.diagnosis_apart (c := c) (k := k) hi
  have hregs : (s.scanResult c k i code).regs = ((s.deliverCode c (18 + k.val) code false).setC c (Obj.diagSrcCode c k i)
      (s.takenCode c (18 + k.val) code)).regs := by
    unfold State.scanResult
    rw [State.checkHealth_regs, State.updDiag_regs]
  refine ⟨?_, ?_, ?_, ?_⟩
  · rw [State.g_congr hregs, State.g_setC_key _ _ _ _ hresult, hcode]
  · rw [State.g_congr hregs, State.g_setC_self]
  · rw [State.isBitC_congr hregs, State.isBitC_setC_key _ _ _ _ _ hstatus, hinj]
  · rw [State.isBitC_congr hregs, State.isBitC_setC_key _ _ _ _ _ hstatus, hnew]

theorem State.scanResult_diag (code : Int) : (s.scanResult c k i code).diag c k =
    { s.diag c k with src := (nextSource (s.g c (Obj.diagScanMask c k)) (i + 1)).getD i } := by
  unfold State.scanResult
  dsimp only
  rw [State.diag_congr (State.checkHealth_diags _), State.diag_updDiag_self, State.diag_congr (State.setC_diags ..),
    State.diag_congr (State.deliverCode_diags ..)]

/-- A scan step that is over delivers the code of its source, and the next source of the mask follows (R141). -/
theorem diagScanStep_delivers (hsrc : nextSource (s.g c (Obj.diagScanMask c k)) (s.diag c k).src = some i)
    (hon : s.cvOn c (18 + k.val) = true) (halive : s.arch.alive.get c = true) (hinj : (s.diag c k).inj = none)
    (hscan : (s.upTo t).scanned c k = true) (hcal : (s.conv c (18 + k.val)).cal = .idle) :
    ∃ u, exec (.diagScanStep t c k x) s = .next (s.after t u) ∧
      u.g c (Obj.cvResult c (18 + k.val)) = s.takenCode c (18 + k.val) (s.filterCode c (18 + k.val) (sourceNv i x)) ∧
      u.g c (Obj.diagSrcCode c k i) = s.takenCode c (18 + k.val) (s.filterCode c (18 + k.val) (sourceNv i x)) ∧
      u.isBitC c (Obj.cvStatus c (18 + k.val)) cvInj = false ∧ u.isBitC c (Obj.cvStatus c (18 + k.val)) cvNew = true ∧
      (u.diag c k).src = (nextSource (s.g c (Obj.diagScanMask c k)) (i + 1)).getD i ∧ (u.diag c k).since = max s.now t := by
  have hexec := exec_diagScanStep (x := x) hsrc hon halive hinj hscan fun b => by rw [hcal]; exact CalPhase.noConfusion
  rw [if_neg (by simp [State.calHolds, hcal])] at hexec
  obtain ⟨hresult, hcode, hinj, hnew⟩ := State.scanResult_codes (s := (s.upTo t).rescan c k) (c := c) (k := k) (nextSource_lt hsrc)
    (s.filterCode c (18 + k.val) (sourceNv i x))
  have hdiag : ((s.upTo t).rescan c k).diag c k = { s.diag c k with since := max s.now t } := State.diag_updDiag_self ..
  refine ⟨_, hexec, hresult, hcode, hinj, hnew, ?_, ?_⟩
  · rw [State.scanResult_diag]
    rfl
  · rw [State.scanResult_diag, hdiag]

/-- A calibration that waits or runs holds the register: the step begins anew and no object changes (R141, R144). -/
theorem diagScanStep_held (hsrc : nextSource (s.g c (Obj.diagScanMask c k)) (s.diag c k).src = some i)
    (hon : s.cvOn c (18 + k.val) = true) (halive : s.arch.alive.get c = true) (hinj : (s.diag c k).inj = none)
    (hscan : (s.upTo t).scanned c k = true) (hcal : (s.conv c (18 + k.val)).cal ≠ .idle)
    (hended : ∀ b, (s.conv c (18 + k.val)).cal ≠ .ended b) :
    ∃ u, exec (.diagScanStep t c k x) s = .next (s.after t u) ∧ u.regs = s.regs ∧ (u.diag c k).since = max s.now t := by
  have hexec := exec_diagScanStep (x := x) hsrc hon halive hinj hscan hended
  rw [if_pos (by simp [State.calHolds, hcal])] at hexec
  exact ⟨_, hexec, rfl, congrArg Diag.since (State.diag_updDiag_self ..)⟩

theorem diagScanStep_idle (h : nextSource (s.g c (Obj.diagScanMask c k)) (s.diag c k).src = none ∨ (s.diag c k).inj ≠ none ∨
    s.cvOn c (18 + k.val) = false ∨ (s.upTo t).scanned c k = false) :
    exec (.diagScanStep t c k x) s = .next (s.after t (s.upTo t)) := by
  show execDiagScanStep t c k x s = _
  unfold execDiagScanStep
  refine State.run_of_eq ?_
  dsimp only
  split
  · rfl
  · next i hsrc =>
    refine if_pos ?_
    rcases h with h | h | h | h
    · exact absurd (hsrc.symm.trans h) (by simp)
    · simp [Option.isSome_iff_ne_none.2 h]
    · have h' : (s.upTo t).cvOn c (18 + k.val) = false := h
      simp [h']
    · simp [h]

-- an injected conversion (R142, R145)

theorem exec_injectedConversionDone (hinj : (s.diag c k).inj = some i) (hon : s.cvOn c (18 + k.val) = true)
    (hcal : ∀ b q, (s.conv c (18 + k.val)).cal ≠ .running b q) (hscan : (s.upTo t).scanned c k = true) :
    ∃ start, exec (.injectedConversionDone t c k x) s = .next (s.after t (((s.upTo t).endCal c (18 + k.val) start).injResult c k
      (s.filterCode c (18 + k.val) (sourceNv i x)))) := by
  have hinj' : ((s.upTo t).diag c k).inj = some i := hinj
  have hon' : (s.upTo t).cvOn c (18 + k.val) = true := hon
  refine ⟨max s.now t - (s.upTo t).cvWindow c (18 + k.val), ?_⟩
  show execInjectedConversionDone t c k x s = _
  unfold execInjectedConversionDone
  refine State.run_of_eq ?_
  simp only [hinj', hon', hscan, (State.endCal_codes _ c (18 + k.val) _ _ 0).1, State.judgeFilter_code]
  split
  · next h => exact absurd h (hcal _ _)
  · rfl

theorem State.injResult_codes (code : Int) :
    (s.injResult c k code).g c (Obj.cvResult c (18 + k.val)) = s.takenCode c (18 + k.val) code ∧
      (s.injResult c k code).g c (Obj.diagInjCode c k) = s.takenCode c (18 + k.val) code ∧
      (s.injResult c k code).isBitC c (Obj.cvStatus c (18 + k.val)) cvInj = true ∧
      (s.injResult c k code).g c (Obj.diagInjState c k) = 2 := by
  obtain ⟨hcode, hinj, -⟩ := State.deliverCode_register (s := s) (c := c) (18 + k.val) code true
  obtain ⟨-, -, hresult, hstatus, hresult', hstatus', hstate⟩ := Obj.diagnosis_apart (c := c) (k := k) (i := 0) (by decide)
  unfold State.injResult
  refine ⟨?_, ?_, ?_, State.g_setC_self ..⟩
  · rw [State.g_setC_key _ _ _ _ hresult', State.g_congr (State.updDiag_regs ..), State.g_setC_key _ _ _ _ hresult, hcode]
  · rw [State.g_setC_key _ _ _ _ hstate, State.g_congr (State.updDiag_regs ..), State.g_setC_self]
  · rw [State.isBitC_setC_key _ _ _ _ _ hstatus', State.isBitC_congr (State.updDiag_regs ..),
      State.isBitC_setC_key _ _ _ _ _ hstatus, hinj]

theorem State.injResult_diag (code : Int) : ((s.injResult c k code).diag c k).inj = none ∧
    ((s.injResult c k code).diag c k).src = (s.diag c k).src := by
  unfold State.injResult
  dsimp only
  rw [State.diag_congr (State.setC_diags ..), State.diag_updDiag_self, State.diag_congr (State.setC_diags ..),
    State.diag_congr (State.deliverCode_diags ..)]
  exact ⟨rfl, rfl⟩

/-- An injected conversion delivers the code of its source, marked, and leaves the scan at its source (R142). -/
theorem injectedConversionDone_delivers (hinj : (s.diag c k).inj = some i) (hon : s.cvOn c (18 + k.val) = true)
    (hcal : ∀ b q, (s.conv c (18 + k.val)).cal ≠ .running b q) (hscan : (s.upTo t).scanned c k = true) :
    ∃ u, exec (.injectedConversionDone t c k x) s = .next (s.after t u) ∧
      u.g c (Obj.cvResult c (18 + k.val)) = s.takenCode c (18 + k.val) (s.filterCode c (18 + k.val) (sourceNv i x)) ∧
      u.g c (Obj.diagInjCode c k) = s.takenCode c (18 + k.val) (s.filterCode c (18 + k.val) (sourceNv i x)) ∧
      u.isBitC c (Obj.cvStatus c (18 + k.val)) cvInj = true ∧ u.g c (Obj.diagInjState c k) = 2 ∧ (u.diag c k).inj = none ∧
      (u.diag c k).src = (s.diag c k).src := by
  obtain ⟨start, hexec⟩ := exec_injectedConversionDone (x := x) hinj hon hcal hscan
  have htaken := (State.endCal_codes (s.upTo t) c (18 + k.val) start 0 (s.filterCode c (18 + k.val) (sourceNv i x))).2
  obtain ⟨hresult, hcode, hmark, hstate⟩ := State.injResult_codes (s := (s.upTo t).endCal c (18 + k.val) start) (c := c) (k := k)
    (s.filterCode c (18 + k.val) (sourceNv i x))
  obtain ⟨hdone, hsrc⟩ := State.injResult_diag (s := (s.upTo t).endCal c (18 + k.val) start) (c := c) (k := k)
    (s.filterCode c (18 + k.val) (sourceNv i x))
  refine ⟨_, hexec, hresult.trans htaken, hcode.trans htaken, hmark, hstate, hdone, hsrc.trans ?_⟩
  rw [State.diag_congr (State.endCal_diags ..)]
  rfl

theorem injectedConversionDone_idle (h : (s.diag c k).inj = none ∨ (∃ b q, (s.conv c (18 + k.val)).cal = .running b q) ∨
    s.cvOn c (18 + k.val) = false ∨ (s.upTo t).scanned c k = false) :
    exec (.injectedConversionDone t c k x) s = .next (s.after t (s.upTo t)) := by
  show execInjectedConversionDone t c k x s = _
  unfold execInjectedConversionDone
  refine State.run_of_eq ?_
  dsimp only
  split
  · rfl
  · next i hinj =>
    refine if_pos ?_
    rcases h with h | ⟨b, q, h⟩ | h | h
    · exact absurd (hinj.symm.trans h) (by simp)
    · simp [h]
    · have h' : (s.upTo t).cvOn c (18 + k.val) = false := h
      simp [h']
    · simp [h]

end

/-- Settles O29: each instant by its own rule; the codes of the diagnostic converters are those of `State.judgeFilter_code`. -/
theorem overrangeSettlingAndDiagnostics : Obligations.OverrangeSettlingAndDiagnostics :=
  ⟨⟨fun t c n pos s => overrangeOnset_marks s t c n pos,
    fun t c n s => ⟨overrangeClear_settles s t c n, overrangeClear_stays s t c n, fun h =>
      State.run_of_eq (if_neg (by rw [State.conv_congr (State.upTo_convs s t), h]; exact Bool.false_ne_true))⟩,
    fun t c n s => ⟨settlingEnd_clears s t c n, settlingEnd_idle s t c n⟩,
    fun t c m b s => referenceBufferFault_judges s t c m b⟩,
    fun _ _ _ _ _ _ hsrc hon halive hinj hscan => ⟨diagScanStep_delivers hsrc hon halive hinj hscan,
      diagScanStep_held hsrc hon halive hinj hscan⟩,
    fun _ _ _ _ _ => diagScanStep_idle, fun _ _ _ _ _ _ => injectedConversionDone_delivers,
    fun _ _ _ _ _ => injectedConversionDone_idle⟩

end Sys2Proof.Machine
end

section
/-! ## Calibration (O30) -/

namespace Sys2Proof.Machine

section
variable {s : State} {t : Nat} {c : Ch} {n : Fin 20}

-- the start (R144, R146, R147)

/-- A converter that is skipped is idle and no longer pending, and CAL_SKIP_MAP tells of it (R146, R147). -/
theorem State.skipCal_marks (s : State) (c : Ch) (n : Fin 20) : ((s.skipCal c n).conv c n).cal = .idle ∧
    (s.skipCal c n).isBitC c (Obj.cvStatus c n) cvCal = false ∧ bit ((s.skipCal c n).g c (Obj.calPending c)) n = false ∧
    bit ((s.skipCal c n).g c (Obj.calSkipMap c)) n = true := by
  obtain ⟨hpending, hskip, -⟩ := Obj.calibration_sensing c
  obtain ⟨hstatus, -⟩ := Obj.converter_sensing c n (by omega)
  have hstatus_pending : (Obj.cvStatus c n).key ≠ (Obj.calPending c).key := by
    simp only [Obj.cvStatus, Obj.calPending]; omega
  have hstatus_skip : (Obj.cvStatus c n).key ≠ (Obj.calSkipMap c).key := by
    simp only [Obj.cvStatus, Obj.calSkipMap]; omega
  have hpending_skip : (Obj.calPending c).key ≠ (Obj.calSkipMap c).key := by
    simp only [Obj.calPending, Obj.calSkipMap]; omega
  refine ⟨State.skipCal_cal .., ?_, ?_, ?_⟩
  · rw [State.isBitC, State.skipCal_g _ _ _ hstatus, State.g_bitC_key _ _ _ _ _ hstatus_skip,
      State.g_bitC_key _ _ _ _ _ hstatus_pending]
    exact State.isBitC_bitC_self ..
  · rw [State.skipCal_g _ _ _ hpending, State.g_bitC_key _ _ _ _ _ hpending_skip]
    exact State.isBitC_bitC_self ..
  · rw [State.skipCal_g _ _ _ hskip]
    exact State.isBitC_bitC_self ..

/-- The turn of converter `n`: what its phase and its group's state make of it (R144 to R147). -/
def State.calBegin (s : State) (c : Ch) (n : Nat) : State :=
  match (s.conv c n).cal with
  | .startup => if s.grpBusy c n then s.skipCal c n else s.updConv c n fun x => { x with cal := .running s.now true }
  | .waiting _ => if s.grpBusy c n then s.waitForGroup c n else s.updConv c n fun x => { x with cal := .running s.now false }
  | _ => s

/-- What CALIBRATION_START does, by its conditions (R144 to R147). -/
theorem exec_calibrationStart : exec (.calibrationStart t c n) s = .next (s.after t (
    if !s.calTurn c n then s.upTo t
    else if !s.cvOn c n then (s.upTo t).skipCal c n
    else if 18 ≤ n.val && (s.diag c (n.val - 18)).inj.isSome then s.upTo t
    else (s.upTo t).calBegin c n)) := rfl

theorem calibrationStart_off (hturn : s.calTurn c n = true) (hon : s.cvOn c n = false) :
    exec (.calibrationStart t c n) s = .next (s.after t ((s.upTo t).skipCal c n)) := by
  rw [exec_calibrationStart, hturn, hon]
  rfl

theorem calibrationStart_begins (hturn : s.calTurn c n = true) (hon : s.cvOn c n = true)
    (hinj : n.val < 18 ∨ (s.diag c (n.val - 18)).inj = none) :
    exec (.calibrationStart t c n) s = .next (s.after t ((s.upTo t).calBegin c n)) := by
  have hfree : (decide (18 ≤ n.val) && (s.diag c (n.val - 18)).inj.isSome) = false := by
    rcases hinj with h | h
    · rw [decide_eq_false (Nat.not_le.2 h), Bool.false_and]
    · rw [h, Option.isSome_none, Bool.and_false]
  rw [exec_calibrationStart, hturn, hon, hfree]
  rfl

/-- The phase of a converter that begins to calibrate, or to wait. -/
theorem State.updConv_cal (s : State) (c : Ch) (n : Nat) (p : CalPhase) :
    ((s.updConv c n fun x => { x with cal := p }).conv c n).cal = p ∧ (s.updConv c n fun x => { x with cal := p }).regs = s.regs :=
  ⟨congrArg Conv.cal (State.conv_updConv_self ..), rfl⟩

/-- In an undisturbed group a selected converter calibrates from its turn on (R144). -/
theorem State.calBegin_runs (hbusy : s.grpBusy c n = false) :
    (∀ b, (s.conv c n).cal = .waiting b →
      ((s.calBegin c n).conv c n).cal = .running s.now false ∧ (s.calBegin c n).regs = s.regs) ∧
    ((s.conv c n).cal = .startup → ((s.calBegin c n).conv c n).cal = .running s.now true ∧ (s.calBegin c n).regs = s.regs) := by
  unfold State.calBegin
  refine ⟨fun b hcal => ?_, fun hcal => ?_⟩
  all_goals
    simp only [hcal, hbusy, Bool.false_eq_true, if_false]
    exact State.updConv_cal ..

/-- In a disturbed group a requested calibration waits, from its turn on and no second time, and one of start-up is skipped
(R146, R147). -/
theorem State.calBegin_busy (hbusy : s.grpBusy c n = true) :
    ((s.conv c n).cal = .waiting none →
      ((s.calBegin c n).conv c n).cal = .waiting (some s.now) ∧ (s.calBegin c n).regs = s.regs) ∧
    (∀ b, (s.conv c n).cal = .waiting (some b) → s.calBegin c n = s) ∧
    ((s.conv c n).cal = .startup → s.calBegin c n = s.skipCal c n) := by
  unfold State.calBegin
  refine ⟨fun hcal => ?_, fun b hcal => ?_, fun hcal => ?_⟩
  all_goals simp only [hcal, hbusy, if_true, State.waitForGroup]
  exact State.updConv_cal ..

theorem calibrationStart_skips (hturn : s.calTurn c n = true) (h : s.cvOn c n = false ∨
    ((n.val < 18 ∨ (s.diag c (n.val - 18)).inj = none) ∧ s.grpBusy c n = true ∧ (s.conv c n).cal = .startup)) :
    exec (.calibrationStart t c n) s = .next (s.after t ((s.upTo t).skipCal c n)) := by
  cases hon : s.cvOn c n with
  | false => exact calibrationStart_off hturn hon
  | true =>
    obtain ⟨hinj, hbusy, hcal⟩ := h.resolve_left (by simp [hon])
    obtain ⟨-, -, hskip⟩ := State.calBegin_busy (s := s.upTo t) (c := c) (n := n) hbusy
    rw [calibrationStart_begins hturn hon hinj, hskip hcal]

theorem calibrationStart_injecting (hturn : s.calTurn c n = true) (hon : s.cvOn c n = true) (hn : 18 ≤ n.val)
    (hinj : (s.diag c (n.val - 18)).inj ≠ none) : exec (.calibrationStart t c n) s = .next (s.after t (s.upTo t)) := by
  rw [exec_calibrationStart, hturn, hon, decide_eq_true hn, Option.isSome_iff_ne_none.2 hinj]
  rfl

theorem calibrationStart_idle (hturn : s.calTurn c n = false) :
    exec (.calibrationStart t c n) s = .next (s.after t (s.upTo t)) := by
  rw [exec_calibrationStart, hturn]
  rfl

-- the end (R143, R144)

/-- A calibration has ended, with the buffer as found: it is no longer pending, nor skipped (R143, R144). -/
def State.calEnd (s : State) (c : Ch) (n : Nat) (ok : Bool) : State :=
  let s := s.updConv c n fun x => { x with cal := .ended s.now, calibrated := true }
  let s := s.updGrp c (n / 4) fun g => { g with bufOut := !ok }
  let s := if 18 ≤ n then s.updDiag c (n - 18) fun x => { x with since := s.now } else s
  ((s.bitC c (Obj.calPending c) n false).bitC c (Obj.calSkipMap c) n false).setC c (Obj.calLastTime c) s.now

/-- Results within the limits are taken (R143). -/
def State.calTake (s : State) (c : Ch) (n : Nat) (x y : Int) (ok : Bool) : State :=
  let s := ((s.setC c (Obj.calOffset c n) x).setC c (Obj.calGain c n) y).bitC c (Obj.calFailMap c) n false
  if ok then s.calGood c n else s

/-- Results outside the limits are a fault of the group (R143, R139). -/
def State.calFail (s : State) (c : Ch) (n : Nat) : State := (s.bitC c (Obj.calFailMap c) n true).groupFault c (n / 4)

theorem exec_calibrationDone {x y : Int} {ok q : Bool} {b : Nat} (hcal : (s.conv c n).cal = .running b q) :
    exec (.calibrationDone t c n x y ok) s = .next (s.after t (if max s.now t < b + 40 * us then s.upTo t else
      (if calPasses x y then ((s.upTo t).calEnd c n ok).calTake c n x y ok
        else ((s.upTo t).calEnd c n ok).calFail c n).endSeeding)) := by
  have hcal' : ((s.upTo t).conv c n).cal = .running b q := hcal
  show execCalibrationDone t c n x y ok s = _
  unfold execCalibrationDone
  refine State.run_of_eq ?_
  simp only [hcal']
  rfl

variable {x y : Int} {ok q : Bool} {b : Nat}

theorem State.calEnd_conv (s : State) (c : Ch) (n : Nat) (ok : Bool) : ((s.calEnd c n ok).conv c n).cal = .ended s.now := by
  refine Eq.trans ?_ (congrArg Conv.cal (State.conv_updConv_self s c n fun x => { x with cal := .ended s.now, calibrated := true }))
  unfold State.calEnd
  split <;> rfl

theorem State.calEnd_grp (s : State) (c : Ch) (n : Nat) (ok : Bool) :
    (s.calEnd c n ok).grp c (n / 4) = { s.grp c (n / 4) with bufOut := !ok } := by
  refine Eq.trans ?_ (State.grp_updGrp_self s c (n / 4) fun g => { g with bufOut := !ok })
  unfold State.calEnd
  split <;> rfl

theorem State.calEnd_g (s : State) (c : Ch) (n : Nat) (ok : Bool) (o : Obj) : (s.calEnd c n ok).g c o =
    (((s.bitC c (Obj.calPending c) n false).bitC c (Obj.calSkipMap c) n false).setC c (Obj.calLastTime c) s.now).g c o := by
  unfold State.calEnd
  split <;> rfl

theorem State.calTake_convs : (s.calTake c n x y ok).convs = s.convs := by
  unfold State.calTake
  split
  · exact State.calGood_convs ..
  · rfl

/-- A member that has calibrated, with the buffer within its tolerance, counts for its group (R139). -/
theorem State.calTake_grp : ((s.calTake c n x y ok).grp c (n.val / 4)).bufOut = (s.grp c (n.val / 4)).bufOut ∧
    (ok = true → (s.grp c (n.val / 4)).grpf = true →
      (withBit ((s.grp c (n.val / 4)).calOk : Int) (n.val % 4) true).toNat = 15 →
      ((s.calTake c n x y ok).grp c (n.val / 4)).grpf = false) := by
  unfold State.calTake
  cases ok with
  | true =>
    obtain ⟨hbuf, hclear⟩ := State.calGood_grp (((s.setC c (Obj.calOffset c n) x).setC c (Obj.calGain c n) y).bitC c
      (Obj.calFailMap c) n false) c n
    exact ⟨hbuf, fun _ => hclear⟩
  | false => exact ⟨rfl, fun h => absurd h Bool.false_ne_true⟩

theorem State.calTake_g {o : Obj} (ho : o.offStatus c) : (s.calTake c n x y ok).g c o =
    (((s.setC c (Obj.calOffset c n) x).setC c (Obj.calGain c n) y).bitC c (Obj.calFailMap c) n false).g c o := by
  unfold State.calTake
  split
  · exact State.calGood_g _ _ _ (by omega) ho
  · rfl

theorem State.calFail_g {o : Obj} (ho : o.offStatus c) :
    (s.calFail c n).g c o = (s.bitC c (Obj.calFailMap c) n true).g c o := State.groupFault_g _ _ (by omega) ho

/-- The objects that a calibration writes, in this order, are different ones (R149, R153). -/
theorem Obj.calibration_apart (c : Ch) (n : Fin 20) :
    [(Obj.calPending c).key, (Obj.calSkipMap c).key, (Obj.calLastTime c).key, (Obj.calOffset c n).key, (Obj.calGain c n).key,
      (Obj.calFailMap c).key].Nodup := by
  simp only [List.nodup_cons, List.mem_cons, not_or, List.not_mem_nil, not_false_eq_true, and_true, List.nodup_nil,
    Obj.calOffset, Obj.calGain, Obj.calPending, Obj.calFailMap, Obj.calSkipMap, Obj.calLastTime]
  omega

/-- The trims are none of the objects that a failed calibration writes (R143). -/
theorem Obj.trims_apart (c : Ch) (n : Fin 20) :
    (Obj.calOffset c n).key ∉ [(Obj.calPending c).key, (Obj.calSkipMap c).key, (Obj.calLastTime c).key, (Obj.calFailMap c).key] ∧
      (Obj.calGain c n).key ∉ [(Obj.calPending c).key, (Obj.calSkipMap c).key, (Obj.calLastTime c).key, (Obj.calFailMap c).key] := by
  simp only [List.mem_cons, not_or, List.not_mem_nil, not_false_eq_true, and_true,
    Obj.calOffset, Obj.calGain, Obj.calPending, Obj.calFailMap, Obj.calSkipMap, Obj.calLastTime]
  omega

/-- What a passed calibration leaves of its objects (R143). -/
theorem State.calTake_values (s : State) (c : Ch) (n : Fin 20) (x y : Int) (ok : Bool) {u : State}
    (hu : u = (s.calEnd c n ok).calTake c n x y ok) :
    u.g c (Obj.calOffset c n) = x ∧ u.g c (Obj.calGain c n) = y ∧ bit (u.g c (Obj.calFailMap c)) n = false ∧
      bit (u.g c (Obj.calPending c)) n = false ∧ bit (u.g c (Obj.calSkipMap c)) n = false ∧
      u.g c (Obj.calLastTime c) = (s.now : Nat) := by
  have hkeys := Obj.calibration_apart c n
  obtain ⟨hpending, hskip, hfail, htime, htrims⟩ := Obj.calibration_offStatus c
  obtain ⟨hoffset, hgain⟩ := htrims n
  simp only [List.nodup_cons, List.mem_cons, not_or, List.not_mem_nil, not_false_eq_true, and_true] at hkeys
  rw [hu, State.calTake_g hpending, State.calTake_g hskip, State.calTake_g hfail, State.calTake_g htime, State.calTake_g hoffset,
    State.calTake_g hgain]
  simp only [State.bitC, State.g_setC_self, State.g_setC_key, State.calEnd_g, bit_withBit_self, ne_eq, hkeys,
    not_false_eq_true, and_self]

/-- What a failed calibration leaves of its objects: the offset and the gain stay (R143). -/
theorem State.calFail_values (s : State) (c : Ch) (n : Fin 20) (ok : Bool) {u : State} (hu : u = (s.calEnd c n ok).calFail c n) :
    u.g c (Obj.calOffset c n) = s.g c (Obj.calOffset c n) ∧ u.g c (Obj.calGain c n) = s.g c (Obj.calGain c n) ∧
      bit (u.g c (Obj.calFailMap c)) n = true ∧ bit (u.g c (Obj.calPending c)) n = false := by
  have hkeys := Obj.calibration_apart c n
  have hapart := Obj.trims_apart c n
  obtain ⟨hpending, -, hfail, -, htrims⟩ := Obj.calibration_offStatus c
  obtain ⟨hoffset, hgain⟩ := htrims n
  simp only [List.nodup_cons, List.mem_cons, not_or, List.not_mem_nil, not_false_eq_true, and_true] at hkeys hapart
  rw [hu, State.calFail_g hpending, State.calFail_g hfail, State.calFail_g hoffset, State.calFail_g hgain]
  simp only [State.bitC, State.g_setC_self, State.g_setC_key, State.calEnd_g, bit_withBit_self, ne_eq, hkeys, hapart,
    not_false_eq_true, and_self]

theorem calibrationDone_takes (hcal : (s.conv c n).cal = .running b q) (hb : b + 40 * us ≤ max s.now t)
    (hpass : calPasses x y = true) :
    ∃ u, exec (.calibrationDone t c n x y ok) s = .next (s.after t u) ∧ u.g c (Obj.calOffset c n) = x ∧
      u.g c (Obj.calGain c n) = y ∧ bit (u.g c (Obj.calFailMap c)) n = false ∧ bit (u.g c (Obj.calPending c)) n = false ∧
      bit (u.g c (Obj.calSkipMap c)) n = false ∧ u.g c (Obj.calLastTime c) = (max s.now t : Nat) ∧
      (u.grp c (n.val / 4)).bufOut = !ok ∧ (u.conv c n).cal = .ended (max s.now t) ∧
      (ok = true → (s.grp c (n.val / 4)).grpf = true → (withBit ((s.grp c (n.val / 4)).calOk : Int) (n.val % 4) true).toNat = 15 →
        (u.grp c (n.val / 4)).grpf = false) := by
  obtain ⟨hpending, hskip, hfail, htime⟩ := Obj.calibration_sensing c
  obtain ⟨-, -, hoffset, hgain⟩ := Obj.converter_sensing c n (by omega)
  obtain ⟨hbuf, hclear⟩ := State.calTake_grp (s := (s.upTo t).calEnd c n ok) (c := c) (n := n) (x := x) (y := y) (ok := ok)
  have hvalues := State.calTake_values (s.upTo t) c n x y ok rfl
  rw [State.calEnd_grp] at hbuf hclear
  refine ⟨(((s.upTo t).calEnd c n ok).calTake c n x y ok).endSeeding, ?_, ?_⟩
  · rw [exec_calibrationDone hcal, if_neg (Nat.not_lt.2 hb), if_pos hpass]
  · rw [State.endSeeding_g _ c hpending, State.endSeeding_g _ c hskip, State.endSeeding_g _ c hfail, State.endSeeding_g _ c htime,
      State.endSeeding_g _ c hoffset, State.endSeeding_g _ c hgain, State.grp_congr (State.endSeeding_sensing _).grps,
      State.conv_congr ((State.endSeeding_convs _).trans State.calTake_convs), State.calEnd_conv]
    obtain ⟨hx, hy, hpassed, hdone, htold, hlast⟩ := hvalues
    exact ⟨hx, hy, hpassed, hdone, htold, hlast, hbuf, rfl, hclear⟩

theorem calibrationDone_fails (hcal : (s.conv c n).cal = .running b q) (hb : b + 40 * us ≤ max s.now t)
    (hpass : calPasses x y = false) :
    ∃ u, exec (.calibrationDone t c n x y ok) s = .next (s.after t u) ∧
      u.g c (Obj.calOffset c n) = s.g c (Obj.calOffset c n) ∧ u.g c (Obj.calGain c n) = s.g c (Obj.calGain c n) ∧
      bit (u.g c (Obj.calFailMap c)) n = true ∧ bit (u.g c (Obj.calPending c)) n = false ∧
      (u.grp c (n.val / 4)).grpf = true ∧ (u.conv c n).cal = .ended (max s.now t) := by
  obtain ⟨hpending, -, hfail, -⟩ := Obj.calibration_sensing c
  obtain ⟨-, -, hoffset, hgain⟩ := Obj.converter_sensing c n (by omega)
  obtain ⟨hx, hy, hfailed, hdone⟩ := State.calFail_values (s.upTo t) c n ok rfl
  refine ⟨(((s.upTo t).calEnd c n ok).calFail c n).endSeeding, ?_, ?_⟩
  · rw [exec_calibrationDone hcal, if_neg (Nat.not_lt.2 hb), if_neg (by rw [hpass]; exact Bool.false_ne_true)]
  · rw [State.endSeeding_g _ c hpending, State.endSeeding_g _ c hfail, State.endSeeding_g _ c hoffset,
      State.endSeeding_g _ c hgain, State.grp_congr (State.endSeeding_sensing _).grps, State.conv_congr (State.endSeeding_convs _)]
    refine ⟨hx, hy, hfailed, hdone, by rw [State.calFail, State.groupFault_grp], ?_⟩
    rw [State.calFail, State.conv_congr (State.groupFault_convs ..)]
    exact State.calEnd_conv ..

theorem calibrationDone_early (hcal : (s.conv c n).cal = .running b q) (hb : max s.now t < b + 40 * us) :
    exec (.calibrationDone t c n x y ok) s = .next (s.after t (s.upTo t)) := by
  rw [exec_calibrationDone hcal, if_pos hb]

-- the wait for a disturbed group (R146)

theorem exec_calWaitTimeout (hcal : (s.conv c n).cal = .waiting (some b)) : exec (.calWaitTimeout t c n) s = .next (s.after t
    (if decide (b + 100 * ms < max s.now t) && s.grpBusy c n then (s.upTo t).skipCal c n else s.upTo t)) := by
  have hcal' : ((s.upTo t).conv c n).cal = .waiting (some b) := hcal
  show execCalWaitTimeout t c n s = _
  unfold execCalWaitTimeout
  refine State.run_of_eq ?_
  simp only [hcal']
  rfl

theorem calWaitTimeout_idle (hcal : (s.conv c n).cal = .waiting (some b))
    (h : max s.now t ≤ b + 100 * ms ∨ s.grpBusy c n = false) :
    exec (.calWaitTimeout t c n) s = .next (s.after t (s.upTo t)) := by
  rw [exec_calWaitTimeout hcal, if_neg]
  intro hand
  obtain ⟨hlate, hbusy⟩ := Bool.and_eq_true_iff.1 hand
  rcases h with h | h
  · exact absurd (of_decide_eq_true hlate) (Nat.not_lt.2 h)
  · exact absurd (hbusy.symm.trans h) (by decide)

end

/-- Settles O30: the turn by `State.calBegin`, the end by `State.calTake` and `State.calFail`, and the end of step 8 that may follow
leaves what they have written (`State.endSeeding_sensing`). -/
theorem calibrationRuns : Obligations.CalibrationRuns := by
  refine ⟨fun t c n s hturn => ⟨fun hon hinj => ?_, fun h => ⟨_, calibrationStart_skips hturn h, State.skipCal_marks ..⟩,
      fun hon hn hinj => calibrationStart_injecting hturn hon hn hinj⟩, fun t c n s hturn => calibrationStart_idle hturn,
    fun t c n x y ok b q s hcal => ⟨calibrationDone_takes hcal, calibrationDone_fails hcal, calibrationDone_early hcal⟩,
    fun t c n s => ⟨fun b hcal hlate hbusy => ⟨_, ?_, State.skipCal_marks (s.upTo t) c n⟩, fun b hcal => calWaitTimeout_idle hcal⟩⟩
  · have hexec := calibrationStart_begins (t := t) hturn hon hinj
    refine ⟨fun hbusy => ?_, fun hbusy => ?_⟩
    · obtain ⟨hwaiting, hstartup⟩ := State.calBegin_runs (s := s.upTo t) (c := c) (n := n) hbusy
      exact ⟨fun b hcal => ⟨_, hexec, hwaiting b hcal⟩, fun hcal => ⟨_, hexec, hstartup hcal⟩⟩
    · obtain ⟨hwaits, hwaited, -⟩ := State.calBegin_busy (s := s.upTo t) (c := c) (n := n) hbusy
      exact ⟨fun hcal => ⟨_, hexec, hwaits hcal⟩, fun b hcal => by rw [hexec, hwaited b hcal]⟩
  · rw [exec_calWaitTimeout hcal, decide_eq_true hlate, hbusy]
    rfl

end Sys2Proof.Machine
end

section
/-! ## Writes to the objects of sensing (O10) -/

namespace Sys2Proof.Machine

section
variable {s : State} {t : Nat} {cr : Carrier} {c : Ch} {v : Int}

/-- The roles whose writes act on converters and calibration, and hold no value (R136, R142, R146). -/
def sensingRoles : List Role := [.cvStatusClear, .diagInject, .calRequest]

/-- A row that writes such an object: the effect of its role, and the answer. -/
theorem State.row_senses {o : Obj} {r : Role} {j : Nat} {x : Instr} (hx : exec x s = s.run t fun s => s.hostSet cr o v)
    (h : s.sets t cr o v = true) (he : o.isEntry r c.num j 0 .wo .chan = true) (hr : r ∈ sensingRoles) (ho : o.sensing) :
    ∃ e q tag, (e.desc.role = r ∧ chOf e.i = c ∧ e.j = j) ∧
      exec x s = .next (s.after t (((s.heard t cr).writeNum cr e v).respond q 0 0 false [] (some tag))) ∧
      (((s.heard t cr).writeNum cr e v).respond q 0 0 false [] (some tag)).acks cr := by
  have hstore : o.key ≠ Obj.storeAll.key := fun hk => by
    rw [Obj.sensing, hk] at ho
    exact absurd ho (by decide)
  obtain ⟨e, q, tag, ⟨hrole, hi, hj, -, -, -, hacc, -⟩, hacks, hset⟩ :=
    State.sets_acts h he (fun h => absurd (h ▸ hr) (by decide)) hstore
  rw [← hrole] at hr
  have hplain : e.isRws = false ∧ e.command = none ∧ e.desc.role ≠ .restoreDefaults := by
    simp only [sensingRoles, List.mem_cons, List.not_mem_nil, or_false] at hr
    rcases hr with hr | hr | hr <;> simp [Entry.isRws, Entry.command, hacc, hr]
  obtain ⟨hrws, hcommand, hrestore⟩ := hplain
  rw [State.applyWrite_plain _ _ _ _ hrws hcommand hrestore] at hacks hset
  exact ⟨e, q, tag, ⟨hrole, by rw [hi, chOf_num], hj⟩, hx.trans (State.run_of_eq hset), hacks⟩

theorem Obj.written_sensing (c : Ch) : (∀ n : Fin 20, (Obj.cvStatusClear c n).sensing) ∧
    (∀ k : Fin 2, (Obj.diagInject c k).sensing ∧ (Obj.diagInjState c k).sensing) ∧ (Obj.calRequest c).sensing := by
  have hc := Ch.num_lt_three c
  simp only [Obj.sensing, Obj.cvStatusClear, Obj.diagInject, Obj.diagInjState, Obj.calRequest]
  exact ⟨fun n => by omega, fun k => by omega, by omega⟩

theorem Obj.sensing.unanswered {o : Obj} (h : o.sensing) : o.unanswered := by
  unfold Obj.sensing at h
  simp only [Obj.unanswered, Obj.fabNoRoute, Obj.fabRateDrops, Obj.kdpAbortsSent]
  omega

/-- An answer changes no bit of sensing. -/
theorem State.respond_sensing_bit (u : State) (q : KdpReq) (tag : Option Nat) {o : Obj} (ho : o.sensing) (n : Nat) :
    (u.respond q 0 0 false [] tag).isBitC c o n = u.isBitC c o n := by
  rw [State.isBitC, State.respond_g _ _ _ _ _ _ _ _ _ ho.unanswered, State.isBitC]

-- CV_STATUS_CLEAR (R136)

/-- OVRN clears with bit 2, and OVRG with bit 3 where no over-range is present (R136). -/
theorem State.clearCvStatus_bits (s : State) (c : Ch) (n : Nat) (v : Int) :
    (bit v 2 = true → (s.clearCvStatus c n v).isBitC c (Obj.cvStatus c n) cvOvrn = false) ∧
    (bit v 3 = true → (s.conv c n).ovr = false → (s.clearCvStatus c n v).isBitC c (Obj.cvStatus c n) cvOvrg = false) := by
  unfold State.clearCvStatus
  refine ⟨fun h2 => ?_, fun h3 hovr => ?_⟩
  · rw [if_pos h2]
    dsimp only
    split
    · rw [State.isBitC_bitC_ne _ _ _ _ (by decide), State.isBitC_bitC_self]
    · exact State.isBitC_bitC_self ..
  · have hconv (u : State) (hu : u.convs = s.convs) : (bit v 3 && !(u.conv c n).ovr) = true := by
      rw [State.conv_congr hu, h3, hovr]
      rfl
    dsimp only
    rw [if_pos (hconv _ (by split <;> rfl))]
    exact State.isBitC_bitC_self ..

-- CAL_REQUEST (R146)

theorem State.selectCal_cvOn (s : State) (c : Ch) {m n : Nat} (ph : CalPhase) (hn : n < 32) :
    (s.selectCal c m ph).cvOn c n = s.cvOn c n := by
  obtain ⟨-, henable, -⟩ := Obj.converter_sensing c n hn
  have hstatus : (Obj.cvEnable c n).key ≠ (Obj.cvStatus c m).key := by simp only [Obj.cvEnable, Obj.cvStatus]; omega
  have hpending : (Obj.cvEnable c n).key ≠ (Obj.calPending c).key := by simp only [Obj.cvEnable, Obj.calPending]; omega
  have hskip : (Obj.cvEnable c n).key ≠ (Obj.calSkipMap c).key := by simp only [Obj.cvEnable, Obj.calSkipMap]; omega
  unfold State.selectCal
  split
  · rfl
  · split
    · have hpower : (s.skipCal c m).power = s.power := State.endSeeding_power _
      rw [State.cvOn, State.skipCal_g _ _ _ henable, State.g_bitC_key _ _ _ _ _ hskip, State.g_bitC_key _ _ _ _ _ hpending,
        State.g_bitC_key _ _ _ _ _ hstatus, hpower, State.cvOn]
    · rw [State.cvOn, State.g_bitC_key _ _ _ _ _ hpending, State.g_bitC_key _ _ _ _ _ hstatus]
      rfl

/-- After the selection of converter `m` it is pending if it was or is on; the others are as they were (R146). -/
theorem State.selectCal_pending (s : State) (c : Ch) {m : Nat} (n : Nat) (ph : CalPhase) (hm : m < 32) :
    (s.selectCal c m ph).isBitC c (Obj.calPending c) n =
      if n = m then s.isBitC c (Obj.calPending c) m || s.cvOn c m else s.isBitC c (Obj.calPending c) n := by
  obtain ⟨hsensing, -⟩ := Obj.calibration_sensing c
  have hstatus : (Obj.calPending c).key ≠ (Obj.cvStatus c m).key := by simp only [Obj.calPending, Obj.cvStatus]; omega
  have hskip : (Obj.calPending c).key ≠ (Obj.calSkipMap c).key := by simp only [Obj.calPending, Obj.calSkipMap]; omega
  have hself (u : State) (b : Bool) : (u.bitC c (Obj.calPending c) m b).isBitC c (Obj.calPending c) n =
      if n = m then b else u.isBitC c (Obj.calPending c) n := by
    split
    · next h => rw [h, State.isBitC_bitC_self]
    · next h => exact State.isBitC_bitC_ne _ _ _ _ h
  unfold State.selectCal
  split
  · next h =>
    have hm : s.isBitC c (Obj.calPending c) m = true := h
    split
    · next hn => rw [hn, hm, Bool.true_or]
    · rfl
  · next h =>
    have hm : s.isBitC c (Obj.calPending c) m = false := Bool.not_eq_true _ ▸ h
    rw [hm, Bool.false_or]
    split
    · next hoff =>
      have hoff : s.cvOn c m = false := by simpa using hoff
      rw [State.isBitC, State.skipCal_g _ _ _ hsensing, State.g_bitC_key _ _ _ _ _ hskip, hoff]
      exact (hself _ false).trans (by rw [State.isBitC_bitC_key _ _ _ _ _ _ hstatus])
    · next hon =>
      have hon : s.cvOn c m = true := by simpa using hon
      rw [hself, hon, State.isBitC_bitC_key _ _ _ _ _ _ hstatus]
      rfl

/-- A request that is heard switches no converter. -/
theorem State.heard_cvOn (s : State) (t : Nat) (cr : Carrier) (c : Ch) (n : Nat) : (s.heard t cr).cvOn c n = s.cvOn c n := by
  have hio : (s.heard t cr).power.io = s.power.io := by
    unfold State.heard State.noteHeard
    split <;> rfl
  rw [State.cvOn, State.heard_g, hio, State.cvOn]

theorem mem_selected {n : Nat} : n ∈ (upto 20).filter (bit v) ↔ n < 20 ∧ bit v n = true := by
  rw [List.mem_filter, upto, List.mem_range]

/-- Every selected converter that is on is pending, and no other bit of CAL_PENDING changes (R146). -/
theorem State.requestCal_pending (s : State) (c : Ch) (v : Int) (n : Fin 20) :
    (bit v n = true → s.cvOn c n = true → (s.requestCal c v).isBitC c (Obj.calPending c) n = true) ∧
    (bit v n = false → (s.requestCal c v).isBitC c (Obj.calPending c) n = s.isBitC c (Obj.calPending c) n) := by
  have hlt {m : Nat} (hm : m ∈ (upto 20).filter (bit v)) : m < 32 := by
    have := (mem_selected.1 hm).1
    omega
  constructor
  · intro hbit hon
    refine forEach_establishes (f := fun s n => s.selectCal c n (.waiting none)) (I := fun u => u.cvOn c n = true)
      (P := fun u => u.isBitC c (Obj.calPending c) n = true) (fun u m _ hu => ?_) (fun u hu => ?_) (fun u m hm hne hu => ?_)
      (mem_selected.2 ⟨n.isLt, hbit⟩) hon
    · rwa [State.selectCal_cvOn _ _ _ (by omega)]
    · rw [State.selectCal_pending _ _ _ _ (by omega), if_pos rfl, hu, Bool.or_true]
    · rwa [State.selectCal_pending _ _ _ _ (hlt hm), if_neg hne.symm]
  · intro hbit
    refine forEach_eq_mem (fun u => u.isBitC c (Obj.calPending c) n) _ _ (fun u m hm => ?_) s
    rw [State.selectCal_pending _ _ _ _ (hlt hm), if_neg fun h => ?_]
    exact absurd (hbit.symm.trans (h ▸ (mem_selected.1 hm).2)) (by decide)

end

/-- Settles O10: a row that is taken has the effect of its role (`State.row_senses`), and its answer changes no object of sensing. -/
theorem sensingWritesAct : Obligations.SensingWritesAct := by
  refine ⟨fun t cr c n v s h => ?_, fun t cr c k v s h => ?_, fun t cr c v s h => ?_⟩
  · obtain ⟨hstatus, -⟩ := Obj.converter_sensing c n (by omega)
    obtain ⟨e, q, tag, ⟨hrole, hi, hj⟩, hexec, hacks⟩ := State.row_senses (x := .cvStatusClear t cr c n v) rfl h
      (entry_cvStatusClear c n) (by decide) ((Obj.written_sensing c).1 n)
    have hnum : (s.heard t cr).writeNum cr e v = (s.heard t cr).clearCvStatus c n v := by
      simp [State.writeNum, State.writeTaskObj, State.writeAxisObj, State.writeChanObj, hrole, hi, hj]
    obtain ⟨hovrn, hovrg⟩ := (s.heard t cr).clearCvStatus_bits c n v
    refine ⟨_, hexec, hacks, fun h2 => ?_, fun h3 hovr => ?_⟩
    · rw [State.respond_sensing_bit _ _ _ hstatus, hnum, hovrn h2]
    · rw [State.respond_sensing_bit _ _ _ hstatus, hnum, hovrg h3]
      rwa [State.conv_congr (State.heard_convs ..)]
  · obtain ⟨hinject, hstate⟩ := (Obj.written_sensing c).2.1 k
    obtain ⟨e, q, tag, ⟨hrole, hi, hj⟩, hexec, hacks⟩ := State.row_senses (x := .diagInject t cr c k v) rfl h
      (entry_diagInject c k) (by decide) hinject
    have hnum : (s.heard t cr).writeNum cr e v = (s.heard t cr).injectDiag c k v := by
      simp [State.writeNum, State.writeTaskObj, State.writeAxisObj, State.writeChanObj, hrole, hi, hj]
    refine ⟨_, hexec, hacks, ?_, ?_⟩
    · rw [State.diag_congr (State.respond_diags ..), hnum]
      exact congrArg Diag.inj (State.diag_updDiag_self ..)
    · rw [State.respond_g _ _ _ _ _ _ _ _ _ hstate.unanswered, hnum]
      exact State.g_setC_self ..
  · obtain ⟨hpending, -⟩ := Obj.calibration_sensing c
    obtain ⟨-, -, hrequest⟩ := Obj.written_sensing c
    obtain ⟨e, q, tag, ⟨hrole, hi, -⟩, hexec, hacks⟩ := State.row_senses (x := .calRequest t cr c v) rfl h
      (entry_calRequest c) (by decide) hrequest
    have hnum : (s.heard t cr).writeNum cr e v = (s.heard t cr).requestCal c v := by
      simp [State.writeNum, State.writeTaskObj, State.writeAxisObj, State.writeChanObj, hrole, hi]
    have hbits (n : Fin 20) := (s.heard t cr).requestCal_pending c v n
    refine ⟨_, hexec, hacks, fun n hbit hon => ?_, fun n hbit => ?_⟩
    · rw [State.respond_sensing_bit _ _ _ hpending, hnum, (hbits n).1 hbit ((State.heard_cvOn ..).trans hon)]
    · rw [State.respond_sensing_bit _ _ _ hpending, hnum, (hbits n).2 hbit, State.isBitC_congr (State.heard_regs ..)]

end Sys2Proof.Machine
end

section
/-! ## What follows every command is bounded (O8) -/

namespace Sys2Proof.Machine

/-- Settles O8, field by field: `State.follow` leaves the fields of `State.Same` and the copies of `State.SameRegs`, and raises
no permit. -/
theorem whatFollowsACommandIsBounded : Obligations.WhatFollowsACommandIsBounded := by
  intro s u t
  refine ⟨State.after_now .., fun c o h => State.after_g _ _ _ _ h, ?_, State.after_en_low s u t, State.after_arm_low s u t⟩
  exact ⟨State.after_tasks .., State.after_axes .., State.after_traces .., State.after_convs .., State.after_sports ..,
    State.after_sems .., State.after_ports .., State.after_kdp .., State.after_fab .., State.after_twin .., State.after_safe ..,
    State.after_power .., State.after_life .., State.after_sed .., State.after_place .., State.after_inV .., State.after_faulty ..⟩

end Sys2Proof.Machine
end

section
/-! ## RAW, POS and the counts of a feedback port (R159, R165, R174, R175) -/

namespace Sys2Proof.Machine

-- keys

/-- RAW, POS and the status of a source are three objects. -/
theorem Src.keys_apart (x : Src) :
    x.raw.key ≠ x.pos.key ∧ x.raw.key ≠ x.status.key ∧ x.pos.key ≠ x.status.key := by
  obtain ⟨kind, c, n⟩ := x
  cases kind <;>
    simp only [Src.raw, Src.pos, Src.status, Obj.fpRaw, Obj.fpPos, Obj.fpStatus, Obj.spRaw, Obj.spPos, Obj.spStatus, Obj.resRaw,
      Obj.resPos, Obj.resStatus] <;> omega

/-- Objects below those of the position sources: those of the device, the axes and the converters. -/
def Obj.belowSources (o : Obj) : Prop := o.key < 0x4800 * 256

theorem Obj.belowSources.apart {o : Obj} (h : o.belowSources) (x : Src) :
    o.key ≠ x.raw.key ∧ o.key ≠ x.pos.key ∧ o.key ≠ x.status.key := by
  obtain ⟨kind, c, n⟩ := x
  unfold Obj.belowSources at h
  cases kind <;>
    simp only [Src.raw, Src.pos, Src.status, Obj.fpRaw, Obj.fpPos, Obj.fpStatus, Obj.spRaw, Obj.spPos, Obj.spStatus, Obj.resRaw,
      Obj.resPos, Obj.resStatus] <;> omega

section
variable (s : State) {c d : Ch} {o p : Obj}

/-- A write leaves the copies of other channels, and those of other objects. -/
theorem State.g_setC_apart (v : Int) (h : d ≠ c ∨ p.key ≠ o.key) : (s.setC c o v).g d p = s.g d p :=
  h.elim (fun h => State.g_setC_chan _ _ _ _ h) fun h => State.g_setC_key _ _ _ _ h

end

-- POS after a change of RAW (R159)

section
variable {raw pos : Int}

theorem posAfter_up (h : 0 < signed32 (raw - pos)) : posAfter raw pos = raw := if_pos h

theorem posAfter_down (h : signed32 (raw - pos) < -1) : posAfter raw pos = signed32 (raw + 1) :=
  (if_neg (by omega)).trans (if_pos h)

theorem posAfter_within (h : signed32 (raw - pos) = 0 ∨ signed32 (raw - pos) = -1) : posAfter raw pos = pos :=
  (if_neg (by omega)).trans (if_neg (by omega))

/-- POS stands at RAW, or one count above it after downward motion. -/
theorem signed32_posAfter_sub (raw pos : Int) :
    signed32 (posAfter raw pos - raw) = if signed32 (raw - pos) < 0 then 1 else 0 := by
  rcases lt_trichotomy (signed32 (raw - pos)) 0 with h | h | h
  · rw [if_pos h]
    rcases eq_or_lt_of_le (show signed32 (raw - pos) ≤ -1 by omega) with h1 | h1
    · rw [posAfter_within (.inr h1)]
      unfold signed32 at h1 ⊢
      omega
    · rw [posAfter_down h1]
      unfold signed32
      omega
  · rw [if_neg (by omega), posAfter_within (.inl h)]
    unfold signed32 at h ⊢
    omega
  · rw [if_neg (by omega), posAfter_up h, Int.sub_self]
    decide

end

-- RAW moves

section
variable (s : State) (x : Src) (raw : Int)

theorem State.moveRaw_raw : (s.moveRaw x raw).g x.2.1 x.raw = raw := by
  obtain ⟨hpos, hstatus, -⟩ := x.keys_apart
  unfold State.moveRaw
  dsimp only
  split
  · rw [State.g_setC_key _ _ _ _ hpos, State.g_setC_self]
  · rw [State.g_bitC_key _ _ _ _ _ hstatus, State.g_setC_key _ _ _ _ hpos, State.g_setC_self]

theorem State.moveRaw_pos : (s.moveRaw x raw).g x.2.1 x.pos = posAfter raw (s.g x.2.1 x.pos) := by
  obtain ⟨-, -, hstatus⟩ := x.keys_apart
  unfold State.moveRaw
  dsimp only
  split
  · rw [State.g_setC_self]
  · rw [State.g_bitC_key _ _ _ _ _ hstatus, State.g_setC_self]

theorem State.moveRaw_g {d : Ch} {o : Obj} (h : d ≠ x.2.1 ∨ o.key ≠ x.raw.key ∧ o.key ≠ x.pos.key ∧ o.key ≠ x.status.key) :
    (s.moveRaw x raw).g d o = s.g d o := by
  have hset (u : State) (w : Int) : (u.setC x.2.1 x.status w).g d o = u.g d o := u.g_setC_apart w (h.imp_right (·.2.2))
  unfold State.moveRaw
  dsimp only
  split
  · rw [State.g_setC_apart _ _ (h.imp_right (·.2.1)), State.g_setC_apart _ _ (h.imp_right (·.1))]
  · rw [State.bitC, hset, State.g_setC_apart _ _ (h.imp_right (·.2.1)), State.g_setC_apart _ _ (h.imp_right (·.1))]

/-- Of the status a motion changes DIR alone (R183). -/
theorem State.moveRaw_status {i : Nat} (h : i ≠ fbDir) :
    (s.moveRaw x raw).isBitC x.2.1 x.status i = s.isBitC x.2.1 x.status i := by
  obtain ⟨-, hraw, hpos⟩ := x.keys_apart
  have hset : ((s.setC x.2.1 x.raw raw).setC x.2.1 x.pos (posAfter raw (s.g x.2.1 x.pos))).isBitC x.2.1 x.status i =
      s.isBitC x.2.1 x.status i :=
    (State.isBitC_setC_key _ _ _ _ _ hpos.symm).trans (State.isBitC_setC_key _ _ _ _ _ hraw.symm)
  unfold State.moveRaw
  dsimp only
  split
  · exact hset
  · exact (State.isBitC_bitC_ne _ _ _ _ h).trans hset

theorem State.moveRaw_fports : (s.moveRaw x raw).fports = s.fports := by
  unfold State.moveRaw
  dsimp only
  split <;> rfl

end

-- the firings of a count (R174, R175)

section
variable (s : State) {c d : Ch} {n : Nat} {o : Obj}

/-- An object that the compare list of a port does not hold: another channel's, or one below the list. -/
def Obj.offList (o : Obj) (d c : Ch) (n : Nat) : Prop := d ≠ c ∨ o.key < (Obj.cmpControl c n 0).key

theorem Obj.offList.apart (h : o.offList d c n) (e : Nat) : (d ≠ c ∨ o.key ≠ (Obj.cmpControl c n e).key) ∧
    (d ≠ c ∨ o.key ≠ (Obj.cmpFireCount c n).key) ∧ (d ≠ c ∨ o.key ≠ (Obj.cmpMergedCount c n).key) := by
  refine ⟨h.imp_right fun h => ?_, h.imp_right fun h => ?_, h.imp_right fun h => ?_⟩ <;>
    simp only [Obj.cmpControl, Obj.cmpFireCount, Obj.cmpMergedCount] at h ⊢ <;> omega

theorem State.fireEntry_g (e : Nat) (h : o.offList d c n) : (s.fireEntry c n e).g d o = s.g d o := by
  obtain ⟨hcontrol, hfired, hmerged⟩ := h.apart e
  unfold State.fireEntry State.bumpC
  extract_lets ctl ctl₁ ctl₂ merged u w
  have hu : u.g d o = s.g d o := (State.g_setC_apart _ _ hfired).trans (State.g_setC_apart _ _ hcontrol)
  have hw : w.g d o = s.g d o := by
    dsimp only [w]
    split
    · exact (State.g_setC_apart _ _ hmerged).trans hu
    · exact hu
  exact (State.g_congr (State.updFport_regs ..) d o).trans hw

theorem State.fireAll_g (old : Int) (h : o.offList d c n) : (s.fireAll c n old).g d o = s.g d o := by
  unfold State.fireAll
  dsimp only
  split
  · rfl
  · refine forEach_eq (fun u => u.g d o) _ (fun u e => ?_) _ s
    split
    · exact u.fireEntry_g e h
    · rfl

/-- What one count of a port leaves: the other channels' copies, and the objects below its compare list but RAW, POS and the
status. -/
theorem State.count1_g (k : Int) (h : d ≠ c ∨ o.key < (Obj.cmpControl c n 0).key ∧ o.key ≠ (Obj.fpRaw c n).key ∧
    o.key ≠ (Obj.fpPos c n).key ∧ o.key ≠ (Obj.fpStatus c n).key) : (s.count1 c n k).g d o = s.g d o := by
  unfold State.count1
  dsimp only
  rw [State.fireAll_g _ _ (h.imp_right (·.1)), State.moveRaw_g _ (.port, c, n) _ (h.imp_right (·.2)),
    State.g_congr (State.updFport_regs ..)]

/-- RAW, POS and the status lie below the compare list. -/
theorem Obj.port_offList (c : Ch) (_h : n < 16) : (Obj.fpRaw c n).offList c c n ∧ (Obj.fpPos c n).offList c c n ∧
    (Obj.fpStatus c n).offList c c n := by
  refine ⟨.inr ?_, .inr ?_, .inr ?_⟩ <;>
    simp only [Obj.fpRaw, Obj.fpPos, Obj.fpStatus, Obj.cmpControl] <;> omega

theorem State.count1_raw (c : Ch) (k : Int) (h : n < 16) :
    (s.count1 c n k).g c (Obj.fpRaw c n) = signed32 (s.g c (Obj.fpRaw c n) + k) := by
  unfold State.count1
  dsimp only
  rw [State.fireAll_g _ _ (Obj.port_offList c h).1]
  exact State.moveRaw_raw _ (.port, c, n) _

theorem State.count1_pos (c : Ch) (k : Int) (h : n < 16) : (s.count1 c n k).g c (Obj.fpPos c n) =
    posAfter (signed32 (s.g c (Obj.fpRaw c n) + k)) (s.g c (Obj.fpPos c n)) := by
  unfold State.count1
  dsimp only
  rw [State.fireAll_g _ _ (Obj.port_offList c h).2.1]
  exact State.moveRaw_pos _ (.port, c, n) _

/-- A count leaves the status bits but DIR. -/
theorem State.count1_status (c : Ch) (k : Int) (h : n < 16) {i : Nat} (hi : i ≠ fbDir) :
    (s.count1 c n k).isBitC c (Obj.fpStatus c n) i = s.isBitC c (Obj.fpStatus c n) i := by
  unfold State.count1
  dsimp only
  rw [State.isBitC, State.fireAll_g _ _ (Obj.port_offList c h).2.2]
  exact State.moveRaw_status _ (.port, c, n) _ hi

end

/-- Settles O32: RAW and POS as `State.moveRaw` sets them, and where `posAfter` leaves POS. -/
theorem positionFollowsRaw : Obligations.PositionFollowsRaw := by
  refine ⟨fun s x raw => ?_, fun s c n d h => ⟨s.count1_raw c d h, fun i hi => s.count1_status c d h hi⟩, by decide, by decide⟩
  rw [State.moveRaw_pos, signed32_posAfter_sub]
  refine ⟨s.moveRaw_raw x raw, posAfter_up, posAfter_down, posAfter_within, fun h => if_neg (by omega), fun h => if_pos h, ?_⟩
  split
  · exact .inr rfl
  · exact .inl rfl

end Sys2Proof.Machine
end

section
/-! ## The pins of a feedback port, and what counting and homing leave (R155, R160, R164, R165) -/

namespace Sys2Proof.Machine

section
variable {s u : State}

theorem State.fport_congr (h : u.fports = s.fports) (c : Ch) (n : Nat) : u.fport c n = s.fport c n := by
  rw [State.fport, h, State.fport]

theorem State.fport_updFport (s : State) (c d : Ch) (n m : Nat) (f : Fport → Fport) :
    (s.updFport d m f).fport c n = if c = d ∧ n = m then f (s.fport c n) else s.fport c n := by
  split
  · next h => rw [h.1, h.2, State.fport_updFport_self]
  · next h =>
    by_cases hc : c = d
    · subst hc
      simp only [State.fport, State.updFport, Trio.get_upd_self, Tbl.getD_modify_ne _ _ _ _ fun hn => h ⟨rfl, hn⟩]
    · simp only [State.fport, State.updFport, Trio.get_upd_ne _ _ hc]

theorem State.isBit_congr (h : u.regs = s.regs) (o : Obj) (n : Nat) : u.isBit o n = s.isBit o n := by
  rw [State.isBit, State.v_congr h, State.isBit]

/-- The inputs of a feedback port. -/
def Fport.pins (p : Fport) : Pin × Pin × Pin := (p.pinA, p.pinB, p.pinZ)

/-- The inputs of every feedback port are the same in two states. -/
structure State.SamePins (s u : State) : Prop where
  pins : ∀ c n, (u.fport c n).pins = (s.fport c n).pins

theorem State.SamePins.of_eq (h : u.fports = s.fports) : s.SamePins u := ⟨fun c n => by rw [State.fport_congr h]⟩

theorem State.SamePins.trans {w : State} (h : s.SamePins u) (k : u.SamePins w) : s.SamePins w :=
  ⟨fun c n => (k.pins c n).trans (h.pins c n)⟩

/-- An update of one port that leaves its pins. -/
theorem State.SamePins.of_updFport {c : Ch} {n : Nat} {f : Fport → Fport} (h : u.fports = (s.updFport c n f).fports)
    (hf : ∀ x, (f x).pins = x.pins) : s.SamePins u := ⟨fun d m => by
  rw [State.fport_congr h, State.fport_updFport]
  split
  · exact hf _
  · rfl⟩

theorem State.SamePins.ite {p : Prop} [Decidable p] {w : State} (h : s.SamePins u) (k : s.SamePins w) :
    s.SamePins (if p then u else w) := by
  split
  · exact h
  · exact k

theorem State.SamePins.forEach {α : Type} {f : State → α → State} (hf : ∀ s x, State.SamePins s (f s x)) (l : List α)
    (s : State) : s.SamePins (Sys2Proof.Machine.forEach l s f) :=
  forEach_keeps State.SamePins (fun _ => .of_eq rfl) (fun _ _ _ => .trans) f hf l s

end

section
variable (s : State) (c : Ch) (n : Nat)

-- counts leave the pins

theorem State.fireEntry_pins (e : Nat) : s.SamePins (s.fireEntry c n e) := by
  unfold State.fireEntry
  extract_lets ctl ctl₁ ctl₂ merged u w
  have hw : s.SamePins w := .ite (.of_eq rfl) (.of_eq rfl)
  exact hw.trans (.of_updFport rfl fun _ => by rfl)

theorem State.fireAll_pins (old : Int) : s.SamePins (s.fireAll c n old) := by
  unfold State.fireAll
  exact .ite (.of_eq rfl) (.forEach (fun u e => .ite (u.fireEntry_pins c n e) (.of_eq rfl)) _ s)

theorem State.count1_pins (k : Int) : s.SamePins (s.count1 c n k) := by
  unfold State.count1
  extract_lets old u
  have hu : s.SamePins u := .of_updFport rfl fun _ => by rfl
  exact (hu.trans (.of_eq (u.moveRaw_fports ..))).trans (State.fireAll_pins _ c n old)

theorem State.settlePort_pins : s.SamePins (s.settlePort c n) := by
  unfold State.settlePort
  extract_lets p l u w
  have hu : s.SamePins u := by
    refine .forEach (fun v e => ?_) l s
    refine State.SamePins.trans ?_ (State.count1_pins _ c n _)
    exact .of_updFport (f := fun x => { x with lastStep := some e }) rfl fun _ => rfl
  have hw : s.SamePins w := hu.trans (.of_updFport rfl fun _ => by rfl)
  exact .ite (.of_eq rfl) (hw.trans (.of_eq rfl))

theorem State.settleSteps_pins : s.SamePins s.settleSteps := by
  unfold State.settleSteps
  exact .forEach (fun u c => .forEach (fun v n => v.settlePort_pins c n) (upto 8) u) _ s

-- the steps of output ports leave the objects below those of the sources

variable {c n} {o : Obj}

theorem State.settlePort_g (ho : o.belowSources) (d : Ch) : (s.settlePort c n).g d o = s.g d o := by
  have hlist : o.key < (Obj.cmpControl c n 0).key := by
    unfold Obj.belowSources at ho
    simp only [Obj.cmpControl]
    omega
  have hcount (v : State) (k : Int) : (v.count1 c n k).g d o = v.g d o := v.count1_g k (.inr ⟨hlist, ho.apart (.port, c, n)⟩)
  unfold State.settlePort
  extract_lets p l u w
  have hu : u.g d o = s.g d o := by
    refine forEach_eq (fun v => v.g d o) _ (fun v e => ?_) l s
    rw [hcount]
    rfl
  split
  · rfl
  · exact hu

theorem State.settleSteps_g (ho : o.belowSources) (d : Ch) : s.settleSteps.g d o = s.g d o :=
  forEach_eq (fun u => u.g d o) _ (fun u _ => forEach_eq (fun v => v.g d o) _ (fun v _ => v.settlePort_g ho d) _ u) _ s

theorem State.settleSteps_v (ho : o.belowSources) : s.settleSteps.v o = s.v o := State.v_eq_of_g_eq fun d => s.settleSteps_g ho d

end

-- RAW and POS set to a value (R160)

section
variable (s : State) (x : Src) (v : Int)

theorem State.setCounters_pos : (s.setCounters x v).g x.2.1 x.pos = v := by
  unfold State.setCounters
  dsimp only
  exact State.g_setC_self ..

theorem State.setCounters_raw : (s.setCounters x v).g x.2.1 x.raw = v := by
  unfold State.setCounters
  rw [State.g_setC_key _ _ _ _ x.keys_apart.1, State.g_setC_self]

theorem State.setCounters_pins : s.SamePins (s.setCounters x v) := by
  unfold State.setCounters
  dsimp only
  split
  · next c n => exact .of_updFport rfl fun _ => by rfl
  · exact .of_eq rfl

end

-- homing (R164)

/-- The index of a homed source: at an index event its reference is the home value, elsewhere it moves with RAW. -/
def State.homeIndex (s : State) (x : Src) (v shift : Int) (atIndex : Bool) : State :=
  match x with
  | (.port, c, p) =>
    if atIndex then
      let u := (s.updFport c p fun q => { q with raw64 := v, ref := v }).bitC c (Obj.fpStatus c p) fbIndexSeen true
      (u.setC c (Obj.indexRaw c p) v).setC c (Obj.indexTime c p) u.now
    else if s.isBitC c (Obj.fpStatus c p) fbIndexSeen then s.updFport c p fun q => { q with ref := q.ref + shift }
    else s
  | _ => s

/-- HOMED in place of HOME_ARMED. -/
def State.markHomed (s : State) (n : Nat) : State :=
  (s.bitR (Obj.axFbStatus n) afArmed false).bitR (Obj.axFbStatus n) afHomed true

/-- A source homed on the value `v`: its counters, its index, its status and the marks of its axis. -/
def State.homeSource (s : State) (n : Nat) (x : Src) (v : Int) (atIndex : Bool) : State :=
  (((s.setCounters x v).homeIndex x v (v - s.g x.2.1 x.raw) atIndex).homeFlags x).markHomed n

section
variable (s : State) (n : Nat) (x : Src)

/-- Homing: the source, then the generator, the latches and the tasks of the axis. -/
theorem State.homeAxis_eq (b : Bool) : ∃ k, s.homeAxis n x b =
    (((s.settleSteps.homeSource n x (s.settleSteps.v (Obj.axHomeValue n)) b).shiftGen n k).clearLatches n).homeFirstUse n := by
  refine ⟨signed32 (s.settleSteps.v (Obj.axHomeValue n) - s.settleSteps.g x.2.1 x.pos), ?_⟩
  obtain ⟨kind, c, p⟩ := x
  unfold State.homeAxis State.homeSource State.markHomed State.homeIndex
  generalize s.settleSteps = w
  cases kind <;> dsimp only

/-- The objects of a port's index are apart from its RAW and POS. -/
theorem Obj.index_apart (c : Ch) (n : Nat) {o : Obj} (h : o.key = (Obj.fpPos c n).key ∨ o.key = (Obj.fpRaw c n).key) :
    o.key ≠ (Obj.fpStatus c n).key ∧ o.key ≠ (Obj.indexRaw c n).key ∧ o.key ≠ (Obj.indexTime c n).key := by
  simp only [Obj.fpPos, Obj.fpRaw, Obj.fpStatus, Obj.indexRaw, Obj.indexTime] at h ⊢
  omega

theorem State.homeIndex_g (v k : Int) (b : Bool) {o : Obj} (h : o.key = x.pos.key ∨ o.key = x.raw.key) :
    (s.homeIndex x v k b).g x.2.1 o = s.g x.2.1 o := by
  unfold State.homeIndex
  split
  · next c p =>
    obtain ⟨hstatus, hraw, htime⟩ := Obj.index_apart c p h
    split
    · rw [State.g_setC_key _ _ _ _ htime, State.g_setC_key _ _ _ _ hraw, State.g_bitC_key _ _ _ _ _ hstatus,
        State.g_congr (State.updFport_regs ..)]
    · split <;> rfl
  · rfl

theorem State.homeIndex_pins (v k : Int) (b : Bool) : s.SamePins (s.homeIndex x v k b) := by
  unfold State.homeIndex
  split
  · next c p =>
    exact .ite (.of_updFport rfl fun _ => by rfl) (.ite (.of_updFport rfl fun _ => by rfl) (.of_eq rfl))
  · exact .of_eq rfl

theorem State.homeFlags_g {d : Ch} {o : Obj} (h : o.key ≠ x.status.key) : (s.homeFlags x).g d o = s.g d o := by
  unfold State.homeFlags
  extract_lets u was w y
  have hw : w.g d o = s.g d o := (State.g_bitC_key _ _ _ _ _ h).trans (State.g_bitC_key _ _ _ _ _ h)
  have hy : y.g d o = s.g d o := by
    refine Eq.trans ?_ hw
    dsimp only [y]
    split <;> rfl
  split
  · rw [State.g_congr (State.checkHealth_regs _), hy]
  · exact hy

theorem State.homeFlags_pins : s.SamePins (s.homeFlags x) := by
  unfold State.homeFlags
  extract_lets u was w y
  have hw : s.SamePins w := .of_eq rfl
  have hy : s.SamePins y := by
    refine hw.trans ?_
    dsimp only [y]
    split
    · exact .of_updFport rfl fun _ => by rfl
    · exact .of_eq rfl
  exact .ite (hy.trans (.of_eq (State.checkHealth_fports _))) hy

theorem State.shiftGen_keeps {β : Type} (p : State → β) (hgen : ∀ u n f, p (State.updGen u n f) = p u)
    (hgroup : ∀ u g f, p (State.updGroup u g f) = p u) (k : Int) : p (s.shiftGen n k) = p s := by
  unfold State.shiftGen
  dsimp only
  split
  · rw [hgroup, hgen]
  · exact hgen ..

theorem State.homeFirstUse_keeps {β : Type} (p : State → β) (htask : ∀ u k f, p (State.updTask u k f) = p u) :
    p (s.homeFirstUse n) = p s := forEach_eq p _ (fun _ _ => htask ..) _ s

/-- What homing does beyond the source changes of the objects LATCH_COUNT alone. -/
theorem State.homeAxis_g (b : Bool) {d : Ch} {o : Obj} (h : o.key ≠ (Obj.latchCount n).key) : (s.homeAxis n x b).g d o =
    (s.settleSteps.homeSource n x (s.settleSteps.v (Obj.axHomeValue n)) b).g d o := by
  obtain ⟨k, hk⟩ := s.homeAxis_eq n x b
  rw [hk, State.homeFirstUse_keeps (p := fun u => u.g d o) _ _ fun _ _ _ => rfl, State.clearLatches_g _ _ _ h,
    State.shiftGen_keeps (p := fun u => u.g d o) _ _ (fun _ _ _ => rfl) fun _ _ _ => rfl]

theorem Obj.axis_belowSources {n : Nat} (_h : n < 32) : (Obj.axFbStatus n).belowSources ∧ (Obj.axHomeValue n).belowSources ∧
    (Obj.latchCount n).belowSources := by
  simp only [Obj.belowSources, Obj.axFbStatus, Obj.axHomeValue, Obj.latchCount]
  omega

theorem State.markHomed_g {d : Ch} {o : Obj} (h : o.key ≠ (Obj.axFbStatus n).key) : (s.markHomed n).g d o = s.g d o :=
  (State.g_bitR_key _ _ _ _ h).trans (State.g_bitR_key _ _ _ _ h)

theorem State.homeSource_counters {n : Nat} (hn : n < 32) (v : Int) (b : Bool) {o : Obj}
    (h : o.key = x.pos.key ∨ o.key = x.raw.key) : (s.homeSource n x v b).g x.2.1 o = (s.setCounters x v).g x.2.1 o := by
  obtain ⟨-, hraw, hpos⟩ := x.keys_apart
  obtain ⟨haxisRaw, haxisPos, -⟩ := (Obj.axis_belowSources hn).1.apart x
  have hstatus : o.key ≠ x.status.key := h.elim (fun h => h.trans_ne hpos) fun h => h.trans_ne hraw
  have haxis : o.key ≠ (Obj.axFbStatus n).key := h.elim (fun h => h.trans_ne haxisPos.symm) fun h => h.trans_ne haxisRaw.symm
  rw [State.homeSource, State.markHomed_g _ _ haxis, State.homeFlags_g _ _ hstatus, State.homeIndex_g _ _ _ _ _ h]

/-- Homing leaves POS and RAW of the source at the home value. -/
theorem State.homeAxis_counters {n : Nat} (hn : n < 32) (b : Bool) :
    (s.homeAxis n x b).g x.2.1 x.pos = s.v (Obj.axHomeValue n) ∧
      (s.homeAxis n x b).g x.2.1 x.raw = s.v (Obj.axHomeValue n) := by
  obtain ⟨-, hvalue, hlatch⟩ := Obj.axis_belowSources hn
  obtain ⟨hraw, hpos, -⟩ := hlatch.apart x
  rw [State.homeAxis_g _ _ _ _ hpos.symm, State.homeAxis_g _ _ _ _ hraw.symm, State.homeSource_counters _ _ hn _ _ (.inl rfl),
    State.homeSource_counters _ _ hn _ _ (.inr rfl), State.setCounters_pos, State.setCounters_raw, State.settleSteps_v _ hvalue]
  exact ⟨rfl, rfl⟩

/-- Homing sets HOMED and ends HOME_ARMED. -/
theorem State.homeAxis_marks (b : Bool) : (s.homeAxis n x b).isBit (Obj.axFbStatus n) afHomed = true ∧
    (s.homeAxis n x b).isBit (Obj.axFbStatus n) afArmed = false := by
  have hkey : (Obj.axFbStatus n).key ≠ (Obj.latchCount n).key := by simp only [Obj.axFbStatus, Obj.latchCount]; omega
  simp only [State.isBit, State.v_eq_of_g_eq fun d => s.homeAxis_g n x b (d := d) hkey]
  exact ⟨State.isBit_bitR_self .., (State.isBit_bitR_ne _ _ _ (by decide)).trans (State.isBit_bitR_self ..)⟩

theorem State.clearLatches_fports : (s.clearLatches n).fports = s.fports := by
  unfold State.clearLatches
  exact (State.updAxis_fports ..).trans (State.setR_fports ..)

theorem State.markHomed_fports : (s.markHomed n).fports = s.fports :=
  (State.bitR_fports ..).trans (State.bitR_fports ..)

theorem State.homeSource_pins (v : Int) (b : Bool) : s.SamePins (s.homeSource n x v b) :=
  (((s.setCounters_pins x v).trans (State.homeIndex_pins _ x v _ b)).trans (State.homeFlags_pins _ x)).trans
    (.of_eq (State.markHomed_fports _ n))

theorem State.homeAxis_pins (b : Bool) : s.SamePins (s.homeAxis n x b) := by
  obtain ⟨k, hk⟩ := s.homeAxis_eq n x b
  rw [hk]
  refine (s.settleSteps_pins.trans (State.homeSource_pins _ n x (s.settleSteps.v (Obj.axHomeValue n)) b)).trans (.of_eq ?_)
  rw [State.homeFirstUse_keeps (p := State.fports) _ _ fun _ _ _ => rfl, State.clearLatches_fports]
  exact State.shiftGen_keeps (p := State.fports) _ n (fun _ _ _ => rfl) (fun _ _ _ => rfl) k

/-- At an index event homing keeps its time (R162). -/
theorem State.homeAxis_indexTime {n : Nat} (_hn : n < 32) (c : Ch) (p : Nat) :
    (s.homeAxis n (.port, c, p) true).g c (Obj.indexTime c p) = s.now := by
  have hne : (Obj.indexTime c p).key ≠ (Obj.latchCount n).key ∧ (Obj.indexTime c p).key ≠ (Obj.axFbStatus n).key ∧
      (Obj.indexTime c p).key ≠ (Src.status (.port, c, p)).key := by
    simp only [Obj.indexTime, Obj.latchCount, Obj.axFbStatus, Src.status, Obj.fpStatus]
    omega
  obtain ⟨hlatch, haxis, hstatus⟩ := hne
  rw [State.homeAxis_g _ _ _ _ hlatch, State.homeSource, State.markHomed_g _ _ haxis, State.homeFlags_g _ _ hstatus]
  refine (State.g_setC_self ..).trans ?_
  rw [State.bitC_now, State.updFport_now, State.setCounters_now, State.settleSteps_now]

end

end Sys2Proof.Machine
end

section
/-! ## Edges, index events and compare pulses of a feedback port (R155 to R164, R175) -/

namespace Sys2Proof.Machine

section
variable (s : State) (c : Ch) (n : Nat)

-- what is recorded of a port

theorem State.logC_g {d : Ch} {o : Obj} (a b : Nat) (l : List Byte) (h : o.key ≠ (Obj.sedEvents c).key) :
    (s.logC c a b l).g d o = s.g d o := by
  unfold State.logC
  dsimp only
  split
  · split
    · exact (State.g_setR_key _ _ _ h).trans (State.g_congr (State.updSed_regs ..) d o)
    · rfl
  · rfl

theorem State.feedbackFault_regs (x : Src) : (s.feedbackFault x).regs = s.regs :=
  (State.checkHealth_regs _).trans (State.health_regs ..)

theorem State.feedbackFault_fports (x : Src) : (s.feedbackFault x).fports = s.fports :=
  (State.checkHealth_fports _).trans (State.health_fports ..)

theorem State.suspect_g {d : Ch} {o : Obj} (h : o.key ≠ (Obj.fpStatus c n).key) : (s.suspect c n).g d o = s.g d o :=
  (State.g_congr (State.feedbackFault_regs ..) d o).trans (State.g_bitC_key _ _ _ _ _ h)

theorem State.suspect_bit : (s.suspect c n).isBitC c (Obj.fpStatus c n) fbSuspect = true :=
  (State.isBitC_congr (State.feedbackFault_regs ..) ..).trans (State.isBitC_bitC_self ..)

theorem State.suspect_bit_ne {i : Nat} (h : i ≠ fbSuspect) :
    (s.suspect c n).isBitC c (Obj.fpStatus c n) i = s.isBitC c (Obj.fpStatus c n) i :=
  (State.isBitC_congr (State.feedbackFault_regs ..) ..).trans (State.isBitC_bitC_ne _ _ _ _ h)

theorem State.suspect_fports : (s.suspect c n).fports = s.fports :=
  (State.feedbackFault_fports ..).trans (State.bitC_fports ..)

-- the index check (R162)

/-- RAW and the time are kept at an index event. -/
def State.keepIndex (s : State) (c : Ch) (n : Nat) : State :=
  (s.setC c (Obj.indexRaw c n) (s.g c (Obj.fpRaw c n))).setC c (Obj.indexTime c n) s.now

/-- An index off by `off`: INDEX_MISMATCH with the offset, the count and the event. -/
def State.countMiss (s : State) (c : Ch) (n : Nat) (off : Int) : State :=
  ((((s.bitC c (Obj.fpStatus c n) fbMismatch true).setC c (Obj.indexOffset c n) off).bumpC c
    (Obj.fpIndexMismatchCount c n))).logC c 0x0301 (Obj.indexOffset c n).index (leBytesInt 4 off)

/-- An index off by `off`, and FEEDBACK_SUSPECT at the same offset twice in a row. -/
def State.missIndex (s : State) (c : Ch) (n : Nat) (off : Int) : State :=
  if (s.fport c n).lastOff = some off then ((s.keepIndex c n).countMiss c n off).suspect c n
  else (s.keepIndex c n).countMiss c n off

section
variable {s c n} {o : Obj} {off : Int}

theorem State.keepIndex_g (d : Ch) (h : o.key ≠ (Obj.indexRaw c n).key) (k : o.key ≠ (Obj.indexTime c n).key) :
    (s.keepIndex c n).g d o = s.g d o := (State.g_setC_key _ _ _ _ k).trans (State.g_setC_key _ _ _ _ h)

theorem State.keepIndex_status (i : Nat) :
    (s.keepIndex c n).isBitC c (Obj.fpStatus c n) i = s.isBitC c (Obj.fpStatus c n) i :=
  congrArg (bit · i) (State.keepIndex_g c (by simp [Obj.fpStatus, Obj.indexRaw]) (by simp [Obj.fpStatus, Obj.indexTime]))

theorem State.countMiss_g (d : Ch) (h : o.key ≠ (Obj.fpStatus c n).key ∧ o.key ≠ (Obj.indexOffset c n).key ∧
    o.key ≠ (Obj.fpIndexMismatchCount c n).key ∧ o.key ≠ (Obj.sedEvents c).key) : (s.countMiss c n off).g d o = s.g d o := by
  obtain ⟨hstatus, hoffset, hcount, hevents⟩ := h
  rw [State.countMiss, State.logC_g _ _ _ _ _ hevents, State.bumpC, State.g_setC_key _ _ _ _ hcount,
    State.g_setC_key _ _ _ _ hoffset, State.g_bitC_key _ _ _ _ _ hstatus]

/-- The count of events is no object of a port. -/
theorem Obj.sedEvents_apart (d : Ch) (h : o.key < 0x4C00 * 256) : o.key ≠ (Obj.sedEvents d).key := by
  simp only [Obj.sedEvents]
  omega

theorem Obj.record_low (c : Ch) (_h : n < 16) : (Obj.fpRaw c n).key < 0x4C00 * 256 ∧ (Obj.fpStatus c n).key < 0x4C00 * 256 ∧
    (Obj.indexRaw c n).key < 0x4C00 * 256 ∧ (Obj.indexTime c n).key < 0x4C00 * 256 ∧
    (Obj.indexOffset c n).key < 0x4C00 * 256 ∧ (Obj.fpIndexMismatchCount c n).key < 0x4C00 * 256 := by
  have hc := Ch.num_lt_three c
  simp only [Obj.fpRaw, Obj.fpStatus, Obj.indexRaw, Obj.indexTime, Obj.indexOffset, Obj.fpIndexMismatchCount]
  omega

/-- What a missed index records: the mark, the offset and the count. -/
theorem State.countMiss_records (hn : n < 16) : (s.countMiss c n off).isBitC c (Obj.fpStatus c n) fbMismatch = true ∧
    (s.countMiss c n off).g c (Obj.indexOffset c n) = off ∧
    (s.countMiss c n off).g c (Obj.fpIndexMismatchCount c n) = wrapU32 (s.g c (Obj.fpIndexMismatchCount c n) + 1) := by
  obtain ⟨-, hstatus, -, -, hoffset, hcount⟩ := Obj.record_low c hn
  unfold State.countMiss State.bumpC
  refine ⟨?_, ?_, ?_⟩
  · rw [State.isBitC, State.logC_g _ _ _ _ _ (Obj.sedEvents_apart c hstatus),
      State.g_setC_key _ _ _ _ (by simp [Obj.fpStatus, Obj.fpIndexMismatchCount]),
      State.g_setC_key _ _ _ _ (by simp [Obj.fpStatus, Obj.indexOffset])]
    exact State.isBitC_bitC_self ..
  · rw [State.logC_g _ _ _ _ _ (Obj.sedEvents_apart c hoffset),
      State.g_setC_key _ _ _ _ (by simp [Obj.indexOffset, Obj.fpIndexMismatchCount]), State.g_setC_self]
  · rw [State.logC_g _ _ _ _ _ (Obj.sedEvents_apart c hcount), State.g_setC_self,
      State.g_setC_key _ _ _ _ (by simp [Obj.fpIndexMismatchCount, Obj.indexOffset]),
      State.g_bitC_key _ _ _ _ _ (by simp [Obj.fpIndexMismatchCount, Obj.fpStatus])]
    rfl

/-- A missed index leaves the status bits but INDEX_MISMATCH. -/
theorem State.countMiss_status (hn : n < 16) {i : Nat} (hi : i ≠ fbMismatch) :
    (s.countMiss c n off).isBitC c (Obj.fpStatus c n) i = s.isBitC c (Obj.fpStatus c n) i := by
  obtain ⟨-, hstatus, -, -, -, -⟩ := Obj.record_low c hn
  rw [State.countMiss, State.isBitC, State.logC_g _ _ _ _ _ (Obj.sedEvents_apart c hstatus), State.bumpC,
    State.g_setC_key _ _ _ _ (by simp [Obj.fpStatus, Obj.fpIndexMismatchCount]),
    State.g_setC_key _ _ _ _ (by simp [Obj.fpStatus, Obj.indexOffset])]
  exact State.isBitC_bitC_ne _ _ _ _ hi

theorem State.countMiss_fports : (s.countMiss c n off).fports = s.fports := State.logC_fports ..

-- the three outcomes of the check

/-- The first index becomes the reference. -/
theorem State.checkIndex_first (h : s.isBitC c (Obj.fpStatus c n) fbIndexSeen = false) : s.checkIndex c n =
    ((s.keepIndex c n).updFport c n fun x => { x with ref := (s.fport c n).raw64, lastOff := none }).bitC c
      (Obj.fpStatus c n) fbIndexSeen true :=
  if_pos (by rw [← State.keepIndex, State.keepIndex_status, h]; rfl)

theorem State.checkIndex_later (h : s.isBitC c (Obj.fpStatus c n) fbIndexSeen = true) (hoff : off = indexOff
    (s.fport c n).raw64 (s.fport c n).ref (s.g c (Obj.fpCountsPerRev c n))) : s.checkIndex c n =
    if off.natAbs ≤ s.g c (Obj.fpIndexTol c n) then (s.keepIndex c n).updFport c n fun x => { x with lastOff := none }
    else (s.missIndex c n off).updFport c n fun x => { x with lastOff := some off } := by
  have hseen : ¬((!(s.keepIndex c n).isBitC c (Obj.fpStatus c n) fbIndexSeen) = true) := by
    rw [State.keepIndex_status, h]
    exact Bool.false_ne_true
  have hcpr : (s.keepIndex c n).g c (Obj.fpCountsPerRev c n) = s.g c (Obj.fpCountsPerRev c n) :=
    State.keepIndex_g c (by simp only [Obj.fpCountsPerRev, Obj.indexRaw]; omega)
      (by simp only [Obj.fpCountsPerRev, Obj.indexTime]; omega)
  have htol : (s.keepIndex c n).g c (Obj.fpIndexTol c n) = s.g c (Obj.fpIndexTol c n) :=
    State.keepIndex_g c (by simp only [Obj.fpIndexTol, Obj.indexRaw]; omega)
      (by simp only [Obj.fpIndexTol, Obj.indexTime]; omega)
  refine (if_neg hseen).trans ?_
  rw [← State.keepIndex, hcpr, htol, ← hoff]
  rfl

/-- What a missed index leaves: every object but the status, the offset, the mismatch count and the count of events. -/
theorem State.missIndex_g (d : Ch) (h : o.key ≠ (Obj.fpStatus c n).key ∧ o.key ≠ (Obj.indexOffset c n).key ∧
    o.key ≠ (Obj.fpIndexMismatchCount c n).key ∧ o.key ≠ (Obj.sedEvents c).key) :
    (s.missIndex c n off).g d o = (s.keepIndex c n).g d o := by
  unfold State.missIndex
  split
  · rw [State.suspect_g _ _ _ h.1, State.countMiss_g d h]
  · exact State.countMiss_g d h

theorem State.missIndex_fports : (s.missIndex c n off).fports = s.fports := by
  unfold State.missIndex
  split
  · exact (State.suspect_fports ..).trans State.countMiss_fports
  · exact State.countMiss_fports

/-- A status bit that a missed index does not set is as it was. -/
theorem State.missIndex_status (hn : n < 16) {i : Nat} (hi : i ≠ fbMismatch) (hs : i ≠ fbSuspect) :
    (s.missIndex c n off).isBitC c (Obj.fpStatus c n) i = s.isBitC c (Obj.fpStatus c n) i := by
  unfold State.missIndex
  split
  · rw [State.suspect_bit_ne _ _ _ hs, State.countMiss_status hn hi, State.keepIndex_status]
  · rw [State.countMiss_status hn hi, State.keepIndex_status]

/-- A missed index sets INDEX_MISMATCH, keeps the offset and is counted; the same offset as before is suspect. -/
theorem State.missIndex_records (hn : n < 16) : (s.missIndex c n off).isBitC c (Obj.fpStatus c n) fbMismatch = true ∧
    (s.missIndex c n off).g c (Obj.indexOffset c n) = off ∧
    (s.missIndex c n off).g c (Obj.fpIndexMismatchCount c n) = wrapU32 (s.g c (Obj.fpIndexMismatchCount c n) + 1) ∧
    ((s.fport c n).lastOff = some off → (s.missIndex c n off).isBitC c (Obj.fpStatus c n) fbSuspect = true) := by
  obtain ⟨hmark, hoffset, hcount⟩ := State.countMiss_records (s := s.keepIndex c n) (off := off) hn
  rw [State.keepIndex_g (o := Obj.fpIndexMismatchCount c n) c (by simp [Obj.fpIndexMismatchCount, Obj.indexRaw])
    (by simp [Obj.fpIndexMismatchCount, Obj.indexTime])] at hcount
  unfold State.missIndex
  split
  · rw [State.suspect_bit_ne _ _ _ (by decide), State.suspect_g _ _ _ (by simp [Obj.indexOffset, Obj.fpStatus]),
      State.suspect_g _ _ _ (by simp [Obj.fpIndexMismatchCount, Obj.fpStatus])]
    exact ⟨hmark, hoffset, hcount, fun _ => State.suspect_bit ..⟩
  · next hlast => exact ⟨hmark, hoffset, hcount, fun h => absurd h hlast⟩

/-- Objects apart from those that the check's outcome changes are as the event kept them. -/
theorem State.checkIndex_g (h : o.key ≠ (Obj.fpStatus c n).key ∧ o.key ≠ (Obj.indexOffset c n).key ∧
    o.key ≠ (Obj.fpIndexMismatchCount c n).key ∧ o.key ≠ (Obj.sedEvents c).key) :
    (s.checkIndex c n).g c o = (s.keepIndex c n).g c o := by
  cases hseen : s.isBitC c (Obj.fpStatus c n) fbIndexSeen with
  | false => rw [State.checkIndex_first hseen, State.g_bitC_key _ _ _ _ _ h.1, State.g_congr (State.updFport_regs ..)]
  | true =>
    rw [State.checkIndex_later hseen rfl]
    split
    · rw [State.g_congr (State.updFport_regs ..)]
    · rw [State.g_congr (State.updFport_regs ..), State.missIndex_g c h]

/-- An index event keeps RAW and its time, leaves RAW, and has been seen (R162). -/
theorem State.checkIndex_records (hn : n < 16) : (s.checkIndex c n).g c (Obj.indexRaw c n) = s.g c (Obj.fpRaw c n) ∧
    (s.checkIndex c n).g c (Obj.indexTime c n) = s.now ∧ (s.checkIndex c n).g c (Obj.fpRaw c n) = s.g c (Obj.fpRaw c n) ∧
    (s.checkIndex c n).isBitC c (Obj.fpStatus c n) fbIndexSeen = true := by
  obtain ⟨hraw, -, hindexRaw, htime, -, -⟩ := Obj.record_low c hn
  refine ⟨?_, ?_, ?_, ?_⟩
  · rw [State.checkIndex_g ⟨by simp [Obj.indexRaw, Obj.fpStatus], by simp [Obj.indexRaw, Obj.indexOffset],
      by simp [Obj.indexRaw, Obj.fpIndexMismatchCount], Obj.sedEvents_apart c hindexRaw⟩, State.keepIndex,
      State.g_setC_key _ _ _ _ (by simp [Obj.indexRaw, Obj.indexTime]), State.g_setC_self]
  · rw [State.checkIndex_g ⟨by simp [Obj.indexTime, Obj.fpStatus], by simp [Obj.indexTime, Obj.indexOffset],
      by simp [Obj.indexTime, Obj.fpIndexMismatchCount], Obj.sedEvents_apart c htime⟩, State.keepIndex, State.g_setC_self]
  · rw [State.checkIndex_g ⟨by simp [Obj.fpRaw, Obj.fpStatus], by simp [Obj.fpRaw, Obj.indexOffset],
      by simp [Obj.fpRaw, Obj.fpIndexMismatchCount], Obj.sedEvents_apart c hraw⟩,
      State.keepIndex_g c (by simp [Obj.fpRaw, Obj.indexRaw]) (by simp [Obj.fpRaw, Obj.indexTime])]
  · cases hseen : s.isBitC c (Obj.fpStatus c n) fbIndexSeen with
    | false => rw [State.checkIndex_first hseen, State.isBitC_bitC_self]
    | true =>
      rw [State.checkIndex_later hseen rfl]
      split
      · rw [State.isBitC_congr (State.updFport_regs ..), State.keepIndex_status, hseen]
      · rw [State.isBitC_congr (State.updFport_regs ..), State.missIndex_status hn (by decide) (by decide), hseen]

/-- The first index sets the reference. -/
theorem State.checkIndex_reference (h : s.isBitC c (Obj.fpStatus c n) fbIndexSeen = false) :
    ((s.checkIndex c n).fport c n).ref = (s.fport c n).raw64 := by
  rw [State.checkIndex_first h, State.fport_congr (State.bitC_fports ..), State.fport_updFport_self]

/-- A later index within the tolerance is counted by nothing; one beyond it is missed (R162). -/
theorem State.checkIndex_mismatch (hn : n < 16) (h : s.isBitC c (Obj.fpStatus c n) fbIndexSeen = true)
    (hoff : off = indexOff (s.fport c n).raw64 (s.fport c n).ref (s.g c (Obj.fpCountsPerRev c n))) :
    ((off.natAbs : Int) ≤ s.g c (Obj.fpIndexTol c n) →
      (s.checkIndex c n).g c (Obj.fpIndexMismatchCount c n) = s.g c (Obj.fpIndexMismatchCount c n)) ∧
    (s.g c (Obj.fpIndexTol c n) < off.natAbs → (s.checkIndex c n).isBitC c (Obj.fpStatus c n) fbMismatch = true ∧
      (s.checkIndex c n).g c (Obj.indexOffset c n) = off ∧
      (s.checkIndex c n).g c (Obj.fpIndexMismatchCount c n) = wrapU32 (s.g c (Obj.fpIndexMismatchCount c n) + 1) ∧
      ((s.fport c n).lastOff = some off → (s.checkIndex c n).isBitC c (Obj.fpStatus c n) fbSuspect = true)) := by
  rw [State.checkIndex_later h hoff]
  constructor
  · intro hnear
    rw [if_pos hnear, State.g_congr (State.updFport_regs ..), State.keepIndex_g c
      (by simp [Obj.fpIndexMismatchCount, Obj.indexRaw]) (by simp [Obj.fpIndexMismatchCount, Obj.indexTime])]
  · intro hfar
    simp only [if_neg (Int.not_le.2 hfar), State.isBitC_congr (State.updFport_regs ..), State.g_congr (State.updFport_regs ..)]
    exact State.missIndex_records hn

theorem State.checkIndex_pins : s.SamePins (s.checkIndex c n) := by
  cases hseen : s.isBitC c (Obj.fpStatus c n) fbIndexSeen with
  | false =>
    rw [State.checkIndex_first hseen]
    exact .of_updFport (f := fun x => { x with ref := (s.fport c n).raw64, lastOff := none }) (State.bitC_fports ..) fun _ => rfl
  | true =>
    have hmiss (off : Int) : s.SamePins (s.missIndex c n off) := .of_eq State.missIndex_fports
    rw [State.checkIndex_later hseen rfl]
    exact .ite (.of_updFport (f := fun x => { x with lastOff := none }) rfl fun _ => rfl)
      ((hmiss _).trans (.of_updFport rfl fun _ => by rfl))

theorem State.indexEvent_pins : s.SamePins (s.indexEvent c n) := by
  unfold State.indexEvent
  split
  · next a _ => exact .ite (s.homeAxis_pins a (.port, c, n) true) State.checkIndex_pins
  · exact State.checkIndex_pins

-- a quadrature error (R158)

/-- A quadrature error sets FORMAT_ERR and is counted, and of the port's other objects it changes none. -/
theorem State.quadError_records : (s.quadError c n).isBitC c (Obj.fpStatus c n) fbFormat = true ∧
    (s.quadError c n).g c (Obj.fpQuadErrCount c n) = wrapU32 (s.g c (Obj.fpQuadErrCount c n) + 1) ∧
    ∀ p : Obj, p.key ≠ (Obj.fpStatus c n).key → p.key ≠ (Obj.fpQuadErrCount c n).key → (s.quadError c n).g c p = s.g c p := by
  unfold State.quadError State.bumpC
  extract_lets again u w
  have hkey : (Obj.fpQuadErrCount c n).key ≠ (Obj.fpStatus c n).key := by simp [Obj.fpQuadErrCount, Obj.fpStatus]
  have hmark : u.isBitC c (Obj.fpStatus c n) fbFormat = true :=
    (State.isBitC_setC_key _ _ _ _ _ hkey.symm).trans (State.isBitC_bitC_self ..)
  have hcount : u.g c (Obj.fpQuadErrCount c n) = wrapU32 (s.g c (Obj.fpQuadErrCount c n) + 1) := by
    refine (State.g_setC_self ..).trans ?_
    rw [State.g_bitC_key _ _ _ _ _ hkey]
    rfl
  have hrest (p : Obj) (h : p.key ≠ (Obj.fpStatus c n).key) (k : p.key ≠ (Obj.fpQuadErrCount c n).key) :
      u.g c p = s.g c p := (State.g_setC_key _ _ _ _ k).trans (State.g_bitC_key _ _ _ _ _ h)
  have hw : w.isBitC c (Obj.fpStatus c n) fbFormat = u.isBitC c (Obj.fpStatus c n) fbFormat ∧
      ∀ p : Obj, p.key ≠ (Obj.fpStatus c n).key → w.g c p = u.g c p := by
    dsimp only [w]
    split
    · exact ⟨State.suspect_bit_ne _ _ _ (by decide), fun p h => State.suspect_g _ _ _ h⟩
    · exact ⟨rfl, fun _ _ => rfl⟩
  rw [State.isBitC_congr (State.updFport_regs ..), State.g_congr (State.updFport_regs ..), hw.1, hw.2 _ hkey]
  refine ⟨hmark, hcount, fun p h k => ?_⟩
  rw [State.g_congr (State.updFport_regs ..), hw.2 p h, hrest p h k]

theorem State.quadError_pins : s.SamePins (s.quadError c n) := by
  unfold State.quadError
  extract_lets again u w
  have hw : s.SamePins w := .ite (.of_eq (State.suspect_fports ..)) (.of_eq rfl)
  exact hw.trans (.of_updFport rfl fun _ => by rfl)

end

end

-- a sample of the pins

/-- A sample leaves the pins of a port as given. -/
def State.takePins (s : State) (c : Ch) (n : Nat) (a b z : Pin) : State :=
  s.updFport c n fun x => { x with pinA := a, pinB := b, pinZ := z }

/-- What the accepted levels of a sample count: nothing for a quadrature error. -/
def State.countEdges (s : State) (c : Ch) (n : Nat) (k : Option Int) : State :=
  match k with
  | none => s.quadError c n
  | some d => if d = 0 then s else s.count1 c n d

/-- What the levels that a sample accepted do in the port's mode `m`. -/
def State.actOnPins (s : State) (c : Ch) (n : Nat) (m : Int) (k : Option Int) (index : Bool) : State :=
  if m < 1 || 3 < m then s else if index then (s.countEdges c n k).indexEvent c n else s.countEdges c n k

section
variable {s : State} {c : Ch} {n : Nat}

/-- Counts leave FP_INDEX_MODE. -/
theorem State.countEdges_indexMode (k : Option Int) (_hn : n < 16) :
    (s.countEdges c n k).g c (Obj.fpIndexMode c n) = s.g c (Obj.fpIndexMode c n) := by
  have hmode : (Obj.fpIndexMode c n).key < (Obj.cmpControl c n 0).key ∧ (Obj.fpIndexMode c n).key ≠ (Obj.fpRaw c n).key ∧
      (Obj.fpIndexMode c n).key ≠ (Obj.fpPos c n).key ∧ (Obj.fpIndexMode c n).key ≠ (Obj.fpStatus c n).key ∧
      (Obj.fpIndexMode c n).key ≠ (Obj.fpQuadErrCount c n).key := by
    simp only [Obj.fpIndexMode, Obj.cmpControl, Obj.fpRaw, Obj.fpPos, Obj.fpStatus, Obj.fpQuadErrCount]
    omega
  obtain ⟨hlist, hraw, hpos, hstatus, hcount⟩ := hmode
  unfold State.countEdges
  split
  · exact State.quadError_records.2.2 _ hstatus hcount
  · split
    · rfl
    · exact s.count1_g _ (.inr ⟨hlist, hraw, hpos, hstatus⟩)

/-- The command of a sample on a port whose channel counts. -/
theorem execFpEdgeAccepted_counts (t : Nat) (n : Fin 8) (a b z : PinSample) {qa qb qz : Pin} {a₀ b₀ z₀ : Bool}
    (hc : s.counts c = true)
    (ha : qa = (s.fport c n).pinA.sample a (bit (s.g c (Obj.fpInvert c n)) 0) (s.gn c (Obj.fpFilter c n)) (max s.now t))
    (hb : qb = (s.fport c n).pinB.sample b (bit (s.g c (Obj.fpInvert c n)) 1) (s.gn c (Obj.fpFilter c n)) (max s.now t))
    (hz : qz = (s.fport c n).pinZ.sample z (bit (s.g c (Obj.fpInvert c n)) 2) (s.gn c (Obj.fpFilter c n)) (max s.now t))
    (ha₀ : a₀ = (s.fport c n).pinA.before qa (s.fport c n).from_) (hb₀ : b₀ = (s.fport c n).pinB.before qb (s.fport c n).from_)
    (hz₀ : z₀ = (s.fport c n).pinZ.before qz (s.fport c n).from_) :
    exec (.fpEdgeAccepted t c n a b z) s = .next (s.after t (((s.upTo t).takePins c n qa qb qz).actOnPins c n
      (s.g c (Obj.fpMode c n)) (edgeCount (s.g c (Obj.fpMode c n)) a₀ b₀ qa.level qb.level)
      (isIndex (s.g c (Obj.fpIndexMode c n)) a₀ b₀ z₀ qa.level qb.level qz.level))) := by
  have harm : exec (.fpEdgeAccepted t c n a b z) s = execFpEdgeAccepted t c n a b z s := rfl
  have hc' : ¬((!(s.upTo t).counts c) = true) := by
    rw [show (s.upTo t).counts c = s.counts c from rfl, hc]
    exact Bool.false_ne_true
  rw [harm]
  unfold execFpEdgeAccepted
  refine State.run_of_eq ?_
  rw [if_neg hc']
  unfold State.actOnPins
  rw [show s.g c (Obj.fpIndexMode c n) = ((s.upTo t).takePins c n qa qb qz).g c (Obj.fpIndexMode c n) from rfl,
    ← State.countEdges_indexMode (edgeCount (s.g c (Obj.fpMode c n)) a₀ b₀ qa.level qb.level) (by omega)]
  subst ha hb hz ha₀ hb₀ hz₀
  rfl

/-- Where a channel does not count, its samples do nothing (R180). -/
theorem execFpEdgeAccepted_idle (t : Nat) (n : Fin 8) (a b z : PinSample) (hc : s.counts c = false) :
    exec (.fpEdgeAccepted t c n a b z) s = .next (s.after t (s.upTo t)) := by
  have harm : exec (.fpEdgeAccepted t c n a b z) s = execFpEdgeAccepted t c n a b z s := rfl
  have hc' : (!(s.upTo t).counts c) = true := by
    rw [show (s.upTo t).counts c = s.counts c from rfl, hc]
    rfl
  rw [harm]
  exact State.run_of_eq (if_pos hc')

theorem State.countEdges_pins (k : Option Int) : s.SamePins (s.countEdges c n k) := by
  unfold State.countEdges
  split
  · exact State.quadError_pins
  · exact .ite (.of_eq rfl) (s.count1_pins c n _)

theorem State.actOnPins_pins (m : Int) (k : Option Int) (b : Bool) : s.SamePins (s.actOnPins c n m k b) :=
  .ite (.of_eq rfl) (.ite ((State.countEdges_pins k).trans State.indexEvent_pins) (State.countEdges_pins k))

/-- The levels of modes 0 and 4 do not act. -/
theorem State.actOnPins_idle {m : Int} (h : m < 1 ∨ 3 < m) (k : Option Int) (b : Bool) : s.actOnPins c n m k b = s :=
  if_pos (by simpa using h)

theorem State.actOnPins_counts {m : Int} (h₁ : 1 ≤ m) (h₃ : m ≤ 3) (k : Option Int) :
    s.actOnPins c n m k false = s.countEdges c n k := if_neg (by simp; omega)

theorem State.actOnPins_index {m : Int} (h₁ : 1 ≤ m) (h₃ : m ≤ 3) :
    s.actOnPins c n m (some 0) true = s.indexEvent c n := if_neg (by simp; omega)

/-- The axis of a source is one of the 32. -/
theorem State.axisOfSrc_lt {x : Src} {a : Nat} (h : s.axisOfSrc x = some a) : a < 32 :=
  List.mem_range.1 (List.mem_of_find?_eq_some h)

/-- An index event on a port of an armed axis homes the axis (R164). -/
theorem State.indexEvent_armed {a : Nat} (h : s.axisOfSrc (.port, c, n) = some a) (harm : s.isBit (Obj.axFbStatus a) afArmed = true) :
    s.indexEvent c n = s.homeAxis a (.port, c, n) true := by
  unfold State.indexEvent
  rw [h]
  exact if_pos harm

/-- Elsewhere it is checked (R162). -/
theorem State.indexEvent_check (h : s.axisOfSrc (.port, c, n) = none ∨
    ∃ a, s.axisOfSrc (.port, c, n) = some a ∧ s.isBit (Obj.axFbStatus a) afArmed = false) :
    s.indexEvent c n = s.checkIndex c n := by
  unfold State.indexEvent
  rcases h with h | ⟨a, h, harm⟩
  · rw [h]
  · rw [h]
    exact if_neg (by rw [harm]; exact Bool.false_ne_true)

/-- A level is accepted once it has been seen on more samples than the filter asks (R155). -/
theorem Pin.sample_accepts (p : Pin) (x : PinSample) (inv : Bool) (filter t : Nat) :
    (filter < x.samples → (p.sample x inv filter t).level = (x.level != inv) ∧ (p.sample x inv filter t).known = true) ∧
      (x.samples ≤ filter → (p.sample x inv filter t).level = p.level ∧ (p.sample x inv filter t).known = p.known) := by
  unfold Pin.sample
  refine ⟨fun h => ?_, fun h => ?_⟩
  · rw [if_pos h]
    exact ⟨rfl, rfl⟩
  · rw [if_neg (by omega)]
    exact ⟨rfl, rfl⟩

/-- The pulse of a compare list ends with its width, and not before (R175). -/
theorem execComparePulseEnd_ends (t : Nat) {b e : Nat} (n : Fin 8) (h : (s.fport c n).pulse = some (b, e)) :
    (e ≤ max s.now t → ∃ u, exec (.comparePulseEnd t c n) s = .next (s.after t u) ∧ (u.fport c n).pulse = none ∧
      u.regs = s.regs) ∧ (max s.now t < e → exec (.comparePulseEnd t c n) s = .next (s.after t (s.upTo t))) := by
  have hexec : exec (.comparePulseEnd t c n) s = .next (s.after t (if e ≤ max s.now t then
      (s.upTo t).updFport c n fun x => { x with pulse := none } else s.upTo t)) := by
    have harm : exec (.comparePulseEnd t c n) s = execComparePulseEnd t c n s := rfl
    rw [harm]
    unfold execComparePulseEnd
    refine State.run_of_eq ?_
    rw [State.upTo_fport, h]
    rfl
  refine ⟨fun hend => ⟨(s.upTo t).updFport c n fun x => { x with pulse := none }, by rw [hexec, if_pos hend], ?_, rfl⟩,
    fun hend => by rw [hexec, if_neg (by omega)]⟩
  rw [State.fport_updFport_self]

/-- What accepted edges change of the port's objects (R156 to R159): RAW and POS by a count, FORMAT_ERR and the count of errors
by a double edge. -/
theorem State.countEdges_records (hn : n < 16) (k : Option Int) : (k = some 0 → s.countEdges c n k = s) ∧
    (∀ d, k = some d → d ≠ 0 → (s.countEdges c n k).g c (Obj.fpRaw c n) = signed32 (s.g c (Obj.fpRaw c n) + d) ∧
      (s.countEdges c n k).g c (Obj.fpPos c n) = posAfter (signed32 (s.g c (Obj.fpRaw c n) + d)) (s.g c (Obj.fpPos c n)) ∧
      ∀ e o, e ≠ c → (s.countEdges c n k).g e o = s.g e o) ∧
    (k = none → (s.countEdges c n k).g c (Obj.fpRaw c n) = s.g c (Obj.fpRaw c n) ∧
      (s.countEdges c n k).g c (Obj.fpPos c n) = s.g c (Obj.fpPos c n) ∧
      (s.countEdges c n k).isBitC c (Obj.fpStatus c n) fbFormat = true ∧
      (s.countEdges c n k).g c (Obj.fpQuadErrCount c n) = wrapU32 (s.g c (Obj.fpQuadErrCount c n) + 1)) := by
  refine ⟨?_, ?_, ?_⟩
  · rintro rfl
    unfold State.countEdges
    exact if_pos rfl
  · rintro d rfl hd
    rw [show s.countEdges c n (some d) = s.count1 c n d from if_neg hd]
    exact ⟨s.count1_raw c d hn, s.count1_pos c d hn, fun e o he => s.count1_g d (.inl he)⟩
  · rintro rfl
    obtain ⟨hformat, hcount, hrest⟩ := State.quadError_records (s := s) (c := c) (n := n)
    exact ⟨hrest _ (by simp [Obj.fpRaw, Obj.fpStatus]) (by simp [Obj.fpRaw, Obj.fpQuadErrCount]),
      hrest _ (by simp [Obj.fpPos, Obj.fpStatus]) (by simp [Obj.fpPos, Obj.fpQuadErrCount]), hformat, hcount⟩

theorem State.takePins_pins (s : State) (c : Ch) (n : Nat) (a b z : Pin) :
    ((s.takePins c n a b z).fport c n).pins = (a, b, z) := by
  rw [State.takePins, State.fport_updFport_self]
  rfl

/-- A sample of the pins leaves what the index check reads of the port. -/
theorem State.takePins_index (s : State) (c : Ch) (n : Nat) (a b z : Pin) :
    ((s.takePins c n a b z).fport c n).raw64 = (s.fport c n).raw64 ∧ ((s.takePins c n a b z).fport c n).ref = (s.fport c n).ref ∧
      ((s.takePins c n a b z).fport c n).lastOff = (s.fport c n).lastOff := by
  rw [State.takePins, State.fport_updFport_self]
  exact ⟨rfl, rfl, rfl⟩

end

/-- Settles O31: a sample of the pins takes them (`State.takePins`) and then acts by the port's mode (`State.actOnPins`): the
counts, or the index event, which is checked or homes the axis. -/
theorem edgesMoveTheCounters : Obligations.EdgesMoveTheCounters := by
  refine ⟨fun t c n a b z qa qb qz m s hc hm ha hb hz a₀ b₀ z₀ ha₀ hb₀ hz₀ => ?_,
    fun t c n a b z s hc => execFpEdgeAccepted_idle t n a b z hc,
    fun p x inv filter t => p.sample_accepts x inv filter t, fun t b e c n s h => execComparePulseEnd_ends t n h⟩
  have hn : (n : Nat) < 16 := by omega
  have hexec := execFpEdgeAccepted_counts t n a b z hc ha hb hz ha₀ hb₀ hz₀
  rw [← hm] at hexec
  obtain ⟨hraw64, href, hlast⟩ := (s.upTo t).takePins_index c n qa qb qz
  have hpins := (s.upTo t).takePins_pins c n qa qb qz
  rw [State.upTo_fport] at hraw64 href hlast
  have hregs : ((s.upTo t).takePins c n qa qb qz).regs = s.regs := rfl
  have hnow : ((s.upTo t).takePins c n qa qb qz).now = max s.now t := rfl
  have hsource (x : Src) : ((s.upTo t).takePins c n qa qb qz).axisOfSrc x = s.axisOfSrc x := rfl
  generalize (s.upTo t).takePins c n qa qb qz = w at hexec hraw64 href hlast hpins hregs hnow hsource
  have hpins' := ((State.actOnPins_pins (s := w) (c := c) (n := n) m (edgeCount m a₀ b₀ qa.level qb.level)
    (isIndex (s.g c (Obj.fpIndexMode c n)) a₀ b₀ z₀ qa.level qb.level qz.level)).pins c n).trans hpins
  simp only [Fport.pins, Prod.mk.injEq] at hpins'
  obtain ⟨hqa, hqb, hqz⟩ := hpins'
  refine ⟨_, hexec, hqa, hqb, hqz, fun hidle => ?_, fun h₁ h₃ hindex => ?_, fun h₁ h₃ hcount hindex => ?_⟩
  · rw [State.actOnPins_idle hidle, hregs]
  · rw [hindex, State.actOnPins_counts h₁ h₃]
    simp only [← State.g_congr hregs]
    obtain ⟨hzero, hcounts, herror⟩ := State.countEdges_records hn (edgeCount m a₀ b₀ qa.level qb.level)
    exact ⟨fun h => by rw [hzero h, hregs], hcounts, herror⟩
  · rw [hcount, hindex, State.actOnPins_index h₁ h₃]
    simp only [← State.g_congr hregs, ← State.v_congr hregs, ← State.isBit_congr hregs, ← State.isBitC_congr hregs, ← hsource,
      ← hnow, ← hraw64, ← href, ← hlast]
    refine ⟨fun hunarmed => ?_, fun x hx harm => ?_⟩
    · rw [State.indexEvent_check hunarmed]
      obtain ⟨hindexRaw, htime, hraw, hseen⟩ := State.checkIndex_records (s := w) (c := c) hn
      exact ⟨hindexRaw, htime, hraw, hseen, State.checkIndex_reference, fun h off hoff => State.checkIndex_mismatch hn h hoff⟩
    · rw [State.indexEvent_armed hx harm]
      have hx := State.axisOfSrc_lt hx
      obtain ⟨hpos, hraw⟩ := w.homeAxis_counters (.port, c, n) hx true
      obtain ⟨hhomed, harmed⟩ := w.homeAxis_marks x (.port, c, n) true
      exact ⟨hpos, hraw, hhomed, harmed, w.homeAxis_indexTime hx c n⟩

end Sys2Proof.Machine
end

section
/-! ## Writes to the objects of feedback (O11) -/

namespace Sys2Proof.Machine

section
variable {s : State} {t : Nat} {cr : Carrier} {v : Int}

/-- The roles whose writes act on position sources, compare lists and homing (R160, R164, R176, R182, R186). -/
def feedbackRoles : List Role := [.cmpControl, .axHome, .fpPreset, .spPreset, .fpStatusClear, .spStatusClear]

/-- A row that writes such an object: the copies are as the effect `w` of its role leaves them, and the answer is sent. -/
theorem State.row_feeds {o : Obj} {r : Role} {i j m : Nat} {a : Acc} {hm : Home} {x : Instr} {w : State}
    (hx : exec x s = s.run t fun s => s.hostSet cr o v) (h : s.sets t cr o v = true) (he : o.isEntry r i j m a hm = true)
    (hr : r ∈ feedbackRoles) (ha : a ≠ .rws)
    (hw : ∀ e : Entry, e.desc.role = r → e.i = i → e.j = j → e.m = m → (s.heard t cr).writeNum cr e v = w) :
    ∃ u, exec x s = .next (s.after t u) ∧ u.acks cr ∧ ∀ d (p : Obj), p.unanswered → u.g d p = w.g d p := by
  obtain ⟨e₀, hfind, hrole₀, -⟩ := Obj.isEntry_elim he
  have hstore : o.key ≠ Obj.storeAll.key :=
    Obj.key_ne_storeAll hfind fun hs => absurd ((hrole₀.symm.trans hs) ▸ hr) (by decide)
  obtain ⟨e, q, tag, ⟨hrole, hi, hj, hm, -, -, hacc, -⟩, hacks, hset⟩ :=
    State.sets_acts h he (fun h => absurd (h ▸ hr) (by decide)) hstore
  have hplain : e.isRws = false ∧ e.desc.role ≠ .restoreDefaults := by
    rw [← hrole] at hr
    simp only [feedbackRoles, List.mem_cons, List.not_mem_nil, or_false] at hr
    rcases hr with hr | hr | hr | hr | hr | hr <;> simp [Entry.isRws, hacc, ha, hr]
  refine ⟨_, hx.trans (State.run_of_eq hset), hacks, fun d p hp => ?_⟩
  rw [State.respond_g _ _ _ _ _ _ _ _ _ hp, State.applyWrite_rw _ _ _ _ hplain.1 hplain.2, State.noteCommand_g, hw e hrole hi hj hm]

/-- No answer changes an object of an axis or of a source. -/
theorem Obj.unanswered_of_range {o : Obj} (h : 0x3000 * 256 ≤ o.key ∧ o.key < 0x5000 * 256) : o.unanswered := by
  simp only [Obj.unanswered, Obj.fabNoRoute, Obj.fabRateDrops, Obj.kdpAbortsSent]
  omega

theorem Obj.axFbStatus_unanswered {n : Nat} (_h : n < 32) : (Obj.axFbStatus n).unanswered :=
  Obj.unanswered_of_range (by simp only [Obj.axFbStatus]; omega)

/-- The objects of a source that the dictionary holds. -/
theorem Src.unanswered {x : Src} (h : x.2.2 < 16) : x.raw.unanswered ∧ x.pos.unanswered ∧ x.status.unanswered := by
  obtain ⟨kind, c, n⟩ := x
  have hn : n < 16 := h
  have hc := Ch.num_lt_three c
  have hrange : (0x3000 * 256 ≤ (Src.raw (kind, c, n)).key ∧ (Src.raw (kind, c, n)).key < 0x5000 * 256) ∧
      (0x3000 * 256 ≤ (Src.pos (kind, c, n)).key ∧ (Src.pos (kind, c, n)).key < 0x5000 * 256) ∧
      0x3000 * 256 ≤ (Src.status (kind, c, n)).key ∧ (Src.status (kind, c, n)).key < 0x5000 * 256 := by
    cases kind <;>
      simp only [Src.raw, Src.pos, Src.status, Obj.fpRaw, Obj.fpPos, Obj.fpStatus, Obj.spRaw, Obj.spPos, Obj.spStatus, Obj.resRaw,
        Obj.resPos, Obj.resStatus] <;> omega
  exact ⟨Obj.unanswered_of_range hrange.1, Obj.unanswered_of_range hrange.2.1, Obj.unanswered_of_range hrange.2.2⟩

end

section
variable (s : State) (c : Ch) (n : Nat) (v : Int)

-- CMP_CONTROL (R176)

theorem bit_emod_eight {i : Nat} (h : i < 3) : bit (v % 8) i = bit v i := by
  have hbit : v % 8 / 2 ^ i % 2 = v / 2 ^ i % 2 := by interval_cases i <;> omega
  rw [bit_eq, bit_eq, hbit]

/-- CMP_CONTROL holds bits 2 to 0 of what is written. -/
theorem State.writeCmpControl_bits (e : Nat) {i : Nat} (h : i < 3) :
    (s.writeCmpControl c n e v).isBitC c (Obj.cmpControl c n e) i = bit v i := by
  have hheld : (s.settleSteps.setC c (Obj.cmpControl c n e) (v % 8)).isBitC c (Obj.cmpControl c n e) i = bit v i := by
    rw [State.isBitC, State.g_setC_self, bit_emod_eight v h]
  unfold State.writeCmpControl State.judgeEntry
  split <;> exact (State.isBitC_congr (State.updFport_regs ..) ..).trans
    ((State.isBitC_bitC_ne _ _ _ _ (by omega)).trans hheld)

-- FP_STATUS_CLEAR and SP_STATUS_CLEAR (R182, R186)

theorem State.clearFpStatus_bits :
    (bit v 3 = true → (s.clearFpStatus c n v).isBitC c (Obj.fpStatus c n) fbFormat = false) ∧
    (bit v 5 = true → (s.clearFpStatus c n v).isBitC c (Obj.fpStatus c n) fbMismatch = false) := by
  have hoverrun (u : State) (p : Prop) [Decidable p] {i : Nat} (hi : i ≠ fbOverrun) :
      (if p then u.bitC c (Obj.fpStatus c n) fbOverrun false else u).isBitC c (Obj.fpStatus c n) i =
        u.isBitC c (Obj.fpStatus c n) i := by
    split
    · exact State.isBitC_bitC_ne _ _ _ _ hi
    · rfl
  unfold State.clearFpStatus
  dsimp only
  refine ⟨fun h3 => ?_, fun h5 => ?_⟩
  · rw [hoverrun _ _ (by decide), if_pos h3]
    split
    · rw [State.isBitC_bitC_ne _ _ _ _ (by decide), State.isBitC_bitC_self]
    · rw [State.isBitC_bitC_self]
  · rw [hoverrun _ _ (by decide), if_pos h5, State.isBitC_bitC_self]

theorem State.clearSpStatus_bit (h : bit v 3 = true) :
    (s.clearSpStatus c n v).isBitC c (Obj.spStatus c n) fbFormat = false := by
  unfold State.clearSpStatus
  rw [if_pos h, State.isBitC_bitC_self]

-- FP_PRESET and SP_PRESET (R160)

theorem State.clearSrcLatches_g (x : Src) {d : Ch} {o : Obj} (h : ∀ a < 32, o.key ≠ (Obj.latchCount a).key) :
    (s.clearSrcLatches x).g d o = s.g d o := by
  unfold State.clearSrcLatches
  split
  · next a ha => exact State.clearLatches_g _ _ _ (h a (State.axisOfSrc_lt ha))
  · rfl

/-- A preset leaves POS and RAW of the source at the value. -/
theorem State.preset_counters (x : Src) : (s.preset x v).g x.2.1 x.pos = v ∧ (s.preset x v).g x.2.1 x.raw = v := by
  obtain ⟨-, hraw, hpos⟩ := x.keys_apart
  have hlatch (a : Nat) (ha : a < 32) := (Obj.axis_belowSources ha).2.2.apart x
  have hset (o : Obj) (ho : ∀ a < 32, o.key ≠ (Obj.latchCount a).key) (hs : o.key ≠ x.status.key) :
      (s.preset x v).g x.2.1 o = (s.settleSteps.setCounters x v).g x.2.1 o := by
    unfold State.preset
    dsimp only
    split
    · rw [State.g_congr (State.checkHealth_regs _), State.g_bitC_key _ _ _ _ _ hs, State.clearSrcLatches_g _ _ ho]
    · exact State.clearSrcLatches_g _ _ ho
  rw [hset _ (fun a ha => (hlatch a ha).2.1.symm) hpos, hset _ (fun a ha => (hlatch a ha).1.symm) hraw,
    State.setCounters_pos, State.setCounters_raw]
  exact ⟨rfl, rfl⟩

-- AX_HOME (R164)

theorem State.setHome_sourceOf : (s.setR (Obj.axHome n) v).sourceOf n = s.sourceOf n := by
  rw [State.sourceOf, State.v_setR_key _ _ (by simp [Obj.axFbSource, Obj.axHome]), State.sourceOf]

/-- AX_HOME 1 arms an axis with a bound source. -/
theorem State.writeHome_arms (h : (s.sourceOf n).isSome = true) : (s.writeHome n 1).isBit (Obj.axFbStatus n) afArmed = true := by
  obtain ⟨x, hx⟩ := Option.isSome_iff_exists.1 h
  unfold State.writeHome
  dsimp only
  rw [State.setHome_sourceOf, hx]
  exact State.isBit_bitR_self ..

/-- AX_HOME 0 disarms the axis. -/
theorem State.writeHome_disarms : (s.writeHome n 0).isBit (Obj.axFbStatus n) afArmed = false := by
  unfold State.writeHome
  dsimp only
  rw [State.setHome_sourceOf]
  cases s.sourceOf n <;> exact State.isBit_bitR_self ..

/-- AX_HOME 2 homes the axis through its bound source. -/
theorem State.writeHome_homes {x : Src} (h : s.sourceOf n = some x) :
    s.writeHome n 2 = (s.setR (Obj.axHome n) 2).homeAxis n x false := by
  unfold State.writeHome
  dsimp only
  rw [State.setHome_sourceOf, h]
  rfl

variable {s n} {t : Nat} {cr : Carrier}

theorem State.heard_sourceOf : (s.heard t cr).sourceOf n = s.sourceOf n := by
  rw [State.sourceOf, State.heard_v, State.sourceOf]

/-- AX_HOME 1 is taken for an axis with a bound source alone (R164). -/
theorem State.sets_home_bound {n : Fin 32} (h : s.sets t cr (Obj.axHome n) 1 = true) : (s.sourceOf n).isSome = true := by
  obtain ⟨e, hfind, hrole, hi, -⟩ := Obj.isEntry_elim (entry_axHome n)
  simp only [State.sets, State.writes, hfind, Bool.and_eq_true, Option.isNone_iff_eq_none] at h
  obtain ⟨-, ⟨hfails, -⟩, -⟩ := h
  simp only [State.writeFails, hrole] at hfails
  have hnone := firstAbort_eq_none hfails
  simp only [State.valueFails, List.append_eq_nil_iff] at hnone
  obtain ⟨⟨-, -, ⟨⟨-, haxis⟩, -⟩, -⟩, -⟩ := hnone
  cases hsource : s.sourceOf n with
  | some x => rfl
  | none => simp [State.axisFails, hrole, hi, failIf, State.heard_sourceOf, hsource] at haxis

end

/-- Settles O11: each row answers with the copies as the effect of its role leaves them (`State.row_feeds`). -/
theorem feedbackWritesAct : Obligations.FeedbackWritesAct := by
  have hfb (n : Fin 32) := Obj.axFbStatus_unanswered n.isLt
  refine ⟨fun t cr c n e v s h => ?cmp, fun t cr n s h => ?arm, fun t cr n s h => ?disarm, fun t cr n x s h hsource => ?now,
    fun t cr c n v s h => ?fpPreset, fun t cr c n v s h => ?spPreset, fun t cr c n v s h => ?fpClear, fun t cr c n v s h => ?spClear⟩
  case cmp =>
    obtain ⟨u, hexec, hacks, hg⟩ := State.row_feeds (x := .cmpControl t cr c n e v) (w := (s.heard t cr).writeCmpControl c n e v)
      rfl h (entry_cmpControl c n e) (by decide) (by decide) fun e hrole hi hj hm => by
        simp [State.writeNum, State.writeTaskObj, State.writeAxisObj, State.writeChanObj, hrole, hi, hj, hm]
    have hobj : (Obj.cmpControl c n e).unanswered := Obj.unanswered_of_range (by
      have hc := Ch.num_lt_three c
      simp only [Obj.cmpControl]
      omega)
    exact ⟨u, hexec, hacks, fun i hi => (congrArg (bit · i) (hg c _ hobj)).trans (State.writeCmpControl_bits _ c n v e hi)⟩
  case arm =>
    obtain ⟨u, hexec, hacks, hg⟩ := State.row_feeds (x := .axHomeNextIndex t cr n) (w := (s.heard t cr).writeHome n 1)
      rfl h (entry_axHome n) (by decide) (by decide) fun e hrole hi _ _ => by
        simp [State.writeNum, State.writeTaskObj, State.writeAxisObj, hrole, hi]
    exact ⟨u, hexec, hacks, (congrArg (bit · afArmed) (State.v_eq_of_g_eq fun d => hg d _ (hfb n))).trans
      (State.writeHome_arms _ _ (by rw [State.heard_sourceOf]; exact State.sets_home_bound h))⟩
  case disarm =>
    obtain ⟨u, hexec, hacks, hg⟩ := State.row_feeds (x := .axHomeCancel t cr n) (w := (s.heard t cr).writeHome n 0)
      rfl h (entry_axHome n) (by decide) (by decide) fun e hrole hi _ _ => by
        simp [State.writeNum, State.writeTaskObj, State.writeAxisObj, hrole, hi]
    exact ⟨u, hexec, hacks, (congrArg (bit · afArmed) (State.v_eq_of_g_eq fun d => hg d _ (hfb n))).trans
      (State.writeHome_disarms ..)⟩
  case now =>
    obtain ⟨u, hexec, hacks, hg⟩ := State.row_feeds (x := .axHomeNow t cr n)
      (w := ((s.heard t cr).setR (Obj.axHome n) 2).homeAxis n x false)
      rfl h (entry_axHome n) (by decide) (by decide) fun e hrole hi _ _ => by
        rw [← State.writeHome_homes _ _ (State.heard_sourceOf.trans hsource)]
        simp [State.writeNum, State.writeTaskObj, State.writeAxisObj, hrole, hi]
    obtain ⟨-, hpos, -⟩ := Src.unanswered (x := x) (State.sourceOf_lt s n hsource)
    obtain ⟨hcounter, -⟩ := ((s.heard t cr).setR (Obj.axHome n) 2).homeAxis_counters x n.isLt false
    obtain ⟨hhomed, harmed⟩ := ((s.heard t cr).setR (Obj.axHome n) 2).homeAxis_marks n x false
    rw [State.v_setR_key _ _ (by simp [Obj.axHomeValue, Obj.axHome]), State.heard_v] at hcounter
    have hbit (i : Nat) := congrArg (bit · i) (State.v_eq_of_g_eq fun d => hg d _ (hfb n))
    exact ⟨u, hexec, hacks, (hg _ _ hpos).trans hcounter, (hbit afHomed).trans hhomed, (hbit afArmed).trans harmed⟩
  case fpPreset =>
    obtain ⟨u, hexec, hacks, hg⟩ := State.row_feeds (x := .fpPreset t cr c n v) (w := (s.heard t cr).preset (.port, c, n) v)
      rfl h (entry_fpPreset c n) (by decide) (by decide) fun e hrole hi hj _ => by
        simp [State.writeNum, State.writeTaskObj, State.writeAxisObj, State.writeChanObj, hrole, hi, hj]
    obtain ⟨hraw, hpos, -⟩ := Src.unanswered (x := (.port, c, n)) (n.isLt.trans (by decide))
    obtain ⟨hposv, hrawv⟩ := (s.heard t cr).preset_counters v (.port, c, n)
    exact ⟨u, hexec, hacks, (hg c _ hpos).trans hposv, (hg c _ hraw).trans hrawv⟩
  case spPreset =>
    obtain ⟨u, hexec, hacks, hg⟩ := State.row_feeds (x := .spPreset t cr c n v) (w := (s.heard t cr).preset (.sensor, c, n) v)
      rfl h (entry_spPreset c n) (by decide) (by decide) fun e hrole hi hj _ => by
        simp [State.writeNum, State.writeTaskObj, State.writeAxisObj, State.writeChanObj, hrole, hi, hj]
    obtain ⟨hraw, hpos, -⟩ := Src.unanswered (x := (.sensor, c, n)) (n.isLt.trans (by decide))
    obtain ⟨hposv, hrawv⟩ := (s.heard t cr).preset_counters v (.sensor, c, n)
    exact ⟨u, hexec, hacks, (hg c _ hpos).trans hposv, (hg c _ hraw).trans hrawv⟩
  case fpClear =>
    obtain ⟨u, hexec, hacks, hg⟩ := State.row_feeds (x := .fpStatusClear t cr c n v) (w := (s.heard t cr).clearFpStatus c n v)
      rfl h (entry_fpStatusClear c n) (by decide) (by decide) fun e hrole hi hj _ => by
        simp [State.writeNum, State.writeTaskObj, State.writeAxisObj, State.writeChanObj, hrole, hi, hj]
    obtain ⟨-, -, hstatus⟩ := Src.unanswered (x := (.port, c, n)) (n.isLt.trans (by decide))
    have hbit (i : Nat) := congrArg (bit · i) (hg c _ hstatus)
    obtain ⟨hformat, hmismatch⟩ := (s.heard t cr).clearFpStatus_bits c n v
    exact ⟨u, hexec, hacks, fun h3 => (hbit fbFormat).trans (hformat h3), fun h5 => (hbit fbMismatch).trans (hmismatch h5)⟩
  case spClear =>
    obtain ⟨u, hexec, hacks, hg⟩ := State.row_feeds (x := .spStatusClear t cr c n v) (w := (s.heard t cr).clearSpStatus c n v)
      rfl h (entry_spStatusClear c n) (by decide) (by decide) fun e hrole hi hj _ => by
        simp [State.writeNum, State.writeTaskObj, State.writeAxisObj, State.writeChanObj, hrole, hi, hj]
    obtain ⟨-, -, hstatus⟩ := Src.unanswered (x := (.sensor, c, n)) (n.isLt.trans (by decide))
    exact ⟨u, hexec, hacks, fun h3 => (congrArg (bit · fbFormat) (hg c _ hstatus)).trans (State.clearSpStatus_bit _ c n v h3)⟩

end Sys2Proof.Machine
end

section
/-! ## A PSI5 frame at a rate register that holds no rate (O33)

The model compares the rate of a frame with PSI5_RATE as an integer, where the statement compares it with the register read as a
natural number: a register below 0 reads there as rate 0. -/

namespace Sys2Proof.Machine

/-- Sensor port 0 of channel A in PSI5 mode, in the slot of the sync request of time 0, with −1 in PSI5_RATE. -/
def negativeRate : State :=
  ((({ State.reset with arch := { State.reset.arch with alive := Trio.all true } } : State).setC .chA (Obj.spMode .chA 0) 3).setC
    .chA (Obj.psi5Rate .chA 0) (-1)).updSport .chA 0 fun x => { x with syncAt := some 0, waits := true }

/-- Sixteen data bits of the value 0, the default length, with their CRC. -/
def zeroFrame : List Bool := List.replicate 16 false ++ psi5Check true (List.replicate 16 false)

/-- The model counts the frame, whose bits and check are right, as an error: no rate is −1. -/
theorem psi5Frame_negativeRate : ∃ s, exec (.psi5Frame 0 .chA 0 (44 * us) 0 zeroFrame) negativeRate = .next s ∧
    (s.sport .chA 0).errs = 1 :=
  ⟨_, rfl, by decide +kernel⟩

/-- Refutes O33: with −1 in PSI5_RATE (`negativeRate`), which the statement reads as rate 0, a frame of rate 0 whose bits and check
are right does not end the run of errors. -/
theorem not_sensorPortsAndResolversAct : ¬ Obligations.SensorPortsAndResolversAct := by
  unfold Obligations.SensorPortsAndResolversAct
  rintro ⟨⟨-, -, -, hframe, -⟩, -⟩
  obtain ⟨hinSlot, -⟩ := hframe 0 .chA 0 (44 * us) 0 zeroFrame 0 16 negativeRate (by decide) (by decide) (by decide) (by decide)
  obtain ⟨hgood, -⟩ := hinSlot (by decide) (by decide) (by decide)
  obtain ⟨u, hexec, -, hends, -⟩ := hgood (by decide) (by decide)
  obtain ⟨s, hexec', herrs⟩ := psi5Frame_negativeRate
  have hs : s = negativeRate.after 0 u := Host.Outcome.next.inj (hexec'.symm.trans hexec)
  rw [hs, State.sport, State.after_sports] at herrs
  exact absurd (hends.symm.trans herrs) (by decide)

end Sys2Proof.Machine
end

section
/-! ## The rate limiter (R201, R207) -/

namespace Sys2Proof.Machine

-- the values of the steps of a primary pass (R194, R195, R296)

theorem signed32_eq_self {x : Int} : signed32 x = x ↔ -2147483648 ≤ x ∧ x ≤ 2147483647 := by
  unfold signed32
  omega

theorem sat32_of_range {x : Int} (h : -2147483648 ≤ x ∧ x ≤ 2147483647) : sat32 x = x := by
  unfold sat32 clamp
  omega

theorem divRound_one (x : Int) : divRound x 1 = x := by
  have hneg : ((x < 0) = ((1 : Int) < 0)) ↔ 0 ≤ x := by simp
  unfold divRound
  simp only [Int.natAbs_one, one_ne_zero, if_false, hneg]
  split <;> omega

theorem shiftPoint_fst (flag : Bool) (l : List (Int × Int)) (den lo hi : Int) (b : Pass) :
    (shiftPoint flag l den lo hi b).1 = clamp lo hi (divRound (sumTerms l) den) := rfl

theorem add_fst (x y : Int) (b : Pass) : (add x y b).1 = sat32 (x + y) := by
  rw [add, satRnd, shiftPoint_fst, pow_zero, divRound_one, sat32]
  simp [sumTerms]

theorem limit_fst (lo hi x : Int) (b : Pass) : (limit lo hi x b).1 = clamp lo hi x := by
  rw [limit, shiftPoint_fst, divRound_one]
  simp [sumTerms]

-- one iteration

/-- y after an iteration that is not in first use: toward the input by at most RISE and FALL, then clamped (R207). -/
def LoopCfg.rated (f : LoopCfg) (y x : Int) : Int :=
  clamp f.lo f.hi (if y ≤ x then min x (y + (f.k 0).c) else max x (y - (f.k 1).c))

/-- A step that is limited to FALL and RISE ends between y and the input, or a whole limit away from y. -/
theorem add_clamp_sub {y x rise fall : Int} (hrise : 0 ≤ rise) (hfall : 0 ≤ fall) :
    y + clamp (-fall) rise (x - y) = if y ≤ x then min x (y + rise) else max x (y - fall) := by
  unfold clamp
  split <;> omega

section
variable {f : LoopCfg} {st : TaskSt} {x : Int} (b : Pass)

/-- The steps of an iteration that is not in first use: the limited difference, the sum and the clamp. -/
theorem rateLimiter_steps (hfirst : st.first = false) :
    (rateLimiter f st x b).1.outs = [(rateLimiter f st x b).1.st.x] ∧ (rateLimiter f st x b).1.st.x = (limit f.lo f.hi
      (add st.x (shiftPoint false [(1, x), (-1, st.x)] 1 (-(f.k 1).c) (f.k 0).c b).1 b).1 b).1 := by
  unfold rateLimiter
  rw [if_neg (by simp [hfirst])]
  exact ⟨rfl, rfl⟩

theorem rateLimiter_rated (hfirst : st.first = false) (hrise : 0 ≤ (f.k 0).c) (hfall : 0 ≤ (f.k 1).c)
    (hx : signed32 x = x) (hy : signed32 st.x = st.x) :
    (rateLimiter f st x b).1.outs = [f.rated st.x x] ∧ (rateLimiter f st x b).1.st.x = f.rated st.x x := by
  have hdiff : divRound (sumTerms [(1, x), (-1, st.x)]) 1 = x - st.x := by
    rw [divRound_one]
    simp [sumTerms, sub_eq_add_neg]
  have hrange : -2147483648 ≤ st.x + clamp (-(f.k 1).c) (f.k 0).c (x - st.x) ∧
      st.x + clamp (-(f.k 1).c) (f.k 0).c (x - st.x) ≤ 2147483647 := by
    rw [signed32_eq_self] at hx hy
    unfold clamp
    omega
  obtain ⟨houts, hstate⟩ := rateLimiter_steps b hfirst
  rw [shiftPoint_fst, hdiff, add_fst, sat32_of_range hrange, add_clamp_sub hrise hfall, limit_fst] at hstate
  exact ⟨by rw [houts, hstate, LoopCfg.rated], hstate⟩

end

-- a write of RISE or FALL

theorem entry_coef : ∀ (k : Fin 512) (b i : Fin 2), (Obj.coef k b i).isEntry .coef k b i .rw .repl = true := by decide +kernel

/-- A coefficient is a number. -/
theorem coef_isNumber {idx sub : Nat} {e : Entry} (h : findObj idx sub = some e) (hr : e.desc.role = .coef) :
    e.desc.ty = .int32 := by
  have hdicts : (dicts.flatten.all fun d => d.role != .coef || d.ty == .int32) = true := by decide +kernel
  rcases findObj_mem h with ⟨hd, -⟩ | hcount
  · simpa [hr] using List.all_eq_true.1 hdicts _ hd
  · rw [hr] at hcount
    cases hcount

/-- Of aborts among which none comes before the first in the order of R83, that one is answered. -/
theorem firstAbort_cons {a : Abort} {l : List Abort} (h : ∀ x ∈ l, a.rank ≤ x.rank) : firstAbort (a :: l) = some a := by
  unfold firstAbort
  rw [List.foldl_cons]
  induction l with
  | nil => rfl
  | cons x l ih =>
    rw [List.foldl_cons]
    dsimp only
    rw [if_neg (Nat.not_lt.2 (h x List.mem_cons_self))]
    exact ih fun y hy => h y (List.mem_cons_of_mem x hy)

theorem mem_failIf {b : Bool} {code detail : Nat} {a : Abort} (h : a ∈ failIf b code detail) : a = (code, detail) := by
  cases b
  · cases h
  · exact List.mem_singleton.1 h

section
variable {s : State} {cr : Carrier} {e : Entry} {v : Int}

/-- The checks on the twin's side come late in the order of R83. -/
theorem State.twinFails_rank {a : State} {x : Abort} (h : x ∈ s.twinFails a e) : 7 ≤ x.rank := by
  simp only [State.twinFails, List.mem_append] at h
  rcases h with ((h | h) | h) | h <;> rw [mem_failIf h] <;> decide

/-- A negative RISE or FALL of a rate limiter that passes the checks of access aborts with 0x0607 (R201). -/
theorem State.writeFails_negative_rate {k i : Nat} {o : Obj} (hi : i < 2) (hty : s.taskTy k = 6)
    (hk : o.key ≠ (Obj.taskType k).key)
    (he : e.desc.role = .coef ∧ e.i = k ∧ e.m = i ∧ e.obj = o ∧ e.desc.home = .repl ∧ e.desc.ty = .int32) (hneg : v < 0)
    (haccess : firstAbort (s.accessFails cr e 1) = none) :
    s.writeFails (s.rawSet e (.num v)) cr e (.num v) 1 = some (0x0607, 0) := by
  obtain ⟨hrole, hi', hm, hobj, hhome, hint⟩ := he
  have hset : s.rawSet e (.num v) = s.setR o v := by
    simp [State.rawSet, hrole, hhome, hobj]
  have hrel : (s.setR o v).relationOk e = false := by
    have hty' : (s.setR o v).taskTy k = 6 := by
      rw [State.taskTy, State.vn, State.v_setR_key _ _ hk.symm, ← State.vn, ← State.taskTy, hty]
    simp [State.relationOk, hrole, hi', hm, hobj, hty', hneg, hi]
  have hvalue : s.valueFails (s.setR o v) cr e (.num v) = (0x0607, 0) :: s.bankFails k e.j := by
    simp [State.valueFails, lengthOk, hint, Ty.isString, hrel, failIf, State.mapFails, State.taskFails, State.axisFails,
      State.channelFails, State.deviceFails, hrole, hi']
  simp only [State.writeFails, hrole, firstAbort_eq_none haccess, hset, hvalue, List.nil_append, List.cons_append]
  refine firstAbort_cons fun x hx => ?_
  rcases List.mem_append.1 hx with hx | hx
  · rw [mem_failIf hx]
    decide
  · exact State.twinFails_rank hx

end

/-- Settles O37: an iteration moves y by the limited difference (`rateLimiter_rated`), and a negative rate fails the relation
that a rate limiter's bank must keep. -/
theorem rateLimiterFollowsItsInput : Obligations.RateLimiterFollowsItsInput := by
  refine ⟨fun f st x b hfirst hrise hfall hx hy => ?_, fun cr k bank i v e s hty he _ hneg haccess => ?_⟩
  · obtain ⟨houts, hstate⟩ := rateLimiter_rated b hfirst hrise hfall hx hy
    refine ⟨houts, hstate, fun h0 hle => ?_, fun h0 hle => ?_⟩
    · rw [houts, LoopCfg.rated, if_pos hle, h0, add_zero, min_eq_right hle]
    · rw [houts, LoopCfg.rated, h0]
      split
      · next hge => rw [le_antisymm hge hle, min_eq_left (by omega)]
      · rw [sub_zero, max_eq_right hle]
  · obtain ⟨e', he', hrole, hi, -, hm, hobj, -, -, hhome⟩ := Obj.isEntry_elim (entry_coef k bank i)
    obtain rfl : e' = e := Option.some.inj (he'.symm.trans he)
    refine State.writeFails_negative_rate i.isLt hty ?_ ⟨hrole, hi, hm, hobj, hhome, coef_isNumber he hrole⟩ hneg haccess
    simp only [Obj.coef, Obj.taskType]
    omega

end Sys2Proof.Machine
end

section
/-! ## Rows that write tasks, axes and groups: the effect of the role, and the answer (R61, R72) -/

namespace Sys2Proof.Machine

/-- The roles of the rows of tasks, traces, axes and groups. -/
def commandRoles : List Role :=
  [.bankSelect, .axFaultClear, .traceControl, .axTorqueEnable, .pgTarget, .pgControl, .agControl, .agForceTotal]

/-- A state holds what the effect `w` of a write leaves of tasks, traces, axes, generators and groups, and of every object that no
answer changes. -/
structure State.Shows (u w : State) : Prop where
  tasks : u.tasks = w.tasks
  traces : u.traces = w.traces
  axes : u.axes = w.axes
  gens : u.gens = w.gens
  groups : u.groups = w.groups
  copy : ∀ (c : Ch) (o : Obj), o.unanswered → u.g c o = w.g c o

section
variable {u w : State}

theorem State.Shows.task (h : u.Shows w) (k : Nat) : u.task k = w.task k := by rw [State.task, h.tasks, State.task]

theorem State.Shows.taskSt (h : u.Shows w) (c : Ch) (k : Nat) : u.taskSt c k = w.taskSt c k := by
  rw [State.taskSt, h.task, State.taskSt]

theorem State.Shows.trace (h : u.Shows w) (k : Nat) : u.trace k = w.trace k := by rw [State.trace, h.traces, State.trace]

theorem State.Shows.axis (h : u.Shows w) (n : Nat) : u.axis n = w.axis n := by rw [State.axis, h.axes, State.axis]

theorem State.Shows.gen (h : u.Shows w) (n : Nat) : u.gen n = w.gen n := by rw [State.gen, h.gens, State.gen]

theorem State.Shows.group (h : u.Shows w) (g : Nat) : u.group g = w.group g := by rw [State.group, h.groups, State.group]

theorem State.Shows.v (h : u.Shows w) {o : Obj} (ho : o.unanswered) : u.v o = w.v o :=
  State.v_eq_of_g_eq fun c => h.copy c o ho

end

/-- Objects of the axes, tasks, traces, generators and groups lie between those that an answer changes. -/
theorem Obj.unanswered_of_block {o : Obj} (h : 0x3000 * 256 ≤ o.key ∧ o.key < 0x7000 * 256) : o.unanswered := by
  simp only [Obj.unanswered, Obj.fabNoRoute, Obj.fabRateDrops, Obj.kdpAbortsSent]
  omega

section
variable {s w : State} {t : Nat} {cr : Carrier} {o : Obj} {v : Int} {r : Role} {n : Nat} {x : Instr}

/-- A row that writes such an object leaves what the effect `w` of its role leaves, and the answer is sent. -/
theorem State.row_shows (hx : exec x s = s.run t fun s => s.hostSet cr o v) (h : s.sets t cr o v = true)
    (he : o.isEntry r n 0 0 .rw .repl = true) (hr : r ∈ commandRoles)
    (hw : ∀ e : Entry, e.desc.role = r → e.i = n → e.obj = o → e.desc.home = .repl → (s.heard t cr).writeNum cr e v = w) :
    ∃ u, exec x s = .next (s.after t u) ∧ u.acks cr ∧ u.Shows w := by
  obtain ⟨e₀, hfind, hrole₀, -⟩ := Obj.isEntry_elim he
  have hstore : o.key ≠ Obj.storeAll.key :=
    Obj.key_ne_storeAll hfind fun hs => absurd ((hrole₀.symm.trans hs) ▸ hr) (by decide)
  obtain ⟨e, q, tag, ⟨hrole, hi, -, -, hobj, -, hacc, hhome⟩, hacks, hset⟩ :=
    State.sets_acts h he (fun h => absurd (h ▸ hr) (by decide)) hstore
  have hplain : e.isRws = false ∧ e.desc.role ≠ .restoreDefaults := by
    rw [← hrole] at hr
    simp only [commandRoles, List.mem_cons, List.not_mem_nil, or_false] at hr
    rcases hr with hr | hr | hr | hr | hr | hr | hr | hr <;> simp [Entry.isRws, hacc, hr]
  have hwrite : (s.heard t cr).applyWrite cr e (.num v) = w.noteCommand cr e := by
    rw [State.applyWrite_rw _ _ _ _ hplain.1 hplain.2, hw e hrole hi hobj hhome]
  rw [hwrite] at hset hacks
  refine ⟨_, hx.trans (State.run_of_eq hset), hacks, ⟨by simp, by simp, by simp, by simp, by simp, fun c p hp => ?_⟩⟩
  rw [State.respond_g _ _ _ _ _ _ _ _ _ hp, State.noteCommand_g]

end

end Sys2Proof.Machine
end

section
/-! ## Writes to bank selection, faults of an axis and trace control (O12) -/

namespace Sys2Proof.Machine

section
variable (s : State) (k : Nat) (v : Int)

-- BANK_SELECT (R210, R212)

theorem State.bankOf_congr {s u : State} (h : u.tasks = s.tasks) (k : Nat) : u.bankOf k = s.bankOf k := by
  have ht (k : Nat) : u.task k = s.task k := by rw [State.task, h, State.task]
  simp only [State.bankOf, State.taskSt, State.ownerCh, ht]

/-- A disabled task changes bank at once (R212). -/
theorem State.writeBankSelect_disabled (h : s.v (Obj.taskEnable k) ≠ 1) :
    ((s.writeBankSelect k v).task k).swap = none ∧ ∀ c, ((s.writeBankSelect k v).taskSt c k).bank = v.toNat := by
  unfold State.writeBankSelect
  dsimp only
  rw [if_pos (by simpa [State.v_setR_key, Obj.taskEnable, Obj.bankSelect] using h)]
  simp only [State.taskSt, State.task_updTask_self, Trio.get_map]
  exact ⟨trivial, fun _ => trivial⟩

/-- An enabled task asks for a swap to another bank, and drops a pending one for the bank in use (R210). -/
theorem State.writeBankSelect_enabled (h : s.v (Obj.taskEnable k) = 1) : ∃ a, a ≤ s.now ∧
    ((s.writeBankSelect k v).task k).swap = if v.toNat = s.bankOf k then none else some (v.toNat, a) := by
  have henabled : (s.setR (Obj.bankSelect k) v).v (Obj.taskEnable k) = 1 :=
    (State.v_setR_key _ _ (by simp only [Obj.taskEnable, Obj.bankSelect]; omega)).trans h
  unfold State.writeBankSelect State.askSwap
  dsimp only
  rw [if_neg (by simp only [henabled]; decide)]
  refine ⟨_, ?_, by rw [State.task_updTask_self, State.bankOf_congr (State.setR_tasks ..)]⟩
  split
  · split
    · exact Nat.min_le_right ..
    · exact le_refl _
  · exact le_refl _

-- AX_FAULT_CLEAR (R217, R250)

theorem State.startTask_axes : (s.startTask k).axes = s.axes := by
  have hapart : Apart (·.axes) := ⟨fun _ _ _ => rfl, fun _ _ _ => rfl, fun _ _ _ => rfl, fun _ _ => rfl⟩
  unfold State.startTask State.genRestart
  dsimp only
  repeat' split
  all_goals simp only [hapart.releadGroup, State.updGroup_axes, State.updGen_axes, State.firstUse, State.updTask_axes]

/-- The causes of an axis whose condition still holds stay latched (R217). -/
def State.causesLeft (n : Nat) : List (Nat × Nat) := (s.axis n).causes.filter fun p => s.causeHolds n p.1

/-- Clearing the faults of an axis leaves the causes that still hold latched and OC_TRIPPED clear (R217, R250). -/
theorem State.clearFault_axis (n : Nat) : ((s.clearFault n).axis n).causes = s.causesLeft n ∧
    ((s.clearFault n).axis n).ocTripped = Trio.all false := by
  have hbits (l : List Nat) (f : Nat → Bool) (u : State) :
      (forEach l u fun u b => u.bitR (Obj.axFaultCause n) b (f b)).axes = u.axes := by
    refine forEach_eq (·.axes) _ (fun u b => ?_) l u
    rfl
  have htasks (l : List Nat) (f : TaskSt → TaskSt) (u : State) :
      (forEach l u fun u k => (u.startTask k).updTask k fun r => { r with st := r.st.map f }).axes = u.axes := by
    refine forEach_eq (·.axes) _ (fun u k => ?_) l u
    exact State.startTask_axes ..
  unfold State.clearFault
  dsimp only
  rw [State.axis, htasks, State.setR_axes, hbits, ← State.axis, State.axis_updAxis_self]
  exact ⟨rfl, rfl⟩

/-- With no cause left the axis's reaction ends (R217). -/
theorem State.clearFault_reaction (n : Nat) (h : s.causesLeft n = []) : (s.clearFault n).v (Obj.axReaction n) = 0 := by
  have htasks (l : List Nat) (f : TaskSt → TaskSt) (u : State) :
      (forEach l u fun u k => (u.startTask k).updTask k fun r => { r with st := r.st.map f }).v (Obj.axReaction n) =
        u.v (Obj.axReaction n) :=
    forEach_eq (·.v (Obj.axReaction n)) _ (fun u k => (State.v_congr (State.updTask_regs ..) _).trans
      (State.startTask_v _ _ (by simp only [Obj.axReaction]; omega))) l u
  unfold State.clearFault
  dsimp only
  rw [htasks, State.v_setR_self, ← State.causesLeft, h]
  rfl

-- TRACE_CONTROL (R226, R228)

/-- Arming the trace of a task with an owner channel: armed in that channel, which TRACE_CHANNEL shows (R226). -/
theorem State.armTrace_arms {c : Ch} (h : s.ownerCh k = some c) : ((s.armTrace k).trace k).state = 1 ∧
    ((s.armTrace k).trace k).chan = some c ∧ (s.armTrace k).v (Obj.traceChannel k) = c.num := by
  unfold State.armTrace
  rw [h]
  dsimp only
  have hkey : (Obj.traceChannel k).key ≠ (Obj.traceDropped k).key := by
    simp only [Obj.traceChannel, Obj.traceDropped]
    omega
  rw [State.trace_updTrace_self, State.v_congr (State.updTrace_regs ..)]
  exact ⟨rfl, rfl, (State.v_setR_key _ _ hkey).trans (State.v_setR_self ..)⟩

end

end Sys2Proof.Machine
end

section
/-! ## Writes to bank selection, faults of an axis and trace control (O12) -/

namespace Sys2Proof.Machine

theorem Obj.unanswered_axReaction (n : Fin 32) : (Obj.axReaction n).unanswered :=
  Obj.unanswered_of_block (by simp only [Obj.axReaction]; omega)

theorem Obj.unanswered_traceChannel (k : Fin 512) : (Obj.traceChannel k).unanswered :=
  Obj.unanswered_of_block (by simp only [Obj.traceChannel]; omega)

/-- A write to TRACE_CONTROL leaves what its value does to the trace (R226, R228). -/
theorem State.traceControl_shows {s : State} {t : Nat} {cr : Carrier} {k : Fin 512} {v : Int} {x : Instr}
    (hx : exec x s = s.run t fun s => s.hostSet cr (Obj.traceControl k) v) (h : s.sets t cr (Obj.traceControl k) v = true) :
    ∃ u, exec x s = .next (s.after t u) ∧ u.acks cr ∧ u.Shows ((s.heard t cr).writeTraceControl k v) :=
  State.row_shows hx h (entry_traceControl k) (by decide) fun e hrole hi _ _ => by
    simp [State.writeNum, State.writeTaskObj, hrole, hi]

/-- Settles O12: each row answers with the state as the effect of its role leaves it (`State.row_shows`). -/
theorem taskAndTraceWritesAct : Obligations.TaskAndTraceWritesAct := by
  refine ⟨fun t cr k v s h => ?bank, fun t cr n v s h => ?fault, fun t cr k c s h howner => ?arm, fun t cr k s h hruns => ?stop,
    fun t cr k s h harmed => ?trigger, fun t cr k s h => ?release⟩
  case bank =>
    obtain ⟨u, hexec, hacks, hu⟩ := State.row_shows (x := .bankSelect t cr k v) (w := (s.heard t cr).writeBankSelect k v)
      rfl h (entry_bankSelect k) (by decide) fun e hrole hi _ _ => by
        simp [State.writeNum, State.writeTaskObj, hrole, hi]
    have hbank : (s.heard t cr).bankOf k = s.bankOf k := State.bankOf_congr (State.heard_tasks ..) k
    have henabled (he : s.v (Obj.taskEnable k) = 1) := (s.heard t cr).writeBankSelect_enabled k v ((State.heard_v ..).trans he)
    simp only [hbank, State.heard_now] at henabled
    refine ⟨u, hexec, hacks, fun he => ?_, fun he hv => ?_, fun he hv => ?_⟩
    · have hset := (s.heard t cr).writeBankSelect_disabled k v (by rwa [State.heard_v])
      exact ⟨(congrArg (·.swap) (hu.task k)).trans hset.1, fun c => (congrArg (·.bank) (hu.taskSt c k)).trans (hset.2 c)⟩
    · obtain ⟨a, -, hswap⟩ := henabled he
      exact (congrArg (·.swap) (hu.task k)).trans (hswap.trans (if_pos hv))
    · obtain ⟨a, ha, hswap⟩ := henabled he
      exact ⟨a, ha, (congrArg (·.swap) (hu.task k)).trans (hswap.trans (if_neg hv))⟩
  case fault =>
    obtain ⟨u, hexec, hacks, hu⟩ := State.row_shows (x := .axFaultClear t cr n v) (w := (s.heard t cr).clearFault n)
      rfl h (entry_axFaultClear n) (by decide) fun e hrole hi _ _ => by
        simp [State.writeNum, State.writeTaskObj, State.writeAxisObj, hrole, hi]
    have hleft : (s.heard t cr).causesLeft n = (s.axis n).causes.filter fun p => (s.heard t cr).causeHolds n p.1 := by
      rw [State.causesLeft, State.axis, State.heard_axes, ← State.axis]
    obtain ⟨hcauses, htripped⟩ := (s.heard t cr).clearFault_axis n
    refine ⟨u, hexec, hacks, (congrArg (·.causes) (hu.axis n)).trans (hcauses.trans hleft),
      (congrArg (·.ocTripped) (hu.axis n)).trans htripped, fun hnone => ?_⟩
    rw [hu.v (Obj.unanswered_axReaction n)]
    refine State.clearFault_reaction _ n (hleft.trans (List.filter_eq_nil_iff.2 fun p hp => ?_))
    simpa using List.all_eq_true.1 hnone p hp
  case arm =>
    obtain ⟨u, hexec, hacks, hu⟩ := State.traceControl_shows (x := .traceArm t cr k) rfl h
    obtain ⟨hstate, hchan, hshown⟩ := (s.heard t cr).armTrace_arms k
      (by rw [State.ownerCh, State.task, State.heard_tasks, ← State.task, ← State.ownerCh]; exact howner)
    exact ⟨u, hexec, hacks, (congrArg (·.state) (hu.trace k)).trans hstate, (congrArg (·.chan) (hu.trace k)).trans hchan,
      (hu.v (Obj.unanswered_traceChannel k)).trans hshown⟩
  case stop =>
    obtain ⟨u, hexec, hacks, hu⟩ := State.traceControl_shows (x := .traceStop t cr k) rfl h
    have hstop : ((s.heard t cr).writeTraceControl k 0).trace k = { s.trace k with state := 4, cause := 1 } := by
      rw [State.writeTraceControl, State.stopTrace, State.trace_updTrace_self, State.trace, State.heard_traces, ← State.trace]
      exact if_pos (by simpa using hruns)
    rw [← hu.trace] at hstop
    exact ⟨u, hexec, hacks, congrArg (·.state) hstop, congrArg (·.cause) hstop⟩
  case trigger =>
    obtain ⟨u, hexec, hacks, hu⟩ := State.traceControl_shows (x := .traceHostTrigger t cr k) rfl h
    have hfire : ((s.heard t cr).writeTraceControl k 2).trace k = { s.trace k with fire := true } := by
      rw [State.writeTraceControl, State.trace_updTrace_self, State.trace, State.heard_traces, ← State.trace]
      exact if_pos (by simpa using harmed)
    rw [← hu.trace] at hfire
    exact ⟨u, hexec, hacks, congrArg (·.fire) hfire, (congrArg (·.state) hfire).trans harmed⟩
  case release =>
    obtain ⟨u, hexec, hacks, hu⟩ := State.traceControl_shows (x := .traceRelease t cr k) rfl h
    have hidle : ((s.heard t cr).writeTraceControl k 3).trace k = {} := by
      rw [State.writeTraceControl, State.trace_updTrace_self]
    refine ⟨u, hexec, hacks, (congrArg (·.state) (hu.trace k)).trans (congrArg (·.state) hidle), ?_⟩
    rw [hu.v (Obj.unanswered_traceChannel k), State.writeTraceControl, State.v_congr (State.updTrace_regs ..), State.v_setR_self]

end Sys2Proof.Machine
end

section
/-! ## Stops and targets of generators and groups: what each leaves (R269, R273, R274, R276 to R278) -/

namespace Sys2Proof.Machine

/-- Two states hold the same groups: the member words and the modes (R276, R290). -/
structure State.SameForm (u s : State) : Prop where
  member : ∀ g < 16, ∀ m < 8, u.member g m = s.member g m
  mode : ∀ g < 16, u.v (Obj.agMode g) = s.v (Obj.agMode g)

theorem findSome?_congr_mem {α β : Type} {f g : α → Option β} {l : List α} (h : ∀ x ∈ l, f x = g x) :
    l.findSome? f = l.findSome? g := by
  induction l with
  | nil => rfl
  | cons x l ih => rw [List.findSome?_cons, List.findSome?_cons, h x List.mem_cons_self,
      ih fun y hy => h y (List.mem_cons_of_mem x hy)]

section
variable {s u : State}

theorem State.SameForm.of_regs (h : u.regs = s.regs) : u.SameForm s :=
  ⟨fun _ _ _ _ => State.v_congr h _, fun _ _ => State.v_congr h _⟩

theorem State.memberAxis_congr (h : u.regs = s.regs) (g m : Nat) : u.memberAxis g m = s.memberAxis g m := by
  rw [State.memberAxis, State.member, State.v_congr h, State.memberAxis, State.member]

theorem State.isRemote_congr (h : u.regs = s.regs) (g m : Nat) : u.isRemote g m = s.isRemote g m := by
  rw [State.isRemote, State.inUse, State.member, State.v_congr h, State.isRemote, State.inUse, State.member]

theorem State.members_congr (h : u.regs = s.regs) (g : Nat) : u.members g = s.members g :=
  List.filter_congr fun m _ => by rw [State.inUse, State.member, State.v_congr h, State.inUse, State.member]

theorem State.SameForm.groupOf (h : u.SameForm s) (n : Nat) : u.groupOf n = s.groupOf n := by
  refine findSome?_congr_mem fun g hg => ?_
  have hmember (m : Nat) (hm : m ∈ upto 8) := h.member g (List.mem_range.1 hg) m (List.mem_range.1 hm)
  have hmembers : u.members g = s.members g :=
    List.filter_congr fun m hm => by rw [State.inUse, hmember m hm, State.inUse]
  rw [hmembers, List.find?_congr fun m hm => ?_]
  have hword := hmember m (List.mem_of_mem_filter hm)
  simp only [State.isRemote, State.memberAxis, State.inUse, hword]

theorem State.SameForm.jointGroup (h : u.SameForm s) (n : Nat) : u.jointGroup n = s.jointGroup n := by
  unfold State.jointGroup
  rw [h.groupOf]
  split
  next g m hg => rw [h.mode g (State.groupOf_lt s n hg)]
  · rfl

end

section
variable (s : State) (n g m : Nat) (q : Bool) (v : Int)

/-- An axis of a group whose members move alone, or of a follower of the twin, moves by itself (R276). -/
theorem State.jointGroup_none {s : State} {n g m : Nat} (h : s.groupOf n = some (g, m))
    (hmode : s.v (Obj.agMode g) = 0 ∨ s.v (Obj.agMode g) = 3) : s.jointGroup n = none := by
  rw [State.jointGroup, h]
  rcases hmode with hmode | hmode <;> simp [hmode]

theorem State.jointGroup_some {s : State} {n g m : Nat} (h : s.groupOf n = some (g, m)) (hmode : s.v (Obj.agMode g) = 1) :
    s.jointGroup n = some g := by
  rw [State.jointGroup, h]
  simp [hmode]

-- stops of groups

/-- A group move that is told to stop: a STOP does not replace a recorded stop, a QUICK_STOP no recorded QUICK_STOP (R274). -/
def GMove.told (x : GMove) (q : Bool) (start : Nat) : GMove :=
  if x.stops.head?.any (fun y => y.quick || !q) then x else { x with stops := { quick := q, start := start } :: x.stops }

/-- The stop that a move told to stop has recorded: a quick one where it was told so or had a quick one (R274). -/
theorem GMove.told_quick (x : GMove) (start : Nat) : (x.told q start).stops.head?.map (·.quick) =
    some ((x.stops.head?.map (·.quick)).getD false || q) := by
  unfold GMove.told
  cases hstops : x.stops with
  | nil => simp
  | cons y l => cases hy : y.quick <;> cases q <;> simp [hstops, hy]

/-- A stop of a group leaves nothing pending, and its running move is told to stop (R273, R274, R278). -/
theorem State.stopGroup_group : ((s.stopGroup g q).group g).pend = [] ∧ ((s.stopGroup g q).group g).pendTotal = none ∧
    ∃ start, ((s.stopGroup g q).group g).move = (s.group g).move.map (·.told q start) := by
  have hloop (l : List Nat) (u : State) : (forEach l u fun s m =>
      if s.isRemote g m then s else s.updGen (s.memberAxis g m) fun x => { x with pend := none }).group g = u.group g := by
    refine forEach_eq (·.group g) _ (fun u m => ?_) l u
    split <;> rfl
  have hsent (u : State) (x : GMove) (at_ : Nat) (y : Option GStop) : (u.describe g x at_ y).group g = u.group g := by
    unfold State.describe
    split <;> rfl
  unfold State.stopGroup
  extract_lets cleared u
  have hu : u.group g = cleared.group g := hloop _ _
  have hcleared : (cleared.group g).pend = [] ∧ (cleared.group g).pendTotal = none ∧
      (cleared.group g).move = (s.group g).move := by
    rw [State.group_updGroup_self]
    exact ⟨rfl, rfl, rfl⟩
  rw [← hu] at hcleared
  obtain ⟨hpend, htotal, hmove⟩ := hcleared
  rw [← hmove]
  split
  next hnone => exact ⟨hpend, htotal, 0, hnone.trans (by rw [hnone, Option.map_none])⟩
  next x hx =>
    rw [hx]
    dsimp only
    split
    next y l hstops =>
      split
      next hkeep => exact ⟨hpend, htotal, 0, hx.trans (congrArg some (if_pos (by simpa [hstops] using hkeep)).symm)⟩
      next hkeep =>
        rw [hsent, State.group_updGroup_self]
        exact ⟨hpend, htotal, u.remoteStart g, congrArg some (if_neg (by simpa [hstops] using hkeep)).symm⟩
    next hstops =>
      rw [if_neg Bool.false_ne_true, hsent, State.group_updGroup_self]
      exact ⟨hpend, htotal, u.remoteStart g, congrArg some (if_neg (by simp [hstops])).symm⟩

-- stops of single generators

/-- A path that is computed without the members that left it leaves the generator of an axis outside it alone (R278). -/
theorem State.releadGroup_gen (h : (s.gen n).inGroup = false) : (s.releadGroup g).gen n = s.gen n := by
  unfold State.releadGroup
  split
  · rfl
  · split
    · split <;> rfl
    · split
      · rfl
      · dsimp only
        have hkeep := List.foldlRecOn ((s.members g).filter fun m => !s.isRemote g m && s.inMove g m)
          (fun (u : State) m => u.updGen (u.memberAxis g m) fun a => { a.settle u.now with vx := 0 }) (b := s)
          (motive := fun u => u.regs = s.regs ∧ u.gen n = s.gen n) ⟨rfl, rfl⟩ fun u hu m hm => by
            obtain ⟨hregs, hgen⟩ := hu
            refine ⟨hregs, (State.gen_updGen_ne _ _ fun hn => ?_).trans hgen⟩
            rw [State.memberAxis_congr hregs] at hn
            have hin := (List.mem_filter.1 hm).2
            simp only [State.inMove, Bool.and_eq_true, Bool.not_eq_true'] at hin
            obtain ⟨hlocal, -, hmember⟩ := hin
            rw [hlocal, if_neg Bool.false_ne_true, ← hn, h] at hmember
            exact absurd hmember Bool.false_ne_true
        exact hkeep.2

/-- A generator that moves by itself and is told to stop at time `t` (R273). -/
def Gen.told (a : Gen) (q : Bool) (t : Nat) : Gen := { a.stop q with inGroup := false, stopReq := some (t, q) }

/-- A stop of an axis that moves by itself reaches its generator (R273). -/
theorem State.stopAxis_gen (h : s.jointGroup n = none) : (s.stopAxis n q).gen n = (s.gen n).told q s.now := by
  unfold State.stopAxis
  rw [h]
  dsimp only
  split
  · rw [State.releadGroup_gen _ _ _ (by rw [State.gen_updGen_self]), State.gen_updGen_self, Gen.told]
  · rw [State.gen_updGen_self, Gen.told]

/-- A stop of an axis whose group runs no move changes its generator alone (R273, R276). -/
theorem State.stopAxis_eq (h : s.jointGroup n = none) (hgroup : s.groupOf n = some (g, m)) (hmove : (s.group g).move = none) :
    s.stopAxis n q = s.updGen n fun a => a.told q s.now := by
  unfold State.stopAxis
  rw [h]
  dsimp only
  rw [(State.SameForm.of_regs (State.updGen_regs ..)).groupOf, hgroup]
  dsimp only
  rw [State.releadGroup, State.group, State.updGen_groups, ← State.group, hmove]
  rfl

/-- What a stop `q` makes of a generator's mode when the generator was moving at first: moving or already told (R273). -/
theorem Gen.told_mode {a : Gen} (t : Nat) (h : a.mode = .moving ∨ a.mode = .stopping q) : (a.told q t).mode = .stopping q := by
  rcases h with h | h <;> simp [Gen.told, Gen.stop, h]

theorem Gen.told_pend (a : Gen) (t : Nat) : (a.told q t).pend = none := by
  unfold Gen.told Gen.stop
  split <;> rfl

/-- A stop of a group whose members move alone reaches each local member (R276, R290). -/
theorem State.stopAll_gen (hmode : s.v (Obj.agMode g) = 0) (hm : m ∈ s.members g) (hlocal : s.isRemote g m = false)
    (hmove : (s.group g).move = none)
    (hown : ∀ j ∈ s.members g, s.isRemote g j = false → s.groupOf (s.memberAxis g j) = some (g, j)) :
    ((s.stopAll g q).gen (s.memberAxis g m)).pend = none ∧
      ((s.gen (s.memberAxis g m)).mode = .moving → ((s.stopAll g q).gen (s.memberAxis g m)).mode = .stopping q) := by
  rw [State.stopAll, if_pos hmode]
  have hlocals {j : Nat} (hj : j ∈ (s.members g).filter fun m => !s.isRemote g m) :
      j ∈ s.members g ∧ s.isRemote g j = false := by simpa using hj
  have hstep (u : State) (j : Nat) (hj : j ∈ (s.members g).filter fun m => !s.isRemote g m)
      (hu : u.regs = s.regs ∧ u.groups = s.groups) :
      u.stopAxis (u.memberAxis g j) q = u.updGen (s.memberAxis g j) fun a => a.told q u.now := by
    obtain ⟨hregs, hgroups⟩ := hu
    have hform := State.SameForm.of_regs hregs
    have hgroup := hown j (hlocals hj).1 (hlocals hj).2
    rw [State.memberAxis_congr hregs]
    exact State.stopAxis_eq u _ g j q ((hform.jointGroup _).trans (State.jointGroup_none hgroup (.inl hmode)))
      ((hform.groupOf _).trans hgroup) (by rw [State.group, hgroups]; exact hmove)
  have hgen (u : State) (j : Nat) (hj : j ∈ (s.members g).filter fun m => !s.isRemote g m)
      (hu : u.regs = s.regs ∧ u.groups = s.groups) : (u.stopAxis (u.memberAxis g j) q).gen (s.memberAxis g m) =
        if s.memberAxis g j = s.memberAxis g m then (u.gen (s.memberAxis g m)).told q u.now else u.gen (s.memberAxis g m) := by
    rw [hstep u j hj hu]
    split
    next heq => rw [heq, State.gen_updGen_self]
    next hne => exact State.gen_updGen_ne _ _ (Ne.symm hne)
  have hsame (u : State) (j : Nat) (hj : j ∈ (s.members g).filter fun m => !s.isRemote g m)
      (hu : u.regs = s.regs ∧ u.groups = s.groups) : (u.stopAxis (u.memberAxis g j) q).regs = s.regs ∧
        (u.stopAxis (u.memberAxis g j) q).groups = s.groups := by
    rw [hstep u j hj hu]
    exact hu
  have hmem : m ∈ (s.members g).filter fun m => !s.isRemote g m := List.mem_filter.2 ⟨hm, by simpa using hlocal⟩
  have hloop := forEach_establishes (s := s) (x := m) (l := (s.members g).filter fun m => !s.isRemote g m)
    (f := fun u m => u.stopAxis (u.memberAxis g m) q)
    (I := fun u => (u.regs = s.regs ∧ u.groups = s.groups) ∧ ((s.gen (s.memberAxis g m)).mode = .moving →
      (u.gen (s.memberAxis g m)).mode = .moving ∨ (u.gen (s.memberAxis g m)).mode = .stopping q))
    (P := fun u => (u.regs = s.regs ∧ u.groups = s.groups) ∧ (u.gen (s.memberAxis g m)).pend = none ∧
      ((s.gen (s.memberAxis g m)).mode = .moving → (u.gen (s.memberAxis g m)).mode = .stopping q))
    (fun u j hj hu => ⟨hsame u j hj hu.1, fun hmoves => ?inv⟩)
    (fun u hu => ⟨hsame u m hmem hu.1, ?pend, fun hmoves => ?mode⟩)
    (fun u j hj _ hu => ⟨hsame u j hj hu.1, ?pendKept, fun hmoves => ?modeKept⟩) hmem ⟨⟨rfl, rfl⟩, .inl⟩
  case inv =>
    rw [hgen u j hj hu.1]
    split
    · exact .inr (Gen.told_mode q _ (hu.2 hmoves))
    · exact hu.2 hmoves
  case pend => rw [hgen u m hmem hu.1, if_pos rfl, Gen.told_pend]
  case mode =>
    rw [hgen u m hmem hu.1, if_pos rfl]
    exact Gen.told_mode q _ (hu.2 hmoves)
  case pendKept =>
    rw [hgen u j hj hu.1]
    split
    · exact Gen.told_pend ..
    · exact hu.2.1
  case modeKept =>
    rw [hgen u j hj hu.1]
    split
    · exact Gen.told_mode q _ (.inr (hu.2.2 hmoves))
    · exact hu.2.2 hmoves
  exact hloop.2

-- targets

/-- The write of a target changes no group. -/
theorem State.SameForm.setR_pgTarget (h : n < 32) : (s.setR (Obj.pgTarget n) v).SameForm s :=
  ⟨fun g hg m hm => State.v_setR_key _ _ (by simp only [Obj.agMember, Obj.pgTarget]; omega),
    fun g hg => State.v_setR_key _ _ (by simp only [Obj.agMode, Obj.pgTarget]; omega)⟩

/-- A target with no stop asked for at the same instant stands (R274). -/
theorem State.restop_alone (h : s.jointGroup n = none) (hreq : ∀ q, (s.gen n).stopReq ≠ some (s.now, q)) : s.restop n = s := by
  unfold State.restop
  rw [h]
  dsimp only
  split
  next t q ht => exact if_neg fun hnow => hreq q (by rw [ht, hnow])
  · rfl

theorem State.restop_joint (h : s.jointGroup n = some g) (hreq : ∀ q, (s.group g).stopReq ≠ some (s.now, q)) :
    s.restop n = s := by
  unfold State.restop
  rw [h]
  dsimp only
  split
  next t q ht => exact if_neg fun hnow => hreq q (by rw [ht, hnow])
  · rfl

/-- The effect of a new target on a generator that moves by itself (R269). -/
def Gen.aim (a : Gen) (v : Int) : Gen :=
  match a.mode with
  | .tracking _ => a
  | .standstill => if v = a.tgt then a else a.start v
  | _ => if v = a.tgt then { a with pend := none } else { a with pend := some v }

theorem Gen.aim_stopReq (a : Gen) : (a.aim v).stopReq = a.stopReq := by
  unfold Gen.aim
  split
  · rfl
  · split <;> rfl
  · split <;> rfl

/-- A target of an axis whose group does not interpolate reaches its generator (R269). -/
theorem State.setTarget_alone (h : s.groupOf n = some (g, m)) (hmode : s.v (Obj.agMode g) ≠ 1) :
    s.setTarget n v = s.updGen n (·.aim v) := by
  unfold State.setTarget
  rw [h]
  dsimp only
  rw [if_neg (by simpa using hmode)]
  rfl

/-- A target of an axis of an interpolating group is pending for its member (R277). -/
theorem State.setTarget_joint (h : s.groupOf n = some (g, m)) (hmode : s.v (Obj.agMode g) = 1) :
    ((s.setTarget n v).group g).pend.getD m none = (if v = (s.gen n).tgt then none else some v) ∧
      ((s.setTarget n v).group g).stopReq = (s.group g).stopReq ∧ (s.setTarget n v).now = s.now := by
  unfold State.setTarget
  rw [h]
  dsimp only
  rw [if_pos (by simpa using hmode)]
  split
  · rw [State.group, State.updGen_groups, ← State.group, State.group_updGroup_self]
    exact ⟨Tbl.getD_put_self .., rfl, rfl⟩
  · rw [State.group_updGroup_self]
    exact ⟨Tbl.getD_put_self .., rfl, rfl⟩

-- total forces

theorem State.restopGroup_regs : (s.restopGroup g).regs = s.regs := by
  unfold State.restopGroup
  split
  · split
    · exact State.stopGroup_regs ..
    · rfl
  · rfl

/-- A new group move changes AG_LEAD alone of all objects (R277). -/
theorem State.startGroup_g (tgt : List (Nat × Int)) (c : Ch) {o : Obj} (h : o.key ≠ (Obj.agLead g).key) :
    (s.startGroup g tgt).g c o = s.g c o := by
  have hloop (stays : State → Nat → Prop) [∀ u m, Decidable (stays u m)] (f : State → Nat → Gen → Gen) (l : List Nat)
      (u : State) :
      (forEach l u fun u m => if stays u m then u else u.updGen (u.memberAxis g m) (f u m)).g c o = u.g c o := by
    refine forEach_eq (·.g c o) _ (fun u m => ?_) l u
    split <;> rfl
  unfold State.startGroup
  dsimp only
  split
  · rfl
  next lead dl _ =>
    split
    · split
      · exact (State.g_setR_key _ _ _ h).trans ((hloop _ _ _ _).trans (hloop _ _ _ _))
      · exact (hloop _ _ _ _).trans (hloop _ _ _ _)
    · exact (State.g_congr (State.describe_regs ..) c o).trans
        ((hloop _ _ _ _).trans ((State.g_setR_key _ _ _ h).trans (hloop _ _ _ _)))

/-- A total force under the pending rule changes AG_FORCE_DEFICIT and AG_LEAD alone of all objects (R280). -/
theorem State.wantTotal_g (c : Ch) {o : Obj} (hlead : o.key ≠ (Obj.agLead g).key)
    (hdeficit : o.key ≠ (Obj.agForceDeficit g).key) :
    (s.wantTotal g v).g c o = s.g c o := by
  unfold State.wantTotal State.allocMove
  dsimp only
  split
  · rfl
  · split
    · rfl
    · rw [State.startGroup_g _ _ _ _ hlead, State.g_setR_key _ _ _ hdeficit]
      rfl

end
end Sys2Proof.Machine
end

section
/-! ## Commands to axes and groups (O13) -/

namespace Sys2Proof.Machine

section
variable {s : State} {t : Nat} {cr : Carrier} {v : Int} {x : Instr}

/-- A command to a group leaves what its stop does (R276, R290). -/
theorem State.agControl_shows {g : Fin 16} (hx : exec x s = s.run t fun s => s.hostSet cr (Obj.agControl g) v)
    (h : s.sets t cr (Obj.agControl g) v = true) (hv : v ≠ 0) :
    ∃ u, exec x s = .next (s.after t u) ∧ u.acks cr ∧ u.Shows ((s.heard t cr).stopAll g (v == 2)) :=
  State.row_shows hx h (entry_agControl g) (by decide) fun e hrole hi _ _ => by
    simp [State.writeNum, State.writeTaskObj, State.writeAxisObj, hrole, hi, hv]

/-- A command to an axis leaves what its stop does (R273). -/
theorem State.pgControl_shows {n : Fin 32} (hx : exec x s = s.run t fun s => s.hostSet cr (Obj.pgControl n) v)
    (h : s.sets t cr (Obj.pgControl n) v = true) (hv : v ≠ 0) :
    ∃ u, exec x s = .next (s.after t u) ∧ u.acks cr ∧ u.Shows ((s.heard t cr).stopAxis n (v == 2)) :=
  State.row_shows hx h (entry_pgControl n) (by decide) fun e hrole hi _ _ => by
    simp [State.writeNum, State.writeTaskObj, State.writeAxisObj, hrole, hi, hv]

/-- The write of AX_TORQUE_ENABLE is held in every channel (R253). -/
theorem State.torqueEnable_holds {n : Fin 32} (hx : exec x s = s.run t fun s => s.hostSet cr (Obj.axTorqueEnable n) v)
    (h : s.sets t cr (Obj.axTorqueEnable n) v = true) :
    ∃ u, exec x s = .next (s.after t u) ∧ u.acks cr ∧ ∀ c, u.g c (Obj.axTorqueEnable n) = v := by
  obtain ⟨u, hexec, hacks, hu⟩ := State.row_shows (w := (s.heard t cr).setR (Obj.axTorqueEnable n) v) hx h
    (entry_axTorqueEnable n) (by decide) fun e hrole hi hobj hhome => by
      simp [State.writeNum, State.writeTaskObj, State.writeAxisObj, State.writeChanObj, State.writeDevObj, State.rawSet,
        hrole, hobj, hhome]
  have hobj : (Obj.axTorqueEnable n).unanswered := Obj.unanswered_of_block (by simp only [Obj.axTorqueEnable]; omega)
  exact ⟨u, hexec, hacks, fun c => (hu.copy c _ hobj).trans (by simp)⟩

/-- The write of PG_TARGET is held in every channel, and a new target takes effect (R269, R274). -/
theorem State.pgTarget_shows {n : Fin 32} (h : s.sets t cr (Obj.pgTarget n) v = true) :
    ∃ u, exec (.pgTarget t cr n v) s = .next (s.after t u) ∧ u.acks cr ∧ (∀ c, u.g c (Obj.pgTarget n) = v) ∧
      u.Shows ((((s.heard t cr).setR (Obj.pgTarget n) v).setTarget n v).restop n) := by
  obtain ⟨u, hexec, hacks, hu⟩ := State.row_shows (x := .pgTarget t cr n v)
    (w := (((s.heard t cr).setR (Obj.pgTarget n) v).setTarget n v).restop n) rfl h (entry_pgTarget n) (by decide)
    fun e hrole hi _ _ => by simp [State.writeNum, State.writeTaskObj, State.writeAxisObj, hrole, hi]
  have hobj : (Obj.pgTarget n).unanswered := Obj.unanswered_of_block (by simp only [Obj.pgTarget]; omega)
  refine ⟨u, hexec, hacks, fun c => (hu.copy c _ hobj).trans ?_, hu⟩
  rw [State.restop_g _ _ _ (Obj.key_ne_agLead (by simp only [Obj.pgTarget]; omega)), State.g_congr (State.setTarget_regs ..)]
  simp

/-- A target of an axis that moves by itself, with no stop of it asked for at the same instant, reaches its generator (R269). -/
theorem State.target_alone {n : Fin 32} {g m : Nat} (hgroup : s.groupOf n = some (g, m))
    (hmode : s.v (Obj.agMode g) = 0 ∨ s.v (Obj.agMode g) = 3) (hreq : ∀ q, (s.gen n).stopReq ≠ some (s.now, q)) :
    (((s.setR (Obj.pgTarget n) v).setTarget n v).restop n).gen n = (s.gen n).aim v := by
  have hform := State.SameForm.setR_pgTarget s n v n.isLt
  have hgroup' := (hform.groupOf n).trans hgroup
  have hmode' := hform.mode g (State.groupOf_lt s n hgroup)
  rw [State.setTarget_alone _ _ _ _ _ hgroup' (by rw [hmode']; omega), State.restop_alone]
  · rw [State.gen_updGen_self]
    rfl
  · rw [(State.SameForm.of_regs (State.updGen_regs ..)).jointGroup, hform.jointGroup]
    exact State.jointGroup_none hgroup hmode
  · intro q
    rw [State.gen_updGen_self, Gen.aim_stopReq]
    exact hreq q

/-- A target of an axis of an interpolating group, with no stop of the group asked for at the same instant, is pending for its
member (R277). -/
theorem State.target_joint {n : Fin 32} {g m : Nat} (hgroup : s.groupOf n = some (g, m)) (hmode : s.v (Obj.agMode g) = 1)
    (hreq : ∀ q, (s.group g).stopReq ≠ some (s.now, q)) :
    ((((s.setR (Obj.pgTarget n) v).setTarget n v).restop n).group g).pend.getD m none =
      (if v = (s.gen n).tgt then none else some v) := by
  have hform := State.SameForm.setR_pgTarget s n v n.isLt
  have hmode' := (hform.mode g (State.groupOf_lt s n hgroup)).trans hmode
  obtain ⟨hpend, hstop, hnow⟩ := State.setTarget_joint _ n g m v ((hform.groupOf n).trans hgroup) hmode'
  rw [State.restop_joint _ _ g]
  · exact hpend
  · rw [(State.SameForm.of_regs (State.setTarget_regs ..)).jointGroup, hform.jointGroup]
    exact State.jointGroup_some hgroup hmode
  · intro q
    rw [hstop, hnow]
    exact hreq q

/-- A stop of a group leaves it nothing pending, and a running move told to stop (R273, R278). -/
theorem State.Shows.groupStopped {u : State} {g : Nat} {q : Bool} (hu : u.Shows ((s.heard t cr).stopGroup g q)) :
    (u.group g).pend = [] ∧ (u.group g).pendTotal = none ∧
      ∃ start, (u.group g).move = (s.group g).move.map (·.told q start) := by
  have hgroup : (s.heard t cr).group g = s.group g := by rw [State.group, State.heard_groups, State.group]
  rw [hu.group, ← hgroup]
  exact State.stopGroup_group ..

/-- PG_CONTROL of an axis that moves by itself stops its generator (R273). -/
theorem State.pgControl_stops {n : Fin 32} (hx : exec x s = s.run t fun s => s.hostSet cr (Obj.pgControl n) v)
    (h : s.sets t cr (Obj.pgControl n) v = true) (hv : v ≠ 0) (hjoint : s.jointGroup n = none) :
    ∃ u, exec x s = .next (s.after t u) ∧ u.acks cr ∧ (u.gen n).mode = ((s.gen n).stop (v == 2)).mode ∧
      (u.gen n).pend = none ∧ (u.gen n).inGroup = false := by
  obtain ⟨u, hexec, hacks, hu⟩ := State.pgControl_shows hx h hv
  have hgen : (s.heard t cr).gen n = s.gen n := by rw [State.gen, State.heard_gens, State.gen]
  refine ⟨u, hexec, hacks, ?_⟩
  rw [hu.gen, State.stopAxis_gen _ _ _ (((State.SameForm.of_regs (State.heard_regs ..)).jointGroup n).trans hjoint), hgen]
  exact ⟨rfl, Gen.told_pend .., rfl⟩

/-- PG_CONTROL of an axis of a group that moves as one stops the group (R276). -/
theorem State.pgControl_stopsGroup {n : Fin 32} {g : Nat} (hx : exec x s = s.run t fun s => s.hostSet cr (Obj.pgControl n) v)
    (h : s.sets t cr (Obj.pgControl n) v = true) (hv : v ≠ 0) (hjoint : s.jointGroup n = some g) :
    ∃ u, exec x s = .next (s.after t u) ∧ u.acks cr ∧ (u.group g).pend = [] ∧ (u.group g).pendTotal = none := by
  obtain ⟨u, hexec, hacks, hu⟩ := State.pgControl_shows hx h hv
  rw [State.stopAxis, (State.SameForm.of_regs (State.heard_regs s t cr)).jointGroup, hjoint] at hu
  obtain ⟨hpend, htotal, -⟩ := hu.groupStopped
  exact ⟨u, hexec, hacks, hpend, htotal⟩

/-- AG_CONTROL of a group that moves as one or follows the twin stops the group (R290). -/
theorem State.agControl_stops {g : Fin 16} (hx : exec x s = s.run t fun s => s.hostSet cr (Obj.agControl g) v)
    (h : s.sets t cr (Obj.agControl g) v = true) (hv : v ≠ 0) (hmode : s.v (Obj.agMode g) ≠ 0) :
    ∃ u, exec x s = .next (s.after t u) ∧ u.acks cr ∧ (u.group g).pend = [] ∧ (u.group g).pendTotal = none ∧
      ∃ start, (u.group g).move = (s.group g).move.map (·.told (v == 2) start) := by
  obtain ⟨u, hexec, hacks, hu⟩ := State.agControl_shows hx h hv
  rw [State.stopAll, if_neg (by rwa [State.heard_v])] at hu
  exact ⟨u, hexec, hacks, hu.groupStopped⟩

/-- AG_CONTROL of a group that runs no move leaves it without one (R290). -/
theorem State.agControl_leaves {g : Fin 16} (hx : exec x s = s.run t fun s => s.hostSet cr (Obj.agControl g) v)
    (h : s.sets t cr (Obj.agControl g) v = true) (hv : v ≠ 0) (hmode : s.v (Obj.agMode g) ≠ 0) :
    ∃ u, exec x s = .next (s.after t u) ∧ u.acks cr ∧ (u.group g).pend = [] ∧ (u.group g).pendTotal = none ∧
      ((s.group g).move = none → (u.group g).move = none) := by
  obtain ⟨u, hexec, hacks, hpend, htotal, start, hmove⟩ := State.agControl_stops hx h hv hmode
  exact ⟨u, hexec, hacks, hpend, htotal, fun hnone => by rw [hmove, hnone, Option.map_none]⟩

/-- AG_CONTROL of a group with a running move records the stop in that move (R274, R278). -/
theorem State.agControl_tells {g : Fin 16} {m : GMove} (hx : exec x s = s.run t fun s => s.hostSet cr (Obj.agControl g) v)
    (h : s.sets t cr (Obj.agControl g) v = true) (hv : v ≠ 0) (hmode : s.v (Obj.agMode g) ≠ 0)
    (hmove : (s.group g).move = some m) :
    ∃ u, exec x s = .next (s.after t u) ∧ ((u.group g).move.bind fun x => x.stops.head?.map (·.quick)) =
      some ((m.stops.head?.map (·.quick)).getD false || v == 2) := by
  obtain ⟨u, hexec, -, -, -, start, htold⟩ := State.agControl_stops hx h hv hmode
  exact ⟨u, hexec, by rw [htold, hmove, Option.map_some, Option.bind_some, GMove.told_quick]⟩

/-- AG_CONTROL of a group whose members move alone stops each local member (R276, R290). -/
theorem State.agControl_stopsMember {g : Fin 16} {m : Nat} (hx : exec x s = s.run t fun s => s.hostSet cr (Obj.agControl g) v)
    (h : s.sets t cr (Obj.agControl g) v = true) (hv : v ≠ 0) (hmode : s.v (Obj.agMode g) = 0) (hm : m ∈ s.members g)
    (hlocal : s.isRemote g m = false) (hmove : (s.group g).move = none)
    (hown : ∀ j ∈ s.members g, s.isRemote g j = false → s.groupOf (s.memberAxis g j) = some (g.val, j)) :
    ∃ u, exec x s = .next (s.after t u) ∧ u.acks cr ∧ (u.gen (s.memberAxis g m)).pend = none ∧
      ((s.gen (s.memberAxis g m)).mode = .moving → (u.gen (s.memberAxis g m)).mode = .stopping (v == 2)) := by
  obtain ⟨u, hexec, hacks, hu⟩ := State.agControl_shows hx h hv
  have hregs := State.heard_regs s t cr
  have hstop := (s.heard t cr).stopAll_gen g m (v == 2)
  simp only [State.members_congr hregs, State.isRemote_congr hregs, State.memberAxis_congr hregs,
    (State.SameForm.of_regs hregs).groupOf, State.heard_v, State.group, State.gen, State.heard_groups, State.heard_gens] at hstop
  refine ⟨u, hexec, hacks, ?_⟩
  rw [State.gen, hu.gens]
  exact hstop hmode hm hlocal hmove hown

end

/-- Settles O13: each row answers with the state as the effect of its role leaves it (`State.row_shows`); a stop of a group with a
running move records the stop in that move (`GMove.told_quick`). -/
theorem axisAndGroupCommandsAct : Obligations.AxisAndGroupCommandsAct := by
  refine ⟨⟨fun t cr n s h => State.torqueEnable_holds rfl h, fun t cr n s h => State.torqueEnable_holds rfl h,
    fun t cr n v g m s h hgroup hmode hreq => ?alone, fun t cr n v g m s h hgroup hmode hreq => ?joint,
    fun t cr n s h => State.pgControl_stops rfl h (by decide), fun t cr n s h => State.pgControl_stops rfl h (by decide),
    fun t cr n g s h => State.pgControl_stopsGroup rfl h (by decide),
    fun t cr n g s h => State.pgControl_stopsGroup rfl h (by decide),
    fun t cr g s h => State.agControl_leaves rfl h (by decide), fun t cr g s h => State.agControl_leaves rfl h (by decide),
    fun t cr g m s h => State.agControl_stopsMember rfl h (by decide),
    fun t cr g m s h => State.agControl_stopsMember rfl h (by decide), fun t cr g v s h hreq => ?total⟩,
    fun t cr g m s hmove hmode => ⟨fun h => ?moveStop, fun h => ?moveQuickStop⟩⟩
  case alone =>
    obtain ⟨u, hexec, hacks, hheld, hu⟩ := State.pgTarget_shows h
    have hgen := State.target_alone (s := s.heard t cr) (v := v)
      (((State.SameForm.of_regs (State.heard_regs ..)).groupOf n).trans hgroup) (by rwa [State.heard_v])
      (by rwa [State.heard_now, State.gen, State.heard_gens, ← State.gen])
    rw [← hu.gen, State.gen, State.gen, State.heard_gens, ← State.gen, ← State.gen] at hgen
    refine ⟨u, hexec, hacks, hheld, fun hstands hv => ?_, fun hmoves hv => ?_, fun hmoves hv => ?_⟩
    · simp only [hgen, Gen.aim, hstands, if_neg hv]
    · simp only [hgen, Gen.aim, hmoves, if_neg hv]
    · simp only [hgen, Gen.aim, hmoves, if_pos hv]
  case joint =>
    obtain ⟨u, hexec, hacks, hheld, hu⟩ := State.pgTarget_shows h
    have hpend := State.target_joint (s := s.heard t cr) (v := v)
      (((State.SameForm.of_regs (State.heard_regs ..)).groupOf n).trans hgroup)
      (by rwa [State.heard_v]) (by rwa [State.heard_now, State.group, State.heard_groups, ← State.group])
    rw [← hu.group, State.gen, State.heard_gens, ← State.gen] at hpend
    exact ⟨u, hexec, hacks, hheld, hpend⟩
  case total =>
    obtain ⟨u, hexec, hacks, hu⟩ := State.row_shows (x := .agForceTotal t cr g v)
      (w := ((s.heard t cr).writeForceTotal g v).restopGroup g) rfl h (entry_agForceTotal g) (by decide) fun e hrole hi _ _ => by
        simp [State.writeNum, State.writeTaskObj, State.writeAxisObj, hrole, hi]
    have hobj : (Obj.agForceTotal g).unanswered := Obj.unanswered_of_block (by simp only [Obj.agForceTotal]; omega)
    refine ⟨u, hexec, hacks, fun c => (hu.copy c _ hobj).trans ?_⟩
    rw [State.g_congr (State.restopGroup_regs ..), State.writeForceTotal,
      State.wantTotal_g _ _ _ _ (by simp only [Obj.agForceTotal, Obj.agLead]; omega)
        (by simp only [Obj.agForceTotal, Obj.agForceDeficit]; omega)]
    simp
  case moveStop =>
    obtain ⟨u, hexec, hstops⟩ := State.agControl_tells (x := .agStop t cr g) rfl h (by decide) hmode hmove
    exact ⟨u, hexec, hstops.trans (by simp)⟩
  case moveQuickStop =>
    obtain ⟨u, hexec, hstops⟩ := State.agControl_tells (x := .agQuickStop t cr g) rfl h (by decide) hmode hmove
    exact ⟨u, hexec, hstops.trans (by simp)⟩

end Sys2Proof.Machine
end

section
/-! ## The primary pass and the eddy pass (R194 to R197, R295 to R297)

Every computation of a primary pass is a chain of shift points. `Ar.Yields` says of a computation what its result satisfies, and
that it adds no shift point at which an eddy pass without errors would find a fault. -/

namespace Sys2Proof.Machine

-- shift points under the eddy pass

/-- The coded sum is the sum's code (R295, R296). -/
theorem sumTerms_enc (l : List (Int × Int)) : sumTerms (l.map fun q => (q.1, enc q.2)) = enc (sumTerms l) := by
  have hfold (a : Int) : (l.map fun q => (q.1, enc q.2)).foldl (fun a p => a + p.1 * p.2) (enc a) =
      enc (l.foldl (fun a p => a + p.1 * p.2) a) := by
    induction l generalizing a with
    | nil => rfl
    | cons q l ih =>
      rw [List.map_cons, List.foldl_cons, List.foldl_cons, ← ih]
      congr 1
      simp only [enc]
      ring
  have hzero := hfold 0
  rwa [enc, zero_mul] at hzero

/-- An error of the accumulator that is no multiple of A shows at its shift point (R297). -/
theorem Point.fault_of_residue (p : Point) {e : Int} (h : e % eddyA ≠ 0) : p.fault e = true := by
  have hcoded : p.coded e % eddyA = e % eddyA := by
    rw [Point.coded, sumTerms_enc, enc]
    exact Int.mul_add_emod_self_right ..
  rw [Point.fault, hcoded]
  simp [h]

/-- An error of the accumulator that is no multiple of A shows in the eddy pass (R297). -/
theorem eddyFault_of_residue {l : List Point} {i : Nat} {errs : List Int} (hi : i < l.length) (h : errs.getD i 0 % eddyA ≠ 0) :
    eddyFault l errs = true := by
  have herrs : i < errs.length := by
    by_contra hlen
    rw [List.getD_eq_default _ _ (by omega)] at h
    exact h (by decide)
  refine List.any_eq_true.2 ⟨(l[i], errs[i]), ?_, Point.fault_of_residue _ (by rwa [List.getD_eq_getElem _ _ herrs] at h)⟩
  refine List.mem_iff_getElem.2 ⟨i, by simp; omega, ?_⟩
  rw [List.getElem_zip, List.getElem_append_left herrs]

/-- No shift point of a pass shows a fault to an eddy pass without errors. -/
def Pass.Clean (b : Pass) : Prop := ∀ p ∈ b.points, p.fault 0 = false

theorem Pass.clean_empty : ({} : Pass).Clean := fun _ hp => absurd hp List.not_mem_nil

/-- An eddy pass without errors over clean shift points finds no fault (R297). -/
theorem Pass.Clean.no_fault {b : Pass} (h : b.Clean) : eddyFault b.points.reverse [] = false := by
  refine List.any_eq_false.2 fun q hq => ?_
  obtain ⟨hpoint, herr⟩ := List.of_mem_zip hq
  rw [List.nil_append, List.mem_replicate] at herr
  rw [herr.2, h q.1 (List.mem_reverse.1 hpoint)]
  exact Bool.false_ne_true

/-- A computation of the pass leaves it clean, and its result satisfies `Q`. -/
structure Ar.Yields {α : Type} (f : Ar α) (Q : α → Prop) : Prop where
  clean : ∀ b : Pass, b.Clean → (f b).2.Clean
  result : ∀ b : Pass, b.Clean → Q (f b).1

section
variable {α β : Type} {f : Ar α} {g : α → Ar β} {Q : α → Prop} {R : β → Prop}

theorem Ar.Yields.pure {a : α} (h : Q a) : Ar.Yields (Pure.pure a) Q := ⟨fun _ hb => hb, fun _ _ => h⟩

theorem Ar.Yields.bind (hf : Ar.Yields f Q) (hg : ∀ a, Q a → Ar.Yields (g a) R) : Ar.Yields (f >>= g) R :=
  ⟨fun b hb => (hg _ (hf.result b hb)).clean _ (hf.clean b hb), fun b hb => (hg _ (hf.result b hb)).result _ (hf.clean b hb)⟩

theorem Ar.Yields.weaken {Q' : α → Prop} (hf : Ar.Yields f Q) (h : ∀ a, Q a → Q' a) : Ar.Yields f Q' :=
  ⟨hf.clean, fun b hb => h _ (hf.result b hb)⟩

/-- A computation of whose result nothing is asked. -/
def Ar.Runs (f : Ar α) : Prop := Ar.Yields f fun _ => True

theorem Ar.Runs.bind (hf : Ar.Runs f) (hg : ∀ a, Ar.Yields (g a) R) : Ar.Yields (f >>= g) R :=
  Ar.Yields.bind hf fun a _ => hg a

end

/-- A value within bounds, where the bounds leave one. -/
def Within (lo hi x : Int) : Prop := lo ≤ hi → lo ≤ x ∧ x ≤ hi

/-- A shift point shows no fault, and its result lies within its bounds (R194, R295, R296). -/
theorem shiftPoint_yields (flag : Bool) (l : List (Int × Int)) (den lo hi : Int) :
    Ar.Yields (shiftPoint flag l den lo hi) (Within lo hi) := by
  refine ⟨fun b hb p hp => ?_, fun b _ hbounds => ?_⟩
  · rcases List.mem_cons.1 hp with rfl | hp
    · have hcoded : sumTerms (l.map fun q => (q.1, enc q.2)) + 0 = sumTerms l * eddyA := by rw [sumTerms_enc, add_zero, enc]
      simp only [Point.fault, Point.coded, hcoded, Int.mul_emod_left, Int.mul_ediv_cancel _ (show eddyA ≠ 0 by decide)]
      simp
    · exact hb p hp
  · rw [shiftPoint_fst, clamp]
    omega

theorem shiftPoint_runs (flag : Bool) (l : List (Int × Int)) (den lo hi : Int) : Ar.Runs (shiftPoint flag l den lo hi) :=
  (shiftPoint_yields ..).weaken fun _ _ => trivial

theorem satRnd_runs (l : List (Int × Int)) (s : Nat) : Ar.Runs (satRnd l s) := shiftPoint_runs ..
theorem add_runs (x y : Int) : Ar.Runs (add x y) := shiftPoint_runs ..
theorem sub_runs (x y : Int) : Ar.Runs (sub x y) := shiftPoint_runs ..
theorem rnd_runs (x : Int) (k : Nat) : Ar.Runs (rnd x k) := shiftPoint_runs ..
theorem mul_runs (c : Int) (s : Nat) (x : Int) : Ar.Runs (mul c s x) := shiftPoint_runs ..
theorem Coef.mul_runs (k : Coef) (x : Int) : Ar.Runs (k.mul x) := shiftPoint_runs ..
theorem prod_runs (x y : Int) : Ar.Runs (prod x y) := shiftPoint_runs ..
theorem limit_yields (lo hi x : Int) : Ar.Yields (limit lo hi x) (Within lo hi) := shiftPoint_yields ..
theorem limit_runs (lo hi x : Int) : Ar.Runs (limit lo hi x) := shiftPoint_runs ..

-- the controllers (R202 to R207)

theorem Integ.step_runs (x : Integ) (inc lo hi : Int) : Ar.Runs (x.step inc lo hi) := by
  unfold Integ.step
  split
  · exact .pure trivial
  · exact (add_runs ..).bind fun i => (limit_runs ..).bind fun j => .pure trivial

/-- Every output of an iteration lies within the bounds of its bank. -/
def Iter.WithinBank (f : LoopCfg) (i : Iter) : Prop := ∀ o ∈ i.outs, Within f.lo f.hi o

/-- An iteration with one output, within the bounds of its bank. -/
theorem Iter.withinBank_one {f : LoopCfg} {i : Iter} {u : Int} (h : i.outs = [u]) (hu : Within f.lo f.hi u) : i.WithinBank f := by
  intro o ho
  rw [h, List.mem_singleton] at ho
  rwa [ho]

section
variable (f : LoopCfg) (st : TaskSt) (hold : Bool)

theorem control_yields (e d ff : Int) : Ar.Yields (control f st e d ff) (·.WithinBank f) :=
  (Coef.mul_runs ..).bind fun _ => (Coef.mul_runs ..).bind fun _ => (Integ.step_runs ..).bind fun _ => (rnd_runs ..).bind fun _ =>
  (add_runs ..).bind fun _ => (add_runs ..).bind fun _ => (add_runs ..).bind fun _ => (limit_yields ..).bind fun _ hu =>
  .pure (Iter.withinBank_one rfl hu)

theorem derivative_runs (e : Int) : Ar.Runs (derivative f st e) :=
  (sub_runs ..).bind fun _ => (Coef.mul_runs ..).bind fun _ => (sub_runs ..).bind fun _ => (Coef.mul_runs ..).bind fun _ =>
  add_runs ..

theorem pidLoop_yields (r y ffIn : Int) : Ar.Yields (pidLoop f st hold r y ffIn) (·.WithinBank f) :=
  (sub_runs ..).bind fun _ => (derivative_runs ..).bind fun _ => (Coef.mul_runs ..).bind fun _ =>
  (control_yields ..).bind fun _ hx => .pure hx

theorem posLoop_yields (r y : Int) : Ar.Yields (posLoop f st hold r y) (·.WithinBank f) :=
  (derivative_runs ..).bind fun _ => (Coef.mul_runs ..).bind fun _ => (control_yields ..).bind fun _ hx => .pure hx

theorem observer_yields (y u : Int) : Ar.Yields (observer f st y u) (·.WithinBank f) :=
  (sub_runs ..).bind fun _ => (Coef.mul_runs ..).bind fun _ => (add_runs ..).bind fun _ => (Coef.mul_runs ..).bind fun _ =>
  (add_runs ..).bind fun _ => (limit_yields ..).bind fun _ hx => .pure (Iter.withinBank_one rfl hx)

theorem rateLimiter_yields (x : Int) : Ar.Yields (rateLimiter f st x) (·.WithinBank f) :=
  (sub_runs ..).bind fun _ => (shiftPoint_runs ..).bind fun _ => (add_runs ..).bind fun _ =>
  (limit_yields ..).bind fun _ hy => .pure (Iter.withinBank_one rfl hy)

theorem speedLoop_yields (r p : Int) : Ar.Yields (speedLoop f st hold r p) (·.WithinBank f) := by
  unfold speedLoop
  extract_lets fresh found goOn
  refine (satRnd_runs ..).bind fun v => ?_
  have hgoOn (vf : Int) : Ar.Yields (goOn vf) (·.WithinBank f) :=
    (sub_runs ..).bind fun _ => (sub_runs ..).bind fun _ => (Coef.mul_runs ..).bind fun _ => (control_yields ..).bind fun _ hx =>
    .pure hx
  split
  · exact hgoOn _
  · exact (sub_runs ..).bind fun _ => (Coef.mul_runs ..).bind fun _ => (add_runs ..).bind hgoOn

end

-- the dq pair (R241 to R244)

/-- An iteration with three duties, each within 1 − DUTY_MAX and DUTY_MAX (R243). -/
def Iter.HasDuties (g : DqCfg) (i : Iter) : Prop :=
  ∃ p q r, i.outs = [p, q, r] ∧ ∀ o ∈ i.outs, Within (32768 - g.dutyMax) g.dutyMax o

/-- The three duties of a modulation lie within 1 − DUTY_MAX and DUTY_MAX (R243). -/
def DutiesWithin (dmax : Int) (d : Int × Int × Int) : Prop :=
  Within (32768 - dmax) dmax d.1 ∧ Within (32768 - dmax) dmax d.2.1 ∧ Within (32768 - dmax) dmax d.2.2

theorem dqDuty_yields (v vm vdc dmax : Int) : Ar.Yields (dqDuty v vm vdc dmax) (Within (32768 - dmax) dmax) :=
  (shiftPoint_runs ..).bind fun _ => shiftPoint_yields ..

theorem dqModulate_yields (vd vq sn cs vdc dmax : Int) : Ar.Yields (dqModulate vd vq sn cs vdc dmax) (DutiesWithin dmax) :=
  (satRnd_runs ..).bind fun _ => (satRnd_runs ..).bind fun _ => (mul_runs ..).bind fun _ => (mul_runs ..).bind fun _ =>
  (sub_runs ..).bind fun _ => (sub_runs ..).bind fun _ => (sub_runs ..).bind fun _ => (add_runs ..).bind fun _ =>
  (rnd_runs ..).bind fun _ => (dqDuty_yields ..).bind fun _ hu => (dqDuty_yields ..).bind fun _ hv =>
  (dqDuty_yields ..).bind fun _ hw => .pure ⟨hu, hv, hw⟩

theorem dqAngle_runs (f : LoopCfg) (offset pos : Int) : Ar.Runs (dqAngle f offset pos) :=
  (shiftPoint_runs ..).bind fun _ => .pure trivial

theorem dqCurrents_runs (iu iv iw sn cs : Int) : Ar.Runs (dqCurrents iu iv iw sn cs) :=
  (satRnd_runs ..).bind fun _ => (sub_runs ..).bind fun _ => (mul_runs ..).bind fun _ => (sub_runs ..).bind fun _ =>
  (mul_runs ..).bind fun _ => (satRnd_runs ..).bind fun _ => (satRnd_runs ..).bind fun _ => .pure trivial

theorem dqForward_runs (f : LoopCfg) (w id iq : Int) : Ar.Runs (dqForward f w id iq) :=
  (prod_runs ..).bind fun _ => (Coef.mul_runs ..).bind fun _ => (sub_runs ..).bind fun _ => (prod_runs ..).bind fun _ =>
  (Coef.mul_runs ..).bind fun _ => (Coef.mul_runs ..).bind fun _ => (add_runs ..).bind fun _ => .pure trivial

theorem dqPI_runs (x : Integ) (kp ki : Coef) (e ff vlim : Int) (frac : Nat) : Ar.Runs (dqPI x kp ki e ff vlim frac) :=
  (Coef.mul_runs ..).bind fun _ => (Integ.step_runs ..).bind fun _ => (Coef.mul_runs ..).bind fun _ => (rnd_runs ..).bind fun _ =>
  (add_runs ..).bind fun _ => (add_runs ..).bind fun _ => .pure trivial

theorem dqVlim_runs (f : LoopCfg) (g : DqCfg) (vdc : Int) : Ar.Runs (dqVlim f g vdc) := shiftPoint_runs ..

theorem dqLoop_yields (f : LoopCfg) (g : DqCfg) (l : LimitCfg) (st : TaskSt) (still : Bool) (x : Inputs) :
    Ar.Yields (dqLoop f g l st still x) (·.HasDuties g) :=
  (dqAngle_runs ..).bind fun _ => (dqCurrents_runs ..).bind fun _ => (rnd_runs ..).bind fun _ => (limit_runs ..).bind fun _ =>
  (limit_runs ..).bind fun _ => (dqVlim_runs ..).bind fun _ => (dqForward_runs ..).bind fun _ => (sub_runs ..).bind fun _ =>
  (sub_runs ..).bind fun _ => (dqPI_runs ..).bind fun _ => (dqPI_runs ..).bind fun _ => (limit_runs ..).bind fun _ =>
  (limit_runs ..).bind fun _ => (dqModulate_yields ..).bind fun d hd => .pure ⟨d.1, d.2.1, d.2.2, rfl, by
    obtain ⟨hu, hv, hw⟩ := hd
    simp only [List.mem_cons, List.not_mem_nil, or_false]
    rintro o (rfl | rfl | rfl) <;> assumption⟩

-- an iteration by its inputs (R199, R209, R241)

/-- A held iteration repeats its last outputs (R209, R241). -/
theorem heldIter_yields (dq : Bool) (g : DqCfg) (f : LoopCfg) (st : TaskSt) (x : Inputs) : Ar.Yields (heldIter dq g f st x) fun i =>
    i.outs = (if dq then [st.duty.a, st.duty.b, st.duty.c] else [st.uLast]) ∧ i.st.heldRun = st.heldRun := by
  cases dq with
  | true => exact (dqAngle_runs ..).bind fun _ => .pure ⟨rfl, rfl⟩
  | false => exact .pure ⟨rfl, rfl⟩

section
variable (s : State) (c : Ch) (k : Nat) (st : TaskSt) (x : Inputs)

theorem State.validIter_loop (h : s.isDq k = false) : Ar.Yields (s.validIter k st x) (·.WithinBank (s.loopCfg k st.bank)) := by
  have hty : s.taskTy k ≠ 2 := by simpa [State.isDq] using h
  unfold State.validIter
  dsimp only
  split
  · exact pidLoop_yields ..
  · contradiction
  · exact speedLoop_yields ..
  · exact posLoop_yields ..
  · exact observer_yields ..
  · exact rateLimiter_yields ..

theorem State.validIter_dq (h : s.isDq k = true) : Ar.Yields (s.validIter k st x) (·.HasDuties (s.dqCfg k)) := by
  have hty : s.taskTy k = 2 := by simpa [State.isDq] using h
  unfold State.validIter
  rw [hty]
  exact dqLoop_yields ..

end

end Sys2Proof.Machine
end

section
/-! ## What an iteration leaves (R191, R209, R220, R235)

An iteration without a coding error leaves the task's record, the registers of R220, the trace's record and the staged duties; all
but the last two stand apart from the trace. -/

namespace Sys2Proof.Machine

section
variable (s : State) (c d : Ch) (k : Nat) (st : TaskSt) (err : Int) (held arith : Bool)

-- the registers of an iteration (R220)

theorem State.iterRegs_tasks : (s.iterRegs c k st err held arith).tasks = s.tasks := by
  unfold State.iterRegs
  cases held <;> cases arith <;> rfl

theorem State.iterRegs_axes : (s.iterRegs c k st err held arith).axes = s.axes := by
  unfold State.iterRegs
  cases held <;> cases arith <;> rfl

theorem State.iterRegs_red : (s.iterRegs c k st err held arith).red = s.red := by
  unfold State.iterRegs
  cases held <;> cases arith <;> rfl

/-- A write of one of the task's registers leaves the copies of the other objects. -/
theorem State.setC_taskReg {o : Obj} {j : Nat} (h : o.key ≠ (0x5003 + 4 * k) * 256 + j) (v i : Int) :
    (s.setC c ⟨(0x5003 + 4 * k) * 256 + j, i⟩ v).g d o = s.g d o := State.g_setC_key _ _ _ _ h

/-- The copies outside the registers of the task stay (R220). -/
theorem State.iterRegs_g {o : Obj} (h : o.key / 256 ≠ 0x5003 + 4 * k) : (s.iterRegs c k st err held arith).g d o = s.g d o := by
  have hset {j : Nat} (hj : j < 256) (u : State) (v i : Int) : (u.setC c ⟨(0x5003 + 4 * k) * 256 + j, i⟩ v).g d o = u.g d o :=
    u.setC_taskReg c d k (by omega) v i
  unfold State.iterRegs State.bumpC
  simp only [Obj.lastOutput, Obj.lastError, Obj.intState, Obj.dqStatus, Obj.iterations, Obj.arithSatCount, Obj.holdCount, Obj.feMax,
    Obj.maxExec]
  cases held <;> cases arith <;> simp [hset]

/-- ITERATIONS rises by one (R220). -/
theorem State.iterRegs_iterations :
    (s.iterRegs c k st err held arith).g c (Obj.iterations k) = wrapU32 (s.g c (Obj.iterations k) + 1) := by
  have hset {j : Nat} (hj : j ≠ 5) (u : State) (v i : Int) :
      (u.setC c ⟨(0x5003 + 4 * k) * 256 + j, i⟩ v).g c (Obj.iterations k) = u.g c (Obj.iterations k) :=
    u.setC_taskReg c c k (by simp only [Obj.iterations]; omega) v i
  have hbump {j : Nat} (hj : j ≠ 5) (u : State) (i : Int) :
      (u.bumpC c ⟨(0x5003 + 4 * k) * 256 + j, i⟩).g c (Obj.iterations k) = u.g c (Obj.iterations k) := hset hj ..
  have hcount (u : State) : (u.bumpC c (Obj.iterations k)).g c (Obj.iterations k) = wrapU32 (u.g c (Obj.iterations k) + 1) :=
    State.g_setC_self ..
  unfold State.iterRegs
  dsimp only
  cases held <;> cases arith <;>
    simp [hset, hbump, hcount, Obj.lastOutput, Obj.lastError, Obj.intState, Obj.dqStatus, Obj.arithSatCount, Obj.holdCount,
      Obj.feMax, Obj.maxExec]

/-- HOLD_COUNT rises by one in a held iteration (R220). -/
theorem State.iterRegs_holdCount :
    (s.iterRegs c k st err true arith).g c (Obj.holdCount k) = wrapU32 (s.g c (Obj.holdCount k) + 1) := by
  have hset {j : Nat} (hj : j ≠ 0xA) (u : State) (v i : Int) :
      (u.setC c ⟨(0x5003 + 4 * k) * 256 + j, i⟩ v).g c (Obj.holdCount k) = u.g c (Obj.holdCount k) :=
    u.setC_taskReg c c k (by simp only [Obj.holdCount]; omega) v i
  have hbump {j : Nat} (hj : j ≠ 0xA) (u : State) (i : Int) :
      (u.bumpC c ⟨(0x5003 + 4 * k) * 256 + j, i⟩).g c (Obj.holdCount k) = u.g c (Obj.holdCount k) := hset hj ..
  have hcount (u : State) : (u.bumpC c (Obj.holdCount k)).g c (Obj.holdCount k) = wrapU32 (u.g c (Obj.holdCount k) + 1) :=
    State.g_setC_self ..
  unfold State.iterRegs
  dsimp only
  cases arith <;>
    simp [hset, hbump, hcount, Obj.lastOutput, Obj.intState, Obj.dqStatus, Obj.arithSatCount, Obj.iterations, Obj.maxExec]

end

-- the trace (R223, R226, R227)

section
variable {β : Type} {p : State → β} {k : Nat}

/-- A reading of the state that the trace of task `k` leaves alone. -/
structure OffTrace (p : State → β) (k : Nat) : Prop where
  trace : ∀ s n f, p (State.updTrace s n f) = p s
  free : ∀ s, p (State.useFree s) = p s
  time : ∀ s v, p (State.setR s (Obj.traceTrigTime k) v) = p s
  dropped : ∀ s v, p (State.setR s (Obj.traceDropped k) v) = p s

theorem OffTrace.drainEngine (h : OffTrace p k) (s : State) (c : Ch) (e : Nat) : p (s.drainEngine c e) = p s := by
  have hfifo (l : List Nat) (q : State × Nat) : p (l.foldl State.drainFifo q).1 = p q.1 := by
    induction l generalizing q with
    | nil => rfl
    | cons j l ih => exact (ih _).trans ((h.free _).trans (h.trace ..))
  exact hfifo ..

theorem OffTrace.traceEntry (h : OffTrace p k) (s : State) (e : Nat × List Int) : p (s.traceEntry k e) = p s := by
  unfold State.traceEntry
  extract_lets u x full n cap keep mark
  have hu : p u = p s := by
    simp only [u]
    split
    · exact h.drainEngine ..
    · rfl
  split
  · exact (h.trace ..).trans ((h.dropped ..).trans hu)
  · exact (h.trace ..).trans hu

theorem OffTrace.traceIteration (h : OffTrace p k) (s : State) (start bank engine : Nat) (val : Nat → Int) (event : Bool) :
    p (s.traceIteration k start bank engine val event) = p s := by
  unfold State.traceIteration
  extract_lets x nodes n moved swapped v trig recs fired due entered stepped y
  have hmoved : p moved = p s := by
    simp only [moved]
    split
    · rfl
    · exact h.traceEntry ..
  have hswapped : p swapped = p moved := by
    simp only [swapped]
    split
    · rfl
    · exact h.traceEntry ..
  have hfired : p fired = p swapped := by
    simp only [fired]
    split
    · exact (h.trace ..).trans (h.time ..)
    · rfl
  have hentered : p entered = p fired := by
    simp only [entered]
    split
    · exact h.traceEntry ..
    · rfl
  have hstepped : p stepped = p s := (h.trace ..).trans (hentered.trans (hfired.trans (hswapped.trans hmoved)))
  split
  · rfl
  · split
    · exact (h.trace ..).trans hstepped
    · exact hstepped

theorem OffTrace.tasks : OffTrace (·.tasks) k := ⟨fun _ _ _ => rfl, fun _ => rfl, fun _ _ => rfl, fun _ _ => rfl⟩

theorem OffTrace.axes : OffTrace (·.axes) k := ⟨fun _ _ _ => rfl, fun _ => rfl, fun _ _ => rfl, fun _ _ => rfl⟩

theorem OffTrace.red : OffTrace (·.red) k := ⟨fun _ _ _ => rfl, fun _ => rfl, fun _ _ => rfl, fun _ _ => rfl⟩

theorem OffTrace.copy (c : Ch) {o : Obj} (h : o.key / 256 ≠ 0x5801 + 4 * k) : OffTrace (·.g c o) k :=
  ⟨fun _ _ _ => rfl, fun _ => rfl, fun _ _ => State.g_setR_key _ _ _ (by simp only [Obj.traceTrigTime]; omega),
    fun _ _ => State.g_setR_key _ _ _ (by simp only [Obj.traceDropped]; omega)⟩

end

-- the staged duties (R235)

theorem State.stage_tasks (s : State) (c : Ch) (k : Nat) (l : List Int) : (s.stage c k l).tasks = s.tasks := by
  unfold State.stage
  split
  · split <;> rfl
  · rfl

theorem State.stage_regs (s : State) (c : Ch) (k : Nat) (l : List Int) : (s.stage c k l).regs = s.regs := by
  unfold State.stage
  split
  · split <;> rfl
  · rfl

/-- The slot's own channel stages the duties, in a state in which channels act (R235, R310). -/
theorem State.stage_staged {s : State} {c : Ch} {k b : Nat} (x y z : Int) (h : s.dqSlot k = some (c, b))
    (hup : s.red.state ≠ .startup) (hactive : s.red.state ≠ .passive) :
    ((s.stage c k [x, y, z]).slot c b).staged = some ⟨x, y, z⟩ := by
  unfold State.stage
  rw [h]
  dsimp only
  rw [if_pos ⟨rfl, hup, hactive⟩]
  simp

end Sys2Proof.Machine
end

section
/-! ## Iterations of tasks (O36, O38): an iteration without a coding error -/

namespace Sys2Proof.Machine

/-- The task's state after an iteration with inputs `x` (R208, R209, R214). -/
def State.settled (s : State) (c : Ch) (k : Nat) (x : Inputs) : TaskSt :=
  s.settleSt k (s.taskSt c k) (s.iterOf c k x).1 (s.inputsValid k x) (s.iterOf c k x).2.sat x.start

/-- `u` is what an iteration of task `k` in channel `c` with inputs `x` leaves of `s` when it completes. -/
structure State.Completes (s u : State) (c : Ch) (k : Nat) (x : Inputs) : Prop where
  rel : (u.task k).rel.get c = none
  fin : ∃ d, (u.task k).fin.get c = some d ∧ d.start = x.start ∧ d.fault = false ∧ d.outs = (s.iterOf c k x).1.outs
  st : u.taskSt c k = s.settled c k x
  iterations : u.g c (Obj.iterations k) = wrapU32 (s.g c (Obj.iterations k) + 1)
  holds : s.inputsValid k x = false → u.g c (Obj.holdCount k) = wrapU32 (s.g c (Obj.holdCount k) + 1)
  stages : ∀ b p q r, s.isDq k = true → s.ungated c k = true → s.dqSlot k = some (c, b) →
    (s.iterOf c k x).1.outs = [p, q, r] → s.red.state ≠ .startup → s.red.state ≠ .passive →
    (u.slot c b).staged = some ⟨p, q, r⟩

/-- Two states in which the same outputs are staged at once: the configuration and the owner of task `k`, and the redundancy
(R235, R251, R311). -/
structure State.SameGate (u s : State) (k : Nat) : Prop where
  type : u.v (Obj.taskType k) = s.v (Obj.taskType k)
  axis : u.v (Obj.taskAxis k) = s.v (Obj.taskAxis k)
  bridge : ∀ n < 32, u.v (Obj.axBridge n) = s.v (Obj.axBridge n)
  owner : (u.task k).owner = (s.task k).owner
  ho : (u.task k).ho = (s.task k).ho
  axes : u.axes = s.axes
  red : u.red = s.red

section
variable {s u : State} {k : Nat}

theorem State.SameGate.isDq (h : u.SameGate s k) : u.isDq k = s.isDq k := by
  rw [State.isDq, State.taskTy, State.vn, h.type, State.isDq, State.taskTy, State.vn]

theorem State.SameGate.taskAxis (h : u.SameGate s k) : u.taskAxis k = s.taskAxis k := by
  rw [State.taskAxis, State.vn, h.axis, State.taskAxis, State.vn]

theorem State.SameGate.dqSlot (h : u.SameGate s k) : u.dqSlot k = s.dqSlot k := by
  unfold State.dqSlot
  rw [h.taskAxis]
  split
  next n hn =>
    have hlt : n < 32 := by
      unfold State.taskAxis at hn
      simp only [Option.ite_none_right_eq_some, Option.some.injEq] at hn
      omega
    rw [State.bridgeOf, h.bridge n hlt, State.bridgeOf]
  · rfl

theorem State.SameGate.ungated (h : u.SameGate s k) (c : Ch) : u.ungated c k = s.ungated c k := by
  have haxis (n : Nat) : u.axis n = s.axis n := by rw [State.axis, h.axes, State.axis]
  simp only [State.ungated, State.isSplit, h.owner, h.ho, h.red, h.taskAxis, haxis]

end

section
variable {s u : State} {c : Ch} {k : Nat} {x : Inputs} {errs : List Int}

/-- An iteration in whose eddy pass no error shows completes (R191, R297). -/
theorem State.iterate_completes (h : eddyFault (s.iterOf c k x).2.points.reverse errs = false) :
    s.Completes (s.iterate c k x errs) c k x := by
  unfold State.iterate
  extract_lets e began power run found valid it i left sig done settled wrote status val traced
  have hclean : ¬ eddyFault it.2.points.reverse errs = true := fun ht => absurd (h.symm.trans ht) Bool.false_ne_true
  rw [if_neg hclean]
  have htraced {β : Type} {p : State → β} (hp : OffTrace p k) : p traced = p wrote := by
    simp only [traced]
    split
    · exact hp.traceIteration ..
    · rfl
  have hcopy (d : Ch) {o : Obj} (ht : o.key / 256 ≠ 0x5801 + 4 * k) (hr : o.key / 256 ≠ 0x5003 + 4 * k) :
      traced.g d o = s.g d o := (htraced (.copy d ht)).trans (State.iterRegs_g _ _ _ _ _ _ _ _ hr)
  have hvalue {o : Obj} (ht : o.key / 256 ≠ 0x5801 + 4 * k) (hr : o.key / 256 ≠ 0x5003 + 4 * k) : traced.v o = s.v o :=
    State.v_eq_of_g_eq fun d => hcopy d ht hr
  have htask : traced.task k = settled.task k := by
    rw [State.task, htraced .tasks, State.iterRegs_tasks, ← State.task]
  have hgate : traced.SameGate s k := by
    refine ⟨hvalue ?_ ?_, hvalue ?_ ?_, fun n hn => hvalue ?_ ?_, ?_, ?_, ?_, ?_⟩
    case refine_7 => exact congrArg (·.owner) (htask.trans (State.task_updTask_self ..))
    case refine_8 => exact congrArg (·.ho) (htask.trans (State.task_updTask_self ..))
    case refine_9 => exact (htraced .axes).trans (State.iterRegs_axes ..)
    case refine_10 => exact (htraced .red).trans (State.iterRegs_red ..)
    all_goals
      simp only [Obj.taskType, Obj.taskAxis, Obj.axBridge]
      omega
  have hfinal (w : State) (htasks : w.tasks = traced.tasks) (hregs : w.regs = traced.regs)
      (hstages : ∀ b p q r, s.isDq k = true → s.ungated c k = true → s.dqSlot k = some (c, b) → i.outs = [p, q, r] →
        s.red.state ≠ .startup → s.red.state ≠ .passive → (w.slot c b).staged = some ⟨p, q, r⟩) :
      s.Completes w c k x := by
    have hrecord : w.task k = settled.task k := by rw [State.task, htasks, ← State.task, htask]
    have hiterations : traced.g c (Obj.iterations k) = wrote.g c (Obj.iterations k) :=
      htraced (.copy c (by simp only [Obj.iterations]; omega))
    have hholds : traced.g c (Obj.holdCount k) = wrote.g c (Obj.holdCount k) :=
      htraced (.copy c (by simp only [Obj.holdCount]; omega))
    rw [State.task_updTask_self] at hrecord
    refine ⟨?rel, ⟨done, ?fin, rfl, rfl, rfl⟩, ?state, ?iterations, fun hinvalid => ?holds, hstages⟩
    case rel => rw [hrecord, Trio.get_set_self]
    case fin => rw [hrecord, Trio.get_set_self]
    case state =>
      rw [State.taskSt, hrecord, Trio.get_set_self]
      rfl
    case iterations => rw [State.g_congr hregs, hiterations, State.iterRegs_iterations]; rfl
    case holds =>
      rw [State.g_congr hregs, hholds]
      have hvalid : valid = false := hinvalid
      simp only [wrote, hvalid]
      exact State.iterRegs_holdCount ..
  split
  next hopen =>
    refine hfinal _ (State.stage_tasks ..) (State.stage_regs ..) fun b p q r _ _ hslot houts hup hactive => ?_
    rw [houts]
    exact State.stage_staged p q r (hgate.dqSlot.trans hslot) (by rwa [hgate.red]) (by rwa [hgate.red])
  next hgated =>
    refine hfinal _ rfl rfl fun b p q r hdq hopen => absurd ?_ hgated
    rw [hgate.isDq, hgate.ungated, hdq, hopen]
    rfl

-- the frame of the two commands

/-- The conditions under which a released iteration runs to its end (R191, R192). -/
theorem State.runIteration_runs (hrel : (s.task k).rel.get c = some x) (hiter : s.iterates k = true ∨ s.finishing k = true)
    (hruns : s.runsIn k c = true) (hend : s.mayEnd c k = true) : s.runIteration c k errs = s.iterate c k x errs := by
  unfold State.runIteration
  rw [hrel]
  exact if_pos (by simp [hiter, hruns, hend])

/-- Without one of these conditions nothing changes. -/
theorem State.runIteration_idle (h : (s.task k).rel.get c = none ∨ (s.iterates k = false ∧ s.finishing k = false) ∨
    s.runsIn k c = false ∨ s.mayEnd c k = false) : s.runIteration c k errs = s := by
  unfold State.runIteration
  split
  next x hx =>
    refine if_neg fun hall => ?_
    simp only [Bool.and_eq_true, Bool.or_eq_true] at hall
    obtain ⟨⟨hiter, hruns⟩, hend⟩ := hall
    rcases h with h | ⟨hiterates, hfinishing⟩ | h | h
    · simp [hx] at h
    · simp [hiterates, hfinishing] at hiter
    · simp [h] at hruns
    · simp [h] at hend
  · rfl

/-- An iteration without errors of the accumulator shows none where its computation is clean (R296, R297). -/
theorem State.iterOf_valid {Q : Iter → Prop} (hvalid : s.inputsValid k x = true)
    (h : Ar.Yields (s.validIter k (s.foundSt c k) x) Q) :
    eddyFault (s.iterOf c k x).2.points.reverse [] = false ∧ Q (s.iterOf c k x).1 := by
  rw [State.iterOf, if_pos hvalid]
  exact ⟨(h.clean _ Pass.clean_empty).no_fault, h.result _ Pass.clean_empty⟩

theorem State.iterOf_invalid (hinvalid : s.inputsValid k x = false) : eddyFault (s.iterOf c k x).2.points.reverse [] = false ∧
    (s.iterOf c k x).1.outs =
      (if s.isDq k then [(s.foundSt c k).duty.a, (s.foundSt c k).duty.b, (s.foundSt c k).duty.c] else [(s.foundSt c k).uLast]) ∧
    (s.iterOf c k x).1.st.heldRun = (s.foundSt c k).heldRun := by
  have h := heldIter_yields (s.isDq k) (s.dqCfg k) (s.loopCfg k (s.foundSt c k).bank) (s.foundSt c k) x
  rw [State.iterOf, if_neg (by simp [hinvalid])]
  exact ⟨(h.clean _ Pass.clean_empty).no_fault, h.result _ Pass.clean_empty⟩

end

end Sys2Proof.Machine
end

section
/-! ## Engine faults leave no result that is not marked faulty (R298, R349) -/

namespace Sys2Proof.Machine

/-- What channel `c` holds of an iteration of task `k`, released or completed, and the engines that are faulty. -/
def State.iterView (s : State) (k : Nat) (c : Ch) : Option Inputs × Option Done × Trio Nat :=
  ((s.task k).rel.get c, (s.task k).fin.get c, s.red.engineFault)

section
variable {s u : State} (k : Nat) (c : Ch)

theorem State.iterView_congr (ht : u.tasks = s.tasks) (hr : u.red.engineFault = s.red.engineFault) :
    u.iterView k c = s.iterView k c := by
  rw [State.iterView, State.task, ht, hr, ← State.task, State.iterView]

/-- A change of a task that leaves what it has released and completed. -/
theorem State.iterView_updTask (j : Nat) {f : TaskRec → TaskRec} (hf : ∀ r, (f r).rel = r.rel ∧ (f r).fin = r.fin) :
    (s.updTask j f).iterView k c = s.iterView k c := by
  by_cases hkj : k = j
  · obtain ⟨hrel, hfin⟩ := hf (s.task k)
    rw [State.iterView, ← hkj, State.task_updTask_self, hrel, hfin]
    rfl
  · rw [State.iterView, State.task_updTask_ne _ _ hkj]
    rfl

end

section
variable (s : State) (k j : Nat) (c d : Ch) (e : Nat)

theorem State.iterView_startTask : (s.startTask j).iterView k c = s.iterView k c := by
  have htasks : Apart (·.tasks) := ⟨fun _ _ _ => rfl, fun _ _ _ => rfl, fun _ _ _ => rfl, fun _ _ => rfl⟩
  have hred : Apart (·.red) := ⟨fun _ _ _ => rfl, fun _ _ _ => rfl, fun _ _ _ => rfl, fun _ _ => rfl⟩
  have hgen (u : State) (n : Nat) : (u.genRestart n).iterView k c = u.iterView k c := by
    unfold State.genRestart
    extract_lets v w
    split
    · rfl
    · split
      · exact State.iterView_congr k c (by simp only [htasks.releadGroup, w, State.updGroup_tasks, State.updGen_tasks])
          (by simp only [hred.releadGroup, w, State.updGroup_red, State.updGen_red])
      · exact State.iterView_congr k c (by simp only [w, State.updGen_tasks]) (by simp only [w, State.updGen_red])
  have hfirst : (s.firstUse j).iterView k c = s.iterView k c := State.iterView_updTask k c j fun _ => ⟨rfl, rfl⟩
  unfold State.startTask
  split
  · exact (hgen ..).trans hfirst
  · exact hfirst

theorem State.iterView_deliver (m : StrapMsg) : (s.deliver m).iterView k c = s.iterView k c := by
  obtain ⟨src, dst, cls, at_, due, body⟩ := m
  cases body with
  | copy j st outs =>
    have hcopy : (((s.updStream j fun x => { x with reseed := x.reseed.set dst false })).updTask j fun r =>
        { r with st := r.st.set dst st, out := r.out.set dst outs }).iterView k c = s.iterView k c :=
      State.iterView_updTask k c j fun _ => ⟨rfl, rfl⟩
    unfold State.deliver
    dsimp only
    repeat' split
    · rfl
    all_goals exact hcopy
  | samples => rfl
  | latch => rfl
  | trip => rfl
  | output => rfl
  | site => rfl
  | plan => rfl

theorem State.iterView_sendCopy : (s.sendCopy d c j).iterView k c = s.iterView k c := by
  have hsettle : s.settleStraps.iterView k c = s.iterView k c :=
    forEach_eq (·.iterView k c) State.deliver (fun u m => u.iterView_deliver k c m) _ _
  exact hsettle

theorem State.iterView_abortTurn : (s.abortTurn d).iterView k c = s.iterView k c := by
  have hturn (u : State) (n : Nat) : (u.nextTurn d n).iterView k c = u.iterView k c := by
    unfold State.nextTurn
    dsimp only
    repeat' split
    all_goals rfl
  unfold State.abortTurn
  split
  · rfl
  · exact hturn ..

theorem State.iterView_dropMove : (s.dropMove j).iterView k c = s.iterView k c := by
  unfold State.dropMove
  refine (forEach_eq (·.iterView k c) _ (fun u d => ?_) _ _).trans (State.iterView_updTask k c j fun _ => ⟨rfl, rfl⟩)
  split
  · exact State.iterView_abortTurn ..
  · rfl

theorem State.iterView_serve : (s.serve d e).iterView k c = s.iterView k c := by
  unfold State.serve
  dsimp only
  split
  · exact State.iterView_abortTurn ..
  · rfl

end

/-- Nothing released, and no completed result that is not marked faulty, is left of task `k` in channel `c`; the faulty engines
are those of `m`. -/
structure State.Discards (u : State) (k : Nat) (c : Ch) (m : Trio Nat) : Prop where
  rel : (u.task k).rel.get c = none
  fin : ∀ d, (u.task k).fin.get c = some d → d.fault = true
  engines : u.red.engineFault = m

section
variable {s u : State} {k j : Nat} {c : Ch} {m : Trio Nat}

theorem State.Discards.of_eq (h : s.Discards k c m) (heq : u.iterView k c = s.iterView k c) : u.Discards k c m := by
  obtain ⟨hrel, hrest⟩ := Prod.mk.inj heq
  obtain ⟨hfin, hengines⟩ := Prod.mk.inj hrest
  exact ⟨hrel.trans h.rel, fun d hd => h.fin d (hfin ▸ hd), hengines.trans h.engines⟩

/-- A change of a task that leaves nothing released in channel `c`, and no result there that is not marked faulty. -/
theorem State.Discards.updTask (h : s.Discards k c m) {f : TaskRec → TaskRec}
    (hf : ∀ r, (f r).rel.get c = none ∧ ∀ d, (f r).fin.get c = some d → d.fault = true) :
    (s.updTask j f).Discards k c m := by
  by_cases hkj : k = j
  · have htask : (s.updTask j f).task k = f (s.task k) := by rw [← hkj, State.task_updTask_self]
    obtain ⟨hrel, hfin⟩ := hf (s.task k)
    exact ⟨by rwa [htask], by rwa [htask], h.engines⟩
  · have htask := s.task_updTask_ne f hkj
    exact ⟨by rw [htask, h.rel], by rw [htask]; exact h.fin, h.engines⟩

/-- A fallback move in the channel discards what the task had there (R349). -/
theorem State.Discards.fallbackMove (h : s.Discards k c m) (e : Nat) : (s.fallbackMove c e j).Discards k c m := by
  have hstart {u : State} (hu : u.Discards k c m) : (u.startTask j).Discards k c m := hu.of_eq (State.iterView_startTask ..)
  unfold State.fallbackMove
  extract_lets planned tab mv dest lone discarded
  clear_value dest
  split
  next =>
    have hdiscarded : discarded.Discards k c m :=
      h.updTask fun r => ⟨Trio.get_set_self .., fun d hd => by simp [Trio.get_set_self] at hd⟩
    split
    · exact hstart hdiscarded
    · exact hdiscarded
  next f =>
    have hserved : ((s.limitTraces j c f).serve c f).Discards k c m := by
      refine h.of_eq ((State.iterView_serve ..).trans ?_)
      unfold State.limitTraces
      split <;> rfl
    extract_lets served moved started copied
    have hmoved : moved.Discards k c m := hserved.updTask fun r => ⟨Trio.get_set_self .., fun d hd => by
      rw [Trio.get_set_self, Option.some.injEq] at hd
      rw [← hd]⟩
    have hstarted : started.Discards k c m := by
      simp only [started]
      split
      · exact hstart hmoved
      · exact hmoved.of_eq rfl
    have hcopied : copied.Discards k c m := by
      simp only [copied]
      split
      · exact hstarted.of_eq (State.iterView_sendCopy ..)
      · exact hstarted
    exact hcopied.of_eq rfl

end

/-- A power of two that a map lacks, added, sets its bit. -/
theorem bit_add_two_pow {m e : Nat} (h : bit (m : Int) e = false) : bit ((m + 2 ^ e : Nat) : Int) e = true := by
  have hset := bit_withBit_self (m : Int) e true
  rw [withBit, h, if_neg Bool.false_ne_true, if_pos rfl] at hset
  exact_mod_cast hset

/-- Where nothing of task `k` but results marked faulty is left in channel `c`, an engine fault there leaves it so, and the engine
faulty (R298, R349). -/
theorem State.engineFault_discards {s : State} {k : Nat} {c : Ch} {e : Nat} (kind : Nat) (h : s.Discards k c s.red.engineFault)
    (hsound : bit (s.red.engineFault.get c : Int) e = false) :
    (s.engineFault c e kind).Discards k c (s.red.engineFault.upd c fun m => m + 2 ^ e) := by
  unfold State.engineFault
  rw [if_neg (by simp [hsound])]
  extract_lets runs red faulty mapped counted logged stayed reported dropped moved
  have hfaulty : faulty.Discards k c (s.red.engineFault.upd c fun m => m + 2 ^ e) := ⟨h.rel, h.fin, rfl⟩
  have hreported : reported.Discards k c (s.red.engineFault.upd c fun m => m + 2 ^ e) :=
    hfaulty.of_eq (State.iterView_congr k c (by simp [reported, stayed, logged, counted, mapped])
      (by simp [reported, stayed, logged, counted, mapped]))
  have hdropped : dropped.Discards k c (s.red.engineFault.upd c fun m => m + 2 ^ e) :=
    hreported.of_eq (forEach_eq (·.iterView k c) State.dropMove (fun u j => State.iterView_dropMove u k j c) _ _)
  have hmoved : moved.Discards k c (s.red.engineFault.upd c fun m => m + 2 ^ e) :=
    List.foldlRecOn runs (fun (u : State) j => u.fallbackMove c e j)
      (motive := fun u : State => u.Discards k c (s.red.engineFault.upd c fun m => m + 2 ^ e)) hdropped
      fun u hu j _ => hu.fallbackMove e
  exact hmoved.of_eq (State.iterView_congr k c (by simp) (by simp))

section

end

end Sys2Proof.Machine
end

section
/-! ## Iterations of tasks that are no dq pairs, and of dq pairs (O36, O38) -/

namespace Sys2Proof.Machine

section
variable {s : State} {c : Ch} {k : Nat} {x : Inputs} {errs : List Int}

/-- Where an iteration's errors show, no result is left that is not marked faulty, and the engine is faulty (R297, R298). -/
theorem State.iterate_fault (h : eddyFault (s.iterOf c k x).2.points.reverse errs = true) (hruns : s.runsIn k c = true) :
    ((s.iterate c k x errs).task k).rel.get c = none ∧
      (∀ d, ((s.iterate c k x errs).task k).fin.get c = some d → d.fault = true) ∧
      bit ((s.iterate c k x errs).red.engineFault.get c : Int) ((s.task k).engines.get c) = true := by
  have hsound : bit (s.red.engineFault.get c : Int) ((s.task k).engines.get c) = false := by
    simp only [State.runsIn, Bool.and_eq_true, Bool.not_eq_true'] at hruns
    exact hruns.1.2
  unfold State.iterate
  extract_lets e began power run found valid it i
  have hfault : eddyFault it.2.points.reverse errs = true := h
  rw [if_pos hfault]
  have hdiscards := State.engineFault_discards (s := run.updTask k fun r =>
    { r with rel := r.rel.set c none, fin := r.fin.set c (some { start := x.start, fault := true }) }) (k := k) (c := c) (e := e) 0
    ⟨by rw [State.task_updTask_self, Trio.get_set_self], fun d hd => by
      rw [State.task_updTask_self, Trio.get_set_self, Option.some.injEq] at hd
      rw [← hd], rfl⟩ hsound
  refine ⟨hdiscards.rel, hdiscards.fin, ?_⟩
  rw [hdiscards.engines, Trio.get_upd_self]
  exact bit_add_two_pow hsound

-- the task's state after an iteration (R208, R209)

/-- The supervision of the error leaves the held state and the first-use mark (R214). -/
theorem superviseFe_marks (limit e : Int) (start : Nat) (st : TaskSt) : (superviseFe limit e start st).hold = st.hold ∧
    (superviseFe limit e start st).heldRun = st.heldRun ∧ (superviseFe limit e start st).first = st.first := by
  unfold superviseFe
  split
  · exact ⟨rfl, rfl, rfl⟩
  · split <;> exact ⟨rfl, rfl, rfl⟩

/-- After an iteration with valid inputs the task neither holds nor is in first use (R208, R209). -/
theorem State.settled_valid (h : s.inputsValid k x = true) : (s.settled c k x).hold = false ∧ (s.settled c k x).heldRun = 0 ∧
    (s.settled c k x).first = false := by
  unfold State.settled State.settleSt
  rw [h]
  dsimp only
  split
  · exact superviseFe_marks ..
  · exact ⟨rfl, rfl, rfl⟩

/-- After an iteration with invalid inputs the task holds, one iteration longer, and its first-use mark is as it was (R209). -/
theorem State.settled_invalid (h : s.inputsValid k x = false) : (s.settled c k x).hold = true ∧
    (s.settled c k x).heldRun = (s.iterOf c k x).1.st.heldRun + 1 ∧ (s.settled c k x).first = (s.taskSt c k).first := by
  unfold State.settled State.settleSt
  rw [h]
  exact ⟨rfl, rfl, rfl⟩

/-- A released iteration that has run to its end, without a coding error, completes (R191, R297). -/
theorem State.runIteration_completes (hrel : (s.task k).rel.get c = some x) (hiter : s.iterates k = true ∨ s.finishing k = true)
    (hruns : s.runsIn k c = true) (hend : s.mayEnd c k = true) (hclean : eddyFault (s.iterOf c k x).2.points.reverse errs = false) :
    s.Completes (s.runIteration c k errs) c k x := by
  rw [State.runIteration_runs hrel hiter hruns hend]
  exact State.iterate_completes hclean

/-- One in which an error shows leaves no result that is not marked faulty, and its engine faulty (R297, R298). -/
theorem State.runIteration_fault (hrel : (s.task k).rel.get c = some x) (hiter : s.iterates k = true ∨ s.finishing k = true)
    (hruns : s.runsIn k c = true) (hend : s.mayEnd c k = true) (hfault : eddyFault (s.iterOf c k x).2.points.reverse errs = true) :
    ((s.runIteration c k errs).task k).rel.get c = none ∧
      (∀ d, ((s.runIteration c k errs).task k).fin.get c = some d → d.fault = true) ∧
      bit ((s.runIteration c k errs).red.engineFault.get c : Int) ((s.task k).engines.get c) = true := by
  rw [State.runIteration_runs hrel hiter hruns hend]
  exact State.iterate_fault hfault hruns

/-- The computation of an iteration is clean; with valid inputs each output lies within the bounds of the bank in use, with invalid
ones the output is the last one (R195, R209). -/
theorem State.iterOf_loop (h : s.isDq k = false) : eddyFault (s.iterOf c k x).2.points.reverse [] = false ∧
    (x.valid = true → (s.iterOf c k x).1.WithinBank (s.loopCfg k (s.taskSt c k).bank)) ∧
    (x.valid = false → (s.iterOf c k x).1.outs = [(s.taskSt c k).uLast] ∧
      (s.iterOf c k x).1.st.heldRun = (s.taskSt c k).heldRun) := by
  have hvalid : s.inputsValid k x = x.valid := if_neg (by simp [h])
  have hfound : s.foundSt c k = s.taskSt c k := if_neg (by simp [h])
  cases hx : x.valid with
  | true =>
    obtain ⟨hclean, hbounds⟩ := State.iterOf_valid (c := c) (hvalid.trans hx) (State.validIter_loop s k _ x h)
    rw [hfound] at hbounds
    exact ⟨hclean, fun _ => hbounds, fun hno => absurd hno (by decide)⟩
  | false =>
    obtain ⟨hclean, houts, hrun⟩ := State.iterOf_invalid (c := c) (hvalid.trans hx)
    rw [hfound] at houts hrun
    exact ⟨hclean, fun hno => absurd hno (by decide), fun _ => ⟨houts.trans (if_neg (by simp [h])), hrun⟩⟩

/-- The computation of an iteration of a dq pair is clean, and forms three duties: with valid inputs each within 1 − DUTY_MAX and
DUTY_MAX, with invalid ones the last ones (R209, R241, R243). -/
theorem State.iterOf_dq (h : s.isDq k = true) : eddyFault (s.iterOf c k x).2.points.reverse [] = false ∧
    (∃ p q r, (s.iterOf c k x).1.outs = [p, q, r]) ∧
    (s.inputsValid k x = true → (s.iterOf c k x).1.HasDuties (s.dqCfg k)) ∧
    (s.inputsValid k x = false →
      (s.iterOf c k x).1.outs = [(s.taskSt c k).duty.a, (s.taskSt c k).duty.b, (s.taskSt c k).duty.c]) := by
  have hduty : (s.foundSt c k).duty = (s.taskSt c k).duty := by
    unfold State.foundSt
    dsimp only
    split <;> rfl
  cases hx : s.inputsValid k x with
  | true =>
    obtain ⟨hclean, hduties⟩ := State.iterOf_valid (c := c) hx (State.validIter_dq s k _ x h)
    obtain ⟨p, q, r, houts, hbounds⟩ := hduties
    exact ⟨hclean, ⟨p, q, r, houts⟩, fun _ => ⟨p, q, r, houts, hbounds⟩, fun hno => absurd hno (by decide)⟩
  | false =>
    obtain ⟨hclean, houts, -⟩ := State.iterOf_invalid (c := c) hx
    rw [hduty, if_pos h] at houts
    exact ⟨hclean, ⟨_, _, _, houts⟩, fun hno => absurd hno (by decide), fun _ => houts⟩

-- the frame of the two commands

variable {t : Nat} {j : Fin 512}

/-- TASK_ITERATION runs the iteration of a task that is no dq pair (R191). -/
theorem State.exec_taskIteration : exec (.taskIteration t c j errs) s =
    .next (s.after t (if s.isDq j then s.upTo t else (s.upTo t).runIteration c j errs)) := rfl

theorem State.exec_taskIteration_loop (h : s.isDq j = false) :
    exec (.taskIteration t c j errs) s = .next (s.after t ((s.upTo t).runIteration c j errs)) := by
  rw [State.exec_taskIteration, if_neg (by simp [h])]

/-- DQ_ITERATION runs the iteration of a dq pair (R243). -/
theorem State.exec_dqIteration : exec (.dqIteration t c j errs) s =
    .next (s.after t (if s.isDq j then (s.upTo t).runIteration c j errs else s.upTo t)) := rfl

theorem State.exec_dqIteration_dq (h : s.isDq j = true) :
    exec (.dqIteration t c j errs) s = .next (s.after t ((s.upTo t).runIteration c j errs)) := by
  rw [State.exec_dqIteration, if_pos h]

end

/-- Settles O36: a clean computation completes (`State.iterate_completes`) with outputs that its last shift point bounds
(`State.validIter_loop`); an error that shows makes the engine faulty (`State.engineFault_discards`). -/
theorem iterationsRun : Obligations.IterationsRun := by
  refine ⟨fun t c k x s hloop hrel hiter hruns hend => ⟨?completes, fun errs hfault => ?fault⟩, fun t c k errs s h => ?idle,
    fun l i errs hi herr => eddyFault_of_residue hi herr⟩
  case completes =>
    obtain ⟨hclean, hbounds, hlast⟩ := State.iterOf_loop (s := s.upTo t) (c := c) (x := x) hloop
    have hdone := State.runIteration_completes (s := s.upTo t) hrel hiter hruns hend hclean
    have hvalid : (s.upTo t).inputsValid k x = x.valid := if_neg (by simp [hloop])
    obtain ⟨d, hfin, hstart, hsound, houts⟩ := hdone.fin
    refine ⟨_, d, State.exec_taskIteration_loop hloop, hdone.rel, hfin, hstart, hsound, hdone.iterations,
      fun hx hle => ?_, fun hx => ?_⟩
    · rw [hdone.st, houts]
      exact ⟨fun o ho => hbounds hx o ho hle, State.settled_valid (hvalid.trans hx)⟩
    · obtain ⟨hhold, hrun, hfirst⟩ := State.settled_invalid (c := c) (hvalid.trans hx)
      rw [hdone.st, houts]
      exact ⟨(hlast hx).1, hhold, hrun.trans (congrArg (· + 1) (hlast hx).2), hfirst, hdone.holds (hvalid.trans hx)⟩
  case fault =>
    exact ⟨_, State.exec_taskIteration_loop hloop, State.runIteration_fault (s := s.upTo t) hrel hiter hruns hend hfault⟩
  case idle =>
    rw [State.exec_taskIteration]
    split
    · rfl
    next hdq => rw [State.runIteration_idle (s := s.upTo t) (h.resolve_left hdq)]

/-- Settles O38: as `iterationsRun`, with the three duties that the modulation bounds (`dqModulate_yields`); nothing between the
computation and the staging changes what the staging reads (`State.SameGate`). -/
theorem currentLoopsRun : Obligations.CurrentLoopsRun := by
  refine ⟨fun t b c d k x s hdq hslot hrel hiter hruns hend => ⟨?completes, fun errs hfault => ?fault⟩,
    fun t c k errs s h => ?idle⟩
  case completes =>
    obtain ⟨hclean, ⟨p, q, r, hduties⟩, hbounds, hlast⟩ := State.iterOf_dq (s := s.upTo t) (c := c) (x := x) hdq
    have hdone := State.runIteration_completes (s := s.upTo t) hrel hiter hruns hend hclean
    have hmax : ((s.upTo t).dqCfg k).dutyMax = s.g d (Obj.dutyMax d b) := by
      have hslot' : (s.upTo t).dqSlot k = some (d, b) := hslot
      unfold State.dqCfg
      rw [hslot']
      rfl
    obtain ⟨f, hfin, hstart, hsound, houts⟩ := hdone.fin
    refine ⟨_, f, p, q, r, State.exec_dqIteration_dq hdq, hdone.rel, hfin, hstart, hsound, houts.trans hduties,
      hdone.iterations, fun hx hhalf => ?_, fun hx => ?_, fun hopen hown hup hactive => ?_⟩
    · obtain ⟨-, -, -, -, hwithin⟩ := hbounds hx
      rw [hmax] at hwithin
      rw [hdone.st, houts]
      exact ⟨fun o ho => hwithin o ho (by omega), (State.settled_valid hx).1⟩
    · rw [hdone.st, houts]
      exact ⟨hlast hx, (State.settled_invalid hx).1, hdone.holds hx⟩
    · rw [← hown] at hslot ⊢
      exact hdone.stages b p q r hdq hopen hslot hduties hup hactive
  case fault =>
    exact ⟨_, State.exec_dqIteration_dq hdq, State.runIteration_fault (s := s.upTo t) hrel hiter hruns hend hfault⟩
  case idle =>
    rw [State.exec_dqIteration]
    split
    next hdq => rw [State.runIteration_idle (s := s.upTo t) (h.resolve_left (by simp [hdq]))]
    · rfl

end Sys2Proof.Machine
end
